-- ==== Sys2Proof/Word.lean ====
section
/-! DEFINITION. The word types of the PX-960 (00_scope.md, "Numbers, bits and units"): bytes, 16, 32 and
64-bit words. Binary32 and binary64 values are kept as their bit patterns. -/

namespace Sys2Proof

abbrev Byte := BitVec 8
abbrev W16 := BitVec 16
abbrev W32 := BitVec 32
abbrev W64 := BitVec 64
/-- A binary32 value as its IEEE 754 bit pattern (R191, R282). -/
abbrev F32 := BitVec 32
/-- A binary64 value as its IEEE 754 bit pattern (R191, R339). -/
abbrev F64 := BitVec 64

end Sys2Proof
end

