-- ==== Sys2Proof/Types.lean ====
section
/-! DEFINITION. The kinds of operand a command carries: masters, key positions, frames and notices. -/

namespace Sys2Proof

/-- The three masters of the register bus (R123); a host access belongs to one SMP session. -/
inductive Master where
  | mgmt
  | host (sid : Nat)
  | seq
  deriving DecidableEq, Repr

/-- Key positions (R85); `unset` is SYS_STATE's "none yet". -/
inductive Key where
  | unset
  | stop
  | prog
  | run
  deriving DecidableEq, Repr

/-- Host roles, ascending (R15, R433); `anon` is a session of an UNOWNED module, which has no role (R431). -/
inductive Role where
  | anon
  | viewer
  | operator
  | engineer
  | owner
  deriving DecidableEq, Repr

/-- A CAN or CAN FD frame as it stands on a bus (R392, R407). -/
structure CanFrame where
  ide : Bool
  ident : Nat
  rtr : Bool
  fdf : Bool
  brs : Bool
  esi : Bool
  dlc : Nat
  data : List Byte
  deriving DecidableEq, Repr

/-- How a transmit attempt ended (R396, R397, R399, R403). `ackErr dom` is an acknowledgement error, with `dom`
telling whether a dominant bit followed it (R400). -/
inductive TxEnd where
  | sent
  | lostArbitration
  | ackErr (dom : Bool)
  | clash
  | arbStuffErr
  | otherErr
  deriving DecidableEq, Repr

/-- How an Ethernet frame came in (R423, R424): the port, E1 or E2, the sender's MAC address, and the sequence number of its
redundancy trailer, if it carries one. -/
structure EthRx where
  e2 : Bool
  mac : Nat
  seq : Option Nat
  deriving DecidableEq, Repr

/-- What a PTP Announce tells of its sender (R426; IEEE 1588's default data set), and its announce interval in ticks. -/
structure Announce where
  domain : Nat
  udp : Bool
  prio1 : Nat
  clkClass : Nat
  accuracy : Nat
  variance : Nat
  prio2 : Nat
  gm : W64
  steps : Nat
  sender : Nat
  every : Nat
  deriving DecidableEq, Repr

/-- One HART modem: AI modem m serves AI m, m + 8 and m + 16; each AO channel has its own (R365). -/
inductive Modem where
  | ai (m : Nat)
  | ao (n : Nat)
  deriving DecidableEq, Repr

/-- The payload of a HELLO (R485). -/
structure Hello where
  member : Nat
  state : Nat
  key : Nat
  flevel : Nat
  inStep : Bool
  eligible : Bool
  owning : Bool
  olc : Nat
  swapFail : Bool
  refOk : Bool
  staged : Bool
  h : Nat
  hofs : Nat
  dwell : Nat
  txTick : Nat
  echo : Nat
  digest : List Byte
  stageDigest : List Byte
  deriving DecidableEq, Repr

/-- The payload of a STATUS on the referee bus (R494). -/
structure StatusMsg where
  member : Nat
  state : Nat
  key : Nat
  healthy : Bool
  eligible : Bool
  inStep : Bool
  linkOk : Bool
  req : Bool
  relinq : Bool
  safe : Bool
  h : Nat
  digest8 : List Byte
  round : Nat
  deriving DecidableEq, Repr

/-- The payload of a ROUND (R494). -/
structure RoundMsg where
  round : Nat
  owner : Nat
  verdictA : Nat
  verdictB : Nat
  deriving DecidableEq, Repr

/-- The shadowed fields of one safety connection (R491, SAFETY). -/
structure UslShadow where
  conn : Nat
  state : Nat
  seq : Nat
  reintRdy : Bool
  wdH : Nat
  wdOfs : Nat
  deriving DecidableEq, Repr

/-- The shadowed fields of one remote station (R491, STATION): channel 0 to 3 for CAN, 4 for Ethernet. -/
structure StationShadow where
  ch : Nat
  addr : Nat
  link : Nat
  missed : Nat
  undelivered : Nat
  deriving DecidableEq, Repr

/-- The shadowed fields of one loop context (R491, REG): all 64 coefficient words as they stand. -/
structure LoopShadow where
  ctx : Nat
  modeReq : Nat
  man : F32
  activeSet : Nat
  banks : List F32
  deriving DecidableEq, Repr

/-- The shadowed fields of one milestone slot (R491, REG). -/
structure MsShadow where
  num : Nat
  arm : Bool
  rep : Bool
  dirsel : Nat
  latepol : Bool
  endmode : Bool
  tgt : Nat
  endv : Nat
  win : Nat
  ct : Nat
  deriving DecidableEq, Repr

/-- The shadowed fields of one solver problem (R491, SOLVER). -/
structure SlvShadow where
  prob : Nat
  x : List F64
  sig : List Byte
  harvest : Nat
  age : Nat
  lasts : List (Nat × Nat × F64)
  deriving DecidableEq, Repr

/-- A SHADOW frame (R491). -/
inductive Shadow where
  | safety (h : Nat) (conns : List UslShadow)
  | station (h : Nat) (sts : List StationShadow)
  | reg (loops : List LoopShadow) (slots : List MsShadow)
  | solver (probs : List SlvShadow)
  deriving DecidableEq, Repr

/-- A MIRROR payload (R489): first mirror-area slot offset, values and STATE codes. -/
structure MirrorMsg where
  h : Nat
  first : Nat
  values : List W32
  states : List Nat
  deriving DecidableEq, Repr

/-- The memories that the scrub and the accesses check (R513, R514). -/
inductive MemLoc where
  | slot (i : Nat)
  | quality (i : Nat)
  | func (f : Nat) (word : Nat)
  | mgmtCode (word : Nat)
  | mgmtData (word : Nat)
  | record (i : Nat)
  deriving DecidableEq, Repr

end Sys2Proof
end

