-- ==== Sys2Proof/Syntax.lean ====
section
/-! DEFINITION. The commands of the PX-960: one constructor for each row of opcode_table.json, in the
table's order. The first operand of every command, `dt`, is the number of ticks that have passed since the command
before it (DESIGN CHOICE, log 1); the further operands are what the row's rule says the event carries (log 3). -/

namespace Sys2Proof

inductive Instr where
  /-- MATE_CLOSE (R80). -/
  | mateClose (dt : Nat)
  /-- PRESENCE_ACCEPTED (R81). -/
  | presenceAccepted (dt : Nat)
  /-- POR_RELEASE (R80). -/
  | porRelease (dt : Nat) (r1 : Nat) (r2 : Nat) (r3 : Nat)
  /-- LAMP_TEST_END (R93). -/
  | lampTestEnd (dt : Nat)
  /-- FIRMWARE_VERIFIED (R94). -/
  | firmwareVerified (dt : Nat) (ok : Bool)
  /-- SELFTEST_COMPLETE (R95). -/
  | selftestComplete (dt : Nat) (ok : Bool) (seOk : Bool)
  /-- COPY_SELECTION (R110). -/
  | copySelection (dt : Nat)
  /-- STARTUP_END (R96). -/
  | startupEnd (dt : Nat)
  /-- FEED_LOST (R72). -/
  | feedLost (dt : Nat) (feedB : Bool)
  /-- POWER_FAIL (R73). -/
  | powerFail (dt : Nat) (cause : Nat)
  /-- POWER_FAIL_RESET (R74). -/
  | powerFailReset (dt : Nat)
  /-- BACKUP_BROWNOUT (R78). -/
  | backupBrownout (dt : Nat)
  /-- KEY_ACCEPT (R86). -/
  | keyAccept (dt : Nat) (k1 : Bool) (k2 : Bool)
  /-- KEY_FAULT (R86). -/
  | keyFault (dt : Nat) (disagree : Bool)
  /-- EJECT_BUTTON (R83). -/
  | ejectButton (dt : Nat) (heldMs : Nat)
  /-- EJECT_PREPARED (R84). -/
  | ejectPrepared (dt : Nat)
  /-- EJECT_TIMEOUT (R84). -/
  | ejectTimeout (dt : Nat)
  /-- LOAD_TIMEOUT (R116). -/
  | loadTimeout (dt : Nat)
  /-- ADOPT_TRANSFER_COMPLETE (R505). -/
  | adoptTransferComplete (dt : Nat)
  /-- COMMIT_MARK_DONE (R120). -/
  | commitMarkDone (dt : Nat)
  /-- DUPLICATION_COMPLETE (R114). -/
  | duplicationComplete (dt : Nat)
  /-- REGISTER_WRITE (R124). -/
  | registerWrite (dt : Nat) (m : Master) (addr : Nat) (width : Nat) (value : W64)
  /-- REG64_LOW_READ (R135). -/
  | reg64LowRead (dt : Nat) (m : Master) (addr : Nat)
  /-- REG64_LOW_WRITE (R136). -/
  | reg64LowWrite (dt : Nat) (m : Master) (addr : Nat) (value : W32)
  /-- REG64_HIGH_WRITE (R136). -/
  | reg64HighWrite (dt : Nat) (m : Master) (addr : Nat) (value : W32)
  /-- TOLLGATE_WRITE (R129). -/
  | tollgateWrite (dt : Nat) (m : Master) (value : W32)
  /-- TOLLGATE_EXPIRE (R129). -/
  | tollgateExpire (dt : Nat) (m : Master)
  /-- TOLLGATE_LOCKOUT_END (R131). -/
  | tollgateLockoutEnd (dt : Nat) (m : Master)
  /-- ACCERR_CLRCNT (R137). -/
  | accerrClrcnt (dt : Nat) (m : Master) (value : W32)
  /-- CFG_PARITY_FAIL (R143). -/
  | cfgParityFail (dt : Nat) (addr : Nat)
  /-- HARVEST (R159). -/
  | harvest (dt : Nat)
  /-- EVALUATION_BEGIN (R157). -/
  | evaluationBegin (dt : Nat)
  /-- BLOCK_EVALUATE (R204). -/
  | blockEvaluate (dt : Nat) (agree : Bool)
  /-- WINDOW_END (R157). -/
  | windowEnd (dt : Nat)
  /-- DELIVER (R158). -/
  | deliver (dt : Nat) (disagree : List Nat)
  /-- CHECKPOINT_DEFER_END (R181). -/
  | checkpointDeferEnd (dt : Nat)
  /-- BARN_SAVE_DONE (R180). -/
  | barnSaveDone (dt : Nat)
  /-- MIRROR_SNAPSHOT (R489). -/
  | mirrorSnapshot (dt : Nat)
  /-- SYNC_SEND (R167). -/
  | syncSend (dt : Nat) (ch : Nat)
  /-- OLC_PREPARED (R187). -/
  | olcPrepared (dt : Nat)
  /-- OLC_DRAIN_LIMIT (R187). -/
  | olcDrainLimit (dt : Nat)
  /-- OLC_PREPARE_TIMEOUT (R187). -/
  | olcPrepareTimeout (dt : Nat)
  /-- TOOTH_EDGE (R240). -/
  | toothEdge (dt : Nat) (d : Nat) (frac : Nat) (bHigh : Bool)
  /-- CAM_MARKER_EDGE (R236). -/
  | camMarkerEdge (dt : Nat) (d : Nat)
  /-- QUAD_REF_EDGE (R235). -/
  | quadRefEdge (dt : Nat) (d : Nat)
  /-- BV_PHASE_UPDATE (R237). -/
  | bvPhaseUpdate (dt : Nat) (ph4 : Nat) (ph5 : Nat) (f4 : Nat) (f5 : Nat) (u0 : F64) (u1 : F64)
  /-- DOMAIN_TIMEOUT (R248). -/
  | domainTimeout (dt : Nat) (d : Nat)
  /-- DIR_REF_CHANGE (R249). -/
  | dirRefChange (dt : Nat) (d : Nat)
  /-- MILESTONE_FIRE (R242). -/
  | milestoneFire (dt : Nat) (slot : Nat)
  /-- PULSE_END (R252). -/
  | pulseEnd (dt : Nat) (slot : Nat)
  /-- SYNC_CLOSE_FEEDBACK (R261). -/
  | syncCloseFeedback (dt : Nat) (slot : Nat)
  /-- SYNC_NO_FEEDBACK (R261). -/
  | syncNoFeedback (dt : Nat) (slot : Nat)
  /-- TRACKER_COMPARE (R269). -/
  | trackerCompare (dt : Nat) (agree : Bool)
  /-- LOOP_TIME_TRIGGER (R273). -/
  | loopTimeTrigger (dt : Nat) (ctx : Nat)
  /-- LOOP_SAMPLE_BEGIN (R278). -/
  | loopSampleBegin (dt : Nat)
  /-- LOOP_SAMPLE_COMMIT (R278). -/
  | loopSampleCommit (dt : Nat) (agree : Bool)
  /-- LOOP_SAMPLE_MISSED (R281). -/
  | loopSampleMissed (dt : Nat) (ctx : Nat)
  /-- ASSEMBLY_BEGIN (R316). -/
  | assemblyBegin (dt : Nat)
  /-- ASSEMBLY_END (R317). -/
  | assemblyEnd (dt : Nat)
  /-- SOLVE_BEGIN (R337). -/
  | solveBegin (dt : Nat)
  /-- SOLVE_HANDOVER (R341). -/
  | solveHandover (dt : Nat) (cycles : Nat)
  /-- RESIDUAL_CHECK (R347). -/
  | residualCheck (dt : Nat)
  /-- AI_SCAN (R360). -/
  | aiScan (dt : Nat) (fsOk : Bool) (xs : List (Nat × Int))
  /-- AI_SAMPLE_COMMIT (R361). -/
  | aiSampleCommit (dt : Nat) (ch : Nat) (fsOk : Bool) (x : Int)
  /-- AI_REF_CHECK (R363). -/
  | aiRefCheck (dt : Nat) (ch : Nat) (bad : Bool)
  /-- HART_TRANSACTION_START (R365). -/
  | hartTransactionStart (dt : Nat) (modem : Modem)
  /-- HART_RESPONSE (R366). -/
  | hartResponse (dt : Nat) (modem : Modem) (commErr : Bool) (devStatus : Byte) (vars : List F32) (bytes : List Byte)
  /-- HART_ATTEMPT_TIMEOUT (R365). -/
  | hartAttemptTimeout (dt : Nat) (modem : Modem)
  /-- HART_STALE (R366). -/
  | hartStale (dt : Nat) (entry : Nat)
  /-- AO_FRAME (R372). -/
  | aoFrame (dt : Nat) (ch : Nat)
  /-- AO_FRAME_TIMEOUT (R372). -/
  | aoFrameTimeout (dt : Nat) (ch : Nat)
  /-- AO_HOLD_EXPIRE (R372). -/
  | aoHoldExpire (dt : Nat) (ch : Nat)
  /-- AO_LOOP_POWER (R372). -/
  | aoLoopPower (dt : Nat) (ch : Nat)
  /-- AO_MEASURE (R373). -/
  | aoMeasure (dt : Nat) (ch : Nat) (fsOk : Bool) (uA : Nat) (v10mV : Nat)
  /-- AO_COMPLIANCE (R374). -/
  | aoCompliance (dt : Nat) (ch : Nat) (uA : Nat) (v10mV : Nat)
  /-- AO_COMPLIANCE_CLEAR (R374). -/
  | aoComplianceClear (dt : Nat) (ch : Nat)
  /-- AO_DEVIATION (R375). -/
  | aoDeviation (dt : Nat) (ch : Nat)
  /-- AO_CLOCK_STEP (R376). -/
  | aoClockStep (dt : Nat) (ch : Nat) (uA : Nat)
  /-- AO_TEST_WORK_DONE (R377). -/
  | aoTestWorkDone (dt : Nat) (ch : Nat) (ok : Bool)
  /-- AO_TEST (R377). -/
  | aoTest (dt : Nat) (m : Master) (ch : Nat)
  /-- DIO_INPUT_ACCEPT (R379). -/
  | dioInputAccept (dt : Nat) (ch : Nat) (level : Bool) (ago : Nat)
  /-- DIO_SUPPLY_LOSS (R378). -/
  | dioSupplyLoss (dt : Nat) (groupB : Bool)
  /-- DIO_OVERLOAD (R382). -/
  | dioOverload (dt : Nat) (ch : Nat)
  /-- DIO_MISMATCH (R382). -/
  | dioMismatch (dt : Nat) (ch : Nat)
  /-- DIO_OPENLOAD (R382). -/
  | dioOpenload (dt : Nat) (ch : Nat)
  /-- CAN_INTEGRATED (R396). -/
  | canIntegrated (dt : Nat) (ch : Nat)
  /-- CAN_ARBITRATION (R402). -/
  | canArbitration (dt : Nat) (ch : Nat)
  /-- CAN_TX_ATTEMPT_END (R399). -/
  | canTxAttemptEnd (dt : Nat) (ch : Nat) (res : TxEnd) (more : Nat) (tdcv : Nat)
  /-- CAN_BUSOFF_RECOVERED (R396). -/
  | canBusoffRecovered (dt : Nat) (ch : Nat)
  /-- CAN_FRAME_RECEIVED (R406). -/
  | canFrameReceived (dt : Nat) (ch : Nat) (frame : CanFrame)
  /-- CAN_RIO_INPUT_FRAME (R411). -/
  | canRioInputFrame (dt : Nat) (ch : Nat) (frame : CanFrame)
  /-- CAN_RIO_SYNC_RECEIVED (R413). -/
  | canRioSyncReceived (dt : Nat) (ch : Nat) (frame : CanFrame)
  /-- CAN_RIO_OUTPUT_RECEIVED (R413). -/
  | canRioOutputReceived (dt : Nat) (ch : Nat) (frame : CanFrame)
  /-- STATION_SYNC_TIMEOUT (R413). -/
  | stationSyncTimeout (dt : Nat) (ch : Nat)
  /-- STATION_HOLD_EXPIRE (R413). -/
  | stationHoldExpire (dt : Nat) (ch : Nat)
  /-- CAN_RX_POP (R408). -/
  | canRxPop (dt : Nat) (m : Master) (ch : Nat) (seq : Nat)
  /-- CAN_TX_REQ (R404). -/
  | canTxReq (dt : Nat) (m : Master) (ch : Nat)
  /-- CAN_TX_CANCEL (R403). -/
  | canTxCancel (dt : Nat) (m : Master) (ch : Nat)
  /-- CAN_CNT_CLR (R421). -/
  | canCntClr (dt : Nat) (m : Master) (ch : Nat)
  /-- CAN_CNT2_CLR (R421). -/
  | canCnt2Clr (dt : Nat) (m : Master) (ch : Nat)
  /-- ETH_LINK_CHANGE (R439). -/
  | ethLinkChange (dt : Nat) (e2 : Bool) (speed : Nat)
  /-- PRP_SUPERVISION_SEND (R423). -/
  | prpSupervisionSend (dt : Nat)
  /-- ETH_RIO_INPUT_FRAME (R439). -/
  | ethRioInputFrame (dt : Nat) (rx : EthRx) (src : W32) (bytes : List Byte)
  /-- ETH_RIO_SYNC_RECEIVED (R440). -/
  | ethRioSyncReceived (dt : Nat) (rx : EthRx) (src : W32) (bytes : List Byte)
  /-- ETH_RIO_OUTPUT_RECEIVED (R440). -/
  | ethRioOutputReceived (dt : Nat) (rx : EthRx) (src : W32) (bytes : List Byte)
  /-- ETH_STOP_RECEIVED (R439). -/
  | ethStopReceived (dt : Nat) (rx : EthRx) (src : W32) (addr : Nat)
  /-- ETH_RIO_CLR (R439). -/
  | ethRioClr (dt : Nat) (m : Master)
  /-- PTP_OFFSET_MEASURED (R428). -/
  | ptpOffsetMeasured (dt : Nat) (origin : Int) (delay : Nat) (ago : Nat)
  /-- PTP_ANNOUNCE_TIMEOUT (R427). -/
  | ptpAnnounceTimeout (dt : Nat) (e2 : Bool)
  /-- RTC_DISCIPLINE (R429). -/
  | rtcDiscipline (dt : Nat) (rtc : Nat)
  /-- RTC_WRITE (R429). -/
  | rtcWrite (dt : Nat)
  /-- SMP_HANDSHAKE (R431). -/
  | smpHandshake (dt : Nat) (sid : Nat) (suite : Nat) (group : Nat) (scheme : Nat) (resumed : Bool) (early : Bool) (proof : Bool) (chain : List (List Byte))
  /-- SESSION_IDLE_TIMEOUT (R431). -/
  | sessionIdleTimeout (dt : Nat) (sid : Nat)
  /-- DTLS_CLOSE (R431). -/
  | dtlsClose (dt : Nat) (sid : Nat)
  /-- UNKNOWN_CMD (R437). -/
  | unknownCmd (dt : Nat) (sid : Nat) (req : Nat) (cmd : Nat) (p : List Byte)
  /-- IDENT_CHALLENGE (R433). -/
  | identChallenge (dt : Nat) (sid : Nat) (req : Nat) (p : List Byte)
  /-- STATUS_READ (R433). -/
  | statusRead (dt : Nat) (sid : Nat) (req : Nat) (p : List Byte)
  /-- LOG_READ (R530). -/
  | logRead (dt : Nat) (sid : Nat) (req : Nat) (p : List Byte)
  /-- REG_READ (R434). -/
  | regRead (dt : Nat) (sid : Nat) (req : Nat) (p : List Byte)
  /-- REG_WRITE (R434). -/
  | regWrite (dt : Nat) (sid : Nat) (req : Nat) (p : List Byte)
  /-- SLOT_READ (R433). -/
  | slotRead (dt : Nat) (sid : Nat) (req : Nat) (p : List Byte)
  /-- LOG_ACK (R530). -/
  | logAck (dt : Nat) (sid : Nat) (req : Nat) (p : List Byte)
  /-- LOG_CLEAR (R529). -/
  | logClear (dt : Nat) (sid : Nat) (req : Nat) (p : List Byte)
  /-- LOG_CLEARED (R529). -/
  | logCleared (dt : Nat)
  /-- OWNER_ENROL (R99). -/
  | ownerEnrol (dt : Nat) (sid : Nat) (req : Nat) (p : List Byte)
  /-- OWNER_RELEASE (R101). -/
  | ownerRelease (dt : Nat) (sid : Nat) (req : Nat) (p : List Byte)
  /-- IMAGE_LOAD_BEGIN (R116). -/
  | imageLoadBegin (dt : Nat) (sid : Nat) (req : Nat) (p : List Byte)
  /-- IMAGE_DATA (R116). -/
  | imageData (dt : Nat) (sid : Nat) (req : Nat) (p : List Byte)
  /-- IMAGE_LOAD_END (R116). -/
  | imageLoadEnd (dt : Nat) (sid : Nat) (req : Nat) (p : List Byte)
  /-- IMAGE_VERIFY (R116). -/
  | imageVerify (dt : Nat) (sid : Nat) (req : Nat) (p : List Byte)
  /-- IMAGE_ABORT (R116). -/
  | imageAbort (dt : Nat) (sid : Nat) (req : Nat) (p : List Byte)
  /-- IMAGE_ADOPT (R118). -/
  | imageAdopt (dt : Nat) (sid : Nat) (req : Nat) (p : List Byte) (partnerHasImage : Bool) (partnerSlotRef : Nat) (len : Nat)
  /-- IMAGE_COMMIT (R119). -/
  | imageCommit (dt : Nat) (sid : Nat) (req : Nat) (p : List Byte)
  /-- OLC_PREPARE (R187). -/
  | olcPrepare (dt : Nat) (sid : Nat) (req : Nat) (p : List Byte)
  /-- OLC_SWITCH (R187). -/
  | olcSwitch (dt : Nat) (sid : Nat) (req : Nat) (p : List Byte)
  /-- OLC_ABORT (R187). -/
  | olcAbort (dt : Nat) (sid : Nat) (req : Nat) (p : List Byte)
  /-- FORCE_SET (R436). -/
  | forceSet (dt : Nat) (sid : Nat) (req : Nat) (p : List Byte)
  /-- FORCE_RELEASE (R436). -/
  | forceRelease (dt : Nat) (sid : Nat) (req : Nat) (p : List Byte)
  /-- BARN_CHECKPOINT (R181). -/
  | barnCheckpoint (dt : Nat) (sid : Nat) (req : Nat) (p : List Byte)
  /-- SAFE_ENTER (R178). -/
  | safeEnter (dt : Nat) (sid : Nat) (req : Nat) (p : List Byte)
  /-- SAFE_CLEAR (R178). -/
  | safeClear (dt : Nat) (sid : Nat) (req : Nat) (p : List Byte)
  /-- EJECT (R84). -/
  | eject (dt : Nat) (sid : Nat) (req : Nat) (p : List Byte)
  /-- TIME_SET (R429). -/
  | timeSet (dt : Nat) (sid : Nat) (req : Nat) (p : List Byte)
  /-- HART_PASS (R435). -/
  | hartPass (dt : Nat) (sid : Nat) (req : Nat) (p : List Byte)
  /-- USL_ACK (R433). -/
  | uslAck (dt : Nat) (sid : Nat) (req : Nat) (p : List Byte)
  /-- PAIR_HANDOVER (R507). -/
  | pairHandover (dt : Nat) (sid : Nat) (req : Nat) (p : List Byte)
  /-- PAIR_SWAPTEST (R507). -/
  | pairSwaptest (dt : Nat) (sid : Nat) (req : Nat) (p : List Byte)
  /-- PAIR_CLEAR (R507). -/
  | pairClear (dt : Nat) (sid : Nat) (req : Nat) (p : List Byte)
  /-- PAIR_SOLO (R507). -/
  | pairSolo (dt : Nat) (sid : Nat) (req : Nat) (p : List Byte)
  /-- BRAKE_TEST (R464). -/
  | brakeTest (dt : Nat) (sid : Nat) (req : Nat) (p : List Byte)
  /-- SAFETY_UNLOCK (R469). -/
  | safetyUnlock (dt : Nat) (sid : Nat) (req : Nat) (p : List Byte)
  /-- SO_CLEAR (R457). -/
  | soClear (dt : Nat) (sid : Nat) (req : Nat) (p : List Byte) (faultStands : Bool)
  /-- USL_DATA_RECEIVED (R445). -/
  | uslDataReceived (dt : Nat) (rx : Option EthRx) (conn : Nat) (pdu : List Byte)
  /-- USL_ACK_RECEIVED (R444). -/
  | uslAckReceived (dt : Nat) (rx : Option EthRx) (conn : Nat) (pdu : List Byte)
  /-- USL_WATCHDOG_EXPIRE (R446). -/
  | uslWatchdogExpire (dt : Nat) (conn : Nat)
  /-- USL_ACK_TIMEOUT (R444). -/
  | uslAckTimeout (dt : Nat) (conn : Nat)
  /-- USL_CCTL_ACK (R446). -/
  | uslCctlAck (dt : Nat) (m : Master) (conn : Nat)
  /-- USL_CCNT_CLR (R446). -/
  | uslCcntClr (dt : Nat) (m : Master) (conn : Nat)
  /-- BRAKE_ON (R457). -/
  | brakeOn (dt : Nat) (ch : Nat) (fsOk : Bool)
  /-- BRAKE_DEMAND (R454). -/
  | brakeDemand (dt : Nat) (ch : Nat) (fsOk : Bool)
  /-- TEST_PULSE_START (R459). -/
  | testPulseStart (dt : Nat) (ch : Nat)
  /-- TEST_PULSE_CHECK (R459). -/
  | testPulseCheck (dt : Nat) (ch : Nat) (off : Bool)
  /-- TEST_PULSE_END (R459). -/
  | testPulseEnd (dt : Nat) (ch : Nat)
  /-- TEST_PULSE_OVERDUE (R461). -/
  | testPulseOverdue (dt : Nat) (ch : Nat)
  /-- BRAKE_CHANNEL_FAULT (R462). -/
  | brakeChannelFault (dt : Nat) (ch : Nat) (cause : Nat) (mA : Nat) (vhs : Nat) (vls : Nat)
  /-- BRAKE_TEST_PHASE_END (R465). -/
  | brakeTestPhaseEnd (dt : Nat) (ch : Nat) (ok : Bool)
  /-- TEST_DUE (R465). -/
  | testDue (dt : Nat) (ch : Nat)
  /-- SAFETY_UNLOCK_EXPIRE (R469). -/
  | safetyUnlockExpire (dt : Nat) (sid : Nat)
  /-- SAFETY_PWD_LOCKOUT_END (R469). -/
  | safetyPwdLockoutEnd (dt : Nat)
  /-- SO_BCNT_CLR (R475). -/
  | soBcntClr (dt : Nat) (m : Master) (k : Nat)
  /-- SO_LOG_IDX (R471). -/
  | soLogIdx (dt : Nat) (m : Master) (value : W32)
  /-- HELLO_SEND (R486). -/
  | helloSend (dt : Nat)
  /-- HELLO_RECEIVED (R487). -/
  | helloReceived (dt : Nat) (lane : Nat) (hello : Hello)
  /-- LANE_DOWN (R486). -/
  | laneDown (dt : Nat) (lane : Nat)
  /-- PARTNER_SILENT (R486). -/
  | partnerSilent (dt : Nat)
  /-- PAIR_FORMED (R497). -/
  | pairFormed (dt : Nat)
  /-- PAIR_SELF_ELECT (R497). -/
  | pairSelfElect (dt : Nat)
  /-- SINGLE_ACTIVATE (R479). -/
  | singleActivate (dt : Nat)
  /-- MIRROR_FRAME_RECEIVED (R490). -/
  | mirrorFrameReceived (dt : Nat) (lane : Nat) (msg : MirrorMsg)
  /-- SHADOW_SEND (R491). -/
  | shadowSend (dt : Nat)
  /-- SHADOW_RECEIVED (R491). -/
  | shadowReceived (dt : Nat) (lane : Nat) (ok : Bool) (sh : Shadow)
  /-- OFFER_NOTICE (R500). -/
  | offerNotice (dt : Nat) (lane : Nat) (hx : Nat) (swap : Bool)
  /-- ACCEPT_NOTICE (R500). -/
  | acceptNotice (dt : Nat) (lane : Nat)
  /-- DECLINE_NOTICE (R506). -/
  | declineNotice (dt : Nat) (lane : Nat)
  /-- RELINQUISH_NOTICE (R497). -/
  | relinquishNotice (dt : Nat) (lane : Nat) (cause : Nat)
  /-- SWITCH_NOTICE (R504). -/
  | switchNotice (dt : Nat) (lane : Nat) (ts : Nat)
  /-- SAFE_NOTICE (R506). -/
  | safeNotice (dt : Nat) (lane : Nat)
  /-- IMGREQ (R505). -/
  | imgreq (dt : Nat) (lane : Nat)
  /-- IMGDATA (R505). -/
  | imgdata (dt : Nat) (lane : Nat) (ofs : Nat) (data : List Byte)
  /-- ROUND_START (R495). -/
  | roundStart (dt : Nat)
  /-- STATUS_SEND (R493). -/
  | statusSend (dt : Nat)
  /-- STATUS_RECEIVED (R494). -/
  | statusReceived (dt : Nat) (msg : StatusMsg) (us : Nat)
  /-- ROUND_RECEIVED (R497). -/
  | roundReceived (dt : Nat) (msg : RoundMsg)
  /-- REFEREE_ABSENT (R493). -/
  | refereeAbsent (dt : Nat)
  /-- TAKEOVER (R498). -/
  | takeover (dt : Nat)
  /-- OWNER_STUCK (R481). -/
  | ownerStuck (dt : Nat)
  /-- OWNER_MISMATCH (R482). -/
  | ownerMismatch (dt : Nat)
  /-- HANDOVER_TX (R500). -/
  | handoverTx (dt : Nat)
  /-- REVERT_START (R501). -/
  | revertStart (dt : Nat)
  /-- SWAP_TEST_START (R502). -/
  | swapTestStart (dt : Nat)
  /-- SWAP_DWELL_END (R502). -/
  | swapDwellEnd (dt : Nat)
  /-- PAIR_MCNT_CLR (R509). -/
  | pairMcntClr (dt : Nat) (m : Master)
  /-- CLOCK_CHECK (R51). -/
  | clockCheck (dt : Nat) (ofSafety : Bool) (count : Nat)
  /-- MGMT_WATCHDOG_EXPIRE (R510). -/
  | mgmtWatchdogExpire (dt : Nat)
  /-- SAFETY_SELFTEST (R510). -/
  | safetySelftest (dt : Nat) (ok : Bool)
  /-- SIGNATURE_COMPARE (R510). -/
  | signatureCompare (dt : Nat) (agree : Bool)
  /-- CHECKER_TEST (R515). -/
  | checkerTest (dt : Nat) (ok : Bool)
  /-- SCRUB_WORD (R514). -/
  | scrubWord (dt : Nat) (loc : MemLoc) (p1 : Bool) (p2 : Bool) (same : Bool)
  /-- FUNCTION_RUNG (R519). -/
  | functionRung (dt : Nat) (f : Nat) (unit : Option Nat)
  /-- MODULE_RUNG (R520). -/
  | moduleRung (dt : Nat)
  /-- RESET_RELEASE (R520). -/
  | resetRelease (dt : Nat) (r1 : Nat) (r2 : Nat) (r3 : Nat)
  /-- PCYC_IGNORED (R520). -/
  | pcycIgnored (dt : Nat)
  /-- LADDER_WINDOW_EXPIRE (R519). -/
  | ladderWindowExpire (dt : Nat) (f : Option Nat) (unit : Option Nat)
  /-- DIAG_RECOVER_UNIT (R522). -/
  | diagRecoverUnit (dt : Nat) (m : Master) (f : Nat) (unit : Nat)
  /-- DIAG_RECOVER_MODULE (R522). -/
  | diagRecoverModule (dt : Nat) (m : Master)
  /-- DIAG_FCNT_CLR (R519). -/
  | diagFcntClr (dt : Nat) (m : Master) (f : Nat)
  /-- DIAG_MEM_CLR (R513). -/
  | diagMemClr (dt : Nat) (m : Master)
  /-- RECORD_WRITE_DONE (R524). -/
  | recordWriteDone (dt : Nat)
  /-- LOG_LOST_CLR (R527). -/
  | logLostClr (dt : Nat) (m : Master)
  /-- LOG_PEAK_CLR (R526). -/
  | logPeakClr (dt : Nat) (m : Master)
  /-- LOG_RD_NUM (R530). -/
  | logRdNum (dt : Nat) (m : Master) (value : W32)
  /-- SEQ_LSTAT_CLR (R165). -/
  | seqLstatClr (dt : Nat) (m : Master) (k : Nat)
  /-- IMG_SLOT_IDX (R228). -/
  | imgSlotIdx (dt : Nat) (m : Master) (value : W32)
  /-- IMG_INST_IDX (R228). -/
  | imgInstIdx (dt : Nat) (m : Master) (value : W32)
  /-- IMG_FIND_ID (R228). -/
  | imgFindId (dt : Nat) (m : Master) (value : W32)
  /-- MS_SLOT_IDX (R271). -/
  | msSlotIdx (dt : Nat) (m : Master) (value : W32)
  /-- MS_SLOT_COMMIT (R271). -/
  | msSlotCommit (dt : Nat) (m : Master) (value : W32)
  /-- LOOP_COEF_A (R291). -/
  | loopCoefA (dt : Nat) (m : Master) (n : Nat) (value : W32)
  /-- LOOP_SWAP (R290). -/
  | loopSwap (dt : Nat) (m : Master) (n : Nat) (modeReq : Nat)
  /-- LOOP_SUPACK (R302). -/
  | loopSupack (dt : Nat) (m : Master) (n : Nat) (modeReq : Nat)
  /-- LOOP_CNT_CLR (R281). -/
  | loopCntClr (dt : Nat) (m : Master) (n : Nat)
  /-- SLV_WIN_SEL (R357). -/
  | slvWinSel (dt : Nat) (m : Master) (value : W32)
  /-- SLV_PCNT_CLR (R352). -/
  | slvPcntClr (dt : Nat) (m : Master) (p : Nat)
  /-- AI_CH_CNT_CLR (R361). -/
  | aiChCntClr (dt : Nat) (m : Master) (n : Nat)
  /-- MATE_CONTACT_OPEN (R81). -/
  | mateContactOpen (dt : Nat) (mate2 : Bool)
  /-- POWER_RETURN (R80). -/
  | powerReturn (dt : Nat)
  /-- FEED_OK_CHANGE (R150). -/
  | feedOkChange (dt : Nat) (feedB : Bool) (mV : Nat)
  /-- DIO_SUPPLY_RETURN (R378). -/
  | dioSupplyReturn (dt : Nat) (groupB : Bool)
  /-- AO_CHANNEL_NO_FRAME (R375). -/
  | aoChannelNoFrame (dt : Nat) (ch : Nat)
  /-- CAN_RECEIVE_ERROR (R396). -/
  | canReceiveError (dt : Nat) (ch : Nat) (primary : Bool) (more : Nat)
  /-- ARP_REQUEST (R425). -/
  | arpRequest (dt : Nat) (rx : EthRx) (ip : W32)
  /-- ICMP_ECHO_REQUEST (R425). -/
  | icmpEchoRequest (dt : Nat) (rx : EthRx) (ip : W32)
  /-- PTP_ANNOUNCE_RECEIVED (R426). -/
  | ptpAnnounceReceived (dt : Nat) (e2 : Bool) (msg : Announce)
  /-- PCYC_REQ_END (R62). -/
  | pcycReqEnd (dt : Nat)
  deriving DecidableEq, Repr

end Sys2Proof
end

