-- ==== Sys2Proof/Config.lean ====
section
/-! DEFINITION. The values that the spec leaves open: opaque constants, so that nothing in Lean can tell what they
are (log 5). State's `freeCtr` counts how many of `freeW32` have been taken. -/

namespace Sys2Proof.Config

/-- A 32-bit value that the spec does not state, the n-th such value taken. -/
opaque freeW32 (n : Nat) : BitVec 32
/-- The position of a domain in a tick in which no rule states it (R245, log 42). -/
opaque openPos (d tick : Nat) : Nat
/-- The time of the latest scrub pass that SCRUBMS reads in a tick (R514). -/
opaque openScrub (tick : Nat) : Nat
/-- The level that an AO channel drives in a tick in which its current is no number (R370). -/
opaque openLevel (ch tick : Nat) : BitVec 32
/-- How the module rounds a rate correction, in units of 10^-12, to the integer that PTP_RATE reads (log 7). -/
opaque rateUnits (num : Int) (den : Nat) : Int
/-- Whether the module rounds an exact rational up to the next integer where no rule says how (log 7). -/
opaque roundUp (num : Int) (den : Nat) : Bool

/-- The per-signature number that the security element draws, the n-th one (R98). -/
opaque signNumber (n : Nat) : Nat

end Sys2Proof.Config
end

