-- ==== Sys2Proof/Machine/Bits.lean ====
section
/-! DEFINITION. Bit fields, little-endian bytes, saturation and keyed lists, used by every part of the model. -/

namespace Sys2Proof.Machine

/-- Bits [hi:lo] of a natural number. -/
def field (w hi lo : Nat) : Nat := (w >>> lo) % 2 ^ (hi + 1 - lo)

def bit (w i : Nat) : Bool := w.testBit i

def b2n (b : Bool) : Nat := if b then 1 else 0

/-- Little-endian bytes of a number, `n` of them (00_scope.md, numbers). -/
def leBytes : Nat → Nat → List Byte
  | 0, _ => []
  | n + 1, v => BitVec.ofNat 8 v :: leBytes n (v / 256)

/-- The number that little-endian bytes spell. -/
def leNat : List Byte → Nat
  | [] => 0
  | b :: bs => b.toNat + 256 * leNat bs

/-- Big-endian bytes of a number, `n` of them (IP addresses, SHA-256). -/
def beBytes (n v : Nat) : List Byte := (leBytes n v).reverse

def beNat (bs : List Byte) : Nat := leNat bs.reverse

/-- `len` bytes at `ofs`. -/
def slice (bs : List Byte) (ofs len : Nat) : List Byte := (bs.drop ofs).take len

/-- The little-endian number of `len` bytes at `ofs`. -/
def getN (bs : List Byte) (ofs len : Nat) : Nat := leNat (slice bs ofs len)

/-- Every byte of the range is zero. -/
def zeros (bs : List Byte) (ofs len : Nat) : Bool := (slice bs ofs len).all (· == 0)

/-- A count that saturates at `m`. -/
def satInc (m n : Nat) : Nat := if n < m then n + 1 else m

/-- `xs` with element `i` changed by `f`; unchanged where there is none. -/
def modifyAt {α : Type} (xs : List α) (i : Nat) (f : α → α) : List α := xs.modify i f

/-- The elements that `key` names `k`, changed by `f`. -/
def modifyKey {α : Type} (key : α → Nat) (k : Nat) (f : α → α) (xs : List α) : List α :=
  xs.map fun x => if key x = k then f x else x

def findKey {α : Type} (key : α → Nat) (k : Nat) (xs : List α) : Option α := xs.find? fun x => key x = k

/-- A sorted association list with `k` mapped to `v`. -/
def insertKey {α : Type} (k : Nat) (v : α) : List (Nat × α) → List (Nat × α)
  | [] => [(k, v)]
  | (k', v') :: r =>
    if k < k' then (k, v) :: (k', v') :: r
    else if k = k' then (k, v) :: r
    else (k', v') :: insertKey k v r

def eraseKey {α : Type} (k : Nat) (xs : List (Nat × α)) : List (Nat × α) := xs.filter fun p => p.1 ≠ k

/-- Look a key up in an association list; `d` where it is not listed. -/
def lookupD {α : Type} (d : α) (k : Nat) : List (Nat × α) → α
  | [] => d
  | (k', v) :: r => if k = k' then v else lookupD d k r

/-- The two's-complement value of the low `n` bits. -/
def toSigned (n v : Nat) : Int :=
  let m := v % 2 ^ n
  if m < 2 ^ (n - 1) then (m : Int) else (m : Int) - (2 ^ n : Nat)

/-- The low `n` bits of an integer in two's complement. -/
def ofSigned (n : Nat) (i : Int) : Nat := (i % ((2 ^ n : Nat) : Int)).toNat

/-- An exact rational as a whole number of units: itself where it is whole, else one of the two whole numbers beside it, and
which of them the spec does not say (log 7). -/
def roundUnits (num : Int) (den : Nat) : Int :=
  let q := Int.fdiv num (den : Int)
  if Int.fmod num (den : Int) = 0 then q else if Config.roundUp num den then q + 1 else q

/-- Ceiling division. -/
def ceilDiv (a b : Nat) : Nat := (a + b - 1) / b

end Sys2Proof.Machine
end

