-- ==== Sys2Proof/Machine/Float.lean ====
section
/-! DEFINITION. IEEE 754 binary32 and binary64 arithmetic on bit patterns (R191, R194, R282, R339): every operation is
computed exactly and rounded once, to nearest, ties to even; subnormals are kept; every NaN is the canonical one. -/

namespace Sys2Proof.Machine

/-- A binary format: exponent bits and fraction bits. -/
structure Fmt where
  eb : Nat
  mb : Nat
  deriving DecidableEq, Repr

def b32 : Fmt := { eb := 8, mb := 23 }
def b64 : Fmt := { eb := 11, mb := 52 }

def Fmt.bias (f : Fmt) : Nat := 2 ^ (f.eb - 1) - 1
def Fmt.width (f : Fmt) : Nat := 1 + f.eb + f.mb
/-- Exponent of the unit of a subnormal. -/
def Fmt.emin (f : Fmt) : Int := 1 - (f.bias : Int) - (f.mb : Int)
def Fmt.expAll (f : Fmt) : Nat := 2 ^ f.eb - 1
/-- The canonical quiet NaN (R194). -/
def Fmt.nan (f : Fmt) : Nat := f.expAll * 2 ^ f.mb + 2 ^ (f.mb - 1)
def Fmt.inf (f : Fmt) (neg : Bool) : Nat := b2n neg * 2 ^ (f.width - 1) + f.expAll * 2 ^ f.mb
def Fmt.zero (f : Fmt) (neg : Bool) : Nat := b2n neg * 2 ^ (f.width - 1)
/-- The largest finite value. -/
def Fmt.maxFin (f : Fmt) (neg : Bool) : Nat := f.inf neg - 1

/-- A value: NaN, an infinity, or ± m × 2^e. -/
inductive Fl where
  | nan
  | inf (neg : Bool)
  | fin (neg : Bool) (m : Nat) (e : Int)
  deriving DecidableEq, Repr

def Fmt.dec (f : Fmt) (w : Nat) : Fl :=
  let neg := w.testBit (f.width - 1)
  let ex := (w >>> f.mb) % 2 ^ f.eb
  let fr := w % 2 ^ f.mb
  if ex = f.expAll then (if fr = 0 then .inf neg else .nan)
  else if ex = 0 then .fin neg fr f.emin
  else .fin neg (fr + 2 ^ f.mb) (f.emin + (ex : Int) - 1)

/-- Round the exact value num ÷ den to nearest, ties to even; overflow gives an infinity. -/
def Fmt.round (f : Fmt) (neg : Bool) (num den : Nat) : Nat :=
  if num = 0 then f.zero neg
  else
    let l := (num.log2 : Int) - (den.log2 : Int)
    -- 2^(l-1) < num/den < 2^(l+1)
    let lt := if 0 ≤ l then decide (num < den <<< l.toNat) else decide (num <<< (-l).toNat < den)
    let ex := if lt then l - 1 else l
    let u := max (ex - (f.mb : Int)) f.emin
    let a := if 0 ≤ u then num else num <<< (-u).toNat
    let b := if 0 ≤ u then den <<< u.toNat else den
    let q := a / b
    let r := a % b
    let q' := if 2 * r > b ∨ (2 * r = b ∧ q % 2 = 1) then q + 1 else q
    -- q' is the fraction with its hidden bit, in units of 2^u
    let bits := if q' < 2 ^ f.mb then q' else (u - f.emin).toNat * 2 ^ f.mb + q'
    if bits ≥ f.expAll * 2 ^ f.mb then f.inf neg else b2n neg * 2 ^ (f.width - 1) + bits

/-- Round ± m × 2^e. -/
def Fmt.roundDy (f : Fmt) (neg : Bool) (m : Nat) (e : Int) : Nat :=
  if 0 ≤ e then f.round neg (m <<< e.toNat) 1 else f.round neg m (1 <<< (-e).toNat)

def Fmt.roundInt (f : Fmt) (i : Int) : Nat := f.round (decide (i < 0)) i.natAbs 1

def Fmt.roundRat (f : Fmt) (q : Rat) : Nat := f.round (decide (q < 0)) q.num.natAbs q.den

def Fl.isNan : Fl → Bool
  | .nan => true
  | _ => false

def Fl.isFin : Fl → Bool
  | .fin .. => true
  | _ => false

/-- The exact value of a finite number. -/
def Fl.toRat : Fl → Rat
  | .fin neg m e =>
    let r : Rat := if 0 ≤ e then ((m <<< e.toNat : Nat) : Rat) else mkRat m (1 <<< (-e).toNat)
    if neg then -r else r
  | _ => 0

def signed (neg : Bool) (m : Nat) : Int := if neg then -(m : Int) else m

def Fmt.enc (f : Fmt) : Fl → Nat
  | .nan => f.nan
  | .inf n => f.inf n
  | .fin n m e => f.roundDy n m e

/-- Sum of two finite values, exact: sign, magnitude and exponent, with the sign of an exact zero given. -/
def addFin (n1 : Bool) (m1 : Nat) (e1 : Int) (n2 : Bool) (m2 : Nat) (e2 : Int) : Fl :=
  let e := min e1 e2
  let i := signed n1 (m1 <<< (e1 - e).toNat) + signed n2 (m2 <<< (e2 - e).toNat)
  if i = 0 then .fin (n1 && n2) 0 e else .fin (decide (i < 0)) i.natAbs e

def Fl.add (a b : Fl) : Fl :=
  match a, b with
  | .nan, _ => .nan
  | _, .nan => .nan
  | .inf x, .inf y => if x = y then .inf x else .nan
  | .inf x, _ => .inf x
  | _, .inf y => .inf y
  | .fin n1 m1 e1, .fin n2 m2 e2 => addFin n1 m1 e1 n2 m2 e2

def Fl.neg : Fl → Fl
  | .nan => .nan
  | .inf n => .inf (!n)
  | .fin n m e => .fin (!n) m e

def Fl.abs : Fl → Fl
  | .nan => .nan
  | .inf _ => .inf false
  | .fin _ m e => .fin false m e

def Fl.isZero : Fl → Bool
  | .fin _ 0 _ => true
  | _ => false

def Fl.isNeg : Fl → Bool
  | .nan => false
  | .inf n => n
  | .fin n _ _ => n

def Fl.mul (a b : Fl) : Fl :=
  match a, b with
  | .nan, _ => .nan
  | _, .nan => .nan
  | .inf x, y => if y.isZero then .nan else .inf (x != y.isNeg)
  | x, .inf y => if x.isZero then .nan else .inf (x.isNeg != y)
  | .fin n1 m1 e1, .fin n2 m2 e2 => .fin (n1 != n2) (m1 * m2) (e1 + e2)

def Fmt.add (f : Fmt) (a b : Nat) : Nat := f.enc ((f.dec a).add (f.dec b))
def Fmt.sub (f : Fmt) (a b : Nat) : Nat := f.enc ((f.dec a).add (f.dec b).neg)
def Fmt.mul (f : Fmt) (a b : Nat) : Nat := f.enc ((f.dec a).mul (f.dec b))
/-- a × b + c rounded once (R321, R339, R535). -/
def Fmt.fma (f : Fmt) (a b c : Nat) : Nat := f.enc (((f.dec a).mul (f.dec b)).add (f.dec c))
def Fmt.neg (f : Fmt) (a : Nat) : Nat := f.enc (f.dec a).neg
def Fmt.abs (f : Fmt) (a : Nat) : Nat := f.enc (f.dec a).abs

def Fmt.div (f : Fmt) (a b : Nat) : Nat :=
  match f.dec a, f.dec b with
  | .nan, _ => f.nan
  | _, .nan => f.nan
  | .inf x, y => if y.isFin then f.inf (x != y.isNeg) else f.nan
  | x, .inf y => f.zero (x.isNeg != y)
  | .fin n1 m1 e1, .fin n2 m2 e2 =>
    if m2 = 0 then (if m1 = 0 then f.nan else f.inf (n1 != n2))
    else
      let d := e1 - e2
      if 0 ≤ d then f.round (n1 != n2) (m1 <<< d.toNat) m2 else f.round (n1 != n2) m1 (m2 <<< (-d).toNat)

/-- Integer square root, `k` result bits. -/
def isqrtBits : Nat → Nat → Nat → Nat
  | 0, _, r => r
  | k + 1, n, r =>
    let c := r + 2 ^ k
    isqrtBits k n (if c * c ≤ n then c else r)

def isqrt (n : Nat) : Nat := isqrtBits (n.log2 / 2 + 1) n 0

def Fmt.sqrt (f : Fmt) (a : Nat) : Nat :=
  match f.dec a with
  | .nan => f.nan
  | .inf n => if n then f.nan else f.inf false
  | .fin n m e =>
    if m = 0 then f.zero n
    else if n then f.nan
    else
      let k := 2 * f.mb + 4
      let odd := e % 2 ≠ 0
      let m' := if odd then m <<< (2 * k + 1) else m <<< (2 * k)
      let e' := if odd then e - 1 else e
      let s := isqrt m'
      let st := if s * s = m' then 2 * s else 2 * s + 1
      f.roundDy false st (e' / 2 - (k : Int) - 1)

/-- Ordered comparison of values that are not NaN. -/
def Fl.lt (a b : Fl) : Bool :=
  match a, b with
  | .nan, _ => false
  | _, .nan => false
  | .inf x, .inf y => x && !y
  | .inf x, _ => x
  | _, .inf y => !y
  | .fin n1 m1 e1, .fin n2 m2 e2 =>
    let e := min e1 e2
    decide (signed n1 (m1 <<< (e1 - e).toNat) < signed n2 (m2 <<< (e2 - e).toNat))

def Fl.eq (a b : Fl) : Bool := !a.isNan && !b.isNan && !a.lt b && !b.lt a

def Fmt.lt (f : Fmt) (a b : Nat) : Bool := (f.dec a).lt (f.dec b)
def Fmt.le (f : Fmt) (a b : Nat) : Bool := (f.dec a).lt (f.dec b) || (f.dec a).eq (f.dec b)
def Fmt.eq (f : Fmt) (a b : Nat) : Bool := (f.dec a).eq (f.dec b)
def Fmt.isNan (f : Fmt) (a : Nat) : Bool := (f.dec a).isNan
def Fmt.isFin (f : Fmt) (a : Nat) : Bool := (f.dec a).isFin
def Fmt.toRat (f : Fmt) (a : Nat) : Rat := (f.dec a).toRat

/-- num ÷ den to the nearest integer, ties to even. -/
def rneDiv (num : Int) (den : Nat) : Int :=
  let q := num / (den : Int)
  let r := (num % (den : Int)).toNat
  if 2 * r > den ∨ (2 * r = den ∧ q % 2 = 1) then q + 1 else q

/-- The nearest integer of a rational, ties to even. -/
def rneRat (q : Rat) : Int := rneDiv q.num q.den

/-- Convert between formats with one rounding. -/
def Fmt.conv (src dst : Fmt) (a : Nat) : Nat := dst.enc (src.dec a)

/-! ### binary32 and binary64 on bit vectors -/

namespace F32

def ofNat (n : Nat) : F32 := BitVec.ofNat 32 n
def add (a b : F32) : F32 := ofNat (b32.add a.toNat b.toNat)
def sub (a b : F32) : F32 := ofNat (b32.sub a.toNat b.toNat)
def mul (a b : F32) : F32 := ofNat (b32.mul a.toNat b.toNat)
def div (a b : F32) : F32 := ofNat (b32.div a.toNat b.toNat)
def sqrt (a : F32) : F32 := ofNat (b32.sqrt a.toNat)
def neg (a : F32) : F32 := ofNat (b32.neg a.toNat)
def abs (a : F32) : F32 := ofNat (b32.abs a.toNat)
def lt (a b : F32) : Bool := b32.lt a.toNat b.toNat
def le (a b : F32) : Bool := b32.le a.toNat b.toNat
def eq (a b : F32) : Bool := b32.eq a.toNat b.toNat
def isFin (a : F32) : Bool := b32.isFin a.toNat
def toRat (a : F32) : Rat := b32.toRat a.toNat
def ofRat (q : Rat) : F32 := ofNat (b32.roundRat q)
def ofInt (i : Int) : F32 := ofNat (b32.roundInt i)
/-- min and max as the block equations use them: the second operand where the comparison fails. -/
def min (a b : F32) : F32 := if lt b a then b else a
def max (a b : F32) : F32 := if lt a b then b else a
def one : F32 := 0x3F800000#32
def two : F32 := 0x40000000#32

end F32

namespace F64

def ofNat (n : Nat) : F64 := BitVec.ofNat 64 n
def add (a b : F64) : F64 := ofNat (b64.add a.toNat b.toNat)
def sub (a b : F64) : F64 := ofNat (b64.sub a.toNat b.toNat)
def mul (a b : F64) : F64 := ofNat (b64.mul a.toNat b.toNat)
def div (a b : F64) : F64 := ofNat (b64.div a.toNat b.toNat)
def fma (a b c : F64) : F64 := ofNat (b64.fma a.toNat b.toNat c.toNat)
def sqrt (a : F64) : F64 := ofNat (b64.sqrt a.toNat)
def neg (a : F64) : F64 := ofNat (b64.neg a.toNat)
def abs (a : F64) : F64 := ofNat (b64.abs a.toNat)
def lt (a b : F64) : Bool := b64.lt a.toNat b.toNat
def le (a b : F64) : Bool := b64.le a.toNat b.toNat
def eq (a b : F64) : Bool := b64.eq a.toNat b.toNat
def isFin (a : F64) : Bool := b64.isFin a.toNat
def toRat (a : F64) : Rat := b64.toRat a.toNat
def ofRat (q : Rat) : F64 := ofNat (b64.roundRat q)
def ofInt (i : Int) : F64 := ofNat (b64.roundInt i)
def max (a b : F64) : F64 := if lt a b then b else a
def one : F64 := 0x3FF0000000000000#64
def two : F64 := 0x4000000000000000#64

end F64

def to64 (a : F32) : F64 := F64.ofNat (b32.conv b64 a.toNat)
def to32 (a : F64) : F32 := F32.ofNat (b64.conv b32 a.toNat)

end Sys2Proof.Machine
end

