-- ==== Sys2Proof/Machine/Crc.lean ====
section
/-! DEFINITION. The check values of R179, R443 and R524, and SHA-256 (FIPS 180-4) for the digests of R106, R324,
R468 and R469. SHA-256 comes from the standard that the spec names, not from the spec (PRESUMED, log 8). -/

namespace Sys2Proof.Machine

/-- One step of a reflected CRC-32 register. -/
def crcRStep (poly c : BitVec 32) : BitVec 32 := if c.getLsbD 0 then (c >>> 1) ^^^ poly else c >>> 1

def crcRBits (poly : BitVec 32) : Nat → BitVec 32 → BitVec 32
  | 0, c => c
  | n + 1, c => crcRBits poly n (crcRStep poly c)

def crcRByte (poly c : BitVec 32) (b : Byte) : BitVec 32 := crcRBits poly 8 (c ^^^ b.setWidth 32)

/-- A reflected CRC-32 with initial value and final XOR FFFFFFFFh; `poly` is the bit-reversed polynomial. -/
def crcR (poly : BitVec 32) (bs : List Byte) : BitVec 32 :=
  (bs.foldl (crcRByte poly) 0xFFFFFFFF#32) ^^^ 0xFFFFFFFF#32

/-- CRC-32 with polynomial 04C11DB7h (R179); EDB88320h is its reversal. -/
def crc32 (bs : List Byte) : BitVec 32 := crcR 0xEDB88320#32 bs

/-- CRC-32 with polynomial F4ACFB13h (R443); C8DF352Fh is its reversal. -/
def uslCrc (connId : W32) (pdu : List Byte) : BitVec 32 := crcR 0xC8DF352F#32 (leBytes 4 connId.toNat ++ pdu)

def crc16Bits : Nat → BitVec 16 → BitVec 16
  | 0, c => c
  | n + 1, c => crc16Bits n (if c.getMsbD 0 then (c <<< 1) ^^^ 0x1021#16 else c <<< 1)

/-- CRC-16, polynomial 1021h, initial FFFFh, not reflected, no final XOR (R524). -/
def crc16 (bs : List Byte) : BitVec 16 :=
  bs.foldl (fun c b => crc16Bits 8 (c ^^^ (BitVec.shiftLeft (b.setWidth 16) 8))) 0xFFFF#16

/-! ### SHA-256 (FIPS 180-4)

The standard takes its constants from the first primes; so does the model. Words are numbers below 2^32. -/

/-- The first `n` primes from `k` on, with fuel. -/
def primesFrom : Nat → Nat → Nat → List Nat
  | 0, _, _ => []
  | fuel + 1, n, k =>
    if n = 0 then []
    else if (List.range k).all fun q => decide (q < 2) || decide (k % q ≠ 0) then k :: primesFrom fuel (n - 1) (k + 1)
    else primesFrom fuel n (k + 1)

/-- The greatest `r` with r^e ≤ x, bit by bit from bit `b` - 1 down; `r` holds the bits found. -/
def rootBits (e x : Nat) : Nat → Nat → Nat
  | 0, r => r
  | b + 1, r => rootBits e x b (if (r + 2 ^ b) ^ e ≤ x then r + 2 ^ b else r)

/-- 32 bits of the fraction of the e-th root of `p`. -/
def rootFrac (e p : Nat) : Nat := rootBits e (p * 2 ^ (32 * e)) 40 0 % 2 ^ 32

def shaPrimes : List Nat := primesFrom 312 64 2

/-- The steps' constants, from the cube roots of the first 64 primes. -/
def shaRoots : List Nat := shaPrimes.map (rootFrac 3)

def rotr32 (x n : Nat) : Nat := (x >>> n) ||| (x % 2 ^ n) <<< (32 - n)

/-- The schedule's next word from the words before it, newest first. -/
def shaNext (w : List Nat) : Nat :=
  let mix := fun (j a b c : Nat) => let x := w.getD j 0; (rotr32 x a) ^^^ (rotr32 x b) ^^^ (x >>> c)
  (mix 1 17 19 10 + w.getD 6 0 + mix 14 7 18 3 + w.getD 15 0) % 2 ^ 32

/-- One step of the compression. A step makes one new word in each half of the register, so the register is kept as the
last four words that each half made, newest first. -/
def shaStep (k w : Nat) : List Nat × List Nat → List Nat × List Nat
  | (xs@(x :: x1 :: x2 :: x3 :: _), ys@(y :: y1 :: y2 :: y3 :: _)) =>
    let t := y3 + ((rotr32 y 6) ^^^ (rotr32 y 11) ^^^ (rotr32 y 25)) + (y2 ^^^ (y &&& (y1 ^^^ y2))) + k + w
    let u := ((rotr32 x 2) ^^^ (rotr32 x 13) ^^^ (rotr32 x 22)) + ((x &&& x1) ||| (x2 &&& (x ||| x1)))
    (((t + u) % 2 ^ 32) :: xs.take 3, ((x3 + t) % 2 ^ 32) :: ys.take 3)
  | r => r

/-- All steps of one block: each takes the oldest of the 16 latest schedule words and makes the next. -/
def shaSteps : List Nat → List Nat → List Nat × List Nat → List Nat × List Nat
  | [], _, r => r
  | k :: ks, w, r => shaSteps ks (shaNext w :: w.take 15) (shaStep k (w.getD 15 0) r)

/-- The big-endian words of a byte string, oldest first. -/
def beWords : Nat → List Byte → List Nat
  | 0, _ => []
  | n + 1, bs => beNat (bs.take 4) :: beWords n (bs.drop 4)

def shaFeed (r : List Nat × List Nat) (block : List Byte) : List Nat × List Nat :=
  let t := shaSteps shaRoots (beWords 16 block).reverse r
  let add := fun (a b : List Nat) => List.zipWith (fun x y => (x + y) % 2 ^ 32) a b
  (add r.1 t.1, add r.2 t.2)

/-- `n` blocks of 64 bytes. -/
def shaFeeds : Nat → List Byte → List Nat × List Nat → List Nat × List Nat
  | 0, _, r => r
  | n + 1, bs, r => shaFeeds n (bs.drop 64) (shaFeed r (bs.take 64))

/-- SHA-256 of a byte string: a one bit, zeros and the length in bits fill the last block. -/
def sha256 (bs : List Byte) : List Byte :=
  let blocks := (bs.length + 72) / 64
  let m := bs ++ 0x80#8 :: List.replicate (64 * blocks - bs.length - 9) 0 ++ beBytes 8 (8 * bs.length)
  let iv := (shaPrimes.take 8).map (rootFrac 2)
  let r := shaFeeds blocks m (iv.take 4, iv.drop 4)
  (r.1 ++ r.2).flatMap (beBytes 4)

end Sys2Proof.Machine
end

