-- ==== Sys2Proof/ImageTypes.lean ====
section
/-! DEFINITION. The Eupor image as plain data: one structure for each section of R104 whose fields are those of the
section's layout table, and the whole image. `Machine/ImageParse.lean` reads these from the image's bytes. -/

namespace Sys2Proof

/-- A slot reference (R33). -/
structure SlotRef where
  slot : Nat
  bitpos : Nat
  widthM1 : Nat
  wide : Bool
  deriving DecidableEq, Repr

/-- An optional slot reference or slot index: the encodings that use 0 for "none" are read as `none`. -/
abbrev OptSlot := Option Nat

/-- STATION (R107). -/
structure StationSec where
  stationId : Nat := 0
  slotA : Nat := 0
  slotB : Nat := 1
  slotRef : Nat := 2
  preferred : Nat := 0
  deriving DecidableEq, Repr

/-- One lane of CYCLE (R152). -/
structure LaneCfg where
  enable : Bool := false
  mult : Nat := 1
  offset : Nat := 0
  deriving DecidableEq, Repr

/-- CYCLE (R152); `ret` is the ascending list of retentive slots with their TYPE codes. -/
structure CycleSec where
  base : Nat := 400000
  lanes : List LaneCfg := []
  ovrLimit : Nat := 1
  ret : List (Nat × Nat) := []
  deriving DecidableEq, Repr

/-- REGINIT (R145). -/
structure RegInitSec where
  guardSel : W64 := 0
  tgKey : Nat := 1
  sysSlot : Nat := 0
  entries : List (Nat × W32) := []
  deriving DecidableEq, Repr

/-- DIAG (R534). -/
structure DiagSec where
  scrubEn : Bool := false
  retryMax : Nat := 1
  reinitMax : Nat := 1
  resetMax : Nat := 1
  pcycMax : Nat := 0
  retryDelay : Nat := 1
  ladderWindow : Nat := 10
  safeMask : Nat := 0
  deriving DecidableEq, Repr

/-- A source of a block input (R211). -/
inductive InSrc where
  | slot (r : SlotRef)
  | out (inst : Nat) (n : Nat)
  | const (i : Nat)
  deriving DecidableEq, Repr

/-- An input descriptor (R211). -/
structure InDesc where
  src : InSrc
  ignq : Bool := false
  inv : Bool := false
  deriving DecidableEq, Repr

/-- A block instance record (R210) with the lane whose list holds it (R209). -/
structure Inst where
  ident : Nat
  btype : Nat
  dtype : Nat
  rinit : Bool
  lane : Nat
  ins : List InDesc
  binds : List (Option SlotRef)
  params : List W32
  deriving DecidableEq, Repr

/-- NETWORK (R209); `insts` holds the L0 list first, then L1, L2 and L3. -/
structure NetSec where
  insts : List Inst := []
  consts : List W32 := []
  deriving DecidableEq, Repr

/-- A domain record (R264); `dirRef` is `none` for forward always, `statBase` `none` for FFFFh. -/
structure DomCfg where
  enable : Bool := false
  mode : Nat := 0
  missing : Nat := 0
  teeth : Nat := 0
  periodRev : Nat := 1
  alphaShift : Nat := 0
  lossRatio : Nat := 5
  invDir : Bool := false
  camRev : Nat := 0
  zero : Nat := 0
  limit : Nat := 0
  refDio : Nat := 255
  dirRef : Option SlotRef := none
  statBase : Option Nat := none
  deriving DecidableEq, Repr

/-- A milestone slot record (R265); `ctl` is the initial MS_SLOT_CTL word. -/
structure MsSlotCfg where
  num : Nat
  ctl : W32
  tgt : Nat
  endv : Nat
  win : Nat
  out : W32
  tgtRef : Option SlotRef
  endRef : Option SlotRef
  armRef : Option SlotRef
  resRef : Option SlotRef
  maxPulse : Nat
  deriving DecidableEq, Repr

/-- A sync set (R266). -/
structure SyncSet where
  closeDio : Nat
  fbDio : Nat
  fbFalling : Bool
  deadbus : Bool
  pulse : Nat
  ct0 : Nat
  ctMin : Nat
  ctMax : Nat
  auxDelay : Nat
  ctRef : Option SlotRef
  slipMin : Int
  slipMax : Int
  slipAccMax : Nat
  duMax : Nat
  uMin : Nat
  uMax : Nat
  phMax : Nat
  deriving DecidableEq, Repr

/-- MILESTONES (R263); `doms` has eight entries. -/
structure MsSec where
  doms : List DomCfg := []
  slots : List MsSlotCfg := []
  syncs : List SyncSet := []
  deriving DecidableEq, Repr

/-- A loop context record (R305). -/
structure LoopCfg where
  ctx : Nat
  law : Nat
  trig : Nat
  period : Nat
  offset : Nat
  deadline : Nat
  profile : Bool
  initMode : Nat
  regions : Nat
  missLimit : Nat
  supvAct : Nat
  olo : F32
  ohi : F32
  orate : F32
  hrate : F32
  hys : F32
  vmax : F32
  amax : F32
  jmax : F32
  feLim : F32
  feTime : Nat
  satTime : Nat
  manv0 : F32
  pvRef : Option SlotRef
  spRef : Option SlotRef
  cspRef : Option SlotRef
  ffRef : Option SlotRef
  trkRef : Option SlotRef
  manRef : Option SlotRef
  modeRef : Option SlotRef
  schedRef : Option SlotRef
  outBind : Option SlotRef
  statBind : Option SlotRef
  pspBind : Option SlotRef
  banks : List F32
  deriving DecidableEq, Repr

/-- LOOPS (R304). -/
structure LoopSec where
  ctxs : List LoopCfg := []
  deriving DecidableEq, Repr

/-- An operand record (R331). -/
structure SlvOp where
  kind : Nat
  type : Nat
  badpol : Nat
  ref : SlotRef
  stride : Nat
  value : F64
  deriving DecidableEq, Repr

/-- A term record (R332); `cshift` is signed and `opnd` is `none` for FFFFh. -/
structure SlvTerm where
  target : Nat
  rowfix : Bool
  colfix : Bool
  row : Nat
  col : Nat
  k0 : Nat
  k1 : Nat
  cshift : Int
  opnd : Option Nat
  coef : F64
  deriving DecidableEq, Repr

/-- A publication record (R333). -/
structure SlvPub where
  var : Nat
  wide : Bool
  slot : Nat
  init : F64
  deriving DecidableEq, Repr

/-- A problem record (R330, R338). -/
structure SlvCfg where
  num : Nat
  warm : Bool
  n : Nat
  nvs : Nat
  nvf : Nat
  nes : Nat
  nef : Nat
  nis : Nat
  nif : Nat
  pmult : Nat
  poffset : Nat
  dlmult : Nat
  statBind : Option SlotRef
  sig : List Byte
  iterMax : Nat
  shiftMax : Nat
  tolp : Nat
  told : Nat
  piv : Nat
  dep : Nat
  reg : Nat
  resfail : Nat
  ops : List SlvOp
  terms : List SlvTerm
  pubs : List SlvPub
  deriving DecidableEq, Repr

/-- SOLVER (R329). -/
structure SlvSec where
  probs : List SlvCfg := []
  deriving DecidableEq, Repr

/-- An AI record (R385). -/
structure AiCfg where
  ch : Nat
  mode : Nat
  trig : Nat
  hart : Nat
  filt : Nat
  engLo : F32
  engHi : F32
  valBind : Option SlotRef
  statBind : Option SlotRef
  hstale : Nat
  deriving DecidableEq, Repr

/-- An AO record (R386). -/
structure AoCfg where
  ch : Nat
  mode : Nat
  hart : Nat
  badact : Nat
  lossHigh : Bool
  holdMs : Nat
  hstale : Nat
  engLo : F32
  engHi : F32
  src : SlotRef
  rbBind : Option SlotRef
  statBind : Option SlotRef
  safeval : Nat
  deriving DecidableEq, Repr

/-- A DIO record (R387). -/
structure DioCfg where
  ch : Nat
  kind : Nat
  filt : Nat
  inv : Bool
  safeOn : Bool
  badact : Nat
  oldet : Bool
  src : Option SlotRef
  bind : Option SlotRef
  deriving DecidableEq, Repr

/-- A HART entry (R388); `ao` is KIND 1. -/
structure HartEntry where
  ao : Bool
  ch : Nat
  addr : Nat
  var : Nat
  ref : SlotRef
  deriving DecidableEq, Repr

/-- FIELDIO (R384). -/
structure FieldSec where
  twsup : Nat := 0
  scanPhase : Nat := 0
  ai : List AiCfg := []
  ao : List AoCfg := []
  dio : List DioCfg := []
  hart : List HartEntry := []
  deriving DecidableEq, Repr

/-- A map entry of a remote station (R417). -/
structure RioMap where
  tx : Bool
  substUncertain : Bool
  bitofs : Nat
  ref : SlotRef
  subst : W32
  deriving DecidableEq, Repr

/-- A station entry (R417); the Ethernet entry adds the station's IPv4 address. -/
structure StationCfg where
  addr : Nat
  ip : W32 := 0
  missLimit : Nat
  rxLen : Nat
  txLen : Nat
  hold : Nat
  statSlot : Nat
  maps : List RioMap
  deriving DecidableEq, Repr

/-- A filter entry (R418). -/
structure CanFilter where
  ide : Bool
  ident : Nat
  mask : Nat
  dest : Nat
  deriving DecidableEq, Repr

/-- A CAN channel record (R416) with its stations and filters. -/
structure CanCfg where
  ch : Nat
  role : Nat
  brs : Bool
  listen : Bool
  tdcEn : Bool
  addr : Nat
  nbrp : Nat
  ntseg1 : Nat
  ntseg2 : Nat
  nsjw : Nat
  dtseg1 : Nat
  dtseg2 : Nat
  dsjw : Nat
  tdco : Nat
  idBase : Nat
  lead : Nat
  busoffHold : Nat
  statBind : Option SlotRef
  stations : List StationCfg
  filters : List CanFilter
  deriving DecidableEq, Repr

/-- CAN (R415): the configured channels in ascending order. -/
structure CanSec where
  chans : List CanCfg := []
  deriving DecidableEq, Repr

/-- ETH (R449). With ROLE 2 `stations` holds the single entry of the master link. -/
structure EthSec where
  e1En : Bool := true
  e2En : Bool := true
  prp : Bool := true
  ptpEn : Bool := false
  speed : Nat := 0
  ptpDomain : Nat := 0
  ptpTransport : Nat := 0
  ipA : W32 := 0
  ipB : W32 := 0
  ipRef : W32 := 0
  ipSvc : W32 := 0
  netmask : W32 := 0
  gateway : W32 := 0
  stepNs : Nat := 1000
  role : Nat := 0
  addr : Nat := 0
  lead : Nat := 0
  statBind : Option SlotRef := none
  stations : List StationCfg := []
  deriving DecidableEq, Repr

/-- A safety connection record (R450). -/
structure UslCfg where
  conn : Nat
  sink : Bool
  medium : Nat
  reint : Bool
  timechk : Bool
  connId : W32
  peer : W32
  wd : Nat
  len : Nat
  seqwin : Nat
  statSlot : Nat
  maps : List RioMap
  deriving DecidableEq, Repr

/-- USL (R450). -/
structure UslSec where
  conns : List UslCfg := []
  deriving DecidableEq, Repr

/-- A brake channel record (R472). -/
structure BrakeCfg where
  ch : Nat
  tpWidth : Nat
  tpPeriod : Nat
  minOff : Nat
  iMin : Nat
  testHold : Nat
  testInterval : Nat
  relRef : SlotRef
  permRef : Option SlotRef
  torqRef : Option SlotRef
  statBind : Option SlotRef
  deriving DecidableEq, Repr

/-- SAFEBRAKE (R472). -/
structure BrakeSec where
  salt : List Byte := []
  verifier : List Byte := []
  chans : List BrakeCfg := []
  deriving DecidableEq, Repr

/-- A mirror entry (R477). -/
structure MirrorEntry where
  src : Nat
  dst : Nat
  count : Nat
  deriving DecidableEq, Repr

/-- PAIR (R477). -/
structure PairSec where
  single : Bool := false
  revert : Bool := false
  plTimeout : Nat := 80000
  swapInterval : Nat := 0
  swapDwell : Nat := 0
  revertDelay : Nat := 0
  statSlot : Option Nat := none
  entries : List MirrorEntry := []
  deriving DecidableEq, Repr

/-- A Eupor image that has passed its checks (R103 to R107): header fields, IMAGE_DIGEST, the ownership map as the
ascending list of its non-zero entries, one structure for each section, `present` the TYPEs of the section table
(R104), and `raw` the bytes of each section for the byte comparison of R185 and the digest of R468. -/
structure Image where
  flevel : Nat := 1
  seqNo : Nat := 1
  diagprof : Nat := 0
  digest : List Byte := []
  prevDigest : List Byte := []
  present : List Nat := []
  raw : List (Nat × List Byte) := []
  own : List (Nat × W32) := []
  station : StationSec := {}
  cycle : CycleSec := {}
  net : NetSec := {}
  loops : LoopSec := {}
  ms : MsSec := {}
  slv : SlvSec := {}
  fld : FieldSec := {}
  can : CanSec := {}
  eth : EthSec := {}
  usl : UslSec := {}
  brake : BrakeSec := {}
  reginit : RegInitSec := {}
  pair : PairSec := {}
  diag : DiagSec := {}
  deriving DecidableEq, Repr

end Sys2Proof
end

