-- ==== Sys2Proof/Machine/Ecdsa.lean ====
section
/-! DEFINITION. ECDSA over the curve P-256 with SHA-256, the one signature that the spec names (R97, R99, R100, R106,
R433). The curve and the algorithm come from FIPS 186, which the spec only names (PRESUMED, log 8). -/

namespace Sys2Proof.Machine

/-- The field's modulus, the order of the base point, and the curve's constant: y² = x³ - 3x + b. -/
def p256P : Nat := 2 ^ 256 - 2 ^ 224 + 2 ^ 192 + 2 ^ 96 - 1
def p256N : Nat := 0xFFFFFFFF00000000FFFFFFFFFFFFFFFFBCE6FAADA7179E84F3B9CAC2FC632551
def p256B : Nat := 0x5AC635D8AA3A93E7B3EBBD55769886BC651D06B0CC53B0F63BCE3C3E27D2604B

/-- `a ^ e` modulo `m`, over the low `k` bits of `e`. -/
def powMod (m a e : Nat) : Nat → Nat
  | 0 => 1
  | k + 1 =>
    let h := powMod m a (e / 2) k
    if e % 2 = 1 then h * h % m * a % m else h * h % m

/-- The inverse modulo a prime of at most 256 bits. -/
def invMod (m a : Nat) : Nat := powMod m a (m - 2) 256

/-- A point of the curve in Jacobian coordinates; z = 0 is the point at infinity. -/
structure CurvePt where
  x : Nat
  y : Nat
  z : Nat
  deriving DecidableEq, Repr

def CurvePt.base : CurvePt where
  x := 0x6B17D1F2E12C4247F8BCE6E563A440F277037D812DEB33A0F4A13945D898C296
  y := 0x4FE342E2FE1A7F9B8EE7EB4A7C0F9E162BCE33576B315ECECBB6406837BF51F5
  z := 1

def CurvePt.inf : CurvePt := { x := 1, y := 1, z := 0 }

/-- Subtraction in the field. -/
def subP (a b : Nat) : Nat := (a + (p256P - b % p256P)) % p256P

def CurvePt.double (q : CurvePt) : CurvePt :=
  let zz := q.z * q.z % p256P
  let yy := q.y * q.y % p256P
  let m := 3 * (subP q.x zz * ((q.x + zz) % p256P)) % p256P
  let s := 4 * q.x * yy % p256P
  let x := subP (m * m) (2 * s)
  { x := x, y := subP (m * subP s x) (8 * (yy * yy % p256P)), z := 2 * q.y * q.z % p256P }

def CurvePt.add (q r : CurvePt) : CurvePt :=
  if q.z = 0 then r
  else if r.z = 0 then q
  else
    let qz := q.z * q.z % p256P
    let rz := r.z * r.z % p256P
    let u := q.x * rz % p256P
    let v := q.y * rz % p256P * r.z % p256P
    let h := subP (r.x * qz) u
    let d := subP (r.y * qz % p256P * q.z) v
    if h = 0 then (if d = 0 then q.double else .inf)
    else
      let hh := h * h % p256P
      let hc := h * hh % p256P
      let w := u * hh % p256P
      let x := subP (d * d) (hc + 2 * w)
      { x := x, y := subP (d * subP w x) (v * hc % p256P), z := h * q.z % p256P * r.z % p256P }

/-- a·P + b·Q over the low `k` bits of both factors, from the highest down. -/
def curveSum (p q pq : CurvePt) (a b : Nat) : Nat → CurvePt → CurvePt
  | 0, acc => acc
  | k + 1, acc =>
    let t := acc.double
    let t := match a.testBit k, b.testBit k with
      | true, true => t.add pq
      | true, false => t.add p
      | false, true => t.add q
      | false, false => t
    curveSum p q pq a b k t

/-- A public key's point lies on the curve. -/
def onCurve (x y : Nat) : Bool :=
  decide (x < p256P ∧ y < p256P ∧ y * y % p256P = (subP (x * x % p256P * x) (3 * x) + p256B) % p256P)

/-- The signature (r, s) of a digest verifies under the public key (x, y). -/
def ecdsaOk (key : Nat × Nat) (digest : List Byte) (r s : Nat) : Bool :=
  if !onCurve key.1 key.2 || decide (r = 0 ∨ p256N ≤ r ∨ s = 0 ∨ p256N ≤ s) then false
  else
    let w := invMod p256N s
    let q : CurvePt := { x := key.1, y := key.2, z := 1 }
    let t := curveSum .base q (CurvePt.base.add q) (beNat digest * w % p256N) (r * w % p256N) 256 .inf
    let zz := t.z * t.z % p256P
    decide (t.z ≠ 0) && (decide (r * zz % p256P = t.x) || (decide (r + p256N < p256P) && decide ((r + p256N) * zz % p256P = t.x)))

/-- A multiple of the base point as affine coordinates. -/
def basePoint (k : Nat) : Nat × Nat :=
  let t := curveSum .base .inf .base k 0 256 .inf
  let i := invMod p256P t.z
  (t.x * i % p256P * i % p256P, t.y * i % p256P * i % p256P * i % p256P)

/-- The signature of a digest by the private key `d` with the per-signature number `k`. -/
def ecdsaSign (d k : Nat) (digest : List Byte) : Nat × Nat :=
  let r := (basePoint k).1 % p256N
  (r, invMod p256N k * (beNat digest + r * d) % p256N)

end Sys2Proof.Machine
end

