-- ==== Sys2Proof/Machine/Cert.lean ====
section
/-! DEFINITION. X.509 certificates as far as the spec uses them: the device certificate (R97), the owner root (R99),
the chains of sessions and images (R100, R106). DER and the certificate's form come from X.690 and RFC 5280, which the
spec names by "X.509" and "DER" (PRESUMED, log 111). -/

namespace Sys2Proof.Machine

/-! ### DER -/

/-- One element: its tag, its content, its whole encoding. -/
structure Tlv where
  tag : Nat
  body : List Byte
  raw : List Byte
  deriving DecidableEq, Repr

/-- The length of an element that begins with tag and length octets: content length and header length. -/
def derLen : List Byte → Option (Nat × Nat)
  | _ :: n :: r =>
    let k := n.toNat
    if k < 128 then some (k, 2)
    else if k = 0x81 then (let l := beNat (r.take 1); if r.length < 1 ∨ l < 128 then none else some (l, 3))
    else if k = 0x82 then (let l := beNat (r.take 2); if r.length < 2 ∨ l < 256 then none else some (l, 4))
    else none
  | _ => none

/-- The first element and what follows it. -/
def derNext (bs : List Byte) : Option (Tlv × List Byte) :=
  match derLen bs with
  | some (l, h) =>
    if bs.length < h + l then none
    else some ({ tag := (bs.headD 0).toNat, body := slice bs h l, raw := bs.take (h + l) }, bs.drop (h + l))
  | none => none

/-- All elements of a content, with fuel; none where the content does not end with an element's end. -/
def derAll : Nat → List Byte → Option (List Tlv)
  | _, [] => some []
  | 0, _ => none
  | n + 1, bs =>
    match derNext bs with
    | some (t, r) => (derAll n r).map (t :: ·)
    | none => none

/-- The elements of a constructed element. -/
def Tlv.items (t : Tlv) : List Tlv := (derAll 64 t.body).getD []

/-- An element with tag and content. -/
def der (tag : Nat) (body : List Byte) : List Byte :=
  let n := body.length
  (BitVec.ofNat 8 tag) :: ((if n < 128 then leBytes 1 n else if n < 256 then 0x81#8 :: leBytes 1 n else 0x82#8 :: beBytes 2 n) ++ body)

/-- A positive INTEGER of at most 32 bytes: the shortest form. -/
def derNat (n : Nat) : List Byte :=
  let bs := (beBytes 33 n).dropWhile (· == 0)
  der 2 (if (bs.headD 0x80#8).getLsbD 7 then 0 :: bs else bs)

/-- A positive INTEGER in its shortest form. -/
def natOf (t : Tlv) : Option Nat :=
  let x := t.body.headD 0x80#8
  if t.tag ≠ 2 ∨ t.body = [] ∨ x.getLsbD 7 = true then none
  else if x = 0 ∧ 1 < t.body.length ∧ (t.body.getD 1 0).getLsbD 7 = false then none
  else some (beNat t.body)

/-! ### Certificates -/

def oidEcdsaSha256 : List Byte := [0x06, 0x08, 0x2A, 0x86, 0x48, 0xCE, 0x3D, 0x04, 0x03, 0x02]
def oidEcKeyP256 : List Byte :=
  [0x06, 0x07, 0x2A, 0x86, 0x48, 0xCE, 0x3D, 0x02, 0x01, 0x06, 0x08, 0x2A, 0x86, 0x48, 0xCE, 0x3D, 0x03, 0x01, 0x07]
/-- Attribute types: CN 3, serialNumber 5, O 10, OU 11. -/
def oidAttr (n : Nat) : List Byte := [0x06, 0x03, 0x55, 0x04, BitVec.ofNat 8 n]
def oidKeyUsage : List Byte := [0x06, 0x03, 0x55, 0x1D, 0x0F]

/-- What the module uses of a certificate. -/
structure Cert where
  tbs : List Byte
  issuer : List Byte
  subject : List Byte
  /-- The contents of the subject's OU attributes. -/
  ous : List (List Byte)
  notBefore : Tlv
  notAfter : Tlv
  key : Nat × Nat
  sigR : Nat
  sigS : Nat
  deriving DecidableEq, Repr

/-- The two INTEGERs of an ECDSA signature. -/
def sigPair (bits : List Byte) : Option (Nat × Nat) :=
  match derNext (bits.drop 1) with
  | some (t, []) =>
    match t.items with
    | [a, b] => if t.tag = 0x30 ∧ bits.take 1 = [0] then (natOf a).bind fun r => (natOf b).map fun s => (r, s) else none
    | _ => none
  | _ => none

/-- The public key of a SubjectPublicKeyInfo: an uncompressed point of P-256. -/
def pubKey (t : Tlv) : Option (Nat × Nat) :=
  match t.items with
  | [alg, bits] =>
    if alg.tag = 0x30 ∧ alg.body = oidEcKeyP256 ∧ bits.tag = 3 ∧ bits.body.length = 66 ∧ bits.body.take 2 = [0x00, 0x04] then
      some (beNat (slice bits.body 2 32), beNat (slice bits.body 34 32))
    else none
  | _ => none

/-- The contents of a name's attributes of type `n`. -/
def nameAttrs (n : Nat) (name : Tlv) : List (List Byte) :=
  name.items.flatMap fun set => set.items.filterMap fun av =>
    match av.items with
    | [o, v] => if o.raw = oidAttr n then some v.body else none
    | _ => none

/-- A version 3 certificate with a P-256 key and an ECDSA signature with SHA-256, and nothing after it. -/
def parseCert (bs : List Byte) : Option Cert :=
  match derNext bs with
  | some (c, []) =>
    match c.items with
    | [tbs, alg, sig] =>
      match tbs.items with
      | ver :: no :: alg2 :: iss :: val :: sub :: spki :: _ =>
        match pubKey spki, sigPair sig.body, val.items with
        | some k, some rs, [nb, na] =>
          if c.tag = 0x30 ∧ tbs.tag = 0x30 ∧ ver.raw = [0xA0, 0x03, 0x02, 0x01, 0x02] ∧ no.tag = 2 ∧
              alg.body = oidEcdsaSha256 ∧ alg2.body = oidEcdsaSha256 ∧ iss.tag = 0x30 ∧ sub.tag = 0x30 ∧ sig.tag = 3 then
            some { tbs := tbs.raw, issuer := iss.raw, subject := sub.raw, ous := nameAttrs 11 sub, notBefore := nb
                   notAfter := na, key := k, sigR := rs.1, sigS := rs.2 }
          else none
        | _, _, _ => none
      | _ => none
    | _ => none
  | _ => none

/-- `a` is issued by `b`: the names agree and the signature verifies under b's key. -/
def Cert.issuedBy (a b : Cert) : Bool := decide (a.issuer = b.subject) && ecdsaOk b.key (sha256 a.tbs) a.sigR a.sigS

/-- A certificate that OWNER_ENROL accepts (R99). -/
def rootOk (bs : List Byte) : Bool :=
  match parseCert bs with
  | some c => c.issuedBy c
  | none => false

/-- Each certificate is issued by the one after it, the last by the root. -/
def linked (root : Cert) : List Cert → Bool
  | [] => true
  | [c] => c.issuedBy root
  | c :: d :: r => c.issuedBy d && linked root (d :: r)

/-- A chain that ends at the owner root: one to three certificates below it, leaf first (R100); the leaf. -/
def chainLeaf (root : List Byte) (chain : List (List Byte)) : Option Cert :=
  match parseCert root, chain.mapM parseCert with
  | some r, some (c :: cs) => if cs.length < 3 ∧ linked r (c :: cs) = true then some c else none
  | _, _ => none

def ascii (s : String) : List Byte := s.toList.map fun c => BitVec.ofNat 8 c.toNat

/-- The host role that a leaf's OU names (R100); none where the leaf is of no host. -/
def leafRole (c : Cert) : Option Role :=
  if c.ous = [ascii "SXROLE-OWNER"] then some .owner
  else if c.ous = [ascii "SXROLE-ENGINEER"] then some .engineer
  else if c.ous = [ascii "SXROLE-OPERATOR"] then some .operator
  else if c.ous = [ascii "SXROLE-VIEWER"] then some .viewer
  else none

def leafImage (c : Cert) : Bool := decide (c.ous = [ascii "SXROLE-IMAGE"])

/-! ### Validity -/

/-- The number that ASCII digits spell. -/
def digits (bs : List Byte) : Nat := bs.foldl (fun n b => 10 * n + (b.toNat - 48)) 0

/-- Days from 1970-01-01 to a day of the Gregorian calendar. -/
def dayNumber (y m d : Nat) : Nat :=
  let y1 := if m ≤ 2 then y - 1 else y
  let m1 := if m ≤ 2 then m + 9 else m - 3
  365 * y1 + y1 / 4 - y1 / 100 + y1 / 400 + (153 * m1 + 2) / 5 + d - 719469

/-- A UTCTime or GeneralizedTime in ns; system time counts from 1970 (PRESUMED, log 111). -/
def timeNs (t : Tlv) : Nat :=
  let y := if t.tag = 0x17 then (let n := digits (t.body.take 2); if n < 50 then 2000 + n else 1900 + n) else digits (t.body.take 4)
  let r := t.body.drop (if t.tag = 0x17 then 2 else 4)
  let f := fun i => digits (slice r (2 * i) 2)
  1000000000 * (86400 * dayNumber y (f 0) (f 1) + 3600 * f 2 + 60 * f 3 + f 4)

/-- Every certificate of a chain is valid at `now`. -/
def datesOk (now : Nat) (chain : List (List Byte)) : Bool :=
  chain.all fun b => match parseCert b with
    | some c => decide (timeNs c.notBefore ≤ now ∧ now ≤ timeNs c.notAfter)
    | none => false

/-! ### The device certificate (R97) -/

/-- What the module's certificate holds beside the profile: the private key in the security element, the certificate's
number, the authority's name, the time of manufacture and the authority's signature. -/
structure Device where
  key : Nat := 1
  certNo : Nat := 1
  issuer : List Byte := [0x30, 0x00]
  notBefore : List Byte := [0x17, 0x0D] ++ ascii "260101000000Z"
  sigR : Nat := 1
  sigS : Nat := 1
  deriving DecidableEq, Repr

def nameAttr (n : Nat) (s : List Byte) : List Byte := der 0x31 (der 0x30 (oidAttr n ++ der 0x0C s))

/-- The serial number as R97 writes it: three letters and eight digits in two groups; SEC_SERIAL has them without blanks. -/
def serialText (sn : List Byte) : List Byte := slice sn 0 3 ++ ascii " " ++ slice sn 3 4 ++ ascii " " ++ slice sn 7 4

/-- The certificate of R97: `build` is true for SXPX960-L. -/
def deviceCert (v : Device) (build : Bool) (sn : List Byte) : List Byte :=
  let pub := basePoint v.key
  let alg := der 0x30 oidEcdsaSha256
  let name := der 0x30 (nameAttr 10 (ascii "Rolulaine Maritime Controls") ++
    nameAttr 11 (ascii (if build then "SXPX960-L" else "SXPX960-C")) ++
    nameAttr 3 (ascii "PX-960 " ++ serialText sn) ++ nameAttr 5 (serialText sn))
  let spki := der 0x30 (der 0x30 oidEcKeyP256 ++ der 3 ([0x00, 0x04] ++ beBytes 32 pub.1 ++ beBytes 32 pub.2))
  let usage := der 0xA3 (der 0x30 (der 0x30 (oidKeyUsage ++ [0x01, 0x01, 0xFF] ++ der 4 [0x03, 0x02, 0x07, 0x80])))
  let tbs := der 0x30 ([0xA0, 0x03, 0x02, 0x01, 0x02] ++ derNat v.certNo ++ alg ++ v.issuer ++
    der 0x30 (v.notBefore ++ der 0x18 (ascii "99991231235959Z")) ++ name ++ spki ++ usage)
  der 0x30 (tbs ++ alg ++ der 3 (0 :: der 0x30 (derNat v.sigR ++ derNat v.sigS)))

end Sys2Proof.Machine
end

