-- ==== Sys2Proof/Machine/Parts.lean ====
section
/-! DEFINITION. The parts of the module's state, one structure for each subject of the spec. Every field's default
is its reset value: the value the spec's tables give, or the value that INVENTORY.md's State section names. -/

namespace Sys2Proof.Machine

/-- Module states (R15), in the order of SYS_STATE's codes 0 to 6. -/
inductive ModState where
  | unconfigured
  | standby
  | active
  | referee
  | isolated
  | fault
  | safe
  deriving DecidableEq, Repr

/-- Where the module stands between no power and normal running (R74, R80, R93, R94, R520). -/
inductive Phase where
  /-- No power, or waiting for the mate contacts, a feed and PWR_EN (R80). -/
  | unpowered
  /-- Both mate contacts closed since `tm`; presence not yet accepted (R80). -/
  | mating (tm : Nat)
  /-- Presence accepted; power-on reset still held (R80). -/
  | present (tm : Nat)
  /-- Start-up runs from reset release to its outcome (R93). -/
  | startup
  /-- The firmware check failed: inert until the next power-up (R94). -/
  | inert
  /-- Start-up has ended (R96). -/
  | operating
  /-- The power-fail sequence runs since `tp` (R74). -/
  | powerFail (tp : Nat)
  /-- Held in reset after the power-fail sequence (R74). -/
  | dead
  /-- Held in reset by the RESET rung since `t0` (R520). -/
  | resetHold (t0 : Nat)
  deriving DecidableEq, Repr

/-- Feeds, PWR_EN and mate contacts (R61, R72, R73; SYS_POWER). -/
structure Power where
  feedAOk : Bool := true
  feedBOk : Bool := true
  /-- The feed lies in the range of 18 V to 32 V in which the module starts (R80). -/
  feedAStart : Bool := true
  feedBStart : Bool := true
  feedALost : Bool := false
  feedBLost : Bool := false
  pwrEn : Bool := true
  mate1 : Bool := true
  mate2 : Bool := true
  phase : Phase := .startup
  deriving DecidableEq, Repr

/-- Start-up (R93 to R96) and what is latched or sensed at reset release (R60, R78). -/
structure Boot where
  /-- Tick at which power-on reset was released, or at which copy selection restarted (R119, R178). -/
  tr : Nat := 0
  fwRun : Bool := false
  /-- The firmware check failed (R94). -/
  fwBad : Bool := false
  lampTest : Bool := true
  selftest : Option Bool := none
  seOk : Bool := false
  copyDone : Bool := false
  outcome : Nat := 0
  /-- Code and TYPE of the start-up load checks, and the copy the checks selected, before start-up ends. -/
  code : Nat := 0
  ldType : Nat := 0
  slot : Option Nat := none
  build : Bool := false
  serial : List Byte := List.replicate 12 0
  /-- The device certificate's further contents and its private key (R97, R98). -/
  dev : Device := {}
  /-- Backup-domain brown-out latch, and what it read at the latest start-up (R78). -/
  brownout : Bool := false
  wasBrownout : Bool := false
  rtc : Rat := 0
  rtcValid : Bool := false
  /-- The real-time clock holds a time: it has not stopped since it was set (R78, R429). -/
  rtcSet : Bool := true
  /-- The module has begun a start-up from copy selection only (R119, R178). -/
  fromCopy : Bool := false
  /-- Tick at which start-up last ended (R520). -/
  endTick : Nat := 0
  deriving DecidableEq, Repr

/-- The eject preparation (R84). -/
inductive Eject where
  | none
  | preparing (since : Nat) (prev : ModState) (handover : Bool)
  | prepared
  deriving DecidableEq, Repr

/-- Indicator patterns (R87). -/
inductive Led where
  | off
  | on
  | slow
  | fast
  | double
  | triple
  deriving DecidableEq, Repr

/-- The six indicators (R87, R88). -/
structure Leds where
  run : Led := .on
  role : Led := .on
  fault : Led := .on
  safe : Led := .on
  link : Led := .on
  remove : Led := .on
  deriving DecidableEq, Repr

/-- Key switch, eject request, indicators, PCYC_REQ_N (R62, R83 to R88). -/
structure Panel where
  key : Key := .unset
  keyFault : Bool := false
  eject : Eject := .none
  /-- The triple pattern of REMOVE runs until this tick. -/
  tripleEnd : Nat := 0
  leds : Leds := {}
  /-- The management core has stopped: its four indicators keep their last state (R88). -/
  mgmtStopped : Bool := false
  /-- PCYC_REQ_N is asserted since this tick. -/
  pcycReq : Option Nat := none
  deriving DecidableEq, Repr

/-- One stored copy: its bytes and its control block (R109). Erased: no bytes, FFh in the control block. -/
structure StoredCopy where
  bytes : List Byte := []
  digest : List Byte := []
  seqNo : Nat := 4294967295
  mark : W32 := 0xFFFFFFFF#32
  deriving DecidableEq, Repr

/-- Staging states (R116), in the order of SEC_STATUS STAGE. -/
inductive Stage where
  | empty
  | receiving
  | received
  | verified
  deriving DecidableEq, Repr

/-- The staging copy (R115, R116). -/
structure Staging where
  st : Stage := .empty
  len : Nat := 0
  /-- Bytes received so far. -/
  data : List Byte := []
  /-- The loading session; `none` while an adoption runs. -/
  sid : Option Nat := none
  lastData : Nat := 0
  /-- The verified image. -/
  img : Option Image := none
  deriving DecidableEq, Repr

/-- Identity, ownership, floor, stored copies, committed image (R97 to R120). -/
structure Store where
  /-- The owner root certificate and its SHA-256 fingerprint; `none` is UNOWNED (R99). -/
  owner : Option (List Byte × List Byte) := none
  floor : Nat := 0
  copyA : StoredCopy := {}
  copyB : StoredCopy := {}
  /-- Which copies were candidates at the latest copy selection (R110). -/
  candA : Bool := false
  candB : Bool := false
  /-- The selected copy: `some true` is B. -/
  selected : Option Bool := none
  /-- The committed image in force. -/
  image : Option Image := none
  /-- The image that copy selection passed and start-up will put in force. -/
  loaded : Option Image := none
  stage : Staging := {}
  /-- Duplication runs into this copy: `some true` is B (R114). -/
  dup : Option Bool := none
  /-- A commit whose mark write is pending: for an online change, and into copy B (R119, R120, R190). -/
  commit : Option (Bool × Bool) := none
  lastLoad : Nat := 0
  lastType : Nat := 0
  /-- The SEC function's fault refuses commands (R151). -/
  secFault : Bool := false
  sysFault : Bool := false
  deriving DecidableEq, Repr

/-- The register bus's own registers (R137 to R143). -/
structure Bus where
  accFlags : BitVec 7 := 0
  accCount : Nat := 0
  firstAddr : Nat := 0
  firstCause : Nat := 0
  firstMaster : Nat := 0
  cfgAddr : Nat := 0
  cfgFunc : Nat := 0
  cfgDiag : Bool := false
  cfgFail : Bool := false
  scratch : W32 := 0
  /-- Configuration registers whose parity fails (R141); a coefficient word of LOOP context n has the number
  10000h + 64 × n + its word (R310). -/
  parity : List Nat := []
  /-- Failing registers whose fault still stands (R143). -/
  parityUp : List Nat := []
  /-- What R125 needs of the present tick: the W1C bits that a write may clear, by register address (those that were set
  when it began and have not been set again); the registers written in it with the rank of the highest writer; the
  registers that their own function has updated in it; for each register written in it, the W1C bits that the latest
  write cleared and the values that its self-clearing fields acted on. -/
  lat0 : List (Nat × Nat) := []
  wrote : List (Nat × Nat) := []
  fnSet : List Nat := []
  undo : List (Nat × Nat × List Nat) := []
  deriving DecidableEq, Repr

/-- The staging of one milestone slot window (R271). -/
structure MsWin where
  index : Nat := 0
  arm : Bool := false
  rep : Bool := false
  dirsel : Nat := 0
  latepol : Bool := false
  endmode : Bool := false
  tgt : W32 := 0
  endv : W32 := 0
  win : W32 := 0
  deriving DecidableEq, Repr

/-- What the bus keeps for one master: tollgate (R129 to R131), shadows (R135, R136) and read windows (R228, R271,
R310, R357, R408, R530). -/
structure MasterSt where
  tgOpen : Option Nat := none
  tgFails : Nat := 0
  tgLock : Option Nat := none
  rsh : List (Nat × W32) := []
  wsh : List (Nat × W32) := []
  slotIdx : Nat := 0
  slotVal : W32 := 0
  slotQual : Byte := 0
  slotEntry : W32 := 0
  instIdx : Nat := 0
  findId : W32 := 0
  instValid : Bool := false
  instId : W32 := 0
  instType : W32 := 0
  instOq : List Byte := []
  instOut : List W32 := []
  instKs : List W32 := []
  ms : MsWin := {}
  slvSel : W32 := 0
  slvValid : Bool := false
  slvBusy : Bool := false
  slvHlow : Nat := 0
  slvVal : F64 := 0
  canSel : List Nat := [0, 0, 0, 0]
  canTx : List Nat := [0, 0, 0, 0]
  soIdx : Nat := 0
  soEnt : List W32 := []
  logNum : W32 := 0
  logValid : Bool := false
  logFrozen : Bool := false
  logSlot : Nat := 0
  logData : List W32 := []
  deriving DecidableEq, Repr

/-- A stored SMP response (R432); `ready` once the command has ended and the response has been sent. -/
structure Resp where
  req : Nat
  cmd : Nat := 0
  code : Nat := 0
  payload : List Byte := []
  ready : Bool := false
  deriving DecidableEq, Repr

/-- A response as it is sent (R432): CMD, LEN, REQID, CODE, three zero bytes, the payload. -/
def Resp.bytes (r : Resp) : List Byte :=
  leBytes 2 r.cmd ++ leBytes 2 r.payload.length ++ leBytes 4 r.req ++ leBytes 1 r.code ++ [0, 0, 0] ++ r.payload

/-- A request of a session (R432), with what the module learns outside it: SLOT_REF and length of the partner's image
(R118), and whether a fault condition of R462 stands. -/
structure SmpReq where
  sid : Nat
  req : Nat
  cmd : Nat
  p : List Byte := []
  partner : Option (Nat × Nat) := none
  stands : Bool := false
  deriving DecidableEq, Repr

/-- One open SMP session (R431, R432, R469). -/
structure Session where
  sid : Nat
  role : Role
  fp : List Byte
  lastRec : Nat
  high : Option Nat := none
  /-- The 16 latest accepted REQIDs with their responses, newest first. -/
  stored : List Resp := []
  /-- Tick at which the safety unlock was given. -/
  unlock : Option Nat := none
  m : MasterSt := {}
  deriving DecidableEq, Repr

/-- One slot's value and quality byte (R11). -/
abbrev Cell := W32 × Byte

/-- The process image as the canonical ascending list of the slots that differ from value 0, quality 00h (R12). -/
abbrev SlotMap := List (Nat × Cell)

/-- One block instance's outputs and kept state (R196, R207). -/
structure InstSt where
  outs : List (W64 × Byte) := []
  ks : List W32 := []
  /-- The kept state has been updated since the fresh start (R223). -/
  started : Bool := false
  /-- The instance has been evaluated since the fresh start (R198). -/
  pub : Bool := false
  /-- LASTH is valid (R205). -/
  hasLast : Bool := false
  /-- The previous input is to be set from the present input at the next evaluation (R188, R207); `rewireB` for CTUD's CD. -/
  rewire : Bool := false
  rewireB : Bool := false
  deriving DecidableEq, Repr

/-- A USER_EVENT to be recorded when the pass publishes (R227). -/
structure UserEvent where
  ident : Nat
  code : Nat
  v : W32
  deriving DecidableEq, Repr

/-- An unfinished or just ended pass of a lane (R156 to R158, R198). -/
structure Pass where
  h : Nat
  htick : Nat
  htime : Nat
  /-- The harvest view (R41), once its tick has ended. -/
  view : Option SlotMap := none
  /-- Every instance as at the harvest tick that began the pass (R198). -/
  pubs : List InstSt
  /-- The slots as their functions had left them then (R198). -/
  pslots : SlotMap := []
  /-- The lane's instances as this pass leaves them, in list order. -/
  cur : List InstSt
  /-- How many instances of the lane this pass has evaluated. -/
  next : Nat := 0
  /-- Slot values that this pass has written (R198). -/
  wslots : List (Nat × W32) := []
  ended : Bool := false
  ovr : Bool := false
  chk : Bool := false
  events : List UserEvent := []
  deriving DecidableEq, Repr

/-- One lane (R155 to R165; SEQ_LSTAT, SEQ_LCOST, SEQ_LPEAK, SEQ_LOVRH, SEQ_LPASS). -/
structure LaneSt where
  pass : Option Pass := none
  ovrCons : Nat := 0
  ovrTotal : Nat := 0
  cost : Nat := 0
  peak : Nat := 0
  ovrH : Nat := 0
  passes : Nat := 0
  /-- A due pass is deferred by an online change (R187). -/
  deferred : Bool := false
  /-- The lane begins a pass at the next harvest whether due or not (R166, R187). -/
  restart : Bool := false
  deriving DecidableEq, Repr

/-- The sequencers and the harvest grid (R154 to R166). -/
structure Seq where
  /-- The grid's origin Tg, and the harvest number of that tick (R154, R487). -/
  tg : Nat := 0
  h0 : Nat := 0
  /-- A harvest tick has fallen on this grid. -/
  begun : Bool := false
  h : Nat := 0
  htick : Nat := 0
  htime : Nat := 0
  /-- The latest harvest tick that was not skipped: the harvest whose passes publish (R410). -/
  hp : Nat := 0
  /-- The next harvest tick is skipped (R162). -/
  skip : Bool := false
  /-- The latest harvest tick was skipped (R163). -/
  skipped : Bool := false
  /-- A view has been fixed and evaluation has not yet begun (R47). -/
  due : Bool := false
  /-- Evaluation of this cycle runs (R157). -/
  eval : Bool := false
  /-- Evaluation has stopped at this tick and the deliver tick is due (R158). -/
  deliver : Option Nat := none
  /-- The mirror snapshot is due (R161). -/
  mirror : Bool := false
  fault : Bool := false
  /-- A SEQ fault stands: no pass begins until its rung (R166). -/
  hold : Bool := false
  cause : Nat := 0
  lanes : List LaneSt := [{}, {}, {}, {}]
  insts : List InstSt := []
  deriving DecidableEq, Repr

/-- One Barn bank (R179); `ok` is MARK 4E524142h with a passing CRC. -/
structure Bank where
  ok : Bool := false
  saveCount : Nat := 0
  cause : Nat := 0
  time : Nat := 0
  digest : List Byte := []
  crc : W32 := 0
  /-- Retentive slots in ascending order with value, quality and TYPE. -/
  entries : List (Nat × Cell × Nat) := []
  deriving DecidableEq, Repr

/-- A save in progress (R180). -/
structure Save where
  bank : Nat
  start : Nat
  content : Bank
  deriving DecidableEq, Repr

/-- Where a checkpoint request stands (R181). -/
inductive ChkReq where
  | none
  /-- Deferred until the tick given, and until a save in progress completes. -/
  | deferred (untilTick : Nat)
  /-- In effect; the snapshot falls at the next deliver tick (R180). -/
  | await
  deriving DecidableEq, Repr

/-- The Barn (R179 to R183). -/
structure Barn where
  banks : List Bank := [{}, {}, {}, {}]
  save : Option Save := none
  /-- A power-fail save that follows the save in progress. -/
  next : Option Bank := none
  lastSnap : Option Nat := none
  req : ChkReq := .none
  deriving DecidableEq, Repr

/-- States of an online change (R187); `loading` is an accepted OLC_PREPARE that has not answered. -/
inductive OlcState where
  | none
  | loading
  | prepared
  | draining
  deriving DecidableEq, Repr

/-- The online change (R185 to R190). -/
structure Olc where
  st : OlcState := .none
  t0 : Nat := 0
  img : Option Image := none
  sid : Nat := 0
  req : Nat := 0
  /-- Tick and harvest number of the latest switch (R488). -/
  tsTick : Option Nat := none
  deriving DecidableEq, Repr

/-- The prediction model of a domain from one update point on (R240, R241): the position there, in the cycle and with
its cycle count, the update point's time in 1/16 ticks, w_e, alpha, the furthest count that the prediction may reach,
counted from the same cycle's zero, and the direction of motion. -/
structure Mdl where
  pos : Int
  cyc : Int
  t16 : Nat
  we : F64 := 0
  alpha : F64 := 0
  lim : Option Int := none
  rev : Bool := false
  deriving DecidableEq, Repr

/-- One position domain (R229 to R249; MS_DSTAT to MS_DACC). -/
structure DomSt where
  /-- STATE code of MS_DSTAT. -/
  st : Nat := 0
  lostL : Bool := false
  cause : Nat := 0
  lostCount : Nat := 0
  /-- Cycle wraps where no model stands; D7's wraps before it became SYNCED. -/
  cycles : Int := 0
  mdl : Option Mdl := none
  /-- The model before the latest update point, which falls in tick `up` (R242). -/
  old : Option Mdl := none
  up : Nat := 0
  /-- w_k, T_k in ticks, and the intervals since the domain (re)started. -/
  w : F64 := 0
  tPrev : F64 := 0
  ivals : Nat := 0
  /-- Time of the last edge or update, and the last two intervals, in 1/16 ticks. -/
  last16 : Option Nat := none
  int16 : Nat := 0
  /-- Tooth or line number of the last edge, and revolution. -/
  tooth : Nat := 0
  revn : Nat := 0
  /-- Edges since the last cam marker (R236, R245). -/
  marker : Option Nat := none
  /-- A reference edge has been captured and line 0 is the next A edge (R235). -/
  refSeen : Bool := false
  /-- Updates since turning live, for D4 and D5 (R245). -/
  live : Nat := 0
  mag : F64 := 0
  /-- Slots fire only at edges (R249). -/
  edgeOnly : Bool := false
  /-- The model before the latest update point was one of edges only. -/
  edgeOld : Bool := false
  /-- Motion is in reverse. -/
  rev : Bool := false
  /-- The level of DIR_REF last seen (R249). -/
  dirSeen : Bool := false
  /-- A edges of a QUAD domain, newest first, back past the longest FILT: time in 1/16 ticks, reverse motion, and the
  line where it is known (R235, R379). -/
  lines : List (Nat × Bool × Option Nat) := []
  deriving DecidableEq, Repr

/-- A pulse in progress: its start tick, the domain's whole position then, and the DIO channel that it drives (R252). -/
structure MsPulse where
  start : Nat
  pos : Int
  dio : Nat
  deriving DecidableEq, Repr

/-- One milestone slot (R250 to R262). -/
structure MsSlotSt where
  num : Nat
  arm : Bool := false
  rep : Bool := false
  dirsel : Nat := 0
  latepol : Bool := false
  endmode : Bool := false
  tgt : Nat := 0
  endv : Nat := 0
  win : Nat := 0
  /-- The cycle in which the slot has fired. -/
  fired : Option Int := none
  result : Nat := 0
  count : Nat := 0
  ftick : Nat := 0
  pulse : Option MsPulse := none
  srcBad : Bool := false
  ct : Nat := 0
  /-- Fire tick whose feedback is awaited (R261). -/
  wait : Option Nat := none
  /-- The target last seen by the scheduler (R255). -/
  seenTgt : Option Nat := none
  /-- The slot was armed when last looked at (R255). -/
  seenArm : Bool := false
  /-- The cycle in which the slot cannot fire any more (R255). -/
  skipped : Option Int := none
  /-- Arming or disarming by another slot that takes effect in the next tick (R252): the tick, that slot's number, and the
  new ARM. -/
  nextArm : Option (Nat × Nat × Bool) := none
  /-- The status last written to the result slot (R268). -/
  lastStat : Option W32 := none
  deriving DecidableEq, Repr

/-- The milestone scheduler. -/
structure Ms where
  doms : List DomSt := List.replicate 8 {}
  slots : List MsSlotSt := []
  fault : Bool := false
  cause : Nat := 0
  /-- The tick in which the module became ACTIVE (R231). -/
  activeSince : Nat := 0
  /-- The tick in which each DIO output was last set off by a slot (R253). -/
  offAt : List (Nat × Nat) := []
  /-- D6 models since a close command whose feedback is awaited, newest first (R261). -/
  hist : List Mdl := []
  deriving DecidableEq, Repr

/-- The inputs a context latches in its trigger tick (R276). -/
structure LoopLatch where
  trig : Nat
  pv : Cell := (0, 0)
  sp : Option Cell := none
  csp : Option Cell := none
  ff : Option Cell := none
  trk : Option Cell := none
  man : Option Cell := none
  mode : Option Cell := none
  sched : Option Cell := none
  modeReq : Nat := 0
  swap : Bool := false
  manReg : F32 := 0
  /-- The coefficient words as they stood in the trigger tick. -/
  banks : List F32 := []
  deriving DecidableEq, Repr

/-- One loop context (R272 to R310). -/
structure CtxSt where
  n : Nat
  banks : List F32 := List.replicate 64 0
  aset : Nat := 0
  modeReq : Nat := 0
  man : F32 := 0
  /-- LOOP_CTL SWAP: a swap request that has not been latched (R290). -/
  swapReq : Bool := false
  swapPend : Bool := false
  bank : Nat := 0
  word : Nat := 0
  i : F32 := 0
  d1 : F32 := 0
  g1 : F32 := 0
  e1 : F32 := 0
  e2 : F32 := 0
  e3 : F32 := 0
  u1 : F32 := 0
  u2 : F32 := 0
  u3 : F32 := 0
  y1 : F32 := 0
  region : Nat := 0
  regionSet : Bool := false
  pp : F32 := 0
  pv : F32 := 0
  pa : F32 := 0
  lastSp : F32 := 0
  lastFf : F32 := 0
  lastMr : Option Nat := none
  lastMode : Option Nat := none
  /-- The bank in use at the last sample in which the law could run, with its words (R293). -/
  lastCoef : Option (Nat × List F32) := none
  restart : Bool := false
  pvHeld : Bool := false
  handover : Bool := false
  /-- Trigger tick of the last completed sample (R277). -/
  lastDone : Option Nat := none
  /-- Trigger tick of the previous sample, completed or not (R274). -/
  lastTrig : Option Nat := none
  latch : Option LoopLatch := none
  mode : Nat := 0
  profRun : Bool := false
  miss : Bool := false
  missHeld : Bool := false
  satHi : Bool := false
  satLo : Bool := false
  rateLim : Bool := false
  pvHold : Bool := false
  supv : Nat := 0
  supCause : Nat := 0
  supT : Nat := 0
  /-- The test applied at the last sample: 0 following error, 1 saturation (R301). -/
  supTest : Option Nat := none
  exceeded : Bool := false
  shed : Bool := false
  manLatch : Bool := false
  schedBad : Bool := false
  missL : Bool := false
  cref : Bool := false
  swapRef : Bool := false
  trigSkipL : Bool := false
  nonfin : Bool := false
  out : F32 := 0
  fe : F32 := 0
  missTotal : Nat := 0
  missCons : Nat := 0
  trigSkip : Nat := 0
  deriving DecidableEq, Repr

/-- The loop engine. -/
structure Loop where
  ctxs : List CtxSt := []
  /-- The sample in the engine: context, begin tick and the latch it computes from. -/
  run : List (Nat × Nat × LoopLatch) := []
  fault : Bool := false
  cause : Nat := 0
  deriving DecidableEq, Repr

/-- An assembled problem (R311, R321). -/
structure Mats where
  h : Nat := 0
  hm : List (List F64) := []
  g : List F64 := []
  em : List (List F64) := []
  e : List F64 := []
  cm : List (List F64) := []
  d : List F64 := []
  deriving DecidableEq, Repr

/-- The factors kept with a retained solution (R342): the active list with the mark of an equality row whose sign was
reversed (rows of E first, then rows of C), the columns of J, the columns of U, and the mark REG. -/
structure Fact where
  act : List (Nat × Bool) := []
  j : List (List F64) := []
  u : List (List F64) := []
  reg : Bool := false
  deriving DecidableEq, Repr

/-- The retained solution (R327, R342). -/
structure Retained where
  x : List F64
  /-- Multipliers, equality rows first. -/
  lam : List F64 := []
  sig : List Byte
  h : Nat
  /-- The factors and the matrices of the problem that produced it. -/
  fact : Option (Fact × Mats) := none
  deriving DecidableEq, Repr

/-- How a solve stops (R341, R344, R346). -/
inductive SolveEnd where
  | optimal
  | infeasible
  | notConvex
  | nonfinite
  | iterLimit
  deriving DecidableEq, Repr

/-- What a solve hands over (R341). -/
structure SolveRes where
  stop : SolveEnd := .optimal
  start : Nat := 0
  reg : Bool := false
  iter : Nat := 0
  x : List F64 := []
  /-- Multipliers, equality rows first. -/
  lam : List F64 := []
  fact : Fact := {}
  deriving DecidableEq, Repr

/-- Where a period stands. -/
inductive PerStage where
  | queued
  | assembling
  | assembled
  | solving
  | checking
  | decided (status : Nat)
  deriving DecidableEq, Repr

/-- A period in progress (R314). -/
structure Period where
  h : Nat
  deadline : Nat
  /-- The process image at the end of the start harvest tick, once that tick has ended (R315). -/
  view : Option SlotMap := none
  stage : PerStage := .queued
  asmState : Nat := 3
  res : SolveRes := {}
  deriving DecidableEq, Repr

/-- One solver problem (R313 to R357). -/
structure ProbSt where
  p : Nat
  per : Option Period := none
  mats : Option Mats := none
  ret : Option Retained := none
  /-- LAST values by operand and element (R319). -/
  lasts : List (Nat × Nat × F64) := []
  status : Nat := 0
  cls : Nat := 0
  start : Nat := 0
  reg : Bool := false
  age : Nat := 0
  iter : Nat := 0
  cycles : Nat := 0
  rescons : Nat := 0
  presp : F32 := 0
  presd : F32 := 0
  solved : Nat := 0
  fallback : Nat := 0
  /-- Fallback periods since the last SOLVED publication, once SOLVER_FALLBACK is recorded (R352). -/
  fbRun : Option Nat := none
  deriving DecidableEq, Repr

/-- The solver. -/
structure Slv where
  probs : List ProbSt := []
  /-- Problem in assembly, and problem in the engine, each with its begin tick. -/
  asm : Option (Nat × Nat) := none
  /-- The assembly that ended last, with its end tick. -/
  asmLast : Option (Nat × Nat) := none
  eng : Option (Nat × Nat) := none
  /-- Solutions handed over and not yet checked, oldest first (R337). -/
  resq : List Nat := []
  /-- The earliest ticks at which the next assembly and the next solve may begin (R316, R337). -/
  asmFree : Nat := 0
  engFree : Nat := 0
  fault : Bool := false
  cause : Nat := 0
  /-- The tick in which the module became ACTIVE (R314). -/
  activeSince : Nat := 0
  deriving DecidableEq, Repr

/-- One AI channel (R359 to R367); `cond` is the COND of the last result, 8 while a CONV fault stands. -/
structure AiSt where
  n : Nat
  cond : Nat := 0
  cfault : Bool := false
  y : F32 := 0
  restart : Bool := true
  raw : Int := 0
  hartOk : Bool := false
  hstat : Byte := 0
  condL : Bool := false
  hartErrL : Bool := false
  trigSkipL : Bool := false
  hartErr : Nat := 0
  trigSkip : Nat := 0
  lastTrig : Option Nat := none
  /-- Trigger tick of the conversion in progress. -/
  conv : Option Nat := none
  deriving DecidableEq, Repr

/-- A host pass-through transaction (R368, R435). -/
structure HartReq where
  sid : Nat
  req : Nat
  ch : Nat
  addr : Nat
  cmd : Nat
  data : List Byte
  deriving DecidableEq, Repr

/-- One HART modem (R365). -/
structure ModemSt where
  modem : Modem
  /-- The transaction in progress: polling address, command, attempt number and begin tick. -/
  run : Option (Nat × Nat × Nat × Nat) := none
  /-- The running transaction is the pass-through. -/
  passRun : Option HartReq := none
  queued : Option HartReq := none
  /-- Round-robin position. -/
  rr : Nat := 0
  /-- Addresses (channel, polling address) that have answered command 0 since their last response error. -/
  known : List (Nat × Nat) := []
  /-- Channel of the transaction in progress. -/
  ch : Nat := 0
  deriving DecidableEq, Repr

/-- One AO channel (R369 to R377). `sink`, `holdMs` and `lossHigh` are the channel processor's own copies of its record's
MODE, HOLDMS and LOSSLEVEL; it goes on without the module (R28, R391). -/
structure AoSt where
  n : Nat
  cfault : Bool := false
  clk : Nat := 0
  sink : Bool := false
  holdMs : Nat := 1
  lossHigh : Bool := false
  /-- The level in mA that the last valid frame carried; `none` is OFF or no frame yet. -/
  cmd : Option F32 := none
  /-- The level in mA that the channel drives; `none` is OFF or nothing. -/
  drv : Option F32 := none
  /-- Tick of the last valid frame received by the channel processor. -/
  lastFrame : Option Nat := none
  /-- The channel processor holds under R28, or has gone to LOSSLEVEL. -/
  hold : Bool := false
  loss : Bool := false
  /-- The channel's own frames have stopped: LINK or NOPWR (R375). -/
  noFrame : Bool := false
  testing : Bool := false
  /-- Tick since which the measured loop current has stayed at or above the next step's entry current (R376). -/
  stepAt : Nat := 0
  powered : Bool := false
  compl : Bool := false
  dev : Bool := false
  openL : Bool := false
  testBad : Bool := false
  meas : Nat := 0
  vterm : Nat := 0
  hartOk : Bool := false
  hstat : Byte := 0
  complL : Bool := false
  devL : Bool := false
  linkL : Bool := false
  hartErr : Nat := 0
  deriving DecidableEq, Repr

/-- One DIO channel (R378 to R382). -/
structure DioSt where
  n : Nat
  pin : Bool := false
  drv : Bool := false
  /-- Level that milestone slots ask for (R253). -/
  ms : Bool := false
  /-- COND code of the channel fault that stands. -/
  cond : Nat := 0
  cfault : Bool := false
  faultL : Bool := false
  /-- Capture timestamp of the accepted level (R379). -/
  cap : Nat := 0
  /-- Tick of the unit's latest rung: outputs follow R380 from the next one (R391). -/
  rungAt : Option Nat := none
  deriving DecidableEq, Repr

/-- AI, AO and DIO with their field supplies and faults. -/
structure Field where
  ai : List AiSt := []
  ao : List AoSt := (List.range 16).map fun n => { n := n }
  dio : List DioSt := (List.range 32).map fun n => { n := n }
  modems : List ModemSt := []
  /-- For each HART entry, the tick of its last GOOD or UNCERTAIN write, and whether it has gone stale. -/
  hlast : List (Option Nat × Bool) := []
  fsAi : Bool := false
  fsAo : Bool := false
  fsDioA : Bool := false
  fsDioB : Bool := false
  aiFault : Bool := false
  aiCause : Nat := 0
  aoFault : Bool := false
  aoCause : Nat := 0
  dioFault : Bool := false
  dioCause : Nat := 0
  deriving DecidableEq, Repr

/-- One remote station, or the master link of ROLE STATION (R168 to R172, R413). -/
structure StationSt where
  addr : Nat
  link : Nat := 0
  missed : Nat := 0
  undel : Nat := 0
  /-- Tick at which its input slots took STALE. -/
  stale : Option Nat := none
  subst : Bool := false
  /-- A frame for the latest SYNC has been accepted. -/
  seen : Bool := false
  deriving DecidableEq, Repr

/-- Transmit buffer states in the order of CAN_TXB_STAT. -/
inductive TxbState where
  | empty
  | pending
  | active
  | sent
  | cancelled
  | noack
  | clash
  | abandoned
  deriving DecidableEq, Repr

/-- A register-loaded transmit buffer (R399). -/
structure TxBuf where
  ident : Nat := 0
  ide : Bool := false
  dlc : Nat := 0
  fdf : Bool := false
  brs : Bool := false
  rtr : Bool := false
  data : List Byte := List.replicate 64 0
  st : TxbState := .empty
  attempts : Nat := 0
  /-- Consecutive attempts that were clashes (R397). -/
  clash : Nat := 0
  /-- CANCEL met the buffer ACTIVE (R403). -/
  cancel : Bool := false
  deriving DecidableEq, Repr

/-- A frame of the remote-I/O exchange or of USL waiting on a CAN channel (R411, R441). -/
structure QFrame where
  frame : CanFrame
  /-- The station it goes to, or whose master it answers; `none` for SYNC and USL frames. -/
  station : Option Nat := none
  /-- Consecutive attempts that were clashes (R397). -/
  clash : Nat := 0
  cancel : Bool := false
  deriving DecidableEq, Repr

/-- What a channel is sending. -/
inductive TxRef where
  | buf (i : Nat)
  | queue (f : QFrame)
  deriving DecidableEq, Repr

/-- A frame in a receive FIFO (R407). -/
structure RxFrame where
  frame : CanFrame
  filter : Nat
  tick : Nat
  seqn : Nat
  deriving DecidableEq, Repr

/-- One CAN channel (R392 to R421). -/
structure CanSt where
  n : Nat
  /-- STATE code of CAN_STAT. -/
  st : Nat := 0
  tec : Nat := 0
  recv : Nat := 0
  ackCons : Nat := 0
  /-- Identifiers whose clash has been recorded. -/
  clashRec : List Nat := []
  /-- The last measured TDCV. -/
  tdcv : Option Nat := none
  bufs : List TxBuf := List.replicate 16 {}
  queue : List QFrame := []
  active : Option TxRef := none
  fifo0 : List RxFrame := []
  fifo1 : List RxFrame := []
  seq0 : Nat := 0
  seq1 : Nat := 0
  ovfRec0 : Bool := false
  ovfRec1 : Bool := false
  busoffs : Nat := 0
  clashes : Nat := 0
  rxovf : Nat := 0
  rioerr : Nat := 0
  evt : BitVec 11 := 0
  busoffAt : Nat := 0
  fault : Bool := false
  cause : Nat := 0
  /-- HLOW of the latest SYNC sent (MASTER) or received (STATION), and its tick. -/
  syncH : Option Nat := none
  syncAt : Nat := 0
  stations : List StationSt := []
  deriving DecidableEq, Repr

/-- PTP (R426 to R429). -/
structure Ptp where
  /-- STATE code of PTP_STAT. -/
  st : Nat := 0
  port : Bool := false
  stepL : Bool := false
  lockL : Bool := false
  theta : Int := 0
  delay : Nat := 0
  gmid : W64 := 0
  good : Nat := 0
  /-- The best master received on E1, on E2, with the tick of its latest Announce (R426). -/
  a1 : Option (Announce × Nat) := none
  a2 : Option (Announce × Nat) := none
  /-- Tick of the latest Sync receipt (R428). -/
  syncAt : Option Nat := none
  /-- Ticks of the latest discipline to the real-time clock and of the latest write to it (R429). -/
  discAt : Nat := 0
  wrAt : Nat := 0
  deriving DecidableEq, Repr

/-- A received frame that waits for its copy on the other LAN (R423): sender, sequence number, port, arrival tick, and
whether the copy has come. -/
structure PrpSeen where
  mac : Nat
  seq : Nat
  e2 : Bool
  tick : Nat
  both : Bool := false
  deriving DecidableEq, Repr

/-- Ethernet (R422 to R440). -/
structure Eth where
  e1link : Bool := false
  e1spd : Nat := 0
  e2link : Bool := false
  e2spd : Nat := 0
  svc : Bool := false
  onlyA : Nat := 0
  onlyB : Nat := 0
  supSeq : Nat := 0
  /-- Tick of the latest supervision frame, and the sequence number of the latest redundancy trailer sent (R423). -/
  supAt : Option Nat := none
  rctSeq : Nat := 0
  /-- The frames with a redundancy trailer whose copy may still come (R423). -/
  prpSeen : List PrpSeen := []
  rioerr : Nat := 0
  fmtl : Bool := false
  latel : Bool := false
  dupl : Bool := false
  fault : Bool := false
  cause : Nat := 0
  syncH : Option Nat := none
  syncAt : Nat := 0
  stations : List StationSt := []
  ptp : Ptp := {}
  deriving DecidableEq, Repr

/-- One safety connection (R441 to R447). -/
structure UslSt where
  c : Nat
  /-- STATE code of USL_CSTAT. -/
  st : Nat := 0
  fsv : Bool := false
  reintRdy : Bool := false
  ackW : Bool := false
  cause : Nat := 0
  passL : Bool := false
  crcErr : Nat := 0
  seqErr : Nat := 0
  ageErr : Nat := 0
  passives : Nat := 0
  lastSeq : Option Nat := none
  /-- Consecutive PDUs accepted since passivation. -/
  good : Nat := 0
  /-- Tick at which the watchdog, or a source's wait for an ACK, expires. -/
  wd : Option Nat := none
  lastCrc : Option Nat := none
  /-- SEQ and tick of the DATA PDUs sent within the last WD ticks, newest first. -/
  sent : List (Nat × Nat) := []
  deriving DecidableEq, Repr

/-- The safety layer. -/
structure Usl where
  conns : List UslSt := []
  fault : Bool := false
  cause : Nat := 0
  deriving DecidableEq, Repr

/-- Brake channel states in the order of SO_BSTAT. -/
inductive BrakeState where
  | off
  | on
  | testing
  | faulted
  | testRequired
  deriving DecidableEq, Repr

/-- One brake channel (R454 to R465). -/
structure BrakeSt where
  k : Nat
  st : BrakeState := .off
  phase : Nat := 0
  phaseAt : Nat := 0
  fromReq : Bool := false
  due : Bool := false
  fcause : Nat := 0
  hs : Bool := false
  ls : Bool := false
  /-- The freewheel path is closed (R455, R459). -/
  freewheel : Bool := false
  abandL : Bool := false
  faultL : Bool := false
  /-- Start tick of the pulse in progress. -/
  pulse : Option Nat := none
  passed : Bool := false
  /-- The next pulse is the low side's, and the tick at which it starts. -/
  lowNext : Bool := false
  nextAt : Nat := 0
  /-- Tick in which the last passed pulse ended (R460). -/
  endAt : Option Nat := none
  /-- Ticks since which the high and the low switch have been without a passed pulse while ON. -/
  hsSince : Nat := 0
  lsSince : Nat := 0
  lastOff : Option Nat := none
  mA : Nat := 0
  vhs : Nat := 0
  vls : Nat := 0
  pulses : Nat := 0
  aband : Nat := 0
  testTime : Nat := 0
  /-- Tick of the channel's last passed test, for TEST_DUE. -/
  testAt : Option Nat := none
  deriving DecidableEq, Repr

/-- A change-log entry (R471). -/
structure ChangeEntry where
  num : Nat
  reverted : Bool := false
  seqNo : Nat
  time : Nat
  digest : List Byte
  who : List Byte
  deriving DecidableEq, Repr

/-- Safe brake control and the safety core's own store (R454 to R475, R523). -/
structure So where
  chans : List BrakeSt := [{ k := 0 }, { k := 1 }, { k := 2 }, { k := 3 }]
  fsSq : Bool := false
  /-- The slots on which the safety core's comparison disagreed at the latest deliver tick (R26). -/
  disagree : List Nat := []
  safeDigest : Option (List Byte) := none
  prevDigest : Option (List Byte) := none
  salt : List Byte := []
  verifier : List Byte := []
  safeLatch : Bool := false
  /-- Newest first, at most 64. -/
  changes : List ChangeEntry := []
  changeNum : Nat := 0
  pwdFail : Nat := 0
  pwdLock : Option Nat := none
  fault : Bool := false
  cause : Nat := 0
  deriving DecidableEq, Repr

/-- A takeover whose condition holds and whose tick tt has not come (R497, R498). -/
structure Takeover where
  cause : Nat
  granted : Nat
  deriving DecidableEq, Repr

/-- A planned hand-over in progress (R500). -/
structure Handover where
  hx : Nat
  moves : Nat := 0
  accepted : Bool := false
  /-- 0 command, 1 return, 2 swap test out, 3 swap test back, 4 key, 5 eject. -/
  kind : Nat := 0
  deriving DecidableEq, Repr

/-- The pair link, the mirror, shadows and takeover (R480 to R508). -/
structure Pair where
  partner : Option Hello := none
  rxTick : Nat := 0
  silent : Bool := true
  lane0 : Bool := false
  lane1 : Bool := false
  rx0 : Nat := 0
  rx1 : Nat := 0
  /-- FSEQ of the latest frame sent on lane 0, on lane 1 (R484). -/
  fseq0 : Nat := 0
  fseq1 : Nat := 0
  /-- Tick since which the partner has met R488. -/
  formed : Option Nat := none
  digEq : Bool := false
  diffRec : Bool := false
  /-- Initial shadows received since the pair formed. -/
  gotReg : Bool := false
  gotSlv : Bool := false
  /-- A REG or SOLVER shadow has been lost since the pair formed (R492). -/
  shLost : Bool := false
  /-- The fields below hold the last shadows received, or what this module itself left when it was last ACTIVE (R491). -/
  kept : Bool := false
  mirH : Option Nat := none
  mirTick : Nat := 0
  safetyH : Option Nat := none
  stationH : Option Nat := none
  shUsl : List UslShadow := []
  shSta : List StationShadow := []
  shLoop : List LoopShadow := []
  shMs : List MsShadow := []
  shSlv : List SlvShadow := []
  /-- The shadow grid: a harvest tick and its number. -/
  grid : Option (Nat × Nat) := none
  latency : Nat := 0
  align : Int := 0
  rx : List (Nat × MirrorMsg) := []
  mirrors : Nat := 0
  mlost : Nat := 0
  evt : BitVec 8 := 0
  hto : Nat := 0
  swapTime : Nat := 0
  swapRun : Option Nat := none
  swapFail : Bool := false
  swapPost : Bool := false
  /-- The tick at which the next swap test is due. -/
  swapDue : Nat := 0
  revertSince : Option Nat := none
  takeover : Option Takeover := none
  ho : Option Handover := none
  /-- OWNER_N is driven low by this module (R480). -/
  drive : Bool := false
  /-- Tick since which OWNER_N has read high (R481, log 25). -/
  highAt : Option Nat := some 0
  /-- Until this tick the partner's online change lets a STANDBY accept either digest (R488). -/
  olcEnd : Nat := 0
  /-- The partner has been STANDBY and in step since OLC_PREPARE (R187). -/
  olcWith : Bool := false
  refOk : Bool := false
  /-- Tick of the last valid ROUND; the referee has been taken as absent (R493). -/
  refTick : Nat := 0
  refLost : Bool := false
  lastRound : Nat := 0
  owner : Nat := 0
  /-- Last verdict received. -/
  verdict : Nat := 0
  round : Nat := 0
  reqFlag : Bool := false
  relinq : Bool := false
  /-- Referee: O, its last digest, members' last statuses and misses (R495). -/
  refO : Nat := 0
  refDig : List Byte := []
  statA : Option StatusMsg := none
  statB : Option StatusMsg := none
  /-- A valid STATUS of A, of B, has come in the present round. -/
  seenA : Bool := false
  seenB : Bool := false
  aMiss : Nat := 0
  bMiss : Nat := 0
  fault : Bool := false
  /-- HELLOs of both members valid without owner or referee since (R497). -/
  electSince : Option Nat := none
  deriving DecidableEq, Repr

/-- One fault scope of the ladder: a function, or a unit of it (R516, R519). -/
structure Scope where
  f : Nat
  unit : Option Nat
  standing : Bool := false
  tf : Nat := 0
  cr : Nat := 0
  ci : Nat := 0
  latched : Bool := false
  /-- The ladder of R519 runs for the standing fault (R517 may answer it otherwise). -/
  ladder : Bool := true
  /-- Tick of the last fault or rung, for LADDER_WINDOW. -/
  last : Nat := 0
  deriving DecidableEq, Repr

/-- Diagnostics and the recovery ladder (R510 to R522). -/
structure Diag where
  scopes : List Scope := []
  totals : List Nat := List.replicate 16 0
  /-- The module fault standing: cause, function and tick tf. -/
  mf : Option (Nat × Nat × Nat) := none
  /-- End of the latest POWER CYCLE assertion, while PCYC_IGNORED may come (R520). -/
  pcycEnd : Option Nat := none
  /-- Words corrected, with their ticks (R513). -/
  corrAt : List (MemLoc × Nat) := []
  corr : Nat := 0
  hard : Nat := 0
  backed : Nat := 0
  /-- Words found failing that RETRY of SYS rewrites (R151). -/
  failing : List MemLoc := []
  chkFailL : Bool := false
  /-- FUNC, UNIT and MODULE of DIAG_RECOVER as last written. -/
  recover : Nat := 0
  badTb : Nat := 0
  badSc : Nat := 0
  deriving DecidableEq, Repr

/-- The backed snapshot's words in use (R521). -/
structure Snap where
  cs : Nat := 0
  cp : Nat := 0
  lstop : Bool := false
  pending : Bool := false
  clearing : Bool := false
  mcause : Nat := 0
  ackNum : Nat := 0
  zeroTime : Nat := 0
  clearNum : Nat := 0
  discard : Nat := 0
  record : List Byte := []
  clearFp : List Byte := []
  deriving DecidableEq, Repr

/-- An event on its way to the recorder (R526), with the keys that order entries of one tick. -/
structure Entry where
  num : Nat
  tick : Nat
  code : Nat
  sev : Nat
  tunsure : Bool
  unit : Nat
  item : Nat
  time : Nat
  data : List Byte
  deriving DecidableEq, Repr

/-- The event recorder (R524 to R531). -/
structure Log where
  fifo : List Entry := []
  writing : Option (Entry × Nat) := none
  /-- Valid records by slot, in ascending slot order. -/
  recs : List (Nat × Entry) := []
  lastNum : Nat := 0
  /-- Pending loss: count, first-loss tick and time, last-loss time (R527). -/
  loss : Option (Nat × Nat × Nat × Nat) := none
  lost : Nat := 0
  episodes : Nat := 0
  peak : Nat := 0
  /-- The POWER_FAIL record that follows every entry in the FIFO (R528). -/
  pf : Option Entry := none
  /-- LOG_CLEAR runs; its session and request for the response. -/
  clear : Option (Nat × Nat) := none
  /-- The circulating slot written last. -/
  lastCirc : Option Nat := none
  deriving DecidableEq, Repr

/-- What an Ethernet frame carries: a datagram, a PRP supervision frame, an ARP or an ICMP echo answer (R423, R425). -/
inductive EthMsg where
  | udp (dst : W32) (port : Nat) (data : List Byte)
  | supervision (n : Nat)
  | arp (ip : W32)
  | icmp (ip : W32)
  deriving DecidableEq, Repr

/-- What a frame of the pair link carries (R484). -/
inductive LinkMsg where
  | hello (h : Hello)
  | mirror (m : MirrorMsg)
  | shadow (sh : Shadow)
  | notice (code cause h : Nat)
  | imgReq
  | imgData (ofs : Nat) (data : List Byte)
  deriving DecidableEq, Repr

/-- What the module has sent in the latest step, for the outside world: `link` is a frame of the pair link with its lane
and FSEQ (R484), `xroads` the bytes of a frame on the referee bus (R493), `eth` a frame on E1 or E2 with the sequence number of
its redundancy trailer (R423). -/
inductive OutMsg where
  | smp (sid : Nat) (bytes : List Byte)
  | link (lane fseq : Nat) (m : LinkMsg)
  | xroads (frame : List Byte)
  | canSof (ch : Nat) (frame : CanFrame)
  | eth (e2 : Bool) (rct : Option Nat) (m : EthMsg)
  deriving DecidableEq, Repr

/-- A deadline that expires in the present tick: it takes effect at the end of the tick, and only where the arrival that it
awaits has not come by then (R17). `harvest` is what a harvest tick settles at its end (R45, R159). -/
inductive Expiry where
  | harvest
  | windowEnd
  | stationSync (ch : Nat)
  | stationHold (ch : Nat)
  | uslWatchdog (conn : Nat)
  | uslAck (conn : Nat)
  | olcDrain
  | olcIdle
  | domain (d : Nat)
  | noFeedback (slot : Nat)
  | laneDown (lane : Nat)
  | partnerSilent
  | refereeAbsent
  | ownerStuck
  | selfElect
  | loadTimeout
  | ejectTimeout
  | hartAttempt (m : Modem)
  | hartStale (entry : Nat)
  | aoFrame (n : Nat)
  | aoHold (n : Nat)
  | announce (e2 : Bool)
  | sessionIdle (sid : Nat)
  | tollgate (m : Master)
  | unlock (sid : Nat)
  deriving DecidableEq, Repr

end Sys2Proof.Machine
end

