-- ==== Sys2Proof/Machine/Flags.lean ====
section
/-! DEFINITION. The quality byte (R11 to R14, R201) and the computation of flags from it. -/

namespace Sys2Proof.Machine

def qGood : Byte := 0x03#8
def qUncertain : Byte := 0x01#8
def qBad : Byte := 0x00#8

/-- STATE of a quality byte with 10b read as BAD (R14): 0 BAD, 1 UNCERTAIN, 3 GOOD. -/
def qState (q : Byte) : Nat := let n := q.toNat % 4; if n = 2 then 0 else n

def isBad (q : Byte) : Bool := qState q = 0
def isGood (q : Byte) : Bool := qState q = 3
def qSubst (q : Byte) : Bool := q.getLsbD 2
def qHeld (q : Byte) : Bool := q.getLsbD 3
def qStale (q : Byte) : Bool := q.getLsbD 4
def qForced (q : Byte) : Bool := q.getLsbD 5

/-- A quality byte from STATE and its flags. -/
def mkQ (st : Nat) (subst held stale : Bool) : Byte :=
  BitVec.ofNat 8 (st % 4 + 4 * b2n subst + 8 * b2n held + 16 * b2n stale)

def setState (q : Byte) (st : Nat) : Byte := (q &&& 0xFC#8) ||| BitVec.ofNat 8 (st % 4)

/-- The lowest of a list of STATEs; GOOD for none (R201). -/
def lowest (xs : List Nat) : Nat := xs.foldl min 3

/-- The quality change of R38 for FQ = HELD (`held`) or BAD. -/
def faultQ (held : Bool) (q : Byte) : Byte :=
  if held then setState (q ||| 0x08#8) 1 else setState (q &&& 0xF7#8) 0

/-- One quality for the two slots of a pair: the lower STATE, with the flags of both (R32). -/
def pairQ (a b : Byte) : Byte := setState ((a ||| b) &&& 0xFC#8) (min (qState a) (qState b))

/-- STALE and UNCERTAIN, unless SUBST is carried (R169). -/
def staleQ (q : Byte) : Byte := if qSubst q then q else setState (q ||| 0x10#8) 1

/-- The substitute's quality (R171): SUBST and STALE with the substitute STATE. -/
def substStaleQ (uncertain : Bool) : Byte := mkQ (b2n uncertain) true false true

end Sys2Proof.Machine
end

