-- ==== Sys2Proof/Machine/State.lean ====
section
/-! DEFINITION. The module's whole state, the reasons a step could stop, and the state at reset. -/

namespace Sys2Proof.Machine

/-- The state of the module (INVENTORY.md lists every field with its rule). -/
structure State where
  /-- Ticks since State.reset, the model's own count; the tick counter of R49 is `clock - tickOrigin`. -/
  clock : Nat := 0
  tickOrigin : Nat := 0
  /-- System time in units of 2^-32 ns: 64 bits of ns and the 32-bit fraction (R50); its rate correction a, and the servo's
  integral ai (R428). -/
  sysTime : Nat := 0
  rate : Rat := 0
  rateInt : Rat := 0
  mode : ModState := .unconfigured
  power : Power := {}
  boot : Boot := {}
  panel : Panel := {}
  store : Store := {}
  bus : Bus := {}
  /-- What the bus keeps for MGMT's shadows and for SEQ; MGMT uses SEQ's windows. -/
  mgmt : MasterSt := {}
  seqm : MasterSt := {}
  sessions : List Session := []
  /-- Requests that wait, in arrival order, while one is in execution (R432). -/
  waiting : List SmpReq := []
  /-- The process image as its writing functions left it, the shadow of R40 included. -/
  slots : SlotMap := []
  /-- Forced slots in ascending order with the forced value and quality (R40, R436). -/
  forces : SlotMap := []
  /-- The words last written to the status slots that are written on change (R150, R420, R452, R474, R508). -/
  statLast : List (Nat × W32) := []
  seq : Seq := {}
  barn : Barn := {}
  olc : Olc := {}
  ms : Ms := {}
  loop : Loop := {}
  slv : Slv := {}
  fld : Field := {}
  can : List CanSt := [{ n := 0 }, { n := 1 }, { n := 2 }, { n := 3 }]
  eth : Eth := {}
  usl : Usl := {}
  so : So := {}
  pair : Pair := {}
  diag : Diag := {}
  snap : Snap := {}
  log : Log := {}
  /-- What the module sent in the latest step. -/
  out : List OutMsg := []
  /-- The model's own count of free values taken (log 5). -/
  freeCtr : Nat := 0
  /-- Deadlines of the present tick, in the order in which they were sent (R17). -/
  expiring : List Expiry := []
  /-- The commands that are waiting, first in, first out. -/
  pending : List Instr := []
  deriving DecidableEq, Repr

/-- Why a step could stop. No command of the module stops it, so no meaning raises this. -/
inductive Fault where
  /-- Raised by no meaning; it stands for a stop that the spec would demand, and the spec demands none. Safe. -/
  | stopped
  deriving DecidableEq, Repr

/-- Why a command has no meaning. -/
inductive Refusal where
  /-- Raised by an arm of `exec` whose command has no meaning yet. Safe. -/
  | notModelled (mnemonic : String)
  deriving DecidableEq, Repr

/-- The module right after power-on reset is released: start-up begins, no image is committed, every field at its
reset value (log 4 names the values that the spec does not give). -/
def State.reset : State := {}

end Sys2Proof.Machine
end

