-- ==== Sys2Proof/Machine/Ops.lean ====
section
/-! DEFINITION. The named operations over the whole state: time, slots and forces, ownership, records, messages. -/

namespace Sys2Proof.Machine

/-! ### Time (R16, R49, R50) -/

/-- The tick counter (R49). -/
def State.tick (s : State) : Nat := (s.clock - s.tickOrigin) % 2 ^ 64

/-- System time in ns (R50). -/
def State.ns (s : State) : Nat := s.sysTime / 2 ^ 32

/-- System time in ns with its fraction (R50). -/
def State.sysNs (s : State) : Rat := (s.sysTime : Rat) / (2 ^ 32 : Nat)

/-- A time in ns as System time holds it: 64 bits of ns and a 32-bit fraction (R50). -/
def sysUnits (ns : Rat) : Nat := ((ns * (2 ^ 32 : Nat)).floor % (2 ^ 96 : Nat)).toNat

/-- One tick is 2.5 ns (R16). -/
def tickNs : Rat := 5 / 2

/-- What each tick adds to system time: 2.5 ns × (1 + a) to the resolution of the fraction (R50, log 6). -/
def sysStep (a : Rat) : Nat :=
  let x := tickNs * (1 + a) * (2 ^ 32 : Nat)
  (roundUnits x.num x.den).toNat

def msTicks (ms : Nat) : Nat := 400000 * ms
def usTicks (us : Nat) : Nat := 400 * us
def secTicks (sec : Nat) : Nat := 400000000 * sec

/-! ### Recorder staging (R526, R527) -/

def Log.fill (l : Log) : Nat := l.fifo.length

/-- LOG_OVERFLOW for a pending loss enters as soon as a place is free (R527). -/
def Log.enterLoss (l : Log) : Log :=
  match l.loss with
  | none => l
  | some (n, tk, t1, t2) =>
    if l.fifo.length < 64 then
      let e : Entry := { num := l.lastNum + 1, tick := tk, code := 0x0203, sev := 1, tunsure := false, unit := 0,
                         item := 0, time := t1, data := leBytes 4 n ++ leBytes 8 t2 }
      { l with fifo := l.fifo ++ [e], lastNum := l.lastNum + 1, loss := none,
               peak := max l.peak (l.fifo.length + 1) }
    else l

/-- The lowest frozen slot from `i` on without a valid record; slot 0 is held while a clear runs (R525). -/
def frozenFree : Nat → Nat → List (Nat × Entry) → Option Nat
  | 0, _, _ => none
  | n + 1, i, rs =>
    match rs with
    | (k, _) :: r => if k < i then frozenFree n i r else if k = i then frozenFree n (i + 1) r else some i
    | [] => some i

def newestCirc (rs : List (Nat × Entry)) : Option (Nat × Entry) :=
  rs.foldl (fun a p => if p.1 < 256 then a else match a with
    | some q => if q.2.num < p.2.num then some p else some q
    | none => some p) none

/-- Where the next record goes (R525). -/
def recSlot (clearing : Bool) (rs : List (Nat × Entry)) : Nat :=
  match frozenFree 600 (if clearing then 1 else 0) rs with
  | some i => if i < 256 then i else
    match newestCirc rs with
    | some (k, _) => if k < 1279 then k + 1 else 256
    | none => 256
  | none => 256

/-- The recorder takes the head entry and begins writing it (R526); the POWER_FAIL record follows every entry (R528).
Nothing is begun while a clear runs (R529). The slot
it goes to loses its mark first (R524). -/
def Log.begin (now : Nat) (clearing : Bool) (l : Log) : Log :=
  if l.writing.isSome || l.clear.isSome then l
  else match l.fifo with
    | e :: r =>
      ({ l with fifo := r, writing := some (e, now), recs := eraseKey (recSlot clearing l.recs) l.recs } : Log).enterLoss
    | [] =>
      match l.pf with
      | some e => { l with pf := none, writing := some ({ e with num := l.lastNum + 1 }, now), lastNum := l.lastNum + 1
                           recs := eraseKey (recSlot clearing l.recs) l.recs }
      | none => l

/-- Order of entries raised in one tick (R526): source, UNIT, CODE, item. -/
def Entry.before (a b : Entry) : Bool :=
  let k := fun (e : Entry) => [e.code / 256, e.unit, e.code, e.item]
  decide (List.lt (k a) (k b))

def insertEntry (e : Entry) : List Entry → List Entry
  | [] => [e]
  | x :: r => if e.before x then e :: x :: r else x :: insertEntry e r

def renum : Nat → List Entry → List Entry
  | _, [] => []
  | n, e :: r => { e with num := n } :: renum (n + 1) r

/-- An entry raised in tick `now` enters the FIFO in its place, or is lost (R526, R527). -/
def Log.enter (now : Nat) (e : Entry) (l : Log) : Log :=
  let old := l.fifo.filter fun x => x.tick ≠ now
  let new := l.fifo.filter fun x => x.tick = now
  let base := l.lastNum + 1 - new.length
  let new' := renum base (insertEntry e new)
  if l.fifo.length < 64 then
    { l with fifo := old ++ new', lastNum := l.lastNum + 1, peak := max l.peak (l.fifo.length + 1) }
  else
    let l1 : Log := { l with fifo := old ++ new'.dropLast, lost := satInc 65535 l.lost }
    match l1.fifo.getLast? with
    | some t =>
      if t.code = 0x0203 then
        let n := leNat (t.data.take 4) + 1
        { l1 with fifo := l1.fifo.dropLast ++ [{ t with data := leBytes 4 n ++ leBytes 8 e.time }] }
      else
        match l1.loss with
        | some (n, tk, t1, _) => { l1 with loss := some (n + 1, tk, t1, e.time) }
        | none => { l1 with loss := some (1, now, e.time, e.time) }
    | none => l1

/-- SEV of each CODE (R532): 0 INFO, 1 WARNING, 2 FAULT. -/
def sevOf (code : Nat) : Nat :=
  if code ∈ [0x0003, 0x0005, 0x000D, 0x0013, 0x0105, 0x0307, 0x030B, 0x0A01, 0x0B01, 0x0C01, 0x0D02,
    0x1001, 0x1002, 0x1003, 0x1004] then 2
  else if code ∈ [0x0001, 0x0002, 0x000B, 0x0011, 0x0012, 0x0101, 0x0102, 0x0103, 0x0104, 0x0106, 0x0201, 0x0204,
    0x030A, 0x0402, 0x0403, 0x0405, 0x0406, 0x0602, 0x0603, 0x0706, 0x0708, 0x0802, 0x0903, 0x0908, 0x0D01, 0x0D03,
    0x0D05, 0x0E01, 0x0E06, 0x0F02] then 0
  else 1

/-- DATA is 12 bytes: cut to fit, unused bytes zero (R533). -/
def fit12 (d : List Byte) : List Byte := (d ++ List.replicate 12 0).take 12

def State.tunsure (s : State) : Bool := !s.boot.rtcValid && s.eth.ptp.st ≠ 2

def State.recordSev (sev code unit item : Nat) (data : List Byte) (s : State) : State :=
  { s with log := s.log.enter s.clock { num := 0, tick := s.clock, code := code, sev := sev, tunsure := s.tunsure,
                                        unit := unit, item := item, time := s.ns, data := fit12 data } }

/-- An event of the recorder (R526) with the SEV of R532. -/
def State.record (code unit item : Nat) (data : List Byte) (s : State) : State :=
  s.recordSev (sevOf code) code unit item data

def State.emit (m : OutMsg) (s : State) : State := { s with out := s.out ++ [m] }

/-- A frame goes out on a lane of the pair link with the next FSEQ (R484). -/
def State.sendLink (lane : Nat) (m : LinkMsg) (s : State) : State :=
  if lane = 0 then
    let n := (s.pair.fseq0 + 1) % 2 ^ 32
    ({ s with pair := { s.pair with fseq0 := n } } : State).emit (.link 0 n m)
  else
    let n := (s.pair.fseq1 + 1) % 2 ^ 32
    ({ s with pair := { s.pair with fseq1 := n } } : State).emit (.link 1 n m)

/-- A frame on each lane: HELLO and NOTICE (R486, R506). -/
def State.sendBoth (m : LinkMsg) (s : State) : State := (s.sendLink 0 m).sendLink 1 m

/-- A frame that goes out once: on lane 0, or on the other lane alone while lane 0 is down (R486, R491). -/
def State.sendOnce (m : LinkMsg) (s : State) : State :=
  s.sendLink (if s.pair.lane0 || !s.pair.lane1 then 0 else 1) m

/-! ### Free values (log 5) -/

def State.freeW32 (s : State) : W32 × State := (Config.freeW32 s.freeCtr, { s with freeCtr := s.freeCtr + 1 })

/-! ### Process image (R31, R40) -/

def SlotMap.get (m : SlotMap) (i : Nat) : Cell := lookupD (0, 0) i m

/-- Write a slot and keep the canonical form: a slot with value 0 and quality 00h is not listed. -/
def SlotMap.set (m : SlotMap) (i : Nat) (c : Cell) : SlotMap := if c = (0, 0) then eraseKey i m else insertKey i c m

/-- Keys strictly ascend. -/
def ascending {α : Type} : List (Nat × α) → Bool
  | [] => true
  | [_] => true
  | (a, _) :: (b, v) :: r => decide (a < b) && ascending ((b, v) :: r)

/-- The canonical form of the process image. -/
def SlotMap.wf (m : SlotMap) : Bool := ascending m && m.all fun p => decide (p.2 ≠ (0, 0) ∧ p.1 < 65536)

/-- A slot as its writing function left it: the shadow of R40. -/
def State.ownSlot (s : State) (i : Nat) : Cell := SlotMap.get s.slots i

/-- A slot as readers see it, forces included (R40). -/
def State.readSlot (s : State) (i : Nat) : Cell := (s.forces.find? fun p => p.1 = i).elim (SlotMap.get s.slots i) (·.2)

/-- Every slot as readers see it, forces included (R40). -/
def State.visible (s : State) : SlotMap := s.forces.foldl (fun m f => SlotMap.set m f.1 f.2) s.slots

/-- The writing function's write: value and quality together (R11), into the shadow where the slot is forced. -/
def State.writeSlot (i : Nat) (v : W32) (q : Byte) (s : State) : State :=
  if i < 65536 then { s with slots := SlotMap.set s.slots i (v, q) } else s

/-! ### Ownership (R35) -/

def ownFunc (e : W32) : Nat := field e.toNat 3 0
def ownAssigned (e : W32) : Bool := e.getLsbD 4
def ownHeld (e : W32) : Bool := e.getLsbD 5
def ownRet (e : W32) : Bool := e.getLsbD 6
def ownSafety (e : W32) : Bool := e.getLsbD 7
def ownUnit (e : W32) : Nat := field e.toNat 18 8

end Sys2Proof.Machine

namespace Sys2Proof

open Sys2Proof.Machine

def Image.entry (img : Image) (i : Nat) : W32 := lookupD 0 i img.own

end Sys2Proof

namespace Sys2Proof.Machine

/-- The enrolled owner root (R99); no certificate on an UNOWNED module. -/
def State.ownerRoot (s : State) : List Byte := match s.store.owner with | some (c, _) => c | none => []

def State.img (s : State) : Image := s.store.image.getD {}
def State.committed (s : State) : Bool := s.store.image.isSome
def State.entry (s : State) (i : Nat) : W32 := (s.store.image.map (·.entry i)).getD 0

end Sys2Proof.Machine

namespace Sys2Proof

open Sys2Proof.Machine

/-- The slots of a function, or of one unit of it. -/
def Image.slotsOf (img : Image) (f : Nat) (unit : Option Nat) : List (Nat × W32) :=
  img.own.filter fun p => ownAssigned p.2 && ownFunc p.2 == f && (unit.isNone || unit == some (ownUnit p.2))

end Sys2Proof

namespace Sys2Proof.Machine
/-- R38 on the slots of a function or unit that stops writing, except those of `skip`. -/
def State.r38 (f : Nat) (unit : Option Nat) (skip : List Nat) (s : State) : State :=
  (s.img.slotsOf f unit).foldl (fun s p =>
    if p.1 ∈ skip then s
    else let c := s.ownSlot p.1; s.writeSlot p.1 c.1 (faultQ (ownHeld p.2) c.2)) s

/-! ### Lookups -/

def State.isActive (s : State) : Bool := s.mode = .active
def ModState.code : ModState → Nat
  | .unconfigured => 0 | .standby => 1 | .active => 2 | .referee => 3 | .isolated => 4 | .fault => 5 | .safe => 6
end Sys2Proof.Machine

namespace Sys2Proof

def Key.code : Key → Nat
  | .unset => 0 | .stop => 1 | .prog => 2 | .run => 3
def Role.code : Role → Nat
  | .anon => 0 | .viewer => 1 | .operator => 2 | .engineer => 3 | .owner => 4

end Sys2Proof

namespace Sys2Proof.Machine
/-- Role of the module by its latched slot (R107): 0 none, 1 member A, 2 member B, 3 referee. -/
def State.member (s : State) : Nat :=
  match s.store.image, s.boot.slot with
  | some i, some n =>
    if n = i.station.slotA then 1 else if n = i.station.slotB then 2 else if n = i.station.slotRef then 3 else 0
  | _, _ => 0

def State.session (s : State) (sid : Nat) : Option Session := findKey (·.sid) sid s.sessions

def State.modSession (sid : Nat) (f : Session → Session) (s : State) : State :=
  { s with sessions := modifyKey (·.sid) sid f s.sessions }

/-- A response is sent, and stored for its request (R432); a session that has closed meanwhile gets none (R187, R435,
R529). -/
def State.answer (sid req code : Nat) (payload : List Byte) (s : State) : State :=
  let fill := fun (r : Resp) => if r.req = req then { r with code := code, payload := payload, ready := true } else r
  let s1 := s.modSession sid fun x => { x with stored := x.stored.map fill }
  match (s1.session sid).bind fun x => x.stored.find? fun r => decide (r.req = req) with
  | some r => s1.emit (.smp sid r.bytes)
  | none => s1

/-- The harvest number of the latest harvest tick, for records (R533). -/
def State.hnow (s : State) : Nat :=
  if s.mode = .active then s.seq.h0 + (s.clock - s.seq.tg) / s.img.cycle.base else s.seq.h

/-- Tg: the tick of harvest number 0 on the module's grid (R154, R487). -/
def State.origin (s : State) : Int := (s.seq.tg : Int) - ((s.seq.h0 * s.img.cycle.base : Nat) : Int)

/-- The end of a tick: the harvest views that this tick fixes stand as it leaves the slots (R41, R45, R159, R315). -/
def State.fixViews (s : State) : State :=
  let v := s.visible
  { s with
    seq := { s.seq with lanes := s.seq.lanes.map fun l => { l with pass := l.pass.map fun p => { p with view := some (p.view.getD v) } } }
    slv := { s.slv with probs := s.slv.probs.map fun x => { x with per := x.per.map fun p => { p with view := some (p.view.getD v) } } } }

/-- The hardware sets the W1C bits `bits` of the register at `addr`: no write of the present tick clears them (R125). -/
def State.latchSet (addr bits : Nat) (s : State) : State :=
  { s with bus := { s.bus with lat0 := s.bus.lat0.map fun p => if p.1 = addr then (p.1, p.2 - (p.2 &&& bits)) else p } }

/-- Bits of PAIR_EVT are set. -/
def State.pairEvt (b : Nat) (s : State) : State :=
  let s1 := s.latchSet 0x0C1C b
  { s1 with pair := { s1.pair with evt := s1.pair.evt ||| BitVec.ofNat 8 b } }

/-- The parity of configuration register `k` is computed anew (R141). -/
def State.parityFresh (k : Nat) (s : State) : State :=
  { s with bus := { s.bus with parity := s.bus.parity.filter fun x => decide (x ≠ k) } }

/-- The W1C bits that are set, by register address (R125). SYS_ACCERR is not among them: its bits are set by accesses, which
the bus takes one at a time (R124). -/
def State.latches (s : State) : List (Nat × Nat) :=
  ([(0x0004, 64 * b2n s.panel.keyFault), (0x000C, 4 * b2n s.power.feedALost + 8 * b2n s.power.feedBLost),
    (0x0030, 2147483648 * b2n s.bus.cfgFail), (0x0C1C, s.pair.evt.toNat), (0x9808, 8 * b2n s.diag.chkFailL),
    (0x880C, (s.fld.dio.map fun (x : DioSt) => b2n x.faultL * 2 ^ x.n).sum),
    (0x900C, 32768 * b2n s.eth.fmtl + 65536 * b2n s.eth.latel + 131072 * b2n s.eth.dupl),
    (0x9040, 8 * b2n s.eth.ptp.stepL + 16 * b2n s.eth.ptp.lockL)] ++
   (s.ms.doms.mapIdx fun d (x : DomSt) => (0x2108 + 0x20 * d, 16 * b2n x.lostL)) ++
   (s.loop.ctxs.map fun (x : CtxSt) => (0x3004 + 0x40 * x.n,
      2097152 * b2n x.missL + 4194304 * b2n x.cref + 8388608 * b2n x.swapRef + 16777216 * b2n x.trigSkipL)) ++
   (s.fld.ai.map fun (x : AiSt) => (0x8104 + 0x10 * x.n, 65536 * b2n x.condL + 131072 * b2n x.hartErrL + 262144 * b2n x.trigSkipL)) ++
   (s.fld.ao.map fun (x : AoSt) => (0x8504 + 0x10 * x.n, 65536 * b2n x.complL + 131072 * b2n x.devL + 262144 * b2n x.linkL)) ++
   (s.can.map fun (x : CanSt) => (0x701C + 0x400 * x.n, x.evt.toNat)) ++
   (s.so.chans.map fun (x : BrakeSt) => (0x8C4C + 0x20 * x.k, 16384 * b2n x.abandL + 32768 * b2n x.faultL)) ++
   (s.usl.conns.map fun (x : UslSt) => (0x9500 + 4 * x.c, 65536 * b2n x.passL))).filter fun (p : Nat × Nat) => decide (p.2 ≠ 0)

/-- Time passes: the clock, system time and the real-time clock advance, the recorder begins its next write, and what the
tick that ends had still open is settled. -/
def State.elapse (dt : Nat) (s : State) : State :=
  if dt = 0 then s
  else
    { s with
      clock := s.clock + dt
      sysTime := (s.sysTime + dt * sysStep s.rate) % 2 ^ 96
      boot := { s.boot with rtc := if s.boot.rtcSet then s.boot.rtc + (dt : Rat) * tickNs else s.boot.rtc }
      log := s.log.begin s.clock s.snap.clearing
      ms := { s.ms with slots := s.ms.slots.map fun m => match m.nextArm with
        | some (t, _, a) => if t < s.clock + dt then { m with arm := a, nextArm := none } else m
        | none => m }
      bus := { s.bus with lat0 := s.latches, wrote := [], fnSet := [], undo := [] } }

end Sys2Proof.Machine
end

