-- ==== Sys2Proof/Machine/Operands.lean ====
section
/-! DEFINITION. Slot references (R33, R34): reading and writing the fields that they name, and the typed values that
the sections' references carry. -/

namespace Sys2Proof

open Sys2Proof.Machine

/-- The field that a reference names, read through `rd`; a WIDE reference joins its pair (R32). -/
def SlotRef.read (r : SlotRef) (rd : Nat → Cell) : W64 × Byte :=
  if r.wide then
    let a := rd r.slot
    let b := rd (r.slot + 1)
    (BitVec.ofNat 64 (a.1.toNat + 2 ^ 32 * b.1.toNat), pairQ a.2 b.2)
  else
    let c := rd r.slot
    (BitVec.ofNat 64 (field c.1.toNat (r.bitpos + r.widthM1) r.bitpos), c.2)

/-- A word with the field that a reference names replaced by the low bits of `v` (R34). -/
def SlotRef.put (r : SlotRef) (w : W32) (v : Nat) : W32 :=
  let m := (2 ^ (r.widthM1 + 1) - 1) <<< r.bitpos
  let x := (v % 2 ^ (r.widthM1 + 1)) <<< r.bitpos
  (w &&& ~~~(BitVec.ofNat 32 m)) ||| BitVec.ofNat 32 x

/-- A slot reference's 32-bit encoding (R33). -/
def SlotRef.dec (w : Nat) : SlotRef :=
  { slot := field w 15 0, bitpos := field w 20 16, widthM1 := field w 25 21, wide := bit w 26 }

end Sys2Proof

namespace Sys2Proof.Machine

/-- Read a field as readers outside the sequencers see it (R42, R43). -/
def State.readRef (s : State) (r : SlotRef) : W64 × Byte := r.read s.readSlot

/-- The owning function writes a field with a quality for the whole slot (R34). -/
def State.writeRef (r : SlotRef) (v : Nat) (q : Byte) (s : State) : State :=
  if r.wide then
    (s.writeSlot r.slot (BitVec.ofNat 32 v) q).writeSlot (r.slot + 1) (BitVec.ofNat 32 (v / 2 ^ 32)) q
  else s.writeSlot r.slot (r.put (s.ownSlot r.slot).1 v) q

def State.writeOpt (r : Option SlotRef) (v : Nat) (q : Byte) (s : State) : State :=
  match r with
  | some x => s.writeRef x v q
  | none => s

/-- A REAL field: value and quality. -/
def State.readReal (s : State) (r : SlotRef) : Cell := let v := s.readRef r; (v.1.setWidth 32, v.2)

/-- A BOOL field: TRUE when not zero (R192). -/
def State.readBool (s : State) (r : SlotRef) : Bool × Byte := let v := s.readRef r; (v.1 ≠ 0, v.2)

end Sys2Proof.Machine
end

