-- ==== Sys2Proof/Machine/ImgCore.lean ====
section
/-! DEFINITION. The Eupor image's header, section table and the sections of the chapters 03, 05, 15 and 16
(R103 to R107, R152, R153, R477, R478, R534), with the ownership map's rules (R34 to R36). -/

namespace Sys2Proof.Machine

/-! ### Header (R103, R113 checks 2 and 3) -/

def hdrImageLen (b : List Byte) : Nat := getN b 12 4
def hdrSignedLen (b : List Byte) : Nat := getN b 16 4
def hdrFlevel (b : List Byte) : Nat := getN b 6 2
def hdrSeq (b : List Byte) : Nat := getN b 8 4
def hdrCount (b : List Byte) : Nat := getN b 20 2
def hdrFlags (b : List Byte) : Nat := getN b 22 2

/-- IMAGE_LEN within R103: the header fits, a multiple of 4, 8,388,608 maximum. -/
def lenInRange (n : Nat) : Bool := decide (128 ≤ n ∧ n ≤ 8388608 ∧ n % 4 = 0)

/-- Check 2 of R113. -/
def checkLength (b : List Byte) : Bool :=
  lenInRange (hdrImageLen b) && decide (hdrImageLen b ≤ b.length) && decide (hdrSignedLen b % 4 = 0) &&
  decide (128 ≤ hdrSignedLen b ∧ hdrSignedLen b < hdrImageLen b)

/-- Check 3 of R113. -/
def checkFormat (b : List Byte) : Bool :=
  decide (slice b 0 4 = [0x53#8, 0x58#8, 0x45#8, 0x49#8]) && decide (getN b 4 2 = 1) && decide (hdrFlevel b ≠ 0) &&
  decide (1 ≤ hdrSeq b ∧ hdrSeq b ≤ 0xFFFFFFFE) && decide (6 ≤ hdrCount b ∧ hdrCount b ≤ 15) &&
  decide (hdrFlags b < 2) && zeros b 36 28 && zeros b 96 32

/-- IMAGE_DIGEST (R106). -/
def imageDigest (b : List Byte) : List Byte := sha256 (b.take (hdrSignedLen b))

/-! ### Signature block (R106, R113 checks 4 and 5) -/

/-- The certificates of a signature block from `p` on, `n` of them, and where they end; each ends at a multiple of 4. -/
def sigCerts (b : List Byte) : Nat → Nat → Option (List (List Byte) × Nat)
  | 0, p => some ([], p)
  | n + 1, p =>
    let l := getN b p 4
    let e := p + 4 + l
    let e4 := e + (4 - e % 4) % 4
    if hdrImageLen b < e4 ∨ zeros b e (e4 - e) = false then none
    else (sigCerts b n e4).map fun r => (slice b (p + 4) l :: r.1, r.2)

/-- The block's certificates, leaf first, and where its signature begins; none where its form breaks R106. -/
def sigBlock (b : List Byte) : Option (List (List Byte) × Nat) :=
  let p := hdrSignedLen b
  let n := getN b p 2
  if hdrImageLen b < p + 4 ∨ n < 1 ∨ 3 < n ∨ getN b (p + 2) 2 ≠ 0 then none else sigCerts b n (p + 4)

/-- The image-signing leaf: the chain ends at the owner root and the leaf's OU is SXROLE-IMAGE (R100, R106). -/
def imageLeaf (root b : List Byte) : Option Cert :=
  match (sigBlock b).bind fun x => chainLeaf root x.1 with
  | some c => if leafImage c then some c else none
  | none => none

/-- Check 4 of R113. -/
def checkChain (root b : List Byte) : Bool := (imageLeaf root b).isSome

/-- Check 5 of R113: 64 bytes, r and s, end the image and verify under the leaf's key over IMAGE_DIGEST. -/
def checkSignature (root b : List Byte) : Bool :=
  match imageLeaf root b, sigBlock b with
  | some c, some (_, p) =>
    decide (p + 64 = hdrImageLen b) && ecdsaOk c.key (imageDigest b) (beNat (slice b p 32)) (beNat (slice b (p + 32) 32))
  | _, _ => false

/-! ### Section table (R104, R105) -/

structure SecEntry where
  type : Nat
  ofs : Nat
  len : Nat
  deriving DecidableEq, Repr

def secTable (b : List Byte) : Nat → Nat → List SecEntry
  | 0, _ => []
  | n + 1, p => { type := getN b p 2, ofs := getN b (p + 4) 4, len := getN b (p + 8) 4 } :: secTable b n (p + 16)

def secReserved (b : List Byte) : Nat → Nat → Bool
  | 0, _ => true
  | n + 1, p => zeros b (p + 2) 2 && zeros b (p + 12) 4 && secReserved b n (p + 16)

def requiredTypes : List Nat := [1, 2, 3, 13, 14, 15]

/-- The bytes from `p` that belong to no section of the ascending list are zero. R105 speaks of the bytes between sections;
that those before the first and after the last one are held to it too is the model's choice (log 113). -/
def gapsZero (b : List Byte) (stop : Nat) : Nat → List SecEntry → Bool
  | p, [] => zeros b p (stop - p)
  | p, e :: r => zeros b p (e.ofs - p) && gapsZero b stop (e.ofs + e.len) r

def insertSec (e : SecEntry) : List SecEntry → List SecEntry
  | [] => [e]
  | x :: r => if e.ofs ≤ x.ofs then e :: x :: r else x :: insertSec e r

def noOverlap : List SecEntry → Bool
  | [] => true
  | [_] => true
  | a :: b :: r => decide (a.ofs + a.len ≤ b.ofs) && noOverlap (b :: r)

/-- Check 8 of R113: the section table under R105. -/
def checkSections (b : List Byte) : Option (List SecEntry) :=
  let n := hdrCount b
  let t := secTable b n 128
  let sl := hdrSignedLen b
  let te := 128 + 16 * n
  let srt := t.foldr insertSec []
  if secReserved b n 128 && t.all (fun e => decide (1 ≤ e.type ∧ e.type ≤ 15)) &&
      decide ((t.map (·.type)).Nodup) && requiredTypes.all (fun r => t.any fun e => decide (e.type = r)) &&
      decide (te ≤ sl) && t.all (fun e => decide (e.ofs % 4 = 0 ∧ te ≤ e.ofs ∧ e.ofs + e.len ≤ sl)) &&
      noOverlap srt && gapsZero b sl te srt then some t else none

/-! ### Ownership map (R29, R35, R36) -/

inductive Area where
  | input
  | output
  | memory
  | mirror
  deriving DecidableEq, Repr

def areaOf (i : Nat) : Area :=
  if i < 0x4000 then .input else if i < 0x8000 then .output else if i < 0xE000 then .memory else .mirror

/-- The areas that a function may write (R29). -/
def mayWrite (f : Nat) (a : Area) : Bool :=
  match f with
  | 0 => decide (a = .input)
  | 3 => decide (a = .input ∨ a = .mirror)
  | 4 => decide (a = .output ∨ a = .memory)
  | 6 => decide (a = .input ∨ a = .memory)
  | 7 => decide (a = .output ∨ a = .memory)
  | 8 => decide (a = .memory)
  | 9 | 10 | 11 | 12 | 13 | 14 | 15 => decide (a = .input)
  | _ => false

/-- How many unit numbers a function has (R29, R441). -/
def unitCount (f : Nat) : Nat :=
  match f with
  | 4 => 4 | 6 => 1032 | 7 => 160 | 8 => 4 | 9 => 4 | 10 => 24 | 11 => 16 | 12 => 32 | 13 => 8 | 15 => 64
  | _ => 1

def entryOk (i : Nat) (e : W32) : Bool :=
  ownAssigned e && decide (e.toNat < 2 ^ 19) && mayWrite (ownFunc e) (areaOf i) &&
  decide (ownUnit e < unitCount (ownFunc e)) && (!ownRet e || decide (areaOf i = .memory)) &&
  (!ownSafety e || (decide (areaOf i = .output) && decide (ownFunc e = 4)))

/-- The map's non-zero entries from slot `i` on. -/
def ownList : Nat → List Byte → List (Nat × W32)
  | i, a :: b :: c :: d :: r =>
    let w := BitVec.ofNat 32 (leNat [a, b, c, d])
    if w = 0 then ownList (i + 1) r else (i, w) :: ownList (i + 1) r
  | _, _ => []

/-- Check 9 of R113: the ownership map under R36. -/
def checkMap (b : List Byte) : Option (List (Nat × W32)) :=
  let m := ownList 0 b
  if b.length = 262144 ∧ m.all (fun p => entryOk p.1 p.2) = true ∧ (m.filter fun p => ownRet p.2).length ≤ 16384 then some m
  else none

/-! ### References (R33, R34, R192) -/

/-- A reference is well formed: R33's encoding and R34. -/
def refOk (own : List (Nat × W32)) (w : Nat) : Bool :=
  let r := SlotRef.dec w
  decide (w < 2 ^ 27) && decide (r.bitpos + r.widthM1 ≤ 31) &&
  (!r.wide || (decide (r.slot % 2 = 0 ∧ r.bitpos = 0 ∧ r.widthM1 = 31) &&
    decide (lookupD (0 : W32) r.slot own = lookupD 0 (r.slot + 1) own)))

/-- The bits of a data type (R191); 0 for an invalid code. -/
def typeBits (t : Nat) : Nat :=
  match t with
  | 1 => 1 | 2 => 8 | 3 => 16 | 4 => 32 | 5 => 64 | 6 => 8 | 7 => 16 | 8 => 32 | 9 => 64 | 10 => 32 | 11 => 64
  | 12 => 8 | 13 => 16 | 14 => 32 | 15 => 64 | 16 => 32 | 17 => 64 | 18 => 64
  | _ => 0

/-- The reference's width suits the type (R191, R192). -/
def refFits (t : Nat) (r : SlotRef) : Bool :=
  if typeBits t = 64 then r.wide
  else !r.wide && (decide (r.widthM1 + 1 = typeBits t) || decide (r.widthM1 = 31))

/-- A reference that a section gives for a value of type `t`. -/
def refType (own : List (Nat × W32)) (t w : Nat) : Bool := refOk own w && refFits t (SlotRef.dec w)

/-- The reference's slot is assigned to a function, and to one unit of it where `u` names one. -/
def refOwned (own : List (Nat × W32)) (r : SlotRef) (f : Nat) (u : Option Nat) : Bool :=
  let e := lookupD (0 : W32) r.slot own
  ownAssigned e && decide (ownFunc e = f) && (u.isNone || u == some (ownUnit e))

/-! ### STATION, CYCLE, PAIR, DIAG -/

/-- R107. -/
def parseStation (b : List Byte) : Option StationSec :=
  let a := getN b 4 1; let c := getN b 5 1; let r := getN b 6 1; let p := getN b 7 1
  if b.length = 16 ∧ a < 64 ∧ c < 64 ∧ r < 64 ∧ p < 2 ∧ a ≠ c ∧ a ≠ r ∧ c ≠ r ∧ zeros b 8 8 = true then
    some { stationId := getN b 0 4, slotA := a, slotB := c, slotRef := r, preferred := p }
  else none

def parseLane (b : List Byte) (p : Nat) : Option LaneCfg :=
  let en := getN b p 1; let m := getN b (p + 2) 2; let o := getN b (p + 4) 2
  if en = 1 then
    if zeros b (p + 1) 1 && zeros b (p + 6) 2 && decide (1 ≤ m ∧ m ≤ 1000 ∧ o < m) then
      some { enable := true, mult := m, offset := o } else none
  else if zeros b p 8 then some { enable := false, mult := 1, offset := 0 } else none

def retList (b : List Byte) : Nat → Nat → List (Nat × Nat × Nat)
  | 0, _ => []
  | n + 1, p => (getN b p 2, getN b (p + 2) 1, getN b (p + 3) 1) :: retList b n (p + 4)

/-- R152, R153. -/
def parseCycle (own : List (Nat × W32)) (b : List Byte) : Option CycleSec :=
  let base := getN b 0 4
  let n := getN b 38 2
  let rs := retList b n 48
  let lim := getN b 36 2
  match parseLane b 4, parseLane b 12, parseLane b 20, parseLane b 28 with
  | some l0, some l1, some l2, some l3 =>
    if b.length = 48 + 4 * n ∧ 100000 ≤ base ∧ base ≤ 400000000 ∧ base % 400 = 0 ∧ l0 = { enable := true } ∧
        1 ≤ lim ∧ lim ≤ 16 ∧ n ≤ 16384 ∧ zeros b 40 8 = true ∧
        rs.map (·.1) = ((own.filter fun p => ownRet p.2).map (·.1)) ∧
        rs.all (fun r => decide (typeBits r.2.1 ≠ 0 ∧ r.2.2 = 0)) = true then
      some { base := base, lanes := [l0, l1, l2, l3], ovrLimit := lim, ret := rs.map fun r => (r.1, r.2.1) }
    else none
  | _, _, _, _ => none

/-- The mirror entries, with their reserved halves. -/
def mirrorList (b : List Byte) : Nat → Nat → List (MirrorEntry × Nat)
  | 0, _ => []
  | n + 1, p => ({ src := getN b p 2, dst := getN b (p + 2) 2, count := getN b (p + 4) 2 }, getN b (p + 6) 2) ::
      mirrorList b n (p + 8)

def rangeOf (a n : Nat) : List Nat := (List.range n).map (a + ·)

/-- A source slot of a mirror entry (R478). -/
def mirrorSrcOk (own : List (Nat × W32)) (i : Nat) : Bool :=
  let e := lookupD (0 : W32) i own
  let f := ownFunc e
  decide (i < 65536) && ownAssigned e &&
  match areaOf i with
  | .output => decide (f = 4 ∨ f = 7)
  | .memory => decide (f = 4 ∨ f = 7 ∨ f = 6 ∨ f = 8)
  | .input => decide (f = 9 ∨ f = 14)
  | .mirror => false

def mirrorDstOk (own : List (Nat × W32)) (i : Nat) : Bool :=
  let e := lookupD (0 : W32) i own
  decide (0xE000 ≤ i ∧ i < 65536) && ownAssigned e && decide (ownFunc e = 3 ∧ ownUnit e = 0)

/-- R477, R478. Both slots of a 64-bit pair lie in one entry: `pairs` lists the first slots of the pairs that the
image's WIDE references name. -/
def parsePair (own : List (Nat × W32)) (pairs : List Nat) (b : List Byte) : Option PairSec :=
  let n := getN b 2 2
  let es := mirrorList b n 32
  let srcs := es.flatMap fun e => rangeOf e.1.src e.1.count
  let dsts := es.flatMap fun e => rangeOf e.1.dst e.1.count
  let si := getN b 8 2; let sd := getN b 10 2; let rd := getN b 12 2; let st := getN b 14 2
  let fl := getN b 1 1; let pl := getN b 4 4
  let se := lookupD (0 : W32) st own
  if b.length = 32 + 8 * n ∧ getN b 0 1 < 2 ∧ fl < 2 ∧ n ≤ 256 ∧ 80000 ≤ pl ∧ pl ≤ 4000000 ∧ si ≤ 720 ∧
      ((si = 0 ∧ sd = 0) ∨ (si ≠ 0 ∧ 10 ≤ sd ∧ sd ≤ 600)) ∧ ((fl = 1 ∧ 10 ≤ rd ∧ rd ≤ 3600) ∨ (fl ≠ 1 ∧ rd = 0)) ∧
      (st = 0xFFFF ∨ (areaOf st = .input ∧ ownAssigned se = true ∧ ownFunc se = 3 ∧ ownUnit se = 0)) ∧
      zeros b 16 16 = true ∧ es.all (fun e => decide (1 ≤ e.1.count ∧ e.1.count ≤ 8192 ∧ e.2 = 0)) = true ∧
      (es.map (·.1.count)).sum ≤ 8192 ∧ srcs.all (mirrorSrcOk own) = true ∧
      dsts.all (mirrorDstOk own) = true ∧ dsts.Nodup ∧
      es.all (fun e => pairs.all fun p =>
        decide (e.1.src ≤ p ∧ p < e.1.src + e.1.count) == decide (e.1.src ≤ p + 1 ∧ p + 1 < e.1.src + e.1.count)) = true then
    some { single := getN b 0 1 = 1, revert := fl = 1, plTimeout := pl, swapInterval := si, swapDwell := sd,
           revertDelay := rd, statSlot := if st = 0xFFFF then none else some st, entries := es.map (·.1) }
  else none

/-- R534. -/
def parseDiag (b : List Byte) : Option DiagSec :=
  let rt := getN b 1 1; let ri := getN b 2 1; let rs := getN b 3 1; let pc := getN b 4 1
  let dl := getN b 6 2; let lw := getN b 8 2; let sm := getN b 10 2
  if b.length = 16 ∧ getN b 0 1 < 2 ∧ 1 ≤ rt ∧ rt ≤ 7 ∧ 1 ≤ ri ∧ ri ≤ 7 ∧ 1 ≤ rs ∧ rs ≤ 7 ∧ pc ≤ 3 ∧
      zeros b 5 1 = true ∧ 1 ≤ dl ∧ dl ≤ 1000 ∧ 10 ≤ lw ∧ lw ≤ 3600 ∧
      sm &&& 0xA1D0 = sm ∧ zeros b 12 4 = true then
    some { scrubEn := getN b 0 1 = 1, retryMax := rt, reinitMax := ri, resetMax := rs, pcycMax := pc,
           retryDelay := dl, ladderWindow := lw, safeMask := sm }
  else none

end Sys2Proof.Machine
end

