-- ==== Sys2Proof/Machine/ImgMs.lean ====
section
/-! DEFINITION. The MILESTONES section (R263 to R267). -/

namespace Sys2Proof.Machine

/-- A reference that names nothing is FFFFFFFFh. -/
def optRef (w : Nat) : Option SlotRef := if w = 0xFFFFFFFF then none else some (SlotRef.dec w)

/-- An optional reference of type `t`. -/
def optType (own : List (Nat × W32)) (t w : Nat) : Bool := decide (w = 0xFFFFFFFF) || refType own t w

/-- A DIO channel is configured with KIND `k` (R378). Where the FIELDIO section itself fails, no use of it is judged: its own
TYPE is then the failing one. -/
def dioKind (f : Option FieldSec) (ch k : Nat) : Bool := f.elim true fun x => x.dio.any fun c => decide (c.ch = ch ∧ c.kind = k)

/-- The slots from `i` on are owned by one unit of a function and lie in one area. -/
def runOwned (own : List (Nat × W32)) (a : Area) (f u i n : Nat) : Bool :=
  (rangeOf i n).all fun k =>
    let e := lookupD (0 : W32) k own
    decide (areaOf k = a ∧ k < 65536) && ownAssigned e && decide (ownFunc e = f ∧ ownUnit e = u)

def domAt (b : List Byte) (en : Bool) (p : Nat) : DomCfg :=
  let sb := getN b (p + 24) 2
  { enable := en, mode := getN b p 1, missing := getN b (p + 1) 1, teeth := getN b (p + 2) 2, periodRev := getN b (p + 4) 1
    alphaShift := getN b (p + 5) 1, lossRatio := getN b (p + 6) 1, invDir := bit (getN b (p + 7) 1) 0
    camRev := b2n (bit (getN b (p + 7) 1) 1), zero := getN b (p + 8) 4, limit := getN b (p + 12) 4
    refDio := getN b (p + 16) 1, dirRef := optRef (getN b (p + 20) 4)
    statBase := if sb = 0xFFFF then none else some sb }

/-- An enabled domain's record meets R264 for its kind. INVDIR outside QUAD, and CAMREV with PERIODREV 1 or in QUAD, may hold either
value: whether R264 counts one bit of FLAGS among the fields not used it does not say (DESIGN CHOICE, log 121). -/
def domOk (own : List (Nat × W32)) (fld : Option FieldSec) (b : List Byte) (d p : Nat) : Bool :=
  let c := domAt b true p
  let fl := getN b (p + 7) 1
  let dr := getN b (p + 20) 4
  let quad := decide (c.mode = 2)
  (match c.statBase with
   | some i => runOwned own .input 6 (1024 + d) i 5
   | none => true) &&
  (if d < 4 then
    decide (c.mode ≤ 2 ∧ 8 ≤ c.teeth ∧ c.teeth ≤ 1024 ∧ c.alphaShift ≤ 7 ∧ 5 ≤ c.lossRatio ∧ c.lossRatio ≤ 32 ∧ fl < 4 ∧
      (c.periodRev = 1 ∨ c.periodRev = 2) ∧ c.zero < c.periodRev * 2 ^ 24) &&
    (if quad then
      decide (c.missing = 0 ∧ c.periodRev = 1 ∧ dr = 0 ∧ c.refDio < 32) && dioKind fld c.refDio 0
     else decide ((c.missing = 1 ∨ c.missing = 2) ∧ c.refDio = 255) && optType own 1 dr)
   else
    decide (c.mode = 0 ∧ c.missing = 0 ∧ c.teeth = 0 ∧ c.periodRev = 0 ∧ c.lossRatio = 0 ∧ fl = 0 ∧ c.refDio = 255 ∧ dr = 0) &&
    (if d = 7 then decide (c.alphaShift = 0 ∧ 400 ≤ c.zero ∧ c.zero ≤ 400000000 ∧ c.limit = 0)
     else decide (c.alphaShift ≤ 7) &&
      (if d = 6 then decide (c.zero < 2 ^ 24 ∧ c.limit = 0) else decide (c.zero = 0))))

def msCfgAt (b : List Byte) (p : Nat) : MsSlotCfg :=
  { num := getN b p 2, ctl := BitVec.ofNat 32 (getN b (p + 4) 4), tgt := getN b (p + 8) 4, endv := getN b (p + 12) 4
    win := getN b (p + 16) 4, out := BitVec.ofNat 32 (getN b (p + 20) 4), tgtRef := optRef (getN b (p + 24) 4)
    endRef := optRef (getN b (p + 28) 4), armRef := optRef (getN b (p + 32) 4), resRef := optRef (getN b (p + 36) 4)
    maxPulse := getN b (p + 40) 4 }

def msDom (c : MsSlotCfg) : Nat := field c.ctl.toNat 10 8
def msAct (c : MsSlotCfg) : Nat := field c.ctl.toNat 15 12

/-- A memory-area reference owned by MS whose unit is the slot's number. -/
def msRef (own : List (Nat × W32)) (n w : Nat) : Bool :=
  let r := SlotRef.dec w
  decide (areaOf r.slot = .memory) && refOwned own r 6 (some n)

/-- OUT names a unit that the action permits (R252, R274, R361); a CAPTURE names a WIDE reference (log 40). The
action NONE names no unit, and its OUT may hold any value (DESIGN CHOICE, log 121). -/
def msOutOk (own : List (Nat × W32)) (fld : Option FieldSec) (lps : LoopSec) (syncs n act out : Nat) : Bool :=
  match act with
  | 0 => true
  | 1 | 2 | 3 => dioKind fld out 2
  | 4 => lps.ctxs.any fun c => decide (c.ctx = out ∧ c.trig = 1)
  | 5 => fld.elim true fun x => x.ai.any fun c => decide (c.ch = out ∧ c.trig = 1)
  | 6 => refType own 18 out && msRef own n out
  | 7 | 8 => decide (out < 1024)
  | 9 => decide (out < syncs)
  | _ => false

def msSlotOk (own : List (Nat × W32)) (fld : Option FieldSec) (lps : LoopSec) (en syncs : Nat) (b : List Byte) (p : Nat) : Bool :=
  let c := msCfgAt b p
  let rr := getN b (p + 36) 4
  decide (c.num < 1024) && zeros b (p + 2) 2 && zeros b (p + 44) 4 &&
  decide (c.ctl.toNat &&& 0xF77D = c.ctl.toNat) && bit en (msDom c) &&
  msOutOk own fld lps syncs c.num (msAct c) c.out.toNat && (decide ((msAct c) ≠ 9) || decide ((msDom c) = 6)) &&
  optType own 8 (getN b (p + 24) 4) && optType own 8 (getN b (p + 28) 4) && optType own 1 (getN b (p + 32) 4) &&
  (decide (rr = 0xFFFFFFFF) || (refType own 14 rr && msRef own c.num rr)) &&
  decide (1 ≤ c.maxPulse ∧ c.maxPulse ≤ 400000000)

def syncAt (b : List Byte) (p : Nat) : SyncSet :=
  let fl := getN b (p + 2) 1
  { closeDio := getN b p 1, fbDio := getN b (p + 1) 1, fbFalling := bit fl 0, deadbus := bit fl 1, pulse := getN b (p + 4) 4
    ct0 := getN b (p + 8) 4, ctMin := getN b (p + 12) 4, ctMax := getN b (p + 16) 4, auxDelay := getN b (p + 20) 4
    ctRef := optRef (getN b (p + 24) 4), slipMin := toSigned 16 (getN b (p + 28) 2), slipMax := toSigned 16 (getN b (p + 30) 2)
    slipAccMax := getN b (p + 32) 2, duMax := getN b (p + 34) 2, uMin := getN b (p + 36) 2, uMax := getN b (p + 38) 2
    phMax := getN b (p + 40) 4 }

/-- A sync set meets R266; its CT_REF belongs to a slot that names the set (R268). A CT_REF in a set that no slot names is refused:
its slot can carry no slot's number as UNIT (DESIGN CHOICE, log 121). -/
def syncOk (own : List (Nat × W32)) (fld : Option FieldSec) (slots : List MsSlotCfg) (b : List Byte) (k p : Nat) : Bool :=
  let c := syncAt b p
  let cr := getN b (p + 24) 4
  dioKind fld c.closeDio 2 && dioKind fld c.fbDio 0 && decide (getN b (p + 2) 1 < 4) && zeros b (p + 3) 1 &&
  zeros b (p + 44) 4 && decide (400000 ≤ c.pulse ∧ c.pulse ≤ 400000000) &&
  decide (c.ctMin ≤ c.ct0 ∧ c.ct0 ≤ c.ctMax ∧ 1 ≤ c.ctMin ∧ c.ctMax ≤ 400000000) &&
  decide (-2000 ≤ c.slipMin ∧ c.slipMin ≤ 2000 ∧ c.slipMin ≤ c.slipMax ∧ c.slipMax ≤ 2000 ∧ c.uMin ≤ c.uMax) &&
  (decide (cr = 0xFFFFFFFF) ||
    (refType own 8 cr && slots.any fun m => decide (msAct m = 9 ∧ m.out.toNat = k) && msRef own m.num cr))

/-- Strictly ascending numbers. -/
def strictly : List Nat → Bool
  | [] => true
  | [_] => true
  | a :: b :: r => decide (a < b) && strictly (b :: r)

/-- R263 to R267. -/
def parseMs (own : List (Nat × W32)) (fld : Option FieldSec) (lps : LoopSec) (b : List Byte) : Option MsSec :=
  let en := getN b 0 1
  let n := getN b 2 2
  let y := getN b 4 2
  let slots := (List.range n).map fun k => msCfgAt b (264 + 48 * k)
  if b.length = 264 + 48 * n + 48 * y ∧ n ≤ 1024 ∧ y ≤ 16 ∧ zeros b 1 1 = true ∧ zeros b 6 2 = true ∧
      (List.range 8).all (fun d => zeros b (8 + 32 * d + 17) 3 && zeros b (8 + 32 * d + 26) 6 &&
        (!bit en d || domOk own fld b d (8 + 32 * d))) = true ∧
      strictly (slots.map (·.num)) = true ∧
      (List.range n).all (fun k => msSlotOk own fld lps en y b (264 + 48 * k)) = true ∧
      (List.range y).all (fun k => syncOk own fld slots b k (264 + 48 * n + 48 * k)) = true then
    some { doms := (List.range 8).map fun d => domAt b (bit en d) (8 + 32 * d)
           slots := slots
           syncs := (List.range y).map fun k => syncAt b (264 + 48 * n + 48 * k) }
  else none

end Sys2Proof.Machine
end

