-- ==== Sys2Proof/Machine/ImgLoop.lean ====
section
/-! DEFINITION. The LOOPS section and the rules on coefficient banks (R288, R292, R304 to R306). -/

namespace Sys2Proof.Machine

/-! ### Coefficient banks (R288, R292) -/

/-- Bank `k` of a context's 64 words. -/
def bankOf (ws : List F32) (k : Nat) : List F32 := (ws.drop (8 * k)).take 8

def wd (b : List F32) (k : Nat) : F32 := b.getD k 0

def isZ (w : F32) : Bool := F32.eq w 0

/-- Words that a law uses, the waypost apart. -/
def usedWords (law : Nat) : Nat := if law = 1 then 5 else 7

def bankOk (law : Nat) (b : List F32) : Bool :=
  b.all F32.isFin && ((b.drop (usedWords law)).take (7 - usedWords law)).all isZ &&
  (decide (law ≠ 0) ||
    (F32.le 0 (wd b 1) && F32.le 0 (wd b 2) && F32.le 0 (wd b 4) && (!F32.lt 0 (wd b 2) || F32.le F32.one (wd b 3)) &&
     F32.le 0 (wd b 5) && F32.le (wd b 5) F32.one && F32.le 0 (wd b 6) && F32.le (wd b 6) F32.one))

def ascendF : List F32 → Bool
  | [] => true
  | [_] => true
  | a :: b :: r => F32.lt a b && ascendF (b :: r)

/-- The wayposts of a set: WP of banks 0 to REGIONS - 2 (R289). -/
def wayposts (ws : List F32) (set regions : Nat) : List F32 := (List.range (regions - 1)).map fun k => wd (bankOf ws (4 * set + k)) 7

/-- A set may be made active (R292). -/
def setOk (law regions set : Nat) (ws : List F32) : Bool :=
  (List.range regions).all (fun k => bankOk law (bankOf ws (4 * set + k))) && ascendF (wayposts ws set regions)

/-! ### Context records (R305, R306) -/

def f32At (b : List Byte) (p : Nat) : F32 := BitVec.ofNat 32 (getN b p 4)

def loopAt (b : List Byte) (p : Nat) : LoopCfg :=
  let fl := getN b (p + 16) 1
  { ctx := getN b p 2, law := getN b (p + 2) 1, trig := getN b (p + 3) 1, period := getN b (p + 4) 4
    offset := getN b (p + 8) 4, deadline := getN b (p + 12) 4, profile := bit fl 0, initMode := field fl 2 1
    regions := getN b (p + 17) 1, missLimit := getN b (p + 18) 1, supvAct := getN b (p + 19) 1
    olo := f32At b (p + 20), ohi := f32At b (p + 24), orate := f32At b (p + 28), hrate := f32At b (p + 32)
    hys := f32At b (p + 36), vmax := f32At b (p + 40), amax := f32At b (p + 44), jmax := f32At b (p + 48)
    feLim := f32At b (p + 52), feTime := getN b (p + 56) 4, satTime := getN b (p + 60) 4, manv0 := f32At b (p + 64)
    pvRef := optRef (getN b (p + 68) 4), spRef := optRef (getN b (p + 72) 4), cspRef := optRef (getN b (p + 76) 4)
    ffRef := optRef (getN b (p + 80) 4), trkRef := optRef (getN b (p + 84) 4), manRef := optRef (getN b (p + 88) 4)
    modeRef := optRef (getN b (p + 92) 4), schedRef := optRef (getN b (p + 96) 4), outBind := optRef (getN b (p + 100) 4)
    statBind := optRef (getN b (p + 104) 4), pspBind := optRef (getN b (p + 108) 4)
    banks := (List.range 64).map fun k => f32At b (p + 128 + 4 * k) }

/-- A whole slot of type `t` in one of the areas, owned by one unit of a function, or none. -/
def bindOk (own : List (Nat × W32)) (areas : List Area) (f u t w : Nat) : Bool :=
  decide (w = 0xFFFFFFFF) ||
  (let r := SlotRef.dec w
   refType own t w && decide (r.widthM1 = 31) && areas.contains (areaOf r.slot) && refOwned own r f (some u))

def loopOk (own : List (Nat × W32)) (b : List Byte) (p : Nat) : Bool :=
  let c := loopAt b p
  let pos (w : F32) : Bool := if c.profile then F32.lt 0 w else decide (w = 0)
  decide (c.ctx < 160 ∧ c.law ≤ 2 ∧ c.trig ≤ 1 ∧ 20000 ≤ c.period ∧ c.period ≤ 400000000 ∧
    400 ≤ c.deadline ∧ c.deadline ≤ c.period ∧ getN b (p + 16) 1 < 8 ∧ 1 ≤ c.regions ∧ c.regions ≤ 4 ∧
    1 ≤ c.missLimit ∧ c.supvAct ≤ 1) &&
  (if c.trig = 0 then decide (c.offset < c.period) else decide (c.offset = 0)) &&
  [c.olo, c.ohi, c.orate, c.hrate, c.hys, c.vmax, c.amax, c.jmax, c.feLim, c.manv0].all F32.isFin &&
  F32.lt c.olo c.ohi && F32.le 0 c.orate && F32.le 0 c.hrate && F32.le 0 c.hys && pos c.vmax && pos c.amax && pos c.jmax &&
  F32.le 0 c.feLim && (!F32.lt 0 c.feLim || decide (1 ≤ c.feTime)) && F32.le c.olo c.manv0 && F32.le c.manv0 c.ohi &&
  c.pvRef.isSome && c.outBind.isSome && (decide (c.regions = 1) || c.schedRef.isSome) && (c.profile || c.pspBind.isNone) &&
  [68, 72, 76, 80, 84, 88, 96].all (fun o => optType own 10 (getN b (p + o) 4)) && optType own 6 (getN b (p + 92) 4) &&
  bindOk own [.output, .memory] 7 c.ctx 10 (getN b (p + 100) 4) && bindOk own [.memory] 7 c.ctx 14 (getN b (p + 104) 4) &&
  bindOk own [.memory] 7 c.ctx 10 (getN b (p + 108) 4) && zeros b (p + 112) 16 &&
  setOk c.law c.regions 0 c.banks && ((c.banks.drop 32).all (· == 0) || setOk c.law c.regions 1 c.banks) &&
  [0, 1].all fun s => ((List.range 4).drop c.regions).all fun k => (bankOf c.banks (4 * s + k)).all (· == 0)

def loopBinds (c : LoopCfg) : List Nat := [c.outBind, c.statBind, c.pspBind].filterMap fun r => r.map (·.slot)

/-- R304 to R306. -/
def parseLoops (own : List (Nat × W32)) (b : List Byte) : Option LoopSec :=
  let n := getN b 0 2
  let cs := (List.range n).map fun k => loopAt b (8 + 384 * k)
  if b.length = 8 + 384 * n ∧ n ≤ 160 ∧ zeros b 2 6 = true ∧ strictly (cs.map (·.ctx)) = true ∧
      (List.range n).all (fun k => loopOk own b (8 + 384 * k)) = true ∧ (cs.flatMap loopBinds).Nodup then
    some { ctxs := cs }
  else none

end Sys2Proof.Machine
end

