-- ==== Sys2Proof/Machine/ImgFld.lean ====
section
/-! DEFINITION. The FIELDIO section (R384 to R389). -/

namespace Sys2Proof.Machine

def aiAt (b : List Byte) (p : Nat) : AiCfg :=
  { ch := getN b p 1, mode := getN b (p + 1) 1, trig := getN b (p + 2) 1, hart := getN b (p + 3) 1, filt := getN b (p + 4) 1
    engLo := f32At b (p + 8), engHi := f32At b (p + 12), valBind := optRef (getN b (p + 16) 4)
    statBind := optRef (getN b (p + 20) 4), hstale := getN b (p + 24) 2 }

/-- HSTALE: 2,000 to 60,000 with HART, zero without (R385, R386). -/
def hstaleOk (hart h : Nat) : Bool := if hart = 0 then decide (h = 0) else decide (2000 ≤ h ∧ h ≤ 60000)

def aiOk (own : List (Nat × W32)) (b : List Byte) (p : Nat) : Bool :=
  let c := aiAt b p
  decide (c.ch < 24 ∧ c.mode ≤ 2 ∧ c.trig ≤ 1 ∧ c.hart ≤ 2 ∧ c.filt ≤ 7) && zeros b (p + 5) 3 && zeros b (p + 26) 6 &&
  !F32.eq c.engLo c.engHi && hstaleOk c.hart c.hstale && (c.valBind.isNone == decide (c.hart = 2)) &&
  (decide (c.trig = 0) || decide (c.hart = 0 ∧ c.filt = 0)) && (decide (c.mode ≠ 2) || decide (c.hart = 0)) &&
  bindOk own [.input] 10 c.ch 10 (getN b (p + 16) 4) && bindOk own [.input] 10 c.ch 14 (getN b (p + 20) 4)

def aoAt (b : List Byte) (p : Nat) : AoCfg :=
  { ch := getN b p 1, mode := getN b (p + 1) 1, hart := getN b (p + 2) 1, badact := getN b (p + 3) 1
    lossHigh := decide (getN b (p + 4) 1 = 1), holdMs := getN b (p + 5) 1, hstale := getN b (p + 6) 2
    engLo := f32At b (p + 8), engHi := f32At b (p + 12), src := SlotRef.dec (getN b (p + 16) 4)
    rbBind := optRef (getN b (p + 20) 4), statBind := optRef (getN b (p + 24) 4), safeval := getN b (p + 28) 2 }

def aoOk (own : List (Nat × W32)) (b : List Byte) (p : Nat) : Bool :=
  let c := aoAt b p
  decide (c.ch < 16 ∧ c.mode ≤ 1 ∧ c.hart ≤ 1 ∧ c.badact ≤ 3 ∧ getN b (p + 4) 1 ≤ 1 ∧ 1 ≤ c.holdMs ∧ c.holdMs ≤ 50 ∧
    3500 ≤ c.safeval ∧ c.safeval ≤ 21500) && zeros b (p + 30) 2 && hstaleOk c.hart c.hstale &&
  !F32.eq c.engLo c.engHi && refType own 10 (getN b (p + 16) 4) && decide (c.src.widthM1 = 31) &&
  bindOk own [.input] 11 c.ch 10 (getN b (p + 20) 4) && bindOk own [.input] 11 c.ch 14 (getN b (p + 24) 4)

def dioAt (b : List Byte) (p : Nat) : DioCfg :=
  let f := getN b (p + 4) 1
  { ch := getN b p 1, kind := getN b (p + 1) 1, filt := getN b (p + 2) 2, inv := bit f 0, safeOn := bit f 1
    badact := field f 3 2, oldet := bit f 4, src := optRef (getN b (p + 8) 4), bind := optRef (getN b (p + 12) 4) }

def dioOk (own : List (Nat × W32)) (b : List Byte) (p : Nat) : Bool :=
  let c := dioAt b p
  let f := getN b (p + 4) 1
  let bw := getN b (p + 12) 4
  decide (c.ch < 32 ∧ c.kind ≤ 2 ∧ 1 ≤ c.filt ∧ c.filt ≤ 20000 ∧ c.badact ≤ 2) && zeros b (p + 5) 3 &&
  decide (f &&& (match c.kind with | 0 => 0x01 | 1 => 0x1F | _ => 0x11) = f) &&
  (if c.kind = 1 then refType own 1 (getN b (p + 8) 4) else c.src.isNone) &&
  (decide (bw = 0xFFFFFFFF) ||
    (let r := SlotRef.dec bw
     refType own 1 bw && decide (areaOf r.slot = .input) && refOwned own r 12 (some c.ch)))

def hartAt (b : List Byte) (p : Nat) : HartEntry :=
  { ao := decide (getN b p 1 = 1), ch := getN b (p + 1) 1, addr := getN b (p + 2) 1, var := getN b (p + 3) 1
    ref := SlotRef.dec (getN b (p + 4) 4) }

def hartOk (own : List (Nat × W32)) (ai : List AiCfg) (ao : List AoCfg) (b : List Byte) (p : Nat) : Bool :=
  let e := hartAt b p
  let h := if e.ao then (findKey (·.ch) e.ch ao).elim 0 (·.hart) else (findKey (·.ch) e.ch ai).elim 0 (·.hart)
  decide (getN b p 1 ≤ 1 ∧ e.var ≤ 3 ∧ h ≠ 0) && (if h = 1 then decide (e.addr = 0) else decide (1 ≤ e.addr ∧ e.addr ≤ 15)) &&
  refType own 10 (getN b (p + 4) 4) && decide (e.ref.widthM1 = 31 ∧ areaOf e.ref.slot = .input) &&
  refOwned own e.ref (if e.ao then 11 else 10) (some e.ch)

/-- Two references share a bit. -/
def refsMeet (a b : SlotRef) : Bool :=
  decide (a.slot = b.slot ∧ a.bitpos ≤ b.bitpos + b.widthM1 ∧ b.bitpos ≤ a.bitpos + a.widthM1)

/-- No slot or field is bound twice. -/
def refsApart : List SlotRef → Bool
  | [] => true
  | a :: r => r.all (fun b => !refsMeet a b) && refsApart r

/-- The distinct elements, in order of first occurrence. -/
def distinct {α : Type} [DecidableEq α] (xs : List α) : List α := xs.foldl (fun a x => if x ∈ a then a else a ++ [x]) []

/-- R384 to R389. -/
def parseFld (own : List (Nat × W32)) (b : List Byte) : Option FieldSec :=
  let na := getN b 0 1; let no := getN b 1 1; let nd := getN b 2 1; let nh := getN b 8 2
  let po := 16 + 32 * na; let pd := po + 32 * no; let ph := pd + 16 * nd
  let ai := (List.range na).map fun k => aiAt b (16 + 32 * k)
  let ao := (List.range no).map fun k => aoAt b (po + 32 * k)
  let dio := (List.range nd).map fun k => dioAt b (pd + 16 * k)
  let hart := (List.range nh).map fun k => hartAt b (ph + 8 * k)
  if b.length = ph + 8 * nh ∧ na ≤ 24 ∧ no ≤ 16 ∧ nd ≤ 32 ∧ nh ≤ 160 ∧ getN b 3 1 ≤ 2 ∧ getN b 4 4 < 400000 ∧
      zeros b 10 6 = true ∧ strictly (ai.map (·.ch)) = true ∧ strictly (ao.map (·.ch)) = true ∧
      strictly (dio.map (·.ch)) = true ∧
      (List.range na).all (fun k => aiOk own b (16 + 32 * k)) = true ∧
      (List.range no).all (fun k => aoOk own b (po + 32 * k)) = true ∧
      (List.range nd).all (fun k => dioOk own b (pd + 16 * k)) = true ∧
      (List.range nh).all (fun k => hartOk own ai ao b (ph + 8 * k)) = true ∧
      ai.all (fun c => decide ((distinct ((hart.filter fun e => !e.ao && decide (e.ch = c.ch)).map (·.addr))).length ≤ 5)) = true ∧
      refsApart (ai.flatMap (fun c => c.valBind.toList ++ c.statBind.toList) ++
        ao.flatMap (fun c => c.rbBind.toList ++ c.statBind.toList) ++ dio.flatMap (·.bind.toList) ++ hart.map (·.ref)) = true then
    some { twsup := getN b 3 1, scanPhase := getN b 4 4, ai := ai, ao := ao, dio := dio, hart := hart }
  else none

end Sys2Proof.Machine
end

