-- ==== Sys2Proof/Machine/ImgRio.lean ====
section
/-! DEFINITION. The CAN, ETH and USL sections (R394, R395, R415 to R419, R449 to R451). -/

namespace Sys2Proof.Machine

/-! ### Map entries (R417) -/

def mapAt (b : List Byte) (p : Nat) : RioMap :=
  { tx := decide (getN b p 1 = 1), substUncertain := decide (getN b (p + 1) 1 = 1), bitofs := getN b (p + 2) 2
    ref := SlotRef.dec (getN b (p + 4) 4), subst := BitVec.ofNat 32 (getN b (p + 8) 4) }

def mapsAt (b : List Byte) (p n : Nat) : List RioMap := (List.range n).map fun k => mapAt b (p + 16 * k)

/-- A map entry's fields lie in their ranges, and its field within `rx` or `tx` data bytes; `rxOk` judges an RX
reference. -/
def mapOk (own : List (Nat × W32)) (rxOk : SlotRef → Bool) (rx tx : Nat) (b : List Byte) (p : Nat) : Bool :=
  let m := mapAt b p
  let n := m.ref.widthM1 + 1
  decide (getN b p 1 ≤ 1 ∧ getN b (p + 1) 1 ≤ 1) && zeros b (p + 12) 4 && refOk own (getN b (p + 4) 4) && !m.ref.wide &&
  decide (m.bitofs + n ≤ 8 * (if m.tx then tx else rx)) &&
  (if m.tx then decide (getN b (p + 1) 1 = 0 ∧ m.subst = 0) else decide (m.subst.toNat < 2 ^ n) && rxOk m.ref)

/-- The map fields of one direction do not overlap. -/
def mapsApart (ms : List RioMap) : Bool :=
  let f (t : Bool) : List SlotRef := (ms.filter fun m => decide (m.tx = t)).map fun m =>
    { slot := 0, bitpos := m.bitofs, widthM1 := m.ref.widthM1, wide := false }
  refsApart (f true) && refsApart (f false)

def slotRef (i : Nat) : SlotRef := { slot := i, bitpos := 0, widthM1 := 31, wide := false }

/-- An input-area slot that one unit of a function owns. -/
def inputOf (own : List (Nat × W32)) (f u i : Nat) : Bool :=
  let e := lookupD (0 : W32) i own
  decide (areaOf i = .input) && ownAssigned e && decide (ownFunc e = f ∧ ownUnit e = u)

/-- What a station or a connection binds: RX references and its status slot. -/
def boundRefs (stat : Nat) (ms : List RioMap) : List SlotRef := slotRef stat :: (ms.filter fun m => !m.tx).map (·.ref)

/-! ### CAN (R415 to R419) -/

def canStationAt (b : List Byte) (p : Nat) : StationCfg :=
  { addr := getN b p 1, missLimit := getN b (p + 1) 1, rxLen := getN b (p + 2) 1, txLen := getN b (p + 3) 1
    hold := getN b (p + 4) 4, statSlot := getN b (p + 8) 2, maps := mapsAt b (p + 16) (getN b (p + 10) 2) }

def canStationOk (own : List (Nat × W32)) (ch : Nat) (b : List Byte) (p : Nat) : Bool :=
  let c := canStationAt b p
  let n := getN b (p + 10) 2
  decide (1 ≤ c.addr ∧ c.addr ≤ 127 ∧ 1 ≤ c.missLimit ∧ c.rxLen ≤ 60 ∧ c.txLen ≤ 60 ∧ n ≤ 256) && zeros b (p + 12) 4 &&
  inputOf own 9 ch c.statSlot &&
  (List.range n).all (fun k => mapOk own (fun r => inputOf own 9 ch r.slot) c.rxLen c.txLen b (p + 16 + 16 * k)) && mapsApart c.maps

/-- `n` station entries from `p` on, with where they end. -/
def canStations (own : List (Nat × W32)) (ch : Nat) (b : List Byte) : Nat → Nat → Option (List StationCfg × Nat)
  | 0, p => some ([], p)
  | n + 1, p =>
    if canStationOk own ch b p then
      (canStations own ch b n (p + 16 + 16 * getN b (p + 10) 2)).map fun r => (canStationAt b p :: r.1, r.2)
    else none

def filterAt (b : List Byte) (p : Nat) : CanFilter :=
  { ide := bit (getN b p 4) 31, ident := getN b p 4 % 2 ^ 29, mask := getN b (p + 4) 4, dest := getN b (p + 8) 1 }

def filterOk (b : List Byte) (p : Nat) : Bool :=
  let w := getN b p 4
  let lim := if bit w 31 then 2 ^ 29 else 2 ^ 11
  decide (w % 2 ^ 31 < lim ∧ getN b (p + 4) 4 < lim ∧ getN b (p + 8) 1 ≤ 2) && zeros b (p + 9) 3

/-- The bit timing meets R394 and R395. -/
def timingOk (c : CanCfg) : Bool :=
  let nb := c.nbrp * (1 + c.ntseg1 + c.ntseg2)
  let db := c.nbrp * (1 + c.dtseg1 + c.dtseg2)
  decide (1 ≤ c.nbrp ∧ c.nbrp ≤ 32 ∧ 2 ≤ c.ntseg1 ∧ c.ntseg1 ≤ 256 ∧ 2 ≤ c.ntseg2 ∧ c.ntseg2 ≤ 128 ∧ 1 ≤ c.nsjw ∧
    c.nsjw ≤ c.ntseg2 ∧ 2 ≤ c.dtseg1 ∧ c.dtseg1 ≤ 32 ∧ 1 ≤ c.dtseg2 ∧ c.dtseg2 ≤ 16 ∧ 1 ≤ c.dsjw ∧ c.dsjw ≤ c.dtseg2 ∧
    80 ≤ nb ∧ 10 ≤ db ∧ db ≤ nb) &&
  (c.tdcEn || decide (80 ≤ db)) && (if c.tdcEn then decide (1 ≤ c.tdco ∧ c.tdco ≤ 127) else decide (c.tdco = 0))

/-- LEAD by role (R416). -/
def leadOk (role lead base : Nat) : Bool :=
  match role with
  | 1 => decide (4000 ≤ lead ∧ lead ≤ base)
  | 2 => decide (400000 ≤ lead ∧ lead ≤ 400000000)
  | _ => decide (lead = 0)

def canRec (b : List Byte) (p : Nat) (sts : List StationCfg) (fs : List CanFilter) : CanCfg :=
  let f := getN b (p + 2) 1
  { ch := getN b p 1, role := getN b (p + 1) 1, brs := bit f 0, listen := bit f 1, tdcEn := bit f 2, addr := getN b (p + 3) 1
    nbrp := getN b (p + 4) 1, ntseg2 := getN b (p + 5) 1, ntseg1 := getN b (p + 6) 2, nsjw := getN b (p + 8) 1
    dtseg1 := getN b (p + 9) 1, dtseg2 := getN b (p + 10) 1, dsjw := getN b (p + 11) 1, tdco := getN b (p + 12) 1
    idBase := getN b (p + 14) 2, lead := getN b (p + 16) 4, busoffHold := getN b (p + 20) 2
    statBind := optRef (getN b (p + 24) 4), stations := sts, filters := fs }

/-- One channel's record, stations and filters at `p`, with where they end. -/
def canChan (own : List (Nat × W32)) (base ch : Nat) (b : List Byte) (p : Nat) : Option (CanCfg × Nat) :=
  let c := canRec b p [] []
  let ns := getN b (p + 22) 1; let nf := getN b (p + 23) 1
  let head := decide (c.ch = ch ∧ c.role ≤ 2 ∧ getN b (p + 2) 1 < 8 ∧ nf ≤ 32 ∧ 10 ≤ c.busoffHold ∧ c.busoffHold ≤ 1000) &&
    zeros b (p + 13) 1 && zeros b (p + 28) 4 && decide (c.idBase ∈ [0, 0x200, 0x400, 0x600]) && timingOk c &&
    (!c.listen || decide (c.role = 0)) && leadOk c.role c.lead base &&
    (match c.role with
     | 1 => decide (1 ≤ ns ∧ ns ≤ 32 ∧ c.addr = 0)
     | 2 => decide (ns = 1 ∧ 1 ≤ c.addr ∧ c.addr ≤ 127)
     | _ => decide (ns = 0 ∧ c.addr = 0)) && bindOk own [.input] 9 ch 14 (getN b (p + 24) 4)
  if !head then none
  else match canStations own ch b ns (p + 32) with
    | none => none
    | some (sts, q) =>
      if (List.range nf).all (fun k => filterOk b (q + 12 * k)) = true ∧ (sts.map (·.addr)).Nodup ∧
          (c.role ≠ 2 ∨ sts.map (·.addr) = [c.addr]) then
        some (canRec b p sts ((List.range nf).map fun k => filterAt b (q + 12 * k)), q + 12 * nf)
      else none

def canChans (own : List (Nat × W32)) (base : Nat) (b : List Byte) : List Nat → Nat → Option (List CanCfg × Nat)
  | [], p => some ([], p)
  | ch :: r, p =>
    match canChan own base ch b p with
    | some (c, q) => (canChans own base b r q).map fun x => (c :: x.1, x.2)
    | none => none

def parseCan (own : List (Nat × W32)) (base : Nat) (b : List Byte) : Option CanSec :=
  let mask := getN b 0 1
  match canChans own base b ((List.range 4).filter fun n => bit mask n) 8 with
  | some (cs, e) =>
    if e = b.length ∧ 8 ≤ b.length ∧ mask < 16 ∧ zeros b 1 7 = true ∧
        refsApart (cs.flatMap fun c => c.statBind.toList ++ c.stations.flatMap fun x => boundRefs x.statSlot x.maps) = true then
      some { chans := cs }
    else none
  | none => none

/-- The identifiers of a channel's remote-I/O frames (R409). -/
def rioIds (c : CanCfg) : List Nat :=
  if c.role = 0 then [] else c.idBase :: c.stations.flatMap fun x => [c.idBase + 0x100 + x.addr, c.idBase + 0x180 + x.addr]

/-! ### ETH (R449, R451) -/

def ethStationAt (b : List Byte) (p : Nat) : StationCfg :=
  { addr := getN b p 1, missLimit := getN b (p + 1) 1, rxLen := getN b (p + 2) 2, txLen := getN b (p + 4) 2
    statSlot := getN b (p + 6) 2, hold := getN b (p + 8) 4, ip := BitVec.ofNat 32 (beNat (slice b (p + 12) 4))
    maps := mapsAt b (p + 24) (getN b (p + 16) 2) }

def ethStationOk (own : List (Nat × W32)) (b : List Byte) (p : Nat) : Bool :=
  let c := ethStationAt b p
  let n := getN b (p + 16) 2
  decide (1 ≤ c.addr ∧ c.addr ≤ 64 ∧ 1 ≤ c.missLimit ∧ c.rxLen ≤ 1024 ∧ c.txLen ≤ 1024 ∧ n ≤ 512) && zeros b (p + 18) 6 &&
  inputOf own 14 0 c.statSlot &&
  (List.range n).all (fun k => mapOk own (fun r => inputOf own 14 0 r.slot) c.rxLen c.txLen b (p + 24 + 16 * k)) && mapsApart c.maps

def ethStations (own : List (Nat × W32)) (b : List Byte) : Nat → Nat → Option (List StationCfg × Nat)
  | 0, p => some ([], p)
  | n + 1, p =>
    if ethStationOk own b p then
      (ethStations own b n (p + 24 + 16 * getN b (p + 16) 2)).map fun r => (ethStationAt b p :: r.1, r.2)
    else none

/-- A contiguous netmask. -/
def maskOk (m : Nat) : Bool := (List.range 33).any fun k => decide (m = 2 ^ 32 - 2 ^ k)

/-- An address within the subnet that is neither its network nor its broadcast address. -/
def hostOk (mask net ip : Nat) : Bool :=
  decide (ip &&& mask = net ∧ ip ≠ net ∧ ip ≠ net + (2 ^ 32 - 1 - mask))

/-- ADDR and STATION_COUNT by role (R449). -/
def countOk (role addr ns : Nat) : Bool :=
  match role with
  | 1 => decide (addr = 0 ∧ 1 ≤ ns ∧ ns ≤ 64)
  | 2 => decide (1 ≤ addr ∧ addr ≤ 64 ∧ ns = 1)
  | _ => decide (addr = 0 ∧ ns = 0)

def parseEth (own : List (Nat × W32)) (base : Nat) (b : List Byte) : Option EthSec :=
  let fl := getN b 0 1
  let ip (o : Nat) : Nat := beNat (slice b o 4)
  let role := getN b 32 1; let ns := getN b 34 1; let mask := ip 20
  let own4 := [ip 4, ip 8, ip 12, ip 16]
  let stepNs := getN b 28 4
  match ethStations own b ns 48 with
  | some (sts, e) =>
    if e = b.length ∧ fl < 16 ∧ bit fl 2 = (bit fl 0 && bit fl 1) ∧ getN b 1 1 ≤ 1 ∧ getN b 2 1 ≤ 127 ∧ getN b 3 1 ≤ 1 ∧
        maskOk mask = true ∧ own4.Nodup ∧ own4.all (hostOk mask (ip 4 &&& mask)) = true ∧ 1000 ≤ stepNs ∧ stepNs ≤ 1000000000 ∧
        role ≤ 2 ∧ leadOk role (getN b 36 4) base = true ∧
        countOk role (getN b 33 1) ns = true ∧
        zeros b 35 1 = true ∧ zeros b 44 4 = true ∧ bindOk own [.input] 14 0 14 (getN b 40 4) = true ∧
        (sts.map (·.addr)).Nodup ∧ (sts.map (·.ip)).Nodup ∧
        (((optRef (getN b 40 4)).toList ++ sts.flatMap fun x => boundRefs x.statSlot x.maps).map (·.slot)).Nodup then
      some { e1En := bit fl 0, e2En := bit fl 1, prp := bit fl 2, ptpEn := bit fl 3, speed := getN b 1 1
             ptpDomain := getN b 2 1, ptpTransport := getN b 3 1, ipA := BitVec.ofNat 32 (ip 4), ipB := BitVec.ofNat 32 (ip 8)
             ipRef := BitVec.ofNat 32 (ip 12), ipSvc := BitVec.ofNat 32 (ip 16), netmask := BitVec.ofNat 32 mask
             gateway := BitVec.ofNat 32 (ip 24), stepNs := stepNs, role := role, addr := getN b 33 1, lead := getN b 36 4
             statBind := optRef (getN b 40 4), stations := sts }
    else none
  | none => none

/-! ### USL (R450, R451) -/

def uslAt (b : List Byte) (p : Nat) : UslCfg :=
  let f := getN b (p + 3) 1
  let md := getN b (p + 2) 1
  { conn := getN b p 1, sink := decide (getN b (p + 1) 1 = 1), medium := md, reint := bit f 0, timechk := bit f 1
    connId := BitVec.ofNat 32 (getN b (p + 4) 4)
    peer := BitVec.ofNat 32 (if md = 0 then beNat (slice b (p + 8) 4) else getN b (p + 8) 4)
    wd := getN b (p + 12) 4, len := getN b (p + 16) 1, seqwin := getN b (p + 17) 1, statSlot := getN b (p + 18) 2
    maps := mapsAt b (p + 32) (getN b (p + 20) 2) }

/-- An output-area slot with SAFETY set (R451). -/
def safetyOut (own : List (Nat × W32)) (r : SlotRef) : Bool :=
  let e := lookupD (0 : W32) r.slot own
  decide (areaOf r.slot = .output) && ownAssigned e && ownSafety e

def uslOk (own : List (Nat × W32)) (can : CanSec) (b : List Byte) (p : Nat) : Bool :=
  let c := uslAt b p
  let n := getN b (p + 20) 2
  let id := c.connId.toNat
  let pr := c.peer.toNat
  decide (c.conn < 64 ∧ getN b (p + 1) 1 ≤ 1 ∧ c.medium ≤ 4 ∧ getN b (p + 3) 1 < 4 ∧ 1 ≤ id ∧ id ≤ 0xFFFFFFFE ∧
    400000 ≤ c.wd ∧ c.wd ≤ 400000000 ∧ 1 ≤ c.len ∧ c.len ≤ 32 ∧ 1 ≤ c.seqwin ∧ c.seqwin ≤ 8 ∧ 1 ≤ n ∧ n ≤ 64) &&
  zeros b (p + 22) 10 && inputOf own 15 c.conn c.statSlot &&
  c.maps.all (fun m => decide (m.tx = !c.sink) && !m.substUncertain && (c.sink || safetyOut own m.ref)) &&
  (List.range n).all (fun k => mapOk own (fun r => inputOf own 15 c.conn r.slot) c.len c.len b (p + 32 + 16 * k)) &&
  mapsApart c.maps &&
  (decide (c.medium = 0) ||
    (decide (pr &&& 0x07FF07FF = pr ∧ pr % 2048 ≠ pr / 65536) &&
      (match findKey (·.ch) (c.medium - 1) can.chans with
       | some k => decide (pr % 2048 ∉ rioIds k ∧ pr / 65536 ∉ rioIds k)
       | none => false)))

def uslConns (own : List (Nat × W32)) (can : CanSec) (b : List Byte) : Nat → Nat → Option (List UslCfg × Nat)
  | 0, p => some ([], p)
  | n + 1, p =>
    if uslOk own can b p then
      (uslConns own can b n (p + 32 + 16 * getN b (p + 20) 2)).map fun r => (uslAt b p :: r.1, r.2)
    else none

def parseUsl (own : List (Nat × W32)) (can : CanSec) (b : List Byte) : Option UslSec :=
  let n := getN b 0 1
  match uslConns own can b n 8 with
  | some (cs, e) =>
    if e = b.length ∧ 8 ≤ b.length ∧ n ≤ 64 ∧ zeros b 1 7 = true ∧ strictly (cs.map (·.conn)) = true ∧ (cs.map (·.connId)).Nodup ∧
        ((cs.flatMap fun x => boundRefs x.statSlot x.maps).map (·.slot)).Nodup then
      some { conns := cs }
    else none
  | none => none

end Sys2Proof.Machine
end

