-- ==== Sys2Proof/Machine/BarnOps.lean ====
section
/-! DEFINITION. The Barn's banks, saves, checkpoint requests and restore (R179 to R184). -/

namespace Sys2Proof.Machine

/-- RETMAP (R179): bit b of byte j is set when slot 8000h + 8j + b is retentive. -/
def retMap (slots : List Nat) : List Byte :=
  (List.range 3072).map fun j =>
    BitVec.ofNat 8 ((List.range 8).foldl (fun a b => a + b2n (slots.contains (0x8000 + 8 * j + b)) * 2 ^ b) 0)

/-- Bytes 4 to 55 of a bank. -/
def Bank.head (b : Bank) : List Byte :=
  leBytes 4 b.saveCount ++ leBytes 2 b.entries.length ++ leBytes 1 b.cause ++ leBytes 5 0 ++ leBytes 8 b.time ++
    (b.digest ++ List.replicate 32 0).take 32

/-- The bytes that a bank's CRC covers (R179). -/
def Bank.covered (b : Bank) : List Byte :=
  b.head ++ retMap (b.entries.map (·.1)) ++ b.entries.flatMap (fun e => leBytes 4 e.2.1.1.toNat) ++
    b.entries.map (·.2.1.2) ++ b.entries.flatMap (fun e => leBytes 1 e.2.2)

/-- The newest bank (R182): the valid one with the highest SAVECOUNT, the lower number on a tie. -/
def newestFrom : Nat → Option (Nat × Nat) → List Bank → Option (Nat × Nat)
  | _, best, [] => best
  | i, best, b :: r =>
    newestFrom (i + 1)
      (if b.ok then match best with
        | some (j, n) => if n < b.saveCount then some (i, b.saveCount) else some (j, n)
        | none => some (i, b.saveCount)
       else best) r

def newestBank (bs : List Bank) : Option (Nat × Nat) := newestFrom 0 none bs

/-- The module may save (R180). -/
def State.maySave (s : State) : Bool :=
  decide (s.mode = .active ∨ s.mode = .standby ∨ s.mode = .isolated ∨ s.mode = .safe) &&
  decide (0 < s.img.cycle.ret.length)

/-- The RET slots as they stand (R180); a forced slot gives its shadow. -/
def State.snapBank (cause : Nat) (s : State) : Bank :=
  { cause := cause, time := s.ns, digest := s.img.digest,
    entries := s.img.cycle.ret.map fun p => (p.1, s.ownSlot p.1, p.2) }

/-- A save begins writing: its bank loses its mark, and SAVECOUNT is one more than the newest's (R180, R182). -/
def State.beginSave (content : Bank) (s : State) : State :=
  let nw := newestBank s.barn.banks
  let i := match nw with | some (i, _) => (i + 1) % 4 | none => 0
  let n := match nw with | some (_, n) => if n < 0xFFFFFFFE then n + 1 else 1 | none => 1
  let c : Bank := { content with saveCount := n }
  { s with barn := { s.barn with
      banks := modifyAt s.barn.banks i fun b => { b with ok := false }
      save := some { bank := i, start := s.clock, content := { c with crc := crc32 c.covered } } } }

/-- The snapshot of a save at this tick (R180). -/
def State.snapshot (cause : Nat) (s : State) : State :=
  let s1 := s.beginSave (s.snapBank cause)
  { s1 with barn := { s1.barn with lastSnap := some s.clock, req := .none } }

/-- A checkpoint request takes effect (R180). -/
def State.effectCheckpoint (s : State) : State :=
  if s.mode = .active then { s with barn := { s.barn with req := .await } }
  else if s.maySave then s.snapshot 2 else { s with barn := { s.barn with req := .none } }

/-- The tick from which a checkpoint may take effect (R181). -/
def State.checkFrom (s : State) : Nat := match s.barn.lastSnap with | some t => t + secTicks 1 | none => 0

/-- A checkpoint is requested (R181); deferred requests merge. -/
def State.requestCheckpoint (s : State) : State :=
  if !s.maySave || s.barn.req ≠ .none then s
  else if s.barn.save.isSome || decide (s.clock < s.checkFrom) then
    { s with barn := { s.barn with req := .deferred s.checkFrom } }
  else s.effectCheckpoint

/-- A deferral ends (R181). -/
def State.checkpointDue (s : State) : State :=
  match s.barn.req with
  | .deferred t => if t ≤ s.clock ∧ s.barn.save = none then s.effectCheckpoint else s
  | _ => s

/-- The save in progress completes; a power-fail save that waits begins (R180, R181). -/
def State.saveDone (s : State) : State :=
  match s.barn.save with
  | none => s
  | some v =>
    let s1 : State := { s with barn := { s.barn with
      banks := modifyAt s.barn.banks v.bank fun _ => { v.content with ok := true }, save := none } }
    match s1.barn.next with
    | some c =>
      let s2 := s1.beginSave c
      { s2 with barn := { s2.barn with next := none } }
    | none => s1.checkpointDue

/-- The power-fail save (R180, R181). -/
def State.powerFailSave (s : State) : State :=
  if !s.maySave then s
  else match s.barn.save with
    | none => s.snapshot 1
    | some _ => { s with barn := { s.barn with next := some (s.snapBank 1), lastSnap := some s.clock, req := .none } }

/-- Restore from the newest bank before start-up ends (R183). Where no bank is valid the record says so with bank FFh and
SAVECOUNT 0, which no rule codes (DESIGN CHOICE, log 125). -/
def State.barnRestore (s : State) : State :=
  let ret := s.img.cycle.ret
  match newestBank s.barn.banks with
  | none => s.record 0x0405 0 0 (leBytes 1 0xFF ++ leBytes 4 0 ++ leBytes 2 0 ++ leBytes 2 ret.length)
  | some (i, n) =>
    let es := (s.barn.banks.getD i {}).entries
    let hit := ret.filterMap fun p => (es.find? fun e => decide (e.1 = p.1 ∧ e.2.2 = p.2)).map fun e => (p.1, e.2.1)
    let s1 := hit.foldl (fun s h => s.writeSlot h.1 h.2.1 (h.2.2 &&& 0xDF#8)) s
    s1.record 0x0405 0 0 (leBytes 1 i ++ leBytes 4 n ++ leBytes 2 hit.length ++ leBytes 2 (ret.length - hit.length))

end Sys2Proof.Machine
end

