-- ==== Sys2Proof/Machine/BlockSig.lean ====
section
/-! DEFINITION. The block catalogue's shapes (R191, R196, R200, R210, R214 to R224): inputs, outputs, parameters, cost
and kept state of each block type. -/

namespace Sys2Proof.Machine

/-! ### Type sets of the catalogue -/

def tInt (t : Nat) : Bool := decide (2 ≤ t ∧ t ≤ 9)
def tReal (t : Nat) : Bool := decide (t = 10 ∨ t = 11)
def tTime (t : Nat) : Bool := decide (t = 16 ∨ t = 17)
def tAny (t : Nat) : Bool := decide (1 ≤ t ∧ t ≤ 18)
def tNum (t : Nat) : Bool := tInt t || tReal t || tTime t
def tNumS (t : Nat) : Bool := tNum t || decide (t = 18)
def tSgn (t : Nat) : Bool := decide (2 ≤ t ∧ t ≤ 5) || tReal t || tTime t
def tByteL (t : Nat) : Bool := decide (12 ≤ t ∧ t ≤ 15)
def tBits (t : Nat) : Bool := decide (t = 1) || tByteL t
def t64 (t : Nat) : Bool := decide (typeBits t = 64)
/-- Words that a value of the type takes (R196). -/
def typeWords (t : Nat) : Nat := if t64 t then 2 else 1

/-- The pairs of SRCT and DTYPE that R219's table covers. -/
def convOk (src dst : Nat) : Bool :=
  let it (t : Nat) : Bool := tInt t || tTime t
  (tReal src && (it dst || tReal dst)) || (it src && tReal dst) ||
  ((it src || src == 18) && (it dst || dst == 18)) || (tBits src && (tBits dst || tInt dst)) ||
  (src == 1 && tNum dst) || (tNum src && dst == 1)

/-- A block's shape: type codes of inputs and outputs, parameter words, cost in ticks, kept-state words and the output
of its principal item. -/
structure BSig where
  ins : List Nat
  outs : List Nat
  npar : Nat := 0
  ticks : Nat
  kw : Nat := 0
  prin : Option Nat := none
  deriving DecidableEq, Repr

/-- The j-th parameter word. -/
def parW (ps : List W32) (j : Nat) : Nat := (ps.getD j 0).toNat

/-- A block's shape, or none where the catalogue does not permit the type, the counts or the first parameter. -/
def blockSig (b t nin : Nat) (ps : List W32) : Option BSig :=
  let w := typeWords t
  let c (a d : Nat) : Nat := if t64 t then d else a
  let on (p : Bool) (s : BSig) : Option BSig := if p then some s else none
  let n16 : Bool := decide (2 ≤ nin ∧ nin ≤ 16)
  match b with
  | 0x01 => on (tAny t) { ins := [t], outs := [t], ticks := c 2 3 }
  | 0x02 => on (tAny t) { ins := [1, t, t], outs := [t], ticks := c 3 4 }
  | 0x03 => on (tAny t && decide (3 ≤ nin ∧ nin ≤ 17)) { ins := 7 :: List.replicate (nin - 1) t, outs := [t], ticks := c 3 4 }
  | 0x04 => on (tNum t) { ins := [t, t, t], outs := [t], ticks := c 3 4 }
  | 0x05 | 0x06 => on (tNumS t && n16) { ins := List.replicate nin t, outs := [t], ticks := c (nin + 1) (2 * nin + 1) }
  | 0x07 => on (tReal t) { ins := [t, t, t], outs := [t, 1], npar := w, ticks := c 6 8 }
  | 0x08 => on (tAny t) { ins := [t, t], outs := [t], npar := 1, ticks := c 3 4 }
  | 0x09 => on (tAny t) { ins := [t], outs := [1, 6, 12], ticks := 2 }
  | 0x0A => on (tAny t) { ins := [t, 6], outs := [t], ticks := c 2 3 }
  | 0x10 => on (tNum t && n16) { ins := List.replicate nin t, outs := [t], ticks := c (nin + 1) (2 * nin + 1) }
  | 0x11 => on (tNum t) { ins := [t, t], outs := [t], ticks := c 3 4 }
  | 0x12 => on ((tInt t || tReal t) && n16) { ins := List.replicate nin t, outs := [t], ticks := c (nin + 1) (2 * nin + 1) }
  | 0x13 => on (tInt t || tReal t) { ins := [t, t], outs := [t], ticks := c 6 10 }
  | 0x14 => on (tInt t) { ins := [t, t], outs := [t], ticks := c 8 12 }
  | 0x15 | 0x16 => on (tSgn t) { ins := [t], outs := [t], ticks := c 2 3 }
  | 0x17 => on (tReal t) { ins := [t], outs := [t], ticks := c 8 12 }
  | 0x18 | 0x19 | 0x1A => on (tReal t) { ins := [t], outs := [t], ticks := c 12 20 }
  | 0x1B => on (tReal t) { ins := [t, t], outs := [t], ticks := c 24 40 }
  | 0x1C | 0x1D | 0x1E => on (tReal t) { ins := [t], outs := [t], ticks := c 14 24 }
  | 0x1F | 0x20 | 0x21 => on (tReal t) { ins := [t], outs := [t], ticks := c 16 26 }
  | 0x22 => on (tReal t) { ins := [t, t], outs := [t], ticks := c 18 28 }
  | 0x23 => on (tReal t) { ins := [t], outs := [t], npar := 4 * w + 1, ticks := c 4 6 }
  | 0x24 =>
    let k := parW ps 0
    on (tReal t && decide (1 ≤ k ∧ k ≤ 8)) { ins := [t], outs := [t], npar := 1 + k * w, ticks := c (k + 2) (2 * k + 2) }
  | 0x25 =>
    let n := parW ps 0
    on (tReal t && decide (2 ≤ n ∧ n ≤ 32)) { ins := [t], outs := [t], npar := 1 + 2 * n * w, ticks := c 10 14 }
  | 0x30 | 0x31 => on (tAny t) { ins := [t, t], outs := [1], ticks := c 2 3 }
  | 0x32 | 0x33 | 0x34 | 0x35 => on (tNumS t) { ins := [t, t], outs := [1], ticks := c 2 3 }
  | 0x36 | 0x37 | 0x38 => on (tBits t && n16) { ins := List.replicate nin t, outs := [t], ticks := nin + 1 }
  | 0x39 => on (tBits t) { ins := [t], outs := [t], ticks := 2 }
  | 0x3A | 0x3B | 0x3C | 0x3D => on (tByteL t) { ins := [t, 7], outs := [t], ticks := c 2 3 }
  | 0x3E => on (tNum t) { ins := [t], outs := [1], npar := 2 * w, ticks := c 3 4, kw := 1 }
  | 0x40 =>
    let s := parW ps 0
    on (tAny t && convOk s t) { ins := [s], outs := [t], npar := 1, ticks := if t64 s || t64 t then 4 else 3 }
  | 0x50 | 0x51 => on (t == 0) { ins := [1, 1], outs := [1], ticks := 2, kw := 1, prin := some 0 }
  | 0x52 | 0x53 => on (t == 0) { ins := [1], outs := [1], ticks := 2, kw := 1 }
  | 0x54 | 0x55 => on (tTime t) { ins := [1, t], outs := [1, t], ticks := 4, kw := 6, prin := some 1 }
  | 0x56 => on (tTime t) { ins := [1, t], outs := [1, t], ticks := 4, kw := 7, prin := some 1 }
  | 0x57 | 0x58 => on (t == 0) { ins := [1, 1, 4], outs := [1, 4], ticks := 3, kw := 2, prin := some 1 }
  | 0x59 => on (t == 0) { ins := [1, 1, 1, 1, 4], outs := [1, 1, 4], ticks := 4, kw := 3, prin := some 2 }
  | 0x60 => on (tReal t) { ins := [t], outs := [t], npar := 1, ticks := c 5 8, kw := w + 2, prin := some 0 }
  | 0x61 => on (tReal t) { ins := [t, t, t], outs := [t], ticks := c 5 8, kw := w + 2, prin := some 0 }
  | 0x62 => on (tReal t) { ins := [t], outs := [t], ticks := c 5 8, kw := w + 2 }
  | 0x63 => on (tReal t) { ins := [t, 1, t, t, t], outs := [t], ticks := c 5 8, kw := w + 2, prin := some 0 }
  | 0x64 =>
    let n := parW ps 0
    on (tReal t && decide (1 ≤ n ∧ n ≤ (if t64 t then 30 else 60)))
      { ins := [t], outs := [t], npar := 1, ticks := c 6 9, kw := n * w + 2 }
  | 0x70 => on (t == 0) { ins := [1], outs := [14, 6], npar := 1, ticks := 12, kw := 2 }
  | 0x71 => on (t == 0) { ins := [1], outs := [15, 6], npar := 1, ticks := 20, kw := 3 }
  | 0x72 => on (t == 0) { ins := [1, 14], outs := [6], npar := 2, ticks := 12, kw := 1 }
  | 0x73 => on (t == 0) { ins := [1], outs := [1], ticks := 2, kw := 1 }
  | 0x74 => on (t == 0) { ins := [1, 14], outs := [], npar := 1, ticks := 3, kw := 1 }
  | 0x75 => on (t == 0) { ins := [], outs := [9, 18, 16], ticks := 2, kw := 2 }
  | _ => none

def instSig (i : Inst) : BSig := (blockSig i.btype i.dtype i.ins.length i.params).getD { ins := [], outs := [], ticks := 0 }

/-- The cost of a lane's list (R200; IMG_LCOST). -/
def laneCost (insts : List Inst) (k : Nat) : Nat := ((insts.filter fun i => decide (i.lane = k)).map fun i => (instSig i).ticks).sum

end Sys2Proof.Machine
end

