-- ==== Sys2Proof/Machine/Elem.lean ====
section
/-! DEFINITION. The elementary functions of R194, correctly rounded: each is enclosed between two fixed-point numbers
at growing precision until both ends round to one value. The special cases follow the recommended operations of
IEEE 754 (PRESUMED where the spec only names them, log 8). -/

namespace Sys2Proof.Machine

/-- An enclosure [lo, hi] × 2^-p. -/
structure Encl where
  p : Nat
  lo : Int
  hi : Int

/-- The value that both ends of an enclosure times 2^sh round to. -/
def Fmt.ofEncl (f : Fmt) (e : Encl) (sh : Int) : Option Nat :=
  let r := fun (i : Int) => f.roundDy (decide (i < 0)) i.natAbs (sh - (e.p : Int))
  if r e.lo = r e.hi then some (r e.lo) else none

/-- Try precisions p, 2p, 4p … until an enclosure decides; the midpoint at the last one (never needed: the functions
have no rounding midpoint among their values, log 9). -/
def Fmt.settle (f : Fmt) (g : Nat → Encl × Int) : Nat → Nat → Nat
  | 0, p => let e := (g p).1; f.roundDy (decide (e.lo < 0)) e.lo.natAbs ((g p).2 - (e.p : Int))
  | n + 1, p =>
    match f.ofEncl (g p).1 (g p).2 with
    | some v => v
    | none => f.settle g n (2 * p)

def precFuel : Nat := 8
def prec0 : Nat := 128

/-- Sum of a series whose term k follows from the one before; stops when a term is 0. Answers sum and term count. -/
def series (next : Nat → Int → Int) : Nat → Nat → Int → Int → Int × Nat
  | 0, k, _, s => (s, k)
  | n + 1, k, t, s => if t = 0 then (s, k) else series next n (k + 1) (next k t) (s + t)

def around (p : Nat) (r : Int × Nat) (slack : Nat) : Encl :=
  let err : Int := (4 * r.2 + 16 + slack : Nat)
  { p := p, lo := r.1 - err, hi := r.1 + err }

/-- e^r for 0 ≤ r < 1, r given × 2^p. -/
def expFix (p : Nat) (r : Int) : Int × Nat :=
  series (fun k t => t * r / (2 ^ p : Nat) / ((k + 1 : Nat) : Int)) (p + 64) 0 (2 ^ p : Nat) 0

/-- Σ z^(2k+1) ÷ (2k+1) for 0 ≤ z ≤ 1/3, z × 2^p: the inverse hyperbolic tangent. -/
def atanhFix (p : Nat) (z : Int) : Int × Nat :=
  let z2 := z * z / (2 ^ p : Nat)
  series (fun k t => t * z2 / (2 ^ p : Nat) * ((2 * k + 1 : Nat) : Int) / ((2 * k + 3 : Nat) : Int)) (p + 64) 0 z 0

def ln2Fix (p : Nat) : Int := 2 * (atanhFix p ((2 ^ p : Nat) / 3)).1

/-- ln of num ÷ den, × 2^p, with an error count. -/
def lnFix (p : Nat) (num den : Nat) : Encl :=
  let l := (num.log2 : Int) - (den.log2 : Int)
  -- m = num/den × 2^-l lies in (1/2, 2)
  let a := if 0 ≤ l then num else num <<< (-l).toNat
  let b := if 0 ≤ l then den <<< l.toNat else den
  let z := ((a : Int) - (b : Int)) * (2 ^ p : Nat) / ((a + b : Nat) : Int)
  let s := atanhFix p z
  let v := 2 * s.1 + l * ln2Fix p
  around p (v, 2 * s.2) (l.natAbs * (8 * p + 600) + 8 * p + 600)

/-- atan of a ÷ b for 0 ≤ a ≤ b, × 2^p (Euler's series). -/
def atanSmall (p : Nat) (a b : Nat) : Int × Nat :=
  let d := a * a + b * b
  let u : Int := (a * a * 2 ^ p / d : Nat)
  let t0 : Int := (a * b * 2 ^ p / d : Nat)
  series (fun k t => t * u / (2 ^ p : Nat) * ((2 * k + 2 : Nat) : Int) / ((2 * k + 3 : Nat) : Int)) (4 * p + 64) 0 t0 0

def piFix (p : Nat) : Int := 16 * (atanSmall p 1 5).1 - 4 * (atanSmall p 1 239).1

/-- Error count of `piFix` in units of 2^-p. -/
def piErr (p : Nat) : Nat := 100 * (p + 64)

/-- atan of a ÷ b, a, b ≥ 0, not both 0: in [0, π/2]. -/
def atanPos (p : Nat) (a b : Nat) : Encl :=
  if a ≤ b then around p (atanSmall p a b) 0
  else
    let s := atanSmall p b a
    around p (piFix p / 2 - s.1, s.2) (piErr p)

/-- Sine and cosine of r, |r| ≤ 2, × 2^p. -/
def sinFix (p : Nat) (r : Int) : Int × Nat :=
  let r2 := r * r / (2 ^ p : Nat)
  series (fun k t => -(t * r2 / (2 ^ p : Nat) / (((2 * k + 2) * (2 * k + 3) : Nat) : Int))) (p + 64) 0 r 0

def cosFix (p : Nat) (r : Int) : Int × Nat :=
  let r2 := r * r / (2 ^ p : Nat)
  series (fun k t => -(t * r2 / (2 ^ p : Nat) / (((2 * k + 1) * (2 * k + 2) : Nat) : Int))) (p + 64) 0 (2 ^ p : Nat) 0

/-- Reduce |x| = num ÷ den by quarter turns: the quarter modulo 4 and the rest × 2^p, with its error count. -/
def reduceTrig (p : Nat) (num den : Nat) : Nat × Int × Nat :=
  let q0 := num / den
  let p' := p + q0.log2 + 8
  let pi := piFix p'
  let q := ((2 * num * 2 ^ p' : Nat) : Int) / ((den : Int) * pi)
  let r := ((num * 2 ^ p' / den : Nat) : Int) - q * pi / 2
  ((q % 4).toNat, r / (2 ^ (p' - p) : Nat), piErr p' + 4)

/-- Numerator and denominator of a finite magnitude. -/
def magOf (m : Nat) (e : Int) : Nat × Nat := if 0 ≤ e then (m <<< e.toNat, 1) else (m, 1 <<< (-e).toNat)

/-- sin (`c` false) or cos (`c` true) of |x|. -/
def trigEncl (c : Bool) (num den p : Nat) : Encl :=
  let (q, r, err) := reduceTrig p num den
  let k := (q + b2n c) % 4
  let v := if k % 2 = 0 then sinFix p r else cosFix p r
  let v' := if k < 2 then v else (-v.1, v.2)
  around p v' err

def negEncl (e : Encl) : Encl := { p := e.p, lo := -e.hi, hi := -e.lo }

def Fmt.sin (f : Fmt) (a : Nat) : Nat :=
  match f.dec a with
  | .fin n m e =>
    if m = 0 then f.zero n
    else
      let (num, den) := magOf m e
      f.settle (fun p => let v := trigEncl false num den p; (if n then negEncl v else v, 0)) precFuel prec0
  | _ => f.nan

def Fmt.cos (f : Fmt) (a : Nat) : Nat :=
  match f.dec a with
  | .fin _ m e =>
    if m = 0 then f.round false 1 1
    else
      let (num, den) := magOf m e
      f.settle (fun p => (trigEncl true num den p, 0)) precFuel prec0
  | _ => f.nan

/-- An enclosure of the quotient of two enclosures, at the precision of the first. -/
def divEncl (a b : Encl) : Encl :=
  if b.lo ≤ 0 ∧ 0 ≤ b.hi then { p := a.p, lo := -(2 ^ (4 * a.p) : Nat), hi := (2 ^ (4 * a.p) : Nat) }
  else
    let q := fun (x y : Int) => x * (2 ^ a.p : Nat) / y
    let xs := [q a.lo b.lo, q a.lo b.hi, q a.hi b.lo, q a.hi b.hi]
    { p := a.p, lo := xs.foldl min (q a.lo b.lo) - 2, hi := xs.foldl max (q a.lo b.lo) + 2 }

def Fmt.tan (f : Fmt) (a : Nat) : Nat :=
  match f.dec a with
  | .fin n m e =>
    if m = 0 then f.zero n
    else
      let (num, den) := magOf m e
      f.settle (fun p =>
        let v := divEncl (trigEncl false num den p) (trigEncl true num den p)
        (if n then negEncl v else v, 0)) precFuel prec0
  | _ => f.nan

/-- e^x for an enclosure of x: reduced by k = ⌊x ÷ ln 2⌋, so the answer is an enclosure and a shift. -/
def expEncl (x : Encl) : Encl × Int :=
  let p := x.p
  let l2 := ln2Fix p
  let k := x.lo / l2
  let kerr : Int := (k.natAbs * (8 * p + 600) + 4 : Nat)
  let rlo := x.lo - k * l2 - kerr
  let rhi := x.hi - k * l2 + kerr
  let clip := fun (r : Int) => max 0 (min r (2 ^ (p + 1) : Nat))
  let a := expFix p (clip rlo)
  let b := expFix p (clip rhi)
  ({ p := p, lo := a.1 - (4 * a.2 + 16 : Nat), hi := b.1 + (4 * b.2 + 16 : Nat) + (if rlo < 0 then kerr * 2 + 2 else 0) },
    k)

def ratEncl (p : Nat) (neg : Bool) (num den : Nat) : Encl :=
  let v : Int := (num * 2 ^ p / den : Nat)
  if neg then { p := p, lo := -v - 1, hi := -v } else { p := p, lo := v, hi := v + 1 }

/-- Results beyond every finite value, or below every subnormal. -/
def Fmt.huge (f : Fmt) : Int := (2 * f.bias + 4 : Nat)

def Fmt.exp (f : Fmt) (a : Nat) : Nat :=
  match f.dec a with
  | .nan => f.nan
  | .inf n => if n then f.zero false else f.inf false
  | .fin n m e =>
    if m = 0 then f.round false 1 1
    else
      let (num, den) := magOf m e
      if num / den ≥ 4 * f.bias then (if n then f.zero false else f.inf false)
      else f.settle (fun p => expEncl (ratEncl p n num den)) precFuel prec0

def Fmt.ln (f : Fmt) (a : Nat) : Nat :=
  match f.dec a with
  | .nan => f.nan
  | .inf n => if n then f.nan else f.inf false
  | .fin n m e =>
    if m = 0 then f.inf true
    else if n then f.nan
    else
      let (num, den) := magOf m e
      if num = den then f.zero false
      else f.settle (fun p => (lnFix p num den, 0)) precFuel prec0

/-- k where num ÷ den = 10^k, if it is a power of ten. -/
def pow10Of : Nat → Nat → Nat → Option Nat
  | 0, _, _ => none
  | n + 1, x, k => if x = 1 then some k else if x % 10 = 0 then pow10Of n (x / 10) (k + 1) else none

def Fmt.log10 (f : Fmt) (a : Nat) : Nat :=
  match f.dec a with
  | .nan => f.nan
  | .inf n => if n then f.nan else f.inf false
  | .fin n m e =>
    if m = 0 then f.inf true
    else if n then f.nan
    else
      let (num, den) := magOf m e
      match (if num % den = 0 then pow10Of 400 (num / den) 0 else none) with
      | some k => f.round false k 1
      | none => f.settle (fun p => (divEncl (lnFix p num den) (lnFix p 10 1), 0)) precFuel prec0

def Fmt.atan (f : Fmt) (a : Nat) : Nat :=
  match f.dec a with
  | .nan => f.nan
  | .inf n => f.settle (fun p => let v := atanPos p 1 0; (if n then negEncl v else v, 0)) precFuel prec0
  | .fin n m e =>
    if m = 0 then f.zero n
    else
      let (num, den) := magOf m e
      f.settle (fun p => let v := atanPos p num den; (if n then negEncl v else v, 0)) precFuel prec0

/-- asin (`c` false) or acos (`c` true) of ±num ÷ den with num ≤ den, through the exact √(1 − x²) enclosed. -/
def arcEncl (c neg : Bool) (num den p : Nat) : Encl :=
  -- tan(asin x) = num / √(den² − num²)
  let p2 := 2 * p + 2 * den.log2 + 8
  let r2 := (den * den - num * num) * 2 ^ (2 * p2)
  let s := isqrt r2
  let lo := atanPos p (num * 2 ^ p2) (s + 1)
  let hi := atanPos p (num * 2 ^ p2) s
  let asn : Encl := { p := p, lo := min lo.lo hi.lo, hi := max lo.hi hi.hi }
  let sg := if neg then negEncl asn else asn
  if c then
    let h := piFix p / 2
    let er : Int := piErr p
    { p := p, lo := h - sg.hi - er, hi := h - sg.lo + er }
  else sg

def Fmt.asin (f : Fmt) (a : Nat) : Nat :=
  match f.dec a with
  | .fin n m e =>
    if m = 0 then f.zero n
    else
      let (num, den) := magOf m e
      if num > den then f.nan
      else f.settle (fun p => (arcEncl false n num den p, 0)) precFuel prec0
  | _ => f.nan

def Fmt.acos (f : Fmt) (a : Nat) : Nat :=
  match f.dec a with
  | .fin n m e =>
    let (num, den) := magOf m e
    if num > den then f.nan
    else if num = den && !n then f.zero false
    else f.settle (fun p => (arcEncl true n num den p, 0)) precFuel prec0
  | _ => f.nan

/-- π × a ÷ b with a sign. -/
def Fmt.piTimes (f : Fmt) (neg : Bool) (a b : Nat) : Nat :=
  f.settle (fun p =>
    let v := around p (piFix p * (a : Int) / (b : Int), 0) (piErr p * a)
    (if neg then negEncl v else v, 0)) precFuel prec0

/-- atan2 of y and x, in −π to π. -/
def Fmt.atan2 (f : Fmt) (y x : Nat) : Nat :=
  match f.dec y, f.dec x with
  | .nan, _ => f.nan
  | _, .nan => f.nan
  | .inf ny, .inf nx => if nx then f.piTimes ny 3 4 else f.piTimes ny 1 4
  | .inf ny, _ => f.piTimes ny 1 2
  | .fin ny _ _, .inf nx => if nx then f.piTimes ny 1 1 else f.zero ny
  | .fin ny my ey, .fin nx mx ex =>
    if my = 0 then (if nx then f.piTimes ny 1 1 else f.zero ny)
    else if mx = 0 then f.piTimes ny 1 2
    else
      let (a, b) := magOf my ey
      let (c, d) := magOf mx ex
      f.settle (fun p =>
        let v := atanPos p (a * d) (b * c)
        let er : Int := piErr p
        let w : Encl := if nx then { p := p, lo := piFix p - v.hi - er, hi := piFix p - v.lo + er } else v
        (if ny then negEncl w else w, 0)) precFuel prec0

/-- The exponent of two in n, and the odd part. -/
def oddPart : Nat → Nat → Nat → Nat × Nat
  | 0, n, k => (k, n)
  | s + 1, n, k => if n % 2 = 0 ∧ n ≠ 0 then oddPart s (n / 2) (k + 1) else (k, n)

/-- x^y where it is a dyadic rational of few bits: x = m × 2^e with m odd, y = ± n ÷ 2^k with n odd or 0. Each halving
of y takes an exact square root of x. -/
def powExact : Nat → Nat → Int → Nat → Nat → Option (Nat × Int)
  | 0, _, _, _, _ => none
  | s + 1, m, e, n, k =>
    if k = 0 then (if m = 1 then some (1, e * n) else if n ≤ 128 then some (m ^ n, e * n) else none)
    else if m = 1 ∧ (e * n) % ((2 ^ k : Nat) : Int) = 0 then some (1, e * n / ((2 ^ k : Nat) : Int))
    else
      let r := isqrt m
      if r * r = m ∧ e % 2 = 0 then powExact s r (e / 2) n (k - 1) else none

/-- x to the power y for finite x > 0 other than 1, and finite y ≠ 0. -/
def Fmt.powPos (f : Fmt) (m : Nat) (e : Int) (ny : Bool) (my : Nat) (ey : Int) (neg : Bool) : Nat :=
  let (kx, mo) := oddPart (f.mb + 2) m 0
  let xe := e + (kx : Int)
  let (ky, yo) := oddPart (f.mb + 2) my 0
  let ye := ey + (ky : Int)
  let n := if 0 ≤ ye then yo <<< (min ye.toNat 4096) else yo
  let k := if 0 ≤ ye then 0 else (-ye).toNat
  let exact := if ny ∧ mo ≠ 1 then none else powExact (f.mb + 8) mo (if ny then -xe else xe) n k
  let (a, b) := magOf m e
  let (c, d) := magOf my ey
  -- |log2 x^y| beyond the format decides at once
  let lg := ((a.log2 : Int) - (b.log2 : Int))
  let far := decide ((lg.natAbs : Int) - 1 > 0) &&
    decide (((lg.natAbs : Int) - 1) * c > ((8 * f.bias + 8 * f.mb : Nat) : Int) * d)
  let big := (decide (0 ≤ lg)) != ny
  if far then (if big then f.inf neg else f.zero neg)
  else
    match exact with
    | some (x, s) => f.roundDy neg x (if s.natAbs > 100000 then (if 0 ≤ s then 100000 else -100000) else s)
    | none =>
      let g := fun (p : Nat) =>
        let p' := p + c.log2 + 8
        let l := lnFix p' a b
        let mulr := fun (i : Int) => i * (if ny then -(c : Int) else (c : Int)) / (d : Int)
        let u := mulr l.lo
        let v := mulr l.hi
        let en : Encl := { p := p', lo := min u v - 1, hi := max u v + 1 }
        let lim : Int := ((8 * f.bias + 8 * f.mb : Nat) : Int) * (2 ^ p' : Nat)
        if en.lo > lim then (({ p := 0, lo := 1, hi := 1 } : Encl), f.huge * 2)
        else if en.hi < -lim then (({ p := 0, lo := 1, hi := 1 } : Encl), -(f.huge * 2))
        else expEncl en
      f.settle (fun p => let r := g p; (if neg then negEncl r.1 else r.1, r.2)) precFuel prec0

/-- Whether a finite value is an integer, and whether it is odd. -/
def intOdd (m : Nat) (e : Int) : Bool × Bool :=
  if m = 0 then (true, false)
  else if 0 ≤ e then (true, decide (e = 0 ∧ m % 2 = 1))
  else
    let d := 2 ^ (-e).toNat
    (decide (m % d = 0), decide (m % d = 0 ∧ (m / d) % 2 = 1))

/-- A signaling NaN: its first fraction bit is 0 (IEEE 754). -/
def Fmt.isSnan (f : Fmt) (w : Nat) : Bool := f.isNan w && !w.testBit (f.mb - 1)

/-- EXPT: pow of IEEE 754. -/
def Fmt.pow (f : Fmt) (x y : Nat) : Nat :=
  let one := f.round false 1 1
  if f.isSnan x || f.isSnan y then f.nan
  else match f.dec x, f.dec y with
  | _, .fin _ 0 _ => one
  | .nan, _ => f.nan
  | vx, .nan => if f.enc vx = one then one else f.nan
  | vx, .inf ny =>
    let a := vx.abs
    let u := Fl.fin false 1 0
    if a.eq u then one
    else if a.lt u then (if ny then f.inf false else f.zero false)
    else (if ny then f.zero false else f.inf false)
  | .inf nx, .fin ny my ey =>
    let odd := (intOdd my ey).2
    if ny then f.zero (nx && odd) else f.inf (nx && odd)
  | .fin nx mx ex, .fin ny my ey =>
    let (isInt, odd) := intOdd my ey
    if mx = 0 then (if ny then f.inf (nx && odd) else f.zero (nx && odd))
    else if nx && !isInt then f.nan
    else if f.roundDy false mx ex = one then (if nx && odd then f.roundInt (-1) else one)
    else f.powPos mx ex ny my ey (nx && odd)

end Sys2Proof.Machine
end

