-- ==== Sys2Proof/Machine/Blocks.lean ====
section
/-! DEFINITION. What each block of the catalogue computes (R193, R194, R201 to R223, HARV of R227). The blocks that
reach the rest of the module are evaluated in Cycle.lean. -/

namespace Sys2Proof.Machine

/-! ### Typed values -/

def tSigned (t : Nat) : Bool := decide (2 ≤ t ∧ t ≤ 5) || tTime t

/-- The integer that a raw value of an integer type stands for. -/
def rawI (t v : Nat) : Int := if tSigned t then toSigned (typeBits t) v else ((v % 2 ^ typeBits t : Nat) : Int)

/-- An integer wrapped into the type (R193). -/
def iRaw (t : Nat) (i : Int) : Nat := ofSigned (typeBits t) i

def minI (t : Nat) : Int := if tSigned t then -((2 ^ (typeBits t - 1) : Nat) : Int) else 0
def maxI (t : Nat) : Int := if tSigned t then ((2 ^ (typeBits t - 1) : Nat) : Int) - 1 else ((2 ^ typeBits t : Nat) : Int) - 1

/-- An integer saturated into the type, and whether it was in range (R219). -/
def satI (t : Nat) (i : Int) : Nat × Bool :=
  if i < minI t then (iRaw t (minI t), false) else if maxI t < i then (iRaw t (maxI t), false) else (iRaw t i, true)

/-- The floating format of REAL or LREAL. -/
def fm (t : Nat) : Fmt := if t = 11 then b64 else b32

/-- IN0 < IN1 in the type. -/
def ltT (t a b : Nat) : Bool := if tReal t then (fm t).lt a b else decide (rawI t a < rawI t b)
def eqT (t a b : Nat) : Bool := if tReal t then (fm t).eq a b else decide (a = b)
def leT (t a b : Nat) : Bool := ltT t a b || eqT t a b

/-- One input as a block reads it (R201): raw value, quality byte, STATE. -/
structure BIn where
  v : Nat
  q : Byte
  deriving DecidableEq, Repr

def BIn.st (i : BIn) : Nat := qState i.q
def BIn.b (i : BIn) : Bool := decide (i.v ≠ 0)

/-- One output before R194 and R203: raw value, STATE, SUBST. -/
structure BOut where
  v : Nat
  st : Nat
  subst : Bool := false
  deriving DecidableEq, Repr

/-- What an evaluation gives: outputs, kept state, and whether the kept state was updated (R202). -/
structure BRes where
  outs : List BOut
  ks : List W32 := []
  upd : Bool := true
  deriving DecidableEq, Repr

/-- R194 and R203 on one output. -/
def sealOut (t : Nat) (o : BOut) : W64 × Byte :=
  let v := if tReal t && (fm t).isNan o.v then (fm t).nan else o.v
  let st := if tReal t && !(fm t).isFin v then 0 else o.st
  let st := if o.subst && st == 3 then 1 else st
  (BitVec.ofNat 64 v, mkQ st o.subst false false)

/-! ### Words of kept state and parameters -/

def w32 (n : Nat) : W32 := BitVec.ofNat 32 n
def wOf (ks : List W32) (j : Nat) : Nat := (ks.getD j 0).toNat
def wOf64 (ks : List W32) (j : Nat) : Nat := wOf ks j + 2 ^ 32 * wOf ks (j + 1)
def toW64 (n : Nat) : List W32 := [w32 n, w32 (n / 2 ^ 32)]
/-- A value of type `t` as words, low word first, and read from words. -/
def toWs (t n : Nat) : List W32 := if t64 t then toW64 n else [w32 n]
def ofWs (t : Nat) (ks : List W32) (j : Nat) : Nat := if t64 t then wOf64 ks j else wOf ks j

def low (ins : List BIn) : Nat := lowest (ins.map BIn.st)
def inN (ins : List BIn) (j : Nat) : BIn := ins.getD j { v := 0, q := 0 }

/-! ### Selection and quality (R215) -/

/-- The larger input, +0 above -0. -/
def maxT (t a b : Nat) : Nat :=
  if ltT t a b then b
  else if tReal t && eqT t a b && ((fm t).dec a).isNeg && !((fm t).dec b).isNeg then b else a

def minT (t a b : Nat) : Nat :=
  if ltT t b a then b
  else if tReal t && eqT t a b && !((fm t).dec a).isNeg && ((fm t).dec b).isNeg then b else a

/-- The median of three. The spec gives no order for a NaN: which of the others stands then is the model's choice, by the
comparisons below, each false with a NaN (DESIGN CHOICE, log 116). -/
def median3 (t a b c : Nat) : Nat := maxT t (minT t a b) (minT t (maxT t a b) c)

def bMinMax (t : Nat) (big : Bool) (ins : List BIn) : BRes :=
  if tReal t && ins.any (fun i => (fm t).isNan i.v) then { outs := [{ v := (fm t).nan, st := 0 }] }
  else match ins with
    | [] => { outs := [{ v := 0, st := 0 }] }
    | i :: r => { outs := [{ v := r.foldl (fun a j => if big then maxT t a j.v else minT t a j.v) i.v, st := low ins }] }

def bVote3 (t dev : Nat) (ins : List BIn) : BRes :=
  let f := fm t
  let m := median3 t (inN ins 0).v (inN ins 1).v (inN ins 2).v
  let near (x : Nat) : Bool := f.le (f.abs (f.sub x m)) dev
  let o : BOut := match ins.filter fun i => decide (i.st = 3) with
    | [a, b, c] => { v := m, st := if near a.v && near b.v && near c.v then 3 else 1 }
    | [a, b] => { v := f.div (f.add a.v b.v) (f.roundInt 2), st := 1 }
    | [a] => { v := a.v, st := 1 }
    | _ => { v := m, st := 0 }
  let st := if f.isFin o.v then o.st else 0
  { outs := [o, { v := b2n (decide (st ≠ 3)), st := 3 }] }

def bQsub (mode : Nat) (ins : List BIn) : BRes :=
  let i := inN ins 0
  let x := inN ins 1
  if i.st = 0 ∨ (mode = 1 ∧ i.st ≠ 3) then { outs := [{ v := x.v, st := min 1 x.st, subst := true }] }
  else { outs := [{ v := i.v, st := i.st, subst := qSubst i.q }] }

/-- QSET: the lower of IN's STATE and the STATE that ST encodes; ST's own quality takes no part (R215). -/
def bQset (ins : List BIn) : BRes :=
  let i := inN ins 0
  let x := inN ins 1
  let e := x.v % 256
  let st := if e = 0 ∨ e = 1 ∨ e = 3 then min i.st e else 0
  { outs := [{ v := i.v, st := st, subst := qSubst i.q }] }

def evalSel (b t : Nat) (ps : List W32) (ins : List BIn) : BRes :=
  match b with
  | 0x01 => { outs := [{ v := (inN ins 0).v, st := low ins }] }
  | 0x02 =>
    let g := inN ins 0
    let x := if g.b then inN ins 2 else inN ins 1
    { outs := [{ v := x.v, st := min g.st x.st }] }
  | 0x03 =>
    let k := inN ins 0
    if k.v + 1 < ins.length then
      let x := inN ins (k.v + 1)
      { outs := [{ v := x.v, st := min k.st x.st }] }
    else { outs := [{ v := 0, st := 0 }] }
  | 0x04 =>
    let mn := (inN ins 0).v; let x := (inN ins 1).v; let mx := (inN ins 2).v
    if ltT t mx mn then { outs := [{ v := mn, st := min 1 (low ins) }] }
    else { outs := [{ v := if ltT t x mn then mn else if ltT t mx x then mx else x, st := low ins }] }
  | 0x05 => bMinMax t true ins
  | 0x06 => bMinMax t false ins
  | 0x07 => bVote3 t (ofWs t ps 0) ins
  | 0x08 => bQsub (parW ps 0) ins
  | 0x09 =>
    let i := inN ins 0
    { outs := [{ v := b2n (decide (i.st = 3)), st := 3 }, { v := i.st, st := 3 }, { v := i.q.toNat, st := 3 }] }
  | _ => bQset ins

/-! ### Arithmetic (R193, R194, R216, R217) -/

/-- n operands combined from the left, one rounded or wrapped operation at a time. -/
def foldOp (t : Nat) (fi : Int → Int → Int) (fr : Nat → Nat → Nat) (ins : List BIn) : Nat :=
  match ins with
  | [] => 0
  | i :: r => r.foldl (fun a j => if tReal t then fr a j.v else iRaw t (fi (rawI t a) (rawI t j.v))) i.v

/-- SCALE: OL + (IN - IL) × (OH - OL) ÷ (IH - IL), with CLAMP. -/
def bScale (t : Nat) (ps : List W32) (x : Nat) : Nat :=
  let f := fm t; let w := typeWords t
  let il := ofWs t ps 0; let ih := ofWs t ps w; let ol := ofWs t ps (2 * w); let oh := ofWs t ps (3 * w)
  let y := f.add ol (f.div (f.mul (f.sub x il) (f.sub oh ol)) (f.sub ih il))
  if parW ps (4 * w) = 1 then
    let lo := minT t ol oh; let hi := maxT t ol oh
    if f.lt y lo then lo else if f.lt hi y then hi else y
  else y

def hornerFrom (f : Fmt) (x : Nat) (c : Nat → Nat) : Nat → Nat → Nat
  | 0, acc => acc
  | k + 1, acc => hornerFrom f x c k (f.add (f.mul acc x) (c k))

def bPoly (t : Nat) (ps : List W32) (x : Nat) : Nat :=
  let k := parW ps 0
  let c (j : Nat) : Nat := ofWs t ps (1 + j * typeWords t)
  hornerFrom (fm t) x c (k - 1) (c (k - 1))

/-- LUT: value, and whether IN lay within the table. -/
def bLut (t : Nat) (ps : List W32) (x : Nat) : Nat × Bool :=
  let f := fm t; let w := typeWords t; let n := parW ps 0
  let xs (j : Nat) : Nat := ofWs t ps (1 + j * w)
  let ys (j : Nat) : Nat := ofWs t ps (1 + (n + j) * w)
  if f.lt x (xs 0) then (ys 0, false)
  else if f.lt (xs (n - 1)) x then (ys (n - 1), false)
  else
    let j := (List.range (n - 1)).foldl (fun a j => if f.le (xs j) x then j else a) 0
    let c := f.mul (f.sub x (xs j)) (f.sub (ys (j + 1)) (ys j))
    (f.add (ys j) (f.div c (f.sub (xs (j + 1)) (xs j))), true)

def evalArith (b t : Nat) (ps : List W32) (ins : List BIn) : BRes :=
  let f := fm t
  let x := (inN ins 0).v
  let y := (inN ins 1).v
  let st := low ins
  let one (v : Nat) : BRes := { outs := [{ v := v, st := st }] }
  match b with
  | 0x10 => one (foldOp t (· + ·) f.add ins)
  | 0x11 => one (foldOp t (· - ·) f.sub ins)
  | 0x12 => one (foldOp t (· * ·) f.mul ins)
  | 0x13 =>
    if tReal t then one (f.div x y)
    else if rawI t y = 0 then { outs := [{ v := 0, st := 0 }] } else one (iRaw t ((rawI t x).tdiv (rawI t y)))
  | 0x14 => if rawI t y = 0 then { outs := [{ v := 0, st := 0 }] } else one (iRaw t ((rawI t x).tmod (rawI t y)))
  | 0x15 => one (if tReal t then f.neg x else iRaw t (-(rawI t x)))
  | 0x16 => one (if tReal t then f.abs x else iRaw t (rawI t x).natAbs)
  | 0x17 => one (f.sqrt x)
  | 0x18 => one (f.exp x)
  | 0x19 => one (f.ln x)
  | 0x1A => one (f.log10 x)
  | 0x1B => one (f.pow x y)
  | 0x1C => one (f.sin x)
  | 0x1D => one (f.cos x)
  | 0x1E => one (f.tan x)
  | 0x1F => one (f.asin x)
  | 0x20 => one (f.acos x)
  | 0x21 => one (f.atan x)
  | 0x22 => one (f.atan2 x y)
  | 0x23 => one (bScale t ps x)
  | 0x24 => one (bPoly t ps x)
  | _ =>
    let r := bLut t ps x
    { outs := [{ v := r.1, st := if r.2 then st else min 1 st }] }

/-! ### Comparison, logic, conversion (R218, R219) -/

/-- CONV (R219): value, and the STATE it lowers to. -/
def convT (s t v : Nat) : Nat × Nat :=
  if tReal s then
    if tReal t then (if s = t then v else (fm s).conv (fm t) v, 3)
    else if t = 1 then (b2n (!(fm s).eq v 0), 3)
    else if (fm s).isNan v then (0, 0)
    else if !(fm s).isFin v then (iRaw t (if ((fm s).dec v).isNeg then minI t else maxI t), 1)
    else
      let r := satI t (rneRat ((fm s).toRat v))
      (r.1, if r.2 then 3 else 1)
  else if tBits s then
    if tReal t then (if v = 0 then 0 else (fm t).roundInt 1, 3) else (v % 2 ^ typeBits t, 3)
  else
    let i := rawI s v
    if tReal t then ((fm t).roundInt i, 3)
    else if t = 1 then (b2n (decide (i ≠ 0)), 3)
    else
      let j := if s = 16 ∧ t = 17 then i * 1000 else if s = 17 ∧ t = 16 then i.tdiv 1000 else i
      let r := satI t j
      (r.1, if r.2 then 3 else 1)

def evalCmp (b t : Nat) (ps : List W32) (ins : List BIn) (ks : List W32) : BRes :=
  let n := typeBits t
  let m := 2 ^ n
  let x := (inN ins 0).v
  let y := (inN ins 1).v
  let st := low ins
  let one (v : Nat) : BRes := { outs := [{ v := v, st := st }] }
  match b with
  | 0x30 => one (b2n (eqT t x y))
  | 0x31 => one (b2n (!eqT t x y))
  | 0x32 => one (b2n (ltT t x y))
  | 0x33 => one (b2n (leT t x y))
  | 0x34 => one (b2n (ltT t y x))
  | 0x35 => one (b2n (leT t y x))
  | 0x36 => one (ins.foldl (fun a i => a &&& i.v) (m - 1))
  | 0x37 => one (ins.foldl (fun a i => a ||| i.v) 0)
  | 0x38 => one (ins.foldl (fun a i => a ^^^ i.v) 0)
  | 0x39 => one (m - 1 - x % m)
  | 0x3A => one (if n ≤ y then 0 else (x <<< y) % m)
  | 0x3B => one (if n ≤ y then 0 else x >>> y)
  | 0x3C => one (((x <<< (y % n)) ||| (x >>> (n - y % n))) % m)
  | 0x3D => one (((x >>> (y % n)) ||| (x <<< (n - y % n))) % m)
  | 0x3E =>
    let hi := ofWs t ps 0; let lo := ofWs t ps (typeWords t)
    let q := if ltT t hi x then 1 else if ltT t x lo then 0 else wOf ks 0
    { outs := [{ v := q, st := st }], ks := [w32 q] }
  | _ =>
    let r := convT (parW ps 0) t x
    { outs := [{ v := r.1, st := min st r.2 }] }

/-! ### Bistables, edges, timers, counters (R220, R221) -/

/-- PT in ticks: × 400 for TIME, ÷ 2.5 rounded down for LTIME; negative counts as 0. -/
def ptTicks (t pt : Nat) : Nat := let n := (rawI t pt).toNat; if t = 16 then n * 400 else n * 2 / 5
/-- Ticks in the type's unit, rounded down. -/
def ticksUnit (t e : Nat) : Nat := if t = 16 then e / 400 else e * 5 / 2

structure TimerSt where
  e : Nat
  run : Bool
  q1 : Bool
  deriving DecidableEq, Repr

/-- The timer equations of R221: new state and Q. -/
def timerStep (b : Nat) (k : TimerSt) (dt pt : Nat) (inp prev : Bool) : TimerSt × Bool :=
  match b with
  | 0x54 =>
    let k1 : TimerSt := if inp then (if k.run then { k with e := k.e + dt } else { k with run := true, e := 0 })
      else { k with run := false, e := 0 }
    (k1, k1.run && decide (pt ≤ k1.e))
  | 0x55 =>
    let k1 : TimerSt :=
      if inp then { q1 := true, run := false, e := 0 }
      else if k.q1 then
        let k2 : TimerSt := if k.run then { k with e := k.e + dt } else { k with run := true, e := 0 }
        if pt ≤ k2.e then { k2 with q1 := false, run := false } else k2
      else k
    (k1, k1.q1)
  | _ =>
    let k1 : TimerSt := if !k.run && inp && !prev then { k with run := true, e := 0 }
      else if k.run then { k with e := k.e + dt } else k
    let k2 : TimerSt := if k1.run && decide (pt ≤ k1.e) then { k1 with run := false } else k1
    (k2, k2.run)

def bTimer (b t dt htick : Nat) (ins : List BIn) (ks : List W32) (rewire : Bool) : BRes :=
  let inp := (inN ins 0).b
  let pt := ptTicks t (inN ins 1).v
  let prev := if rewire then inp else decide (wOf ks 6 ≠ 0)
  let r := timerStep b { e := wOf64 ks 0, run := decide (wOf ks 2 ≠ 0), q1 := decide (wOf ks 3 ≠ 0) } dt pt inp prev
  let k := r.1
  { outs := [{ v := b2n r.2, st := low ins }, { v := ticksUnit t (min k.e pt), st := low ins }]
    ks := toW64 k.e ++ [w32 (b2n k.run), w32 (b2n k.q1)] ++ toW64 htick ++ (if b = 0x56 then [w32 (b2n inp)] else []) }

/-- A count that saturates at the DINT limits. -/
def cntAdd (cv d : Int) : Int := max (-2147483648) (min 2147483647 (cv + d))

def evalBist (b t dt htick : Nat) (ins : List BIn) (ks : List W32) (rewire rewireB : Bool) : BRes :=
  let a := (inN ins 0).b
  let c := (inN ins 1).b
  let st := low ins
  let prv (j : Nat) (x : Bool) : Bool := if rewire then x else decide (wOf ks j ≠ 0)
  let cv0 := toSigned 32 (wOf ks 0)
  match b with
  | 0x50 =>
    let q := a || (decide (wOf ks 0 ≠ 0) && !c)
    { outs := [{ v := b2n q, st := st }], ks := [w32 (b2n q)] }
  | 0x51 =>
    let q := !c && (a || decide (wOf ks 0 ≠ 0))
    { outs := [{ v := b2n q, st := st }], ks := [w32 (b2n q)] }
  | 0x52 => { outs := [{ v := b2n (a && !prv 0 a), st := st }], ks := [w32 (b2n a)] }
  | 0x53 => { outs := [{ v := b2n (!a && prv 0 a), st := st }], ks := [w32 (b2n a)] }
  | 0x57 =>
    let cv := if c then 0 else if a && !prv 1 a then cntAdd cv0 1 else cv0
    let pv := toSigned 32 (inN ins 2).v
    { outs := [{ v := b2n (decide (pv ≤ cv)), st := st }, { v := ofSigned 32 cv, st := st }]
      ks := [w32 (ofSigned 32 cv), w32 (b2n a)] }
  | 0x58 =>
    let pv := toSigned 32 (inN ins 2).v
    let cv := if c then pv else if a && !prv 1 a then cntAdd cv0 (-1) else cv0
    { outs := [{ v := b2n (decide (cv ≤ 0)), st := st }, { v := ofSigned 32 cv, st := st }]
      ks := [w32 (ofSigned 32 cv), w32 (b2n a)] }
  | 0x59 =>
    let rst := (inN ins 2).b
    let ld := (inN ins 3).b
    let pv := toSigned 32 (inN ins 4).v
    let up := a && !prv 1 a
    let dn := c && !(if rewireB then c else decide (wOf ks 2 ≠ 0))
    let cv := if rst then 0 else if ld then pv else if up && !dn then cntAdd cv0 1 else if dn && !up then cntAdd cv0 (-1) else cv0
    { outs := [{ v := b2n (decide (pv ≤ cv)), st := st }, { v := b2n (decide (cv ≤ 0)), st := st }, { v := ofSigned 32 cv, st := st }]
      ks := [w32 (ofSigned 32 cv), w32 (b2n a), w32 (b2n c)] }
  | _ => bTimer b t dt htick ins ks rewire

/-! ### Signals (R205, R222, R223) -/

/-- dt_s in the operand type (R205). -/
def dtSec (t dt : Nat) : Nat :=
  let d := b64.round false dt 400000000
  if t = 11 then d else b64.conv b32 d

def posLim (f : Fmt) (x : Nat) : Nat := if f.lt x 0 then 0 else x

/-- The sum of a list from its first element on. -/
def sumFrom (f : Fmt) : List Nat → Nat
  | [] => 0
  | x :: r => r.foldl f.add x

/-- MAVG: the ring with one more value, and the mean. -/
def bMavg (t n x : Nat) (ks : List W32) : Nat × List W32 :=
  let w := typeWords t
  let f := fm t
  let vals := ((List.range n).map fun j => ofWs t ks (j * w))
  let cnt := wOf ks (n * w)
  let idx := wOf ks (n * w + 1)
  let vals' := vals.set idx x
  let cnt' := min n (cnt + 1)
  let idx' := (idx + 1) % n
  let ordered := if cnt' < n then vals'.take cnt' else vals'.drop idx' ++ vals'.take idx'
  (f.div (sumFrom f ordered) (f.roundInt cnt'), vals'.flatMap (toWs t) ++ [w32 cnt', w32 idx'])

/-- LAG, RATE, DERIV, INTEG and MAVG; `keep` is the output as it stands (R202). -/
def evalSignal (b t dt htick : Nat) (ps : List W32) (ins : List BIn) (ks : List W32) (started rewire : Bool) (keep : Nat) : BRes :=
  let f := fm t
  let w := typeWords t
  let x := (inN ins 0).v
  let st := low ins
  let y := ofWs t ks 0
  if (inN ins 0).st = 0 then { outs := [{ v := keep, st := 0 }], ks := ks, upd := false }
  else match b with
  | 0x60 =>
    let y1 := if started then
        f.add y (f.div (f.mul (f.sub x y) (f.roundInt dt)) (f.roundInt ((parW ps 0) * 400 + dt : Nat))) else x
    { outs := [{ v := y1, st := st }], ks := toWs t y1 ++ toW64 htick }
  | 0x61 =>
    let ds := dtSec t dt
    let y1 := if !started then x
      else if f.lt y x then minT t x (f.add y (f.mul (posLim f (inN ins 1).v) ds))
      else if f.lt x y then maxT t x (f.sub y (f.mul (posLim f (inN ins 2).v) ds))
      else y
    { outs := [{ v := y1, st := st }], ks := toWs t y1 ++ toW64 htick }
  | 0x62 =>
    let prev := if rewire then x else y
    let o := if started then f.div (f.sub x prev) (dtSec t dt) else 0
    { outs := [{ v := o, st := st }], ks := toWs t x ++ toW64 htick }
  | 0x63 =>
    let rst := (inN ins 1).b
    let y0 := (inN ins 2).v; let mn := (inN ins 3).v; let mx := (inN ins 4).v
    if !started || rst then { outs := [{ v := y0, st := st }], ks := toWs t y0 ++ toW64 htick }
    else
      let y1 := f.add y (f.mul x (dtSec t dt))
      let y2 := if f.lt mx y1 then mx else y1
      let y3 := if f.lt y2 mn then mn else y2
      { outs := [{ v := y3, st := if f.lt mx mn then min 1 st else st }], ks := toWs t y3 ++ toW64 htick }
  | _ =>
    let r := bMavg t (parW ps 0) x ks
    { outs := [{ v := r.1, st := st }], ks := r.2 }

/-- The blocks whose kept state holds LASTH (R220, R222, R224). -/
def keepsLast (b : Nat) : Bool := decide (b ∈ [0x54, 0x55, 0x56, 0x60, 0x61, 0x62, 0x63, 0x75])

/-- Where LASTH lies in the kept state. -/
def lastPos (b t : Nat) : Nat :=
  match b with
  | 0x54 | 0x55 | 0x56 => 4
  | 0x75 => 0
  | _ => typeWords t

/-- dt of an instance (R205); `dflt` is MULT × BASE_CYCLE. -/
def instDt (b t htick dflt : Nat) (k : InstSt) : Nat :=
  if keepsLast b && k.hasLast then htick - wOf64 k.ks (lastPos b t) else dflt

/-- One evaluation of a block that stays within the network. -/
def evalPure (i : Inst) (h htick htime dflt : Nat) (ins : List BIn) (k : InstSt) : BRes :=
  let b := i.btype
  let dt := instDt b i.dtype htick dflt k
  if b < 0x10 then evalSel b i.dtype i.params ins
  else if b < 0x30 then evalArith b i.dtype i.params ins
  else if b < 0x50 then evalCmp b i.dtype i.params ins k.ks
  else if b < 0x60 then evalBist b i.dtype dt htick ins k.ks k.rewire k.rewireB
  else if b < 0x70 then
    evalSignal b i.dtype dt htick i.params ins k.ks k.started k.rewire ((k.outs.getD 0 (0, 0)).1.toNat)
  else
    { outs := [{ v := h, st := 3 }, { v := htime, st := 3 }, { v := (dt / 400) % 2 ^ 32, st := 3 }], ks := toW64 htick }

/-- The instance after an evaluation. -/
def InstSt.after (k : InstSt) (i : Inst) (r : BRes) : InstSt :=
  { outs := (List.zip (instSig i).outs r.outs).map fun p => sealOut p.1 p.2
    ks := if r.upd then r.ks else k.ks
    started := k.started || r.upd
    pub := true
    hasLast := k.hasLast || (r.upd && keepsLast i.btype)
    rewire := k.rewire && !r.upd
    rewireB := k.rewireB && !r.upd }

/-- An instance that starts fresh (R207). -/
def freshInst (i : Inst) : InstSt :=
  { outs := (instSig i).outs.map fun _ => (0, 0), ks := List.replicate (instSig i).kw 0, rewire := true, rewireB := true }

/-- RINIT (R207): the principal item from the value `v` of the slot bound to the principal output. -/
def rinitInst (i : Inst) (v : Nat) : InstSt :=
  let k := freshInst i
  let ks := match i.btype with
    | 0x54 | 0x55 | 0x56 =>
      let n := (rawI i.dtype v).toNat
      let e := if i.dtype = 16 then n * 400 else n * 2 / 5
      toW64 e ++ [w32 1] ++ k.ks.drop 3
    | 0x60 | 0x61 | 0x63 => toWs i.dtype v ++ k.ks.drop (typeWords i.dtype)
    | _ => w32 v :: k.ks.drop 1
  { k with ks := ks, started := true }

end Sys2Proof.Machine
end

