-- ==== Sys2Proof/Machine/ImgSlv.lean ====
section
/-! DEFINITION. The SOLVER section (R324, R325, R329 to R334, R338). -/

namespace Sys2Proof.Machine

def f64At (b : List Byte) (p : Nat) : F64 := BitVec.ofNat 64 (getN b p 8)

def opAt (b : List Byte) (p : Nat) : SlvOp :=
  { kind := getN b p 1, type := getN b (p + 1) 1, badpol := getN b (p + 2) 1, ref := SlotRef.dec (getN b (p + 4) 4)
    stride := getN b (p + 8) 2, value := f64At b (p + 16) }

def termAt (b : List Byte) (p : Nat) : SlvTerm :=
  let fl := getN b (p + 1) 1
  let o := getN b (p + 10) 2
  { target := getN b p 1, rowfix := bit fl 0, colfix := bit fl 1, row := getN b (p + 2) 2, col := getN b (p + 4) 2
    k0 := getN b (p + 6) 1, k1 := getN b (p + 7) 1, cshift := toSigned 8 (getN b (p + 8) 1)
    opnd := if o = 0xFFFF then none else some o, coef := f64At b (p + 16) }

def pubAt (b : List Byte) (p : Nat) : SlvPub :=
  { var := getN b p 2, wide := decide (getN b (p + 2) 1 = 11), slot := (SlotRef.dec (getN b (p + 4) 4)).slot, init := f64At b (p + 8) }

/-- A problem record from offset `p` on. -/
def probAt (b : List Byte) (p : Nat) : SlvCfg :=
  let no := getN b (p + 18) 2
  let nt := getN b (p + 20) 2
  let np := getN b (p + 22) 2
  { num := getN b p 1, warm := bit (getN b (p + 1) 1) 0, n := getN b (p + 2) 2, nvs := getN b (p + 4) 1
    nvf := getN b (p + 5) 1, nes := getN b (p + 6) 1, nef := getN b (p + 7) 1, nis := getN b (p + 8) 1
    nif := getN b (p + 9) 1, pmult := getN b (p + 12) 2, poffset := getN b (p + 14) 2, dlmult := getN b (p + 16) 2
    statBind := optRef (getN b (p + 24) 4), sig := slice b (p + 32) 8, iterMax := getN b (p + 40) 1
    shiftMax := getN b (p + 41) 1, tolp := getN b (p + 42) 1, told := getN b (p + 43) 1, piv := getN b (p + 44) 1
    dep := getN b (p + 45) 1, reg := getN b (p + 46) 1, resfail := getN b (p + 47) 1
    ops := (List.range no).map fun k => opAt b (p + 64 + 24 * k)
    terms := (List.range nt).map fun k => termAt b (p + 64 + 24 * no + 24 * k)
    pubs := (List.range np).map fun k => pubAt b (p + 64 + 24 * no + 24 * nt + 16 * k) }

def probLen (c : SlvCfg) : Nat := 64 + 24 * c.ops.length + 24 * c.terms.length + 16 * c.pubs.length

/-- Sizes (R312). -/
def nVar (c : SlvCfg) : Nat := c.nvs * c.n + c.nvf
def nEq (c : SlvCfg) : Nat := c.nes * c.n + c.nef
def nIn (c : SlvCfg) : Nat := c.nis * c.n + c.nif

/-- The structure signature (R324) of the record at `p`. -/
def structSig (b : List Byte) (p : Nat) (c : SlvCfg) : List Byte :=
  let t0 := p + 64 + 24 * c.ops.length
  (sha256 (slice b (p + 2) 8 ++ List.replicate 8 0 ++
    (List.range c.terms.length).flatMap fun k => slice b (t0 + 24 * k) 9 ++ [0#8])).take 8

/-- How many values an operand fetches. -/
def opFetch (c : SlvCfg) (o : SlvOp) : Nat := match o.kind with | 1 => 1 | 2 => c.n | _ => 0

def slvOpOk (own : List (Nat × W32)) (c : SlvCfg) (b : List Byte) (p : Nat) : Bool :=
  let o := opAt b p
  let rw := getN b (p + 4) 4
  let w := if o.ref.wide then 1 else 0
  zeros b (p + 3) 1 && zeros b (p + 10) 6 && F64.isFin o.value &&
  match o.kind with
  | 0 => decide (o.type = 0 ∧ o.badpol = 0 ∧ rw = 0 ∧ o.stride = 0)
  | 1 => decide (2 ≤ o.type ∧ o.type ≤ 11 ∧ o.badpol ≤ 2 ∧ o.stride = 0) && refType own o.type rw
  | 2 => decide (2 ≤ o.type ∧ o.type ≤ 11 ∧ o.badpol ≤ 2 ∧ 1 ≤ o.stride ∧ o.stride ≤ 64) && refType own o.type rw &&
      (!o.ref.wide || decide (o.stride % 2 = 0)) && decide (o.ref.slot + (c.n - 1) * o.stride + w < 65536)
  | 3 => decide (o.type = 0 ∧ o.badpol = 0 ∧ rw = 0 ∧ o.stride = 0 ∧ o.value = 0)
  | _ => false

/-- Counts of the rows or columns that a term may name: stage-local and fixed. -/
def rowCounts (c : SlvCfg) (target : Nat) : Nat × Nat :=
  if target ≤ 1 then (c.nvs, c.nvf) else if target ≤ 3 then (c.nes, c.nef) else (c.nis, c.nif)

def slvTermOk (c : SlvCfg) (b : List Byte) (p : Nat) : Bool :=
  let t := termAt b p
  let rc := rowCounts c t.target
  let vec := decide (t.target = 1 ∨ t.target = 3 ∨ t.target = 5)
  decide (t.target ≤ 5 ∧ getN b (p + 1) 1 < 4 ∧ t.k1 < c.n ∧ t.k0 ≤ t.k1) && zeros b (p + 9) 1 && zeros b (p + 12) 4 &&
  decide (t.row < (if t.rowfix then rc.2 else rc.1)) && F64.isFin t.coef &&
  (match t.opnd with | some o => decide (o < c.ops.length) | none => true) &&
  (if vec then !t.colfix && decide (t.col = 0 ∧ t.cshift = 0)
   else decide (t.col < (if t.colfix then c.nvf else c.nvs)) &&
    (if t.colfix then decide (t.cshift = 0)
     else decide (0 ≤ (t.k0 : Int) + t.cshift ∧ (t.k1 : Int) + t.cshift < (c.n : Int))))

def slvPubOk (own : List (Nat × W32)) (c : SlvCfg) (b : List Byte) (p : Nat) : Bool :=
  let ty := getN b (p + 2) 1
  let rw := getN b (p + 4) 4
  let r := SlotRef.dec rw
  decide ((ty = 10 ∨ ty = 11) ∧ getN b p 2 < nVar c) && zeros b (p + 3) 1 && refType own ty rw &&
  decide (r.widthM1 = 31 ∧ areaOf r.slot = .memory) && refOwned own r 8 (some c.num) && F64.isFin (f64At b (p + 8))

/-- The record at `p` meets R311 to R334 and R338. -/
def slvOk (own : List (Nat × W32)) (b : List Byte) (p : Nat) : Bool :=
  let c := probAt b p
  let no := c.ops.length
  let nt := c.terms.length
  decide (p + probLen c ≤ b.length ∧ c.num < 4 ∧ getN b (p + 1) 1 < 2 ∧ 1 ≤ c.n ∧ c.n ≤ 96 ∧ 1 ≤ nVar c ∧ nVar c ≤ 96 ∧
    nEq c ≤ 32 ∧ nEq c ≤ nVar c ∧ nIn c ≤ 192 ∧ 1 ≤ c.pmult ∧ c.pmult ≤ 10000 ∧ c.poffset < c.pmult ∧ 1 ≤ c.dlmult ∧
    c.dlmult ≤ c.pmult ∧ no ≤ 256 ∧ 1 ≤ nt ∧ nt ≤ 16384 ∧ 1 ≤ c.pubs.length ∧ c.pubs.length ≤ 96) &&
  decide (1 ≤ c.iterMax ∧ c.shiftMax ≤ 95 ∧ 20 ≤ c.tolp ∧ c.tolp ≤ 50 ∧ 20 ≤ c.told ∧ c.told ≤ 50 ∧ 30 ≤ c.piv ∧ c.piv ≤ 52 ∧
    30 ≤ c.dep ∧ c.dep ≤ 52 ∧ (c.reg = 0 ∨ (20 ≤ c.reg ∧ c.reg ≤ 52)) ∧ 1 ≤ c.resfail ∧ c.resfail ≤ 15) &&
  zeros b (p + 10) 2 && zeros b (p + 28) 4 && zeros b (p + 48) 16 &&
  decide ((c.ops.map (opFetch c)).sum ≤ 1024 ∧ (c.terms.map fun t => t.k1 + 1 - t.k0).sum ≤ 16384) &&
  bindOk own [.memory] 8 c.num 14 (getN b (p + 24) 4) &&
  (List.range no).all (fun k => slvOpOk own c b (p + 64 + 24 * k)) &&
  (List.range nt).all (fun k => slvTermOk c b (p + 64 + 24 * no + 24 * k)) &&
  (List.range c.pubs.length).all (fun k => slvPubOk own c b (p + 64 + 24 * no + 24 * nt + 16 * k)) &&
  decide (structSig b p c = c.sig)

/-- The problem records with the offset after the last. -/
def slvRecords (own : List (Nat × W32)) (b : List Byte) : Nat → Nat → Option (List SlvCfg × Nat)
  | 0, p => some ([], p)
  | n + 1, p =>
    if slvOk own b p then
      match slvRecords own b n (p + probLen (probAt b p)) with
      | some (r, q) => some (probAt b p :: r, q)
      | none => none
    else none

def slvBinds (c : SlvCfg) : List Nat :=
  (c.statBind.map (·.slot)).toList ++ c.pubs.flatMap fun p => if p.wide then [p.slot, p.slot + 1] else [p.slot]

/-- R329 to R334. -/
def parseSlv (own : List (Nat × W32)) (b : List Byte) : Option SlvSec :=
  let n := getN b 0 2
  if 8 ≤ b.length ∧ n ≤ 4 ∧ zeros b 2 6 = true then
    match slvRecords own b n 8 with
    | some (cs, q) =>
      if q = b.length ∧ strictly (cs.map (·.num)) = true ∧ (cs.flatMap slvBinds).Nodup then some { probs := cs } else none
    | none => none
  else none

end Sys2Proof.Machine
end

