-- ==== Sys2Proof/Machine/SlvMath.lean ====
section
/-! DEFINITION. The solver's arithmetic: assembly of a problem (R318 to R323), the dual active-set method (R338 to R346,
R535) and the residual check (R347). -/

namespace Sys2Proof.Machine

abbrev Vec := List F64

/-! ### Dot products (R339, R347) -/

/-- Lane sums after every chunk of products, one fused multiply-add each. -/
def laneSums (n : Nat) : Nat → Vec → Vec → Vec → Vec
  | 0, _, _, acc => acc
  | k + 1, xs, ys, acc =>
    if xs.isEmpty then acc
    else
      let m := (List.zipWith (fun a b => (a, b)) xs ys).take n
      let new := List.zipWith (fun (p : F64 × F64) c => F64.fma p.1 p.2 c) m acc
      laneSums n k (xs.drop n) (ys.drop n) (new ++ acc.drop new.length)

/-- Pairwise addition in the fixed tree. -/
def pairAdd : Vec → Vec
  | a :: b :: r => F64.add a b :: pairAdd r
  | r => r

def treeAdd : Nat → Vec → F64
  | 0, v => v.headD 0
  | k + 1, v => if v.length ≤ 1 then v.headD 0 else treeAdd k (pairAdd v)

def dotN (lanes : Nat) (xs ys : Vec) : F64 := treeAdd 5 (laneSums lanes (xs.length + 1) xs ys (List.replicate lanes 0))

/-- The engine's dot product, with 16 lanes. -/
def dot (xs ys : Vec) : F64 := dotN 16 xs ys

def col (m : List Vec) (j : Nat) : Vec := m.map fun r => r.getD j 0
def transpose (n : Nat) (m : List Vec) : List Vec := (List.range n).map (col m)
def matVec (m : List Vec) (x : Vec) : Vec := m.map fun r => dot r x
def el (v : Vec) (i : Nat) : F64 := v.getD i 0
def el2 (m : List Vec) (i j : Nat) : F64 := el (m.getD i []) j
def finAll (v : Vec) : Bool := v.all F64.isFin
def finMat (m : List Vec) : Bool := m.all finAll

/-! ### Assembly (R318 to R323) -/

/-- A fetched value as binary64 (R319). -/
def slvConv (t : Nat) (v : Nat) : F64 :=
  if t = 10 then to64 (F32.ofNat v) else if t = 11 then F64.ofNat v else F64.ofInt (rawI t v)

/-- The fields that an operand fetches. -/
def opRefs (c : SlvCfg) (o : SlvOp) : List SlotRef :=
  match o.kind with
  | 1 => [o.ref]
  | 2 => (List.range c.n).map fun k => { o.ref with slot := o.ref.slot + k * o.stride }
  | _ => []

/-- One fetched element: the value used, its effective state, whether it refuses the period, and its new LAST. -/
structure Fetched where
  v : F64
  st : Nat
  refuse : Bool
  last : Option F64
  deriving DecidableEq, Repr

def fetchOne (o : SlvOp) (last : Option F64) (raw : W64 × Byte) : Fetched :=
  let v := slvConv o.type raw.1.toNat
  if isBad raw.2 || !F64.isFin v then
    { v := if o.badpol = 1 then last.getD o.value else o.value, st := 1, refuse := decide (o.badpol = 2), last := none }
  else { v := v, st := qState raw.2, refuse := false, last := some v }

/-- Everything that a period fetches: one list for each operand. -/
def fetchAll (c : SlvCfg) (lasts : List (Nat × Nat × F64)) (view : SlotMap) : List (List Fetched) :=
  c.ops.zipIdx.map fun (o, i) => (opRefs c o).zipIdx.map fun (r, k) =>
    fetchOne o ((lasts.find? fun p => decide (p.1 = i ∧ p.2.1 = k)).map (·.2.2)) (r.read fun j => SlotMap.get view j)

/-- LAST values after a fetch. -/
def newLasts (fs : List (List Fetched)) (lasts : List (Nat × Nat × F64)) : List (Nat × Nat × F64) :=
  fs.zipIdx.foldl (fun acc (l, i) => l.zipIdx.foldl (fun acc (f, k) =>
    match f.last with
    | some v => (acc.filter fun p => !(decide (p.1 = i ∧ p.2.1 = k))) ++ [(i, k, v)]
    | none => acc) acc) lasts

/-- An operand's value for stage k (R318). -/
def opValue (o : SlvOp) (fs : List Fetched) (k : Nat) : F64 :=
  match o.kind with
  | 0 => o.value
  | 1 => (fs.head?.map (·.v)).getD 0
  | 2 => (fs[k]?.map (·.v)).getD 0
  | _ => F64.ofInt (k : Int)

def addTo (coef v : F64) (e : F64) : F64 := F64.fma coef v e

def modVec (v : Vec) (i : Nat) (f : F64 → F64) : Vec := modifyAt v i f
def modMat (m : List Vec) (i j : Nat) (f : F64 → F64) : List Vec := modifyAt m i fun r => modifyAt r j f

/-- One expansion (R320 to R322). -/
def expand (c : SlvCfg) (t : SlvTerm) (v : F64) (k : Nat) (m : Mats) : Mats :=
  let idx (cnt ofs : Nat) (fix : Bool) (r : Nat) (kk : Nat) : Nat := if fix then cnt * c.n + r else kk * cnt + r + ofs
  let jc := idx c.nvs 0 t.colfix t.col ((k : Int) + t.cshift).toNat
  let add := addTo t.coef v
  match t.target with
  | 0 =>
    let i := idx c.nvs 0 t.rowfix t.row k
    let h1 := modMat m.hm i jc add
    { m with hm := if i = jc then h1 else modMat h1 jc i add }
  | 1 => { m with g := modVec m.g (idx c.nvs 0 t.rowfix t.row k) add }
  | 2 => { m with em := modMat m.em (idx c.nes 0 t.rowfix t.row k) jc add }
  | 3 => { m with e := modVec m.e (idx c.nes 0 t.rowfix t.row k) add }
  | 4 => { m with cm := modMat m.cm (idx c.nis 0 t.rowfix t.row k) jc add }
  | _ => { m with d := modVec m.d (idx c.nis 0 t.rowfix t.row k) add }

/-- The assembled problem of start harvest `h` (R321). -/
def assemble (c : SlvCfg) (h : Nat) (fs : List (List Fetched)) : Mats :=
  let n := nVar c
  let z (r : Nat) : List Vec := List.replicate r (List.replicate n 0)
  let m0 : Mats := { h := h, hm := z n, g := List.replicate n 0, em := z (nEq c), e := List.replicate (nEq c) 0
                     cm := z (nIn c), d := List.replicate (nIn c) 0 }
  c.terms.foldl (fun m t =>
    (List.range (t.k1 + 1 - t.k0)).foldl (fun m i =>
      let k := t.k0 + i
      let v := match t.opnd with
        | some o => (match c.ops[o]? with | some op => opValue op (fs.getD o []) k | none => 0)
        | none => F64.one
      expand c t v k m) m) m0

def matsFin (m : Mats) : Bool := finMat m.hm && finAll m.g && finMat m.em && finAll m.e && finMat m.cm && finAll m.d

/-- Cycles of an assembly, and of a refused one (R317). -/
def asmCycles (c : SlvCfg) (refused : Bool) : Nat :=
  let n := nVar c
  let f := (c.ops.map (opFetch c)).sum
  let x := (c.terms.map fun t => t.k1 + 1 - t.k0).sum
  let z := n * (n + 1) / 2 + nEq c * n + nIn c * n + n + nEq c + nIn c
  if refused then 200 + 2 * f else 200 + 2 * ceilDiv z 16 + x + 2 * f

/-- Ticks of a number of cycles at 600 MHz, ended at the next whole tick. -/
def cyclesTicks (n : Nat) : Nat := ceilDiv (2 * n) 3

/-! ### Scales (R338) -/

def maxAbs (v : Vec) : F64 := v.foldl (fun a x => F64.max a (F64.abs x)) 0
def pow2neg (e : Nat) : F64 := F64.ofRat (1 / (2 ^ e : Nat))
def sigmaOf (v : Vec) : F64 := F64.add F64.one (maxAbs v)
def hmaxOf (m : Mats) : F64 := F64.max F64.one (maxAbs ((List.range m.hm.length).map fun i => el2 m.hm i i))
def tolP (c : SlvCfg) (m : Mats) : F64 := F64.mul (pow2neg c.tolp) (sigmaOf m.d)
def tolE (c : SlvCfg) (m : Mats) : F64 := F64.mul (pow2neg c.tolp) (sigmaOf m.e)

/-! ### Factorisation (R344, R535) -/

/-- The columns of L from column `k` on; at a tiny pivot, whether a flag is set so far (R346). `ls` holds the columns before. -/
def cholCols (h : List Vec) (n : Nat) (delta thr : F64) : Nat → Nat → List Vec → Except Bool (List Vec)
  | 0, _, ls => .ok ls
  | fuel + 1, k, ls =>
    if n ≤ k then .ok ls
    else
      let row (i : Nat) : Vec := ls.map fun c => el c i
      let rk := row k
      let pivot := F64.sub (F64.add (el2 h k k) delta) (dot rk rk)
      if F64.le pivot thr then .error (!finMat ls || !F64.isFin pivot)
      else
        let lkk := F64.sqrt pivot
        let c := (List.range n).map fun i =>
          if i < k then 0 else if i = k then lkk else F64.div (F64.sub (el2 h i k) (dot (row i) rk)) lkk
        cholCols h n delta thr fuel (k + 1) (ls ++ [c])

/-- Back substitution with an upper triangle given by its rows' entries `u i j`, from row `n` - 1 upward. -/
def backSub (u : Nat → Nat → F64) (rhs : Nat → F64) (n : Nat) : Nat → Vec → Vec
  | 0, acc => acc
  | i + 1, acc =>
    let us := (List.range (n - 1 - i)).map fun k => u i (i + 1 + k)
    backSub u rhs n i (F64.div (F64.sub (rhs i) (dot us acc)) (u i i) :: acc)

/-- J = inverse of L', by columns: L' has row i, column j equal to L's row j, column i. -/
def invL (n : Nat) (ls : List Vec) : List Vec :=
  (List.range n).map fun c => backSub (fun i j => el (ls.getD i []) j) (fun i => if i = c then F64.one else 0) n n []

/-- What a cold start gives: the columns of J, the mark REG, and whether a flag is set. -/
inductive Cold where
  | notConvex
  | ok (j : List Vec) (reg flag : Bool)
  deriving DecidableEq, Repr

def coldFactor (c : SlvCfg) (m : Mats) : Cold :=
  let n := nVar c
  let hm := hmaxOf m
  let thr := F64.mul (pow2neg c.piv) hm
  let fin (ls : List Vec) (reg flag : Bool) : Cold :=
    let j := invL n ls
    .ok j reg (flag || !finMat ls || !finMat j)
  match cholCols m.hm n 0 thr (n + 1) 0 [] with
  | .ok ls => fin ls false false
  | .error flag =>
    if c.reg = 0 then .notConvex
    else match cholCols m.hm n (F64.mul (pow2neg c.reg) hm) thr (n + 1) 0 [] with
      | .ok ls => fin ls true flag
      | .error _ => .notConvex

/-! ### The active-set iterations (R341, R343) -/

/-- The engine's state. -/
structure Eng where
  act : List (Nat × Bool) := []
  j : List Vec
  u : List Vec := []
  mu : Vec := []
  x : Vec
  s : Vec
  iter : Nat := 0
  /-- The row being added with its normal, slack and multiplier; `neg` marks a reversed equality row. -/
  cur : Option (Nat × Bool × Vec × F64 × F64) := none
  flag : Bool := false
  deriving DecidableEq, Repr

/-- Row `p` of E or C (rows of E first). -/
def rowOf (m : Mats) (p : Nat) : Vec := if p < m.em.length then m.em.getD p [] else m.cm.getD (p - m.em.length) []

def Eng.has (e : Eng) (p : Nat) : Bool := e.act.any fun a => decide (a.1 = p)

/-- The next row to add (R341); `none` stops with OPTIMAL. -/
def pickRow (m : Mats) (tp : F64) (e : Eng) : Option Nat :=
  match (List.range m.em.length).find? fun p => !e.has p with
  | some p => some p
  | none =>
    let neg := F64.neg tp
    ((List.range m.cm.length).foldl (fun (a : Option (Nat × F64)) i =>
      let si := el e.s i
      if e.has (m.em.length + i) || !F64.lt si neg then a
      else match a with
        | some b => if F64.lt si b.2 then some (m.em.length + i, si) else a
        | none => some (m.em.length + i, si)) none).map (·.1)

/-- The least mu_j / r_j over the removable rows with r_j > 0, the earliest in A on a tie. -/
def ratioTest (me : Nat) (act : List (Nat × Bool)) (mu r : Vec) : Option (Nat × F64) :=
  (List.range act.length).foldl (fun a i =>
    match act[i]? with
    | some row =>
      if row.1 < me ∨ F64.lt 0 (el r i) = false then a
      else
        let q := F64.div (el mu i) (el r i)
        match a with
        | some b => if F64.lt q b.2 then some (i, q) else a
        | none => some (i, q)
    | none => a) none

/-- The Householder add of R343: the new columns of J2, and σ. -/
def houseAdd (j2 : List Vec) (d2 : Vec) : List Vec × F64 × Bool :=
  let sg := F64.sqrt (dot d2 d2)
  let d0 := el d2 0
  let beta := if F64.le 0 d0 then F64.neg sg else sg
  let v := match d2 with | _ :: r => F64.sub d0 beta :: r | [] => []
  let w := dot v v
  let n := (j2.getD 0 []).length
  let rows := (List.range n).map fun i =>
    let y := j2.map fun c => el c i
    let k := dot y v
    let f := F64.div (F64.mul F64.two k) w
    (List.zipWith (fun vj yj => F64.fma (F64.neg f) vj yj) v y, k, f)
  let cols := (List.range j2.length).map fun c => rows.map fun r => el r.1 c
  let cols := if F64.lt beta 0 then (match cols with | c :: r => c.map F64.neg :: r | [] => []) else cols
  (cols, sg, !(F64.isFin sg && F64.isFin w && rows.all fun r => F64.isFin r.2.1 && F64.isFin r.2.2))

/-- c p + s r and c r − s p, each a dot product of length two. -/
def rotPair (c s p r : F64) : F64 × F64 := (dot [c, s] [p, r], dot [c, F64.neg s] [r, p])

/-- One Givens rotation of rows and J columns `i` and `i + 1` (R343). -/
def givens (i : Nat) (st : List Vec × List Vec × Bool) : List Vec × List Vec × Bool :=
  let (u, j, fl) := st
  let a := el (u.getD i []) i
  let b := el (u.getD i []) (i + 1)
  let h := F64.sqrt (dot [a, b] [a, b])
  let c := F64.div a h
  let s := F64.div b h
  let u' := u.zipIdx.map fun (cl, k) =>
    if k < i then cl
    else if k = i then (cl.set i h).set (i + 1) 0
    else
      let p := rotPair c s (el cl i) (el cl (i + 1))
      (cl.set i p.1).set (i + 1) p.2
  let ci := j.getD i []
  let cj := j.getD (i + 1) []
  let ps := List.zipWith (rotPair c s) ci cj
  (u', (j.set i (ps.map (·.1))).set (i + 1) (ps.map (·.2)), fl || !(F64.isFin h && F64.isFin c && F64.isFin s))

/-- Row number `k` of A leaves (R343). -/
def removeRow (k : Nat) (e : Eng) : Eng :=
  let q := e.act.length
  let u0 := e.u.eraseIdx k
  let r := ((List.range (q - 1 - k)).map (k + ·)).foldl (fun st i => givens i st) (u0, e.j, false)
  { e with act := e.act.eraseIdx k, mu := e.mu.eraseIdx k, u := r.1.map (·.take (q - 1)), j := r.2.1
           flag := e.flag || r.2.2 || !finMat r.1 || !finMat r.2.1 }

/-- An infinity. -/
def isInfF (x : F64) : Bool := !F64.isFin x && F64.le x x

/-- One pass through the repeat body for the row in `cur` (R341, R353); the second component stops the solve. -/
def engPass (c : SlvCfg) (m : Mats) (p : Nat) (neg : Bool) (np : Vec) (sp up : F64) (e : Eng) : Eng × Option SolveEnd :=
  let q := e.act.length
  let dv := e.j.map fun cl => dot cl np
  let d1 := dv.take q
  let d2 := dv.drop q
  let j2 := e.j.drop q
  let n := e.x.length
  let z := (List.range n).map fun i => dot (j2.map fun cl => el cl i) d2
  let r := backSub (fun i k => el (e.u.getD k []) i) (el d1) q q []
  let t1 := ratioTest m.em.length e.act e.mu r
  let dd := dot d2 d2
  let nn := dot np np
  let tn := F64.mul (pow2neg c.dep) nn
  let t2 := if F64.le dd tn then none else some (F64.div (F64.neg sp) dd)
  let fl1 := !(finAll dv && finAll z && finAll r && F64.isFin dd && F64.isFin nn && F64.isFin tn) ||
    (match t2 with | some t => !F64.isFin t | none => false) ||
    (List.range q).any fun i => match e.act[i]? with
      | some row => decide (m.em.length ≤ row.1) && F64.lt 0 (el r i) && !F64.isFin (F64.div (el e.mu i) (el r i))
      | none => false
  let full : Option (F64 × Option Nat) := match t1, t2 with
    | none, none => none
    | some a, none => some (a.2, some a.1)
    | none, some b => some (b, none)
    | some a, some b => if F64.lt a.2 b then some (a.2, some a.1) else some (b, none)
  match full.filter fun f => !isInfF f.1 with
  | none => ({ e with flag := e.flag || fl1 }, some .infeasible)
  | some (t, rem) =>
    let mu := List.zipWith (fun mj rj => F64.fma (F64.neg t) rj mj) e.mu r
    let up' := F64.add up t
    let move := (t2.map F64.isFin).getD false
    let x := if move then List.zipWith (fun xi zi => F64.fma t zi xi) e.x z else e.x
    let cz := if move then matVec m.cm z else []
    let s := if move then List.zipWith (fun si ci => F64.fma t ci si) e.s cz else e.s
    let sp' := if move then F64.fma t dd sp else sp
    let e1 := { e with
      mu := mu, x := x, s := s, iter := e.iter + 1
      flag := e.flag || fl1 || !(finAll mu && F64.isFin up' && finAll x && finAll cz && finAll s && F64.isFin sp') }
    let e2 := match rem with
      | some k => { removeRow k e1 with cur := some (p, neg, np, sp', up') }
      | none =>
        let hh := houseAdd j2 d2
        { e1 with
          act := e1.act ++ [(p, neg)], mu := e1.mu ++ [up'], cur := none
          u := e1.u.map (· ++ [0]) ++ [d1 ++ [hh.2.1]]
          j := e1.j.take q ++ hh.1, flag := e1.flag || hh.2.2 || !finMat hh.1 }
    (e2, if e2.flag then some .nonfinite else none)

/-- The loop of R341; `fuel` bounds passes and row choices. -/
def engLoop (c : SlvCfg) (m : Mats) (tp : F64) : Nat → Eng → Eng × SolveEnd
  | 0, e => (e, .iterLimit)
  | fuel + 1, e =>
    match e.cur with
    | some (p, neg, np, sp, up) =>
      if e.iter = c.iterMax then (e, .iterLimit)
      else match engPass c m p neg np sp up e with
        | (e1, some st) => (e1, st)
        | (e1, none) => engLoop c m tp fuel e1
    | none =>
      match pickRow m tp e with
      | none => (e, .optimal)
      | some p =>
        let row := rowOf m p
        let eq := decide (p < m.em.length)
        let sp := if eq then F64.sub (dot row e.x) (el m.e p) else el e.s (p - m.em.length)
        let neg := eq && F64.lt 0 sp
        let np := if neg then row.map F64.neg else row
        engLoop c m tp fuel { e with cur := some (p, neg, np, if neg then F64.neg sp else sp, 0)
                                     flag := e.flag || !F64.isFin sp }

/-- s = C x − d. -/
def slackOf (m : Mats) (x : Vec) : Vec := List.zipWith F64.sub (matVec m.cm x) m.d

/-- Multipliers of every row, equality rows first: a reversed equality row reports the negative (R341). -/
def multipliers (m : Mats) (e : Eng) : Vec :=
  (List.range (m.em.length + m.cm.length)).map fun p =>
    match e.act.findIdx? (fun a => decide (a.1 = p)) with
    | some i => if (e.act[i]?.map (·.2)).getD false then F64.neg (el e.mu i) else el e.mu i
    | none => 0

def solveRes (m : Mats) (start : Nat) (reg : Bool) (r : Eng × SolveEnd) : SolveRes :=
  { stop := r.2, start := start, reg := reg, iter := r.1.iter, x := r.1.x, lam := multipliers m r.1
    fact := { act := r.1.act, j := r.1.j, u := r.1.u, reg := reg } }

/-- A solve from cold (R341). -/
def solveCold (c : SlvCfg) (m : Mats) (start : Nat) : SolveRes :=
  match coldFactor c m with
  | .notConvex => { stop := .notConvex, start := start, reg := decide (c.reg ≠ 0) }
  | .ok j reg flag =>
    let jg := j.map fun cl => dot cl m.g
    let x := (matVec (transpose (nVar c) j) jg).map F64.neg
    if flag || !finAll jg || !finAll x then { stop := .nonfinite, start := start, reg := reg }
    else
      let s := slackOf m x
      solveRes m start reg (engLoop c m (tolP c m) (3 * c.iterMax + 3) { j := j, x := x, s := s, flag := !finAll s })

/-- Warm initialisation (R341): x and mu with every row of A held as an equality. The order of its operations is the
model's (log 48). `none` is WARM_FAILED. -/
def warmInit (c : SlvCfg) (m : Mats) (f : Fact) : Option Eng :=
  let q := f.act.length
  let b := f.act.map fun a =>
    let v := if a.1 < m.em.length then el m.e a.1 else el m.d (a.1 - m.em.length)
    if a.2 then F64.neg v else v
  -- y1 solves U' y1 = b, forward
  let y1 := (List.range q).foldl (fun (y : Vec) i =>
    let us := (List.range i).map fun k => el (f.u.getD i []) k
    y ++ [F64.div (F64.sub (el b i) (dot us y)) (el (f.u.getD i []) i)]) []
  let j1 := f.j.take q
  let j2 := f.j.drop q
  let y2 := j2.map fun cl => F64.neg (dot cl m.g)
  let n := nVar c
  let x := (List.range n).map fun i =>
    F64.add (dot (j1.map fun cl => el cl i) y1) (dot (j2.map fun cl => el cl i) y2)
  let w := List.zipWith F64.add y1 (j1.map fun cl => dot cl m.g)
  let mu := backSub (fun i k => el (f.u.getD k []) i) (el w) q q []
  let bad := (List.range q).any fun i => match f.act[i]? with
    | some a => decide (m.em.length ≤ a.1) && F64.lt (el mu i) 0
    | none => false
  if bad || !finAll y1 || !finAll y2 || !finAll x || !finAll w || !finAll mu then none
  else
    let s := slackOf m x
    some { act := f.act, j := f.j, u := f.u, mu := mu, x := x, s := s, flag := !finAll s }

/-- The start kind and the factors of a warm start (R342). -/
def startKind (c : SlvCfg) (m : Mats) (ret : Option Retained) : Nat × Option Fact :=
  match ret with
  | none => (1, none)
  | some r =>
    if !c.warm then (1, none)
    else if r.sig ≠ c.sig then (2, none)
    else match r.fact with
      | none => (6, none)
      | some (f, rm) => if rm.hm = m.hm ∧ rm.em = m.em ∧ rm.cm = m.cm then (5, some f) else (3, none)

/-- A solve (R341, R342). -/
def solve (c : SlvCfg) (m : Mats) (ret : Option Retained) : SolveRes :=
  match startKind c m ret with
  | (k, none) => solveCold c m k
  | (k, some f) =>
    match warmInit c m f with
    | none => solveCold c m 4
    | some e => solveRes m k f.reg (engLoop c m (tolP c m) (3 * c.iterMax + 3) e)

/-! ### Residual check (R347) -/

def dot8 (xs ys : Vec) : F64 := dotN 8 xs ys

structure Check where
  ok : Bool
  presp : F32
  presd : F32
  deriving DecidableEq, Repr

def maxOf (v : Vec) : F64 := v.foldl F64.max 0

def residual (c : SlvCfg) (m : Mats) (x lam : Vec) : Check :=
  let n := nVar c
  let nu := lam.take m.em.length
  let la := lam.drop m.em.length
  let te := tolE c m
  let tp := tolP c m
  let ex := List.zipWith F64.sub (m.em.map fun r => dot8 r x) m.e
  let cx := List.zipWith F64.sub (m.cm.map fun r => dot8 r x) m.d
  let hx := m.hm.map fun r => dot8 r x
  let st := (List.range n).map fun j =>
    F64.sub (F64.sub (F64.add (el hx j) (el m.g j)) (dot8 (col m.em j) nu)) (dot8 (col m.cm j) la)
  let bound := F64.mul (pow2neg c.told) (F64.add (sigmaOf m.g) (maxAbs hx))
  let act := (List.range la.length).filter fun i => F64.lt 0 (el la i)
  let fin := finAll ex && finAll cx && finAll hx && finAll st && finAll lam && F64.isFin bound && F64.isFin te && F64.isFin tp
  let ok := fin && ex.all (fun v => F64.le (F64.abs v) te) && cx.all (fun v => F64.le (F64.neg tp) v) &&
    la.all (fun v => F64.le 0 v) && act.all (fun i => F64.le (F64.abs (el cx i)) tp) &&
    st.all fun v => F64.le (F64.abs v) bound
  let ratios := (ex.map fun v => F64.div (F64.abs v) te) ++
    (cx.map fun v => F64.div (F64.max 0 (F64.neg v)) tp) ++ act.map fun i => F64.div (F64.abs (el cx i)) tp
  { ok := ok, presp := to32 (maxOf ratios), presd := to32 (F64.div (maxAbs st) bound) }

end Sys2Proof.Machine
end

