-- ==== Sys2Proof/Machine/SlvOps.lean ====
section
/-! DEFINITION. The solver's periods, publications, and what faults, rungs, commits and takeovers do to it (chapters 09
and 10). -/

namespace Sys2Proof.Machine

def slvCfg (i : Image) (p : Nat) : Option SlvCfg := findKey (·.num) p i.slv.probs

def State.prob (p : Nat) (s : State) : Option ProbSt := findKey (·.p) p s.slv.probs

def State.modProb (p : Nat) (f : ProbSt → ProbSt) (s : State) : State :=
  { s with slv := { s.slv with probs := modifyKey (·.p) p f s.slv.probs } }

/-- Periods may start (R314, R335). -/
def State.slvRun (s : State) : Bool := decide (s.mode = .active) && !s.slv.fault

def setStage (st : PerStage) (x : ProbSt) : ProbSt := { x with per := x.per.map fun y => { y with stage := st } }

/-! ### Publication (R326, R328, R349 to R352) -/

/-- A REAL publication: the nearest value, or the largest finite one where the value lies beyond it. -/
def pubReal (v : F64) (st : Nat) : W32 × Nat :=
  let big := b32.toRat (b32.maxFin false)
  let q := F64.toRat v
  if big < q then (BitVec.ofNat 32 (b32.maxFin false), min st 1)
  else if q < -big then (BitVec.ofNat 32 (b32.maxFin true), min st 1)
  else (to32 v, st)

def State.putPub (r : SlvPub) (v : F64) (st : Nat) (subst : Bool) (s : State) : State :=
  if r.wide then
    let q := mkQ st subst false false
    (s.writeSlot r.slot (BitVec.ofNat 32 v.toNat) q).writeSlot (r.slot + 1) (BitVec.ofNat 32 (v.toNat / 2 ^ 32)) q
  else
    let p := pubReal v st
    s.writeSlot r.slot p.1 (mkQ p.2 subst false false)

/-- The variable that a SHIFTED publication at age `a` takes for VAR (R351). -/
def shiftVar (c : SlvCfg) (a var : Nat) : Nat :=
  if var < c.nvs * c.n then min (var / c.nvs + a) (c.n - 1) * c.nvs + var % c.nvs else var

/-- The period ends with its publication at harvest `h` (R326, R349). -/
def State.slvPublish (c : SlvCfg) (h status : Nat) (s : State) : State :=
  match s.prob c.num with
  | none => s
  | some x =>
    match x.per with
    | none => s
    | some y =>
      let solved := decide (status ≤ 1)
      let age := if solved then 0 else satInc 255 x.age
      let shifted := !solved && decide (age ≤ c.shiftMax) &&
        (match x.ret with | some r => decide (r.sig = c.sig) | none => false)
      let cls := if solved then 1 else if shifted then 2 else 0
      let rx := match x.ret with | some r => r.x | none => []
      let s1 := c.pubs.foldl (fun s r =>
        if solved then s.putPub r (el y.res.x r.var) y.asmState false
        else if shifted then s.putPub r (el rx (shiftVar c age r.var)) 1 false
        else s.putPub r r.init 1 true) s
      let ran := match y.stage with | .decided st => decide (st ≠ 0x16 ∧ st ≠ 0x17) | .checking => true | _ => false
      -- the iterations that a solve stopped by the deadline has made are not stated but for their bound (R328, log 49)
      let it := if y.stage = .solving then s1.freeW32.1.toNat % (y.res.iter + 1) else if ran then y.res.iter else 0
      let s1 := if y.stage = .solving then s1.freeW32.2 else s1
      let s2 := match c.statBind with
        | some r => s1.writeSlot r.slot (BitVec.ofNat 32 (status + 256 * cls + 65536 * age + 16777216 * min it 255)) qGood
        | none => s1
      let s3 := s2.modProb c.num fun x =>
        { x with
          per := none, status := status, cls := cls, age := age
          solved := if solved then satInc 65535 x.solved else x.solved
          fallback := if solved then x.fallback else satInc 32767 x.fallback
          fbRun := if solved then none else if x.cls = 1 then some 1 else x.fbRun.map (· + 1)
          ret := if solved then some { x := y.res.x, lam := y.res.lam, sig := c.sig, h := h
                                       fact := x.mats.map fun m => (y.res.fact, m) } else x.ret }
      if solved then
        match x.fbRun with
        | some n => s3.record 0x0802 c.num 0 (leBytes 2 n)
        | none => s3
      else if x.cls = 1 then s3.record 0x0801 c.num 0 (leBytes 1 status ++ leBytes 1 age)
      else s3

/-- The period of a problem leaves the queues and units. -/
def State.slvDrop (p : Nat) (s : State) : State :=
  { s with slv := { s.slv with
      asm := if s.slv.asm.map (·.1) = some p then none else s.slv.asm
      eng := if s.slv.eng.map (·.1) = some p then none else s.slv.eng
      engFree := if s.slv.eng.map (·.1) = some p then s.clock + 1 else s.slv.engFree
      resq := s.slv.resq.filter (· ≠ p) } }

/-- What a harvest tick publishes for one problem: a decided period, or DEADLINE at the deadline harvest (R350). -/
def State.slvHarvestOne (h : Nat) (c : SlvCfg) (s : State) : State :=
  match s.prob c.num with
  | some x => match x.per with
    | some y => match y.stage with
      | .decided st => s.slvPublish c h st
      | st =>
        if y.deadline ≤ h then
          let s1 := s.slvPublish c h 0x15
          if st = .assembling then s1 else s1.slvDrop c.num
        else s
    | none => s
  | none => s

/-- What is already decided is published with the harvest tick itself (R43, R350). -/
def State.slvDecided (h : Nat) (s : State) : State :=
  if s.slvRun then s.img.slv.probs.foldl (fun s c =>
    match (s.prob c.num).bind (·.per) with
    | some y => match y.stage with
      | .decided st => s.slvPublish c h st
      | _ => s
    | none => s) s
  else s

/-- A period starts at harvest `h` (R314). -/
def State.slvStart (h : Nat) (c : SlvCfg) (s : State) : State :=
  match s.prob c.num with
  | some x =>
    if x.per.isNone && decide (h % c.pmult = c.poffset) && decide (s.slv.activeSince < s.clock) then
      let s1 := s.modProb c.num fun x => { x with per := some { h := h, deadline := h + c.dlmult } }
      { s1 with slv := { s1.slv with asmFree := max s1.slv.asmFree (s.clock + 1) } }
    else s
  | none => s

/-- The solver at a harvest tick, skipped or not: publications first, then period starts (R159, R163, R315). -/
def State.slvPubs (h : Nat) (s : State) : State :=
  if s.slvRun then s.img.slv.probs.foldl (fun s c => s.slvHarvestOne h c) s else s

def State.slvStarts (h : Nat) (s : State) : State :=
  if s.slvRun then s.img.slv.probs.foldl (fun s c => s.slvStart h c) s else s

/-! ### Assembly and engine (R316, R337) -/

/-- The problem with the earliest deadline, then the lowest number, whose period is at a stage. -/
def State.slvNext (st : PerStage) (s : State) : Option Nat :=
  (s.slv.probs.foldl (fun (a : Option (Nat × Nat)) x => match x.per with
    | some y =>
      if y.stage = st then
        match a with
        | some b => if y.deadline < b.1 ∨ (y.deadline = b.1 ∧ x.p < b.2) then some (y.deadline, x.p) else a
        | none => some (y.deadline, x.p)
      else a
    | none => a) none).map (·.2)

def State.asmBegin (s : State) : State :=
  if !s.slvRun || s.slv.asm.isSome || decide (s.clock < s.slv.asmFree) then s
  else match s.slvNext .queued with
    | some p =>
      let s1 := s.modProb p (setStage .assembling)
      { s1 with slv := { s1.slv with asm := some (p, s.clock) } }
    | none => s

/-- The assembly in progress ends (R317, R319, R323). -/
def State.asmEnd (s : State) : State :=
  match s.slv.asm with
  | none => s
  | some (p, t) =>
    let free (s : State) : State := { s with slv := { s.slv with asm := none, asmFree := s.clock + 1, asmLast := some (p, s.clock) } }
    match slvCfg s.img p, s.prob p with
    | some c, some x =>
      let y := x.per.getD { h := 0, deadline := 0 }
      let fs := fetchAll c x.lasts (y.view.getD s.visible)
      let refused := fs.any fun l => l.any (·.refuse)
      if s.clock < t + cyclesTicks (asmCycles c refused) then s
      else if x.per.isNone || decide (y.stage ≠ .assembling) then free s
      else
        let lasts := newLasts fs x.lasts
        let stt := lowest (fs.flatMap fun l => l.map (·.st))
        if refused then free (s.modProb p fun x => setStage (.decided 0x16) { x with lasts := lasts })
        else
          let m := assemble c y.h fs
          free (s.modProb p fun x =>
            { x with lasts := lasts, mats := some m
                     per := some { y with stage := if matsFin m then .assembled else .decided 0x17, asmState := stt } })
    | _, _ => free s

def State.solveBegin (s : State) : State :=
  if !s.slvRun || s.slv.eng.isSome || decide (s.clock < s.slv.engFree) then s
  else match s.slvNext .assembled with
    | none => s
    | some p =>
      match slvCfg s.img p, s.prob p with
      | some c, some x =>
        let r := solve c (x.mats.getD {}) x.ret
        let s1 := s.modProb p fun x => { x with per := x.per.map fun y => { y with stage := .solving, res := r } }
        { s1 with slv := { s1.slv with eng := some (p, s.clock) } }
      | _, _ => s

def stopCode (e : SolveEnd) : Nat :=
  match e with | .optimal => 0 | .infeasible => 0x10 | .notConvex => 0x11 | .nonfinite => 0x12 | .iterLimit => 0x13

/-- The engine hands over after a number of cycles (R337, R341). -/
def State.solveEnd (cycles : Nat) (s : State) : State :=
  match s.slv.eng with
  | none => s
  | some (p, t) =>
    if s.clock < t + cyclesTicks cycles then s
    else
      let s0 : State := { s with slv := { s.slv with eng := none, engFree := s.clock + 1 } }
      match s.prob p with
      | some x => match x.per with
        | some y =>
          let ok := decide (y.res.stop = .optimal)
          let s1 := s0.modProb p fun x =>
            { setStage (if ok then .checking else .decided (stopCode y.res.stop)) x with
              start := y.res.start, reg := y.res.reg, iter := min y.res.iter 255, cycles := cycles % 16777216 }
          if ok then { s1 with slv := { s1.slv with resq := s1.slv.resq ++ [p] } } else s1
        | none => s0
      | none => s0

/-! ### Fault, rungs, commit, takeover, online change (R314, R335, R336, R498) -/

/-- Every period in progress ends without publication. -/
def State.slvClear (s : State) : State :=
  { s with slv := { s.slv with probs := s.slv.probs.map fun x => { x with per := none }, asm := none, asmLast := none, eng := none, resq := [] } }

def State.confSlv (s : State) : State := { s with slv := { probs := s.img.slv.probs.map fun c => { p := c.num } } }

def State.leaveSlv (s : State) : State := s.slvClear

def State.stopSlv (s : State) : State :=
  let s1 := s.slvClear
  ({ s1 with slv := { s1.slv with fault := true } } : State).r38 8 none []

def State.retrySlv (s : State) : State :=
  { s with slv := { s.slv with fault := false, probs := s.slv.probs.map fun x => { x with rescons := 0 } } }

def State.reinitSlv (s : State) : State :=
  let s1 := s.retrySlv
  { s1 with slv := { s1.slv with probs := s1.slv.probs.map fun x => { x with ret := none, lasts := [] } } }

/-- The module becomes ACTIVE: periods start from now on (R314), and the first solve is cold, as the retained solution
carries no factors (R342, R498). -/
def State.enterSlv (s : State) : State :=
  { s with slv := { s.slv with
      activeSince := s.clock
      probs := s.slv.probs.map fun x => { x with ret := x.ret.map fun r => { r with fact := none } } } }

def State.slvShadows (s : State) : List SlvShadow :=
  s.slv.probs.map fun x =>
    { prob := x.p, x := (x.ret.map (·.x)).getD [], sig := (x.ret.map (·.sig)).getD [], harvest := (x.ret.map (·.h)).getD 0
      age := x.age, lasts := x.lasts }

/-- The problems take the SOLVER shadow; the retained solution carries no factors (R342, R491). -/
def State.applySlv (l : List SlvShadow) (s : State) : State :=
  let g (x : ProbSt) : ProbSt :=
    match findKey (·.prob) x.p l with
    | some h =>
      { x with ret := if h.x.isEmpty then none else some { x := h.x, sig := h.sig, h := h.harvest }
               age := h.age, lasts := h.lasts }
    | none => x
  { s with slv := { s.slv with probs := s.slv.probs.map g } }

/-- The switch of an online change (R336). -/
def State.switchSlv (old : Image) (s : State) : State :=
  let same (p : Nat) : Bool := match slvCfg old p, slvCfg s.img p with
    | some o, some c => decide (o = c)
    | _, _ => false
  let g (c : SlvCfg) : ProbSt :=
    match s.prob c.num, slvCfg old c.num with
    | some x, some o => if o = c then x else if o.sig = c.sig then { x with per := none } else { p := c.num }
    | _, _ => { p := c.num }
  let s1 := s.slv.probs.foldl (fun (s : State) x => if same x.p then s else s.slvDrop x.p) s
  { s1 with slv := { s1.slv with probs := s.img.slv.probs.map g } }

/-! ### Registers (SLV_STAT to SLV_WIN_VAL) -/

/-- The problem in assembly while ASMBUSY is 1: an assembly runs, one has ended in this tick, or the next begins in it
(R316, R317). -/
def State.asmBusy (s : State) : Option Nat :=
  match s.slv.asm, s.slv.asmLast.filter fun p => decide (p.2 = s.clock) with
  | some (p, _), _ => some p
  | none, some (p, _) => some p
  | none, none => if s.slvRun && decide (s.slv.asmFree ≤ s.clock) then s.slvNext .queued else none

def rdSlvStat (s : State) : Nat :=
  let q := (s.slv.probs.map fun x => match x.per with
    | some y => if y.stage = .assembled then 2 ^ x.p else 0
    | none => 0).sum
  b2n s.slvRun + 2 * b2n s.slv.fault + 16 * s.slv.cause + 256 * ((s.slv.eng.map (·.1)).getD 0) + 1024 * b2n s.slv.eng.isSome +
  2048 * b2n s.asmBusy.isSome + 4096 * (s.asmBusy.getD 0) + 65536 * q

def State.probD (p : Nat) (s : State) : ProbSt := (s.prob p).getD { p := p }

def rdSlvPstat (s : State) (p : Nat) : Nat :=
  let x := s.probD p
  x.status + 256 * x.cls + 1024 * x.start + 8192 * b2n x.reg + 65536 * x.age + 16777216 * x.iter

def rdSlvPcyc (s : State) (p : Nat) : Nat := (s.probD p).cycles + 16777216 * (s.probD p).rescons
def rdSlvPcnt (s : State) (p : Nat) : Nat := (s.probD p).solved + 65536 * (s.probD p).fallback

def rdSlvPeng (s : State) (p : Nat) : Nat :=
  match slvCfg s.img p with
  | some c => c.iterMax + 256 * c.shiftMax + 65536 * c.tolp + 16777216 * c.told
  | none => 0

def rdSlvPeng2 (s : State) (p : Nat) : Nat :=
  match slvCfg s.img p with
  | some c => c.piv + 256 * c.dep + 65536 * c.reg + 16777216 * c.resfail
  | none => 0

def rdSlvPsig (s : State) (p : Nat) : Nat := match (s.probD p).ret with | some r => leNat r.sig | none => 0
def rdSlvPharv (s : State) (p : Nat) : Nat := match (s.probD p).ret with | some r => r.h | none => 0

/-- A write of SLV_WIN_SEL captures one entry (R357). -/
def State.slvWin (v : W32) (s : State) (m : MasterSt) : MasterSt :=
  let w := v.toNat
  let p := field w 1 0; let mat := field w 4 2; let row := field w 15 8; let cl := field w 23 16
  let base : MasterSt := { m with slvSel := v &&& 0x00FFFF1F#32, slvValid := false, slvBusy := false, slvHlow := 0, slvVal := 0 }
  match s.prob p with
  | none => base
  | some x =>
    let busy := decide (s.slv.asm.map (·.1) = some p ∨ s.slv.eng.map (·.1) = some p)
    if busy then { base with slvBusy := true }
    else
      let vec (v : Vec) (h : Nat) : MasterSt := match v[row]? with
        | some e => { base with slvValid := true, slvVal := e, slvHlow := h % 65536 }
        | none => base
      let two (a : List Vec) (h : Nat) : MasterSt := match a[row]? with
        | some r => (match r[cl]? with
          | some e => { base with slvValid := true, slvVal := e, slvHlow := h % 65536 }
          | none => base)
        | none => base
      match mat, x.mats, x.ret with
      | 0, some a, _ => two a.hm a.h
      | 1, some a, _ => vec a.g a.h
      | 2, some a, _ => two a.em a.h
      | 3, some a, _ => vec a.e a.h
      | 4, some a, _ => two a.cm a.h
      | 5, some a, _ => vec a.d a.h
      | 6, _, some r => vec r.x r.h
      | 7, _, some r => vec r.lam r.h
      | _, _, _ => base

def rdSlvWinInfo (m : MasterSt) : Nat := b2n m.slvValid + 2 * b2n m.slvBusy + 65536 * m.slvHlow

end Sys2Proof.Machine
end

