-- ==== Sys2Proof/Machine/LoopOps.lean ====
section
/-! DEFINITION. The loop engine (chapter 08): triggers, the laws, modes, the profile, supervision, and what faults, rungs,
commits and takeovers do to it. -/

namespace Sys2Proof.Machine

/-! ### Output chain (R286) -/

/-- The rate in force: ORATE, or during hand-over the smaller of HRATE and ORATE among those above 0. -/
def rateOf (c : LoopCfg) (ho : Bool) : F32 :=
  if !ho then c.orate
  else if F32.lt 0 c.hrate then (if F32.lt 0 c.orate then F32.min c.hrate c.orate else c.hrate)
  else if F32.lt 0 c.orate then c.orate else 0

structure Chain where
  y : F32
  hi : Bool
  lo : Bool
  rl : Bool
  deriving DecidableEq, Repr

def clampF (x lo hi : F32) : F32 := F32.min (F32.max x lo) hi

def outChain (c : LoopCfg) (r v y1 h : F32) : Chain :=
  let cc := clampF v c.olo c.ohi
  let rh := F32.mul r h
  let y := if F32.lt 0 r then F32.add y1 (clampF (F32.sub cc y1) (F32.neg rh) rh) else cc
  { y := y, hi := F32.lt c.ohi v, lo := F32.lt v c.olo, rl := !F32.eq y cc }

/-! ### PID (R283, R284, R293) -/

/-- GAMMA × SP − PV. -/
def pidG (b : List F32) (sp pv : F32) : F32 := F32.sub (F32.mul (wd b 6) sp) pv

/-- p and d of R283 from d1 and g1. -/
def pidPD (b : List F32) (sp pv d1 g1 h : F32) : F32 × F32 :=
  let p := F32.mul (wd b 0) (F32.sub (F32.mul (wd b 5) sp) pv)
  if F32.lt 0 (wd b 2) then
    let den := F32.add (wd b 2) (F32.mul (wd b 3) h)
    let ad := F32.div (wd b 2) den
    let bd := F32.div (F32.mul (F32.mul (wd b 0) (wd b 2)) (wd b 3)) den
    (p, F32.add (F32.mul ad d1) (F32.mul bd (F32.sub (pidG b sp pv) g1)))
  else (p, 0)

/-- The integral term after a sample (R283, R284). -/
def pidI (b : List F32) (sp pv i y v h : F32) : F32 :=
  if !F32.lt 0 (wd b 1) then i
  else
    let bie := F32.mul (F32.div (F32.mul (wd b 0) h) (wd b 1)) (F32.sub sp pv)
    let yv := F32.sub y v
    if F32.lt 0 (wd b 4) then F32.add (F32.add i bie) (F32.mul (F32.div h (wd b 4)) yv)
    else if (F32.lt 0 bie && F32.lt yv 0) || (F32.lt bie 0 && F32.lt 0 yv) then i
    else F32.add i bie

/-! ### 2P2Z and 3P3Z (R285) -/

/-- Past errors and past outputs: e1, e2, e3, u1, u2, u3. -/
structure Past where
  e1 : F32
  e2 : F32
  e3 : F32
  u1 : F32
  u2 : F32
  u3 : F32
  deriving DecidableEq, Repr

def polyV (law : Nat) (b : List F32) (e : F32) (p : Past) (ff : F32) : F32 :=
  let m := F32.mul
  if law = 1 then
    F32.add (F32.sub (F32.sub (F32.add (F32.add (m (wd b 0) e) (m (wd b 1) p.e1)) (m (wd b 2) p.e2)) (m (wd b 3) p.u1))
      (m (wd b 4) p.u2)) ff
  else
    F32.add (F32.sub (F32.sub (F32.sub (F32.add (F32.add (F32.add (m (wd b 0) e) (m (wd b 1) p.e1)) (m (wd b 2) p.e2))
      (m (wd b 3) p.e3)) (m (wd b 4) p.u1)) (m (wd b 5) p.u2)) (m (wd b 6) p.u3)) ff

/-! ### Profile (R299) -/

def sgnF (x : F32) : Int := if F32.lt 0 x then 1 else if F32.lt x 0 then -1 else 0

/-- One advance of p, v and a toward T; the last component is PROFRUN. -/
def profileStep (c : LoopCfg) (p v a t h : F32) : F32 × F32 × F32 × Bool :=
  let d := F32.sub t p
  if isZ d && isZ v && isZ a then (p, v, a, false)
  else
    let sg := if isZ d then sgnF v else sgnF d
    let tj := F32.div c.amax c.jmax
    let dl := F32.max 0 (F32.sub (F32.abs d) (F32.mul (F32.abs v) tj))
    let vm := F32.min c.vmax (F32.sqrt (F32.mul (F32.mul F32.two c.amax) dl))
    let vd := F32.mul (F32.ofInt sg) vm
    let ad := clampF (F32.div (F32.sub vd v) tj) (F32.neg c.amax) c.amax
    let jh := F32.mul c.jmax h
    let a2 := F32.add a (clampF (F32.sub ad a) (F32.neg jh) jh)
    let v2 := clampF (F32.add v (F32.div (F32.mul (F32.add a a2) h) F32.two)) (F32.neg c.vmax) c.vmax
    let p2 := F32.add p (F32.div (F32.mul (F32.add v v2) h) F32.two)
    let rest := F32.sub t p2
    let near := F32.le (F32.abs rest) (F32.div (F32.mul (F32.mul c.amax h) h) F32.two) &&
      F32.le (F32.abs v2) (F32.mul c.amax h)
    if sgnF rest = -sg ∨ near = true then (t, 0, 0, true) else (p2, v2, a2, true)

/-! ### Regions (R289) -/

def regionUp (wp : List F32) (x hys : F32) : Nat → Nat → Nat
  | 0, r => r
  | n + 1, r => match wp[r]? with
    | some w => if F32.lt (F32.add w hys) x then regionUp wp x hys n (r + 1) else r
    | none => r

def regionDown (wp : List F32) (x hys : F32) : Nat → Nat
  | 0 => 0
  | r + 1 => match wp[r]? with
    | some w => if F32.lt x (F32.sub w hys) then regionDown wp x hys r else r + 1
    | none => r + 1

def regionMove (wp : List F32) (x hys : F32) (r : Nat) : Nat := regionDown wp x hys (regionUp wp x hys 4 r)

/-- The lowest region whose waypost is not below `x`, or the last (R289); no waypost is reached by a NaN. -/
def regionFirst (wp : List F32) (x : F32) : Nat := (wp.takeWhile fun w => !F32.le x w).length

/-! ### Registers (LOOP_STAT, LOOP_CNT) -/

def loopCfg (i : Image) (n : Nat) : Option LoopCfg := findKey (·.ctx) n i.loops.ctxs

def State.ctx (n : Nat) (s : State) : Option CtxSt := findKey (·.n) n s.loop.ctxs

def State.modCtx (n : Nat) (f : CtxSt → CtxSt) (s : State) : State :=
  { s with loop := { s.loop with ctxs := modifyKey (·.n) n f s.loop.ctxs } }

/-- Bits [20:0] of LOOP_STAT, which STAT_BIND carries (R307). -/
def CtxSt.statLow (x : CtxSt) : Nat :=
  x.mode + 4 * b2n (decide (x.mode = 1 ∨ x.mode = 2)) + 8 * x.aset + 16 * x.region + 64 * b2n x.handover +
  128 * b2n x.profRun + 256 * b2n x.miss + 512 * b2n x.missHeld + 1024 * b2n x.satHi + 2048 * b2n x.satLo +
  4096 * b2n x.rateLim + 8192 * b2n x.pvHold + 16384 * x.supv + 65536 * x.supCause + 131072 * b2n x.shed +
  262144 * b2n x.manLatch + 524288 * b2n x.schedBad + 1048576 * b2n x.swapPend

def rdLoopStat (s : State) (n : Nat) : Nat :=
  match s.ctx n with
  | some x => x.statLow + 2097152 * b2n x.missL + 4194304 * b2n x.cref + 8388608 * b2n x.swapRef +
      16777216 * b2n x.trigSkipL + 268435456 * s.loop.cause + 2147483648 * b2n s.loop.fault
  | none => 0

def rdLoopCnt (s : State) (n : Nat) : Nat :=
  match s.ctx n with
  | some x => x.missTotal + 65536 * x.missCons + 16777216 * x.trigSkip
  | none => 0

/-! ### Triggers (R273, R274, R276) -/

/-- The deadline of a latched sample (R279). -/
def loopDeadline (c : LoopCfg) (l : LoopLatch) : Nat := l.trig + c.deadline

/-- A sample is missed (R281). -/
def State.loopMiss (n : Nat) (s : State) : State :=
  match s.ctx n, loopCfg s.img n with
  | some x, some c =>
    let cons := satInc 255 x.missCons
    let reach := decide (x.missCons + 1 = c.missLimit)
    let s1 := (s.latchSet (0x3004 + 0x40 * n) 2097152).modCtx n fun y =>
      { y with latch := none, miss := true, missL := true, missTotal := satInc 65535 y.missTotal, missCons := cons
               missHeld := y.missHeld || reach }
    if reach then
      match c.outBind with
      | some r => (s1.writeSlot r.slot (s1.ownSlot r.slot).1 (mkQ 1 false true false)).record 0x0701 n 0 (leBytes 1 n ++ leBytes 1 cons)
      | none => s1
    else s1
  | _, _ => s

/-- The context latches its inputs (R276). -/
def State.loopLatch (n : Nat) (c : LoopCfg) (x : CtxSt) (s : State) : LoopLatch :=
  let rd (r : Option SlotRef) : Option Cell := r.map s.readReal
  { trig := s.clock, pv := (rd c.pvRef).getD (0, 0), sp := rd c.spRef, csp := rd c.cspRef, ff := rd c.ffRef
    trk := rd c.trkRef, man := rd c.manRef, mode := rd c.modeRef, sched := rd c.schedRef, modeReq := x.modeReq
    swap := x.swapPend, manReg := x.man, banks := x.banks }

/-- Contexts sample (R275, R308). -/
def State.loopRuns (s : State) : Bool := decide (s.mode = .active) && !s.loop.fault

/-- SWAP of LOOP_CTL clears when the request is latched, and the register's parity follows. -/
def State.swapLatched (n : Nat) (s : State) : State :=
  match s.ctx n with
  | some x =>
    if x.swapReq then (s.modCtx n fun y => { y with swapReq := false }).parityFresh (0x3000 + 0x40 * n) else s
  | none => s

def State.loopSample (n : Nat) (c : LoopCfg) (s : State) : State :=
  let s1 := match s.ctx n with | some x => if x.latch.isSome then s.loopMiss n else s | none => s
  match s1.ctx n with
  | some x =>
    let l := s1.loopLatch n c x
    (s1.modCtx n fun y => { y with latch := some l, lastTrig := some s.clock }).swapLatched n
  | none => s1

/-- The end of a tick: a sample that was triggered in it holds what the tick's writes have left (R45, R276, R290). -/
def State.loopRelatch (s : State) : State :=
  s.loop.ctxs.foldl (fun s x =>
    match x.latch, loopCfg s.img x.n with
    | some l, some c =>
      if l.trig = s.clock then (s.modCtx x.n fun y => { y with latch := some (s.loopLatch x.n c y) }).swapLatched x.n else s
    | _, _ => s) s

/-- A LOOP_TRIG is delivered (R274). -/
def State.loopTrigger (n : Nat) (s : State) : State :=
  match s.ctx n, loopCfg s.img n with
  | some x, some c =>
    if !s.loopRuns || c.trig ≠ 1 then s
    else
      let early := match x.lastTrig with | some t => decide (s.clock < t + c.period) | none => false
      if early then (s.latchSet (0x3004 + 0x40 * n) 16777216).modCtx n fun y => { y with trigSkip := satInc 127 y.trigSkip, trigSkipL := true }
      else s.loopSample n c
  | _, _ => s

/-- The tick is one of the context's instants (R273). -/
def State.loopInstant (c : LoopCfg) (s : State) : Bool :=
  let d := (s.clock : Int) - s.origin - (c.offset : Int)
  decide (0 ≤ d ∧ d % (c.period : Int) = 0)

def State.loopTime (n : Nat) (s : State) : State :=
  match s.ctx n, loopCfg s.img n with
  | some x, some c =>
    if s.loopRuns && decide (c.trig = 0) && s.loopInstant c && decide (x.lastTrig ≠ some s.clock) then s.loopSample n c else s
  | _, _ => s

/-! ### Scheduling (R278, R279) -/

/-- The sample that the engine takes: earliest deadline, then the lower context, that can still commit in time. -/
def State.loopNext (s : State) : Option (Nat × LoopLatch) :=
  let cs := s.loop.ctxs.filterMap fun x => match x.latch, loopCfg s.img x.n with
    | some l, some c =>
      if l.trig + 1 ≤ s.clock ∧ s.clock + 66 ≤ loopDeadline c l then some (loopDeadline c l, x.n, l) else none
    | _, _ => none
  (cs.foldl (fun a p => match a with
    | some q => if p.1 < q.1 ∨ (p.1 = q.1 ∧ p.2.1 < q.2.1) then some p else some q
    | none => some p) none).map (·.2)

def State.loopBegin (s : State) : State :=
  if !s.loopRuns || s.loop.run.any (fun r => decide (s.clock < r.2.1 + 64)) then s
  else match s.loopNext with
    | some (n, l) =>
      let s1 := s.modCtx n fun y => { y with latch := none }
      { s1 with loop := { s1.loop with run := s1.loop.run ++ [(n, s.clock, l)] } }
    | none => s

/-- The latest possible start of a sample has passed (R279). -/
def State.loopMissed (n : Nat) (s : State) : State :=
  match s.ctx n, loopCfg s.img n with
  | some x, some c => match x.latch with
    | some l => if s.loopRuns && decide (loopDeadline c l < s.clock + 66) then s.loopMiss n else s
    | none => s
  | _, _ => s

/-! ### One sample (R289 to R303) -/

/-- The requested and the running mode with SHED (R294): 0 MAN, 1 AUTO, 2 CASCADE, 3 TRACK. -/
def loopMode (x : CtxSt) (l : LoopLatch) : Nat × Nat × Bool :=
  let mr := match l.mode with
    | none => l.modeReq
    | some m => if isBad m.2 || decide (3 < m.1.toNat % 256) then x.lastMr.getD l.modeReq else m.1.toNat % 256
  let csp := match l.csp with | some v => !isBad v.2 | none => false
  if mr = 0 ∨ mr = 3 then (mr, mr, false)
  else if x.manLatch then (mr, 0, false)
  else if mr = 2 ∧ csp = true then (mr, 2, false)
  else (mr, 1, decide (mr = 2))

/-- The latched value, or the last that was not BAD, with a flag for the latter; 0 where nothing is named (R295). -/
def held (v : Option Cell) (last : F32) : F32 × Bool :=
  match v with
  | some c => if isBad c.2 then (last, true) else (c.1, false)
  | none => (0, false)

/-- The supervisor of one sample: SUPV, τ, whether an alarm is raised (R302). -/
def supStep (supv tau lim delta : Nat) (exc : Bool) : Nat × Nat × Bool :=
  match supv with
  | 0 => if !exc then (0, tau, false) else if lim ≤ delta then (2, lim, true) else (1, delta, false)
  | 1 => if !exc then (0, 0, false) else if lim ≤ tau + delta then (2, lim, true) else (1, tau + delta, false)
  | _ => (supv, tau, false)

/-- What a sample gives before its supervision. -/
structure Sample where
  x : CtxSt
  q : Byte
  start : Bool
  hold : Bool
  closed : Bool
  nonfin : Bool
  spu : F32
  deriving DecidableEq, Repr

/-- The law, the output chain and their kept state in a sample that is not held: `run` the running mode, `b` the bank in
use with its number, `start` a hand-over that begins here, `enter` an entry to the running mode. -/
def loopLaw (c : LoopCfg) (x : CtxSt) (l : LoopLatch) (run : Nat) (bk : Nat) (start enter : Bool) (spT tgt ff h : F32) : CtxSt × F32 :=
  let b := bankOf x.banks bk
  let pv := l.pv.1
  let prof := c.profile && decide (run = 1)
  let pr := if prof then profileStep c x.pp x.pv x.pa tgt h else (tgt, 0, 0, false)
  let spu := if prof then pr.1 else spT
  let closed := decide (run = 1 ∨ run = 2)
  let e := F32.sub spu pv
  -- hand-over initialisation, and the bank change of R293
  let i0 := match x.lastCoef with
    | some (_, ob) =>
      if !start && decide (x.lastCoef ≠ some (bk, b)) then
        let o := pidPD ob spu pv x.d1 x.g1 h
        let n := pidPD b spu pv x.d1 x.g1 h
        F32.sub (F32.add x.i (F32.add o.1 o.2)) (F32.add n.1 n.2)
      else x.i
    | none => x.i
  let d1 := if start then 0 else x.d1
  let g1 := if start then pidG b spu pv else x.g1
  let pd := pidPD b spu pv d1 g1 h
  let i1 := if start then F32.sub (F32.sub x.y1 pd.1) ff else i0
  let u0 := F32.sub x.y1 ff
  let past : Past := if start then { e1 := e, e2 := e, e3 := e, u1 := u0, u2 := u0, u3 := u0 }
    else { e1 := x.e1, e2 := x.e2, e3 := x.e3, u1 := x.u1, u2 := x.u2, u3 := x.u3 }
  let v :=
    if closed then
      if c.law = 0 then F32.add (F32.add (F32.add pd.1 i1) pd.2) ff else polyV c.law b e past ff
    else if run = 3 then (match l.trk with | some t => t.1 | none => x.y1)
    else match l.man with
      | some m => m.1
      | none => if enter then x.y1 else l.manReg
  let ho := if start then !F32.eq v x.y1 else x.handover
  let ch := outChain c (rateOf c ho) v x.y1 h
  let x1 : CtxSt := { x with
    handover := ho && ch.rl, satHi := ch.hi, satLo := ch.lo, rateLim := ch.rl
    pp := pr.1, pv := pr.2.1, pa := pr.2.2.1, profRun := pr.2.2.2, y1 := ch.y }
  let x2 : CtxSt :=
    if !closed then x1
    else if c.law = 0 then { x1 with i := pidI b spu pv i1 ch.y v h, d1 := pd.2, g1 := pidG b spu pv }
    else { x1 with e3 := past.e2, e2 := past.e1, e1 := e, u3 := past.u2, u2 := past.u1, u1 := F32.sub ch.y ff }
  -- R287 looks at v and at every stored value
  let ok := F32.isFin v && [x2.y1, x2.i, x2.d1, x2.g1, x2.e1, x2.e2, x2.e3, x2.u1, x2.u2, x2.u3, x2.pp, x2.pv, x2.pa].all F32.isFin
  ({ x2 with nonfin := !ok }, spu)

/-- The swap of a sample (R290, R292); the second component tells that it was refused. -/
def loopSwap (c : LoopCfg) (x : CtxSt) (l : LoopLatch) : CtxSt × Bool :=
  if !l.swap then (x, false)
  else if setOk c.law c.regions (1 - x.aset) x.banks then ({ x with swapPend := false, aset := 1 - x.aset }, false)
  else ({ x with swapPend := false, swapRef := true }, true)

/-- The region of a sample (R289): the region, SCHEDBAD and whether it has been taken. -/
def loopRegion (c : LoopCfg) (x : CtxSt) (l : LoopLatch) : Nat × Bool × Bool :=
  if c.regions ≤ 1 then (0, false, x.regionSet)
  else
    let wp := wayposts x.banks x.aset c.regions
    match l.sched with
    | some v =>
      if isBad v.2 then (if x.regionSet then x.region else 0, true, true)
      else (if x.regionSet then regionMove wp v.1 c.hys x.region else regionFirst wp v.1, false, true)
    | none => (if x.regionSet then x.region else 0, true, true)

/-- A sample of context `x` (R287, R289, R293 to R300), before registers that only report. -/
def loopSampleOf (c : LoopCfg) (x0 : CtxSt) (l : LoopLatch) (h : F32) : Sample :=
  let x := { (loopSwap c { x0 with banks := l.banks } l).1 with banks := x0.banks }
  let xl := { x with banks := l.banks }
  let (mr, run, shed) := loopMode x l
  let closed := decide (run = 1 ∨ run = 2)
  let pvhold := closed && isBad l.pv.2
  let manBad := match l.man with | some m => isBad m.2 | none => false
  let trkBad := match l.trk with | some m => isBad m.2 | none => true
  let hold := pvhold || (decide (run = 0) && manBad) || (decide (run = 3) && trkBad)
  let sp := held l.sp x.lastSp
  let ff := held l.ff x.lastFf
  let enter := decide (x.lastMode ≠ some run)
  let rg := loopRegion c xl l
  let bk := 4 * x.aset + rg.1
  let changed := match x.lastCoef with | some p => decide (p ≠ (bk, bankOf l.banks bk)) | none => false
  let start := enter || x.restart || (x.pvHeld && !hold) || (decide (c.law ≠ 0) && changed && closed)
  let spT := if run = 2 then (match l.csp with | some v => v.1 | none => 0) else sp.1
  -- the profile's initialisation (R297)
  let pin := c.profile && decide (run = 1) && (enter || x.restart || (x.pvHeld && !hold))
  let xp : CtxSt := if pin then { xl with pp := if isBad l.pv.2 then sp.1 else l.pv.1, pv := 0, pa := 0 } else xl
  let lasts (y : CtxSt) : CtxSt :=
    if pvhold then y else
    { y with lastSp := match l.sp with | some v => if isBad v.2 then y.lastSp else v.1 | none => y.lastSp
             lastFf := match l.ff with | some v => if isBad v.2 then y.lastFf else v.1 | none => y.lastFf }
  let common (y : CtxSt) : CtxSt :=
    { lasts y with lastMr := some mr, lastMode := some run, mode := run, shed := shed, restart := false
                   pvHeld := hold, pvHold := pvhold, banks := x0.banks }
  let took (y : CtxSt) : CtxSt :=
    if pvhold then y
    else { y with region := rg.1, schedBad := rg.2.1, regionSet := rg.2.2, lastCoef := some (bk, bankOf l.banks bk) }
  -- an input whose last value that was not BAD is used counts as UNCERTAIN (R296, log 90)
  let st (v : Option Cell) : List Nat := match v with | some c => [qState c.2] | none => []
  let stl (v : Option Cell) : List Nat := match v with | some c => [max 1 (qState c.2)] | none => []
  if hold then
    let xh : CtxSt := if run = 1 ∧ c.profile = true then xp else { xl with pp := sp.1, pv := 0, pa := 0, profRun := false }
    { x := took (common xh)
      q := mkQ 1 false true false, start := start, hold := true, closed := closed, nonfin := x0.nonfin
      spu := if run = 1 ∧ c.profile = true then xh.pp else spT }
  else
    let r := loopLaw c xp l run bk start enter spT sp.1 ff.1 h
    if r.1.nonfin then
      { x := common { xl with nonfin := true, satHi := r.1.satHi, satLo := r.1.satLo, rateLim := r.1.rateLim }
        q := mkQ 1 false true false, start := start, hold := false, closed := closed, nonfin := true, spu := r.2 }
    else
      let stt :=
        if run = 0 then (match l.man with | some m => qState m.2 | none => 3)
        else if run = 3 then (match l.trk with | some m => qState m.2 | none => 0)
        else
          lowest (st (some l.pv) ++ (if run = 1 then stl l.sp else st l.csp) ++ stl l.ff ++ st l.sched)
      { x := took (common r.1), q := mkQ stt false false false, start := start, hold := false, closed := closed
        nonfin := false, spu := r.2 }

/-- The test of R301: its number and limit, and whether the sample exceeds. -/
def loopTest (c : LoopCfg) (x : CtxSt) (fe : F32) (pvGood tested : Bool) : Option (Nat × Nat) × Bool :=
  if tested && F32.lt 0 c.feLim && pvGood then (some (0, c.feTime), F32.lt c.feLim (F32.abs fe))
  else if tested && decide (0 < c.satTime) then (some (1, c.satTime), x.satHi || x.satLo)
  else (none, false)

/-- The value that a context's output slot holds. -/
def State.loopOut (c : LoopCfg) (s : State) : F32 :=
  match c.outBind with | some r => (s.ownSlot r.slot).1 | none => c.manv0

/-- A compared sample commits (R278, R281, R307). -/
def State.loopCommit (n : Nat) (l : LoopLatch) (s : State) : State :=
  match s.ctx n, loopCfg s.img n with
  | some x0, some c =>
    let delta : Nat := match x0.lastDone with | some t => l.trig - t | none => c.period
    let h := F32.ofRat ((delta : Rat) / 400000000)
    let sm := loopSampleOf c x0 l h
    -- R287: a non-finite sample holds what the slot holds, and that is the next y1
    let x := if sm.nonfin && !sm.hold then { sm.x with y1 := s.loopOut c } else sm.x
    let fe := if sm.closed then F32.sub sm.spu l.pv.1 else 0
    let tested := sm.closed && !sm.hold && !sm.start && !x0.handover
    let tst := loopTest c x fe (isGood l.pv.2) tested
    let tau0 := if tst.1.map (·.1) = x0.supTest then x0.supT else 0
    let sv := supStep x0.supv tau0 ((tst.1.map (·.2)).getD 0) delta tst.2
    let alarm := sv.2.2
    let enterMan := decide (x.mode = 0) && l.man.isNone && decide (x0.lastMode ≠ some 0)
    let x1 : CtxSt := { x with
      man := if enterMan then x0.y1 else x0.man
      modeReq := x0.modeReq
      lastDone := some l.trig, miss := false, missHeld := false, missCons := 0
      supTest := tst.1.map (·.1), supCause := match tst.1 with | some t => t.1 | none => x0.supCause
      supv := sv.1, supT := sv.2.1, exceeded := tst.2, manLatch := x.manLatch || (alarm && decide (c.supvAct = 1))
      out := x.y1, fe := fe, latch := x0.latch, lastTrig := x0.lastTrig }
    let s0 := s.modCtx n fun _ => x1
    let s1 : State := if enterMan then ({ s0 with bus := { s0.bus with fnSet := (0x3010 + 0x40 * n) :: s0.bus.fnSet } } : State).parityFresh (0x3010 + 0x40 * n)
      else s0
    let s2 := if l.swap && (loopSwap c { x0 with banks := l.banks } l).2 then
        (s1.latchSet (0x3004 + 0x40 * n) 8388608).record 0x0704 n 0 []
      else s1
    let s3 := if x.shed && !x0.shed then s2.record 0x0705 n 0 [] else if !x.shed && x0.shed then s2.record 0x0706 n 0 [] else s2
    let s4 := if sm.nonfin && !x0.nonfin then s3.record 0x0702 n 0 [] else s3
    let s5 := if alarm then s4.record 0x0707 n 0 (leBytes 1 x1.supCause) else s4
    let s6 := match c.outBind with | some r => s5.writeSlot r.slot x1.y1 sm.q | none => s5
    let s7 := match c.statBind with | some r => s6.writeSlot r.slot (BitVec.ofNat 32 x1.statLow) qGood | none => s6
    match c.pspBind with
    | some r => s7.writeSlot r.slot x1.pp (match l.sp with | some v => mkQ (qState v.2) false false false | none => qGood)
    | none => s7
  | _, _ => s

/-- A supervision alarm is acknowledged (R302). -/
def State.loopAck (n : Nat) (s : State) : State :=
  match s.ctx n with
  | some x =>
    if x.supv ≠ 2 then s
    else
      let s1 := if x.exceeded then s
        else s.modCtx n fun y => { y with supv := 0, supT := 0, manLatch := false }
      s1.record 0x0708 n 0 []
  | none => s

/-- A write to LOOP_COEF_A that the guards admit (R291, R310). -/
def State.loopCoef (n : Nat) (v : W32) (s : State) : State :=
  match s.ctx n with
  | some x =>
    let refuse := decide (x.bank / 4 = x.aset) && decide (x.mode = 1 ∨ x.mode = 2)
    let s0 := s.modCtx n fun y =>
      { y with banks := if refuse then y.banks else y.banks.set (8 * y.bank + y.word) v, cref := y.cref || refuse
               word := (y.word + 1) % 8 }
    let s1 : State := { s0 with bus := { s0.bus with fnSet := (0x3008 + 0x40 * n) :: s0.bus.fnSet } }
    if refuse then (s1.latchSet (0x3004 + 0x40 * n) 4194304).record 0x0703 n 0 (leBytes 1 n ++ leBytes 1 x.bank ++ leBytes 1 x.word)
    else s1.parityFresh (0x10000 + 64 * n + 8 * x.bank + x.word)
  | none => s

/-! ### Commit, fault, rungs, takeover, online change (R275, R306, R308, R309, R498) -/

/-- A context fresh from its record. -/
def freshCtx (c : LoopCfg) (y1 : F32) : CtxSt :=
  { n := c.ctx, banks := c.banks, modeReq := c.initMode, man := c.manv0, y1 := y1 }

def State.confLoop (s : State) : State :=
  { s with loop := { ctxs := s.img.loops.ctxs.map fun c => freshCtx c c.manv0 } }

/-- Latched samples are discarded. -/
def State.loopDrop (s : State) : State :=
  { s with loop := { s.loop with run := [], ctxs := s.loop.ctxs.map fun x => { x with latch := none } } }

def State.leaveLoop (s : State) : State := s.loopDrop

def State.stopLoop (s : State) : State :=
  ({ s.loopDrop with loop := { s.loopDrop.loop with fault := true } } : State).r38 7 none []

def State.retryLoop (s : State) : State :=
  { s with loop := { s.loop with fault := false, ctxs := s.loop.ctxs.map fun x => { x with restart := true } } }

/-- Contexts restart from the image, their y1 from their output slots (R308). -/
def State.reinitLoop (s : State) : State :=
  { s with loop := { ctxs := s.img.loops.ctxs.map fun c => { freshCtx c (s.loopOut c) with restart := true } } }

def State.loopShadows (s : State) : List LoopShadow :=
  s.loop.ctxs.map fun x => { ctx := x.n, modeReq := x.modeReq, man := x.man, activeSet := x.aset, banks := x.banks }

/-- The contexts take the fields of the REG shadow (R491). -/
def State.applyLoop (l : List LoopShadow) (s : State) : State :=
  let g (x : CtxSt) : CtxSt :=
    match findKey (·.ctx) x.n l with
    | some h => { x with modeReq := h.modeReq, man := h.man, aset := h.activeSet % 2, banks := h.banks }
    | none => x
  { s with loop := { s.loop with ctxs := s.loop.ctxs.map g } }

/-- The module becomes ACTIVE (R498): each context restarts as on REINIT; with no mirror to hold its output's value it
starts fresh as at commit (R306, log 47). -/
def State.enterLoop (s : State) : State :=
  let s1 := s.reinitLoop
  if s.pair.kept then s1.applyLoop s.pair.shLoop
  else { s1 with loop := { s1.loop with ctxs := s.img.loops.ctxs.map fun c => { freshCtx c c.manv0 with restart := true } } }

/-- Records that differ only in the fields that R309 lets a context keep its state over. -/
def loopSame (a b : LoopCfg) : Bool :=
  let z (c : LoopCfg) : LoopCfg :=
    { c with banks := [], regions := 0, hys := 0, olo := 0, ohi := 0, orate := 0, hrate := 0, vmax := 0, amax := 0, jmax := 0
             feLim := 0, feTime := 0, satTime := 0, supvAct := 0, missLimit := 0, manv0 := 0 }
  decide (z a = z b)

/-- The switch of an online change (R309). -/
def State.switchLoop (old : Image) (s : State) : State :=
  let g (c : LoopCfg) : CtxSt :=
    match s.ctx c.ctx, loopCfg old c.ctx with
    | some x, some o =>
      if o = c then x
      else if loopSame o c then
        { x with banks := c.banks, swapReq := false, swapPend := false
                 latch := x.latch.map fun l => { l with swap := false, banks := c.banks } }
      else { freshCtx c (if o.outBind = c.outBind then s.loopOut c else c.manv0) with restart := true }
    | _, _ => { freshCtx c c.manv0 with restart := true }
  let keep (n : Nat) : Bool := match loopCfg old n, loopCfg s.img n with
    | some o, some c => decide (o = c) || loopSame o c
    | _, _ => false
  let same (n : Nat) : Bool := decide (loopCfg old n = loopCfg s.img n)
  { s with loop := { s.loop with
      ctxs := s.img.loops.ctxs.map g
      run := (s.loop.run.filter fun r => keep r.1).map fun r =>
        if same r.1 then r else (r.1, r.2.1, { r.2.2 with swap := false }) } }

end Sys2Proof.Machine
end

