-- ==== Sys2Proof/Machine/FldOps.lean ====
section
/-! DEFINITION. Analog inputs, HART, analog outputs and digital channels (chapter 11): classification, scaling, the
levels that outputs drive, and what faults, rungs and commits do to them. -/

namespace Sys2Proof.Machine

/-! ### Channels and their records -/

def aiCfg (i : Image) (n : Nat) : Option AiCfg := findKey (·.ch) n i.fld.ai
def aoCfg (i : Image) (n : Nat) : Option AoCfg := findKey (·.ch) n i.fld.ao
def dioCfg (i : Image) (n : Nat) : Option DioCfg := findKey (·.ch) n i.fld.dio

def State.ai (n : Nat) (s : State) : Option AiSt := findKey (·.n) n s.fld.ai
def State.ao (n : Nat) (s : State) : AoSt := s.fld.ao.getD n { n := n }
def State.dio (n : Nat) (s : State) : DioSt := s.fld.dio.getD n { n := n }

def State.modAi (n : Nat) (f : AiSt → AiSt) (s : State) : State :=
  { s with fld := { s.fld with ai := modifyKey (·.n) n f s.fld.ai } }
def State.modAo (n : Nat) (f : AoSt → AoSt) (s : State) : State :=
  { s with fld := { s.fld with ao := modifyKey (·.n) n f s.fld.ao } }
def State.modDio (n : Nat) (f : DioSt → DioSt) (s : State) : State :=
  { s with fld := { s.fld with dio := modifyKey (·.n) n f s.fld.dio } }

/-- AI, AO and DIO work in every module state but UNCONFIGURED, and FAULT, where they have stopped (R360, R391). -/
def State.fieldRuns (s : State) : Bool := decide (s.mode ≠ .unconfigured ∧ s.mode ≠ .fault ∧ s.power.phase = .operating)

/-- The unit's number is in the event's reach: a unit-level event touches one unit (R391). -/
def inUnit (u : Option Nat) (n : Nat) : Bool := u.isNone || u == some n

/-! ### Analog inputs (R359 to R364) -/

/-- Bands of the current modes in nA (R362). -/
def condCurrent (x : Int) : Nat :=
  if x < 500000 then 5 else if x ≤ 3600000 then 3 else if x < 3800000 then 1 else if x ≤ 20500000 then 0
  else if x < 21000000 then 2 else if x < 24000000 then 4 else 6

/-- Bands of VOLTAGE mode in µV (R362). -/
def condVoltage (x : Int) : Nat :=
  if x < -200000 then 3 else if x < 0 then 1 else if x ≤ 10000000 then 0 else if x ≤ 10500000 then 2 else 4

/-- COND of a result (R362, R367). -/
def aiCond (c : AiCfg) (fsOk : Bool) (x : Int) : Nat :=
  if c.mode = 1 ∧ fsOk = false then 7
  else
    let k := if c.mode = 2 then condVoltage x else condCurrent x
    if c.hart = 2 ∧ k ≠ 5 ∧ k ≠ 6 then 0 else k

/-- STATE of a COND (R362). -/
def condState (k : Nat) : Nat := match k with | 0 => 3 | 1 => 1 | 2 => 1 | _ => 0

/-- x in mA or V (R364). -/
def aiReal (c : AiCfg) (x : Int) : F32 := F32.ofRat ((x : Rat) / 1000000)

/-- The filter in binary32 (R364). -/
def aiFilter (filt : Nat) (y x : F32) : F32 :=
  if filt = 0 then x else F32.add y (F32.div (F32.sub x y) (F32.ofInt ((2 ^ filt : Nat) : Int)))

/-- The value slot (R364). -/
def aiValue (c : AiCfg) (y : F32) : F32 :=
  let lo : F32 := if c.mode = 2 then 0 else F32.ofInt 4
  let hi : F32 := if c.mode = 2 then F32.ofInt 10 else F32.ofInt 20
  F32.add c.engLo (F32.div (F32.mul (F32.sub y lo) (F32.sub c.engHi c.engLo)) (F32.sub hi lo))

def AiSt.faulted (s : State) (x : AiSt) : Bool := x.cfault || s.fld.aiFault

/-- The AI status word (R390). -/
def aiWord (s : State) (c : AiCfg) (x : AiSt) : Nat :=
  x.cond + 16 * b2n (x.faulted s) + (if c.hart = 0 then 0 else 256 * x.hstat.toNat)

def State.aiStatus (n : Nat) (s : State) : State :=
  match aiCfg s.img n, s.ai n with
  | some c, some x => s.writeOpt c.statBind (aiWord s c x) qGood
  | _, _ => s

/-- One result is committed: value and status in one event (R360 to R364). -/
def State.aiResult (c : AiCfg) (fsOk : Bool) (x : Int) (s : State) : State :=
  match s.ai c.ch with
  | none => s
  | some a =>
    if a.faulted s then s
    else
      let k := aiCond c fsOk x
      let xr := aiReal c x
      let fresh := a.restart || (decide (condState a.cond = 0) && decide (condState k ≠ 0))
      let y := if fresh then xr else aiFilter c.filt a.y xr
      let s1 := (s.latchSet (0x8104 + 0x10 * c.ch) (65536 * b2n (k != 0))).modAi c.ch fun a =>
        { a with cond := k, y := y, restart := false, raw := x, condL := a.condL || decide (k ≠ 0) }
      (s1.writeOpt c.valBind (aiValue c y).toNat (mkQ (condState k) false false false)).aiStatus c.ch

/-- A scan commits every TRIG 0 channel (R360). -/
def State.aiScan (fsOk : Bool) (xs : List (Nat × Int)) (s : State) : State :=
  if !s.fieldRuns || decide (s.tick % 400000 ≠ s.img.fld.scanPhase) then s
  else
    let s1 : State := { s with fld := { s.fld with fsAi := fsOk } }
    (s1.img.fld.ai.filter fun c => decide (c.trig = 0)).foldl (fun s c => s.aiResult c fsOk (lookupD 0 c.ch xs)) s1

/-- An AI_SAMPLE delivery: a trigger under 20,000 ticks after the last accepted one is ignored (R361). -/
def State.aiTrigger (n : Nat) (s : State) : State :=
  match aiCfg s.img n, s.ai n with
  | some c, some a =>
    if c.trig ≠ 1 ∨ a.faulted s = true then s
    else if (match a.lastTrig with | some t => decide (s.clock < t + 20000) | none => false) then
      (s.latchSet (0x8104 + 0x10 * n) 262144).modAi n fun a => { a with trigSkip := satInc 0x7FFF a.trigSkip, trigSkipL := true }
    else s.modAi n fun a => { a with lastTrig := some s.clock, conv := some s.clock }
  | _, _ => s

/-- A milestone conversion commits 3,200 ticks after its trigger (R361). -/
def State.aiCommit (n : Nat) (fsOk : Bool) (x : Int) (s : State) : State :=
  match aiCfg s.img n, s.ai n with
  | some c, some a =>
    match a.conv with
    | some t =>
      if s.isActive && decide (t + 3200 ≤ s.clock) then
        let s1 : State := { s with fld := { s.fld with fsAi := fsOk } }
        (s1.modAi n fun a => { a with conv := none }).aiResult c fsOk x
      else s
    | none => s
  | _, _ => s

/-! ### HART (R365 to R368) -/

def hartOn (m : Modem) (e : HartEntry) : Bool :=
  match m with
  | .ai k => !e.ao && decide (e.ch % 8 = k)
  | .ao n => e.ao && decide (e.ch = n)

def modemAo (m : Modem) : Bool := match m with | .ai _ => false | .ao _ => true

/-- The modem of a channel. -/
def modemOf (ao : Bool) (ch : Nat) : Modem := if ao then .ao ch else .ai (ch % 8)

/-- The unit works: no channel or function fault stands. -/
def State.unitWorks (ao : Bool) (n : Nat) (s : State) : Bool :=
  if ao then !(s.ao n).cfault && !s.fld.aoFault
  else match s.ai n with | some a => !a.faulted s | none => false

/-- The addresses that a modem polls, in round robin: (channel, address). -/
def State.hartAddrs (m : Modem) (s : State) : List (Nat × Nat) :=
  distinct ((s.img.fld.hart.filter fun e => hartOn m e && s.unitWorks (modemAo m) e.ch).map fun e => (e.ch, e.addr))

def State.modModem (m : Modem) (f : ModemSt → ModemSt) (s : State) : State :=
  { s with fld := { s.fld with modems := s.fld.modems.map fun x => if x.modem = m then f x else x } }

def State.modem (m : Modem) (s : State) : Option ModemSt := s.fld.modems.find? fun x => decide (x.modem = m)

/-- A free modem starts its queued pass-through, or else its next poll: command 0 until the address has answered it,
then command 3 (R365, R368). -/
def State.hartStart (m : Modem) (s : State) : State :=
  match s.modem m with
  | none => s
  | some x =>
    if !s.fieldRuns || x.run.isSome then s
    else match x.queued with
      | some q => s.modModem m fun x => { x with run := some (q.addr, q.cmd, 1, s.clock), ch := q.ch, passRun := some q, queued := none }
      | none =>
        let l := s.hartAddrs m
        match l[x.rr % max l.length 1]? with
        | none => s
        | some (ch, a) =>
          s.modModem m fun x =>
            { x with run := some (a, if (ch, a) ∈ x.known then 3 else 0, 1, s.clock), ch := ch, passRun := none }

def State.hartMark (ao : Bool) (ch : Nat) (ok : Bool) (st : Option Byte) (s : State) : State :=
  if ao then s.modAo ch fun a => { a with hartOk := ok, hstat := st.getD a.hstat }
  else s.modAi ch fun a => { a with hartOk := ok, hstat := st.getD a.hstat }

/-- A communication error or no response: counted; two retries at most (R365, R366). -/
def State.hartFail (m : Modem) (comm : Byte) (s : State) : State :=
  match s.modem m with
  | none => s
  | some x =>
    match x.run with
    | none => s
    | some (a, cmd, k, _) =>
      let s1 := if modemAo m then s.modAo x.ch fun y => { y with hartErr := satInc 65535 y.hartErr }
        else (s.latchSet (0x8104 + 0x10 * x.ch) 131072).modAi x.ch fun y => { y with hartErr := satInc 65535 y.hartErr, hartErrL := true }
      let s2 := s1.modModem m fun y => { y with known := y.known.filter fun p => decide (p ≠ (x.ch, a)) }
      if k < 3 then s2.modModem m fun y => { y with run := some (a, cmd, k + 1, s.clock) }
      else
        let s3 := (s2.modModem m fun y => { y with run := none, passRun := none, rr := if x.passRun.isSome then y.rr else y.rr + 1 })
          |>.hartMark (modemAo m) x.ch false none
        match x.passRun with
        | some q => s3.answer q.sid q.req 0 [comm]
        | none => s3

/-- STATE of a variable (R366). -/
def hartState (dev : Byte) (v : F32) : Nat :=
  if dev.getLsbD 7 || !F32.isFin v then 0 else if dev.toNat % 16 ≠ 0 then 1 else 3

/-- A response writes its address's entry slots (R366); a variable that it does not carry counts as not finite. -/
def State.hartWrite (m : Modem) (ch a : Nat) (dev : Byte) (vars : List F32) (s : State) : State :=
  ((s.img.fld.hart.zip (List.range s.img.fld.hart.length)).filter fun p =>
      hartOn m p.1 && decide (p.1.ch = ch ∧ p.1.addr = a)).foldl (fun s p =>
    let v := vars.getD p.1.var 0x7FC00000#32
    let st := hartState dev v
    let s1 := s.writeRef p.1.ref v.toNat (mkQ st false false false)
    if st = 0 then s1
    else { s1 with fld := { s1.fld with hlast := modifyAt s1.fld.hlast p.2 fun _ => (some s.clock, false) } }) s

def State.hartResponse (m : Modem) (commErr : Bool) (dev : Byte) (vars : List F32) (bytes : List Byte) (s : State) : State :=
  match s.modem m with
  | none => s
  | some x =>
    match x.run with
    | none => s
    | some (a, cmd, _, _) =>
      if !s.fieldRuns then s
      else if commErr then s.hartFail m dev
      else
        let s1 := (s.modModem m fun y => { y with run := none, passRun := none }).hartMark (modemAo m) x.ch true (some dev)
        match x.passRun with
        | some q => s1.answer q.sid q.req 0 bytes
        | none =>
          if cmd = 0 then s1.modModem m fun y => { y with known := (x.ch, a) :: y.known }
          else (s1.modModem m fun y => { y with rr := y.rr + 1 }).hartWrite m x.ch a dev vars

/-- An attempt ends after 500 ms with no response (R365). -/
def State.hartTimeout (m : Modem) (s : State) : State :=
  match s.modem m with
  | none => s
  | some x =>
    match x.run with
    | some (_, _, _, t) =>
      if s.fieldRuns && decide (t + msTicks 500 ≤ s.clock) then
        let (v, s1) := s.freeW32
        s1.hartFail m (v.setWidth 8)
      else s
    | none => s

/-- HSTALE of an entry's channel, in ms. -/
def hstaleOf (i : Image) (e : HartEntry) : Nat :=
  if e.ao then (aoCfg i e.ch).elim 0 (·.hstale) else (aiCfg i e.ch).elim 0 (·.hstale)

/-- HSTALE expires with no good write (R366). -/
def State.hartStale (k : Nat) (s : State) : State :=
  match s.img.fld.hart[k]?, s.fld.hlast[k]? with
  | some e, some (some t, false) =>
    if s.fieldRuns && s.unitWorks e.ao e.ch && decide (t + msTicks (hstaleOf s.img e) ≤ s.clock) then
      let s1 := s.writeRef e.ref (s.ownSlot e.ref.slot).1.toNat (mkQ 1 false false true)
      { s1 with fld := { s1.fld with hlast := modifyAt s1.fld.hlast k fun p => (p.1, true) } }
    else s
  | _, _ => s

/-- The transactions of the unit's channels end, and their entries wait for the next response (R391). -/
def State.hartStop (ao : Bool) (u : Option Nat) (s : State) : State :=
  let ends (x : ModemSt) : Bool := decide (modemAo x.modem = ao) && x.run.isSome && inUnit u x.ch
  let lost := (s.fld.modems.filter ends).filterMap (·.passRun)
  let s1 : State := { s with fld := { s.fld with
    modems := s.fld.modems.map fun x => if ends x then { x with run := none, passRun := none } else x
    hlast := (s.img.fld.hart.zip s.fld.hlast).map fun p =>
      if p.1.ao = ao ∧ inUnit u p.1.ch = true then (none, false) else p.2 } }
  lost.foldl (fun s q => let (v, s1) := s.freeW32; s1.answer q.sid q.req 0 [v.setWidth 8]) s1

/-! ### Analog outputs (R369 to R377) -/

def mA (uA : Nat) : F32 := F32.ofRat ((uA : Rat) / 1000)

/-- I of R370 before its limit. -/
def aoCurrent (c : AoCfg) (v : F32) : F32 :=
  F32.add (F32.ofInt 4) (F32.div (F32.mul (F32.ofInt 16) (F32.sub v c.engLo)) (F32.sub c.engHi c.engLo))

/-- The limit of R370, with SATURATED. A current that is no number leaves a level that the spec does not state (log 5). -/
def aoLimit (free : F32) (i : F32) : F32 × Bool :=
  if b32.isNan i.toNat then (free, false)
  else if F32.lt i (mA 3800) then (mA 3800, true)
  else if F32.lt (mA 20500) i then (mA 20500, true) else (i, false)

def lossLevel (high : Bool) : F32 := mA (if high then 21500 else 3500)

/-- Row 2 of R371: the module state drives OFF. -/
def aoOffMode (m : ModState) : Bool := decide (m = .unconfigured ∨ m = .standby ∨ m = .isolated ∨ m = .referee)

/-- The source is BAD or not finite (R371 row 5). -/
def State.aoBadSrc (c : AoCfg) (s : State) : Bool := let v := s.readReal c.src; isBad v.2 || !F32.isFin v.1

/-- The level that the module commands (R371 rows 2, 3, 5 and 6), with SATURATED. -/
def State.aoLevel (c : AoCfg) (s : State) : Option F32 × Bool :=
  if aoOffMode s.mode then (none, false)
  else if s.mode = .safe then (some (mA c.safeval), false)
  else if s.aoBadSrc c then
    match c.badact with
    | 0 => ((s.ao c.ch).drv, false)
    | 1 => (some (mA 3500), false)
    | 2 => (some (mA 21500), false)
    | _ => (some (mA c.safeval), false)
  else
    let r := aoLimit (Config.openLevel c.ch s.clock) (aoCurrent c (s.readReal c.src).1)
    (some r.1, r.2)

/-- COND under R373; row 1 of R371 stands before OFF. -/
def State.aoCond (c : AoCfg) (s : State) : Nat :=
  let x := s.ao c.ch
  if aoOffMode s.mode ∧ x.cfault = false then 7
  else if (x.hold && !x.loss) || (x.noFrame && !x.sink) then 5
  else if x.noFrame then 4
  else if x.dev then 6
  else if x.openL then 3
  else if x.compl then 2
  else if x.loss then 10
  else if s.mode = .safe then 8
  else if s.aoBadSrc c then 9
  else if x.testing then 1 else 0

def State.aoSat (c : AoCfg) (s : State) : Bool := decide (s.aoCond c ≠ 7) && (s.aoLevel c).2

/-- The AO status word (R390). -/
def State.aoWord (c : AoCfg) (s : State) : Nat :=
  let x := s.ao c.ch
  s.aoCond c + 16 * b2n (x.cfault || s.fld.aoFault) + 32 * x.clk + 256 * b2n (s.aoSat c) + 65536 * (x.meas % 65536)

/-- A valid frame reaches the channel processor (R371, R372). While the unit's fault stands the channel drives LOSSLEVEL;
a function fault, start-up and a module that has stopped send no frame. -/
def State.aoFrame (n : Nat) (s : State) : State :=
  if s.power.phase ≠ .operating ∨ s.mode = .fault ∨ s.fld.aoFault = true ∨ 16 ≤ n then s
  else
    let x := s.ao n
    let lv := match aoCfg s.img n with | some c => (s.aoLevel c).1 | none => none
    let lv := if x.cfault then some (lossLevel x.lossHigh) else lv
    if x.sink ∧ x.powered = false then s
    else s.modAo n fun x =>
      { x with lastFrame := some s.clock, hold := false, loss := false, cmd := lv, drv := lv
               clk := if x.sink && !x.testing then (if lv.isSome then 3 else 0) else x.clk }

/-- 100 µs pass with no valid frame: a channel that was driving holds (R28, R372). -/
def State.aoFrameTimeout (n : Nat) (s : State) : State :=
  s.modAo n fun x =>
    match x.lastFrame with
    | some t => if t + usTicks 100 ≤ s.clock ∧ x.drv.isSome = true ∧ x.cfault = false then { x with hold := true } else x
    | none => x

/-- HOLDMS passes since the last valid frame (R372). -/
def State.aoHoldExpire (n : Nat) (s : State) : State :=
  s.modAo n fun x =>
    match x.lastFrame with
    | some t => if x.hold ∧ t + msTicks x.holdMs ≤ s.clock then { x with loss := true, drv := some (lossLevel x.lossHigh) } else x
    | none => x

/-- A channel is newly powered by its loop; a sink channel starts from nothing (R372, R376). -/
def State.aoPower (n : Nat) (s : State) : State :=
  s.modAo n fun x =>
    if x.sink then
      { x with powered := true, testing := true, clk := 0, stepAt := s.clock, lastFrame := none, cmd := none, drv := none, hold := false
               loss := false, noFrame := false, openL := false, compl := false }
    else { x with powered := true }

/-- The readback value: R370 without its limit, backwards (R373). -/
def aoReadback (c : AoCfg) (uA : Nat) : F32 :=
  F32.add c.engLo (F32.div (F32.mul (F32.sub (mA uA) (F32.ofInt 4)) (F32.sub c.engHi c.engLo)) (F32.ofInt 16))

def aoRbState (k : Nat) : Nat := match k with | 5 => 0 | 4 => 0 | 6 => 0 | 3 => 0 | 7 => 1 | 2 => 1 | _ => 3

/-- The 1 ms measurement (R373, R375): taken under a fault too, which stops the slots alone (R391). -/
def State.aoMeasure (n : Nat) (fsOk : Bool) (uA v10mV : Nat) (s : State) : State :=
  match aoCfg s.img n with
  | none => s
  | some c =>
    if s.power.phase ≠ .operating ∨ s.mode = .unconfigured then s
    else
      let s1 : State := { s with fld := { s.fld with fsAo := fsOk } }
      let s2 := s1.modAo n fun x =>
        let cmd35 := match x.cmd with | some i => F32.le (mA 3500) i | none => false
        { x with meas := uA % 65536, vterm := v10mV % 65536, openL := !x.sink && cmd35 && decide (uA < 500) }
      if !s2.fieldRuns || (s2.ao n).cfault || s2.fld.aoFault then s2
      else
      let s3 := s2.writeOpt c.rbBind (aoReadback c uA).toNat (mkQ (aoRbState (s2.aoCond c)) false false false)
      s3.writeOpt c.statBind (s3.aoWord c) qGood

def State.aoStatus (n : Nat) (s : State) : State :=
  match aoCfg s.img n with
  | some c => s.writeOpt c.statBind (s.aoWord c) qGood
  | none => s

/-- A level in µA as an integer; how a fraction rounds the spec does not state (log 7). -/
def microAmps (i : F32) : Nat :=
  let q := F32.toRat i * 1000
  (roundUnits q.num q.den).toNat

/-- The stage has been at its limit with the current short for 2 ms (R374). -/
def State.aoCompliance (n uA v10mV : Nat) (s : State) : State :=
  match aoCfg s.img n with
  | none => s
  | some c =>
    let x := s.ao n
    if !s.fieldRuns || x.cfault || s.fld.aoFault || x.compl || aoOffMode s.mode then s
    else
      let s1 := (s.latchSet (0x8504 + 0x10 * n) 65536).modAo n fun x => { x with compl := true, complL := true }
      s1.record 0x0B02 n 0 (leBytes 4 (x.cmd.elim 0 microAmps) ++ leBytes 4 uA ++ leBytes 4 v10mV)

def State.aoComplianceClear (n : Nat) (s : State) : State :=
  if !s.fieldRuns then s else s.modAo n fun x => { x with compl := false }

/-- Loop current needed to enter a step, in µA; a step's own draw plus 0.3 mA (R376). -/
def stepEntry (k : Nat) : Nat := match k with | 0 => 0 | 1 => 2300 | 2 => 2800 | 3 => 3500 | _ => 5100

/-- The highest step that a loop current carries. -/
def stepFor (uA : Nat) : Nat := if 5100 ≤ uA then 4 else if 3500 ≤ uA then 3 else if 2800 ≤ uA then 2 else if 2300 ≤ uA then 1 else 0

/-- The clock of a sink channel during test work: down at once, or one step up after 1 ms at or above the next step's
entry current (R376). -/
def State.aoClockStep (n uA : Nat) (s : State) : State :=
  s.modAo n fun x =>
    if x.sink ∧ x.testing = true then
      if stepFor uA < x.clk then { x with clk := stepFor uA, stepAt := s.clock }
      else if 4 ≤ x.clk then x
      else if uA < stepEntry (x.clk + 1) then { x with stepAt := s.clock }
      else if x.stepAt + msTicks 1 ≤ s.clock then { x with clk := x.clk + 1, stepAt := s.clock } else x
    else x

/-- Test work starts; a sink channel starts at step 0, a source channel's clock is fixed (R369, R376). -/
def AoSt.startTest (now : Nat) (x : AoSt) : AoSt := { x with testing := true, stepAt := now, clk := if x.sink then 0 else 4 }

/-- A write of TEST (R377). -/
def State.aoTest (n : Nat) (s : State) : State :=
  if (aoCfg s.img n).isSome ∧ s.fieldRuns = true then s.modAo n fun x => if x.testing then x else x.startTest s.clock else s

/-- A channel restarts on a rung: restart frame and recovery test work (R391). -/
def State.aoRestart (n : Nat) (s : State) : State :=
  match aoCfg s.img n with
  | none => s
  | some c =>
    let s1 := s.modAo n fun x =>
      { x.startTest s.clock with
        cfault := false, dev := false, testBad := false, openL := false, compl := false
        noFrame := x.noFrame && x.sink }
    s1.aoFrame n

/-! ### Digital channels (R378 to R382) -/

/-- The channel's group supply lies outside 18 V to 32 V (R378). -/
def State.dioNoSupply (n : Nat) (s : State) : Bool := if n < 16 then !s.fld.fsDioA else !s.fld.fsDioB

/-- The unit is latched: a rung of its function leaves it alone (R519). -/
def State.unitLatched (f n : Nat) (s : State) : Bool :=
  s.diag.scopes.any fun x => decide (x.f = f ∧ x.unit = some n) && x.latched

/-- A rung on unit `u`, or on the whole function, restarts unit `n`. -/
def State.rungUnit (f : Nat) (u : Option Nat) (n : Nat) (s : State) : Bool :=
  match u with
  | some k => decide (k = n)
  | none => !s.unitLatched f n

def State.dioFaulted (n : Nat) (s : State) : Bool := (s.dio n).cfault || s.fld.dioFault

/-- COND of DIO_CH_STAT. -/
def State.dioCond (n : Nat) (s : State) : Nat :=
  let x := s.dio n
  if x.cfault then x.cond else if s.dioNoSupply n then 4 else 0

/-- The level that an output drives (R253, R380). -/
def State.dioLevel (c : DioCfg) (s : State) : Bool :=
  let x := s.dio c.ch
  if s.power.phase ≠ .operating ∨ s.dioFaulted c.ch = true ∨ s.dioNoSupply c.ch = true ∨ x.rungAt = some s.clock then false
  else match c.kind with
    | 1 =>
      if s.mode = .safe then c.safeOn
      else if s.mode = .active then
        match c.src with
        | some r =>
          let v := s.readBool r
          if isBad v.2 then (match c.badact with | 0 => x.drv | 1 => false | _ => true) else v.1 != c.inv
        | none => false
      else false
    | 2 => decide (s.mode = .active) && x.ms
    | _ => false

/-- Every output stage takes the level of R380 in the tick. -/
def State.dioLook (s : State) : State :=
  { s with fld := { s.fld with dio := s.fld.dio.map fun x =>
      { x with drv := match dioCfg s.img x.n with | some c => s.dioLevel c | none => false } } }

/-- An input's slot, or an output's readback slot, with the accepted pin level (R379, R382). -/
def State.dioWrite (c : DioCfg) (s : State) : State :=
  let x := s.dio c.ch
  let bad := s.dioNoSupply c.ch || s.dioFaulted c.ch
  let v := if c.kind = 0 then x.pin != c.inv else x.pin
  s.writeOpt c.bind (b2n v) (if bad then qBad else qGood)

/-- A pin level, first sampled `ago` ticks ago, has held for FILT and is accepted (R379). A fault stops an input's slot;
an output's readback goes on, BAD (R382). -/
def State.dioAccept (n : Nat) (level : Bool) (ago : Nat) (s : State) : State :=
  match dioCfg s.img n with
  | none => s
  | some c =>
    if !s.fieldRuns || decide (ago < usTicks c.filt) then s
    else
      let s1 := s.modDio n fun x => { x with pin := level, cap := s.clock - ago }
      if s.dioFaulted n && decide (c.kind = 0) then s1 else s1.dioWrite c

def inGroup (groupB : Bool) (n : Nat) : Bool := decide (16 ≤ n) == groupB

/-- A group supply leaves or re-enters its range (R378). -/
def State.dioSupply (groupB ok : Bool) (s : State) : State :=
  let s1 : State := if groupB then { s with fld := { s.fld with fsDioB := ok } } else { s with fld := { s.fld with fsDioA := ok } }
  if !s1.fieldRuns then s1
  else (s1.img.fld.dio.filter fun c => inGroup groupB c.ch && !s1.dioFaulted c.ch).foldl (fun s c =>
    if ok then s.dioWrite c else s.writeOpt c.bind (match c.bind with
      | some r => (r.read s.ownSlot).1.toNat
      | none => 0) qBad) s1

/-! ### Commit, faults, rungs, module states (R390, R391) -/

def fldAis (i : Image) (u : Option Nat) : List AiCfg := i.fld.ai.filter fun c => inUnit u c.ch
def fldAos (i : Image) (u : Option Nat) : List AoCfg := i.fld.ao.filter fun c => inUnit u c.ch
def fldDios (i : Image) (u : Option Nat) : List DioCfg := i.fld.dio.filter fun c => inUnit u c.ch

/-- The modems that the image gives work. -/
def modemsOf (i : Image) : List ModemSt :=
  (distinct ((i.fld.ai.filter fun c => decide (c.hart ≠ 0)).map (fun c => Modem.ai (c.ch % 8)) ++
    (i.fld.ao.filter fun c => decide (c.hart ≠ 0)).map (fun c => Modem.ao c.ch))).map fun m => { modem := m }

/-- An AO channel as a commit or a reset leaves it: the channel processor and what it drives go on (R371, R391). -/
def AoSt.keep (x : AoSt) : AoSt :=
  { n := x.n, clk := x.clk, stepAt := x.stepAt, sink := x.sink, holdMs := x.holdMs, lossHigh := x.lossHigh, drv := x.drv, cmd := x.cmd
    lastFrame := x.lastFrame, hold := x.hold, loss := x.loss, noFrame := x.noFrame && x.sink, testing := x.testing
    powered := x.powered }

/-- What survives every reset: the AO channels' own operation (R391). -/
def Field.persist (f : Field) : Field := { ao := f.ao.map AoSt.keep }

/-- What survives a start-up from copy selection: also the supplies and the accepted levels of the pins. -/
def Field.restart (f : Field) : Field :=
  { f.persist with
    dio := f.dio.map fun x => { n := x.n, pin := x.pin, cap := x.cap }
    fsAi := f.fsAi, fsAo := f.fsAo, fsDioA := f.fsDioA, fsDioB := f.fsDioB }

/-- The record's settings in an AO channel. -/
def AoSt.settings (c : AoCfg) (x : AoSt) : AoSt :=
  { x with sink := decide (c.mode = 1), holdMs := c.holdMs, lossHigh := c.lossHigh
           clk := if c.mode = 1 then (if x.sink then x.clk else 0) else 4 }

def State.confFld (s : State) : State :=
  let f := s.img.fld
  let s1 : State := { s with fld := { s.fld.restart with
    ai := f.ai.map fun c => { n := c.ch }
    ao := s.fld.restart.ao.map fun x => match findKey (·.ch) x.n f.ao with | some c => x.settings c | none => x
    modems := modemsOf s.img
    hlast := List.replicate f.hart.length (none, false) } }
  (f.dio.filter fun c => decide (c.kind = 0)).foldl (fun s c => s.dioWrite c) s1

def State.stopAi (u : Option Nat) (s : State) : State :=
  let cs := fldAis s.img u
  let s1 := match u with
    | none => ({ s with fld := { s.fld with aiFault := true } } : State)
    | some n => s.modAi n fun a => { a with cfault := true }
  let s2 : State := { s1 with fld := { s1.fld with ai := s1.fld.ai.map fun a => if inUnit u a.n then { a with conv := none } else a } }
  let s3 := (s2.hartStop false u).r38 10 u (cs.flatMap fun c => c.statBind.toList.map (·.slot))
  cs.foldl (fun s c => s.aiStatus c.ch) s3

def State.stopAo (u : Option Nat) (s : State) : State :=
  let cs := fldAos s.img u
  let s1 := match u with
    | none => ({ s with fld := { s.fld with aoFault := true } } : State)
    | some n => s.modAo n fun x =>
        { x with cfault := true, hold := false, drv := if x.sink && !x.powered then none else some (lossLevel x.lossHigh) }
  let s3 := (s1.hartStop true u).r38 11 u (cs.flatMap fun c => c.statBind.toList.map (·.slot))
  cs.foldl (fun s c => s.aoStatus c.ch) s3

/-- A DIO fault: the outputs are off, and their readback slots read BAD (R382, R391). -/
def State.stopDio (u : Option Nat) (s : State) : State :=
  let cs := fldDios s.img u
  let s1 := match u with
    | none => ({ s with fld := { s.fld with dioFault := true } } : State)
    | some n => (s.latchSet 0x880C (2 ^ n)).modDio n fun x => { x with cfault := true, faultL := true }
  let s2 := s1.r38 12 u []
  (cs.filter fun c => decide (c.kind ≠ 0)).foldl (fun s c =>
    match c.bind with
    | some r => s.writeSlot r.slot (s.ownSlot r.slot).1 (setState (s.ownSlot r.slot).2 0)
    | none => s) s2

/-- COND follows the channel once its fault is gone. -/
def aiCleared (k : Nat) : Nat := if k = 8 then 0 else k

def State.retryAi (u : Option Nat) (s : State) : State :=
  { s with fld := { s.fld with
    aiFault := if u.isNone then false else s.fld.aiFault
    ai := s.fld.ai.map fun a => if s.rungUnit 10 u a.n then { a with cfault := false, restart := true, cond := aiCleared a.cond } else a } }

def State.retryAo (u : Option Nat) (s : State) : State :=
  let s1 : State := { s with fld := { s.fld with aoFault := if u.isNone then false else s.fld.aoFault } }
  ((fldAos s.img u).filter fun c => s.rungUnit 11 u c.ch).foldl (fun s c => s.aoRestart c.ch) s1

def State.retryDio (u : Option Nat) (s : State) : State :=
  let s1 : State := { s with fld := { s.fld with
    dioFault := if u.isNone then false else s.fld.dioFault
    dio := s.fld.dio.map fun x =>
      if s.rungUnit 12 u x.n then { x with cfault := false, cond := 0, rungAt := some s.clock } else x } }
  if s1.fieldRuns then ((fldDios s.img u).filter fun c => s.rungUnit 12 u c.ch).foldl (fun s c => s.dioWrite c) s1 else s1

/-- HART addresses of the AI unit get command 0 again (R391). -/
def State.hartForget (u : Option Nat) (s : State) : State :=
  let g (x : ModemSt) : ModemSt :=
    if modemAo x.modem = false then { x with known := x.known.filter fun p => !inUnit u p.1 } else x
  { s with fld := { s.fld with modems := s.fld.modems.map g } }

def State.reinitAi (u : Option Nat) (s : State) : State :=
  let s1 := (s.retryAi u).hartForget u
  let g (a : AiSt) : AiSt :=
    if inUnit u a.n then { a with condL := false, hartErrL := false, trigSkipL := false, hartErr := 0, trigSkip := 0 } else a
  { s1 with fld := { s1.fld with ai := s1.fld.ai.map g } }

def State.reinitAo (u : Option Nat) (s : State) : State :=
  let s1 := s.retryAo u
  let g (x : AoSt) : AoSt := if inUnit u x.n then { x with complL := false, devL := false, linkL := false } else x
  { s1 with fld := { s1.fld with ao := s1.fld.ao.map g } }

def State.reinitDio (u : Option Nat) (s : State) : State :=
  let s1 := s.retryDio u
  { s1 with fld := { s1.fld with dio := s1.fld.dio.map fun x => if inUnit u x.n then { x with faultL := false } else x } }

/-- A sink channel whose frames have stopped is NOPWR once it leaves OFF (R375). -/
def State.aoNoPower (s : State) : State :=
  let lost := s.fld.ao.filter fun x => x.sink && x.noFrame && (aoCfg s.img x.n).isSome
  lost.foldl (fun s x => (s.latchSet (0x8504 + 0x10 * x.n) 262144).modAo x.n fun y => { y with linkL := true }) s

def State.enterFld (s : State) : State := s.aoNoPower
def State.safeFld (s : State) : State := s.aoNoPower

/-- The module leaves ACTIVE: no TRIG 1 conversion commits (R361). -/
def State.leaveFld (s : State) : State :=
  { s with fld := { s.fld with ai := s.fld.ai.map fun a => { a with conv := none } } }

end Sys2Proof.Machine
end

