-- ==== Sys2Proof/Machine/RioOps.lean ====
section
/-! DEFINITION. The remote-I/O rules that the CAN channels and ETH share (R167 to R173, R410, R413, R498): mapped fields,
misses, losses, substitutes and returns. Channels 0 to 3 are C0 to C3, channel 4 is ETH. -/

namespace Sys2Proof.Machine

/-! ### Where a channel's stations stand -/

def canCfg (i : Image) (n : Nat) : Option CanCfg := findKey (·.ch) n i.can.chans

def rioCfgs (i : Image) (ch : Nat) : List StationCfg := if ch < 4 then (canCfg i ch).elim [] (·.stations) else i.eth.stations
def rioCfg (i : Image) (ch addr : Nat) : Option StationCfg := findKey (·.addr) addr (rioCfgs i ch)
/-- 0 none, 1 MASTER, 2 STATION. -/
def rioRole (i : Image) (ch : Nat) : Nat := if ch < 4 then (canCfg i ch).elim 0 (·.role) else i.eth.role
/-- SYNC_LEAD of a MASTER, SYNC_TIMEOUT of a STATION. -/
def rioLead (i : Image) (ch : Nat) : Nat := if ch < 4 then (canCfg i ch).elim 0 (·.lead) else i.eth.lead

def State.can1 (n : Nat) (s : State) : CanSt := s.can.getD n { n := n }
def State.modCan (n : Nat) (f : CanSt → CanSt) (s : State) : State := { s with can := modifyKey (·.n) n f s.can }

def State.stations (ch : Nat) (s : State) : List StationSt := if ch < 4 then (s.can1 ch).stations else s.eth.stations

def State.station (ch addr : Nat) (s : State) : Option StationSt := findKey (·.addr) addr (s.stations ch)

def State.modStations (ch : Nat) (f : StationSt → StationSt) (s : State) : State :=
  if ch < 4 then s.modCan ch fun c => { c with stations := c.stations.map f }
  else { s with eth := { s.eth with stations := s.eth.stations.map f } }

def State.modStation (ch addr : Nat) (f : StationSt → StationSt) (s : State) : State :=
  s.modStations ch fun x => if x.addr = addr then f x else x

/-- HLOW of the latest SYNC, and its tick. -/
def State.syncH (ch : Nat) (s : State) : Option Nat := if ch < 4 then (s.can1 ch).syncH else s.eth.syncH
def State.syncAt (ch : Nat) (s : State) : Nat := if ch < 4 then (s.can1 ch).syncAt else s.eth.syncAt

def State.setSync (ch : Nat) (h : Option Nat) (s : State) : State :=
  if ch < 4 then s.modCan ch fun c => { c with syncH := h, syncAt := s.clock }
  else { s with eth := { s.eth with syncH := h, syncAt := s.clock } }

def State.rioFault (ch : Nat) (s : State) : Bool := if ch < 4 then (s.can1 ch).fault else s.eth.fault

/-- The exchange runs only while the module is ACTIVE (R413), and stops with its function's or unit's fault (R421, R453). -/
def State.rioRuns (ch : Nat) (s : State) : Bool := s.isActive && !s.rioFault ch && decide (rioRole s.img ch ≠ 0)

/-! ### Mapped fields (R410) -/

def rioBits (m : RioMap) : Nat := m.ref.widthM1 + 1

def rxSlots (ms : List RioMap) : List Nat := distinct ((ms.filter fun m => !m.tx).map (·.ref.slot))

/-- One event writes the slots of the RX mappings (R44): `val` gives each field, `q` each slot's quality. -/
def State.putMaps (ms : List RioMap) (val : RioMap → Nat) (q : Nat → Byte) (s : State) : State :=
  (rxSlots ms).foldl (fun s i =>
    let w := (ms.filter fun m => !m.tx && decide (m.ref.slot = i)).foldl (fun w m => m.ref.put w (val m)) (s.ownSlot i).1
    s.writeSlot i w (q i)) s

/-- The field of a mapping in the mapped data. -/
def mapField (data : Nat) (m : RioMap) : Nat := (data >>> m.bitofs) % 2 ^ rioBits m

/-- The mapped data of the TX mappings, as a number, with the lowest STATE of the sources. -/
def State.txData (ms : List RioMap) (s : State) : Nat × Nat :=
  let t := ms.filter (·.tx)
  ((t.map fun m => (s.readRef m.ref).1.toNat % 2 ^ rioBits m * 2 ^ m.bitofs).sum, lowest (t.map fun m => qState (s.readRef m.ref).2))

/-- QSTATE read back: 2 is BAD (R411). -/
def qOfState (n : Nat) : Byte := mkQ (if n % 4 = 2 then 0 else n % 4) false false false

/-! ### Stations (R168 to R172) -/

/-- The word of a station's status slot (R168). -/
def stationWord (x : StationSt) : Nat := x.link + 256 * min x.missed 255 + 65536 * min x.undel 65535

/-- The station's input slots keep their values and take STALE and UNCERTAIN, and HOLD counts from here (R169, R171). -/
def State.rioStale (ch : Nat) (c : StationCfg) (s : State) : State :=
  let s1 := (rxSlots c.maps).foldl (fun s i => let v := s.ownSlot i; s.writeSlot i v.1 (staleQ v.2)) s
  s1.modStation ch c.addr fun x => { x with stale := x.stale.or (some s.clock) }

/-- Output frames to the station, or the answers to its master, that have not begun are cancelled; one that has begun
completes (R170, R403). The deliver, or the SYNC, of a cancelled frame counts as undelivered. -/
def State.rioCancel (ch addr : Nat) (s : State) : State :=
  let n := ((s.can1 ch).queue.filter fun f => decide (f.station = some addr)).length
  let s1 := if ch < 4 then s.modStation ch addr fun x => { x with undel := min 65535 (x.undel + n) } else s
  s1.modCan ch fun c =>
    { c with
      queue := c.queue.filter fun f => decide (f.station ≠ some addr)
      active := match c.active with
        | some (.queue f) => some (.queue (if f.station = some addr then { f with cancel := true } else f))
        | a => a }

/-- A station is lost (R170, R172). -/
def State.rioLose (ch : Nat) (c : StationCfg) (s : State) : State :=
  match s.station ch c.addr with
  | none => s
  | some x =>
    if x.link = 1 then s
    else
      let s1 := s.modStation ch c.addr fun x => { x with link := 1 }
      let s2 := (s1.rioStale ch c).rioCancel ch c.addr
      if ch < 4 then s2.record 0x0907 ch c.addr (leBytes 2 c.addr) else s2.record 0x0E05 0 c.addr (leBytes 2 c.addr)

/-- The channel declares every station, or its master, unreachable (R170, R400, R401, R413). -/
def State.rioUnreachable (ch : Nat) (s : State) : State := (rioCfgs s.img ch).foldl (fun s c => s.rioLose ch c) s

/-- The frame has not arrived (R169), and MISSED may reach its limit (R170). -/
def State.rioMiss (ch : Nat) (c : StationCfg) (s : State) : State :=
  let s1 := s.modStation ch c.addr fun x => { x with missed := satInc 255 x.missed, link := if x.link = 1 then 1 else 2 }
  let s2 := s1.rioStale ch c
  match s2.station ch c.addr with
  | some x => if c.missLimit ≤ x.missed then s2.rioLose ch c else s2
  | none => s2

/-- The input slots take their substitutes (R171). Where the mappings of one slot differ in substitute STATE, the lower
counts for the whole slot. -/
def State.rioSubst (ch : Nat) (c : StationCfg) (s : State) : State :=
  let unc (i : Nat) : Bool := (c.maps.filter fun m => !m.tx && decide (m.ref.slot = i)).all (·.substUncertain)
  (s.putMaps c.maps (fun m => m.subst.toNat) fun i => substStaleQ (unc i)).modStation ch c.addr fun x => { x with subst := true }

/-- HOLD has expired and no frame has arrived. -/
def StationSt.holdOver (now hold : Nat) (x : StationSt) : Bool :=
  match x.stale with | some t => !x.subst && decide (t + hold ≤ now) | none => false

/-- The judgement at the end of the harvest tick of `h` (R169 to R171). -/
def State.rioJudge (ch h : Nat) (s : State) : State :=
  if !s.rioRuns ch || decide (rioRole s.img ch ≠ 1) then s
  else (rioCfgs s.img ch).foldl (fun s c =>
    match s.station ch c.addr with
    | none => s
    | some x =>
      if x.seen && decide (s.syncH ch = some (h % 65536)) then s
      else
        let s1 := s.rioMiss ch c
        match s1.station ch c.addr with
        | some y => if y.holdOver s.clock c.hold then s1.rioSubst ch c else s1
        | none => s1) s

/-- A station's valid frame writes its inputs and ends a miss or a loss (R169, R172, R411). -/
def State.rioArrive (ch : Nat) (c : StationCfg) (data qs : Nat) (s : State) : State :=
  match s.station ch c.addr with
  | none => s
  | some x =>
    let s1 := s.putMaps c.maps (mapField data) fun _ => qOfState qs
    let s2 := s1.modStation ch c.addr fun x =>
      { x with link := 3, missed := 0, undel := 0, stale := none, subst := false, seen := true }
    if x.link = 1 then
      let d := leBytes 2 c.addr ++ leBytes 2 x.undel
      if ch < 4 then s2.record 0x0908 ch c.addr d else s2.record 0x0E06 0 c.addr d
    else s2

/-- A SYNC for the next harvest is due: its number (R167). -/
def State.syncDue (ch : Nat) (s : State) : Option Nat :=
  if s.rioRuns ch && decide (rioRole s.img ch = 1) then
    let b : Int := (s.img.cycle.base : Int)
    let h : Int := Int.fdiv ((s.clock : Int) - s.origin) b + 1
    let t : Int := s.origin + h * b
    if t - (rioLead s.img ch : Int) ≤ (s.clock : Int) ∧ s.syncH ch ≠ some (h.toNat % 65536) then some h.toNat else none
  else none

/-- A SYNC arrives at a STATION: the link is judged, and the answer's mapped data and QSTATE follow where it is answered
(R412, R413). -/
def State.rioSyncIn (ch hlow : Nat) (s : State) : Option (StationCfg × Nat × Nat) × State :=
  match rioCfgs s.img ch with
  | c :: _ =>
    match s.station ch c.addr with
    | none => (none, s)
    | some x =>
      let s1 := if (s.syncH ch).isSome && !x.seen then s.rioMiss ch c else s
      let s2 := (s1.setSync ch (some hlow)).modStation ch c.addr fun x => { x with seen := false }
      match s2.station ch c.addr with
      | some y =>
        if y.link = 1 then (none, s2.modStation ch c.addr fun x => { x with undel := satInc 65535 x.undel })
        else let d := s2.txData c.maps; (some (c, d.1, d.2), s2)
      | none => (none, s2)
  | [] => (none, s)

/-- No SYNC for SYNC_TIMEOUT ticks (R413). -/
def State.rioSyncTimeout (ch : Nat) (s : State) : State :=
  if s.rioRuns ch && decide (rioRole s.img ch = 2 ∧ s.syncAt ch + rioLead s.img ch ≤ s.clock) then s.rioUnreachable ch else s

/-- HOLD expires in ROLE STATION (R413). -/
def State.rioHoldExpire (ch : Nat) (s : State) : State :=
  if s.rioRuns ch && decide (rioRole s.img ch = 2) then
    (rioCfgs s.img ch).foldl (fun s c =>
      match s.station ch c.addr with
      | some x => if x.holdOver s.clock c.hold then s.rioSubst ch c else s
      | none => s) s
  else s

/-- The stations of a fresh commit: LINK NEVER (R168). -/
def freshStations (cs : List StationCfg) : List StationSt := cs.map fun c => { addr := c.addr }

/-- The new active takes its stations over (R498): LINK LATE, and HOLD counts from this tick. With no takeover the links
stand at NEVER. -/
def State.rioEnter (ch : Nat) (take : Bool) (s : State) : State :=
  let s1 := (s.setSync ch none).modStations ch fun x => { x with seen := false, stale := none, subst := false }
  if take && !s.rioFault ch then
    (rioCfgs s.img ch).foldl (fun s c => (s.modStation ch c.addr fun x => { x with link := 2 }).rioStale ch c) s1
  else s1

/-- The station status words that are written while the module is ACTIVE (R168, R413). -/
def State.rioStatus (ch : Nat) (s : State) : List (Nat × Nat) :=
  if s.isActive then (rioCfgs s.img ch).filterMap fun c => (s.station ch c.addr).map fun x => (c.statSlot, stationWord x) else []

/-- Every station is lost with its channel's fault; the status slots read LOST (R421, R453). -/
def State.rioFail (ch : Nat) (s : State) : State :=
  let s1 := s.rioUnreachable ch
  (rioCfgs s1.img ch).foldl (fun s c =>
    match s.station ch c.addr with
    | some x => s.writeSlot c.statSlot (BitVec.ofNat 32 (stationWord x)) qGood
    | none => s) s1

/-- The slots that a channel's fault rules name themselves (R421, R453). -/
def rioOwn (i : Image) (ch : Nat) : List Nat := (rioCfgs i ch).flatMap fun c => c.statSlot :: rxSlots c.maps

/-- The station fields that the SHADOW frames carry (R491). -/
def State.staShadows (s : State) : List StationShadow :=
  (List.range 5).flatMap fun ch => (s.stations ch).map fun x =>
    { ch := ch, addr := x.addr, link := x.link, missed := x.missed, undelivered := x.undel }

def State.applySta (l : List StationShadow) (s : State) : State :=
  l.foldl (fun s h => s.modStation h.ch h.addr fun x => { x with link := h.link, missed := h.missed, undel := h.undelivered }) s

end Sys2Proof.Machine
end

