-- ==== Sys2Proof/Machine/CanOps.lean ====
section
/-! DEFINITION. The CAN FD channels (chapter 12): error states, arbitration, transmit buffers, filters and FIFOs, the
remote-I/O frames, and what faults, rungs and module states do to a channel. -/

namespace Sys2Proof.Machine

/-! ### Frames (R402, R409, R410) -/

/-- The FD data lengths by DLC. -/
def fdLens : List Nat := [0, 1, 2, 3, 4, 5, 6, 7, 8, 12, 16, 20, 24, 32, 48, 64]

def dlcLen (fdf : Bool) (dlc : Nat) : Nat := if fdf then fdLens.getD dlc 64 else min dlc 8

/-- The DLC of the smallest FD data length that holds `n` bytes (R410). -/
def dlcFor (n : Nat) : Nat := (fdLens.findIdx? fun l => decide (n ≤ l)).getD 15

/-- A remote-I/O frame (R409, R410). -/
def rioFrame (c : CanCfg) (kind addr hlow len qs data : Nat) : CanFrame :=
  let dlc := dlcFor (4 + len)
  let body := leBytes 2 hlow ++ leBytes 1 len ++ leBytes 1 qs ++ leBytes len data
  { ide := false, ident := c.idBase + 0x80 * kind + addr, rtr := false, fdf := true, brs := c.brs, esi := false, dlc := dlc
    data := (body ++ List.replicate 64 0).take (dlcLen true dlc) }

/-- A frame's arbitration field as the bus sends it: base identifier, RTR or SRR, IDE, the extension and its RTR (R402). -/
def arbKey (ide rtr : Bool) (ident : Nat) : List Nat :=
  if ide then [ident / 2 ^ 18, 1, 1, ident % 2 ^ 18, b2n rtr] else [ident, b2n rtr, 0, 0, 0]

def frameKey (f : CanFrame) : List Nat := arbKey f.ide f.rtr f.ident

/-- The frame that a buffer sends. -/
def TxBuf.frame (b : TxBuf) : CanFrame :=
  { ide := b.ide, ident := b.ident, rtr := b.rtr, fdf := b.fdf, brs := b.brs, esi := false, dlc := b.dlc
    data := if b.rtr then [] else b.data.take (dlcLen b.fdf b.dlc) }

/-! ### Taking part (R393) -/

def State.canRuns (n : Nat) (s : State) : Bool :=
  decide (s.mode ≠ .unconfigured ∧ s.mode ≠ .fault) && (canCfg s.img n).isSome && !(s.can1 n).fault && decide (s.power.phase = .operating)

/-- Bits of CAN_EVT are set, with a further update of the channel. -/
def State.canEvt (n b : Nat) (f : CanSt → CanSt) (s : State) : State :=
  (s.latchSet (0x701C + 0x400 * n) b).modCan n fun c => let d := f c; { d with evt := d.evt ||| BitVec.ofNat 11 b }

def State.modBuf (n i : Nat) (f : TxBuf → TxBuf) (s : State) : State := s.modCan n fun c => { c with bufs := modifyAt c.bufs i f }

/-- Every pending frame, and with `live` the one in transmission, ends with the result `res` (R400, R401). -/
def CanSt.abandon (res : TxbState) (live : Bool) (c : CanSt) : CanSt :=
  { c with
    queue := []
    active := if live then none else c.active
    bufs := c.bufs.map fun b => if b.st = .pending ∨ (live = true ∧ b.st = .active) then { b with st := res, cancel := false } else b }

/-! ### Error states (R396, R400, R401) -/

/-- ERROR_ACTIVE and ERROR_PASSIVE by the counters, and BUS_OFF above 255 (R396). -/
def State.canJudge (n : Nat) (s : State) : State :=
  let c := s.can1 n
  let pas := decide (127 < c.tec ∨ 127 < c.recv)
  if c.st ∉ [2, 3, 4] then s
  else if 255 < c.tec then
    let s1 := s.canEvt n 4 fun c =>
      ({ c with st := 5, busoffs := satInc 255 c.busoffs, busoffAt := s.clock, ackCons := 0 } : CanSt).abandon .abandoned true
    (s1.record 0x0904 n 0 []).rioUnreachable n
  else if c.st = 2 ∧ pas = true then (s.canEvt n 1 fun c => { c with st := 3 }).record 0x0901 n 0 []
  else if c.st = 3 ∧ pas = false then s.modCan n fun c => { c with st := 2 }
  else s

/-- The 16th consecutive ACK error (R396, R400). -/
def State.canAlone (n : Nat) (s : State) : State :=
  let c := s.can1 n
  if (c.st = 2 ∨ c.st = 3) ∧ 16 ≤ c.ackCons then
    let s1 := s.canEvt n 2 fun c => ({ c with st := 4 } : CanSt).abandon .noack false
    (s1.record 0x0902 n 0 []).rioUnreachable n
  else s

/-- A valid frame was received, or an own frame acknowledged: an end to ALONE (R396). -/
def State.canHeard (n : Nat) (s : State) : State :=
  let s1 := s.modCan n fun c => { c with ackCons := 0 }
  if (s.can1 n).st = 4 then
    let pas := decide (127 < (s1.can1 n).tec ∨ 127 < (s1.can1 n).recv)
    (s1.canEvt n (b2n pas) fun c => { c with st := if pas then 3 else 2 }).record 0x0903 n 0 []
  else s1

/-- REC after a valid frame (ISO 11898-1): one less, and from above 127 a value from 119 to 127 that the standard leaves
open (log 5). -/
def State.recDown (n : Nat) (s : State) : State :=
  let c := s.can1 n
  if 127 < c.recv then
    let (v, s1) := s.freeW32
    s1.modCan n fun c => { c with recv := 119 + v.toNat % 9 }
  else s.modCan n fun c => { c with recv := c.recv - 1 }

/-- A frame received ends in an error (ISO 11898-1): REC rises by 1, by 8 more where this node signalled it first, and by 8
for each of `more`: bit errors of its own flags and runs of dominant bits after them. -/
def State.canRecvError (n : Nat) (primary : Bool) (more : Nat) (s : State) : State :=
  if !s.canRuns n || decide ((s.can1 n).st ∉ [2, 3, 4]) then s
  else (s.modCan n fun c => { c with recv := min 255 (c.recv + (if primary then 9 else 1) + 8 * more) }).canJudge n

def State.canIntegrated (n : Nat) (s : State) : State :=
  if s.canRuns n && decide ((s.can1 n).st = 1) then s.modCan n fun c => { c with st := 2 } else s

/-- BUSOFF_HOLD and the 128 recessive sequences have passed (R396). -/
def State.canBack (n : Nat) (s : State) : State :=
  let c := s.can1 n
  let hold := (canCfg s.img n).elim 0 (·.busoffHold)
  if s.canRuns n && decide (c.st = 5 ∧ c.busoffAt + msTicks hold ≤ s.clock) then
    (s.modCan n fun c => { c with st := 2, tec := 0, recv := 0, ackCons := 0 }).record 0x0903 n 0 []
  else s

/-! ### Transmission (R397 to R404) -/

/-- A frame joins the channel's own queue; in OFF and BUS_OFF it is abandoned at once (R400, R401, R411). -/
def State.canQueue (n : Nat) (f : CanFrame) (st : Option Nat) (s : State) : State :=
  if s.canRuns n && s.isActive && decide ((s.can1 n).st ∈ [1, 2, 3, 4]) then
    s.modCan n fun c => { c with queue := c.queue ++ [{ frame := f, station := st }] }
  else s

/-- The pending frames with their keys: the own queue in order, then the buffers in ascending number (R402). -/
def CanSt.offers (c : CanSt) : List (List Nat × TxRef × CanFrame) :=
  c.queue.map (fun q => (frameKey q.frame, TxRef.queue q, q.frame)) ++
  (c.bufs.zip (List.range c.bufs.length)).filterMap fun p =>
    if p.1.st = .pending then some (frameKey p.1.frame, TxRef.buf p.2, p.1.frame) else none

/-- The first of the offers with the lowest key. -/
def winner (os : List (List Nat × TxRef × CanFrame)) : Option (List Nat × TxRef × CanFrame) :=
  os.foldl (fun a o => match a with
    | none => some o
    | some b => if decide (List.lt o.1 b.1) then some o else some b) none

/-- The first element that satisfies `p` is taken out. -/
def dropFirst {α : Type} (p : α → Bool) : List α → List α
  | [] => []
  | x :: r => if p x then r else x :: dropFirst p r

/-- At the end of intermission the channel offers the frame that wins (R402). -/
def State.canArbitrate (n : Nat) (s : State) : State :=
  let c := s.can1 n
  let listen := (canCfg s.img n).elim false (·.listen)
  if !s.canRuns n || !s.isActive || listen || c.active.isSome || decide (c.st ∉ [2, 3, 4]) then s
  else match winner c.offers with
    | none => s
    | some (_, r, f) =>
      let esi := decide (127 < c.tec ∨ 127 < c.recv)
      let s1 := match r with
        | .buf i => (s.modBuf n i fun b => { b with st := .active, attempts := satInc 255 b.attempts }).modCan n fun c =>
            { c with active := some r }
        | .queue q => s.modCan n fun c => { c with active := some r, queue := dropFirst (fun x => decide (x = q)) c.queue }
      s1.emit (.canSof n { f with esi := f.fdf && esi })

/-- How a frame's attempt leaves it (R397, R399, R400, R403). -/
inductive After where
  | final (r : TxbState)
  | again (clash : Nat)
  deriving DecidableEq, Repr

/-- The clash is the third in a row of the frame's attempts (R397). -/
def afterAttempt (res : TxEnd) (alone cancel : Bool) (clash : Nat) : After :=
  let k := if res = .clash then clash + 1 else 0
  if res = .sent then .final .sent
  else if 3 ≤ k then .final .clash
  else if cancel then .final .cancelled
  else if alone then .final .noack
  else .again k

def clashKey (f : CanFrame) : Nat := f.ident + 2 ^ 29 * b2n f.ide

/-- TEC after an attempt (ISO 11898-1): an error-passive node's ACK error with no dominant bit after it leaves TEC (R400),
as does a stuff error in the arbitration field whose recessive stuff bit read dominant; each of `more` adds 8: bit errors
of the node's own flags and runs of dominant bits after them. -/
def tecAfter (res : TxEnd) (passive : Bool) (more tec : Nat) : Nat :=
  8 * more + match res with
  | .sent => tec - 1
  | .lostArbitration => tec
  | .ackErr dom => if passive && !dom then tec else tec + 8
  | .clash => tec + 8
  | .arbStuffErr => tec
  | .otherErr => tec + 8

def isAckErr : TxEnd → Bool
  | .ackErr _ => true
  | _ => false

/-- A transmit attempt ends (R396, R397, R399, R400, R403). -/
def State.canAttemptEnd (n : Nat) (res : TxEnd) (more tdcv : Nat) (s : State) : State :=
  let c := s.can1 n
  match c.active, canCfg s.img n with
  | some r, some g =>
    if !s.canRuns n then s
    else
      let f := match r with | .buf i => (c.bufs.getD i {}).frame | .queue q => q.frame
      let clash := match r with | .buf i => (c.bufs.getD i {}).clash | .queue q => q.clash
      let cancel := match r with | .buf i => (c.bufs.getD i {}).cancel | .queue q => q.cancel
      let measured := g.tdcEn && f.fdf && f.brs && decide (res ≠ .lostArbitration ∧ res ≠ .arbStuffErr)
      let alone := decide (c.st = 4)
      let fate := afterAttempt res alone cancel clash
      let passive := decide (127 < c.tec ∨ 127 < c.recv)
      let s1 := s.modCan n fun c =>
        { c with
          active := none
          tec := tecAfter res passive more c.tec
          tdcv := if measured then some (min tdcv 127) else c.tdcv
          ackCons := if isAckErr res then satInc 255 c.ackCons else 0
          clashRec := if res = .sent then c.clashRec.filter fun k => decide (k ≠ clashKey f) else c.clashRec }
      let s2 := match r, fate with
        | .buf i, .final x => s1.modBuf n i fun b => { b with st := x, cancel := false, clash := 0 }
        | .buf i, .again k => s1.modBuf n i fun b => { b with st := .pending, clash := k }
        | .queue _, .final _ => s1
        | .queue q, .again k => s1.modCan n fun c => { c with queue := { q with clash := k } :: c.queue }
      let s3 :=
        if fate = .final .clash then
          let s' := s2.canEvt n 8 fun c => { c with clashes := satInc 0x7FFF c.clashes }
          if (s'.can1 n).clashRec.contains (clashKey f) then s'
          else (s'.modCan n fun c => { c with clashRec := clashKey f :: c.clashRec }).record 0x0905 n 0 (leBytes 4 f.ident)
        else s2
      let s4 := if res = .sent then s3.canHeard n else s3
      (s4.canJudge n).canAlone n
  | _, _ => s

/-- A write of REQ (R404). -/
def State.canReq (n i : Nat) (s : State) : State :=
  let c := s.can1 n
  let b := c.bufs.getD i {}
  let listen := (canCfg s.img n).elim false (·.listen)
  if b.st = .pending ∨ b.st = .active ∨ s.isActive = false ∨ c.st = 0 ∨ c.st = 5 ∨ listen = true ∨
      (b.brs = true ∧ b.fdf = false) ∨ (b.rtr = true ∧ b.fdf = true) ∨ (8 < b.dlc ∧ b.fdf = false) ∨
      (b.ide = false ∧ 2 ^ 11 ≤ b.ident) then
    s.canEvt n 1024 id
  else s.modBuf n i fun b => { b with st := .pending, attempts := 0, clash := 0, cancel := false }

/-- A write of CANCEL (R403). -/
def State.canCancel (n i : Nat) (s : State) : State :=
  s.modBuf n i fun b =>
    match b.st with
    | .pending => { b with st := .cancelled }
    | .active => { b with cancel := true }
    | _ => b

/-- A write to a buffer's ID, INFO or DATA (R404). -/
def State.canTxbWrite (n i : Nat) (f : TxBuf → TxBuf) (s : State) : State :=
  let b := (s.can1 n).bufs.getD i {}
  if b.st = .pending ∨ b.st = .active then s.canEvt n 1024 id else s.modBuf n i f

/-! ### Reception (R405 to R408) -/

def filterHits (f : CanFrame) (x : CanFilter) : Bool :=
  decide (x.ide = f.ide) && decide ((f.ident ^^^ x.ident) &&& x.mask = 0)

/-- A frame enters a FIFO, or finds it full (R407). -/
def State.canFifo (n : Nat) (one : Bool) (filter : Nat) (f : CanFrame) (s : State) : State :=
  let c := s.can1 n
  let q := if one then c.fifo1 else c.fifo0
  if 16 ≤ q.length then
    let s1 := s.canEvt n (if one then 32 else 16) fun c => { c with rxovf := satInc 65535 c.rxovf }
    if (if one then c.ovfRec1 else c.ovfRec0) then s1
    else (s1.modCan n fun c => if one then { c with ovfRec1 := true } else { c with ovfRec0 := true }).record 0x0906 n (b2n one)
      (leBytes 1 (b2n one))
  else
    let sq := ((if one then c.seq1 else c.seq0) + 1) % 256
    let e : RxFrame := { frame := f, filter := filter, tick := s.tick, seqn := sq }
    s.modCan n fun c => if one then { c with fifo1 := q ++ [e], seq1 := sq } else { c with fifo0 := q ++ [e], seq0 := sq }

/-- The filters in order; the first match decides (R406). -/
def State.canFilter (n : Nat) (f : CanFrame) (s : State) : State :=
  let fs := (canCfg s.img n).elim [] (·.filters)
  match fs.findIdx? (filterHits f) with
  | some k =>
    match fs[k]? with
    | some x => if x.dest = 2 then s else s.canFifo n (decide (x.dest = 1)) k f
    | none => s
  | none => s

/-- A write of POP (R408). -/
def State.canPop (n : Nat) (one : Bool) (sq : Nat) (s : State) : State :=
  let c := s.can1 n
  match (if one then c.fifo1 else c.fifo0) with
  | e :: r =>
    if e.seqn = sq then
      s.modCan n fun c =>
        if one then { c with fifo1 := r, ovfRec1 := c.ovfRec1 && !r.isEmpty } else { c with fifo0 := r, ovfRec0 := c.ovfRec0 && !r.isEmpty }
    else s.canEvt n 512 id
  | [] => s.canEvt n 512 id

/-! ### Remote I/O (R411 to R413) -/

/-- HLOW, LEN and QSTATE of a frame, and its mapped data. -/
def rioHead (f : CanFrame) : Nat × Nat × Nat × Nat := (getN f.data 0 2, getN f.data 2 1, getN f.data 3 1, leNat (f.data.drop 4))

/-- A wrong LEN or DLC (R410, R411). -/
def rioBadLen (f : CanFrame) (len : Nat) : Bool := decide ((rioHead f).2.1 ≠ len ∨ f.dlc ≠ dlcFor (4 + len))

/-- A consumed frame that writes nothing (R411, R413). -/
def State.canRioErr (n : Nat) (late fmt dup : Bool) (s : State) : State :=
  s.canEvt n (64 * b2n fmt + 128 * b2n late + 256 * b2n dup) fun c => { c with rioerr := satInc 0x7FFF c.rioerr }

/-- An input frame of a station, at the master (R411). -/
def State.canRioInput (n : Nat) (c : StationCfg) (f : CanFrame) (s : State) : State :=
  match s.station n c.addr with
  | none => s
  | some x =>
    let h := rioHead f
    let late := decide (s.syncH n ≠ some h.1)
    let fmt := rioBadLen f c.rxLen
    let dup := !late && x.seen
    if late || fmt || dup then s.canRioErr n late fmt dup else s.rioArrive n c h.2.2.2 h.2.2.1

/-- The SYNC of the master, at a STATION channel: the answer is queued (R412, R413). -/
def State.canRioSync (n : Nat) (g : CanCfg) (f : CanFrame) (s : State) : State :=
  let hlow := (rioHead f).1
  match s.rioSyncIn n hlow with
  | (some (c, d, qs), s1) => s1.canQueue n (rioFrame g 3 g.addr hlow c.txLen qs d) (some c.addr)
  | (none, s1) => s1

/-- An output frame of the master, at a STATION channel (R413). -/
def State.canRioOutput (n : Nat) (c : StationCfg) (f : CanFrame) (s : State) : State :=
  let h := rioHead f
  if rioBadLen f c.rxLen then s.canRioErr n false true false else s.rioArrive n c h.2.2.2 h.2.2.1

/-- Whether the remote-I/O exchange consumes a frame, and what it does with it (R406, R409, R411, R413). -/
def State.canConsume (n : Nat) (f : CanFrame) (s : State) : Option State :=
  match canCfg s.img n with
  | none => none
  | some g =>
    if !s.rioRuns n || f.ide || !f.fdf || f.rtr || decide (f.ident < g.idBase ∨ g.idBase + 0x200 ≤ f.ident) then none
    else
      let k := (f.ident - g.idBase) / 0x80
      let a := (f.ident - g.idBase) % 0x80
      if g.role = 1 then
        if k = 3 then (rioCfg s.img n a).map fun c => s.canRioInput n c f else none
      else if k = 0 ∧ a = 0 then some (s.canRioSync n g f)
      else if k = 2 ∧ a = g.addr then (rioCfg s.img n a).map fun c => s.canRioOutput n c f
      else none

/-- A USL connection on the channel has this identifier (R441). -/
def uslIdent (i : Image) (n : Nat) (f : CanFrame) : Bool :=
  !f.ide && f.fdf && i.usl.conns.any fun c => decide (c.medium = n + 1) &&
    decide (f.ident = if c.sink then c.peer.toNat % 2048 else c.peer.toNat / 65536)

/-- A valid frame arrives: the remote-I/O exchange consumes it, USL does, or the filters decide (R405, R406, R441). -/
def State.canReceive (n : Nat) (f : CanFrame) (s : State) : State :=
  if !s.canRuns n || decide ((s.can1 n).st ∉ [2, 3, 4]) then s
  else
    let s1 := ((s.recDown n).canHeard n).canJudge n
    match s1.canConsume n f with
    | some s2 => s2
    | none => if s1.isActive && uslIdent s1.img n f then s1 else s1.canFilter n f

/-- The SYNC of a MASTER channel is queued (R167, R411). -/
def State.canSync (n : Nat) (s : State) : State :=
  match canCfg s.img n, s.syncDue n with
  | some g, some h =>
    let s1 := (s.setSync n (some (h % 65536))).modStations n fun x => { x with seen := false }
    s1.canQueue n (rioFrame g 0 0 (h % 65536) 0 3 0) none
  | _, _ => s

/-- The output frames of a deliver tick (R160, R170, R411). -/
def State.deliverCan (s : State) : State :=
  (s.img.can.chans.filter fun g => decide (g.role = 1)).foldl (fun s g =>
    if !s.rioRuns g.ch then s
    else g.stations.foldl (fun s c =>
      match s.station g.ch c.addr with
      | none => s
      | some x =>
        if x.link = 1 then s.modStation g.ch c.addr fun x => { x with undel := satInc 65535 x.undel }
        else if c.txLen = 0 then s
        else
          let d := s.txData c.maps
          s.canQueue g.ch (rioFrame g 2 c.addr (s.seq.hp % 65536) c.txLen d.2 d.1) (some c.addr)) s) s

/-! ### Commit, faults, rungs, module states (R396, R413, R420, R421, R498) -/

/-- CAN_STAT's STATE, TEC and REC (R420). -/
def canWord (c : CanSt) : Nat := c.st + 256 * min c.tec 255 + 65536 * min c.recv 255

def State.canStatus (s : State) : List (SlotRef × Nat) :=
  s.img.can.chans.flatMap fun g =>
    (match g.statBind with | some r => [(r, canWord (s.can1 g.ch))] | none => []) ++
      (s.rioStatus g.ch).map fun p => (slotRef p.1, p.2)

def State.confCan (s : State) : State :=
  { s with can := (List.range 4).map fun n =>
      match canCfg s.img n with
      | some g => { n := n, st := 1, stations := freshStations g.stations }
      | none => { n := n } }

/-- The channels of a unit-level or function-level event. -/
def canUnits (i : Image) (u : Option Nat) : List CanCfg := i.can.chans.filter fun c => inUnit u c.ch

/-- A CAN fault (R421); every other slot of the function, or of the unit, takes R38's quality. -/
def State.stopCan (u : Option Nat) (s : State) : State :=
  ((canUnits s.img u).foldl (fun s g =>
    -- a module that is not ACTIVE writes no station slot (R413)
    let s1 := if s.isActive then s.rioFail g.ch else s
    s1.modCan g.ch fun c =>
      ({ c with fault := true, st := 0, fifo0 := [], fifo1 := [], ovfRec0 := false, ovfRec1 := false, ackCons := 0 } : CanSt).abandon
        .abandoned true) s).r38 9 u
    ((canUnits s.img u).flatMap fun g => rioOwn s.img g.ch ++ g.statBind.toList.map (·.slot))

/-- RETRY of a channel (R396, R421). -/
def State.retryCan (u : Option Nat) (s : State) : State :=
  (canUnits s.img u).foldl (fun s g => s.modCan g.ch fun c =>
    { c with
      fault := false, st := 1, tec := 0, recv := 0, fifo0 := [], fifo1 := [], queue := [], active := none, syncH := none
      syncAt := s.clock, bufs := c.bufs.map fun b => { b with st := .empty, cancel := false, clash := 0 } }) s

/-- REINIT: RETRY, and the latches and counters at their reset values (R421). -/
def State.reinitCan (u : Option Nat) (s : State) : State :=
  (canUnits s.img u).foldl (fun s g => s.modCan g.ch fun c =>
    { c with busoffs := 0, clashes := 0, rxovf := 0, rioerr := 0, evt := 0, cause := 0
             bufs := c.bufs.map fun b => { b with attempts := 0 } }) (s.retryCan u)

/-- The module leaves ACTIVE: its remote-I/O and safety frames go, the attempt in progress breaks off and its buffer is
pending, or cancelled where CANCEL had met it (R393, R403, R413). -/
def State.leaveCan (s : State) : State :=
  { s with can := s.can.map fun c =>
      { c with queue := [], active := none, syncH := none
               bufs := c.bufs.map fun b => if b.st = .active then { b with st := if b.cancel then .cancelled else .pending, cancel := false } else b } }

/-- The module becomes ACTIVE; `take` tells a takeover (R498). -/
def State.enterCan (take : Bool) (s : State) : State := (List.range 4).foldl (fun s n => s.rioEnter n take) s

/-- The power-fail sequence: transceivers recessive (R74). -/
def State.pfCan (s : State) : State := { s with can := s.can.map fun c => ({ c with st := 0 } : CanSt).abandon .abandoned true }

end Sys2Proof.Machine
end

