-- ==== Sys2Proof/Machine/EthOps.lean ====
section
/-! DEFINITION. Ethernet (chapter 13): links and addresses, PRP, PTP and system time, the remote-I/O datagrams, and what
faults, rungs and module states do to ETH. -/

namespace Sys2Proof.Machine

/-! ### Addresses and links (R425, R439) -/

/-- The committed image has an ETH section (R451). -/
def State.hasEth (s : State) : Bool := s.committed && s.img.present.contains 10

/-- The own address in use, first octet in [31:24] (R425). -/
def State.ownIp (s : State) : W32 :=
  if s.hasEth then
    match s.member with
    | 1 => s.img.eth.ipA
    | 2 => s.img.eth.ipB
    | _ => s.img.eth.ipRef
  else BitVec.ofNat 32 (0xA9FE6000 + (match s.boot.slot with | some n => 1 + n | none => 100))

def State.portOn (e2 : Bool) (s : State) : Bool := if e2 then s.img.eth.e2En else s.img.eth.e1En

/-- Some enabled link is up. -/
def State.linkUp (s : State) : Bool := (s.eth.e1link && s.img.eth.e1En) || (s.eth.e2link && s.img.eth.e2En)

/-- The ports are not inert (R79). -/
def State.portsLive (s : State) : Bool := decide (s.power.phase = .operating ∨ s.power.phase = .startup)

/-- A port's link changes; without any enabled link the stations, or the master, are unreachable (R439, R440). `speed` is the
fastest that the link partner advertises: 0 no link, 1 100BASE-TX, 2 1000BASE-T; with SPEED 1 the module advertises
100BASE-TX only (R422). -/
def State.ethLink (e2 : Bool) (speed : Nat) (s : State) : State :=
  if !s.portsLive then s
  else
    let v := if s.portOn e2 then min (speed % 3) (if s.img.eth.speed = 1 then 1 else 2) else 0
    let was := s.linkUp
    let s1 : State := if e2 then { s with eth := { s.eth with e2link := decide (v ≠ 0), e2spd := v } }
      else { s with eth := { s.eth with e1link := decide (v ≠ 0), e1spd := v } }
    if was && !s1.linkUp && s1.rioRuns 4 then s1.rioUnreachable 4 else s1

/-- A frame goes out: on both LANs with the redundancy trailer, or on the one enabled port without it (R423). -/
def State.ethSend (m : EthMsg) (s : State) : State :=
  if s.img.eth.prp then
    let n := (s.eth.rctSeq + 1) % 65536
    (({ s with eth := { s.eth with rctSeq := n } } : State).emit (.eth false (some n) m)).emit (.eth true (some n) m)
  else s.emit (.eth (!s.img.eth.e1En) none m)

/-- A node of a PRP network sends a supervision frame every LifeCheckInterval of 2 s (R423). -/
def State.prpSupervise (s : State) : State :=
  if s.img.eth.prp && s.portsLive && (match s.eth.supAt with | some t => decide (t + secTicks 2 ≤ s.clock) | none => true) then
    ({ s with eth := { s.eth with supSeq := (s.eth.supSeq + 1) % 65536, supAt := some s.clock } } : State).ethSend
      (.supervision s.eth.supSeq)
  else s

/-- A frame of `len` data bytes is no longer than 1,522 bytes, redundancy trailer included (R422). -/
def frameFits (rct : Bool) (len : Nat) : Bool := decide (46 + len + (if rct then 6 else 0) ≤ 1522)

/-- The copy of this frame has come before, within EntryForgetTime of 400 ms (R423). -/
def PrpSeen.same (mac n now : Nat) (x : PrpSeen) : Bool := decide (x.mac = mac ∧ x.seq = n ∧ now < x.tick + msTicks 400)

/-- A frame arrives on a port; `f` is what an accepted one does. The port is enabled, the frame not too long, and the copy of a
frame already accepted is discarded (R422 to R424). -/
def State.ethIn (r : EthRx) (len : Nat) (f : State → State) (s : State) : State :=
  if !s.portsLive || !s.portOn r.e2 || !frameFits r.seq.isSome len then s
  else match s.img.eth.prp, r.seq with
    | true, some n =>
      if s.eth.prpSeen.any (PrpSeen.same r.mac n s.clock) then
        let pair (x : PrpSeen) : PrpSeen :=
          if x.same r.mac n s.clock = true ∧ x.e2 ≠ r.e2 then { x with both := true } else x
        { s with eth := { s.eth with prpSeen := s.eth.prpSeen.map pair } }
      else f { s with eth := { s.eth with prpSeen := { mac := r.mac, seq := n, e2 := r.e2, tick := s.clock } :: s.eth.prpSeen } }
    | _, _ => f s

/-- Frames older than EntryForgetTime are forgotten; one whose copy did not arrive is counted for its LAN (R423, ETH_PRP). -/
def State.prpForget (s : State) : State :=
  let old := s.eth.prpSeen.filter fun x => decide (x.tick + msTicks 400 ≤ s.clock)
  let lone (e2 : Bool) : Nat := (old.filter fun x => !x.both && decide (x.e2 = e2)).length
  { s with eth := { s.eth with
    prpSeen := s.eth.prpSeen.filter fun x => decide (s.clock < x.tick + msTicks 400)
    onlyA := min 65535 (s.eth.onlyA + lone false), onlyB := min 65535 (s.eth.onlyB + lone true) } }

/-- The module answers for an address: its own, and the service address while ACTIVE (R425). -/
def State.answers (ip : W32) (s : State) : Bool :=
  s.portsLive && (decide (ip = s.ownIp) || (s.eth.svc && decide (ip = s.img.eth.ipSvc)))

/-! ### PTP and system time (R426 to R429) -/

def State.modPtp (f : Ptp → Ptp) (s : State) : State := { s with eth := { s.eth with ptp := f s.eth.ptp } }

/-- PTP runs: PTP_EN in the committed image, and no ETH fault (R427, R453). -/
def State.ptpOn (s : State) : Bool := s.committed && s.img.eth.ptpEn && !s.eth.fault && decide (s.mode ≠ .fault ∧ s.power.phase = .operating)

/-- The best master received on a port, with the tick of its latest Announce. -/
def Ptp.best (p : Ptp) (e2 : Bool) : Option (Announce × Nat) := if e2 then p.a2 else p.a1

def Ptp.setBest (p : Ptp) (e2 : Bool) (a : Option (Announce × Nat)) : Ptp := if e2 then { p with a2 := a } else { p with a1 := a }

/-- A master is received on the port in use. -/
def Ptp.hasMaster (p : Ptp) : Bool := (p.best p.port).isSome

/-- The order of the keys of two lists, the first that differs deciding. -/
def lexLt : List Nat → List Nat → Bool
  | a :: r, b :: q => decide (a < b) || (decide (a = b) && lexLt r q)
  | _, _ => false

/-- `a` is the better master of the two: IEEE 1588's data set comparison (R426; PRESUMED, log 122). -/
def announceBetter (a b : Announce) : Bool :=
  if a.gm = b.gm then lexLt [a.steps, a.sender] [b.steps, b.sender]
  else lexLt [a.prio1, a.clkClass, a.accuracy, a.variance, a.prio2, a.gm.toNat] [b.prio1, b.clkClass, b.accuracy, b.variance, b.prio2, b.gm.toNat]

/-- An Announce is received in PTP_DOMAIN over PTP_TRANSPORT (R426): its sender is the port's master where the port has none,
where it is that master already, or where it is better. The port in use changes only where it receives no master. -/
def State.announce (e2 : Bool) (a : Announce) (s : State) : State :=
  let old := s.eth.ptp.best e2
  let take := match old with | some (b, _) => decide (a.sender = b.sender) || announceBetter a b | none => true
  if !s.ptpOn || !s.portOn e2 || decide (a.domain ≠ s.img.eth.ptpDomain) || a.udp != decide (s.img.eth.ptpTransport = 1) || !take then s
  else
    let s1 := s.modPtp fun p => p.setBest e2 (some (a, s.clock))
    let s2 := if s.eth.ptp.hasMaster then s1 else s1.modPtp fun p => { p with port := e2 }
    if s2.eth.ptp.port = e2 then s2.modPtp fun p => { p with gmid := a.gm } else s2

/-- ACQUIRING or LOCKED gives way to HOLDOVER (R427). -/
def State.ptpHoldover (s : State) : State :=
  let p := s.eth.ptp
  if p.st = 1 ∨ p.st = 2 then
    let s1 := (s.latchSet 0x9040 (16 * b2n (p.st == 2))).modPtp fun p =>
      { p with st := 3, good := 0, lockL := p.lockL || decide (p.st = 2) }
    ({ s1 with rate := s1.rateInt } : State).record 0x0E03 0 0 []
  else s

/-- The announce receipt timeout of a port expires: three announce intervals without one from its master (R426, R427). -/
def State.announceTimeout (e2 : Bool) (s : State) : State :=
  match s.eth.ptp.best e2 with
  | none => s
  | some (a, t) =>
    if !s.ptpOn || decide (s.clock < t + 3 * a.every) then s
    else
      let s1 := s.modPtp fun p => p.setBest e2 none
      match s1.eth.ptp.best (!e2) with
      | none => s1.ptpHoldover
      | some (b, _) => if s1.eth.ptp.port = e2 then s1.modPtp fun p => { p with port := !e2, gmid := b.gm } else s1

/-- The limit on a rate correction (R428). -/
def rateLimit (a : Rat) : Rat := max (-1 / 2000) (min (1 / 2000) a)

/-- The servo at one offset measurement (R428); `ts` is the interval between the last two Sync receipts in ns. At the first
Sync there is no such interval, and a stays (DESIGN CHOICE, log 123). -/
def State.servo (theta : Int) (ts : Rat) (s : State) : State :=
  let s1 :=
    if s.img.eth.stepNs < theta.natAbs then
      let s' := (s.latchSet 0x9040 8).modPtp fun p => { p with stepL := true }
      ({ s' with sysTime := (((s'.sysTime : Int) - theta * (2 ^ 32 : Nat)) % (2 ^ 96 : Nat)).toNat } : State).record 0x0E04 0 0 (leBytes 8 (ofSigned 64 theta))
    else if ts ≤ 0 then s
    else
      let ai := s.rateInt - (theta : Rat) / (16 * ts)
      { s with rateInt := ai, rate := ai - (theta : Rat) / (2 * ts) }
  { s1 with rateInt := rateLimit s1.rateInt, rate := rateLimit s1.rate }

/-- System time, in whole ns, `ago` ticks before the present one, at the present rate (R428). -/
def State.sysAt (ago : Nat) (s : State) : Nat :=
  ((((s.sysTime : Int) - ((ago * sysStep s.rate : Nat) : Int)) % (2 ^ 96 : Nat)).toNat) / 2 ^ 32

/-- A sync and delay exchange is complete (R427, R428): `origin` is the master's origin time with its correction, `delay` the mean
path delay, `ago` how many ticks ago the Sync was received. The exchange that starts the servo is also its first measurement. -/
def State.offsetMeasured (origin : Int) (delay ago : Nat) (s : State) : State :=
  if !s.ptpOn || !s.eth.ptp.hasMaster then s
  else
    let theta : Int := (s.sysAt ago : Int) - (origin + (delay : Int))
    let rx := s.clock - ago
    let ts : Rat := match s.eth.ptp.syncAt with | some t => ((rx - t : Nat) : Rat) * tickNs | none => 0
    let s1 := if s.eth.ptp.st = 0 ∨ s.eth.ptp.st = 3 then
        ({ s with rateInt := s.rate } : State).modPtp fun p => { p with st := 1, good := 0 }
      else s
    let s2 := (s1.modPtp fun p => { p with theta := theta, delay := min delay 0xFFFFFFFF, syncAt := some rx }).servo theta ts
    if s2.eth.ptp.st = 2 then
      if 10000 < theta.natAbs then ((s2.latchSet 0x9040 16).modPtp fun p => { p with st := 1, good := 0, lockL := true }).record 0x0E02 0 0 []
      else s2
    else
      let n := if theta.natAbs ≤ 1000 then s2.eth.ptp.good + 1 else 0
      if 16 ≤ n then (s2.modPtp fun p => { p with st := 2, good := 0 }).record 0x0E01 0 0 []
      else s2.modPtp fun p => { p with good := n }

/-- Every 1 s FREERUN is disciplined to the real-time clock, whose reading comes with the event (R429). -/
def State.rtcDiscipline (rtc : Nat) (s : State) : State :=
  if s.eth.ptp.st = 0 ∧ s.boot.rtcValid = true ∧ s.power.phase = .operating ∧ s.eth.ptp.discAt + secTicks 1 ≤ s.clock then
    let s1 : State := ({ s with boot := { s.boot with rtc := (rtc : Rat) } } : State).modPtp fun p => { p with discAt := s.clock }
    { s1 with rate := rateLimit (((rtc : Rat) - s1.sysNs) / 8000000000) }
  else s

/-- The real-time clock takes a time, and RTC_VALID (R429). -/
def State.setRtc (t : Rat) (s : State) : State := { s with boot := { s.boot with rtc := t, rtcSet := true, rtcValid := true } }

/-- Every 10 s while LOCKED (R429). -/
def State.rtcWrite (s : State) : State :=
  if s.eth.ptp.st = 2 ∧ s.power.phase = .operating ∧ s.eth.ptp.wrAt + secTicks 10 ≤ s.clock then
    (s.modPtp fun p => { p with wrAt := s.clock }).setRtc ((s.ns : Nat) : Rat)
  else s

/-! ### Remote I/O (R438 to R440) -/

/-- A remote-I/O datagram (R438). -/
def rioDatagram (kind addr hlow len qs data : Nat) : List Byte :=
  leBytes 1 kind ++ leBytes 1 addr ++ leBytes 2 hlow ++ leBytes 2 len ++ leBytes 1 qs ++ leBytes 1 0 ++ leBytes len data

def State.rioSend (ip : W32) (d : List Byte) (s : State) : State := s.ethSend (.udp ip 4961 d)

/-- KIND, ADDR, HLOW, LEN, QSTATE and the mapped data. -/
structure RioHead where
  kind : Nat
  addr : Nat
  hlow : Nat
  len : Nat
  qs : Nat
  data : Nat
  deriving DecidableEq, Repr

def rioParse (d : List Byte) : RioHead :=
  { kind := getN d 0 1, addr := getN d 1 1, hlow := getN d 2 2, len := getN d 4 2, qs := getN d 6 1, data := leNat (d.drop 8) }

/-- A consumed datagram that writes nothing (R411, R439). -/
def State.ethRioErr (late fmt dup : Bool) (s : State) : State :=
  let s0 := s.latchSet 0x900C (32768 * b2n fmt + 65536 * b2n late + 131072 * b2n dup)
  { s0 with eth := { s0.eth with
    rioerr := satInc 0x7FFF s.eth.rioerr, fmtl := s.eth.fmtl || fmt, latel := s.eth.latel || late, dupl := s.eth.dupl || dup } }

/-- An input frame at the master (R439). -/
def State.ethRioInput (src : W32) (d : List Byte) (s : State) : State :=
  let h := rioParse d
  if !s.rioRuns 4 || decide (s.img.eth.role ≠ 1) || decide (h.kind ≠ 3) then s
  else match rioCfg s.img 4 h.addr with
    | none => s
    | some c =>
      match s.station 4 c.addr with
      | none => s
      | some x =>
        if c.ip ≠ src then s
        else
          let late := decide (s.eth.syncH ≠ some h.hlow)
          let fmt := decide (h.len ≠ c.rxLen ∨ d.length ≠ 8 + h.len)
          let dup := !late && x.seen
          if late || fmt || dup then s.ethRioErr late fmt dup else s.rioArrive 4 c h.data h.qs

/-- The master's entry, where the datagram comes from the master (R440). -/
def State.ethMaster (src : W32) (s : State) : Option StationCfg :=
  if s.rioRuns 4 && decide (s.img.eth.role = 2) then s.img.eth.stations.find? fun c => decide (c.ip = src) else none

/-- The master's SYNC at a STATION (R440). -/
def State.ethRioSync (src : W32) (d : List Byte) (s : State) : State :=
  let h := rioParse d
  match s.ethMaster src with
  | some _ =>
    if h.kind ≠ 0 then s
    else match s.rioSyncIn 4 h.hlow with
      | (some (c, v, qs), s1) => s1.rioSend c.ip (rioDatagram 3 s.img.eth.addr h.hlow c.txLen qs v)
      | (none, s1) => s1
  | none => s

/-- The master's output frame at a STATION (R440). -/
def State.ethRioOutput (src : W32) (d : List Byte) (s : State) : State :=
  let h := rioParse d
  match s.ethMaster src with
  | some c =>
    if h.kind ≠ 2 ∨ h.addr ≠ s.img.eth.addr then s
    else if h.len ≠ c.rxLen ∨ d.length ≠ 8 + h.len then s.ethRioErr false true false
    else s.rioArrive 4 c h.data h.qs
  | none => s

/-- A STOP makes its sender unreachable (R439, R440). -/
def State.ethStop (src : W32) (addr : Nat) (s : State) : State :=
  if !s.rioRuns 4 then s
  else match s.img.eth.stations.find? fun c => decide (c.ip = src ∧ (s.img.eth.role = 2 ∨ c.addr = addr)) with
    | some c => s.rioLose 4 c
    | none => s

/-- The SYNC datagrams (R167, R439). -/
def State.ethSync (s : State) : State :=
  match s.syncDue 4 with
  | some h =>
    let s1 := (s.setSync 4 (some (h % 65536))).modStations 4 fun x => { x with seen := false }
    s1.img.eth.stations.foldl (fun s c => s.rioSend c.ip (rioDatagram 0 0 (h % 65536) 0 3 0)) s1
  | none => s

/-- The output datagrams of a deliver tick (R160, R170, R439). -/
def State.deliverEth (s : State) : State :=
  if !s.rioRuns 4 || decide (s.img.eth.role ≠ 1) then s
  else s.img.eth.stations.foldl (fun s c =>
    match s.station 4 c.addr with
    | none => s
    | some x =>
      if x.link = 1 then s.modStation 4 c.addr fun x => { x with undel := satInc 65535 x.undel }
      else if c.txLen = 0 then s
      else
        let d := s.txData c.maps
        s.rioSend c.ip (rioDatagram 2 c.addr (s.seq.hp % 65536) c.txLen d.2 d.1)) s

/-! ### Status, commit, faults, rungs, module states (R452, R453, R498) -/

/-- ETH_STAT [7:0]. -/
def ethByte (e : Eth) : Nat :=
  b2n e.e1link + 2 * e.e1spd + 8 * b2n e.e2link + 16 * e.e2spd + 64 * b2n e.svc + 128 * b2n e.fault

def State.ethStatus (s : State) : List (SlotRef × Nat) :=
  (match s.img.eth.statBind with | some r => [(r, ethByte s.eth + 256 * s.eth.ptp.st)] | none => []) ++
    (s.rioStatus 4).map fun p => (slotRef p.1, p.2)

/-- The committed image's stations, ports and PTP_EN (R427, R451). -/
def State.confEth (s : State) : State :=
  let e := s.img.eth
  let s1 : State := { s with eth := { s.eth with
    stations := freshStations e.stations
    e1link := s.eth.e1link && e.e1En, e1spd := if e.e1En then s.eth.e1spd else 0
    e2link := s.eth.e2link && e.e2En, e2spd := if e.e2En then s.eth.e2spd else 0 } }
  if e.ptpEn then s1 else s1.modPtp fun p => { p with st := 0, good := 0, a1 := none, a2 := none, gmid := 0, syncAt := none }

/-- An ETH fault (R453). -/
def State.stopEth (s : State) : State :=
  let s1 := (s.rioFail 4).ptpHoldover
  let s2 : State := { s1 with eth := { s1.eth with fault := true } }
  s2.r38 14 none (rioOwn s2.img 4 ++ s2.img.eth.statBind.toList.map (·.slot))

def State.retryEth (s : State) : State := { s with eth := { s.eth with fault := false, syncH := none, syncAt := s.clock } }

/-- REINIT: RETRY, and latches and counters at reset. -/
def State.reinitEth (s : State) : State :=
  let s1 := s.retryEth
  { s1 with eth := { s1.eth with
    rioerr := 0, fmtl := false, latel := false, dupl := false, onlyA := 0, onlyB := 0, cause := 0
    ptp := { s1.eth.ptp with stepL := false, lockL := false } } }

/-- The module becomes ACTIVE: it answers the service address, with a gratuitous ARP (R425). -/
def State.enterEth (take : Bool) (s : State) : State :=
  let s1 := s.rioEnter 4 take
  if s1.hasEth then ({ s1 with eth := { s1.eth with svc := true } } : State).ethSend (.arp s1.img.eth.ipSvc) else s1

/-- The module leaves ACTIVE: a STATION sends STOP, but for a planned hand-over (R425, R440). -/
def State.leaveEth (planned : Bool) (s : State) : State :=
  let s1 : State := { s with eth := { s.eth with svc := false, syncH := none } }
  if planned || decide (s.img.eth.role ≠ 2) || s.eth.fault then s1
  else s1.img.eth.stations.foldl (fun s c => s.rioSend c.ip (rioDatagram 4 s.img.eth.addr 0 0 0 0)) s1

end Sys2Proof.Machine
end

