-- ==== Sys2Proof/Machine/UslOps.lean ====
section
/-! DEFINITION. The Utsor safety layer (chapter 13): PDUs, sources, sinks and their watchdogs, and what faults, rungs
and module states do to the connections. -/

namespace Sys2Proof.Machine

/-! ### PDUs (R442, R443) -/

def uslPdu (connId : W32) (type flags seqn txTime : Nat) (data : List Byte) : List Byte :=
  let body := leBytes 1 type ++ leBytes 1 flags ++ leBytes 1 data.length ++ leBytes 1 0 ++ leBytes 4 seqn ++ leBytes 8 txTime ++ data
  body ++ leBytes 4 (uslCrc connId body).toNat

/-- The check value passes (R443). -/
def pduOk (connId : W32) (p : List Byte) : Bool :=
  let n := 16 + getN p 2 1
  decide (n + 4 ≤ p.length) && decide (getN p n 4 = (uslCrc connId (p.take n)).toNat)

/-- The sequence number after `n` (R444). -/
def seqNext (n : Nat) : Nat := if n ≥ 0xFFFFFFFF then 1 else n + 1

/-- How far `b` lies after `a`, modulo the sequence of 1 to FFFFFFFFh (R445). -/
def seqDist (a b : Nat) : Nat := (b + 0xFFFFFFFF - a) % 0xFFFFFFFF

def uslCfg (i : Image) (c : Nat) : Option UslCfg := findKey (·.conn) c i.usl.conns
def State.usl1 (c : Nat) (s : State) : Option UslSt := findKey (·.c) c s.usl.conns
def State.modUsl (c : Nat) (f : UslSt → UslSt) (s : State) : State :=
  { s with usl := { s.usl with conns := modifyKey (·.c) c f s.usl.conns } }

/-- Connections run only while the module is ACTIVE (R441), and stop with a USL fault (R453). -/
def State.uslRuns (s : State) : Bool := s.isActive && !s.usl.fault

/-- System time at send, or 0 when not LOCKED (R442). -/
def State.txTime (s : State) : Nat := if s.eth.ptp.st = 2 then s.ns else 0

/-- A PDU goes to the peer over the connection's medium (R441); `ack` takes the ACK identifier. -/
def State.uslSend (c : UslCfg) (ack : Bool) (p : List Byte) (s : State) : State :=
  if c.medium = 0 then s.ethSend (.udp c.peer 4962 p)
  else
    let ch := c.medium - 1
    let dlc := dlcFor p.length
    s.canQueue ch { ide := false, ident := if ack then c.peer.toNat / 65536 else c.peer.toNat % 2048, rtr := false, fdf := true
                    brs := canCfg s.img ch |>.elim false (·.brs), esi := false, dlc := dlc
                    data := (p ++ List.replicate 64 0).take (dlcLen true dlc) } none

/-! ### Slots (R445, R446) -/

/-- Fail-safe values: each mapped field takes its SUBST, with BAD and SUBST. -/
def State.uslFailSafe (c : UslCfg) (s : State) : State := s.putMaps c.maps (fun m => m.subst.toNat) fun _ => mkQ 0 true false false

/-- A connection goes PASSIVE (R446). -/
def State.uslPassivate (c : UslCfg) (cause : Nat) (s : State) : State :=
  let s1 := (s.latchSet (0x9500 + 4 * c.conn) 65536).modUsl c.conn fun x =>
    { x with st := 2, cause := cause, passL := true, passives := satInc 127 x.passives, reintRdy := false, ackW := false, good := 0 }
  (s1.uslFailSafe c).record 0x0F01 c.conn 0 []

/-- A PDU, or a source's ACK, is accepted (R446); `put` writes the slots that RUN gives. -/
def State.uslAccept (c : UslCfg) (put : State → State) (s : State) : State :=
  match s.usl1 c.conn with
  | none => s
  | some x =>
    let back (s : State) : State :=
      (put (s.modUsl c.conn fun x => { x with st := 1, reintRdy := false, ackW := false, good := 0 })).record 0x0F02 c.conn 0 []
    match x.st with
    | 0 => put (s.modUsl c.conn fun x => { x with st := 1 })
    | 1 => put s
    | _ =>
      if c.reint then
        if 8 ≤ x.good + 1 then back s else s.modUsl c.conn fun x => { x with good := x.good + 1 }
      else if x.reintRdy && x.ackW then back s
      else s.modUsl c.conn fun x => { x with reintRdy := true }

/-- A watchdog expires in PASSIVE (R446). -/
def State.uslQuiet (c : Nat) (s : State) : State :=
  s.modUsl c fun x => { x with wd := none, reintRdy := false, ackW := false, good := 0 }

/-! ### Sources (R444) -/

/-- A source's DATA PDU of a deliver tick; `disagree` lists the slots on which the safety core's comparison disagrees. -/
def State.uslBuild (disagree : List Nat) (c : UslCfg) (s : State) : State :=
  match s.usl1 c.conn with
  | none => s
  | some x =>
    let sq := match x.lastSeq with | some n => seqNext n | none => 1
    let fsv := decide (x.st = 2) || c.maps.any fun m => decide (m.ref.slot ∈ disagree) || !isGood (s.readRef m.ref).2
    let data := if fsv then (c.maps.map fun m => m.subst.toNat * 2 ^ m.bitofs).sum else (s.txData c.maps).1
    let s1 := s.modUsl c.conn fun x =>
      { x with lastSeq := some sq, fsv := fsv, sent := ((sq, s.clock) :: x.sent).filter fun p => decide (s.clock ≤ p.2 + c.wd) }
    s1.uslSend c false (uslPdu c.connId 1 (b2n fsv) sq s1.txTime (leBytes c.len data))

def State.deliverUsl (disagree : List Nat) (s : State) : State :=
  if !s.uslRuns then s else (s.img.usl.conns.filter fun c => !c.sink).foldl (fun s c => s.uslBuild disagree c) s

/-- A source receives an ACK (R444). -/
def State.uslAckTake (conn : Nat) (p : List Byte) (s : State) : State :=
  match uslCfg s.img conn, s.usl1 conn with
  | some c, some x =>
    let known := x.sent.any fun q => decide (q.1 = getN p 4 4 ∧ s.clock ≤ q.2 + c.wd)
    if !s.uslRuns || c.sink || !pduOk c.connId p || decide (getN p 0 1 ≠ 2 ∨ getN p 2 1 ≠ 0) || !known then s
    else (s.modUsl conn fun x => { x with wd := some (s.clock + c.wd) }).uslAccept c id
  | _, _ => s

/-- No valid ACK within WD (R444, R446). -/
def State.uslAckTimeout (conn : Nat) (s : State) : State :=
  match uslCfg s.img conn, s.usl1 conn with
  | some c, some x =>
    match x.wd with
    | some t =>
      if !s.uslRuns || c.sink || decide (s.clock < t) then s
      else if x.st = 2 then s.uslQuiet conn
      else (s.modUsl conn fun x => { x with wd := none }).uslPassivate c 3
    | none => s
  | _, _ => s

/-! ### Sinks (R445 to R447) -/

/-- A failed test breaks the run of accepted PDUs. -/
def State.uslReject (conn : Nat) (f : UslSt → UslSt) (s : State) : State := s.modUsl conn fun x => { f x with good := 0 }

/-- Test 4: the age lies outside -100 µs to WD. -/
def State.uslOld (c : UslCfg) (txTime : Nat) (s : State) : Bool :=
  let age : Rat := s.sysNs - ((txTime : Nat) : Rat)
  c.timechk && decide (s.eth.ptp.st = 2 ∧ txTime ≠ 0) && (decide (age < -100000) || decide ((c.wd : Rat) * tickNs < age))

/-- A PDU arrives at a sink (R445, R446). -/
def State.uslDataTake (conn : Nat) (p : List Byte) (s : State) : State :=
  match uslCfg s.img conn, s.usl1 conn with
  | some c, some x =>
    if !s.uslRuns || !c.sink then s
    else if !pduOk c.connId p then
      let again := match x.lastCrc with | some t => decide (s.clock ≤ t + secTicks 1) | none => false
      let s1 := s.uslReject conn fun x => { x with crcErr := satInc 255 x.crcErr, lastCrc := some s.clock }
      if again && decide (x.st = 1) then s1.uslPassivate c 2 else s1
    else
      let sq := getN p 4 4
      let far := match x.lastSeq with
        | some l => decide (seqDist l sq < 1 ∨ c.seqwin < seqDist l sq)
        | none => false
      if getN p 0 1 ≠ 1 ∨ getN p 2 1 ≠ c.len then s.uslReject conn fun x => { x with seqErr := satInc 255 x.seqErr }
      else if x.st = 1 ∧ (sq = 0 ∨ far = true) then s.uslReject conn fun x => { x with seqErr := satInc 255 x.seqErr }
      else if s.uslOld c (getN p 8 8) then s.uslReject conn fun x => { x with ageErr := satInc 255 x.ageErr }
      else
        let fsv := bit (getN p 1 1) 0
        let data := getN p 16 c.len
        let put (s : State) : State := if fsv then s.uslFailSafe c else s.putMaps c.maps (mapField data) fun _ => qGood
        let s1 := s.modUsl conn fun x => { x with lastSeq := some sq, wd := some (s.clock + c.wd), fsv := fsv }
        let s2 := s1.uslAccept c put
        s2.uslSend c true (uslPdu c.connId 2 0 sq s2.txTime [])
  | _, _ => s

/-- A sink's watchdog expires (R446, R447). -/
def State.uslExpire (conn : Nat) (s : State) : State :=
  match uslCfg s.img conn, s.usl1 conn with
  | some c, some x =>
    match x.wd with
    | some t =>
      if !s.uslRuns || !c.sink || decide (s.clock < t) then s
      else if x.st = 1 then (s.modUsl conn fun x => { x with wd := none }).uslPassivate c 1
      else s.uslQuiet conn
    | none => s
  | _, _ => s

/-- A PDU comes in over Ethernet, where a redundancy copy counts once (R424), or over CAN. -/
def State.uslVia (rx : Option EthRx) (len : Nat) (f : State → State) (s : State) : State :=
  match rx with
  | some r => s.ethIn r len f
  | none => f s

def State.uslDataIn (rx : Option EthRx) (conn : Nat) (p : List Byte) (s : State) : State :=
  s.uslVia rx p.length fun s => s.uslDataTake conn p

def State.uslAckIn (rx : Option EthRx) (conn : Nat) (p : List Byte) (s : State) : State :=
  s.uslVia rx p.length fun s => s.uslAckTake conn p

/-- A write of ACK (R446). -/
def State.uslAckWrite (conn : Nat) (s : State) : State :=
  s.modUsl conn fun x => if x.reintRdy then { x with ackW := true } else x

/-! ### Status, shadows, commit, faults, rungs, module states (R452, R453, R491, R498) -/

/-- USL_CSTAT. -/
def uslWord (c : UslCfg) (x : UslSt) : Nat :=
  x.st + 4 * b2n c.sink + 8 * b2n x.fsv + 16 * b2n x.reintRdy + 256 * x.cause + 65536 * b2n x.passL

def State.uslStatus (s : State) : List (SlotRef × Nat) :=
  s.img.usl.conns.filterMap fun c => (s.usl1 c.conn).map fun x => (slotRef c.statSlot, uslWord c x % 65536)

/-- A watchdog's expiry as a harvest number and an offset (R491); 0 and 0 where none runs. -/
def State.wdShadow (t : Option Nat) (s : State) : Nat × Nat :=
  match t with
  | some t =>
    let b : Int := (s.img.cycle.base : Int)
    let d : Int := (t : Int) - s.origin
    ((Int.fdiv d b).toNat, (d % b).toNat)
  | none => (0, 0)

def State.uslShadows (s : State) : List UslShadow :=
  s.usl.conns.map fun x =>
    let w := s.wdShadow x.wd
    { conn := x.c, state := x.st, seq := x.lastSeq.getD 0, reintRdy := x.reintRdy, wdH := w.1, wdOfs := w.2 }

def State.applyUsl (l : List UslShadow) (s : State) : State :=
  l.foldl (fun s h => s.modUsl h.conn fun x =>
    { x with st := h.state, lastSeq := if h.seq = 0 then none else some h.seq, reintRdy := h.reintRdy }) s

def State.confUsl (s : State) : State := { s with usl := { conns := s.img.usl.conns.map fun c => { c := c.conn } } }

/-- A connection starts at STARTING with SEQ 1 (R444, R446). -/
def State.uslStart (c : UslCfg) (s : State) : State :=
  let s1 := s.modUsl c.conn fun x =>
    { x with st := 0, fsv := false, reintRdy := false, ackW := false, lastSeq := none, good := 0, lastCrc := none, sent := []
             wd := if c.sink then none else some (s.clock + c.wd) }
  if c.sink then s1.uslFailSafe c else s1

/-- A connection continues from its shadow (R498): a source's next SEQ is the shadowed one plus 3, and each watchdog
expires at its shadowed harvest number and offset on the new grid. -/
def State.uslContinue (c : UslCfg) (h : UslShadow) (s : State) : State :=
  let t : Int := s.origin + ((h.wdH * s.img.cycle.base + h.wdOfs : Nat) : Int)
  let s1 := s.modUsl c.conn fun x =>
    { x with
      wd := if h.wdH = 0 ∧ h.wdOfs = 0 then none else some t.toNat
      sent := [], good := 0, ackW := false, lastCrc := none
      lastSeq := if c.sink then x.lastSeq else x.lastSeq.map fun n => seqNext (seqNext n) }
  if c.sink ∧ h.state ≠ 1 then s1.uslFailSafe c else s1

def State.enterUsl (take : Bool) (s : State) : State :=
  if s.usl.fault then s
  else s.img.usl.conns.foldl (fun s c =>
    match findKey (·.conn) c.conn s.pair.shUsl with
    | some h => if take then (s.applyUsl [h]).uslContinue c h else s.uslStart c
    | none => s.uslStart c) s

/-- The module leaves ACTIVE: no watchdog runs. -/
def State.leaveUsl (s : State) : State :=
  { s with usl := { s.usl with conns := s.usl.conns.map fun x => { x with wd := none, sent := [] } } }

/-- A USL fault (R453): every sink passivates with cause FAULT. -/
def State.stopUsl (s : State) : State :=
  let s1 : State := { s with usl := { s.usl with fault := true } }
  let s2 := (s1.img.usl.conns.filter (·.sink)).foldl (fun s c =>
    match s.usl1 c.conn with
    | some x => if x.st = 2 then s.uslFailSafe c else s.uslPassivate c 4
    | none => s) s1
  let s3 : State := { s2 with usl := { s2.usl with conns := s2.usl.conns.map fun x => { x with wd := none, sent := [] } } }
  s3.r38 15 none (s3.img.usl.conns.flatMap fun c => c.statSlot :: rxSlots c.maps)

/-- RETRY: connections restart (R453). -/
def State.retryUsl (s : State) : State :=
  let s1 : State := { s with usl := { s.usl with fault := false } }
  if s1.isActive then s1.img.usl.conns.foldl (fun s c => s.uslStart c) s1
  else { s1 with usl := { s1.usl with conns := s1.usl.conns.map fun x => { x with st := 0, lastSeq := none, reintRdy := false } } }

/-- REINIT: RETRY, and latches and counters at reset. -/
def State.reinitUsl (s : State) : State :=
  let s1 := s.retryUsl
  { s1 with usl := { s1.usl with
    cause := 0
    conns := s1.usl.conns.map fun x => { x with passL := false, crcErr := 0, seqErr := 0, ageErr := 0, passives := 0 } } }

end Sys2Proof.Machine
end

