-- ==== Sys2Proof/Machine/BrakeOps.lean ====
section
/-! DEFINITION. Safe brake control (chapter 14): demands, test pulses, channel faults and function tests, and what
faults, rungs and module states do to SO. -/

namespace Sys2Proof.Machine

def brakeCfg (i : Image) (k : Nat) : Option BrakeCfg := findKey (·.ch) k i.brake.chans
def State.brake (k : Nat) (s : State) : BrakeSt := s.so.chans.getD k { k := k }
def State.modBrake (k : Nat) (f : BrakeSt → BrakeSt) (s : State) : State :=
  { s with so := { s.so with chans := modifyAt s.so.chans k f } }

/-- RUN of SO_STAT. -/
def State.soRuns (s : State) : Bool := s.isActive && !s.so.fault

/-! ### Release and demand (R26, R454, R455, R460) -/

/-- A BOOL field reads TRUE and GOOD, and the safety core's comparison agrees on its slot (R26). -/
def State.brakeTrue (r : SlotRef) (s : State) : Bool :=
  let v := s.readBool r
  v.1 && isGood v.2 && !s.so.disagree.contains r.slot

/-- The conditions of R454 other than MIN_OFF. -/
def State.brakeHolds (c : BrakeCfg) (s : State) : Bool :=
  let x := s.brake c.ch
  s.soRuns && decide (x.st = .off ∨ x.st = .on) && s.brakeTrue c.relRef && (c.permRef.elim true fun r => s.brakeTrue r) && s.so.fsSq

/-- The pulse that a demand in tick `now` abandons (R460), by its switch: one that runs, starts or ends in that tick. -/
def BrakeSt.pulseAt (now : Nat) (x : BrakeSt) : Option Bool :=
  if x.pulse.isSome || decide (x.nextAt = now) then some x.lowNext
  else if x.endAt = some now then some (!x.lowNext)
  else none

/-- The channel de-energises and goes to `st` (R455): both switches off, the freewheel path open, a pulse abandoned. -/
def BrakeSt.deenergise (now : Nat) (st : BrakeState) (x : BrakeSt) : BrakeSt :=
  let y : BrakeSt := { x with st := st, hs := false, ls := false, freewheel := false, lastOff := some now, pulse := none, passed := false
                              lowNext := false, endAt := none }
  match x.pulseAt now with
  | some low => { y with lowNext := low, aband := satInc 0x7FFF x.aband, abandL := true }
  | none => y

/-- The latches of SO_BSTAT that a channel about to leave ON sets (R125): ABANDL with a pulse, and FAULTL in a fault. -/
def State.brakeLatch (k : Nat) (fault : Bool) (s : State) : State :=
  s.latchSet (0x8C4C + 0x20 * k)
    (16384 * b2n ((s.brake k).st = .on && ((s.brake k).pulseAt s.clock).isSome) + 32768 * b2n fault)

/-- A demand (R454, R457). -/
def State.brakeDemand (k : Nat) (s : State) : State :=
  if (s.brake k).st = .on then (s.brakeLatch k false).modBrake k fun x => x.deenergise s.clock .off else s

/-- Every channel that is ON without its conditions de-energises in this tick. -/
def State.soLook (s : State) : State :=
  s.img.brake.chans.foldl (fun s c => if (s.brake c.ch).st = .on ∧ s.brakeHolds c = false then s.brakeDemand c.ch else s) s

/-- TP_PERIOD ÷ 2 in ticks. -/
def halfPeriod (c : BrakeCfg) : Nat := 200000 * c.tpPeriod

/-- The channel energises its coil (R457, R459). -/
def State.brakeOn (k : Nat) (s : State) : State :=
  match brakeCfg s.img k with
  | none => s
  | some c =>
    let x := s.brake k
    let rested := match x.lastOff with | some t => decide (t + msTicks c.minOff ≤ s.clock) | none => true
    if decide (x.st = .off) && s.brakeHolds c && rested then
      s.modBrake k fun x => { x with
        st := .on, hs := true, ls := true, freewheel := false, nextAt := s.clock + halfPeriod c, pulse := none, passed := false
        endAt := none, hsSince := s.clock, lsSince := s.clock }
    else s

/-- FS_SQ_24V lies within 18 V to 32 V, or does not, as an event reports it. -/
def State.setFsSq (ok : Bool) (s : State) : State := { s with so := { s.so with fsSq := ok } }

/-! ### Channel faults (R457, R462, R502) -/

/-- The end of a function test is recorded: 0 PASS, 1 FAIL, 2 ABORTED. -/
def State.testRecord (k out : Nat) (s : State) : State := s.recordSev (if out = 0 then 0 else 1) 0x0D01 k 0 (leBytes 1 out)

/-- A channel fault: FAULTED with both switches off, recorded with its cause. -/
def State.brakeFail (k cause : Nat) (s : State) : State :=
  let x := s.brake k
  if (brakeCfg s.img k).isNone || !decide (x.st = .off ∨ x.st = .on ∨ x.st = .testing) then s
  else
    let s1 := (s.brakeLatch k true).modBrake k fun x =>
      let y := if x.st = .on then x.deenergise s.clock .faulted else { x with st := .faulted, hs := false, ls := false, freewheel := false }
      { y with phase := 0, fromReq := false, fcause := cause, faultL := true }
    s1.record 0x0D02 k 0 (leBytes 1 cause)

/-- The pulse that has failed its check has ended; it is not abandoned. -/
def State.brakePulseFail (k : Nat) (s : State) : State :=
  (s.modBrake k fun x => { x with pulse := none, passed := false, nextAt := 0, endAt := none }).brakeFail k 1

/-! ### Test pulses (R459, R461) -/

def State.brakePulseStart (k : Nat) (s : State) : State :=
  match brakeCfg s.img k with
  | none => s
  | some c =>
    let x := s.brake k
    if x.st = .on ∧ x.pulse = none ∧ x.nextAt ≤ s.clock then
      s.modBrake k fun x => { x with
        pulse := some s.clock, passed := false, freewheel := true, nextAt := s.clock + halfPeriod c
        hs := x.lowNext, ls := !x.lowNext }
    else s

/-- The pulsed switch's pin reads off by the 50 µs, or does not. -/
def State.brakePulseCheck (k : Nat) (off : Bool) (s : State) : State :=
  let x := s.brake k
  match x.pulse with
  | none => s
  | some t0 =>
    if x.passed then s
    else if off ∧ s.clock ≤ t0 + 20000 then
      s.modBrake k fun x => { x with
        passed := true, pulses := satInc 0xFFFF x.pulses
        hsSince := if x.lowNext then x.hsSince else s.clock
        lsSince := if x.lowNext then s.clock else x.lsSince }
    else if t0 + 20000 ≤ s.clock then s.brakePulseFail k
    else s

def State.brakePulseEnd (k : Nat) (s : State) : State :=
  match brakeCfg s.img k with
  | none => s
  | some c =>
    let x := s.brake k
    match x.pulse with
    | none => s
    | some t0 =>
      if s.clock < t0 + usTicks c.tpWidth then s
      else if x.passed then
        s.modBrake k fun x => { x with pulse := none, passed := false, hs := true, ls := true, freewheel := false
                                       lowNext := !x.lowNext, endAt := some s.clock }
      else s.brakePulseFail k

/-- A switch has had no passed pulse for TP_PERIOD, the 50 µs of a pulse that starts then included. -/
def State.brakePulseOverdue (k : Nat) (s : State) : State :=
  match brakeCfg s.img k with
  | none => s
  | some c =>
    let x := s.brake k
    if x.st = .on ∧ min x.hsSince x.lsSince + 2 * halfPeriod c + 20000 < s.clock then s.brakeFail k 1 else s

/-- A cause that the 100 µs readback may raise in the channel's present state (R462). -/
def faultFits (c : BrakeCfg) (x : BrakeSt) (cause mA : Nat) : Bool :=
  match cause with
  | 1 => !x.hs && !x.ls && decide (10 < mA)
  | 2 => x.hs || x.ls
  | 3 => decide (x.st = .on ∧ mA < c.iMin)
  | 4 => decide (2600 < mA)
  | 5 => true
  | _ => false

/-- The 100 µs readback: the measurement, and the fault that it raises. -/
def State.brakeMeasure (k cause mA vhs vls : Nat) (s : State) : State :=
  match brakeCfg s.img k with
  | none => s
  | some c =>
    let s1 := s.modBrake k fun x => { x with mA := min mA 65535, vhs := min vhs 255, vls := min vls 255 }
    if faultFits c (s1.brake k) cause mA then s1.brakeFail k cause else s1

/-! ### Function test (R464, R465) -/

/-- The conditions of R464. -/
def State.mayTest (k : Nat) (s : State) : Bool :=
  s.soRuns && s.so.fsSq && (brakeCfg s.img k).isSome && decide ((s.brake k).st = .off ∨ (s.brake k).st = .testRequired)

/-- A test begins with HS_ONLY. -/
def State.testStart (k : Nat) (s : State) : State :=
  s.modBrake k fun x => { x with st := .testing, fromReq := decide (x.st = .testRequired), phase := 1, phaseAt := s.clock
                                 hs := true, ls := false, freewheel := false }

def BrakeSt.endTest (st : BrakeState) (x : BrakeSt) : BrakeSt :=
  { x with st := st, phase := 0, fromReq := false, hs := false, ls := false, freewheel := false }

/-- A test ends with a pass, and its time is stored. -/
def State.testPass (k : Nat) (s : State) : State :=
  (s.modBrake k fun x => { x.endTest .off with fcause := 0, testTime := s.ns, testAt := some s.clock, due := false }).testRecord k 0

/-- A test fails: the fault TEST. -/
def State.testFail (k : Nat) (s : State) : State := (s.brakeFail k 6).testRecord k 1

/-- A test is aborted: OFF, or TEST_REQUIRED where it began there. -/
def State.testAbort (k : Nat) (s : State) : State :=
  if (s.brake k).st = .testing then
    (s.modBrake k fun x => x.endTest (if x.fromReq then .testRequired else .off)).testRecord k 2
  else s

/-- A phase ends; `ok` is the reading of HS_ONLY and LS_ONLY. -/
def State.testPhase (k : Nat) (ok : Bool) (s : State) : State :=
  match brakeCfg s.img k with
  | none => s
  | some c =>
    let x := s.brake k
    let len := if x.phase = 3 then 100 * c.testHold else 20
    if x.st ≠ .testing ∨ s.clock < x.phaseAt + msTicks len then s
    else match x.phase with
      | 3 => if c.torqRef.elim true fun r => s.brakeTrue r then s.testPass k else s.testFail k
      | 2 => if ok then s.modBrake k fun x => { x with phase := 3, phaseAt := s.clock, hs := false, ls := false } else s.testFail k
      | _ => if ok then s.modBrake k fun x => { x with phase := 2, phaseAt := s.clock, hs := false, ls := true } else s.testFail k

/-- TEST_INTERVAL has passed since the last passed test. -/
def State.testDue (k : Nat) (s : State) : State :=
  match brakeCfg s.img k, (s.brake k).testAt with
  | some c, some t =>
    if (s.brake k).due = false ∧ t + secTicks (3600 * c.testInterval) < s.clock then
      (s.modBrake k fun x => { x with due := true }).record 0x0D06 k 0 []
    else s
  | _, _ => s

/-- FAULTED becomes TEST_REQUIRED (R457). -/
def State.soClear (k : Nat) (s : State) : State := (s.modBrake k fun x => { x with st := .testRequired }).record 0x0D03 k 0 []

/-! ### Status (R87, R474) -/

def BrakeState.code : BrakeState → Nat
  | .off => 0 | .on => 1 | .testing => 2 | .faulted => 3 | .testRequired => 4

/-- Bits 11 to 0 of SO_BSTAT. -/
def brakeBits (x : BrakeSt) : Nat :=
  x.st.code + 8 * x.phase + 32 * b2n x.due + 64 * b2n x.pulse.isSome +
    256 * (if x.st = .faulted ∨ x.st = .testRequired then x.fcause else 0)

def State.soStatus (s : State) : List (SlotRef × Nat) :=
  s.img.brake.chans.filterMap fun c => c.statBind.map fun r => (r, brakeBits (s.brake c.ch) + 65536 * (s.brake c.ch).mA)

/-- A configured channel is de-energised by a demand (R87). -/
def State.soDemand (s : State) : Bool :=
  s.img.brake.chans.any fun c => decide ((s.brake c.ch).st ≠ .on) && (s.brake c.ch).lastOff.isSome

/-! ### Module states, commit, faults, rungs (R458, R475) -/

/-- Every channel de-energises and every test is aborted. -/
def State.leaveSo (s : State) : State :=
  let s1 := (List.range 4).foldl (fun s k => (s.brakeDemand k).testAbort k) s
  { s1 with so := { s1.so with disagree := [] } }

/-- The safety core's store keeps FAULTED and TEST_REQUIRED with their causes, and the passed tests. -/
def BrakeSt.persist (x : BrakeSt) : BrakeSt :=
  let keep : BrakeState := match x.st with
    | .faulted => .faulted
    | .testRequired => .testRequired
    | .testing => if x.fromReq then .testRequired else .off
    | _ => .off
  { k := x.k, st := keep, fcause := if keep = .off then 0 else x.fcause, lastOff := x.lastOff, testTime := x.testTime, testAt := x.testAt }

def So.persist (x : So) : So :=
  { chans := x.chans.map BrakeSt.persist, safeDigest := x.safeDigest, prevDigest := x.prevDigest, salt := x.salt
    verifier := x.verifier, safeLatch := x.safeLatch, changes := x.changes, changeNum := x.changeNum }

/-- The store takes the committed section's SALT and VERIFIER (R468). -/
def State.confSo (s : State) : State := { s with so := { s.so with salt := s.img.brake.salt, verifier := s.img.brake.verifier } }

/-- The status words are written anew. -/
def State.soRewrite (s : State) : State :=
  { s with statLast := s.statLast.filter fun p => s.img.brake.chans.all fun c =>
      c.statBind.all fun r => decide (p.1 ≠ r.slot + 65536 * r.bitpos) }

/-- An SO fault: R38 applies to SO's slots other than the status slots. -/
def State.stopSo (s : State) : State :=
  let s1 := s.leaveSo
  let s2 : State := { s1 with so := { s1.so with fault := true } }
  s2.soRewrite.r38 13 none (s2.img.brake.chans.filterMap fun c => c.statBind.map (·.slot))

def State.retrySo (s : State) : State := ({ s with so := { s.so with fault := false } } : State).soRewrite

/-- REINIT: RETRY, and latches and counters at reset. -/
def State.reinitSo (s : State) : State :=
  let s1 := s.retrySo
  { s1 with so := { s1.so with
    cause := 0
    chans := s1.so.chans.map fun x => { x with abandL := false, faultL := false, pulses := 0, aband := 0 } } }

/-- The comparison's verdicts of a deliver tick (R26, R454): a disagreement is a demand. -/
def State.deliverSo (disagree : List Nat) (s : State) : State := { s with so := { s.so with disagree := disagree } }

/-! ### Safety password and change log (R468 to R471) -/

/-- SAFETY_UNLOCK's password matches (R469). -/
def State.pwdOk (pwd : List Byte) (s : State) : Bool := decide (sha256 (s.so.salt ++ pwd) = s.so.verifier)

/-- SAFETY_UNLOCK is refused for 300 s after the third wrong password in a row (R469). -/
def State.pwdLocked (s : State) : Bool :=
  match s.so.pwdLock with | some t => decide (s.clock < t + secTicks 300) | none => false

/-- A session holds a safety unlock (R469). -/
def Session.unlocked (now : Nat) (x : Session) : Bool :=
  match x.unlock with | some t => decide (now ≤ t + secTicks 600) | none => false

/-- An entry's 32 bytes (R471). -/
def ChangeEntry.bytes (e : ChangeEntry) : List Byte :=
  leBytes 4 (e.num + 2147483648 * b2n e.reverted) ++ leBytes 4 e.seqNo ++ leBytes 8 e.time ++
    (e.digest ++ List.replicate 8 0).take 8 ++ (e.who ++ List.replicate 8 0).take 8

/-- A commit stores its SAFE_DIGEST before its mark is written (R468, R470): a change is logged. -/
def State.storeSafe (d : List Byte) (seqNo : Nat) (who : List Byte) (s : State) : State :=
  if s.so.safeDigest = some d then s
  else
    let n := (s.so.changeNum + 1) % 2147483648
    let e : ChangeEntry := { num := n, seqNo := seqNo, time := s.ns, digest := d.take 8, who := who.take 8 }
    let s1 : State := { s with so := { s.so with
      prevDigest := s.so.safeDigest, safeDigest := some d, changes := (e :: s.so.changes).take 64, changeNum := n } }
    s1.record 0x0D04 0 0 e.bytes

end Sys2Proof.Machine
end

