-- ==== Sys2Proof/Machine/SeqOps.lean ====
section
/-! DEFINITION. The sequencers: lanes, passes and their kept state, and what faults, rungs and module states do to SEQ;
the windows and registers of SEQ and IMG (chapters 05 and 06). -/

namespace Sys2Proof.Machine

/-! ### The lists of a network (R209) -/

def laneInsts (i : Image) (k : Nat) : List Inst := i.net.insts.filter fun x => decide (x.lane = k)
def laneStart (i : Image) (k : Nat) : Nat := (i.net.insts.filter fun x => decide (x.lane < k)).length
def laneCfg (i : Image) (k : Nat) : LaneCfg := i.cycle.lanes.getD k {}

/-- A lane's instances as at its last publication. -/
def State.laneKept (k : Nat) (s : State) : List InstSt :=
  (s.seq.insts.drop (laneStart s.img k)).take (laneInsts s.img k).length

def State.lane (k : Nat) (s : State) : LaneSt := s.seq.lanes.getD k {}
def State.modLane (k : Nat) (f : LaneSt → LaneSt) (s : State) : State := { s with seq := { s.seq with lanes := modifyAt s.seq.lanes k f } }

/-- The lane has an unfinished pass. -/
def LaneSt.unfinished (l : LaneSt) : Bool := l.pass.any fun p => !p.ended

/-! ### Starting fresh (R207) -/

/-- An instance that starts fresh, with RINIT from the slot bound to the principal output. -/
def State.startInst (i : Inst) (s : State) : InstSt :=
  let b := if i.rinit then (instSig i).prin.bind fun o => (i.binds.getD o none) else none
  match b with
  | some r =>
    let v := s.readRef r
    if isBad v.2 then freshInst i else rinitInst i v.1.toNat
  | none => freshInst i

def State.startInsts (s : State) : List InstSt := s.img.net.insts.map fun i => s.startInst i

/-! ### Module states, faults and rungs (R154, R166) -/

/-- Every pass is abandoned. -/
def Seq.abandon (q : Seq) : Seq :=
  { q with lanes := q.lanes.map fun l => { l with pass := none }, due := false, eval := false, deliver := none, skip := false }

/-- A SEQ fault; `restart` keeps which passes were abandoned. -/
def State.stopSeq (s : State) : State :=
  let q : Seq := { s.seq with lanes := s.seq.lanes.map fun l => { l with restart := l.restart || l.pass.isSome } }
  let s1 : State := { s with seq := { q.abandon with fault := true, hold := true } }
  s1.r38 4 none []

/-- RETRY: passes begin again at the next harvest tick. -/
def State.retrySeq (s : State) : State := { s with seq := { s.seq with hold := false } }

/-- REINIT: every instance starts fresh, and the registers but FAULT and CAUSE are at reset. -/
def State.reinitSeq (s : State) : State :=
  { s with seq := { s.seq with
      hold := false, h := 0, htick := 0, insts := s.startInsts
      lanes := s.seq.lanes.map fun l => { pass := l.pass, deferred := l.deferred, restart := l.restart } } }

/-- The module leaves ACTIVE: no pass runs, and SEQ writes no slot. -/
def State.leaveSeq (s : State) : State :=
  let q := s.seq.abandon
  { s with seq := { q with mirror := false, lanes := q.lanes.map fun l => { l with deferred := false, restart := false } } }

/-- The committed network's instances start fresh, with RINIT (R207). -/
def State.confSeq (s : State) : State := { s with seq := { insts := s.startInsts } }

/-- The module becomes ACTIVE: every instance starts fresh, from the slots as they stand. -/
def State.enterSeq (s : State) : State := { s with seq := { s.seq with insts := s.startInsts, skip := false, skipped := false } }

/-! ### SEQ registers -/

def rdSeqStat (s : State) : Nat :=
  let u (f : LaneSt → Bool) : Nat := ((List.range 4).map fun k => b2n (f (s.lane k)) * 2 ^ k).sum
  b2n (s.isActive && !s.seq.hold) + 2 * b2n s.seq.fault + 16 * s.seq.cause + 256 * u LaneSt.unfinished + 4096 * u (·.deferred)

def rdSeqLstat (s : State) (k : Nat) : Nat := min (s.lane k).ovrCons 255 + 256 * (s.lane k).ovrTotal

/-! ### IMG registers (R228) -/

def rdImgNet (s : State) : Nat := if s.committed then s.img.net.insts.length else 0
def rdImgLane (s : State) (k : Nat) : Nat := if s.committed then (laneInsts s.img k).length else 0
def rdImgLcost (s : State) (k : Nat) : Nat := if s.committed then laneCost s.img.net.insts k % 2 ^ 24 else 0

/-- A write of IMG_SLOT_IDX captures the slot as hosts see it. -/
def State.captureSlot (v : W32) (s : State) (m : MasterSt) : MasterSt :=
  let i := v.toNat % 65536
  let c := s.readSlot i
  { m with slotIdx := i, slotVal := c.1, slotQual := c.2, slotEntry := s.entry i }

def rdImgSlotInfo (m : MasterSt) : Nat :=
  let e := m.slotEntry
  m.slotQual.toNat + 256 * ownFunc e + 4096 * b2n (ownAssigned e) + 8192 * b2n (ownRet e) + 16384 * b2n (ownSafety e) +
    32768 * ownUnit e + 67108864 * b2n (ownHeld e)

/-- The words of an instance's outputs, in output order. -/
def outWords (i : Inst) (k : InstSt) : List W32 := (List.zip (instSig i).outs k.outs).flatMap fun p => toWs p.1 p.2.1.toNat

/-- A write of IMG_INST_IDX captures the instance as at its lane's last publication. -/
def State.captureInst (v : W32) (s : State) (m : MasterSt) : MasterSt :=
  let n := v.toNat % 65536
  let base : MasterSt := { m with instIdx := n, instValid := false, instId := 0, instType := 0, instOq := [], instOut := [], instKs := [] }
  match s.img.net.insts[n]?, s.seq.insts[n]? with
  | some i, some k =>
    { base with
      instValid := true, instId := BitVec.ofNat 32 i.ident
      instType := BitVec.ofNat 32 (i.btype + 65536 * i.dtype + 16777216 * i.lane + 67108864)
      instOq := k.outs.map (·.2), instOut := outWords i k, instKs := k.ks }
  | _, _ => base

/-- A write of IMG_FIND_ID looks an identity up. -/
def State.findInst (v : W32) (s : State) (m : MasterSt) : MasterSt :=
  let m1 : MasterSt := { m with findId := v }
  match s.img.net.insts.findIdx? fun i => decide (i.ident = v.toNat) with
  | some n => s.captureInst (BitVec.ofNat 32 n) m1
  | none => { m1 with instValid := false, instId := 0, instType := 0, instOq := [], instOut := [], instKs := [] }

def rdImgOq (m : MasterSt) : Nat := leNat (m.instOq.take 4)

end Sys2Proof.Machine
end

