-- ==== Sys2Proof/Machine/MsOps.lean ====
section
/-! DEFINITION. The milestone scheduler (chapter 07): prediction, crossings, firing, pulses, domain states, and what
faults, rungs, commits and takeovers do to it. -/

namespace Sys2Proof.Machine

/-! ### Cycles and angles (R229, R230, R234) -/

def rev24 : Nat := 2 ^ 24

def domCfg (i : Image) (d : Nat) : DomCfg := i.ms.doms.getD d {}

/-- The length of a domain's cycle in counts; ticks for D7. -/
def cycLen (c : DomCfg) (d : Nat) : Nat := if d < 4 then c.periodRev * rev24 else if d < 7 then rev24 else c.zero

/-- The angle of tooth k within a revolution: floor(k × 2^24 ÷ TEETH). -/
def pitchAt (c : DomCfg) (k : Nat) : Nat := k * rev24 / c.teeth

/-- The angle of tooth `k` in revolution `r` (R234). -/
def toothPos (c : DomCfg) (k r : Nat) : Int := ((c.zero + r * rev24 + pitchAt c k) % (c.periodRev * rev24) : Nat)

def lastTooth (c : DomCfg) : Nat := c.teeth - c.missing - 1

/-- The tooth that follows `k` in the direction of motion, and the signed angle to it. -/
def nextTooth (c : DomCfg) (rev : Bool) (k : Nat) : Nat × Int :=
  if rev then
    if k = 0 then (lastTooth c, -((rev24 - pitchAt c (lastTooth c) : Nat) : Int))
    else (k - 1, -((pitchAt c k - pitchAt c (k - 1) : Nat) : Int))
  else
    if k = lastTooth c then (0, ((rev24 - pitchAt c k : Nat) : Int))
    else (k + 1, ((pitchAt c (k + 1) - pitchAt c k : Nat) : Int))

/-- The tooth at which the gap ends: tooth 0, or the last tooth in reverse (log 41). -/
def gapTooth (c : DomCfg) (rev : Bool) : Nat := if rev then lastTooth c else 0

/-! ### Prediction (R240 to R242) -/

def rat64 (a : F64) : Rat := F64.toRat a

/-- P at a tick, counted from the zero of the model's cycle: the model of R240 in binary64, with the holds of R241 for
D0 to D3. -/
def Mdl.at (m : Mdl) (clamp : Bool) (t : Int) : Rat :=
  let tau : Rat := ((16 * t - (m.t16 : Int) : Int) : Rat) / 16
  let tf := F64.ofRat tau
  let a := F64.ofInt m.pos
  let p := rat64 (F64.add (F64.add a (F64.mul m.we tf)) (F64.div (F64.mul m.alpha (F64.mul tf tf)) F64.two))
  if !clamp then p
  else
    let w := rat64 m.we
    let al := rat64 m.alpha
    let fwd := if m.rev then -w else w
    let q : Rat :=
      if fwd ≤ 0 then (m.pos : Rat)
      else if (if m.rev then -al else al) < 0 ∧ -w / al < tau then (m.pos : Rat) - w * w / (2 * al)
      else p
    match m.lim with
    | some l => if m.rev then max q (l : Rat) else min q (l : Rat)
    | none => q

/-- Speed in counts per tick at a tick. -/
def Mdl.speed (m : Mdl) (t : Nat) : Rat := rat64 m.we + rat64 m.alpha * (((16 * t : Nat) : Int) - (m.t16 : Int) : Int) / 16

def State.dom (d : Nat) (s : State) : DomSt := s.ms.doms.getD d {}

def State.modDom (d : Nat) (f : DomSt → DomSt) (s : State) : State :=
  { s with ms := { s.ms with doms := modifyAt s.ms.doms d f } }

/-- The whole position of a domain at tick `t + adv`: cycles times the cycle plus P; `old` takes the model before the
latest update point. -/
def State.whole (d : Nat) (t adv : Int) (old : Bool) (s : State) : Option Rat :=
  let c := domCfg s.img d
  let n : Rat := (cycLen c d : Rat)
  if d = 7 then
    if s.mode = .active then some (((s.dom 7).cycles : Rat) * n + ((t + adv - s.origin : Int) : Rat)) else none
  else
    match (if old then (s.dom d).old else (s.dom d).mdl) with
    | some m =>
      if (if old then (s.dom d).edgeOld else (s.dom d).edgeOnly) then some ((m.cyc : Rat) * n + (m.pos : Rat))
      else some ((m.cyc : Rat) * n + m.at (decide (d < 4)) (t + adv))
    | none => none

/-- Q(t − 1) and Q(t) of R242: in an update-point tick the first belongs to the old model. -/
def State.arc (d : Nat) (adv : Int) (s : State) : Option (Rat × Rat) :=
  let t : Int := s.clock
  let o := decide (d ≠ 7 ∧ (s.dom d).up = s.clock)
  match s.whole d (t - 1) adv o, s.whole d t adv false with
  | some a, some b => some (a, b)
  | _, _ => none

/-- The direction of motion: the sensed or given one for D0 to D3, the sign of the speed for D4 to D6. -/
def State.domRev (d : Nat) (s : State) : Bool :=
  if d < 4 then (s.dom d).rev
  else if d < 7 then (match (s.dom d).mdl with | some m => decide (rat64 m.we < 0) | none => false)
  else false

/-- The whole position at which target `th` is crossed in the arc (R242). -/
def crossAt (cyc : Nat) (rev : Bool) (th : Nat) (a b : Rat) : Option Rat :=
  let n : Rat := (cyc : Rat)
  let len := if rev then a - b else b - a
  let r := (if rev then a - (th : Rat) else (th : Rat) - a) / n
  let off := (r - (r.floor : Rat)) * n
  let off := if off = 0 then n else off
  if len < n / 2 ∧ off ≤ len then some (if rev then a - off else a + off) else none

def cycleOf (cyc : Nat) (x : Rat) : Int := (x / (cyc : Rat)).floor

/-- The cycle that a domain is in. -/
def State.cycleNow (d : Nat) (s : State) : Int :=
  match s.whole d s.clock 0 false with
  | some x => cycleOf (cycLen (domCfg s.img d) d) x
  | none => (s.dom d).cycles

/-! ### Registers and status slots (R268, MS_DSTAT to MS_DACC) -/

/-- Position within the cycle as a count (R230); while SEEKING has not found it, a value that the spec does not state
(log 5); 0, the register's reset value, where no model stands (log 45). -/
def State.domPos (d : Nat) (s : State) : Nat :=
  let n := cycLen (domCfg s.img d) d
  let known := decide (4 ≤ d) || (match (s.dom d).mdl with | some m => m.lim.isSome | none => true)
  match s.whole d s.clock 0 false with
  | some x =>
    if d = 7 then (x.floor % (n : Int)).toNat
    else if known then (roundUnits x.num x.den % (n : Int)).toNat
    else Config.openPos d s.clock % n
  | none => 0

def State.domTrack (d : Nat) (s : State) : Bool := decide ((s.dom d).st ≠ 0)

/-- Units of R268: rpm for D0 to D3, Hz for D4 to D6. -/
def unitScale (d : Nat) : Rat := if d < 4 then 60 * 400000000 / (rev24 : Rat) else if d < 7 then 400000000 / (rev24 : Rat) else 0

def State.domSpeed (d : Nat) (s : State) : F32 :=
  match (s.dom d).mdl with
  | some m => if (s.dom d).st = 1 then 0 else F32.ofRat (m.speed s.clock * unitScale d)
  | none => 0

def State.domAcc (d : Nat) (s : State) : F32 :=
  match (s.dom d).mdl with
  | some m => if (s.dom d).st = 1 then 0 else F32.ofRat (rat64 m.alpha * 400000000 * unitScale d)
  | none => 0

def State.domStat (d : Nat) (s : State) : Nat :=
  let x := s.dom d
  x.st + 8 * b2n (s.domRev d) + 16 * b2n x.lostL + 256 * x.cause + 65536 * x.lostCount

def State.domVrms (d : Nat) (s : State) : F32 :=
  if d = 4 ∨ d = 5 then to32 (s.dom d).mag
  else if d = 6 then to32 (F64.sub (s.dom 5).mag (s.dom 4).mag) else 0

def domQ (st : Nat) : Byte := if st = 4 ∨ st = 1 then qGood else if st = 5 ∨ st = 0 then qBad else qUncertain

/-- The five slots of a domain are written together (R268). -/
def State.msDomWrite (d : Nat) (s : State) : State :=
  let c := domCfg s.img d
  match c.statBase with
  | none => s
  | some b =>
    if !c.enable || s.ms.fault || s.mode = .fault || s.mode = .unconfigured then s
    else
      let q := domQ (s.dom d).st
      ((((s.writeSlot b (BitVec.ofNat 32 (s.domPos d)) q).writeSlot (b + 1) (s.domSpeed d) q).writeSlot (b + 2) (s.domAcc d) q
        ).writeSlot (b + 3) (BitVec.ofNat 32 (s.domStat d % 65536)) qGood).writeSlot (b + 4) (s.domVrms d) q

/-- Every domain's slots in a harvest tick (R268). -/
def State.msHarvest (s : State) : State := (List.range 8).foldl (fun s d => s.msDomWrite d) s

/-! ### Slots (R250) -/

def msCfg (i : Image) (n : Nat) : Option MsSlotCfg := findKey (·.num) n i.ms.slots

def syncOf (i : Image) (c : MsSlotCfg) : SyncSet :=
  i.ms.syncs.getD c.out.toNat {
    closeDio := 0, fbDio := 0, fbFalling := false, deadbus := false, pulse := 0, ct0 := 0
    ctMin := 0, ctMax := 0, auxDelay := 0, ctRef := none, slipMin := 0, slipMax := 0, slipAccMax := 0, duMax := 0
    uMin := 0, uMax := 0, phMax := 0 }

def State.msSlot (n : Nat) (s : State) : Option MsSlotSt := findKey (·.num) n s.ms.slots

def State.modMs (n : Nat) (f : MsSlotSt → MsSlotSt) (s : State) : State :=
  { s with ms := { s.ms with slots := modifyKey (·.num) n f s.ms.slots } }

/-- The target or end in force: the named field where there is one (R250). -/
def State.msField (r : Option SlotRef) (v : Nat) (s : State) : Nat × Bool :=
  match r with
  | some x => let y := s.readRef x; (y.1.toNat, !isBad y.2)
  | none => (v, true)

def State.msTgt (c : MsSlotCfg) (m : MsSlotSt) (s : State) : Nat := (s.msField c.tgtRef m.tgt).1
def State.msEnd (c : MsSlotCfg) (m : MsSlotSt) (s : State) : Nat := (s.msField c.endRef m.endv).1

/-- Armed (R250). -/
def State.msArmed (c : MsSlotCfg) (m : MsSlotSt) (s : State) : Bool :=
  m.arm && (match c.armRef with | some r => (let y := s.readBool r; y.1 && !isBad y.2) | none => true)

/-- A named source is BAD, or the target or end lies outside the domain's range (R250). -/
def State.msSrcBad (c : MsSlotCfg) (m : MsSlotSt) (s : State) : Bool :=
  let n := cycLen (domCfg s.img (msDom c)) (msDom c)
  let armBad := match c.armRef with | some r => isBad (s.readBool r).2 | none => false
  armBad || !(s.msField c.tgtRef m.tgt).2 || !(s.msField c.endRef m.endv).2 || decide (n ≤ s.msTgt c m) ||
  (decide (msAct c = 3) && m.endmode && decide (n ≤ s.msEnd c m))

/-- Slots may fire (R231). -/
def State.msRun (s : State) : Bool := decide (s.mode = .active) && !s.ms.fault

/-- The word of MS_SLOT_STAT. -/
def State.msStatWord (c : MsSlotCfg) (m : MsSlotSt) (s : State) : Nat :=
  let st := if m.pulse.isSome then 2 else if !s.msArmed c m then 0
    else if m.srcBad || decide ((s.dom (msDom c)).st ≠ 4) then 3 else 1
  st + 8 * b2n (decide (m.fired = some (s.cycleNow (msDom c)))) + 256 * m.result + 65536 * m.count

/-! ### Milestone outputs and pulses (R252 to R254) -/

def State.dioMs (ch : Nat) (v : Bool) (s : State) : State :=
  { s with fld := { s.fld with dio := modifyKey (·.n) ch (fun x => { x with ms := v }) s.fld.dio } }

/-- A slot sets an output off: it overrules every on of this tick, and a pulse that starts in it (R253). A SYNC_CLOSE whose
pulse does not start has given no close command: it waits for no feedback and records no SYNC_CLOSE outcome, which R253 and
R261 leave open (DESIGN CHOICE, log 120). -/
def State.msOff (ch : Nat) (s : State) : State :=
  let s1 := s.dioMs ch false
  { s1 with ms := { s1.ms with
      offAt := insertKey ch s.clock s1.ms.offAt
      slots := s1.ms.slots.map fun m => match m.pulse with
        | some p => if p.start = s.clock ∧ p.dio = ch then { m with pulse := none, wait := none, result := 7 } else m
        | none => m } }

/-- An off of this tick stands on the channel. -/
def State.msOffNow (ch : Nat) (s : State) : Bool := decide (s.ms.offAt.find? (fun p => p.1 = ch) = some (ch, s.clock))

def State.msOn (ch : Nat) (s : State) : State := if s.msOffNow ch then s else s.dioMs ch true

/-- A pulse ends (R252). -/
def State.msPulseEnd (n : Nat) (s : State) : State :=
  match (s.msSlot n).bind (·.pulse) with
  | some p => (s.modMs n fun x => { x with pulse := none }).msOff p.dio
  | none => s

def State.msPulseStart (n ch : Nat) (c : MsSlotCfg) (s : State) : State :=
  if s.msOffNow ch then s.modMs n fun x => { x with result := 7, wait := none }
  else
    let p := match s.whole (msDom c) s.clock 0 false with | some x => x.floor | none => 0
    (s.modMs n fun x => { x with pulse := some { start := s.clock, pos := p, dio := ch } }).dioMs ch true

/-- The pulse in progress is due to end: its duration or MAXPULSE has elapsed, or its end position has been reached
(R252, R254). -/
def State.msPulseDue (c : MsSlotCfg) (m : MsSlotSt) (s : State) : Bool :=
  match m.pulse with
  | none => false
  | some { start := t, pos := p, .. } =>
    if msAct c = 9 then decide (t + (syncOf s.img c).pulse ≤ s.clock)
    else
      let e := s.msEnd c m
      let n := cycLen (domCfg s.img (msDom c)) (msDom c)
      decide (t + c.maxPulse ≤ s.clock) ||
      (if m.endmode then
        match s.whole (msDom c) s.clock 0 false with
        | some x =>
          let rev := s.domRev (msDom c)
          let d : Int := (if rev then p - (e : Int) else (e : Int) - p) % (n : Int)
          let d := if d = 0 then (n : Int) else d
          decide (e < n) && decide ((d : Rat) ≤ (if rev then (p : Rat) - x else x - (p : Rat)))
        | none => false
       else decide (t + e ≤ s.clock))

/-! ### Firing (R251, R252) -/

/-- The system time as SYSTIME in a slot pair (R32, R252). -/
def State.msCapture (r : SlotRef) (s : State) : State := s.writeRef r s.ns qGood

/-- Slot `n` sets the ARM of slot `k` from the next tick on; of the slots that do so in one tick the highest-numbered acts
last (R252, R253). -/
def State.msArm (n k : Nat) (v : Bool) (s : State) : State :=
  s.modMs k fun x =>
    { x with nextArm := match x.nextArm with
        | some (t, by_, w) => if t = s.clock ∧ n < by_ then some (t, by_, w) else some (s.clock, n, v)
        | none => some (s.clock, n, v) }

def State.msAction (n : Nat) (c : MsSlotCfg) (s : State) : State :=
  let out := c.out.toNat
  match msAct c with
  | 1 => s.msOn out
  | 2 => s.msOff out
  | 3 => s.msPulseStart n out c
  | 4 => s.loopTrigger out
  | 5 => s.aiTrigger out
  | 6 => s.msCapture (SlotRef.dec out)
  | 7 => s.msArm n out true
  | 8 => s.msArm n out false
  | 9 =>
    let y := syncOf s.img c
    let s1 := s.modMs n fun x => { x with wait := some s.clock }
    let h := (s1.dom 6).mdl.toList
    let s2 : State := { s1 with ms := { s1.ms with hist := if s1.ms.hist.isEmpty then h else s1.ms.hist } }
    s2.msPulseStart n y.closeDio c
  | _ => s

/-- A slot fires with a result in cycle `cy` of its domain. -/
def State.msFire (n : Nat) (c : MsSlotCfg) (res : Nat) (cy : Int) (s : State) : State :=
  let s1 := s.modMs n fun m =>
    let a := m.arm && m.rep && decide (msAct c ≠ 9)
    { m with count := (m.count + 1) % 65536, ftick := s.tick, fired := some cy, result := res, arm := a, seenArm := a }
  s1.msAction n c

def dirOk (dirsel : Nat) (rev : Bool) : Bool :=
  match dirsel with | 1 => rev | 2 => true | _ => !rev

/-! ### The synchronising close (R257 to R262) -/

def tenths (n : Nat) : Rat := (n : Rat) / 10

/-- A magnitude lies from U_MIN to U_MAX. -/
def uOk (y : SyncSet) (u : F64) : Bool := decide (tenths y.uMin ≤ rat64 u ∧ rat64 u ≤ tenths y.uMax)

/-- Slip frequency in mHz at the latest update point, and its rate of change in mHz/s. -/
def slipOf (m : Mdl) : Rat × Rat :=
  let k : Rat := 400000000 / (rev24 : Rat) * 1000
  (rat64 m.we * k, rat64 m.alpha * k * 400000000)

/-- The close window (R257). -/
def State.closeWindow (y : SyncSet) (s : State) : Bool :=
  match (s.dom 6).mdl with
  | none => false
  | some m =>
    let sl := slipOf m
    let u0 := rat64 (s.dom 4).mag
    let u1 := rat64 (s.dom 5).mag
    let du := u1 - u0
    decide (s.clock ≤ (s.dom 6).up + 4000) && decide ((s.dom 4).st = 4 ∧ (s.dom 5).st = 4 ∧ (s.dom 6).st = 4) &&
    decide ((y.slipMin : Rat) ≤ sl.1 ∧ sl.1 ≤ (y.slipMax : Rat)) &&
    decide ((if sl.2 < 0 then -sl.2 else sl.2) ≤ (y.slipAccMax : Rat)) &&
    uOk y (s.dom 4).mag && uOk y (s.dom 5).mag &&
    decide ((if du < 0 then -du else du) ≤ (y.duMax : Rat) / 1000 * u0)

/-- The dead-bus condition (R260). -/
def State.deadBus (y : SyncSet) (s : State) : Bool :=
  y.deadbus && decide ((s.dom 4).st = 6 ∧ (s.dom 5).st = 4) && uOk y (s.dom 5).mag

/-- The advance of a slot: CT under the synchronising close (R240, R258). -/
def msAdv (c : MsSlotCfg) (m : MsSlotSt) : Int := if msAct c = 9 then (m.ct : Int) else 0

/-- The slot may cross: armed, its sources good, its domain SYNCED, the direction permitted, and neither fired nor
passed in the cycle (R246, R250, R251, R255). -/
def State.msReady (c : MsSlotCfg) (m : MsSlotSt) (s : State) : Bool :=
  let d := msDom c
  s.msRun && decide (s.ms.activeSince < s.clock) && s.msArmed c m && !s.msSrcBad c m && decide ((s.dom d).st = 4) &&
  dirOk m.dirsel (s.domRev d) && (!(s.dom d).edgeOnly || decide ((s.dom d).up = s.clock))

/-- The cycle in which a crossing at the whole position `x` falls for R251: that of the domain's position, also where the slot
looks ahead by its advance. -/
def State.fireCycle (c : MsSlotCfg) (x : Rat) (s : State) : Int :=
  if msAct c = 9 then s.cycleNow (msDom c) else cycleOf (cycLen (domCfg s.img (msDom c)) (msDom c)) x

/-- Where and in which cycle the present tick crosses the slot's target (R242). -/
def State.msCross (c : MsSlotCfg) (m : MsSlotSt) (s : State) : Option Int :=
  let d := msDom c
  let n := cycLen (domCfg s.img d) d
  match s.arc d (msAdv c m) with
  | some (a, b) => (crossAt n (s.domRev d) (s.msTgt c m) a b).map fun x => s.fireCycle c x
  | none => none

/-- A crossing in an edge tick is LATE where the target is not the edge's own position and the old model would not have
crossed it in that tick (R243). The rule speaks of an edge; the update ticks of D4 to D6 are judged in the same way (DESIGN
CHOICE, log 120). -/
def State.msLate (c : MsSlotCfg) (m : MsSlotSt) (s : State) : Bool :=
  let d := msDom c
  let n := cycLen (domCfg s.img d) d
  let th := s.msTgt c m
  if d = 7 ∨ (s.dom d).up ≠ s.clock then false
  else
    let own := match (s.dom d).mdl with | some x => decide (x.pos = (th : Int)) | none => false
    let adv := msAdv c m
    let oldc := match s.whole d ((s.clock : Int) - 1) adv true, s.whole d s.clock adv true with
      | some a, some b => (crossAt n (s.domRev d) th a b).isSome
      | _, _ => false
    !own && !oldc

/-- A milestone is crossed in the present tick (R242, R251, R258, R259). -/
def State.msCrossing (n : Nat) (s : State) : State :=
  match s.msSlot n, msCfg s.img n with
  | some m, some c =>
    if !s.msReady c m then s
    else match s.msCross c m with
      | none => s
      | some cy =>
        if m.fired = some cy ∨ m.skipped = some cy then s
        else if m.pulse.isSome then s.modMs n fun x => { x with result := 7 }
        else if msAct c = 9 ∧ s.closeWindow (syncOf s.img c) = false then s.modMs n fun x => { x with result := 9 }
        else s.msFire n c (if s.msLate c m then 2 else 1) cy
  | _, _ => s

/-- A target that moved to a passed position, or a slot armed after its target was passed (R255). -/
def State.msPassed (n : Nat) (c : MsSlotCfg) (m : MsSlotSt) (s : State) : State :=
  let d := msDom c
  let len := cycLen (domCfg s.img d) d
  match s.whole d s.clock (msAdv c m) false with
  | none => s
  | some x =>
    let cy := cycleOf len x
    let p := x - (cy : Rat) * (len : Rat)
    let th : Rat := (s.msTgt c m : Rat)
    let dist := if s.domRev d then th - p else p - th
    let fc := s.fireCycle c x
    if dist < 0 ∨ m.fired = some fc ∨ (s.msCross c m).isSome = true then s
    else if m.latepol = true ∧ dist ≤ (m.win : Rat) then
      if m.pulse.isSome then s.modMs n fun x => { x with result := 7 }
      else if msAct c = 9 ∧ s.closeWindow (syncOf s.img c) = false then s.modMs n fun x => { x with result := 9 }
      else s.msFire n c 3 fc
    else s.modMs n fun x => { x with skipped := some fc, result := 4 }

/-- What the scheduler does with one slot in a tick, crossings apart: a cycle wrap, SOURCE_BAD, R255, the dead-bus close
and the result slot (R250, R251, R254, R255, R260, R268). -/
def State.msLookSlot (n : Nat) (s : State) : State :=
  match s.msSlot n, msCfg s.img n with
  | some m, some c =>
    let bad := s.msSrcBad c m
    let armed := s.msArmed c m
    let tg := s.msTgt c m
    let cy := s.cycleNow (msDom c)
    let s2 := s.modMs n fun x =>
      { x with fired := x.fired.filter (· = cy), skipped := x.skipped.filter (· = cy)
               srcBad := bad, result := if bad && !m.srcBad then 8 else x.result, seenTgt := some tg, seenArm := armed }
    let s3 := if s2.msReady c m && (decide (m.seenTgt ≠ some tg) || !m.seenArm) then s2.msPassed n c m else s2
    let s4 :=
      if s3.msRun && decide (s3.ms.activeSince < s3.clock) && armed && !bad && decide (msAct c = 9) &&
          s3.deadBus (syncOf s3.img c) && m.pulse.isNone &&
          (match s3.msSlot n with | some x => x.arm | none => false) then
        s3.msFire n c 10 (s3.cycleNow 6)
      else s3
    match s4.msSlot n, c.resRef with
    | some m4, some r =>
      let w := BitVec.ofNat 32 (s4.msStatWord c m4)
      if m4.lastStat = some w then s4
      else (s4.writeRef r w.toNat qGood).modMs n fun x => { x with lastStat := some w }
    | _, _ => s4
  | _, _ => s

/-- What the scheduler reads and settles in every tick. -/
def State.msLook (s : State) : State :=
  if s.ms.fault || s.mode = .fault || s.mode = .unconfigured then s
  else s.ms.slots.foldl (fun s m => s.msLookSlot m.num) s

/-! ### Withdrawal and domain states (R245, R247) -/

/-- R247: pulses of the domain end with ABORTED, the other armed slots take WITHDRAWN; `i` is the image whose slots they
are. -/
def State.msWithdraw (i : Image) (d : Nat) (s : State) : State :=
  s.ms.slots.foldl (fun s m =>
    match msCfg i m.num with
    | some c =>
      if msDom c ≠ d then s
      else
        let s1 := if m.pulse.isSome then (s.msPulseEnd m.num).modMs m.num fun x => { x with result := 6 }
          else if s.msArmed c m then s.modMs m.num fun x => { x with result := 5 } else s
        s1.modMs m.num fun x => { x with fired := none, skipped := none }
    | none => s) s

/-- A domain's measurement starts over: nothing is known of its position. -/
def DomSt.restart (x : DomSt) (st : Nat) (cyc : Int) : DomSt :=
  { x with st := st, cycles := cyc, old := none, w := 0, tPrev := 0, ivals := 0, last16 := none, refSeen := false
           edgeOnly := false }

/-- Entry to LOST (R245). -/
def State.domLost (d cause : Nat) (s : State) : State :=
  let cy := s.cycleNow d
  let s1 := (s.latchSet (0x2108 + 0x20 * d) 16).modDom d fun x =>
    { x.restart 5 cy with lostL := true, cause := cause, lostCount := satInc 65535 x.lostCount, marker := none }
  (s1.msWithdraw s.img d).record 0x0601 (1024 + d) 0 (leBytes 1 cause)

/-- The level that DIR_REF gives: TRUE is reverse; forward where none is named (R249). -/
def State.dirLevel (d : Nat) (s : State) : Bool :=
  match (domCfg s.img d).dirRef with | some r => (s.readBool r).1 | none => false

/-- Entry to STOPPED: speed and acceleration read 0, and the level of DIR_REF is the direction (R245, R249). -/
def State.domStopped (d : Nat) (s : State) : State :=
  let cy := s.cycleNow d
  let quad := decide ((domCfg s.img d).mode = 2)
  let lv := s.dirLevel d
  let s1 := s.modDom d fun x =>
    { x.restart 1 cy with marker := none, rev := if quad then x.rev else lv, dirSeen := lv }
  s1.msWithdraw s.img d

/-! ### Update points (R240) -/

/-- The domain takes an update point at time `t16` with position `a` (in the cycle), `dA` from the one before; `lim` is
the furthest whole count from `a` that the prediction may reach. -/
def DomSt.update (x : DomSt) (n : Nat) (shift : Nat) (t16 now : Nat) (a dA : Int) (lim : Option Int) (rev : Bool) : DomSt :=
  match x.last16 with
  | none => { x with last16 := some t16, old := x.mdl, edgeOld := x.edgeOnly, up := now }
  | some l =>
    let T := F64.ofRat (((t16 - l : Nat) : Rat) / 16)
    let w := F64.div (F64.ofInt dA) T
    let alpha0 := match x.mdl with | some m => m.alpha | none => 0
    let alpha :=
      if 1 ≤ x.ivals then
        let ak := F64.div (F64.mul F64.two (F64.sub w x.w)) (F64.add T x.tPrev)
        F64.add alpha0 (F64.div (F64.sub ak alpha0) (F64.ofInt ((2 ^ shift : Nat) : Int)))
      else 0
    let we := F64.add w (F64.div (F64.mul alpha T) F64.two)
    let cy := match x.mdl with | some m => m.cyc + Int.fdiv (m.pos + dA) (n : Int) | none => x.cycles
    { x with
      old := x.mdl, edgeOld := x.edgeOnly, up := now, w := w, tPrev := T, ivals := x.ivals + 1, last16 := some t16, int16 := t16 - l
      mdl := some { pos := a, cyc := cy, t16 := t16, we := we, alpha := alpha, lim := lim.map (a + ·), rev := rev } }

/-- The furthest count that the prediction may reach from tooth `k`: one short of the next tooth (R241). -/
def toothLim (c : DomCfg) (rev : Bool) (k : Nat) : Int :=
  let d := (nextTooth c rev k).2
  if rev then d + 1 else d - 1

/-- Slots written at an update point of a domain (R268, R269). -/
def State.msUpdated (d : Nat) (s : State) : State :=
  let s1 := s.msDomWrite d
  let g (m : MsSlotSt) : MsSlotSt :=
    match msCfg s.img m.num with
    | some c => if msDom c = d then { m with lastStat := none } else m
    | none => m
  { s1 with ms := { s1.ms with slots := s1.ms.slots.map g } }

/-! ### Tooth and line edges (R233 to R235, R245, R249) -/

/-- MS tracks: a committed image, neither UNCONFIGURED nor FAULT, and no MS fault (R231, R269). -/
def State.msTracks (s : State) : Bool :=
  decide (s.mode ≠ .unconfigured ∧ s.mode ≠ .fault) && !s.ms.fault

/-- The revolution that begins at tooth 0, from the marker of the last two revolutions (R236, R245). -/
def markerRev (c : DomCfg) (mk : Option Nat) : Option Nat :=
  let n := lastTooth c + 1
  if c.periodRev = 1 then some 0
  else match mk with
    | some k => if k ≤ n then some ((c.camRev + 1) % 2) else if k ≤ 2 * n then some c.camRev else none
    | none => none

/-- The revolution after crossing tooth 0. -/
def nextRev (c : DomCfg) (rev : Bool) (r : Nat) : Nat := if rev then (r + c.periodRev - 1) % c.periodRev else (r + 1) % c.periodRev

/-- The tooth or line taken at synchronisation: the gap's end, or line 0 at the first A edge after the reference in either
direction (R235). -/
def syncTooth (c : DomCfg) (rev : Bool) : Nat := if c.mode = 2 then 0 else gapTooth c rev

/-- The tooth before tooth `k` in the direction of motion. -/
def prevTooth (c : DomCfg) (rev : Bool) (k : Nat) : Nat :=
  if rev then (if k = lastTooth c then 0 else k + 1) else if k = 0 then lastTooth c else k - 1

/-- Synchronisation at a recognised gap or reference (R245): the position is set under R234. -/
def State.domSync (d t16 : Nat) (c : DomCfg) (rev : Bool) (s : State) : State :=
  let k := syncTooth c rev
  let mr := markerRev c (s.dom d).marker
  let r := mr.getD 0
  let dA := (nextTooth c rev (prevTooth c rev k)).2
  let a := toothPos c k r
  s.modDom d fun x =>
    let cy := match x.mdl with | some m => m.cyc | none => x.cycles
    let y := x.update (cycLen c d) c.alphaShift t16 s.clock a dA (some (toothLim c rev k)) rev
    { y with st := if mr.isSome then 4 else 3, tooth := k, revn := r, rev := rev, old := none
             mdl := y.mdl.map fun m => { m with cyc := cy } }

/-- An edge in SEEKING whose tooth is not known (log 42). -/
def State.domSeekEdge (d t16 : Nat) (c : DomCfg) (rev : Bool) (s : State) : State :=
  s.modDom d fun x =>
    let p : Int := ((rev24 / c.teeth : Nat) : Int)
    let dA := if rev then -p else p
    let a := match x.mdl with | some m => (m.pos + dA) % (cycLen c d : Int) | none => 0
    { x.update (cycLen c d) c.alphaShift t16 s.clock a dA none rev with rev := rev }

/-- The next tooth in SYNC_REV or SYNCED. -/
def State.domNextEdge (d t16 : Nat) (c : DomCfg) (rev : Bool) (s : State) : State :=
  let x := s.dom d
  let (k, dA) := nextTooth c rev x.tooth
  let r := if k = gapTooth c rev then nextRev c rev x.revn else x.revn
  s.modDom d fun x =>
    let y := x.update (cycLen c d) c.alphaShift t16 s.clock (toothPos c k r) dA (some (toothLim c rev k)) rev
    { y with tooth := k, revn := r, rev := rev, edgeOnly := x.edgeOnly && decide (y.ivals < 2) }

/-- A reversal in QUAD (R249): pulses of the domain end with ABORTED, the models restart, and P holds at the angle of
the line that was passed last (log 43). -/
def State.domReverse (d t16 : Nat) (rev : Bool) (s : State) : State :=
  let s1 := s.ms.slots.foldl (fun s m =>
    match msCfg s.img m.num with
    | some c =>
      if msDom c = d ∧ m.pulse.isSome = true then (s.msPulseEnd m.num).modMs m.num fun x => { x with result := 6 } else s
    | none => s) s
  let c := domCfg s.img d
  let a := toothPos c (s.dom d).tooth (s.dom d).revn
  let s2 := s1.modDom d fun x =>
    let cy := match x.mdl with | some m => m.cyc | none => x.cycles
    { x.restart 4 cy with
      last16 := some t16, int16 := (x.last16.map fun l => t16 - l).getD 0, rev := rev, edgeOnly := true, edgeOld := x.edgeOnly
      up := s.clock, old := x.mdl
      mdl := some { pos := a, cyc := cy, t16 := t16, lim := some a, rev := rev } }
  s2.record 0x0602 (1024 + d) 0 []

/-- An A edge of a QUAD domain is noted with its line, back past the longest FILT of 20 ms (R235, R379). -/
def State.quadNote (d t16 : Nat) (rev : Bool) (s : State) : State :=
  s.modDom d fun x =>
    let near := x.lines.takeWhile fun p => decide (t16 ≤ p.1 + 16 * usTicks 20000)
    { x with lines := (t16, rev, if x.st = 4 then some x.tooth else none) ::
      (near ++ ((x.lines.drop near.length).take 1)) }

/-- A timing edge at `t16` sixteenths of a tick (R233, R245). -/
def State.edgeTaken (d t16 : Nat) (bHigh : Bool) (s : State) : State :=
  let c := domCfg s.img d
  let x := s.dom d
  if !s.msTracks || !c.enable || decide (4 ≤ d) || x.st = 0 then s
  else
    let quad := decide (c.mode = 2)
    let rev := if quad then bHigh != c.invDir else x.rev
    let s0 := s.modDom d fun y => { y with marker := y.marker.map (· + 1) }
    if x.st = 1 ∨ x.st = 5 then
      (s0.modDom d fun y => { y.restart 2 y.cycles with last16 := some t16, rev := rev, mdl := none, up := s.clock }).msUpdated d
    else
      match x.last16 with
      | none => (s0.modDom d fun y => { y with last16 := some t16, rev := rev, up := s.clock }).msUpdated d
      | some l =>
        let T := t16 - l
        if T < 12800 then (s0.domLost d 4).msUpdated d
        else if quad then
          if x.st = 4 then
            if rev ≠ x.rev then (s0.domReverse d t16 rev).msUpdated d
            else (s0.domNextEdge d t16 c rev).msUpdated d
          else if x.refSeen then ((s0.domSync d t16 c rev).modDom d fun y => { y with refSeen := false }).msUpdated d
          else if rev ≠ x.rev then
            (s0.modDom d fun y => { y.restart 2 y.cycles with last16 := some t16, rev := rev, mdl := none, up := s.clock }).msUpdated d
          else (s0.domSeekEdge d t16 c rev).msUpdated d
        else
          let gap := decide (1 ≤ x.ivals ∧ (c.missing + 2) * x.int16 ≤ 2 * T)
          if x.st = 2 then
            if gap then (s0.domSync d t16 c rev).msUpdated d else (s0.domSeekEdge d t16 c rev).msUpdated d
          else
            let k := (nextTooth c rev x.tooth).1
            if gap = decide (k = gapTooth c rev) then (s0.domNextEdge d t16 c rev).msUpdated d
            else (s0.domLost d 2).msUpdated d

/-- A timing edge; a QUAD domain's is an A edge (R233, R235). -/
def State.toothEdge (d t16 : Nat) (bHigh : Bool) (s : State) : State :=
  let c := domCfg s.img d
  let s1 := s.edgeTaken d t16 bHigh
  if s.msTracks && c.enable && decide (d < 4 ∧ c.mode = 2) then s1.quadNote d t16 (bHigh != c.invDir) else s1

/-- A cam-marker edge (R236, R245). -/
def State.camEdge (d : Nat) (s : State) : State :=
  let c := domCfg s.img d
  let x := s.dom d
  if !s.msTracks || !c.enable || decide (4 ≤ d) || decide (c.mode = 2) || decide (c.periodRev ≠ 2) || x.st = 0 then s
  else
    let s1 := s.modDom d fun y => { y with marker := some 0 }
    if x.st = 3 then
      s1.modDom d fun y =>
        let a := toothPos c y.tooth c.camRev
        { y with
          st := 4, revn := c.camRev
          mdl := y.mdl.map fun m => { m with pos := a, lim := some (a + toothLim c y.rev y.tooth) } }
    else if x.st = 4 ∧ x.revn ≠ c.camRev then s1.domLost d 2
    else s1

/-- The line that a run of A edges has reached, oldest first, the first of them being line 0 (R235); an edge that reverses
the motion stands at the line passed last (R249). -/
def lineAfter (c : DomCfg) : List (Nat × Bool × Option Nat) → Option (Nat × Bool)
  | l => l.foldl (fun a p => match a with
    | none => some (0, p.2.1)
    | some (k, r) => if r = p.2.1 then some ((nextTooth c r k).1, r) else some (k, p.2.1)) none

/-- A reference edge of a QUAD domain: the rising edge that the digital I/O controller captured (R235). The controller
accepts it FILT after its first sample, and the capture timestamp, not the tick of acceptance, tells between which lines it
fell (R379); an A edge in the timestamp's own tick is not yet after it (DEDUCED, log 41). -/
def State.quadRef (d : Nat) (s : State) : State :=
  let c := domCfg s.img d
  let x := s.dom d
  let io := s.dio c.refDio
  let since := (x.lines.takeWhile fun p => decide (16 * io.cap < p.1)).reverse
  if !s.msTracks || !c.enable || decide (4 ≤ d) || decide (c.mode ≠ 2) || !io.pin then s
  else if x.st = 2 then
    match lineAfter c since with
    | none => s.modDom d fun y => { y with refSeen := true }
    | some (k, r) =>
      s.modDom d fun y =>
        let a := toothPos c k 0
        { y with
          st := 4, tooth := k, revn := 0, rev := r, refSeen := false
          mdl := y.mdl.map fun m => { m with pos := a, lim := some (a + toothLim c r k) } }
  else if x.st = 4 then
    match (x.lines.drop since.length)[0]? with
    | some (_, r, some k) => if k ≠ (if r then 0 else lastTooth c) then s.domLost d 2 else s
    | _ => s
  else s

/-- The tick at which the domain's timeout expires, where one runs (R248). After the first edge in SEEKING no interval has
been measured, so T and w_e do not exist; the spec states no expiry there and none runs (DESIGN CHOICE, log 119). After a
reversal T is the interval that ended at the reversal's edge. -/
def State.domExpiry (d : Nat) (s : State) : Option Int :=
  let c := domCfg s.img d
  let x := s.dom d
  match x.last16 with
  | none => none
  | some l =>
    if x.ivals = 0 ∧ x.edgeOnly = false then none
    else
      let T : Rat := (x.int16 : Rat) / 16
      let we := match x.mdl with | some m => rat64 m.we | none => 0
      let dn : Int := if x.st = 2 then (if x.rev then -((rev24 / c.teeth : Nat) : Int) else ((rev24 / c.teeth : Nat) : Int))
        else (nextTooth c x.rev x.tooth).2
      let sg : Rat := if x.rev then -we else we
      let E : Rat := if sg ≤ 0 then T else (dn : Rat) / we
      some (((l : Rat) / 16 + ((E * (c.lossRatio : Rat) / 4).ceil : Rat)).ceil)

/-- No edge has come before the timeout (R245, R248). -/
def State.domTimeout (d : Nat) (s : State) : State :=
  let c := domCfg s.img d
  let x := s.dom d
  if !s.msTracks || !c.enable || decide (4 ≤ d) || !(decide (x.st = 2 ∨ x.st = 3 ∨ x.st = 4)) then s
  else match s.domExpiry d with
    | none => s
    | some e =>
      if (s.clock : Int) < e ∨ x.up = s.clock then s
      else if 16 * c.limit ≤ x.int16 then (s.domStopped d).msUpdated d
      else (s.domLost d 1).msUpdated d

/-- DIR_REF changes (R245, R249). -/
def State.dirChange (d : Nat) (s : State) : State :=
  let c := domCfg s.img d
  let x := s.dom d
  let lv := s.dirLevel d
  if !s.msTracks || !c.enable || decide (4 ≤ d) || decide (c.mode = 2) || decide (lv = x.dirSeen) then s
  else
    let s1 := s.modDom d fun y => { y with dirSeen := lv }
    if x.st = 1 then s1.modDom d fun y => { y with rev := lv }
    else if x.st = 2 ∨ x.st = 3 ∨ x.st = 4 then (s1.domLost d 3).msUpdated d
    else s1

/-! ### Busbar phase and slip (R237, R238, R245) -/

/-- The signed step between two phases, unwrapped into the half cycle around 0. -/
def phaseStep (a b : Int) : Int := (b - a + (rev24 / 2 : Nat)) % (rev24 : Int) - (rev24 / 2 : Nat)

/-- One phase update of D4, D5 or D6, with its timestamp in 1/16 ticks (R237, R240). -/
def DomSt.phase (x : DomSt) (shift t16 now : Nat) (a : Int) : DomSt :=
  match x.last16, x.mdl with
  | some _, some m => x.update rev24 shift t16 now a (phaseStep m.pos a) none false
  | _, _ => { x with last16 := some t16, up := now, old := none, ivals := 0, mdl := some { pos := a, cyc := x.cycles, t16 := t16 } }

/-- Hz of a model's speed lies from 40 to 70. -/
def liveBand (m : Option Mdl) : Bool :=
  match m with
  | some x => let f := rat64 x.we * 400000000 / (rev24 : Rat); decide (40 ≤ f ∧ f ≤ 70)
  | none => false

/-- D4 or D5 takes phase `ph` of time `t16` and magnitude `u`. -/
def State.busUpdate (d ph t16 : Nat) (u : F64) (s : State) : State :=
  let c := domCfg s.img d
  if !c.enable then s.modDom d fun x => { x with mag := u }
  else if rat64 u < tenths c.limit then
    let cy := s.cycleNow d
    s.modDom d fun x => { x.restart 6 cy with mag := u, live := 0, mdl := none, up := s.clock }
  else
    s.modDom d fun x =>
      let y := { x.phase c.alphaShift t16 s.clock ((ph % rev24 : Nat) : Int) with mag := u, live := satInc 21 x.live }
      { y with st := if y.live ≤ 20 ∨ liveBand y.mdl = false then 2 else 4 }

/-- The front end's update of both phases, and D6's, which takes D4's timestamp (R237, R238, log 93). -/
def State.phaseUpdate (ph4 ph5 t4 t5 : Nat) (u0 u1 : F64) (s : State) : State :=
  if !s.msTracks then s
  else
    let s1 := (s.busUpdate 4 ph4 t4 u0).busUpdate 5 ph5 t5 u1
    let c := domCfg s.img 6
    let s2 :=
      if !c.enable then s1
      else if (s1.dom 4).mdl.isSome ∧ (s1.dom 5).mdl.isSome then
        let a : Int := (((ph5 % rev24 : Nat) : Int) - ((ph4 % rev24 : Nat) : Int) - (c.zero : Int)) % (rev24 : Int)
        s1.modDom 6 fun x =>
          { x.phase c.alphaShift t4 s.clock a with st := if (s1.dom 4).st = 4 ∧ (s1.dom 5).st = 4 then 4 else 2 }
      else
        let cy := s1.cycleNow 6
        s1.modDom 6 fun x => { x.restart 2 cy with mdl := none }
    let s3 : State := if !(s2.ms.slots.any fun m => m.wait.isSome) then s2
      else { s2 with ms := { s2.ms with hist := (s2.dom 6).mdl.toList ++ s2.ms.hist } }
    ((s3.msUpdated 4).msUpdated 5).msUpdated 6

/-- D7's update point falls in every tick (R229, R239, R268). -/
def State.tickD7 (s : State) : State := if s.mode = .active then s.msDomWrite 7 else s

/-! ### The close's feedback (R261) -/

/-- (m − CT) ÷ 4 to the nearest tick; how a tie falls the spec does not state (log 7). -/
def quarterNear (d : Int) : Int :=
  if d % 4 = 2 then roundUnits d 4 else (d + 2) / 4

/-- The D6 position at tick `t`, by the model that held then, as a signed count; 0, what MS_DPOS reads then, where D6 held no
model (DESIGN CHOICE, log 45). -/
def State.contactPos (t : Int) (s : State) : Int :=
  let m := match s.ms.hist.find? (fun x => decide ((x.t16 : Int) ≤ 16 * t)) with
    | some x => some x
    | none => s.ms.hist.getLast?
  match m with
  | some x =>
    let p := x.at false t
    let v := roundUnits p.num p.den
    (v + (rev24 / 2 : Nat)) % (rev24 : Int) - (rev24 / 2 : Nat)
  | none => 0

def State.msEndWait (n : Nat) (s : State) : State :=
  let s1 := s.modMs n fun x => { x with wait := none }
  if s1.ms.slots.any fun m => m.wait.isSome then s1 else { s1 with ms := { s1.ms with hist := [] } }

/-- The edge of FB_POL that the DIO controller captured on FB_DIO (R261, R379). The record's 12 bytes hold m, CT and the position in 4 bytes each (DESIGN CHOICE,
log 120: R533 gives ticks 8 bytes, and three such fields do not fit). -/
def State.closeFeedback (n : Nat) (s : State) : State :=
  match s.msSlot n, msCfg s.img n with
  | some m, some c =>
    match m.wait with
    | none => s
    | some f =>
      let y := syncOf s.img c
      let io := s.dio y.fbDio
      let fb := io.cap
      if !s.msRun || io.pin == y.fbFalling || decide (fb < f) || decide (f + y.ctMax + 400000 < fb) then s
      else
        let mt : Int := (fb : Int) - (f : Int) - (y.auxDelay : Int)
        let ok := decide ((y.ctMin : Int) ≤ mt ∧ mt ≤ (y.ctMax : Int))
        let ct := if ok then ((m.ct : Int) + quarterNear (mt - (m.ct : Int))).toNat else m.ct
        let pos := s.contactPos ((fb : Int) - (y.auxDelay : Int))
        let s1 := s.modMs n fun x => { x with ct := ct, result := if ok then 0x0D else 0x0C }
        let s2 := if ok then s1.writeOpt y.ctRef ct qGood else s1
        let s3 := s2.record 0x0603 n 0 (leBytes 4 (ofSigned 32 mt) ++ leBytes 4 ct ++ leBytes 4 (ofSigned 32 pos))
        let s4 := if y.phMax < pos.natAbs then s3.record 0x0604 n 0 (leBytes 4 (ofSigned 32 pos)) else s3
        s4.msEndWait n
  | _, _ => s

/-- No feedback edge came (R261); the record's m and position are values that the spec does not state (log 5). -/
def State.closeSilent (n : Nat) (s : State) : State :=
  match s.msSlot n, msCfg s.img n with
  | some m, some c =>
    match m.wait with
    | none => s
    | some f =>
      if !s.msRun || decide (s.clock < f + (syncOf s.img c).ctMax + 400000) then s
      else
        let (a, s1) := s.freeW32
        let (b, s2) := s1.freeW32
        let s3 := s2.modMs n fun x => { x with result := 0x0B }
        (s3.record 0x0603 n 0 (leBytes 4 a.toNat ++ leBytes 4 m.ct ++ leBytes 4 b.toNat)).msEndWait n
  | _, _ => s

/-! ### Commit, fault, rungs, takeover, online change (R231, R262, R269, R270) -/

/-- A slot fresh from its record; CT under R262. -/
def State.msFresh (c : MsSlotCfg) (s : State) : MsSlotSt :=
  let w := c.ctl.toNat
  let y := syncOf s.img c
  let ct := match y.ctRef with
    | some r => let v := s.readRef r; if isBad v.2 then y.ct0 else v.1.toNat
    | none => y.ct0
  { num := c.num, arm := bit w 0, rep := bit w 2, dirsel := field w 4 3, latepol := bit w 5, endmode := bit w 6
    tgt := c.tgt, endv := c.endv, win := c.win, ct := if msAct c = 9 then ct else 0 }

/-- The state in which an enabled domain starts (log 44). -/
def domStart (d : Nat) (en act : Bool) : Nat :=
  if !en then 0 else if d < 4 then 1 else if d < 6 then 6 else if d = 6 then 2 else if act then 4 else 0

/-- Every domain starts over. -/
def State.msDomsRestart (s : State) : State :=
  (List.range 8).foldl (fun s d =>
    let cy := s.cycleNow d
    let lv := s.dirLevel d
    let en := (domCfg s.img d).enable
    s.modDom d fun x =>
      { x.restart (domStart d en s.isActive) (if d = 7 then x.cycles else cy) with
        mdl := none, marker := none, live := 0, rev := if (domCfg s.img d).mode = 2 then x.rev else lv, dirSeen := lv }) s

/-- Milestone outputs are off and no pulse runs. -/
def State.msOutputsOff (s : State) : State :=
  { s with
    ms := { s.ms with slots := s.ms.slots.map fun m => { m with pulse := none, wait := none, nextArm := none }, hist := [] }
    fld := { s.fld with dio := s.fld.dio.map fun x => { x with ms := false } } }

def State.confMs (s : State) : State :=
  let s1 : State := { s with ms := { slots := s.img.ms.slots.map fun c => s.msFresh c } }
  s1.msDomsRestart

/-- An MS fault (R269). -/
def State.stopMs (s : State) : State :=
  let s1 := s.msOutputsOff
  let s2 : State := (List.range 8).foldl (fun s d =>
    let cy := s.cycleNow d
    s.modDom d fun x => { x.restart 0 (if d = 7 then x.cycles else cy) with mdl := none }) s1
  ({ s2 with ms := { s2.ms with fault := true } } : State).r38 6 none []

/-- The domains restart at STOPPED, which withdraws their milestones (R245, R247, R269). -/
def State.retryMs (s : State) : State :=
  let s1 : State := { s with ms := { s.ms with fault := false } }
  ((List.range 7).foldl (fun s d => s.msWithdraw s.img d) s1).msDomsRestart

def State.reinitMs (s : State) : State :=
  let s1 : State := { s with ms := { s.ms with slots := s.img.ms.slots.map fun c => s.msFresh c } }
  s1.retryMs

/-- The module becomes ACTIVE: D7 is SYNCED, and slots fire at crossings from the next tick on (R231). -/
def State.enterMs (s : State) : State :=
  let n := cycLen (domCfg s.img 7) 7
  let base : Int := Int.fdiv ((s.clock : Int) - s.origin) (n : Int)
  let s1 : State := { s with ms := { s.ms with activeSince := s.clock } }
  s1.modDom 7 fun x => if (domCfg s.img 7).enable && !s.ms.fault then { x with st := 4, cycles := x.cycles - base } else x

/-- The module leaves ACTIVE: D7 goes OFF, and its slots are written with it (R231, R268). -/
def State.leaveMs (s : State) : State :=
  let cy := s.cycleNow 7
  ((s.msOutputsOff).modDom 7 fun x => { x with st := 0, cycles := cy }).msDomWrite 7

/-- A slot record differs from another only in the fields that R270 lets a running slot change. -/
def msSame (a b : MsSlotCfg) : Bool :=
  decide ({ a with ctl := 0, tgt := 0, endv := 0, win := 0, tgtRef := none, endRef := none, armRef := none, maxPulse := 0 } =
    { b with ctl := 0, tgt := 0, endv := 0, win := 0, tgtRef := none, endRef := none, armRef := none, maxPulse := 0 }) &&
  decide (msDom a = msDom b ∧ msAct a = msAct b)

/-- A domain record differs from another only in the fields that R270 lets a running domain change. -/
def domSame (a b : DomCfg) : Bool :=
  decide (({ a with alphaShift := 0, lossRatio := 0, limit := 0 } : DomCfg) =
    { b with alphaShift := 0, lossRatio := 0, limit := 0 })

/-- A setting that differs between two records is new; the others stay as they are (log 46). -/
def newer {α : Type} [DecidableEq α] (a b cur : α) : α := if a = b then cur else b

/-- The slot takes the settings that differ (R270). -/
def MsSlotSt.retake (m : MsSlotSt) (o c : MsSlotCfg) : MsSlotSt :=
  let u := o.ctl.toNat
  let w := c.ctl.toNat
  { m with
    arm := newer (bit u 0) (bit w 0) m.arm, rep := newer (bit u 2) (bit w 2) m.rep
    dirsel := newer (field u 4 3) (field w 4 3) m.dirsel, latepol := newer (bit u 5) (bit w 5) m.latepol
    endmode := newer (bit u 6) (bit w 6) m.endmode, tgt := newer o.tgt c.tgt m.tgt
    endv := newer o.endv c.endv m.endv, win := newer o.win c.win m.win }

/-- A domain at the switch of an online change: one whose settings differ starts anew. -/
def State.switchDom (old : Image) (s : State) (d : Nat) : State :=
  let a := domCfg old d
  let b := domCfg s.img d
  if a = b ∨ domSame a b = true then s
  else
    let s' := s.msWithdraw old d
    let lv := s'.dirLevel d
    let t : Int := (s.clock : Int) - s.origin
    let cy := if d = 7 then (s.dom 7).cycles + Int.fdiv t (a.zero : Int) - Int.fdiv t (b.zero : Int) else s.cycleNow d
    s'.modDom d fun x => { x.restart (domStart d b.enable s.isActive) cy with
      mdl := none, marker := none, live := 0, rev := lv, dirSeen := lv }

/-- The pulse of a milestone slot that the new image does not hold ends. -/
def State.switchGone (s : State) (m : MsSlotSt) : State :=
  match m.pulse with
  | some p => s.msOff p.dio
  | none => s

/-- A milestone slot of the new image: unchanged, retaken, or fresh. -/
def State.switchSlot (old : Image) (acc : State × List MsSlotSt) (c : MsSlotCfg) : State × List MsSlotSt :=
  let st := acc.1
  match st.msSlot c.num, msCfg old c.num with
  | some m, some o =>
    let keepCt := decide ((syncOf old o).ctRef = (syncOf st.img c).ctRef)
    if o = c then (st, acc.2 ++ [m])
    else if msSame o c = true then (st, acc.2 ++ [m.retake o c])
    else
      let st1 := match m.pulse with | some p => st.msOff p.dio | none => st
      let f := st1.msFresh c
      (st1, acc.2 ++ [{ f with ct := if msAct c = 9 ∧ msAct o = 9 ∧ keepCt = true then m.ct else f.ct }])
  | _, _ => (st, acc.2 ++ [st.msFresh c])

/-- The switch of an online change (R270); `old` is the image that was in force. -/
def State.switchMs (old : Image) (s : State) : State :=
  let s1 := (List.range 8).foldl (State.switchDom old) s
  let s2 := (s1.ms.slots.filter fun m => (msCfg s.img m.num).isNone).foldl State.switchGone s1
  let s3 := s.img.ms.slots.foldl (State.switchSlot old) (s2, [])
  { s3.1 with ms := { s3.1.ms with slots := s3.2 } }

def State.msShadows (s : State) : List MsShadow :=
  s.ms.slots.map fun m =>
    { num := m.num, arm := m.arm, rep := m.rep, dirsel := m.dirsel, latepol := m.latepol, endmode := m.endmode
      tgt := m.tgt, endv := m.endv, win := m.win, ct := m.ct }

/-- The slots take the fields of the REG shadow (R491). -/
def State.applyMs (l : List MsShadow) (s : State) : State :=
  let g (m : MsSlotSt) : MsSlotSt :=
    match findKey (·.num) m.num l with
    | some h =>
      { m with
        arm := h.arm, rep := h.rep, dirsel := h.dirsel, latepol := h.latepol, endmode := h.endmode
        tgt := h.tgt, endv := h.endv, win := h.win, ct := h.ct }
    | none => m
  { s with ms := { s.ms with slots := s.ms.slots.map g } }

end Sys2Proof.Machine
end

