-- ==== Sys2Proof/Machine/Modes.lean ====
section
/-! DEFINITION. Changes of the module state: leaving ACTIVE, SAFE, FAULT, the end of an online change, what survives
a loss of power or a reset (R74, R84, R177, R178, R187, R480, R497, R518, R520, R523). -/

namespace Sys2Proof.Machine

/-! ### The online change ends (R187) -/

def State.olcOn (s : State) : Bool := decide (s.olc.st = .prepared ∨ s.olc.st = .draining)

/-- An abort (R187): `code` 35h or 36h, `cause` the event of R187 that aborts (log 20). -/
def State.olcAbort (code cause : Nat) (s : State) : State :=
  if s.olc.st = .none then s
  else
    let pend := s.olc.st = .loading
    let s1 : State := { s with
      olc := { tsTick := s.olc.tsTick }
      seq := { s.seq with lanes := s.seq.lanes.map fun l => if l.deferred then { l with deferred := false, restart := true } else l } }
    let s2 := s1.record 0x0404 0 0 (leBytes 1 code ++ leBytes 1 cause)
    if pend then s2.answer s.olc.sid s.olc.req code [] else s2

/-! ### Pair participation -/

/-- The module has ended its pair participation for removal (R84): it prepares without owning the outputs, or is prepared. -/
def State.pairEnded (s : State) : Bool :=
  match s.panel.eject with
  | .none => false
  | .preparing _ _ _ => decide (s.mode ≠ .active)
  | .prepared => true

/-! ### Leaving ACTIVE -/

/-- Forces end (R436). What the shadows would carry stays as this module has it: a former active that is asked again before a
shadow has come continues from there (R498). -/
def State.keepShadows (s : State) : State :=
  { s with
    forces := []
    pair := { s.pair with kept := true, shUsl := s.uslShadows, shSta := s.staShadows, shLoop := s.loopShadows
                          shMs := s.msShadows, shSlv := s.slvShadows } }

/-- A checkpoint that waits for its deliver tick is taken now, but for a module in FAULT (R180). -/
def State.leaveBarn (m : ModState) (s : State) : State :=
  if s.barn.req ≠ .await then s
  else if m = .fault ∨ s.maySave = false then { s with barn := { s.barn with req := .none } } else s.snapshot 2

/-- What leaving ACTIVE does in each function. -/
def State.leaveFuncs (planned : Bool) (s : State) : State :=
  let s1 := (((((s.leaveSeq).leaveMs).leaveLoop).leaveSlv).leaveCan).leaveFld
  ((s1.leaveSo).leaveEth planned).leaveUsl

/-- The module leaves ACTIVE for `m` (R177, R180, R187, R480). -/
def State.leaveActive (m : ModState) (planned : Bool) (s : State) : State :=
  if s.mode ≠ .active then { s with mode := m }
  else
    let s1 := (((s.olcAbort 0x36 3).keepShadows).leaveBarn m).leaveFuncs planned
    { s1 with
      mode := m
      pair := { s1.pair with drive := false, relinq := true, ho := none, swapRun := none, revertSince := none } }

/-- A fault of the tested member during a swap test's dwell fails the test (R502): ownership returns at once by
RELINQUISH with cause FAULT, and SWAPFAIL stands. -/
def State.swapFault (f : Nat) (s : State) : State :=
  if s.mode = .active ∧ s.pair.swapRun.isSome = true then
    let s1 : State := { s with pair := { s.pair with swapFail := true, swapTime := s.ns } }
    let s2 := (s1.record 0x030B 0 0 (leBytes 1 f)).sendBoth (.notice 3 1 s.hnow)
    s2.leaveActive .standby false
  else s

/-- Entry to ISOLATED (PAIR_EVT ISOLL). -/
def State.enterIsolated (s : State) : State :=
  let s1 := s.leaveActive .isolated false
  let s2 := s1.pairEvt 4
  { s2 with pair := { s2.pair with takeover := none } }

/-- Entry to SAFE (R178, R497, R523); `func` is the function that R517 names, FFh for none (log 21). -/
def State.enterSafe (func : Nat) (s : State) : State :=
  let was := s.mode = .active
  let s1 := s.leaveActive .safe false
  let s2 : State := { s1 with so := { s1.so with safeLatch := true }, pair := { s1.pair with takeover := none } }
  let s3 := s2.safeFld
  let s4 := s3.record 0x0007 0 0 (leBytes 1 func)
  if was then s4.sendBoth (.notice 5 0 s4.hnow) else s4

/-! ### Loss of power and reset -/

/-- What survives the loss of power and every reset: the backup domain, the security element, the flash, the Barn and
the safety core's store (R74, R77, R109, R111, R182, R458, R468, R502, R520, R521, R523). -/
def State.shell (ph : Phase) (s : State) : State :=
  { clock := s.clock
    tickOrigin := s.clock
    power := { s.power with phase := ph, feedALost := false, feedBLost := false }
    boot := { tr := s.clock, build := s.boot.build, serial := s.boot.serial, dev := s.boot.dev, brownout := s.boot.brownout,
              rtc := s.boot.rtc, rtcSet := s.boot.rtcSet, lampTest := decide (ph = .startup),
              slot := if ph = .startup then s.boot.slot else none }
    store := { owner := s.store.owner, floor := s.store.floor, copyA := s.store.copyA, copyB := s.store.copyB,
               lastLoad := 0, lastType := 0 }
    barn := { banks := s.barn.banks }
    snap := s.snap
    log := { recs := s.log.recs, lastCirc := s.log.lastCirc }
    so := s.so.persist
    fld := s.fld.persist
    pair := { swapFail := s.pair.swapFail, highAt := some s.clock }
    panel := { leds := if ph = .startup then {} else { run := .off, role := .off, fault := .off, safe := .off,
                                                       link := .off, remove := .off } }
    sysTime := if s.boot.rtcSet then sysUnits s.boot.rtc else 0
    freeCtr := s.freeCtr
    out := s.out
    pending := s.pending }

/-- Three readings of the slot pins (R60): bits [5:0] SLOT_ID5 to SLOT_ID0, bit 6 SLOT_ID_PAR. -/
def latchSlot (r1 r2 r3 : Nat) : Option Nat :=
  let ones := ((List.range 7).filter fun i => bit r1 i).length
  if r1 = r2 ∧ r2 = r3 ∧ ones % 2 = 1 then some (r1 % 64) else none

/-- Power-on reset is released: start-up begins (R49, R60, R80, R93). -/
def State.release (r1 r2 r3 : Nat) (s : State) : State :=
  let s1 := s.shell .startup
  { s1 with boot := { s1.boot with slot := latchSlot r1 r2 r3 } }

/-- The management core runs and reads (R93): start-up past the firmware check, or normal running. -/
def State.running (s : State) : Bool :=
  decide (s.power.phase = .operating) || (decide (s.power.phase = .startup) && s.boot.fwRun)

/-- Start-up has ended and no power-fail sequence runs. -/
def State.operating (s : State) : Bool := decide (s.power.phase = .operating)

/-- Start-up runs again from copy selection (R119, R178): every function's operation and all process-image contents
end. -/
def State.restart (s : State) : State :=
  let s1 := s.leaveActive .unconfigured false
  { s1 with
    power := { s1.power with phase := .startup }
    boot := { s1.boot with tr := s1.clock, copyDone := false, code := 0, ldType := 0, fromCopy := true }
    store := { s1.store with image := none, loaded := none, commit := none, selected := none, dup := none,
                             sysFault := false, secFault := false }
    slots := []
    forces := []
    statLast := []
    seq := {}, olc := {}, ms := {}, loop := {}, slv := {}, fld := s1.fld.restart
    can := [{ n := 0 }, { n := 1 }, { n := 2 }, { n := 3 }]
    eth := { s1.eth with stations := [], syncH := none, svc := false, fault := false, cause := 0 }
    usl := {}
    so := { s1.so.persist with fsSq := s1.so.fsSq, pwdFail := s1.so.pwdFail, pwdLock := s1.so.pwdLock }
    pair := { swapFail := s1.pair.swapFail, highAt := some s1.clock }
    bus := { s1.bus with parity := [], parityUp := [] }
    diag := { s1.diag with scopes := [], mf := none } }

end Sys2Proof.Machine
end

