-- ==== Sys2Proof/Machine/LogOps.lean ====
section
/-! DEFINITION. The event recorder's records, their slots, writing and clearing (R524 to R531). -/

namespace Sys2Proof.Machine

/-- INFO of a record (R524). -/
def Entry.info (e : Entry) : Nat := e.sev % 4 + 4 * b2n e.tunsure + 8 * (e.unit % 2048)

/-- Bytes 0 to 27 of a record. -/
def Entry.body (e : Entry) : List Byte :=
  leBytes 4 e.num ++ leBytes 2 e.code ++ leBytes 2 e.info ++ leBytes 8 e.time ++ (e.data ++ List.replicate 12 0).take 12

/-- The 32 bytes of a valid record (R524). -/
def Entry.bytes (e : Entry) : List Byte := e.body ++ leBytes 2 (crc16 e.body).toNat ++ leBytes 2 0xA55A

/-- The entry that a stored record spells. -/
def entryOfBytes (b : List Byte) : Entry :=
  let i := getN b 6 2
  { num := getN b 0 4, tick := 0, code := getN b 4 2, sev := i % 4, tunsure := bit i 2, unit := field i 13 3, item := 0,
    time := getN b 8 8, data := slice b 16 12 }

/-- A record is written whole (R524, R525). -/
def Log.store (clearing : Bool) (e : Entry) (l : Log) : Log :=
  let i := recSlot clearing l.recs
  { l with recs := insertKey i e l.recs, lastCirc := if i < 256 then l.lastCirc else some i
           episodes := if e.code = 0x0203 then satInc 32767 l.episodes else l.episodes }

/-- The write in progress ends; the snapshot's PENDING record is then written (R531). -/
def State.writeEnd (s : State) : State :=
  match s.log.writing with
  | none => s
  | some (e, _) =>
    let l := { s.log.store s.snap.clearing e with writing := none }
    { s with
      log := l
      snap := if e.code = 0x0003 ∧ s.snap.pending then { s.snap with pending := false } else s.snap }

/-- Every entry that waits is written in order, the POWER_FAIL record last (R520, R528). -/
def drainLog : Nat → State → State
  | 0, s => s
  | n + 1, s =>
    let s1 := s.writeEnd
    let l := s1.log.begin s1.clock s1.snap.clearing
    if l.writing = none then s1 else drainLog n { s1 with log := l }

def State.flushLog (s : State) : State := drainLog 200 s

/-- An unacknowledged record exists (R530). -/
def State.unack (s : State) : Bool := s.log.recs.any fun p => decide (1 ≤ p.2.sev ∧ s.snap.ackNum < p.2.num)

/-- LOG_CLEARED (R529, R533). -/
def State.clearedEntry (s : State) : Entry :=
  { num := s.snap.clearNum, tick := s.clock, code := 0x0201, sev := 0, tunsure := s.tunsure, unit := 0, item := 0,
    time := s.ns, data := fit12 (leBytes 4 s.snap.discard ++ s.snap.clearFp.take 8) }

/-- Steps 3 to 5 of R529, for the records that `gone` names. -/
def State.finishClear (gone : Entry → Bool) (s : State) : State :=
  let n := (s.log.recs.filter fun p => gone p.2).length
  let s1 : State := { s with snap := { s.snap with discard := s.snap.discard + n } }
  let e := s1.clearedEntry
  { s1 with
    log := { s1.log with recs := insertKey 0 e (s1.log.recs.filter fun p => !gone p.2), clear := none }
    snap := { s1.snap with ackNum := s1.snap.clearNum, clearing := false } }

/-- LOG_CLEAR begins (R529 steps 1 and 2). -/
def State.startClear (sid req : Nat) (fp : List Byte) (s : State) : State :=
  let s1 := s.writeEnd
  { s1 with
    log := { s1.log with lastNum := s1.log.lastNum + 1, clear := some (sid, req) }
    snap := { s1.snap with clearNum := s1.log.lastNum + 1, discard := 0, clearFp := fp.take 8, clearing := true } }

/-- The recorder's scan at start-up takes the highest valid NUM, and writes LOG_RESTART or completes a clear (R531). -/
def State.logScan (lost : Bool) (s : State) : State :=
  let top := s.log.recs.foldl (fun a p => max a p.2.num) 0
  let last := if s.snap.clearing then max top s.snap.clearNum else top
  if s.snap.clearing then
    ({ s with log := { s.log with lastNum := last } } : State).finishClear fun e => decide (e.num < s.snap.clearNum)
  else if lost then ({ s with log := { s.log with lastNum := 0 } } : State).record 0x0202 0 0 (leBytes 1 1)
  else if s.log.recs = [] then ({ s with log := { s.log with lastNum := 0 } } : State).record 0x0202 0 0 (leBytes 1 2)
  else { s with log := { s.log with lastNum := last } }

/-- The module-fault record that the safety core left pending is staged last (R518, R531). -/
def State.logPending (s : State) : State :=
  if s.snap.pending then
    { s with log := s.log.enter s.clock { entryOfBytes s.snap.record with tick := s.clock } }
  else s

/-- The recorder starts (R531). -/
def State.logStart (lost : Bool) (s : State) : State := (s.logScan lost).logPending

end Sys2Proof.Machine
end

