-- ==== Sys2Proof/Machine/Faults.lean ====
section
/-! DEFINITION. Faults, their scopes and the recovery ladder (R143, R151, R516 to R522). -/

namespace Sys2Proof.Machine

/-! ### What a fault and a rung do in each function -/

/-- The function or unit stops (R38 and the owning chapter). LOG and IMG keep working. -/
def State.stopFunc (f : Nat) (u : Option Nat) (s : State) : State :=
  match f with
  | 0 => let s1 : State := { s with store := { s.store with sysFault := true } }
         s1.r38 0 none []
  | 1 => { s with store := { s.store with secFault := true } }
  | 3 => let s1 : State := { s with pair := { s.pair with fault := true } }
         s1.r38 3 none (s.img.pair.statSlot.toList)
  | 4 => s.stopSeq
  | 6 => s.stopMs
  | 7 => s.stopLoop
  | 8 => s.stopSlv
  | 9 => s.stopCan u
  | 10 => s.stopAi u
  | 11 => s.stopAo u
  | 12 => s.stopDio u
  | 13 => s.stopSo
  | 14 => s.stopEth
  | 15 => s.stopUsl
  | _ => s

/-- A word that R513 found failing is rewritten on RETRY of SYS (R151). -/
def State.rewriteWord (s : State) (l : MemLoc) : State :=
  match l with
  | .slot i => if ownAssigned (s.entry i) then s else { s with slots := eraseKey i s.slots }
  | .quality i => s.writeSlot i (s.ownSlot i).1 0
  | _ => s

/-- RETRY on a function or unit. -/
def State.retryFunc (f : Nat) (u : Option Nat) (s : State) : State :=
  match f with
  | 0 =>
    let s1 := s.diag.failing.foldl State.rewriteWord s
    { s1 with store := { s1.store with sysFault := false }, statLast := eraseKey s.img.reginit.sysSlot s1.statLast
              diag := { s1.diag with failing := [] } }
  | 1 => { s with store := { s.store with secFault := false } }
  | 3 => { s with pair := { s.pair with fault := false, gotReg := false, gotSlv := false, shLost := false } }
  | 4 => s.retrySeq
  | 6 => s.retryMs
  | 7 => s.retryLoop
  | 8 => s.retrySlv
  | 9 => s.retryCan u
  | 10 => s.retryAi u
  | 11 => s.retryAo u
  | 12 => s.retryDio u
  | 13 => s.retrySo
  | 14 => s.retryEth
  | 15 => s.retryUsl
  | _ => s

/-- REINIT on a function or unit: RETRY after the configuration registers are rewritten (R144, R151, R509). LOG
returns its latches to reset; SYS returns the DIAG latches and counts, and PAIR its latches and counters. -/
def State.reinitFunc (f : Nat) (u : Option Nat) (s : State) : State :=
  match f with
  | 0 =>
    let s1 := s.retryFunc 0 none
    { s1 with diag := { s1.diag with chkFailL := false, totals := List.replicate 16 0, corr := 0, hard := 0, backed := 0 } }
  | 1 => s.retryFunc 1 none
  | 2 => { s with log := { s.log with lost := 0, episodes := 0, peak := s.log.fifo.length } }
  | 3 =>
    let s1 := s.retryFunc 3 none
    { s1 with pair := { s1.pair with evt := 0, mirrors := 0, mlost := 0 } }
  | 4 => s.reinitSeq
  | 6 => s.reinitMs
  | 7 => s.reinitLoop
  | 8 => s.reinitSlv
  | 9 => s.reinitCan u
  | 10 => s.reinitAi u
  | 11 => s.reinitAo u
  | 12 => s.reinitDio u
  | 13 => s.reinitSo
  | 14 => s.reinitEth
  | 15 => s.reinitUsl
  | _ => s

/-! ### Scopes -/

/-- A settable DIAG section, or its lowest settings where no image is committed. -/
def State.dg (s : State) : DiagSec := s.img.diag

def isScope (f : Nat) (u : Option Nat) (x : Scope) : Bool := decide (x.f = f ∧ x.unit = u)

def State.scope (f : Nat) (u : Option Nat) (s : State) : Option Scope := s.diag.scopes.find? (isScope f u)

def State.scopeOn (f : Nat) (u : Option Nat) (s : State) : Bool :=
  match s.scope f u with | some x => x.standing | none => false

/-- A scope changed by `g`; it is added where it is not yet listed. -/
def State.modScope (f : Nat) (u : Option Nat) (g : Scope → Scope) (s : State) : State :=
  let l := s.diag.scopes
  let l' := if l.any (isScope f u) then l.map fun x => if isScope f u x then g x else x else l ++ [g { f := f, unit := u }]
  { s with diag := { s.diag with scopes := l' } }

/-- A function's register range (R148); DIAG counts as SYS (R143). -/
def funcOfAddr (a : Nat) : Option Nat :=
  if a < 0x0400 then some 0 else if a < 0x0800 then some 1 else if a < 0x0C00 then some 2 else if a < 0x1000 then some 3
  else if a < 0x1400 then some 4 else if a < 0x2000 then some 5 else if a < 0x3000 then some 6
  else if a < 0x5800 then some 7 else if a < 0x6000 then none else if a < 0x7000 then some 8
  else if a < 0x8000 then some 9 else if a < 0x8400 then some 10 else if a < 0x8800 then some 11
  else if a < 0x8C00 then some 12 else if a < 0x9000 then some 13 else if a < 0x9400 then some 14
  else if a < 0x9800 then some 15 else if a < 0x9C00 then some 0
  else if a < 0x10000 then none else if a < 0x10000 + 160 * 64 then some 7 else none

/-- The scope that a failing register faults: a function, or a CAN channel (R143, R421). -/
def parityScope (a : Nat) : Option (Nat × Option Nat) :=
  (funcOfAddr a).map fun f => (f, if f = 9 then some ((a - 0x7000) / 0x400) else none)

/-- The register belongs to function `f`, or to its unit `u`. -/
def inScope (f : Nat) (u : Option Nat) (a : Nat) : Bool :=
  match parityScope a with
  | some (g, v) => decide (g = f) && (u.isNone || decide (u = v))
  | none => false

def State.clearFault (f : Nat) (u : Option Nat) (s : State) : State :=
  let s1 := s.modScope f u fun x => { x with standing := false, last := s.clock }
  { s1 with bus := { s1.bus with parityUp := s1.bus.parityUp.filter fun a => !inScope f u a } }

/-- The configuration registers of a function, or of a CAN channel, are rewritten: their parity is right again (R141,
R147). -/
def State.rewriteCfg (f : Nat) (u : Option Nat) (s : State) : State :=
  { s with bus := { s.bus with parity := s.bus.parity.filter fun a => !inScope f u a } }

/-! ### Module fault (R516, R518) -/

/-- The bytes of MODULE_FAULT's DATA (R533). -/
def State.mfData (cause f : Nat) (s : State) : List Byte :=
  leBytes 1 cause ++ leBytes 1 f ++ leBytes 1 s.snap.cs ++ leBytes 1 s.snap.cp ++ leBytes 8 s.hnow

/-- The FAULT bits as they stood: a module fault stops every function and is no fault of the function's own. -/
def State.withFaults (b s : State) : State :=
  { s with
    store := { s.store with sysFault := b.store.sysFault }
    pair := { s.pair with fault := b.pair.fault }
    seq := { s.seq with fault := b.seq.fault }
    ms := { s.ms with fault := b.ms.fault }
    loop := { s.loop with fault := b.loop.fault }
    slv := { s.slv with fault := b.slv.fault }
    can := s.can.map fun c => { c with fault := (b.can1 c.n).fault }
    fld := { s.fld with aiFault := b.fld.aiFault, aoFault := b.fld.aoFault, dioFault := b.fld.dioFault }
    so := { s.so with fault := b.so.fault }
    eth := { s.eth with fault := b.eth.fault }
    usl := { s.usl with fault := b.usl.fault } }

/-- A function's own FAULT bit is set (R271, R357 and the other STAT registers). -/
def State.faultBit (f : Nat) (s : State) : State :=
  match f with
  | 4 => { s with seq := { s.seq with fault := true } }
  | 6 => { s with ms := { s.ms with fault := true } }
  | 7 => { s with loop := { s.loop with fault := true } }
  | 8 => { s with slv := { s.slv with fault := true } }
  | 13 => { s with so := { s.so with fault := true } }
  | 15 => { s with usl := { s.usl with fault := true } }
  | _ => s

/-- Every function but SEC, LOG and IMG stops, R38 included (R518); no FAULT bit is set by it. -/
def State.stopAll (s : State) : State :=
  s.withFaults ((List.range 16).foldl (fun s f => if f = 5 ∨ f = 2 ∨ f = 1 then s else s.stopFunc f none) s)

/-- The module fault is recorded, or left pending to the safety core's snapshot where the management core cannot record
(R518, R521). -/
def State.keepFault (cause f : Nat) (canRec : Bool) (s : State) : State :=
  let d := s.mfData cause f
  let e : Entry := { num := 0, tick := s.clock, code := 0x0003, sev := 2, tunsure := s.tunsure, unit := 0, item := 0,
                     time := s.ns, data := d }
  if canRec then
    let s1 := s.record 0x0003 0 0 d
    { s1 with snap := { s1.snap with mcause := cause, record := ({ e with num := s1.log.lastNum } : Entry).bytes,
                                     pending := false } }
  else { s with snap := { s.snap with mcause := cause, record := e.bytes, pending := true } }

/-- A module fault (R518). `canRec` tells that the management core can record it. -/
def State.moduleFault (cause f : Nat) (canRec : Bool) (s : State) : State :=
  let s0 := if s.mode = .active ∧ s.pair.swapRun = none then s.sendBoth (.notice 3 1 s.hnow) else s.swapFault f
  let s1 := (s0.leaveActive .fault false).stopAll
  let s2 : State := { s1 with
    diag := { s1.diag with mf := s1.diag.mf.or (some (cause, f, s.clock)) }
    pair := { s1.pair with takeover := none } }
  s2.keepFault cause f canRec

/-! ### Function and unit faults (R517, R519) -/

/-- The functions that R517 names. -/
def r517 (f : Nat) : Bool := decide (f ∈ [4, 6, 7, 8, 13, 15])

/-- The partner is STANDBY and ELIGIBLE in its last valid HELLO (R517). -/
def State.partnerReady (s : State) : Bool :=
  match s.pair.partner with
  | some h => decide (h.state = 1) && h.eligible && !s.pair.silent
  | none => false

/-- A fault of a function or unit is detected: it is recorded by `rec`, its scope stops, and the ladder of R519 or the
answer of R517 follows. A fault raised while its scope's fault stands is recorded and not counted. -/
def State.raiseScope (f : Nat) (u : Option Nat) (rec : State → State) (s : State) : State :=
  if s.scopeOn f u || s.mode = .fault then rec s
  else
    let s1 := (rec s).modScope f u fun x => { x with standing := true, tf := s.clock, last := s.clock, ladder := true }
    let s2 : State := { s1 with diag := { s1.diag with totals := modifyAt s1.diag.totals f (satInc 32767) } }
    if s.mode = .active ∧ u = none ∧ r517 f = true then
      if s.partnerReady then (s2.moduleFault 7 f true).faultBit f
      else if bit s.dg.safeMask f then
        ((s2.stopFunc f none).modScope f none fun x => { x with ladder := false }).enterSafe f
      else s2.stopFunc f none
    else if u.isSome && (f == 11 || f == 12) then (s2.stopFunc f u).swapFault f
    else s2.stopFunc f u

/-- A function fault, recorded as FUNCTION_FAULT (R533). -/
def State.funcFault (f cause addr : Nat) (s : State) : State :=
  s.raiseScope f none fun s => s.record 0x0013 0 f (leBytes 1 f ++ leBytes 1 cause ++ leBytes 2 addr)

/-- CAUSE of a configuration-parity fault in each function's STAT register; 1 where the function has none (log 51). -/
def parityCause (f : Nat) : Nat := if f = 4 then 3 else if f = 6 ∨ f = 7 ∨ f = 8 then 2 else 1

/-- A function's STAT register takes the CAUSE of its latest fault. -/
def State.setCause (f : Nat) (u : Option Nat) (c : Nat) (s : State) : State :=
  match f with
  | 4 => { s with seq := { s.seq with cause := c } }
  | 6 => { s with ms := { s.ms with cause := c } }
  | 7 => { s with loop := { s.loop with cause := c } }
  | 8 => { s with slv := { s.slv with cause := c } }
  | 9 => match u with
    | some n => s.modCan n fun x => { x with cause := c }
    | none => s
  | 10 => { s with fld := { s.fld with aiCause := c } }
  | 11 => { s with fld := { s.fld with aoCause := c } }
  | 12 => { s with fld := { s.fld with dioCause := c } }
  | 13 => { s with so := { s.so with cause := c } }
  | 14 => { s with eth := { s.eth with cause := c } }
  | 15 => { s with usl := { s.usl with cause := c } }
  | _ => s

/-- The address that SYS_CFGPAR and the records give for a failing register; a coefficient word has its window's. -/
def parityAddr (addr : Nat) : Nat := if addr < 0x10000 then addr else 0x300C + 0x40 * ((addr - 0x10000) / 64)

/-- A configuration register's parity fails and is detected (R143, R421). -/
def State.parityDetect (addr : Nat) (s : State) : State :=
  if s.bus.parityUp.contains addr then s
  else match parityScope addr with
    | none => s
    | some (f, u) =>
      let ra := parityAddr addr
      let diag := decide (0x9800 ≤ ra ∧ ra < 0x9C00)
      let s0 := s.latchSet 0x0030 0x80000000
      let s1 : State := { s0 with bus := { s0.bus with
        parityUp := addr :: s.bus.parityUp
        cfgFail := true
        cfgAddr := if s.bus.cfgFail then s.bus.cfgAddr else ra
        cfgFunc := if s.bus.cfgFail then s.bus.cfgFunc else f
        cfgDiag := if s.bus.cfgFail then s.bus.cfgDiag else diag } }
      let s2 := s1.record 0x000D 0 ra (leBytes 2 ra ++ leBytes 1 f)
      let c := parityCause f
      (s2.setCause f u c).raiseScope f u fun s => s.record 0x0013 (u.getD 0) f (leBytes 1 f ++ leBytes 1 c ++ leBytes 2 ra)

/-! ### Rungs (R519, R520) -/

def State.recordRung (rung n f : Nat) (s : State) : State :=
  if s.panel.mgmtStopped then s else s.record 0x0004 0 0 (leBytes 1 rung ++ leBytes 1 n ++ leBytes 1 f)

/-- A ladder runs: the module is not prepared for removal (R84). -/
def State.ladderOn (s : State) : Bool := decide (s.panel.eject ≠ .prepared)

/-- A rung of function `f` clears its units' faults too; only REINIT (`all`) reaches latched units, together with their
counts (R519). A rung on one unit acts on that unit alone. -/
def State.clearUnits (f : Nat) (u : Option Nat) (all : Bool) (s : State) : State :=
  match u with
  | some _ => s
  | none =>
    let g (y : Scope) : Scope :=
      if y.f ≠ f ∨ y.unit.isNone = true then y
      else if y.latched then (if all then { y with latched := false, standing := false, cr := 0, ci := 0 } else y)
      else if y.standing then { y with standing := false, last := s.clock } else y
    { s with diag := { s.diag with scopes := s.diag.scopes.map g } }

/-- The rung of a function or unit whose fault stands (R519). -/
def State.takeRung (f : Nat) (u : Option Nat) (s : State) : State :=
  match s.scope f u with
  | none => s
  | some x =>
    if !x.standing || x.latched || !x.ladder || !s.ladderOn || s.mode = .fault ||
        decide (s.clock < x.tf + msTicks s.dg.retryDelay) then s
    else if x.cr < s.dg.retryMax then
      let s1 := (s.recordRung 1 (x.cr + 1) f).modScope f u fun y => { y with cr := y.cr + 1 }
      ((s1.clearFault f u).clearUnits f u false).retryFunc f u
    else if x.ci < s.dg.reinitMax then
      let s1 := (s.recordRung 2 (x.ci + 1) f).modScope f u fun y => { y with ci := y.ci + 1, cr := 0 }
      (((s1.clearFault f u).clearUnits f u true).reinitFunc f u).rewriteCfg f u
    else match u with
      | some n => (s.modScope f u fun y => { y with latched := true }).record 0x1004 n 0 (leBytes 1 f ++ leBytes 2 n)
      | none => s.moduleFault 6 f true

/-- RESET (R520): the staged records are written, and every part is held in reset for 10 ms. -/
def State.reset10ms (s : State) : State := (if s.panel.mgmtStopped then s else s.flushLog).shell (.resetHold s.clock)

/-- The rung of a module fault (R520). -/
def State.takeModuleRung (s : State) : State :=
  match s.diag.mf with
  | none => s
  | some (_, f, tf) =>
    if s.snap.lstop || !s.ladderOn || s.panel.pcycReq.isSome || s.diag.pcycEnd.isSome ||
        decide (s.clock < tf + msTicks s.dg.retryDelay) then s
    else if s.snap.cs < s.dg.resetMax then
      let s1 : State := { s with snap := { s.snap with cs := s.snap.cs + 1 } }
      (s1.recordRung 3 s1.snap.cs f).reset10ms
    else if s.snap.cp < s.dg.pcycMax then
      let s1 : State := { s with snap := { s.snap with cp := s.snap.cp + 1 }
                                 panel := { s.panel with pcycReq := some s.clock } }
      s1.recordRung 4 s1.snap.cp f
    else
      let s1 : State := { s with snap := { s.snap with lstop := true } }
      s1.record 0x0005 0 0 []

/-- A LADDER_WINDOW passes without a fault (R519, R520). -/
def State.ladderWindow (f : Option Nat) (u : Option Nat) (s : State) : State :=
  let w := secTicks s.dg.ladderWindow
  match f with
  | some f =>
    match s.scope f u with
    | some x =>
      if x.standing || x.latched || decide (s.clock < x.last + w) then s
      else s.modScope f u fun y => { y with cr := 0, ci := 0 }
    | none => s
  | none =>
    if s.operating && s.mode ≠ .fault && decide (s.boot.endTick + w ≤ s.clock) then
      { s with snap := { s.snap with cs := 0, cp := 0, zeroTime := s.ns } }
    else s

/-- A write of GO to DIAG_RECOVER (R522). -/
def State.diagRecover (f unit : Nat) (module : Bool) (s : State) : State :=
  if module then
    if s.snap.lstop && decide (s.mode = .fault) then
      ({ s with snap := { s.snap with cs := 0, cp := 0, lstop := false, zeroTime := s.ns } } : State).reset10ms
    else s
  else match s.scope f (some unit) with
    | some x =>
      if x.latched then
        let s1 := s.modScope f (some unit) fun y => { y with latched := false, cr := 0, ci := 0 }
        (s1.clearFault f (some unit)).retryFunc f (some unit)
      else s
    | none => s

end Sys2Proof.Machine
end

