-- ==== Sys2Proof/Machine/PairOps.lean ====
section
/-! DEFINITION. The pair: what a member knows of its partner, step, eligibility, hand-overs (R486 to R500), and the
status words that SYS and PAIR write (R150, R508). -/

namespace Sys2Proof.Machine

/-- The STAGE_DIGEST of R485: that of a VERIFIED staging copy. -/
def State.stageDigest (s : State) : List Byte :=
  match s.store.stage.st, s.store.stage.img with
  | .verified, some i => i.digest
  | _, _ => List.replicate 32 0

/-- The pair accepts either digest: from OLC_PREPARED until 10 ms after the switch (R488). A STANDBY learns of the change
from its partner's HELLO, and takes the first HELLO that no longer shows it for ts where no SWITCH notice has come (log 24). -/
def State.olcWindow (s : State) : Bool :=
  s.olcOn || (match s.olc.tsTick with | some t => decide (s.clock ≤ t + msTicks 10) | none => false) ||
  (match s.pair.partner with | some h => decide (h.olc ≠ 0) | none => false) || decide (0 < s.pair.olcEnd ∧ s.clock ≤ s.pair.olcEnd)

/-- The sender of a HELLO receives this member's own: it has one, and got it within PL_TIMEOUT (R485, R486, R488). -/
def State.hears (h : Hello) (s : State) : Bool := decide (h.echo ≠ 0 ∧ h.dwell < s.img.pair.plTimeout)

/-- The partner's HELLO meets R488. -/
def State.meets (h : Hello) (s : State) : Bool :=
  s.committed && decide (h.member ≠ s.member ∧ (h.member = 1 ∨ h.member = 2)) &&
  decide (s.img.flevel ≤ h.flevel ∧ s.img.flevel ≤ 3) &&
  (decide (h.digest = s.img.digest) ||
    (s.olcWindow && decide (s.store.stage.st = .verified ∧ h.digest = s.stageDigest)))

def State.present (s : State) : Bool := !s.pair.silent

/-- The partner's state in its last valid HELLO; 0 where none was received or the partner is silent (log 24). -/
def State.pstate (s : State) : Nat :=
  match s.pair.partner with
  | some h => if s.pair.silent then 0 else h.state
  | none => 0

/-- The latest harvest number of the shadow grid (R487, R492). -/
def State.gridH (s : State) : Option Nat :=
  s.pair.grid.map fun g => g.2 + (s.clock - g.1) / s.img.cycle.base

/-- A STANDBY is in step (R492). -/
def State.inStep (s : State) : Bool :=
  match s.gridH, s.pair.mirH, s.pair.safetyH, s.pair.stationH with
  | some g, some m, some a, some b =>
    decide (s.mode = .standby) && s.pair.gotReg && s.pair.gotSlv && !s.pair.shLost && decide (g ≤ m + 2 ∧ g ≤ a + 2 ∧ g ≤ b + 2)
  | _, _, _, _ => false

/-- R496. -/
def State.eligible (s : State) : Bool :=
  decide (s.mode = .standby) && decide (s.panel.key ≠ .stop) && s.diag.mf.isNone && !s.pair.swapFail &&
  (match s.pair.partner with
   | some h => s.pair.silent || (s.meets h && (decide (h.state ≠ 2) || s.inStep))
   | none => true)

def State.partnerInStep (s : State) : Bool :=
  match s.pair.partner with | some h => !s.pair.silent && h.inStep | none => false

def State.partnerEligible (s : State) : Bool :=
  match s.pair.partner with | some h => !s.pair.silent && h.eligible | none => false

/-- The image in force binds this module as member A or B (R107). -/
def State.isMember (s : State) : Bool := decide (s.member = 1 ∨ s.member = 2)

/-- A member of a MODE 0 pair; a prepared or preparing module takes no part (R84). -/
def State.inPair (s : State) : Bool :=
  decide (s.member = 1 ∨ s.member = 2) && !s.img.pair.single

def State.participates (s : State) : Bool :=
  s.operating && decide (s.member ≠ 0) && !s.pairEnded

/-- OWNER_N reads low: driven here, or by a partner that reports OWNING (log 25). -/
def State.ownerLow (s : State) : Bool :=
  s.pair.drive || (match s.pair.partner with | some h => !s.pair.silent && h.owning | none => false)

/-- The tick from which OWNER_N has read high for 800 consecutive ticks (R481). -/
def State.ownerFree (s : State) : Option Nat := s.pair.highAt.map (· + 800)

/-- OWNER_N has read high for 800 consecutive ticks (R481). -/
def State.ownerHigh (s : State) : Bool := match s.ownerFree with | some t => decide (t ≤ s.clock) | none => false

/-- The reading of OWNER_N at the end of a command. -/
def State.senseOwner (s : State) : State :=
  { s with pair := { s.pair with highAt := if s.ownerLow then none else s.pair.highAt.or (some s.clock) } }

/-- A member that may become ACTIVE at all: not member B of a MODE 1 image (R479), not one that ends its participation for
removal (R84), and not in STOP (R174). -/
def State.mayOwn (s : State) : Bool :=
  !(s.img.pair.single && decide (s.member = 2)) && !s.pairEnded && decide (s.panel.key ≠ .stop)

/-- The module status slot's word (R150). -/
def State.sysStateWord (s : State) : Nat :=
  s.mode.code + 16 * s.panel.key.code + 64 * b2n s.panel.keyFault + 128 * b2n s.olcOn + 256 * (s.boot.outcome % 256) +
  65536 * b2n (s.boot.selftest == some false) + 131072 * b2n s.committed + 262144 * b2n s.boot.rtcValid

def State.sysStatusWord (s : State) : W32 :=
  BitVec.ofNat 32 (s.sysStateWord + 524288 * b2n s.power.feedAOk + 1048576 * b2n s.power.feedBOk)

/-- The pair status slot's word (R508). -/
def State.pairStatusWord (s : State) : W32 :=
  BitVec.ofNat 32 (b2n s.isActive + 2 * b2n s.present + 4 * b2n s.partnerInStep + 8 * b2n s.pair.refOk +
    16 * b2n s.pair.lane0 + 32 * b2n s.pair.lane1 + 64 * b2n s.pair.swapRun.isSome + 256 * (s.pstate % 8))

/-- A planned hand-over may run (R500). -/
def State.mayHandOver (s : State) : Bool :=
  decide (s.mode = .active) && s.partnerReady && decide (s.olc.st = .none) && (s.pair.lane0 || s.pair.lane1) &&
  decide (s.panel.eject ≠ .prepared)

/-- HANDOVER_REFUSED (R500): a request is refused; one that runs goes on (R174). -/
def State.refuseRequest (kind : Nat) (s : State) : State := s.record 0x030D 0 0 (leBytes 1 kind)

/-- A hand-over that has been requested is refused after all (R500, R506). -/
def State.refuseHandover (kind : Nat) (s : State) : State :=
  ({ s with pair := { s.pair with ho := none } } : State).refuseRequest kind

/-- The harvest number that this module's grid gives the present tick (R154). -/
def State.hAt (t : Nat) (s : State) : Nat := s.seq.h0 + (t - s.seq.tg) / s.img.cycle.base

/-- The tick of harvest number `h` on this module's grid (R154). -/
def State.hTick (h : Nat) (s : State) : Nat := s.seq.tg + (h - s.seq.h0) * s.img.cycle.base

/-- The active requests a planned hand-over and names hx, the second harvest after the request (R500). -/
def State.requestHandover (kind : Nat) (s : State) : State :=
  if s.mayHandOver && s.pair.ho.isNone then
    let hx := s.hAt s.clock + 2
    ({ s with pair := { s.pair with ho := some { hx := hx, kind := kind } } } : State).sendBoth (.notice 1 0 hx)
  else s.refuseRequest kind

end Sys2Proof.Machine
end

