-- ==== Sys2Proof/Machine/RegReadSys.lean ====
section
/-! DEFINITION. What the SYS, SEC, LOG, PAIR and DIAG registers read (04, 15, 16). -/

namespace Sys2Proof.Machine

/-! ### Tollgates (R129 to R131) -/

/-- A tollgate is open through its expiry tick (R129, R130). -/
def MasterSt.gateOpen (now : Nat) (m : MasterSt) : Bool :=
  match m.tgOpen with | some t => decide (now ≤ t + msTicks 1) | none => false

def MasterSt.gateLocked (now : Nat) (m : MasterSt) : Bool :=
  match m.tgLock with | some t => decide (now < t + secTicks 1) | none => false

/-! ### SYS -/

def rdSysId (s : State) : Nat := 3 + 256 * b2n s.boot.build + 0x09600000

def rdSysSlot (s : State) : Nat :=
  match s.boot.slot with | some n => n + 256 + 512 * s.member | none => 0

def rdSysPower (s : State) : Nat :=
  b2n s.power.feedAOk + 2 * b2n s.power.feedBOk + 4 * b2n s.power.feedALost + 8 * b2n s.power.feedBLost +
  16 * b2n s.power.pwrEn + 32 * b2n s.power.mate1 + 64 * b2n s.power.mate2

def rdSysTgstat (s : State) (m : MasterSt) : Nat :=
  if m.gateLocked s.clock then 2 + 4 * 4 else b2n (m.gateOpen s.clock) + 4 * (if m.tgLock.isSome then 0 else m.tgFails)

def rdSysAccerr (s : State) : Nat := s.bus.accFlags.toNat + 65536 * s.bus.accCount

def rdSysAccfirst (s : State) : Nat := s.bus.firstAddr + 65536 * s.bus.firstCause + 1048576 * s.bus.firstMaster

def rdSysCfgpar (s : State) : Nat :=
  s.bus.cfgAddr % 65536 + 65536 * s.bus.cfgFunc + 1048576 * b2n s.bus.cfgDiag + 2147483648 * b2n s.bus.cfgFail

def rdSysGuard (s : State) : Nat := if s.committed then s.img.reginit.guardSel.toNat else 0

/-! ### SEC -/

def StoredCopy.marked (c : StoredCopy) : Bool := decide (c.mark = 0x5A5AC3C3#32)

/-- The staging copy is B (R115). -/
def State.stagingB (s : State) : Bool :=
  if s.committed then
    decide (s.store.copyA = s.store.copyB) || s.store.selected != some true
  else !(s.store.candB && !s.store.candA)

def Stage.code : Stage → Nat
  | .empty => 0 | .receiving => 1 | .received => 2 | .verified => 3

def rdSecStatus (s : State) : Nat :=
  b2n s.store.owner.isSome + 2 * b2n s.boot.seOk + 16 * b2n s.stagingB + 32 * s.store.stage.st.code +
  256 * b2n s.store.copyA.marked + 512 * b2n s.store.copyB.marked + 1024 * b2n s.store.dup.isSome +
  65536 * (s.store.lastLoad % 256) + 16777216 * (s.store.lastType % 256)

def rdSecImage (s : State) : Nat := if s.committed then s.img.flevel % 256 + 256 * s.img.diagprof else 0
def rdSecSeq (s : State) : Nat := if s.committed then s.img.seqNo else 0
def rdSecDigest (s : State) (k : Nat) : Nat := if s.committed then getN s.img.digest (4 * k) 4 else 0
def rdSecOwnerfp (s : State) : Nat := match s.store.owner with | some o => getN o.2 0 8 | none => 0
def rdSecSerial (s : State) (k : Nat) : Nat := getN s.boot.serial (4 * k) 4

/-! ### LOG -/

def rdLogStat (s : State) : Nat :=
  let fr := (s.log.recs.filter fun p => decide (p.1 < 256)).length
  let ci := (s.log.recs.filter fun p => decide (256 ≤ p.1)).length
  fr + 512 * ci + 1048576 * s.log.fifo.length + 134217728 * b2n s.log.clear.isSome + 268435456 * b2n s.unack

def rdLogLost (s : State) : Nat := s.log.lost + 65536 * s.log.episodes

def rdLogInfo (m : MasterSt) : Nat := b2n m.logValid + 2 * b2n m.logFrozen + 4 * m.logSlot

/-- A write of LOG_RD_NUM captures the valid record with that NUM (LOG_RD_NUM). -/
def State.captureLog (num : W32) (s : State) (m : MasterSt) : MasterSt :=
  match s.log.recs.find? fun p => decide (p.2.num = num.toNat) with
  | some (i, e) =>
    { m with logNum := num, logValid := true, logFrozen := decide (i < 256), logSlot := i
             logData := (List.range 8).map fun j => BitVec.ofNat 32 (getN e.bytes (4 * j) 4) }
  | none => { m with logNum := num, logValid := false, logFrozen := false, logSlot := 0, logData := [] }

/-! ### PAIR -/

def rdPairStat (s : State) : Nat :=
  let instep := match s.mode with | .standby => s.inStep | .active => s.partnerInStep | _ => false
  b2n s.present + 2 * b2n s.pair.lane0 + 4 * b2n s.pair.lane1 + 8 * b2n (s.pair.digEq && s.present) + 16 * b2n instep +
  32 * b2n s.eligible + 64 * b2n s.partnerEligible + 128 * b2n s.pair.refOk + 256 * (s.pstate % 8) +
  2048 * b2n s.ownerLow + 4096 * (s.pair.owner % 4) + 16384 * b2n s.pair.swapRun.isSome + 32768 * b2n s.pair.swapFail +
  65536 * b2n s.pair.ho.isSome

def rdPairCfg (s : State) : Nat :=
  if s.committed then
    b2n s.img.pair.single + 2 * b2n s.img.pair.revert + 65536 * (s.img.pair.entries.map (·.count)).sum
  else 0

def rdPairTimeout (s : State) : Nat := if s.committed then s.img.pair.plTimeout else 0
def rdPairSwapcfg (s : State) : Nat := if s.committed then s.img.pair.swapInterval + 65536 * s.img.pair.swapDwell else 0
def rdPairRevdly (s : State) : Nat := if s.committed then s.img.pair.revertDelay else 0
/-- L in ns (R487): `latency` is in half ticks of 1.25 ns. -/
def rdPairLink (s : State) : Nat := (s.pair.latency * 5 / 4) % 65536 + 65536 * ofSigned 8 s.pair.align
def rdPairMcnt (s : State) : Nat := s.pair.mirrors % 65536 + 65536 * s.pair.mlost
def rdPairRef (s : State) : Nat :=
  if s.mode = .referee then
    min 255 s.pair.aMiss + 256 * min 255 s.pair.bMiss + 65536 * s.pair.refO +
    262144 * b2n ((s.pair.statA.map (·.req)).getD false) + 524288 * b2n ((s.pair.statB.map (·.req)).getD false)
  else 0
def rdPairRound (s : State) : Nat := if s.mode = .referee then s.pair.round else s.pair.lastRound

/-! ### DIAG -/

def rdDiagCfg (s : State) : Nat :=
  if s.committed then
    let d := s.img.diag
    b2n d.scrubEn + 2 * d.retryMax + 16 * d.reinitMax + 128 * d.resetMax + 1024 * d.pcycMax + 4096 * d.retryDelay
  else 0

def rdDiagCfg2 (s : State) : Nat := if s.committed then s.img.diag.ladderWindow + 65536 * s.img.diag.safeMask else 0

/-- GUAR (R511): the conditions on the committed image. -/
def State.guar (s : State) : Bool :=
  s.committed && decide (s.img.diagprof = 0) && s.img.diag.scrubEn &&
  (s.img.pair.single || decide (s.member = 3) || decide (1 ≤ s.img.pair.swapInterval ∧ s.img.pair.swapInterval ≤ 24))

/-- SCRUBMS of the latest pass is a value that the spec leaves open below 101 (R514, log 5). -/
def State.scrubMs (s : State) : Nat :=
  if s.committed && s.img.diag.scrubEn && decide (s.boot.endTick + msTicks 100 ≤ s.clock) then
    Config.openScrub s.clock % 101 else 0

def rdDiagStat (s : State) : Nat :=
  b2n s.guar + 2 * b2n (s.committed && decide (s.img.diagprof = 0)) + 4 * b2n s.snap.lstop + 8 * b2n s.diag.chkFailL +
  16 * (s.snap.mcause % 16) + 256 * (s.snap.cs % 8) + 2048 * (s.snap.cp % 4) + 65536 * s.scrubMs

def rdDiagFaults (s : State) : Nat :=
  (List.range 16).foldl (fun a f =>
    a + b2n (s.diag.scopes.any fun x => decide (x.f = f) && x.standing) * 2 ^ f +
    b2n (s.diag.scopes.any fun x => decide (x.f = f) && x.latched) * 2 ^ (16 + f)) 0

def rdDiagFcnt (s : State) (f : Nat) : Nat :=
  let c := match s.scope f none with | some x => x.cr % 8 + 8 * (x.ci % 8) | none => 0
  c + 65536 * s.diag.totals.getD f 0

def rdDiagMem (s : State) : Nat := s.diag.corr + 65536 * s.diag.hard + 16777216 * s.diag.backed

end Sys2Proof.Machine
end

