-- ==== Sys2Proof/Machine/Finish.lean ====
section
/-! DEFINITION. What follows every command in its tick: the status slots that are written in each tick in which a
field changes (R150, R168, R420, R452, R474, R508), and the indicators (R87, R88). -/

namespace Sys2Proof.Machine

/-- A reference to a whole slot. -/
def wholeSlot (i : Nat) : SlotRef := { slot := i, bitpos := 0, widthM1 := 31, wide := false }

/-- The status words that the committed image places, with their references. -/
def State.statusWords (s : State) : List (SlotRef × Nat) :=
  (if s.store.sysFault ∨ s.mode = .fault ∨ s.img.reginit.sysSlot = 0 then []
   else [(wholeSlot s.img.reginit.sysSlot, s.sysStatusWord.toNat)]) ++
  (match s.img.pair.statSlot with
   | some i => [(wholeSlot i, s.pairStatusWord.toNat)]
   | none => []) ++
  s.canStatus ++ s.ethStatus ++ s.uslStatus ++ s.soStatus

def statKey (r : SlotRef) : Nat := r.slot + 65536 * r.bitpos

/-- A status word is written, GOOD, where it differs from the one last written. -/
def State.putStatus (p : SlotRef × Nat) (s : State) : State :=
  let w := BitVec.ofNat 32 p.2
  match s.statLast.find? fun q => decide (q.1 = statKey p.1) with
  | some q => if q.2 = w then s else
    let s1 := s.writeRef p.1 p.2 qGood
    { s1 with statLast := insertKey (statKey p.1) w s1.statLast }
  | none =>
    let s1 := s.writeRef p.1 p.2 qGood
    { s1 with statLast := insertKey (statKey p.1) w s1.statLast }

def State.syncStatus (s : State) : State :=
  if s.committed && s.operating then s.statusWords.foldl (fun s p => s.putStatus p) s else s

/-- The links that are configured (R87): E1, E2, and the pair link for a member of a pair. -/
def State.linkList (s : State) : List Bool :=
  (if s.img.eth.e1En then [s.eth.e1link] else []) ++ (if s.img.eth.e2En then [s.eth.e2link] else []) ++
  (if s.inPair then [s.pair.lane0 || s.pair.lane1] else [])

def State.ledRun (s : State) : Led :=
  if s.olcOn then .fast
  else if (s.mode = .active ∨ s.mode = .standby ∨ s.mode = .referee) ∧ s.panel.key = .run then .on
  else if s.committed = true ∧ (s.panel.key = .stop ∨ s.panel.key = .prog) then .slow
  else .off

def State.ledRole (s : State) : Led :=
  match s.mode with
  | .isolated => .fast | .active => .on | .referee => .double | .standby => .slow | _ => .off

def State.ledFault (s : State) : Led :=
  if s.mode = .fault ∨ s.boot.selftest = some false ∨ s.boot.fwBad = true ∨ s.panel.mgmtStopped = true then .on
  else if s.unack then .slow else .off

def State.ledSafe (s : State) : Led :=
  if s.mode = .safe then .on else if s.soDemand then .slow else .off

def State.ledLink (s : State) : Led :=
  let l := s.linkList
  if !l.any id then .fast else if l.all id then .on else .slow

def State.ledRemove (s : State) : Led :=
  if s.clock < s.panel.tripleEnd then .triple
  else match s.panel.eject with
    | .prepared => .on
    | .preparing _ _ _ => .slow
    | .none => .off

/-- The indicators (R87); where the management core has stopped, its four keep their last state (R88). -/
def State.setLeds (s : State) : State :=
  let off : Leds := { run := .off, role := .off, fault := .off, safe := .off, link := .off, remove := .off }
  let l : Leds :=
    match s.power.phase with
    | .startup =>
      if s.boot.lampTest then {} else
        { run := s.ledRun, role := s.ledRole, fault := s.ledFault, safe := s.ledSafe, link := s.ledLink, remove := s.ledRemove }
    | .operating =>
      { run := s.ledRun, role := s.ledRole, fault := s.ledFault, safe := s.ledSafe, link := s.ledLink, remove := s.ledRemove }
    | .powerFail _ =>
      if s.boot.lampTest then {} else
        { run := s.ledRun, role := s.ledRole, fault := s.ledFault, safe := s.ledSafe, link := s.ledLink, remove := .off }
    | .inert => if s.boot.lampTest then {} else { off with fault := s.ledFault }
    | _ => off
  let k := s.panel.leds
  { s with panel := { s.panel with leds :=
      if s.panel.mgmtStopped then { l with run := k.run, role := k.role, link := k.link, remove := k.remove } else l } }

/-- What every command ends with. -/
def finish (s : State) : State := ((((s.msLook.soLook).syncStatus).dioLook).senseOwner).setLeds

/-- The next state that a command's effect gives. -/
def done (s : State) : Host.Outcome State Fault Refusal := .next (finish s)

end Sys2Proof.Machine
end

