-- ==== Sys2Proof/Machine/BrakeActs.lean ====
section
/-! DEFINITION. The events of safe brake control and what the SO registers read (chapter 14). -/

namespace Sys2Proof.Machine

/-! ### Registers -/

/-- SO_STAT but for UNLOCK, which is the reading session's. -/
def rdSoStat (s : State) (unlock : Bool) : Nat :=
  b2n s.soRuns + 2 * b2n s.so.fault + 16 * s.so.cause + 256 * b2n s.so.fsSq + 512 * b2n unlock +
    1024 * (s.so.pwdFail % 4) + 65536 * s.so.changes.length

def rdSoSafedig (s : State) : Nat := s.so.safeDigest.elim 0 fun d => getN d 0 8

def soGet (s : State) (k : Nat) (f : BrakeCfg → Nat) : Nat := (brakeCfg s.img k).elim 0 f

def rdSoBcfg (s : State) (k : Nat) : Nat := soGet s k fun c => c.tpPeriod + 65536 * c.tpWidth + 134217728

def rdSoBcfg2 (s : State) (k : Nat) : Nat := soGet s k fun c => c.minOff + 16384 * c.iMin

def rdSoBcfg3 (s : State) (k : Nat) : Nat := soGet s k fun c => c.testHold + 512 * c.testInterval

def rdSoBstat (s : State) (k : Nat) : Nat :=
  let x := s.brake k
  brakeBits x + 4096 * b2n x.hs + 8192 * b2n x.ls + 16384 * b2n x.abandL + 32768 * b2n x.faultL

def rdSoBmeas (s : State) (k : Nat) : Nat := let x := s.brake k; x.mA + 65536 * x.vhs + 16777216 * x.vls

def rdSoBcnt (s : State) (k : Nat) : Nat := let x := s.brake k; x.pulses + 65536 * x.aband

def rdSoBttime (s : State) (k : Nat) : Nat := (s.brake k).testTime

/-- A write of SO_LOG_IDX captures an entry, 0 being the newest. -/
def State.captureChange (v : W32) (s : State) (m : MasterSt) : MasterSt :=
  let i := v.toNat % 64
  { m with soIdx := i
           soEnt := match s.so.changes[i]? with
             | some e => (List.range 8).map fun j => BitVec.ofNat 32 (getN e.bytes (4 * j) 4)
             | none => [] }

/-! ### Events -/

/-- A condition of R454 fails for channel `ch`; the channel de-energises in this tick. -/
def State.brakeDemandIn (ch : Nat) (fsOk : Bool) (s : State) : State :=
  let s1 := s.setFsSq fsOk
  match brakeCfg s1.img ch with
  | some c => if s1.brakeHolds c then s1 else s1.brakeDemand ch
  | none => s1

/-- A channel fault of the tested member fails a swap test (R502). -/
def State.soFaultSwap (k : Nat) (f : State → State) (s : State) : State :=
  let s1 := f s
  if (s.brake k).st ≠ .faulted ∧ (s1.brake k).st = .faulted then s1.swapFault 13 else s1

/-- A safety unlock ends 600 s after it was given (R469). -/
def State.unlockExpire (sid : Nat) (s : State) : State :=
  s.modSession sid fun x => match x.unlock with
    | some t => if t + secTicks 600 ≤ s.clock then { x with unlock := none } else x
    | none => x

/-- The 300 s without SAFETY_UNLOCK end (R469). -/
def State.pwdLockEnd (s : State) : State :=
  match s.so.pwdLock with
  | some t => if t + secTicks 300 ≤ s.clock then { s with so := { s.so with pwdLock := none, pwdFail := 0 } } else s
  | none => s

end Sys2Proof.Machine
end

