-- ==== Sys2Proof/Machine/CanActs.lean ====
section
/-! DEFINITION. The events of the CAN FD channels and what their registers read (chapter 12). -/

namespace Sys2Proof.Machine

/-! ### Registers -/

def canGet {α : Type} (d : α) (s : State) (n : Nat) (f : CanCfg → α) : α := (canCfg s.img n).elim d f

def rdCanStat (s : State) (n : Nat) : Nat :=
  let c := s.can1 n
  c.st + 16 * canGet 0 s n (·.role) + 64 * b2n (canGet false s n (·.listen)) + 128 * b2n c.fault + 256 * c.cause +
    65536 * canGet 0 s n (·.addr)

def rdCanErr (s : State) (n : Nat) : Nat := min (s.can1 n).tec 255 + 256 * min (s.can1 n).recv 255

def rdCanNbt (s : State) (n : Nat) : Nat :=
  canGet 0 s n fun c => (c.nbrp - 1) + 32 * (c.ntseg1 - 1) + 8192 * (c.ntseg2 - 1) + 1048576 * (c.nsjw - 1)

def rdCanDbt (s : State) (n : Nat) : Nat :=
  canGet 0 s n fun c => (c.dtseg1 - 1) + 32 * (c.dtseg2 - 1) + 512 * (c.dsjw - 1) + 8192 * c.tdco + 1048576 * b2n c.tdcEn +
    2097152 * b2n c.brs

/-- TDCV and SSP of the last measured frame (R395). -/
def rdCanTdcr (s : State) (n : Nat) : Nat :=
  (s.can1 n).tdcv.elim 0 fun v => v + 256 * ((v + canGet 0 s n (·.tdco)) % 256)

def rdCanCnt (s : State) (n : Nat) : Nat := let c := s.can1 n; c.ackCons + 256 * c.busoffs + 65536 * c.clashes

def rdCanCnt2 (s : State) (n : Nat) : Nat := let c := s.can1 n; c.rxovf + 65536 * c.rioerr

def rdCanEvt (s : State) (n : Nat) : Nat := (s.can1 n).evt.toNat

def rdCanFifo (q : List RxFrame) : Nat := q.length + 256 * (match q with | e :: _ => e.seqn | [] => 0)

/-- The head of the FIFO that the master's window selects (R408). -/
def canHead (s : State) (m : MasterSt) (n : Nat) : Option RxFrame :=
  let c := s.can1 n
  (if m.canSel.getD n 0 = 1 then c.fifo1 else c.fifo0).head?

def idWord (ide : Bool) (ident : Nat) : Nat := ident % 2 ^ 29 + 2147483648 * b2n ide

def rdCanRxhId (s : State) (m : MasterSt) (n : Nat) : Nat := (canHead s m n).elim 0 fun e => idWord e.frame.ide e.frame.ident

def rdCanRxhInfo (s : State) (m : MasterSt) (n : Nat) : Nat :=
  (canHead s m n).elim 0 fun e =>
    let f := e.frame
    f.dlc % 16 + 16 * b2n f.fdf + 32 * b2n f.brs + 64 * b2n f.esi + 128 * b2n f.rtr + 256 * e.seqn + 65536 * (e.filter % 32) + 16777216

def rdCanRxhTs (s : State) (m : MasterSt) (n : Nat) : Nat := (canHead s m n).elim 0 (·.tick)

def rdCanRxhData (s : State) (m : MasterSt) (n k : Nat) : Nat := (canHead s m n).elim 0 fun e => getN e.frame.data (4 * k) 4

def canBuf (s : State) (m : MasterSt) (n : Nat) : TxBuf := (s.can1 n).bufs.getD (m.canTx.getD n 0) {}

def rdCanTxbId (s : State) (m : MasterSt) (n : Nat) : Nat := let b := canBuf s m n; idWord b.ide b.ident

def rdCanTxbInfo (s : State) (m : MasterSt) (n : Nat) : Nat :=
  let b := canBuf s m n; b.dlc + 16 * b2n b.fdf + 32 * b2n b.brs + 128 * b2n b.rtr

def TxbState.code : TxbState → Nat
  | .empty => 0 | .pending => 1 | .active => 2 | .sent => 3 | .cancelled => 4 | .noack => 5 | .clash => 6 | .abandoned => 7

def rdCanTxbStat (s : State) (m : MasterSt) (n : Nat) : Nat := let b := canBuf s m n; b.st.code + 256 * b.attempts

def rdCanTxbData (s : State) (m : MasterSt) (n k : Nat) : Nat := getN (canBuf s m n).data (4 * k) 4

/-! ### Events -/

end Sys2Proof.Machine
end

