-- ==== Sys2Proof/Machine/DiagActs.lean ====
section
/-! DEFINITION. Supervision, memories, the ladder's rungs and the recorder's writes (chapters 01 and 16). -/

namespace Sys2Proof.Machine

/-- The nominal count of a 1 ms window (R48, R51): 400,000 ticks of the time base, 100,000 clocks of the safety core. -/
def clockNominal (ofSafety : Bool) : Nat := if ofSafety then 100000 else 400000

/-- A count that differs from nominal by more than 0.5 % (R51). -/
def clockBad (ofSafety : Bool) (count : Nat) : Bool :=
  let n := clockNominal ofSafety
  decide (200 * count + n < 200 * n ∨ 200 * n + n < 200 * count)

/-- One 1 ms window of a clock is counted (R51): two bad windows in a row are a CLOCK module fault. Where the clock of the
management core has stopped, the core has (R88). -/
def State.clockCheck (ofSafety : Bool) (count : Nat) (s : State) : State :=
  if !s.running then s
  else
    let n := if clockBad ofSafety count then (if ofSafety then s.diag.badSc else s.diag.badTb) + 1 else 0
    let s1 : State := if ofSafety then { s with diag := { s.diag with badSc := n } } else { s with diag := { s.diag with badTb := n } }
    if n = 2 then
      let stop := !ofSafety && decide (count = 0)
      let s2 : State := { s1 with panel := { s1.panel with mgmtStopped := s1.panel.mgmtStopped || stop } }
      (if stop then s2 else s2.record 0x1003 0 0 (leBytes 1 (b2n ofSafety))).moduleFault 1 0 (!stop)
    else s1

/-- The safety core's watchdog expires (R88, R510, R516): the management core cannot record (R518). -/
def State.mgmtStall (s : State) : State :=
  if s.running && !s.panel.mgmtStopped then
    ({ s with panel := { s.panel with mgmtStopped := true } } : State).moduleFault 2 0 false
  else s

/-- A checker test of R515; the reduced profile runs none (R512). -/
def State.checkerTest (ok : Bool) (s : State) : State :=
  if ok || !s.running || !s.committed || decide (s.img.diagprof ≠ 0) then s
  else
    let s0 := s.latchSet 0x9808 8
    let s1 : State := { s0 with diag := { s0.diag with chkFailL := true } }
    (s1.record 0x1002 0 0 []).moduleFault 5 0 true

/-! ### Memories (R513, R514) -/

/-- The owner of a duplicated word (R513). -/
def State.memOwner (l : MemLoc) (s : State) : Option Nat :=
  match l with
  | .slot i => some (if ownAssigned (s.entry i) then ownFunc (s.entry i) else 0)
  | .quality _ => some 0
  | .func f _ => if f < 16 then some f else none
  | _ => none

/-- A fault of the owner (R513). -/
def State.memHard (f : Nat) (l : MemLoc) (s : State) : State :=
  let s1 : State := { s with diag := { s.diag with
    hard := satInc 255 s.diag.hard
    failing := if f = 0 then l :: s.diag.failing else s.diag.failing } }
  (s1.record 0x1001 0 0 (leBytes 1 f)).funcFault f 0 0

/-- A duplicated word with one failing copy is served and corrected (R513); again within 1 s it is a fault. -/
def State.memSoft (f : Nat) (l : MemLoc) (s : State) : State :=
  let again := s.diag.corrAt.any fun p => decide (p.1 = l ∧ s.clock < p.2 + secTicks 1)
  let s1 : State := { s with diag := { s.diag with
    corrAt := (l, s.clock) :: s.diag.corrAt.filter fun p => decide (p.1 ≠ l ∧ s.clock < p.2 + secTicks 1)
    corr := satInc 65535 s.diag.corr } }
  if again then s1.memHard f l else s1

/-- One word is read and resolved (R513, R514): `p1`, `p2` are the copies' parities, `same` tells that they are equal. -/
def State.scrubWord (l : MemLoc) (p1 p2 same : Bool) (s : State) : State :=
  if !s.running then s
  else match l with
  | .mgmtCode _ => s
  | .mgmtData _ => if p1 then s else s.moduleFault 4 0 true
  | .record i =>
    if p1 then s
    else { s with log := { s.log with recs := eraseKey i s.log.recs }, diag := { s.diag with backed := satInc 127 s.diag.backed } }
  | _ =>
    match s.memOwner l with
    | none => s
    | some f =>
      if p1 && p2 then (if same then s else s.memHard f l)
      else if !p1 && !p2 then s.memHard f l
      else s.memSoft f l

/-! ### The ladder (R519 to R522) -/

/-- The 10 ms of RESET end (R520): the slot identity is read again and start-up follows. -/
def State.resetRelease (r1 r2 r3 : Nat) (s : State) : State :=
  match s.power.phase with
  | .resetHold t => if t + msTicks 10 ≤ s.clock then s.release r1 r2 r3 else s
  | _ => s

/-- The 20 ms assertion of PCYC_REQ_N ends (R62). -/
def State.pcycEnd (s : State) : State :=
  match s.panel.pcycReq with
  | some t =>
    if t + msTicks 20 ≤ s.clock then
      { s with panel := { s.panel with pcycReq := none }, diag := { s.diag with pcycEnd := some s.clock } }
    else s
  | none => s

/-- Power still stands 2 s after the request ended (R520). -/
def State.pcycIgnored (s : State) : State :=
  match s.diag.pcycEnd with
  | some t =>
    if t + secTicks 2 ≤ s.clock then
      ({ s with diag := { s.diag with pcycEnd := none }, snap := { s.snap with lstop := true } } : State).record 0x0006 0 0 []
    else s
  | none => s

/-! ### The recorder (R524, R526) -/

/-- A write ends 800 ticks after it began (R524); the next begins in the same tick (R526). -/
def State.writeDone (s : State) : State :=
  match s.log.writing with
  | some (_, t) => if t + 800 ≤ s.clock then
      let s1 := s.writeEnd
      { s1 with log := s1.log.begin s1.clock s1.snap.clearing } else s
  | none => s

end Sys2Proof.Machine
end

