-- ==== Sys2Proof/Machine/EthActs.lean ====
section
/-! DEFINITION. The events of Ethernet, PTP and the real-time clock, and what the ETH registers read (chapter 13). -/

namespace Sys2Proof.Machine

/-! ### Registers -/

def rdEthStat (s : State) : Nat := ethByte s.eth + 256 * s.eth.cause + 4096 * (s.sessions.length % 16)

def rdEthAddr (s : State) : Nat := s.ownIp.toNat

def rdEthPrp (s : State) : Nat := s.eth.onlyA + 65536 * s.eth.onlyB

def rdEthRio (s : State) : Nat := s.eth.rioerr + 32768 * b2n s.eth.fmtl + 65536 * b2n s.eth.latel + 131072 * b2n s.eth.dupl

def rdPtpStat (s : State) : Nat :=
  let p := s.eth.ptp
  p.st + 4 * b2n p.port + 8 * b2n p.stepL + 16 * b2n p.lockL + 256 * (if s.committed then s.img.eth.ptpDomain % 128 else 0)

def rdPtpOffset (s : State) : Nat := ofSigned 64 s.eth.ptp.theta

/-- The rate correction in units of 10^-12 (log 7 for its rounding). -/
def rdPtpRate (s : State) : Nat :=
  let r := s.rate * 1000000000000
  ofSigned 32 (if r.den = 1 then r.num else Config.rateUnits r.num r.den)

def rdPtpPdelay (s : State) : Nat := s.eth.ptp.delay

def rdPtpGmid (s : State) : Nat := if s.eth.ptp.st = 0 then 0 else s.eth.ptp.gmid.toNat

/-! ### Events -/

/-- The module answers an ARP request for an address of its own (R425). -/
def State.arpAnswer (rx : EthRx) (ip : W32) (s : State) : State :=
  s.ethIn rx 0 fun s => if s.answers ip then s.ethSend (.arp ip) else s

/-- The module answers an ICMP echo request to an address of its own (R425). -/
def State.icmpAnswer (rx : EthRx) (ip : W32) (s : State) : State :=
  s.ethIn rx 0 fun s => if s.answers ip then s.ethSend (.icmp ip) else s

end Sys2Proof.Machine
end

