-- ==== Sys2Proof/Machine/FieldActs.lean ====
section
/-! DEFINITION. The events of the field channels and their registers (chapter 11). -/

namespace Sys2Proof.Machine

/-! ### What the AI, AO and DIO registers read -/

def rdAiStat (s : State) : Nat := b2n s.fld.aiFault + 16 * s.fld.aiCause + 256 * b2n s.fld.fsAi

def rdAiChCfg (s : State) (n : Nat) : Nat :=
  match aiCfg s.img n with
  | some c => c.mode + 4 * c.trig + 8 * c.hart + 32 * c.filt
  | none => 0

def rdAiChStat (s : State) (n : Nat) : Nat :=
  match s.ai n with
  | some a =>
    a.cond + 16 * b2n (a.faulted s) + 32 * b2n a.hartOk + 256 * a.hstat.toNat + 65536 * b2n a.condL +
      131072 * b2n a.hartErrL + 262144 * b2n a.trigSkipL
  | none => 0

def rdAiChRaw (s : State) (n : Nat) : Nat := match s.ai n with | some a => ofSigned 32 a.raw | none => 0

def rdAiChCnt (s : State) (n : Nat) : Nat := match s.ai n with | some a => a.hartErr + 65536 * a.trigSkip | none => 0

def rdAoStat (s : State) : Nat := b2n s.fld.aoFault + 16 * s.fld.aoCause + 256 * b2n s.fld.fsAo

def rdAoChCfg (s : State) (n : Nat) : Nat :=
  match aoCfg s.img n with
  | some c => c.mode + 2 * c.hart + 4 * c.badact + 16 * b2n c.lossHigh + 32 * c.holdMs
  | none => 0

def rdAoChStat (s : State) (n : Nat) : Nat :=
  match aoCfg s.img n with
  | some c =>
    let x := s.ao n
    s.aoCond c + 16 * b2n (x.cfault || s.fld.aoFault) + 32 * x.clk + 256 * b2n (s.aoSat c) + 512 * b2n x.hartOk +
      65536 * b2n x.complL + 131072 * b2n x.devL + 262144 * b2n x.linkL
  | none => 0

def rdAoChMeas (s : State) (n : Nat) : Nat := (s.ao n).meas + 65536 * (s.ao n).vterm

def rdDioStat (s : State) : Nat :=
  b2n s.fld.dioFault + 16 * s.fld.dioCause + 256 * b2n s.fld.fsDioA + 512 * b2n s.fld.fsDioB

/-- One bit for each channel of the list. -/
def dioBits (f : DioSt → Bool) (s : State) : Nat := (s.fld.dio.map fun x => b2n (f x) * 2 ^ x.n).sum

def rdDioPin (s : State) : Nat := dioBits (fun x => x.pin && (dioCfg s.img x.n).isSome) s

def rdDioDrv (s : State) : Nat := dioBits (·.drv) s

def rdDioFlt (s : State) : Nat := dioBits (·.faultL) s

def rdDioChCfg (s : State) (n : Nat) : Nat :=
  match dioCfg s.img n with
  | some c => c.kind + 4 * b2n c.inv + 8 * b2n c.safeOn + 16 * c.badact + 64 * b2n c.oldet + 256 * c.filt
  | none => 0

def rdDioChStat (s : State) (n : Nat) : Nat := s.dioCond n + 8 * b2n (s.dioFaulted n)

/-! ### Analog inputs and HART -/

/-- A deviation found by the reference check is the channel fault CONV (R363, R390). -/
def State.aiRefCheck (n : Nat) (bad : Bool) (s : State) : State :=
  match s.ai n with
  | some a =>
    if !bad || !s.fieldRuns || a.faulted s then s
    else ((s.latchSet (0x8104 + 0x10 * n) 65536).modAi n fun a => { a with cond := 8, condL := true }).raiseScope 10 (some n) fun s => s.record 0x0A01 n 0 (leBytes 1 8)
  | none => s

/-! ### Analog outputs -/

/-- An AO channel fault (R390), recorded as CHANNEL_FAULT with its COND (log 50). -/
def State.aoFail (n cond : Nat) (f : AoSt → AoSt) (s : State) : State :=
  (s.modAo n f).raiseScope 11 (some n) fun s => s.record 0x0B01 n 0 (leBytes 1 cond)

/-- The measured current has differed from the commanded one for 20 ms (R375). -/
def State.aoDeviation (n : Nat) (s : State) : State :=
  let x := s.ao n
  if !s.fieldRuns || (aoCfg s.img n).isNone || x.dev || x.compl || x.openL || x.testing || aoOffMode s.mode then s
  else (s.latchSet (0x8504 + 0x10 * n) 131072).aoFail n 6 fun x => { x with dev := true, devL := true }

/-- The module has had no frame from the channel for 100 µs (R375): NOPWR of a sink channel, which drives nothing
without its loop, or the channel fault LINK. -/
def State.aoNoFrame (n : Nat) (s : State) : State :=
  let x := s.ao n
  if !s.fieldRuns || (aoCfg s.img n).isNone || x.noFrame then s
  else if x.sink then
    let s1 := if aoOffMode s.mode then s else s.latchSet (0x8504 + 0x10 * n) 262144
    s1.modAo n fun x => { x with noFrame := true, powered := false, cmd := none, drv := none, hold := false, loss := false
                                 linkL := x.linkL || !aoOffMode s.mode }
  else (s.latchSet (0x8504 + 0x10 * n) 262144).aoFail n 5 fun x => { x with noFrame := true, linkL := true }

/-- Test work ends (R376, R377): a sink channel returns to step 3; a failed test is a channel fault. -/
def State.aoTestDone (n : Nat) (ok : Bool) (s : State) : State :=
  let x := s.ao n
  if !x.testing then s
  else
    let s1 := s.modAo n fun x => { x with testing := false, clk := if x.sink then 3 else 4 }
    if ok || !s.fieldRuns || (aoCfg s.img n).isNone || x.cfault || s.fld.aoFault then s1
    else s1.aoFail n (match aoCfg s.img n with | some c => s1.aoCond c | none => 0) fun x => { x with testBad := true }

/-! ### Digital channels -/

/-- An output channel fault (R382): 1 OVERLOAD, 2 MISMATCH, 3 OPENLOAD with OLDET. A channel without supply is off
without a channel fault (R378). -/
def State.dioFail (n cond : Nat) (s : State) : State :=
  match dioCfg s.img n with
  | none => s
  | some c =>
    if !s.fieldRuns || s.dioFaulted n || s.dioNoSupply n || decide (c.kind = 0) ||
        (decide (cond = 3) && !(c.oldet && (s.dio n).drv)) || (decide (cond = 1) && !(s.dio n).drv) then s
    else (s.modDio n fun x => { x with cond := cond }).raiseScope 12 (some n) fun s => s.record 0x0C01 n 0 (leBytes 1 cond)

end Sys2Proof.Machine
end

