-- ==== Sys2Proof/Machine/ImgBrake.lean ====
section
/-! DEFINITION. The SAFEBRAKE section (R472, R473). -/

namespace Sys2Proof.Machine

def brakeAt (b : List Byte) (p : Nat) : BrakeCfg :=
  { ch := getN b p 1, tpWidth := getN b (p + 2) 2, tpPeriod := getN b (p + 4) 2, minOff := getN b (p + 6) 2
    iMin := getN b (p + 8) 2, testHold := getN b (p + 10) 2, testInterval := getN b (p + 12) 2
    relRef := SlotRef.dec (getN b (p + 16) 4), permRef := optRef (getN b (p + 20) 4)
    torqRef := optRef (getN b (p + 24) 4), statBind := optRef (getN b (p + 28) 4) }

/-- A BOOL field of an output-area slot that SEQ owns with SAFETY set. -/
def brakeSafe (own : List (Nat × W32)) (w : Nat) : Bool :=
  let r := SlotRef.dec w
  refType own 1 w && decide (areaOf r.slot = .output) && refOwned own r 4 none && ownSafety (lookupD (0 : W32) r.slot own)

def brakeOk (own : List (Nat × W32)) (b : List Byte) (p : Nat) : Bool :=
  let c := brakeAt b p
  let pw := getN b (p + 20) 4
  let tw := getN b (p + 24) 4
  zeros b (p + 1) 1 && zeros b (p + 14) 2 &&
  decide (100 ≤ c.tpWidth ∧ c.tpWidth ≤ 2000 ∧ 100 ≤ c.tpPeriod ∧ c.tpPeriod ≤ 60000 ∧ 10 ≤ c.minOff ∧ c.minOff ≤ 10000 ∧
    50 ≤ c.iMin ∧ c.iMin ≤ 1000 ∧ 10 ≤ c.testHold ∧ c.testHold ≤ 300 ∧ 1 ≤ c.testInterval ∧ c.testInterval ≤ 8760) &&
  brakeSafe own (getN b (p + 16) 4) &&
  (decide (pw = 0xFFFFFFFF) || (let r := SlotRef.dec pw
    refType own 1 pw && decide (areaOf r.slot = .input) && refOwned own r 15 none)) &&
  (decide (tw = 0xFFFFFFFF) || brakeSafe own tw) &&
  bindOk own [.input] 13 (2 * c.ch) 14 (getN b (p + 28) 4)

/-- R472: one record for each bit of CHMASK, in ascending CH. -/
def parseBrake (own : List (Nat × W32)) (b : List Byte) : Option BrakeSec :=
  let mask := getN b 0 1
  let chs := (List.range 8).filter (bit mask)
  let cs := (List.range chs.length).map fun k => brakeAt b (64 + 32 * k)
  if b.length = 64 + 32 * chs.length ∧ mask < 16 ∧ zeros b 1 3 = true ∧ zeros b 20 32 = false ∧ zeros b 52 12 = true ∧
      cs.map (·.ch) = chs ∧ (List.range chs.length).all (fun k => brakeOk own b (64 + 32 * k)) = true then
    some { salt := slice b 4 16, verifier := slice b 20 32, chans := cs }
  else none

end Sys2Proof.Machine
end

