-- ==== Sys2Proof/Machine/ImgNet.lean ====
section
/-! DEFINITION. The NETWORK section (R209 to R213). -/

namespace Sys2Proof.Machine

/-- The parameters of a block lie in their stated ranges (R214 to R224); those that fix a block's shape are in blockSig. -/
def paramsOk (b t : Nat) (ps : List W32) : Bool :=
  let w := typeWords t
  let f := fm t
  let p (j : Nat) : Nat := ofWs t ps j
  match b with
  | 0x07 => f.le 0 (p 0)
  | 0x08 => decide (parW ps 0 ≤ 1)
  | 0x23 => !f.eq (p 0) (p w) && decide (parW ps (4 * w) ≤ 1)
  | 0x25 =>
    let n := parW ps 0
    (List.range (n - 1)).all fun j => f.lt (p (1 + j * w)) (p (1 + (j + 1) * w))
  | 0x3E => leT t (p w) (p 0)
  | 0x60 => decide (1 ≤ parW ps 0 ∧ parW ps 0 < 2147483648)
  | 0x70 => decide (parW ps 0 % 4 = 0)
  | 0x71 => decide (parW ps 0 % 8 = 0)
  | 0x72 => decide (parW ps 0 % 4 = 0 ∧ parW ps 1 ≤ 1)
  | 0x74 => decide (parW ps 0 ≤ 65535)
  | _ => true

/-- An input descriptor (R211) for an input of type `t`; the sources among instances are checked later. -/
def inDescAt (own : List (Nat × W32)) (ncon : Nat) (b : List Byte) (p t : Nat) : Option InDesc :=
  let b0 := getN b p 1
  let r := getN b (p + 4) 4
  let flags (s : InSrc) : InDesc := { src := s, ignq := bit b0 2, inv := bit b0 3 }
  if zeros b (p + 1) 3 = false ∨ 16 ≤ b0 ∨ (bit b0 3 = true ∧ t ≠ 1) then none
  else match b0 % 4 with
    | 0 => if refType own t r then some (flags (.slot (SlotRef.dec r))) else none
    | 1 => if r < 2 ^ 19 then some (flags (.out (r % 65536) (r / 65536))) else none
    | 2 => if r + typeWords t ≤ ncon ∧ (t64 t = true → r % 2 = 0) then some (flags (.const r)) else none
    | _ => none

/-- A binding (R199, R212) of an output of type `t`: `some none` where it is unbound. -/
def bindAt (own : List (Nat × W32)) (lane : Nat) (b : List Byte) (p t : Nat) : Option (Option SlotRef) :=
  let w := getN b p 4
  if w = 0 then some none
  else
    let r := SlotRef.dec w
    if refType own t w && refOwned own r 4 (some lane) then some (some r) else none

def allSome {α : Type} : List (Option α) → Option (List α)
  | [] => some []
  | none :: _ => none
  | some x :: r => (allSome r).map (x :: ·)

/-- An instance record (R210) at `p`, with its length. -/
def instAt (own : List (Nat × W32)) (ncon lane : Nat) (b : List Byte) (p : Nat) : Option (Inst × Nat) :=
  let nin := getN b (p + 8) 1
  let nout := getN b (p + 9) 1
  let npar := getN b (p + 10) 1
  let bt := getN b (p + 4) 2
  let dt := getN b (p + 6) 1
  let fl := getN b (p + 7) 1
  let pb := p + 12 + 8 * nin
  let pp := pb + 4 * nout
  let len := 12 + 8 * nin + 4 * nout + 4 * npar
  let ps := (List.range npar).map fun j => BitVec.ofNat 32 (getN b (pp + 4 * j) 4)
  let ident := getN b p 4
  match blockSig bt dt nin ps with
  | none => none
  | some g =>
    let ins := allSome ((List.zip (List.range nin) g.ins).map fun x => inDescAt own ncon b (p + 12 + 8 * x.1) x.2)
    let bs := allSome ((List.zip (List.range nout) g.outs).map fun x => bindAt own lane b (pb + 4 * x.1) x.2)
    match ins, bs with
    | some ins, some bs =>
      let rinitOk : Bool := match g.prin.bind fun o => bs.getD o none with
        | some r => ownRet (lookupD (0 : W32) r.slot own)
        | none => false
      if p + len ≤ b.length ∧ 1 ≤ ident ∧ ident ≤ 0xFFFFFFFE ∧ nin = g.ins.length ∧ nout = g.outs.length ∧
          npar = g.npar ∧ paramsOk bt dt ps = true ∧ fl ≤ 1 ∧ zeros b (p + 11) 1 = true ∧ (fl = 1 → rinitOk = true) ∧ g.kw ≤ 64 then
        some ({ ident := ident, btype := bt, dtype := dt, rinit := decide (fl = 1), lane := lane, ins := ins, binds := bs, params := ps }, len)
      else none
    | _, _ => none

/-- The records from `p` on for the lanes listed, without gaps (R209), and where they end. -/
def instList (own : List (Nat × W32)) (ncon : Nat) (b : List Byte) : List Nat → Nat → Option (List Inst × Nat)
  | [], p => some ([], p)
  | k :: r, p =>
    match instAt own ncon k b p with
    | some (i, len) => (instList own ncon b r (p + len)).map fun x => (i :: x.1, x.2)
    | none => none

/-- Every source among the instances exists and has the input's type (R213). -/
def sourcesOk (insts : List Inst) : Bool :=
  insts.all fun i => (List.zip (instSig i).ins i.ins).all fun x => match x.2.src with
    | .out n o => match insts[n]? with
      | some j => (instSig j).outs[o]? == some x.1
      | none => false
    | _ => true

/-- The fields that bindings name, each pair as its two slots. -/
def boundFields (insts : List Inst) : List SlotRef :=
  (insts.flatMap fun i => i.binds.filterMap id).flatMap fun r =>
    if r.wide then [{ r with wide := false }, { r with wide := false, slot := r.slot + 1 }] else [r]

/-- R209 to R213. -/
def parseNet (own : List (Nat × W32)) (cyc : CycleSec) (b : List Byte) : Option NetSec :=
  let n := getN b 0 4
  let lc := (List.range 4).map fun k => getN b (4 + 4 * k) 4
  let ncon := getN b 20 4
  let co := getN b 32 4
  let io := getN b 36 4
  let c1 := co + 4 * ncon
  if b.length < 64 ∨ n < 1 ∨ 65536 < n ∨ lc.sum ≠ n ∨ 65536 < ncon ∨ zeros b 40 24 = false ∨
      io < 64 ∨ b.length < io ∨ (ncon ≠ 0 ∧ (co < 64 ∨ b.length < c1)) ∨
      (List.range 4).any (fun k => decide (lc.getD k 0 ≠ 0) && !(cyc.lanes.getD k {}).enable) = true then none
  else
    let lanes := (List.range 4).flatMap fun k => List.replicate (lc.getD k 0) k
    match instList own ncon b lanes io with
    | none => none
    | some (insts, stop) =>
      let sw := (insts.map fun i => ((instSig i).outs.map typeWords).sum).sum
      let kw := (insts.map fun i => (instSig i).kw).sum
      -- the records fill the space from INST_OFFSET but for the pool, which lies before the first or after the last
      let filled := if ncon = 0 ∨ c1 ≤ io then decide (stop = b.length) else decide (stop = co ∧ c1 = b.length)
      if filled = true ∧ (insts.map (·.ident)).Nodup ∧ sourcesOk insts = true ∧ refsApart (boundFields insts) = true ∧
          getN b 24 4 = sw ∧ getN b 28 4 = kw ∧ sw ≤ 196608 ∧ kw ≤ 262144 then
        some { insts := insts, consts := (List.range ncon).map fun j => BitVec.ofNat 32 (getN b (co + 4 * j) 4) }
      else none

end Sys2Proof.Machine
end

