-- ==== Sys2Proof/Machine/RegMap.lean ====
section
/-! DEFINITION. The register map: one row for each register table of the spec (R148 and the chapters' register
sections), with the fields' access codes as masks. -/

namespace Sys2Proof.Machine

/-- The registers by name. -/
inductive RegId where
  | sysId
  | sysState
  | sysSlot
  | sysPower
  | sysTick
  | sysTime
  | sysTollgate
  | sysTgstat
  | sysAccerr
  | sysAccfirst
  | sysCfgpar
  | sysScratch
  | sysGuard
  | secStatus
  | secFloor
  | secImage
  | secSeq
  | secDigest
  | secOwnerfp
  | secSerial
  | logStat
  | logLast
  | logAcknum
  | logLost
  | logPeak
  | logRdNum
  | logRdInfo
  | logRdData
  | pairStat
  | pairCfg
  | pairTimeout
  | pairSwapcfg
  | pairRevdly
  | pairLink
  | pairMcnt
  | pairEvt
  | pairHto
  | pairSwapt
  | pairRef
  | pairRound
  | seqStat
  | seqHarvest
  | seqHtick
  | seqLstat
  | seqLcost
  | seqLpeak
  | seqLovrh
  | seqLpass
  | imgNet
  | imgLane
  | imgLcost
  | imgSlotIdx
  | imgSlotVal
  | imgSlotInfo
  | imgInstIdx
  | imgInstId
  | imgInstType
  | imgInstOq
  | imgInstOut
  | imgFindId
  | imgInstKs
  | msStat
  | msDcfg
  | msDzero
  | msDstat
  | msDpos
  | msDrev
  | msDper
  | msDspeed
  | msDacc
  | msSlotIdx
  | msSlotCtl
  | msSlotTgt
  | msSlotEnd
  | msSlotWin
  | msSlotOut
  | msSlotStat
  | msSlotFtick
  | msSlotCt
  | loopCtl
  | loopStat
  | loopCoefIdx
  | loopCoefA
  | loopMan
  | loopOut
  | loopFe
  | loopCnt
  | slvStat
  | slvPstat
  | slvPcyc
  | slvPresp
  | slvPresd
  | slvPcnt
  | slvPeng
  | slvPeng2
  | slvPsig
  | slvPharv
  | slvWinSel
  | slvWinInfo
  | slvWinVal
  | canStat
  | canErr
  | canNbt
  | canDbt
  | canTdcr
  | canCnt
  | canCnt2
  | canEvt
  | canRxhSel
  | canRxf0Stat
  | canRxf1Stat
  | canRxhId
  | canRxhInfo
  | canRxhTs
  | canRxfPop
  | canRxhData
  | canTxbIdx
  | canTxbId
  | canTxbInfo
  | canTxbCtl
  | canTxbStat
  | canTxbData
  | aiStat
  | aiChCfg
  | aiChStat
  | aiChRaw
  | aiChCnt
  | aoStat
  | aoChCfg
  | aoChStat
  | aoChMeas
  | aoChCtl
  | dioStat
  | dioPin
  | dioDrv
  | dioFlt
  | dioChCfg
  | dioChStat
  | soStat
  | soSafedig
  | soBcfg
  | soBcfg2
  | soBcfg3
  | soBstat
  | soBmeas
  | soBcnt
  | soBttime
  | soLogIdx
  | soLogEnt
  | ethStat
  | ethAddr
  | ethPrp
  | ethRio
  | ptpStat
  | ptpOffset
  | ptpRate
  | ptpPdelay
  | ptpGmid
  | uslStat
  | uslCstat
  | uslCctl
  | uslCcnt
  | diagCfg
  | diagCfg2
  | diagStat
  | diagFaults
  | diagFcnt
  | diagMem
  | diagRecover
  deriving DecidableEq, Repr

/-- One register table: addresses base + i × s1 + j × s2 for i < n1 and j < n2; `wide` 64 bits; `bw` byte-writable
(R134); `func` the owner, SYS for DIAG (R143). Masks: writable fields (RW and W1C), W1C fields, fields with PRV, with
PRV/TG, and fields with reset "image" (R8, R10). No table of the spec has a WO field or a field with TG alone. -/
structure RegRow where
  id : RegId
  base : Nat
  n1 : Nat := 1
  s1 : Nat := 0
  n2 : Nat := 1
  s2 : Nat := 0
  wide : Bool := false
  bw : Bool := false
  func : Nat
  wr : Nat := 0
  w1c : Nat := 0
  prv : Nat := 0
  pt : Nat := 0
  img : Nat := 0
  deriving DecidableEq, Repr

def regRows0 : List RegRow := [
  { id := .sysId, base := 0x0000, func := 0 },
  { id := .sysState, base := 0x0004, func := 0, wr := 0x40, w1c := 0x40 },
  { id := .sysSlot, base := 0x0008, func := 0 },
  { id := .sysPower, base := 0x000C, func := 0, wr := 0xC, w1c := 0xC },
  { id := .sysTick, base := 0x0010, wide := true, func := 0 },
  { id := .sysTime, base := 0x0018, wide := true, func := 0 },
  { id := .sysTollgate, base := 0x0020, func := 0, wr := 0xFFFFFFFF },
  { id := .sysTgstat, base := 0x0024, func := 0 },
  { id := .sysAccerr, base := 0x0028, func := 0, wr := 0x8000007F, w1c := 0x7F },
  { id := .sysAccfirst, base := 0x002C, func := 0 },
  { id := .sysCfgpar, base := 0x0030, func := 0, wr := 0x80000000, w1c := 0x80000000 },
  { id := .sysScratch, base := 0x0034, bw := true, func := 0, wr := 0xFFFFFFFF },
  { id := .sysGuard, base := 0x0038, wide := true, func := 0, img := 0xFFFFFFFFFFFFFFFF },
  { id := .secStatus, base := 0x0400, func := 1 },
  { id := .secFloor, base := 0x0404, func := 1 },
  { id := .secImage, base := 0x0408, func := 1, img := 0x3FF },
  { id := .secSeq, base := 0x040C, func := 1, img := 0xFFFFFFFF },
  { id := .secDigest, base := 0x0410, n1 := 8, s1 := 0x4, func := 1, img := 0xFFFFFFFF },
  { id := .secOwnerfp, base := 0x0430, wide := true, func := 1 },
  { id := .secSerial, base := 0x0438, n1 := 3, s1 := 0x4, func := 1 },
  { id := .logStat, base := 0x0800, func := 2 },
  { id := .logLast, base := 0x0804, func := 2 },
  { id := .logAcknum, base := 0x0808, func := 2 },
  { id := .logLost, base := 0x080C, func := 2, wr := 0x80000000, prv := 0x80000000 }]

def regRows1 : List RegRow := [
  { id := .logPeak, base := 0x0810, func := 2, wr := 0x80000000, prv := 0x80000000 },
  { id := .logRdNum, base := 0x0820, func := 2, wr := 0xFFFFFFFF },
  { id := .logRdInfo, base := 0x0824, func := 2 },
  { id := .logRdData, base := 0x0828, n1 := 8, s1 := 0x4, func := 2 },
  { id := .pairStat, base := 0x0C00, func := 3 },
  { id := .pairCfg, base := 0x0C04, func := 3, img := 0x3FFF0003 },
  { id := .pairTimeout, base := 0x0C08, func := 3, img := 0xFFFFFFFF },
  { id := .pairSwapcfg, base := 0x0C0C, func := 3, img := 0x3FFFFFF },
  { id := .pairRevdly, base := 0x0C10, func := 3, img := 0xFFF },
  { id := .pairLink, base := 0x0C14, func := 3 },
  { id := .pairMcnt, base := 0x0C18, func := 3, wr := 0x80000000, prv := 0x80000000 },
  { id := .pairEvt, base := 0x0C1C, func := 3, wr := 0xFF, w1c := 0xFF },
  { id := .pairHto, base := 0x0C20, wide := true, func := 3 },
  { id := .pairSwapt, base := 0x0C28, wide := true, func := 3 },
  { id := .pairRef, base := 0x0C30, func := 3 },
  { id := .pairRound, base := 0x0C34, func := 3 },
  { id := .seqStat, base := 0x1000, func := 4 },
  { id := .seqHarvest, base := 0x1008, wide := true, func := 4 },
  { id := .seqHtick, base := 0x1010, wide := true, func := 4 },
  { id := .seqLstat, base := 0x1020, n1 := 4, s1 := 0x20, func := 4, wr := 0x80000000, prv := 0x80000000 },
  { id := .seqLcost, base := 0x1024, n1 := 4, s1 := 0x20, func := 4 },
  { id := .seqLpeak, base := 0x1028, n1 := 4, s1 := 0x20, func := 4 },
  { id := .seqLovrh, base := 0x1030, n1 := 4, s1 := 0x20, wide := true, func := 4 },
  { id := .seqLpass, base := 0x1038, n1 := 4, s1 := 0x20, wide := true, func := 4 }]

def regRows2 : List RegRow := [
  { id := .imgNet, base := 0x1400, func := 5, img := 0x1FFFF },
  { id := .imgLane, base := 0x1404, n1 := 4, s1 := 0x4, func := 5, img := 0x1FFFF },
  { id := .imgLcost, base := 0x1414, n1 := 4, s1 := 0x4, func := 5, img := 0xFFFFFF },
  { id := .imgSlotIdx, base := 0x1440, func := 5, wr := 0xFFFF },
  { id := .imgSlotVal, base := 0x1444, func := 5 },
  { id := .imgSlotInfo, base := 0x1448, func := 5 },
  { id := .imgInstIdx, base := 0x1480, func := 5, wr := 0xFFFF },
  { id := .imgInstId, base := 0x1484, func := 5 },
  { id := .imgInstType, base := 0x1488, func := 5 },
  { id := .imgInstOq, base := 0x148C, func := 5 },
  { id := .imgInstOut, base := 0x1490, n1 := 8, s1 := 0x4, func := 5 },
  { id := .imgFindId, base := 0x14C0, func := 5, wr := 0xFFFFFFFF },
  { id := .imgInstKs, base := 0x1500, n1 := 64, s1 := 0x4, func := 5 },
  { id := .msStat, base := 0x2000, func := 6 },
  { id := .msDcfg, base := 0x2100, n1 := 8, s1 := 0x20, func := 6, img := 0x3FFFFFF },
  { id := .msDzero, base := 0x2104, n1 := 8, s1 := 0x20, func := 6, img := 0xFFFFFFFF },
  { id := .msDstat, base := 0x2108, n1 := 8, s1 := 0x20, func := 6, wr := 0x10, w1c := 0x10 },
  { id := .msDpos, base := 0x210C, n1 := 8, s1 := 0x20, func := 6 },
  { id := .msDrev, base := 0x2110, n1 := 8, s1 := 0x20, func := 6 },
  { id := .msDper, base := 0x2114, n1 := 8, s1 := 0x20, func := 6 },
  { id := .msDspeed, base := 0x2118, n1 := 8, s1 := 0x20, func := 6 },
  { id := .msDacc, base := 0x211C, n1 := 8, s1 := 0x20, func := 6 },
  { id := .msSlotIdx, base := 0x2800, func := 6, wr := 0x3FF },
  { id := .msSlotCtl, base := 0x2804, func := 6, wr := 0x7F, pt := 0x7F }]

def regRows3 : List RegRow := [
  { id := .msSlotTgt, base := 0x2808, func := 6, wr := 0xFFFFFFFF, pt := 0xFFFFFFFF },
  { id := .msSlotEnd, base := 0x280C, func := 6, wr := 0xFFFFFFFF, pt := 0xFFFFFFFF },
  { id := .msSlotWin, base := 0x2810, func := 6, wr := 0xFFFFFFFF, pt := 0xFFFFFFFF },
  { id := .msSlotOut, base := 0x2814, func := 6 },
  { id := .msSlotStat, base := 0x2818, func := 6 },
  { id := .msSlotFtick, base := 0x2820, wide := true, func := 6 },
  { id := .msSlotCt, base := 0x2828, func := 6 },
  { id := .loopCtl, base := 0x3000, n1 := 160, s1 := 0x40, func := 7, wr := 0xF, pt := 0xF, img := 0x3 },
  { id := .loopStat, base := 0x3004, n1 := 160, s1 := 0x40, func := 7, wr := 0x1E00000, w1c := 0x1E00000 },
  { id := .loopCoefIdx, base := 0x3008, n1 := 160, s1 := 0x40, func := 7, wr := 0x3F, pt := 0x3F },
  { id := .loopCoefA, base := 0x300C, n1 := 160, s1 := 0x40, func := 7, wr := 0xFFFFFFFF, pt := 0xFFFFFFFF, img := 0xFFFFFFFF },
  { id := .loopMan, base := 0x3010, n1 := 160, s1 := 0x40, func := 7, wr := 0xFFFFFFFF, pt := 0xFFFFFFFF, img := 0xFFFFFFFF },
  { id := .loopOut, base := 0x3014, n1 := 160, s1 := 0x40, func := 7 },
  { id := .loopFe, base := 0x3018, n1 := 160, s1 := 0x40, func := 7 },
  { id := .loopCnt, base := 0x301C, n1 := 160, s1 := 0x40, func := 7, wr := 0x80000000, prv := 0x80000000 },
  { id := .slvStat, base := 0x6000, func := 8 },
  { id := .slvPstat, base := 0x6100, n1 := 4, s1 := 0x40, func := 8 },
  { id := .slvPcyc, base := 0x6104, n1 := 4, s1 := 0x40, func := 8 },
  { id := .slvPresp, base := 0x6108, n1 := 4, s1 := 0x40, func := 8 },
  { id := .slvPresd, base := 0x610C, n1 := 4, s1 := 0x40, func := 8 },
  { id := .slvPcnt, base := 0x6110, n1 := 4, s1 := 0x40, func := 8, wr := 0x80000000, prv := 0x80000000 },
  { id := .slvPeng, base := 0x6114, n1 := 4, s1 := 0x40, func := 8, img := 0xFFFFFFFF },
  { id := .slvPeng2, base := 0x6118, n1 := 4, s1 := 0x40, func := 8, img := 0xFFFFFFF },
  { id := .slvPsig, base := 0x6120, n1 := 4, s1 := 0x40, wide := true, func := 8 }]

def regRows4 : List RegRow := [
  { id := .slvPharv, base := 0x6128, n1 := 4, s1 := 0x40, wide := true, func := 8 },
  { id := .slvWinSel, base := 0x6800, func := 8, wr := 0xFFFF1F },
  { id := .slvWinInfo, base := 0x6804, func := 8 },
  { id := .slvWinVal, base := 0x6808, wide := true, func := 8 },
  { id := .canStat, base := 0x7000, n1 := 4, s1 := 0x400, func := 9, img := 0x7F0070 },
  { id := .canErr, base := 0x7004, n1 := 4, s1 := 0x400, func := 9 },
  { id := .canNbt, base := 0x7008, n1 := 4, s1 := 0x400, func := 9, img := 0x7FFFFFF },
  { id := .canDbt, base := 0x700C, n1 := 4, s1 := 0x400, func := 9, img := 0x3FFFFF },
  { id := .canTdcr, base := 0x7010, n1 := 4, s1 := 0x400, func := 9 },
  { id := .canCnt, base := 0x7014, n1 := 4, s1 := 0x400, func := 9, wr := 0x80000000, prv := 0x80000000 },
  { id := .canCnt2, base := 0x7018, n1 := 4, s1 := 0x400, func := 9, wr := 0x80000000, prv := 0x80000000 },
  { id := .canEvt, base := 0x701C, n1 := 4, s1 := 0x400, func := 9, wr := 0x7FF, w1c := 0x7FF },
  { id := .canRxhSel, base := 0x7040, n1 := 4, s1 := 0x400, func := 9, wr := 0x1 },
  { id := .canRxf0Stat, base := 0x7044, n1 := 4, s1 := 0x400, func := 9 },
  { id := .canRxf1Stat, base := 0x7048, n1 := 4, s1 := 0x400, func := 9 },
  { id := .canRxhId, base := 0x704C, n1 := 4, s1 := 0x400, func := 9 },
  { id := .canRxhInfo, base := 0x7050, n1 := 4, s1 := 0x400, func := 9 },
  { id := .canRxhTs, base := 0x7058, n1 := 4, s1 := 0x400, wide := true, func := 9 },
  { id := .canRxfPop, base := 0x7060, n1 := 4, s1 := 0x400, func := 9, wr := 0x1FF, pt := 0x1FF },
  { id := .canRxhData, base := 0x7080, n1 := 4, s1 := 0x400, n2 := 16, s2 := 0x4, func := 9 },
  { id := .canTxbIdx, base := 0x7100, n1 := 4, s1 := 0x400, func := 9, wr := 0xF },
  { id := .canTxbId, base := 0x7104, n1 := 4, s1 := 0x400, func := 9, wr := 0x9FFFFFFF, pt := 0x9FFFFFFF },
  { id := .canTxbInfo, base := 0x7108, n1 := 4, s1 := 0x400, func := 9, wr := 0xBF, pt := 0xBF },
  { id := .canTxbCtl, base := 0x710C, n1 := 4, s1 := 0x400, func := 9, wr := 0x3, pt := 0x3 }]

def regRows5 : List RegRow := [
  { id := .canTxbStat, base := 0x7110, n1 := 4, s1 := 0x400, func := 9 },
  { id := .canTxbData, base := 0x7140, n1 := 4, s1 := 0x400, n2 := 16, s2 := 0x4, func := 9, wr := 0xFFFFFFFF, pt := 0xFFFFFFFF },
  { id := .aiStat, base := 0x8000, func := 10 },
  { id := .aiChCfg, base := 0x8100, n1 := 24, s1 := 0x10, func := 10, img := 0xFF },
  { id := .aiChStat, base := 0x8104, n1 := 24, s1 := 0x10, func := 10, wr := 0x70000, w1c := 0x70000 },
  { id := .aiChRaw, base := 0x8108, n1 := 24, s1 := 0x10, func := 10 },
  { id := .aiChCnt, base := 0x810C, n1 := 24, s1 := 0x10, func := 10, wr := 0x80000000, prv := 0x80000000 },
  { id := .aoStat, base := 0x8400, func := 11 },
  { id := .aoChCfg, base := 0x8500, n1 := 16, s1 := 0x10, func := 11, img := 0x7FF },
  { id := .aoChStat, base := 0x8504, n1 := 16, s1 := 0x10, func := 11, wr := 0x70000, w1c := 0x70000 },
  { id := .aoChMeas, base := 0x8508, n1 := 16, s1 := 0x10, func := 11 },
  { id := .aoChCtl, base := 0x850C, n1 := 16, s1 := 0x10, func := 11, wr := 0x1, pt := 0x1 },
  { id := .dioStat, base := 0x8800, func := 12 },
  { id := .dioPin, base := 0x8804, func := 12 },
  { id := .dioDrv, base := 0x8808, func := 12 },
  { id := .dioFlt, base := 0x880C, func := 12, wr := 0xFFFFFFFF, w1c := 0xFFFFFFFF },
  { id := .dioChCfg, base := 0x8900, n1 := 32, s1 := 0x4, func := 12, img := 0x7FFF7F },
  { id := .dioChStat, base := 0x8980, n1 := 32, s1 := 0x4, func := 12 },
  { id := .soStat, base := 0x8C00, func := 13 },
  { id := .soSafedig, base := 0x8C08, wide := true, func := 13 },
  { id := .soBcfg, base := 0x8C40, n1 := 4, s1 := 0x20, func := 13, img := 0xFFFFFFF },
  { id := .soBcfg2, base := 0x8C44, n1 := 4, s1 := 0x20, func := 13, img := 0xFFFFFF },
  { id := .soBcfg3, base := 0x8C48, n1 := 4, s1 := 0x20, func := 13, img := 0x7FFFFF },
  { id := .soBstat, base := 0x8C4C, n1 := 4, s1 := 0x20, func := 13, wr := 0xC000, w1c := 0xC000 }]

def regRows6 : List RegRow := [
  { id := .soBmeas, base := 0x8C50, n1 := 4, s1 := 0x20, func := 13 },
  { id := .soBcnt, base := 0x8C54, n1 := 4, s1 := 0x20, func := 13, wr := 0x80000000, prv := 0x80000000 },
  { id := .soBttime, base := 0x8C58, n1 := 4, s1 := 0x20, wide := true, func := 13 },
  { id := .soLogIdx, base := 0x8D00, func := 13, wr := 0x3F },
  { id := .soLogEnt, base := 0x8D04, n1 := 8, s1 := 0x4, func := 13 },
  { id := .ethStat, base := 0x9000, func := 14 },
  { id := .ethAddr, base := 0x9004, func := 14 },
  { id := .ethPrp, base := 0x9008, func := 14 },
  { id := .ethRio, base := 0x900C, func := 14, wr := 0x80038000, w1c := 0x38000, prv := 0x80000000 },
  { id := .ptpStat, base := 0x9040, func := 14, wr := 0x18, w1c := 0x18, img := 0x7F00 },
  { id := .ptpOffset, base := 0x9048, wide := true, func := 14 },
  { id := .ptpRate, base := 0x9050, func := 14 },
  { id := .ptpPdelay, base := 0x9054, func := 14 },
  { id := .ptpGmid, base := 0x9058, wide := true, func := 14 },
  { id := .uslStat, base := 0x9400, func := 15 },
  { id := .uslCstat, base := 0x9500, n1 := 64, s1 := 0x4, func := 15, wr := 0x10000, w1c := 0x10000, img := 0x4 },
  { id := .uslCctl, base := 0x9600, n1 := 64, s1 := 0x4, func := 15, wr := 0x1, pt := 0x1 },
  { id := .uslCcnt, base := 0x9700, n1 := 64, s1 := 0x4, func := 15, wr := 0x80000000, prv := 0x80000000 },
  { id := .diagCfg, base := 0x9800, func := 0, img := 0x3FFFFF },
  { id := .diagCfg2, base := 0x9804, func := 0, img := 0xFFFF0FFF },
  { id := .diagStat, base := 0x9808, func := 0, wr := 0x8, w1c := 0x8 },
  { id := .diagFaults, base := 0x980C, func := 0 },
  { id := .diagFcnt, base := 0x9840, n1 := 16, s1 := 0x4, func := 0, wr := 0x80000000, prv := 0x80000000 },
  { id := .diagMem, base := 0x9880, func := 0, wr := 0x80000000, prv := 0x80000000 }]

def regRows7 : List RegRow := [
  { id := .diagRecover, base := 0x98C0, func := 0, wr := 0x80017FFF, prv := 0x80017FFF }]

def regRows : List RegRow :=
  regRows0 ++ regRows1 ++ regRows2 ++ regRows3 ++ regRows4 ++ regRows5 ++ regRows6 ++ regRows7

/-- A register found at an address: its row and indices, and whether the address is the high word of a 64-bit one. -/
structure RegHit where
  row : RegRow
  i : Nat
  j : Nat
  high : Bool
  deriving DecidableEq, Repr

def RegRow.hit (r : RegRow) (a : Nat) : Option RegHit :=
  let d := a - r.base
  let i := if r.s1 = 0 then 0 else d / r.s1
  let d1 := if r.s1 = 0 then d else d % r.s1
  let j := if r.s2 = 0 then 0 else d1 / r.s2
  let d2 := if r.s2 = 0 then d1 else d1 % r.s2
  if a < r.base ∨ r.n1 ≤ i ∨ r.n2 ≤ j then none
  else if d2 = 0 then some { row := r, i := i, j := j, high := false }
  else if d2 = 4 ∧ r.wide = true then some { row := r, i := i, j := j, high := true }
  else none

/-- The register that holds a word address; `none` is UNMAPPED (R137, R148). -/
def regAt (a : Nat) : Option RegHit := regRows.findSome? fun r => r.hit a

end Sys2Proof.Machine
end

