-- ==== Sys2Proof/Machine/ImgCheck.lean ====
section
/-! DEFINITION. Checks 8 to 12 of R113: the section table, the ownership map, each section's content and the
module's role, with the REGINIT section (R145, R146). -/

namespace Sys2Proof.Machine

/-! ### REGINIT (R145, R146) -/

/-- A section of the image sets the register's "image" fields (R146, R147); the header's SEC fields count as set (log 52). -/
def sectionSets (img : Image) (id : RegId) (i : Nat) : Bool :=
  let has (t : Nat) : Bool := decide (t ∈ img.present)
  match id with
  | .imgNet | .imgLane | .imgLcost => has 4
  | .msDcfg | .msDzero => has 6
  | .loopCtl | .loopCoefA | .loopMan => (findKey (·.ctx) i img.loops.ctxs).isSome
  | .slvPeng | .slvPeng2 => (findKey (·.num) i img.slv.probs).isSome
  | .canStat | .canNbt | .canDbt => (findKey (·.ch) i img.can.chans).isSome
  | .aiChCfg => (findKey (·.ch) i img.fld.ai).isSome
  | .aoChCfg => (findKey (·.ch) i img.fld.ao).isSome
  | .dioChCfg => (findKey (·.ch) i img.fld.dio).isSome
  | .soBcfg | .soBcfg2 | .soBcfg3 => (findKey (·.ch) i img.brake.chans).isSome
  | .ptpStat => has 10
  | .uslCstat => (findKey (·.conn) i img.usl.conns).isSome
  | _ => true

def initList (b : List Byte) : Nat → Nat → List (Nat × W32)
  | 0, _ => []
  | n + 1, p => (getN b p 4, BitVec.ofNat 32 (getN b (p + 4) 4)) :: initList b n (p + 8)

/-- The "image" bits of a register word (R127). -/
def RegHit.imgMask (h : RegHit) : Nat := if h.high then h.row.img / 2 ^ 32 else h.row.img % 2 ^ 32

/-- One REGINIT entry (R146). -/
def initOk (img : Image) (e : Nat × W32) : Bool :=
  decide (e.1 % 4 = 0 ∧ e.1 < 65536) &&
  match regAt e.1 with
  | none => false
  | some h => decide (h.row.img ≠ 0) && decide (e.2.toNat &&& h.imgMask = e.2.toNat) && !sectionSets img h.row.id h.i

/-- R145, R146; `img` holds the image's other sections. -/
def parseReginit (img : Image) (b : List Byte) : Option RegInitSec :=
  let n := getN b 10 2; let k := getN b 8 2; let ss := getN b 12 2
  let es := initList b n 16
  let e := lookupD (0 : W32) ss img.own
  if b.length = 16 + 8 * n ∧ n ≤ 2048 ∧ 1 ≤ k ∧ k ≤ 0xFFFE ∧ zeros b 14 2 = true ∧
      (ss = 0 ∨ (areaOf ss = .input ∧ ownAssigned e = true ∧ ownFunc e = 0 ∧ ownUnit e = 0)) ∧
      strictly (es.map (·.1)) = true ∧ es.all (initOk img) = true then
    some { guardSel := BitVec.ofNat 64 (getN b 0 8), tgKey := k, sysSlot := ss, entries := es }
  else none

/-! ### 64-bit pairs of an image (R32, R478) -/

def refPair (r : SlotRef) : List Nat := if r.wide then [r.slot] else []

def optPair (r : Option SlotRef) : List Nat := match r with | some x => refPair x | none => []

def instPairs (i : Inst) : List Nat :=
  (i.ins.flatMap fun d => match d.src with | .slot r => refPair r | _ => []) ++ i.binds.flatMap optPair

/-- A milestone slot's pairs; the OUT of a CAPTURE is a reference (log 40). -/
def msPairs (c : MsSlotCfg) : List Nat :=
  (if msAct c = 6 then refPair (SlotRef.dec c.out.toNat) else []) ++
    [c.tgtRef, c.endRef, c.armRef, c.resRef].flatMap optPair

def loopPairs (c : LoopCfg) : List Nat :=
  [c.pvRef, c.spRef, c.cspRef, c.ffRef, c.trkRef, c.manRef, c.modeRef, c.schedRef, c.outBind, c.statBind,
    c.pspBind].flatMap optPair

def slvPairs (c : SlvCfg) : List Nat :=
  optPair c.statBind ++
  (c.ops.flatMap fun o =>
    if o.kind = 1 ∧ o.ref.wide = true then [o.ref.slot]
    else if o.kind = 2 ∧ o.ref.wide = true then (List.range c.n).map fun k => o.ref.slot + k * o.stride
    else []) ++
  (c.pubs.filter (·.wide)).map (·.slot)

def fldPairs (f : FieldSec) : List Nat :=
  (f.ai.flatMap fun c => [c.valBind, c.statBind].flatMap optPair) ++
  (f.ao.flatMap fun c => [some c.src, c.rbBind, c.statBind].flatMap optPair) ++
  (f.dio.flatMap fun c => [c.src, c.bind].flatMap optPair) ++ (f.hart.flatMap fun e => refPair e.ref)

def stationPairs (t : StationCfg) : List Nat := t.maps.flatMap fun m => refPair m.ref

def brakePairs (c : BrakeCfg) : List Nat := [some c.relRef, c.permRef, c.torqRef, c.statBind].flatMap optPair

/-- The first slots of the pairs that the image's WIDE references name. -/
def imagePairs (i : Image) : List Nat :=
  i.net.insts.flatMap instPairs ++ (i.ms.doms.flatMap fun d => optPair d.dirRef) ++ i.ms.slots.flatMap msPairs ++
  (i.ms.syncs.flatMap fun y => optPair y.ctRef) ++ i.loops.ctxs.flatMap loopPairs ++ i.slv.probs.flatMap slvPairs ++
  fldPairs i.fld ++ (i.can.chans.flatMap fun c => optPair c.statBind ++ c.stations.flatMap stationPairs) ++
  optPair i.eth.statBind ++ i.eth.stations.flatMap stationPairs ++
  (i.usl.conns.flatMap fun c => c.maps.flatMap fun m => refPair m.ref) ++ i.brake.chans.flatMap brakePairs

/-! ### Checks 8 to 12 (R113) -/

/-- A section's content: the default where the table has no such TYPE, `none` where its check fails. -/
def secOf {α : Type} (raw : List (Nat × List Byte)) (t : Nat) (dflt : α) (f : List Byte → Option α) : Option α :=
  match (raw.find? fun p => decide (p.1 = t)).map (·.2) with
  | none => some dflt
  | some x => f x

/-- Check 10, in the order of the TYPE codes: the image, or the first TYPE that fails (log 55). -/
def contentOf (i0 : Image) : Nat × Image :=
  let own := i0.own
  match secOf i0.raw 1 {} parseStation with
  | none => (1, i0)
  | some st =>
  match secOf i0.raw 3 {} (parseCycle own) with
  | none => (3, i0)
  | some cy =>
  match secOf i0.raw 4 {} (parseNet own cy) with
  | none => (4, i0)
  | some net =>
  match secOf i0.raw 5 {} (parseLoops own) with
  | none => (5, i0)
  | some lps =>
  let fld? := secOf i0.raw 8 {} (parseFld own)
  match secOf i0.raw 6 {} (parseMs own fld? lps) with
  | none => (6, i0)
  | some ms =>
  match secOf i0.raw 7 {} (parseSlv own) with
  | none => (7, i0)
  | some slv =>
  match fld? with
  | none => (8, i0)
  | some fld =>
  match secOf i0.raw 9 {} (parseCan own cy.base) with
  | none => (9, i0)
  | some can =>
  match secOf i0.raw 10 {} (parseEth own cy.base) with
  | none => (10, i0)
  | some eth =>
  match secOf i0.raw 11 {} (parseUsl own can) with
  | none => (11, i0)
  | some usl =>
  match secOf i0.raw 12 {} (parseBrake own) with
  | none => (12, i0)
  | some brk =>
  let i1 : Image := { i0 with
    station := st, cycle := cy, net := net, loops := lps, ms := ms, slv := slv, fld := fld, can := can, eth := eth
    usl := usl, brake := brk }
  match secOf i0.raw 13 {} (parseReginit i1) with
  | none => (13, i0)
  | some ri =>
  match secOf i0.raw 14 {} (parsePair own (imagePairs i1)) with
  | none => (14, i0)
  | some pr =>
  match secOf i0.raw 15 {} parseDiag with
  | none => (15, i0)
  | some dg => (0, { i1 with reginit := ri, pair := pr, diag := dg })

/-- Checks 8 to 12 of R113: the code, the failing TYPE where check 10 fails, and the image where all pass. -/
def checkContent (b : List Byte) (slot : Option Nat) : Nat × Nat × Option Image :=
  match checkSections b with
  | none => (9, 0, none)
  | some t =>
    let raw := t.map fun e => (e.type, slice b e.ofs e.len)
    match checkMap (lookupD [] 2 raw) with
    | none => (0x0A, 0, none)
    | some own =>
      match contentOf { flevel := hdrFlevel b, seqNo := hdrSeq b, diagprof := hdrFlags b % 4
                        digest := imageDigest b, prevDigest := slice b 64 32, present := t.map (·.type)
                        raw := raw, own := own } with
      | (0, img) =>
        match slot with
        | none => (0x0C, 0, none)
        | some n =>
          if n = img.station.slotA ∨ n = img.station.slotB ∨ n = img.station.slotRef then (0, 0, some img)
          else (0x0D, 0, none)
      | (ty, _) => (0x0B, ty, none)

end Sys2Proof.Machine
end

