-- ==== Sys2Proof/Machine/LoopActs.lean ====
section
/-! DEFINITION. The loop engine's events (chapter 08). -/

namespace Sys2Proof.Machine

/-- The oldest sample in the engine ends (R278): its results commit where the datapaths agree, and a disagreement is a LOOP
fault (R24, R308). -/
def State.loopEnd (agree : Bool) (s : State) : State :=
  match s.loop.run with
  | (n, t, l) :: r =>
    if !s.loopRuns || decide (s.clock < t + 66) then s
    else if agree then ({ s with loop := { s.loop with run := r } } : State).loopCommit n l
    else ({ s with loop := { s.loop with cause := 1 } } : State).funcFault 7 1 0
  | [] => s

end Sys2Proof.Machine
end

