-- ==== Sys2Proof/Machine/MsActs.lean ====
section
/-! DEFINITION. The milestone scheduler's events and its registers (chapter 07). -/

namespace Sys2Proof.Machine

/-! ### What the MS registers read -/

def rdMsStat (s : State) : Nat :=
  let n := (s.ms.slots.filter fun m => match msCfg s.img m.num with | some c => s.msArmed c m | none => false).length
  b2n s.msRun + 2 * b2n s.ms.fault + 16 * s.ms.cause + 65536 * n

def rdMsDcfg (s : State) (d : Nat) : Nat :=
  let c := domCfg s.img d
  if !c.enable then 0
  else c.mode + 4 * c.missing + 16 * b2n (decide (c.periodRev = 2)) + 32 * c.alphaShift + 256 * c.teeth +
    524288 * c.lossRatio + 33554432

def rdMsDrev (s : State) (d : Nat) : Nat := ofSigned 32 (s.cycleNow d)

/-- D7's update points are one tick apart. -/
def rdMsDper (s : State) (d : Nat) : Nat :=
  if d = 7 then (if (s.dom 7).st = 0 then 0 else 16) else min ((s.dom d).int16) 0xFFFFFFFF

/-- A write of MS_SLOT_IDX loads the window's staging (R271). -/
def State.msIndex (i : Nat) (s : State) (m : MasterSt) : MasterSt :=
  { m with ms := match s.msSlot i with
    | some x => { index := i, arm := x.arm, rep := x.rep, dirsel := x.dirsel, latepol := x.latepol, endmode := x.endmode
                  tgt := w32 x.tgt, endv := w32 x.endv, win := w32 x.win }
    | none => { index := i } }

/-- A write of COMMIT applies the staging to the slot (R271). -/
def State.msCommit (w : MsWin) (s : State) : State :=
  s.modMs w.index fun x =>
    { x with arm := w.arm, rep := w.rep, dirsel := w.dirsel, latepol := w.latepol, endmode := w.endmode
             tgt := w.tgt.toNat, endv := w.endv.toNat, win := w.win.toNat }

def rdMsSlotCtl (s : State) (w : MsWin) : Nat :=
  let c := match msCfg s.img w.index with | some c => 256 * msDom c + 4096 * msAct c | none => 0
  b2n w.arm + 4 * b2n w.rep + 8 * w.dirsel + 32 * b2n w.latepol + 64 * b2n w.endmode + c

def rdMsSlotOut (s : State) (w : MsWin) : Nat := match msCfg s.img w.index with | some c => c.out.toNat | none => 0

def rdMsSlotStat (s : State) (w : MsWin) : Nat :=
  match s.msSlot w.index, msCfg s.img w.index with | some m, some c => s.msStatWord c m | _, _ => 0

def rdMsSlotFtick (s : State) (w : MsWin) : Nat := match s.msSlot w.index with | some m => m.ftick | none => 0

def rdMsSlotCt (s : State) (w : MsWin) : Nat := match s.msSlot w.index with | some m => m.ct | none => 0

/-! ### Events -/

/-- The timestamp of an edge whose model governs from the present tick: `frac` sixteenths (R233, R240). -/
def State.stamp (frac : Nat) (s : State) : Nat :=
  if frac % 16 = 0 then 16 * s.clock else 16 * (s.clock - 1) + frac % 16

/-- A pulse ends (R252, R254). -/
def State.pulseEnd (n : Nat) (s : State) : State :=
  match s.msSlot n, msCfg s.img n with
  | some m, some c => if s.msPulseDue c m then s.msPulseEnd n else s
  | _, _ => s

/-- The two position trackers are compared (R269). -/
def State.trackers (agree : Bool) (s : State) : State :=
  if agree || !s.msTracks then s
  else ({ s with ms := { s.ms with cause := 1 } } : State).funcFault 6 1 0

end Sys2Proof.Machine
end

