-- ==== Sys2Proof/Machine/SlvActs.lean ====
section
/-! DEFINITION. The solver's events (chapters 09 and 10). -/

namespace Sys2Proof.Machine

/-- The residual unit ends the check of the oldest solution handed over (R347, R348, R356). -/
def State.residualCheck (s : State) : State :=
  match s.slv.resq with
  | [] => s
  | p :: r =>
    let s0 : State := { s with slv := { s.slv with resq := r } }
    match slvCfg s.img p, s.prob p with
    | some c, some x =>
      match x.per with
      | none => s0
      | some y =>
        let k := residual c (x.mats.getD {}) y.res.x y.res.lam
        let s1 := s0.modProb p fun x => { x with presp := k.presp, presd := k.presd }
        if k.ok then s1.modProb p fun x => setStage (.decided (b2n y.res.reg)) { x with rescons := 0 }
        else
          let n := x.rescons + 1
          let s2 := s1.modProb p fun x => setStage (.decided 0x14) { x with rescons := n }
          if c.resfail ≤ n then ({ s2 with slv := { s2.slv with cause := 1 } } : State).funcFault 8 1 0
          else s2.record 0x0803 p 0 (leBytes 1 p ++ leBytes 1 (min y.res.iter 255) ++ leBytes 4 k.presp.toNat ++ leBytes 4 k.presd.toNat)
    | _, _ => s0

end Sys2Proof.Machine
end

