-- ==== Sys2Proof/Machine/UslActs.lean ====
section
/-! DEFINITION. The events of the Utsor safety layer and what the USL registers read (chapter 13). -/

namespace Sys2Proof.Machine

/-! ### Registers -/

def rdUslStat (s : State) : Nat :=
  b2n s.uslRuns + 2 * b2n s.usl.fault + 16 * s.usl.cause +
    65536 * (s.usl.conns.filter fun x => decide (x.st = 2)).length

def rdUslCstat (s : State) (c : Nat) : Nat :=
  match uslCfg s.img c, s.usl1 c with
  | some k, some x => uslWord k x
  | _, _ => 0

def rdUslCcnt (s : State) (c : Nat) : Nat :=
  match s.usl1 c with
  | some x => x.crcErr + 256 * x.seqErr + 65536 * x.ageErr + 16777216 * x.passives
  | none => 0

/-! ### Events -/

end Sys2Proof.Machine
end

