-- ==== Sys2Proof/Machine/RegRead.lean ====
section
/-! DEFINITION. What every register of the map reads (the chapters' register sections), and which registers answer
DISABLED (R137). -/

namespace Sys2Proof

def Master.code : Master → Nat
  | .mgmt => 0 | .host _ => 1 | .seq => 2

/-- The rank of R125. -/
def Master.rank : Master → Nat
  | .mgmt => 3 | .seq => 2 | .host _ => 1

end Sys2Proof

namespace Sys2Proof.Machine

/-! ### Masters (R123) -/

/-- The windows and tollgate of a master; MGMT uses SEQ's windows and reads SEQ's tollgate. -/
def State.win (m : Master) (s : State) : MasterSt :=
  match m with
  | .host sid => match s.session sid with | some x => x.m | none => {}
  | _ => s.seqm

def State.modWin (m : Master) (f : MasterSt → MasterSt) (s : State) : State :=
  match m with
  | .host sid => s.modSession sid fun x => { x with m := f x.m }
  | _ => { s with seqm := f s.seqm }

/-- The 64-bit shadows of a master (R135, R136). R135 gives each master one of each; HOST is one master of R123, and the model
keeps its shadows for each SMP session, as R129 and R271 keep tollgates and windows (DESIGN CHOICE, log 124). -/
def State.shadows (m : Master) (s : State) : MasterSt := match m with | .mgmt => s.mgmt | _ => s.win m

def State.modShadows (m : Master) (f : MasterSt → MasterSt) (s : State) : State :=
  match m with | .mgmt => { s with mgmt := f s.mgmt } | _ => s.modWin m f

/-- The master can make an access: a host access belongs to an open session, and the management core carries host accesses
and its own. -/
def State.canAccess (m : Master) (s : State) : Bool :=
  s.running && (match m with
    | .host sid => (s.session sid).isSome && !s.panel.mgmtStopped
    | .mgmt => !s.panel.mgmtStopped
    | .seq => true)

/-! ### Units that the image does not configure (R108, R137) -/

/-- The register belongs to a unit that the committed image does not configure. -/
def State.regDisabled (id : RegId) (i : Nat) (s : State) : Bool :=
  match id with
  | .seqLstat | .seqLcost | .seqLpeak | .seqLovrh | .seqLpass => !(laneCfg s.img i).enable
  | .msDcfg | .msDzero | .msDstat | .msDpos | .msDrev | .msDper | .msDspeed | .msDacc => !(domCfg s.img i).enable
  | .loopCtl | .loopStat | .loopCoefIdx | .loopCoefA | .loopMan | .loopOut | .loopFe | .loopCnt => (loopCfg s.img i).isNone
  | .slvPstat | .slvPcyc | .slvPresp | .slvPresd | .slvPcnt | .slvPeng | .slvPeng2 | .slvPsig | .slvPharv => (slvCfg s.img i).isNone
  | .canStat | .canErr | .canNbt | .canDbt | .canTdcr | .canCnt | .canCnt2 | .canEvt | .canRxhSel | .canRxf0Stat | .canRxf1Stat
  | .canRxhId | .canRxhInfo | .canRxhTs | .canRxfPop | .canRxhData | .canTxbIdx | .canTxbId | .canTxbInfo | .canTxbCtl
  | .canTxbStat | .canTxbData => (canCfg s.img i).isNone
  | .aiChCfg | .aiChStat | .aiChRaw | .aiChCnt => (aiCfg s.img i).isNone
  | .aoChCfg | .aoChStat | .aoChMeas | .aoChCtl => (aoCfg s.img i).isNone
  | .dioChCfg | .dioChStat => (dioCfg s.img i).isNone
  | .soBcfg | .soBcfg2 | .soBcfg3 | .soBstat | .soBmeas | .soBcnt | .soBttime => (brakeCfg s.img i).isNone
  | .uslCstat | .uslCctl | .uslCcnt => (uslCfg s.img i).isNone
  | _ => false

/-! ### Reading -/

def ctxGet (s : State) (n : Nat) (f : CtxSt → Nat) : Nat := match s.ctx n with | some x => f x | none => 0

def optW (l : List W32) (k : Nat) : Nat := (l.getD k 0).toNat

/-- The SYS, SEC, LOG, PAIR, SEQ and IMG registers. -/
def rdCore (s : State) (m : Master) (id : RegId) (i : Nat) : Nat :=
  let w := s.win m
  match id with
  | .sysId => rdSysId s
  | .sysState => s.sysStateWord
  | .sysSlot => rdSysSlot s
  | .sysPower => rdSysPower s
  | .sysTick => s.tick
  | .sysTime => s.ns
  | .sysTollgate => 0
  | .sysTgstat => rdSysTgstat s w
  | .sysAccerr => rdSysAccerr s
  | .sysAccfirst => rdSysAccfirst s
  | .sysCfgpar => rdSysCfgpar s
  | .sysScratch => s.bus.scratch.toNat
  | .sysGuard => rdSysGuard s
  | .secStatus => rdSecStatus s
  | .secFloor => s.store.floor
  | .secImage => rdSecImage s
  | .secSeq => rdSecSeq s
  | .secDigest => rdSecDigest s i
  | .secOwnerfp => rdSecOwnerfp s
  | .secSerial => rdSecSerial s i
  | .logStat => rdLogStat s
  | .logLast => s.log.lastNum
  | .logAcknum => s.snap.ackNum
  | .logLost => rdLogLost s
  | .logPeak => s.log.peak
  | .logRdNum => w.logNum.toNat
  | .logRdInfo => rdLogInfo w
  | .logRdData => optW w.logData i
  | .pairStat => rdPairStat s
  | .pairCfg => rdPairCfg s
  | .pairTimeout => rdPairTimeout s
  | .pairSwapcfg => rdPairSwapcfg s
  | .pairRevdly => rdPairRevdly s
  | .pairLink => rdPairLink s
  | .pairMcnt => rdPairMcnt s
  | .pairEvt => s.pair.evt.toNat
  | .pairHto => s.pair.hto
  | .pairSwapt => s.pair.swapTime
  | .pairRef => rdPairRef s
  | .pairRound => rdPairRound s
  | .seqStat => rdSeqStat s
  | .seqHarvest => s.seq.h
  | .seqHtick => s.seq.htick
  | .seqLstat => rdSeqLstat s i
  | .seqLcost => (s.lane i).cost % 2 ^ 24
  | .seqLpeak => (s.lane i).peak % 2 ^ 24
  | .seqLovrh => (s.lane i).ovrH
  | .seqLpass => (s.lane i).passes
  | .imgNet => rdImgNet s
  | .imgLane => rdImgLane s i
  | .imgLcost => rdImgLcost s i
  | .imgSlotIdx => w.slotIdx
  | .imgSlotVal => w.slotVal.toNat
  | .imgSlotInfo => rdImgSlotInfo w
  | .imgInstIdx => w.instIdx
  | .imgInstId => w.instId.toNat
  | .imgInstType => w.instType.toNat
  | .imgInstOq => rdImgOq w
  | .imgInstOut => optW w.instOut i
  | .imgFindId => w.findId.toNat
  | .imgInstKs => optW w.instKs i
  | _ => 0

/-- The MS, LOOP, SLV, CAN, AI, AO and DIO registers. -/
def rdUnits (s : State) (m : Master) (id : RegId) (i j : Nat) : Nat :=
  let w := s.win m
  match id with
  | .msStat => rdMsStat s
  | .msDcfg => rdMsDcfg s i
  | .msDzero => (domCfg s.img i).zero
  | .msDstat => s.domStat i
  | .msDpos => s.domPos i
  | .msDrev => rdMsDrev s i
  | .msDper => rdMsDper s i
  | .msDspeed => (s.domSpeed i).toNat
  | .msDacc => (s.domAcc i).toNat
  | .msSlotIdx => w.ms.index
  | .msSlotCtl => rdMsSlotCtl s w.ms
  | .msSlotTgt => w.ms.tgt.toNat
  | .msSlotEnd => w.ms.endv.toNat
  | .msSlotWin => w.ms.win.toNat
  | .msSlotOut => rdMsSlotOut s w.ms
  | .msSlotStat => rdMsSlotStat s w.ms
  | .msSlotFtick => rdMsSlotFtick s w.ms
  | .msSlotCt => rdMsSlotCt s w.ms
  | .loopCtl => ctxGet s i fun x => x.modeReq + 4 * b2n x.swapReq
  | .loopStat => rdLoopStat s i
  | .loopCoefIdx => ctxGet s i fun x => x.bank + 8 * x.word
  | .loopCoefA => ctxGet s i fun x => (x.banks.getD (8 * x.bank + x.word) 0).toNat
  | .loopMan => ctxGet s i fun x => x.man.toNat
  | .loopOut => ctxGet s i fun x => x.out.toNat
  | .loopFe => ctxGet s i fun x => x.fe.toNat
  | .loopCnt => rdLoopCnt s i
  | .slvStat => rdSlvStat s
  | .slvPstat => rdSlvPstat s i
  | .slvPcyc => rdSlvPcyc s i
  | .slvPresp => (s.probD i).presp.toNat
  | .slvPresd => (s.probD i).presd.toNat
  | .slvPcnt => rdSlvPcnt s i
  | .slvPeng => rdSlvPeng s i
  | .slvPeng2 => rdSlvPeng2 s i
  | .slvPsig => rdSlvPsig s i
  | .slvPharv => rdSlvPharv s i
  | .slvWinSel => w.slvSel.toNat
  | .slvWinInfo => rdSlvWinInfo w
  | .slvWinVal => w.slvVal.toNat
  | .canStat => rdCanStat s i
  | .canErr => rdCanErr s i
  | .canNbt => rdCanNbt s i
  | .canDbt => rdCanDbt s i
  | .canTdcr => rdCanTdcr s i
  | .canCnt => rdCanCnt s i
  | .canCnt2 => rdCanCnt2 s i
  | .canEvt => rdCanEvt s i
  | .canRxhSel => w.canSel.getD i 0
  | .canRxf0Stat => rdCanFifo (s.can1 i).fifo0
  | .canRxf1Stat => rdCanFifo (s.can1 i).fifo1
  | .canRxhId => rdCanRxhId s w i
  | .canRxhInfo => rdCanRxhInfo s w i
  | .canRxhTs => rdCanRxhTs s w i
  | .canRxhData => rdCanRxhData s w i j
  | .canTxbIdx => w.canTx.getD i 0
  | .canTxbId => rdCanTxbId s w i
  | .canTxbInfo => rdCanTxbInfo s w i
  | .canTxbStat => rdCanTxbStat s w i
  | .canTxbData => rdCanTxbData s w i j
  | .aiStat => rdAiStat s
  | .aiChCfg => rdAiChCfg s i
  | .aiChStat => rdAiChStat s i
  | .aiChRaw => rdAiChRaw s i
  | .aiChCnt => rdAiChCnt s i
  | .aoStat => rdAoStat s
  | .aoChCfg => rdAoChCfg s i
  | .aoChStat => rdAoChStat s i
  | .aoChMeas => rdAoChMeas s i
  | .dioStat => rdDioStat s
  | .dioPin => rdDioPin s
  | .dioDrv => rdDioDrv s
  | .dioFlt => rdDioFlt s
  | .dioChCfg => rdDioChCfg s i
  | .dioChStat => rdDioChStat s i
  | _ => 0

/-- SO_STAT UNLOCK of the reading session (R469). -/
def State.unlockOf (m : Master) (s : State) : Bool :=
  match m with
  | .host sid => match s.session sid with | some x => x.unlocked s.clock | none => false
  | _ => false

/-- The SO, ETH, USL and DIAG registers. -/
def rdRest (s : State) (m : Master) (id : RegId) (i : Nat) : Nat :=
  let w := s.win m
  match id with
  | .soStat => rdSoStat s (s.unlockOf m)
  | .soSafedig => rdSoSafedig s
  | .soBcfg => rdSoBcfg s i
  | .soBcfg2 => rdSoBcfg2 s i
  | .soBcfg3 => rdSoBcfg3 s i
  | .soBstat => rdSoBstat s i
  | .soBmeas => rdSoBmeas s i
  | .soBcnt => rdSoBcnt s i
  | .soBttime => rdSoBttime s i
  | .soLogIdx => w.soIdx
  | .soLogEnt => optW w.soEnt i
  | .ethStat => rdEthStat s
  | .ethAddr => rdEthAddr s
  | .ethPrp => rdEthPrp s
  | .ethRio => rdEthRio s
  | .ptpStat => rdPtpStat s
  | .ptpOffset => rdPtpOffset s
  | .ptpRate => rdPtpRate s
  | .ptpPdelay => rdPtpPdelay s
  | .ptpGmid => rdPtpGmid s
  | .uslStat => rdUslStat s
  | .uslCstat => rdUslCstat s i
  | .uslCcnt => rdUslCcnt s i
  | .diagCfg => rdDiagCfg s
  | .diagCfg2 => rdDiagCfg2 s
  | .diagStat => rdDiagStat s
  | .diagFaults => rdDiagFaults s
  | .diagFcnt => rdDiagFcnt s i
  | .diagMem => rdDiagMem s
  | .diagRecover => s.diag.recover
  | _ => 0

/-- The fields that a REGINIT entry sets stand in a register that no section sets (R147). -/
def State.reginitBits (h : RegHit) (addr : Nat) (s : State) : Nat :=
  if h.row.img = 0 ∨ !s.committed ∨ sectionSets s.img h.row.id h.i then 0
  else (lookupD 0 addr s.img.reginit.entries).toNat

/-- What a register of a unit that the image does not configure reads (R108, R137): its reset value, which for the stored
fields of SO is what is stored. -/
def State.resetValue (id : RegId) (i : Nat) (s : State) : Nat :=
  match id with
  | .aoChStat => 7
  | .soBstat => rdSoBstat s i &&& 0xF07
  | .soBttime => rdSoBttime s i
  | _ => 0

/-- The whole value of a register as a master reads it: 64 bits for a 64-bit register. -/
def State.regValue (m : Master) (h : RegHit) (s : State) : Nat :=
  let id := h.row.id
  let v := if h.row.base < 0x2000 then rdCore s m id h.i
    else if h.row.base < 0x8C00 then rdUnits s m id h.i h.j
    else rdRest s m id h.i
  v ||| s.reginitBits h (h.row.base + h.i * h.row.s1 + h.j * h.row.s2)

end Sys2Proof.Machine
end

