-- ==== Sys2Proof/Machine/BusUndo.lean ====
section
/-! DEFINITION. What the write of a lower master changed in a register in the present tick, and its withdrawal when a
higher master's write to the same register commits in that tick (R125). -/

namespace Sys2Proof.Machine

/-- The W1C bits `b` of a register are set. -/
def State.setLatches (id : RegId) (i b : Nat) (s : State) : State :=
  match id with
  | .sysState => { s with panel := { s.panel with keyFault := s.panel.keyFault || bit b 6 } }
  | .sysPower => { s with power := { s.power with
      feedALost := s.power.feedALost || bit b 2, feedBLost := s.power.feedBLost || bit b 3 } }
  | .sysCfgpar => { s with bus := { s.bus with cfgFail := s.bus.cfgFail || bit b 31 } }
  | .pairEvt => { s with pair := { s.pair with evt := s.pair.evt ||| BitVec.ofNat 8 b } }
  | .msDstat => s.modDom i fun d => { d with lostL := d.lostL || bit b 4 }
  | .loopStat => s.modCtx i fun x =>
      { x with missL := x.missL || bit b 21, cref := x.cref || bit b 22, swapRef := x.swapRef || bit b 23
               trigSkipL := x.trigSkipL || bit b 24 }
  | .canEvt => s.modCan i fun x => { x with evt := x.evt ||| BitVec.ofNat 11 b }
  | .aiChStat => s.modAi i fun x =>
      { x with condL := x.condL || bit b 16, hartErrL := x.hartErrL || bit b 17, trigSkipL := x.trigSkipL || bit b 18 }
  | .aoChStat => s.modAo i fun x =>
      { x with complL := x.complL || bit b 16, devL := x.devL || bit b 17, linkL := x.linkL || bit b 18 }
  | .dioFlt => { s with fld := { s.fld with dio := s.fld.dio.map fun x => { x with faultL := x.faultL || bit b x.n } } }
  | .soBstat => s.modBrake i fun x => { x with abandL := x.abandL || bit b 14, faultL := x.faultL || bit b 15 }
  | .ethRio =>
    { s with eth := { s.eth with fmtl := s.eth.fmtl || bit b 15, latel := s.eth.latel || bit b 16, dupl := s.eth.dupl || bit b 17 } }
  | .ptpStat => s.modPtp fun p => { p with stepL := p.stepL || bit b 3, lockL := p.lockL || bit b 4 }
  | .uslCstat => s.modUsl i fun x => { x with passL := x.passL || bit b 16 }
  | .diagStat => { s with diag := { s.diag with chkFailL := s.diag.chkFailL || bit b 3 } }
  | _ => s

/-- What a CLR or SWAP field acts on, as numbers. -/
def State.counters (id : RegId) (i : Nat) (s : State) : List Nat :=
  match id with
  | .sysAccerr => [s.bus.accFlags.toNat, s.bus.accCount]
  | .logLost => [s.log.lost, s.log.episodes]
  | .logPeak => [s.log.peak]
  | .pairMcnt => [s.pair.mlost]
  | .seqLstat => [(s.lane i).ovrTotal, (s.lane i).peak]
  | .loopCtl => match s.ctx i with | some x => [b2n x.swapReq, b2n x.swapPend] | none => []
  | .loopCnt => match s.ctx i with | some x => [x.missTotal, x.trigSkip] | none => []
  | .slvPcnt => let x := s.probD i; [x.solved, x.fallback]
  | .canCnt => let x := s.can1 i; [x.busoffs, x.clashes]
  | .canCnt2 => let x := s.can1 i; [x.rxovf, x.rioerr]
  | .aiChCnt => match s.ai i with | some x => [x.hartErr, x.trigSkip] | none => []
  | .soBcnt => let x := s.brake i; [x.pulses, x.aband]
  | .ethRio => [s.eth.rioerr]
  | .uslCcnt => match s.usl1 i with | some x => [x.crcErr, x.seqErr, x.ageErr, x.passives] | none => []
  | .diagFcnt => [s.diag.totals.getD i 0]
  | .diagMem => [s.diag.corr, s.diag.hard, s.diag.backed]
  | _ => []

/-- The numbers of `State.counters` put back. -/
def State.putCounters (id : RegId) (i : Nat) (l : List Nat) (s : State) : State :=
  let g := fun k => l.getD k 0
  match id with
  | .sysAccerr => { s with bus := { s.bus with accFlags := s.bus.accFlags ||| BitVec.ofNat 7 (g 0), accCount := max s.bus.accCount (g 1) } }
  | .logLost => { s with log := { s.log with lost := g 0, episodes := g 1 } }
  | .logPeak => { s with log := { s.log with peak := g 0 } }
  | .pairMcnt => { s with pair := { s.pair with mlost := g 0 } }
  | .seqLstat => s.modLane i fun x => { x with ovrTotal := g 0, peak := g 1 }
  | .loopCtl => s.modCtx i fun x => { x with swapReq := g 0 == 1, swapPend := g 1 == 1 }
  | .loopCnt => s.modCtx i fun x => { x with missTotal := g 0, trigSkip := g 1 }
  | .slvPcnt => s.modProb i fun x => { x with solved := g 0, fallback := g 1 }
  | .canCnt => s.modCan i fun x => { x with busoffs := g 0, clashes := g 1 }
  | .canCnt2 => s.modCan i fun x => { x with rxovf := g 0, rioerr := g 1 }
  | .aiChCnt => s.modAi i fun x => { x with hartErr := g 0, trigSkip := g 1 }
  | .soBcnt => s.modBrake i fun x => { x with pulses := g 0, aband := g 1 }
  | .ethRio => { s with eth := { s.eth with rioerr := g 0 } }
  | .uslCcnt => s.modUsl i fun x => { x with crcErr := g 0, seqErr := g 1, ageErr := g 2, passives := g 3 }
  | .diagFcnt => { s with diag := { s.diag with totals := s.diag.totals.set i (g 0) } }
  | .diagMem => { s with diag := { s.diag with corr := g 0, hard := g 1, backed := g 2 } }
  | _ => s

/-- What a write of `v` is about to change in a register's latches and self-clearing fields is kept for the rest of the
tick. Other actions that a lower master's write has started are not withdrawn (DESIGN CHOICE, log 115). -/
def State.keepUndo (id : RegId) (i addr v c : Nat) (s : State) : State :=
  let acts := bit v 31 || id == .sysAccerr || (id == .loopCtl && bit v 2)
  { s with bus := { s.bus with
      undo := (addr, c, if acts then s.counters id i else []) :: s.bus.undo.filter fun p => decide (p.1 ≠ addr) } }

/-- A lower master's write of this tick loses its effect on the latches and the self-clearing fields of a register (R125). -/
def State.undoWrite (id : RegId) (i addr : Nat) (s : State) : State :=
  match s.bus.undo.find? fun p => decide (p.1 = addr) with
  | some (_, c, l) =>
    let s1 := s.setLatches id i c
    if l.isEmpty then s1 else s1.putCounters id i l
  | none => s

end Sys2Proof.Machine
end

