-- ==== Sys2Proof/Machine/Bus.lean ====
section
/-! DEFINITION. The register bus (chapter 04): accesses and their response codes, guards and tollgates, 64-bit shadows,
the effects of writes. -/

namespace Sys2Proof.Machine

/-! ### Refused accesses (R137 to R139) -/

/-- Bit number in SYS_ACCERR of a response code. -/
def accBit (code : Nat) : Nat := code - 0x20

/-- A response other than OK sets its flag, counts, is captured where it is the first, and is recorded where R137 says so. -/
def State.accFault (m : Master) (code addr value : Nat) (s : State) : State :=
  let b := s.bus
  let first := decide (b.accFlags = 0)
  let b1 : Bus := { b with
    accFlags := b.accFlags ||| BitVec.ofNat 7 (2 ^ accBit code)
    accCount := satInc 0x7FFF b.accCount
    firstAddr := if first then addr % 65536 else b.firstAddr
    firstCause := if first then accBit code else b.firstCause
    firstMaster := if first then m.code else b.firstMaster }
  let s1 : State := { s with bus := b1 }
  if code = 0x20 ∨ code = 0x21 ∨ code = 0x22 ∨ code = 0x26 then
    s1.record 0x000C 0 addr (leBytes 1 code ++ leBytes 1 m.code ++ leBytes 2 addr ++ leBytes 4 value)
  else s1

/-! ### Guards and tollgates (R127 to R131) -/

/-- A privileged master (R123). -/
def State.privileged (m : Master) (s : State) : Bool :=
  match m with
  | .mgmt => true
  | .host sid => match s.session sid with | some x => decide (x.role = .engineer ∨ x.role = .owner) | none => false
  | .seq => false

/-- The fields of a register that TG guards, and those that PRV guards (R127 to R129). -/
def State.tgFields (r : RegRow) (addr : Nat) (s : State) : Nat :=
  if s.committed && bit s.img.reginit.guardSel.toNat (addr / 1024 % 64) then r.pt else 0

def State.prvFields (r : RegRow) (addr : Nat) (s : State) : Nat :=
  r.prv ||| (if s.committed && bit s.img.reginit.guardSel.toNat (addr / 1024 % 64) then 0 else r.pt)

/-- The guards admit a write that touches `mask`. -/
def State.guardOk (m : Master) (r : RegRow) (addr mask : Nat) (s : State) : Bool :=
  match m with
  | .mgmt => true
  | _ => (decide (mask &&& s.prvFields r addr = 0) || s.privileged m) &&
      (decide (mask &&& s.tgFields r addr = 0) || (s.win m).gateOpen s.clock)

def closeGate (w : MasterSt) : MasterSt := { w with tgOpen := none }

/-- A write of SYS_TOLLGATE (R129, R131): the response and the tollgate. MGMT has none. -/
def gateWrite (now key : Nat) (committed : Bool) (v : Nat) (w : MasterSt) : Bool × MasterSt × Bool :=
  if !committed || w.gateLocked now then (false, w, false)
  else if v % 65536 = key ∧ v / 65536 = 65535 - key then (true, { w with tgOpen := some now, tgFails := 0, tgLock := none }, false)
  else
    let n := (if w.tgLock.isSome then 0 else w.tgFails) + 1
    if n = 4 then (false, { w with tgOpen := none, tgFails := 4, tgLock := some now }, true)
    else (false, { w with tgOpen := none, tgFails := n, tgLock := none }, false)

def State.gateWriteBy (m : Master) (v : Nat) (s : State) : Nat × State :=
  let r := gateWrite s.clock s.img.reginit.tgKey s.committed v (match m with | .mgmt => {} | _ => s.win m)
  let s1 := match m with | .mgmt => s | _ => s.modWin m fun _ => r.2.1
  let sid := match m with | .host n => n | _ => 0
  (if r.1 then 0 else 0x20, if r.2.2 && m ≠ .mgmt then s1.record 0x000E 0 0 (leBytes 1 m.code ++ leBytes 2 sid) else s1)

/-! ### Effects of accepted writes -/

/-- The bits that a write clears in a W1C register: those written as one, but for a bit that the hardware set in the
present tick (R125); a set in the tick takes the bit out of `lat0` (`State.latchSet`). -/
def State.w1c (addr v : Nat) (s : State) : Nat := v &&& lookupD 0 addr s.bus.lat0

def clr (b : Bool) (c i : Nat) : Bool := b && !bit c i

/-- The parity key of the register at an address: LOOP_COEF_A's is that of the word its index selects (R310). -/
def State.parityKey (h : RegHit) (addr : Nat) (s : State) : Nat :=
  if h.row.id = .loopCoefA then 0x10000 + 64 * h.i + ctxGet s h.i (fun x => 8 * x.bank + x.word) else addr

/-- A write commits: the parity of the register is computed anew (R141). A coefficient word's is computed by `loopCoef`,
which alone knows whether R291 refuses the write. -/
def State.parityWritten (id : RegId) (k : Nat) (s : State) : State := if id = .loopCoefA then s else s.parityFresh k

def State.setBus (f : Bus → Bus) (s : State) : State := { s with bus := f s.bus }

/-- Writes of SYS, LOG, PAIR, SEQ and IMG registers. -/
def State.fxCore (m : Master) (id : RegId) (i v c : Nat) (s : State) : State :=
  let w := BitVec.ofNat 32 v
  match id with
  | .sysState => { s with panel := { s.panel with keyFault := clr s.panel.keyFault c 6 } }
  | .sysPower => { s with power := { s.power with feedALost := clr s.power.feedALost c 2, feedBLost := clr s.power.feedBLost c 3 } }
  | .sysAccerr => s.setBus fun b =>
      { b with accFlags := b.accFlags &&& ~~~(BitVec.ofNat 7 v), accCount := if bit v 31 then 0 else b.accCount }
  | .sysCfgpar => s.setBus fun b => { b with cfgFail := clr b.cfgFail c 31 }
  | .logLost => if bit v 31 then { s with log := { s.log with lost := 0, episodes := 0 } } else s
  | .logPeak => if bit v 31 then { s with log := { s.log with peak := s.log.fill } } else s
  | .logRdNum => s.modWin m (s.captureLog w)
  | .pairMcnt => if bit v 31 then { s with pair := { s.pair with mlost := 0 } } else s
  | .pairEvt => { s with pair := { s.pair with evt := s.pair.evt &&& ~~~(BitVec.ofNat 8 c) } }
  | .seqLstat => if bit v 31 then s.modLane i fun l => { l with ovrTotal := 0, peak := 0 } else s
  | .imgSlotIdx => s.modWin m (s.captureSlot w)
  | .imgInstIdx => s.modWin m (s.captureInst w)
  | .imgFindId => s.modWin m (s.findInst w)
  | _ => s

/-- A write of the milestone window (R271). -/
def State.fxMs (m : Master) (id : RegId) (i v c : Nat) (s : State) : State :=
  let w := BitVec.ofNat 32 v
  let stage (f : MsWin → MsWin) (s : State) : State := s.modWin m fun x => { x with ms := f x.ms }
  match id with
  | .msDstat => s.modDom i fun d => { d with lostL := clr d.lostL c 4 }
  | .msSlotIdx => s.modWin m (s.msIndex (v % 1024))
  | .msSlotCtl =>
    let s1 := stage (fun x => { x with arm := bit v 0, rep := bit v 2, dirsel := field v 4 3, latepol := bit v 5, endmode := bit v 6 }) s
    if bit v 1 then s1.msCommit (s1.win m).ms else s1
  | .msSlotTgt => stage (fun x => { x with tgt := w }) s
  | .msSlotEnd => stage (fun x => { x with endv := w }) s
  | .msSlotWin => stage (fun x => { x with win := w }) s
  | _ => s

/-- Writes of LOOP and SLV registers. -/
def State.fxLoop (m : Master) (id : RegId) (i v c : Nat) (s : State) : State :=
  match id with
  | .loopCtl =>
    let s1 := s.modCtx i fun x =>
      { x with modeReq := v % 4, swapReq := x.swapReq || (bit v 2 && !x.swapPend), swapPend := x.swapPend || bit v 2 }
    if bit v 3 then s1.loopAck i else s1
  | .loopStat => s.modCtx i fun x =>
      { x with missL := clr x.missL c 21, cref := clr x.cref c 22, swapRef := clr x.swapRef c 23, trigSkipL := clr x.trigSkipL c 24 }
  | .loopCoefIdx => s.modCtx i fun x =>
      { x with bank := v % 8, word := if 0x3008 + 0x40 * i ∈ s.bus.fnSet then x.word else field v 5 3 }
  | .loopCoefA => s.loopCoef i (BitVec.ofNat 32 v)
  | .loopMan => s.modCtx i fun x => { x with man := BitVec.ofNat 32 v }
  | .loopCnt => if bit v 31 then s.modCtx i fun x => { x with missTotal := 0, trigSkip := 0 } else s
  | .slvPcnt => if bit v 31 then s.modProb i fun x => { x with solved := 0, fallback := 0 } else s
  | .slvWinSel => s.modWin m (s.slvWin (BitVec.ofNat 32 v))
  | _ => s

/-- Writes of CAN registers. -/
def State.fxCan (m : Master) (id : RegId) (n k v c : Nat) (s : State) : State :=
  let w := s.win m
  let b := w.canTx.getD n 0
  match id with
  | .canCnt => if bit v 31 then s.modCan n fun x => { x with busoffs := 0, clashes := 0 } else s
  | .canCnt2 => if bit v 31 then s.modCan n fun x => { x with rxovf := 0, rioerr := 0 } else s
  | .canEvt => s.modCan n fun x => { x with evt := x.evt &&& ~~~(BitVec.ofNat 11 c) }
  | .canRxhSel => s.modWin m fun x => { x with canSel := x.canSel.set n (v % 2) }
  | .canRxfPop => if bit v 8 then s.canPop n (w.canSel.getD n 0 == 1) (v % 256) else s
  | .canTxbIdx => s.modWin m fun x => { x with canTx := x.canTx.set n (v % 16) }
  | .canTxbId => s.canTxbWrite n b fun x => { x with ident := v % 2 ^ 29, ide := bit v 31 }
  | .canTxbInfo => s.canTxbWrite n b fun x => { x with dlc := v % 16, fdf := bit v 4, brs := bit v 5, rtr := bit v 7 }
  | .canTxbData => s.canTxbWrite n b fun x => { x with data := x.data.take (4 * k) ++ leBytes 4 v ++ x.data.drop (4 * k + 4) }
  | .canTxbCtl =>
    let s1 := if bit v 0 then s.canReq n b else s
    if bit v 1 then s1.canCancel n b else s1
  | _ => s

/-- Writes of AI, AO, DIO, SO, ETH, USL and DIAG registers. -/
def State.fxRest (m : Master) (id : RegId) (i v c : Nat) (s : State) : State :=
  match id with
  | .aiChStat => s.modAi i fun x =>
      { x with condL := clr x.condL c 16, hartErrL := clr x.hartErrL c 17, trigSkipL := clr x.trigSkipL c 18 }
  | .aiChCnt => if bit v 31 then s.modAi i fun x => { x with hartErr := 0, trigSkip := 0 } else s
  | .aoChStat => s.modAo i fun x => { x with complL := clr x.complL c 16, devL := clr x.devL c 17, linkL := clr x.linkL c 18 }
  | .aoChCtl => if bit v 0 then s.aoTest i else s
  | .dioFlt => { s with fld := { s.fld with dio := s.fld.dio.map fun x => { x with faultL := clr x.faultL c x.n } } }
  | .soBstat => s.modBrake i fun x => { x with abandL := clr x.abandL c 14, faultL := clr x.faultL c 15 }
  | .soBcnt => if bit v 31 then s.modBrake i fun x => { x with pulses := 0, aband := 0 } else s
  | .soLogIdx => s.modWin m (s.captureChange (BitVec.ofNat 32 v))
  | .ethRio =>
    let e := s.eth
    { s with eth := { e with fmtl := clr e.fmtl c 15, latel := clr e.latel c 16, dupl := clr e.dupl c 17
                             rioerr := if bit v 31 then 0 else e.rioerr } }
  | .ptpStat => s.modPtp fun p => { p with stepL := clr p.stepL c 3, lockL := clr p.lockL c 4 }
  | .uslCstat => s.modUsl i fun x => { x with passL := clr x.passL c 16 }
  | .uslCctl => if bit v 0 then s.uslAckWrite i else s
  | .uslCcnt =>
    if bit v 31 then s.modUsl i fun x => { x with crcErr := 0, seqErr := 0, ageErr := 0, passives := 0 } else s
  | .diagStat => { s with diag := { s.diag with chkFailL := clr s.diag.chkFailL c 3 } }
  | .diagFcnt => if bit v 31 then { s with diag := { s.diag with totals := s.diag.totals.set i 0 } } else s
  | .diagMem => if bit v 31 then { s with diag := { s.diag with corr := 0, hard := 0, backed := 0 } } else s
  | .diagRecover =>
    let s1 : State := { s with diag := { s.diag with recover := v &&& 0x17FFF } }
    if bit v 31 then s1.diagRecover (v % 16) (field v 14 4) (bit v 16) else s1
  | _ => s

/-- The effect of a write: `v` holds the writable fields as offered, `c` the W1C bits that it clears. -/
def State.writeFx (m : Master) (h : RegHit) (v c : Nat) (s : State) : State :=
  let b := h.row.base
  if b < 0x2000 then s.fxCore m h.row.id h.i v c
  else if b < 0x3000 then s.fxMs m h.row.id h.i v c
  else if b < 0x7000 then s.fxLoop m h.row.id h.i v c
  else if b < 0x8000 then s.fxCan m h.row.id h.i h.j v c
  else s.fxRest m h.row.id h.i v c

/-! ### One access of up to 32 bits -/

/-- Bytes `size` from byte `o` of a word, as a mask. -/
def byteMask (o size : Nat) : Nat := (2 ^ (8 * size) - 1) <<< (8 * o)

/-- What a read gives: the response, the value and the state. -/
def State.read1 (m : Master) (a size : Nat) (s : State) : Nat × Nat × State :=
  let cut (w : Nat) : Nat := (w >>> (8 * (a % 4))) % 2 ^ (8 * size)
  if a % size ≠ 0 then (0x21, 0, s.accFault m 0x21 a 0)
  else match regAt (a - a % 4) with
  | none => (0x23, 0, s.accFault m 0x23 a 0)
  | some h =>
    let off := s.regDisabled h.row.id h.i
    let base := h.row.base + h.i * h.row.s1
    let full := if off then s.resetValue h.row.id h.i else s.regValue m h
    let w := if h.high then (lookupD 0 base (s.shadows m).rsh).toNat else full % 2 ^ 32
    let s1 := if h.row.wide && !h.high then
        s.modShadows m fun x => { x with rsh := insertKey base (BitVec.ofNat 32 (full / 2 ^ 32)) x.rsh }
      else s
    let k := s.parityKey h (a - a % 4)
    if off then (0x24, cut w, s1.accFault m 0x24 a 0)
    else if k ∈ s.bus.parity then (0x26, cut w, (s1.parityDetect k).accFault m 0x26 a 0)
    else (0, cut w, s1)

/-- A write that the address, the unit and the width admit (R125, R127 to R131, R136). -/
def State.write2 (m : Master) (h : RegHit) (a size v : Nat) (s : State) : Nat × State :=
  let word := a - a % 4
  let base := h.row.base + h.i * h.row.s1
  if h.row.id = .sysTollgate then s.gateWriteBy m v
  else if h.row.wide then
    if h.high then (0, s.modShadows m fun x => { x with wsh := eraseKey base x.wsh })
    else (0, s.modShadows m fun x => { x with wsh := insertKey base (BitVec.ofNat 32 v) x.wsh })
  else
    let mask := h.row.wr &&& byteMask (a % 4) size
    if !s.guardOk m h.row word mask then (0x20, s)
    else if m.rank < lookupD 0 word s.bus.wrote ∨ (word ∈ s.bus.fnSet ∧ h.row.id ≠ .loopCoefIdx) then (0, s)
    else if mask = 0 then (0, s)
    else
      let off := (v <<< (8 * (a % 4))) &&& mask
      let lower := decide (lookupD 0 word s.bus.wrote < m.rank)
      let s0 := if lower then s.undoWrite h.row.id h.i word else s
      let s1 := if h.row.id = .sysScratch then
          s0.setBus fun b => { b with scratch := (b.scratch &&& ~~~(BitVec.ofNat 32 mask)) ||| BitVec.ofNat 32 off }
        else s0
      let k := s1.parityKey h word
      let s2 := (s1.setBus fun b => { b with wrote := insertKey word m.rank b.wrote }).parityWritten h.row.id k
      let c := s2.w1c word (off &&& h.row.w1c)
      (0, (s2.keepUndo h.row.id h.i word off c).writeFx m h off c)

/-- What a write gives: the response and the state. -/
def State.write1 (m : Master) (a size v : Nat) (s : State) : Nat × State :=
  let hit := regAt (a - a % 4)
  let r : Nat × State :=
    if a % size ≠ 0 then (0x21, s)
    else match hit with
    | none => (0x23, s)
    | some h =>
      if s.regDisabled h.row.id h.i then (0x24, s)
      else if size < 4 && !h.row.bw then (0x25, s)
      else s.write2 m h a size v
  let s1 := match hit with
    | some h => if h.row.id ≠ .sysTollgate ∧ m ≠ .mgmt ∧ s.tgFields h.row a ≠ 0 then r.2.modWin m closeGate else r.2
    | none => r.2
  (r.1, if r.1 = 0 then s1 else s1.accFault m r.1 a v)

/-! ### Accesses of every width (R132 to R136) -/

/-- A read of `size` bytes: the response, the value and the state. A 64-bit read is two accesses, the lower address first; its
response is the first that is not OK. -/
def State.busRead (m : Master) (a size : Nat) (s : State) : Nat × Nat × State :=
  if size = 8 ∧ a % 8 = 0 then
    let x := s.read1 m a 4
    let y := x.2.2.read1 m (a + 4) 4
    (if x.1 = 0 then y.1 else x.1, x.2.1 + 2 ^ 32 * y.2.1, y.2.2)
  else s.read1 m a size

/-- A write of `size` bytes: the response and the state. -/
def State.busWrite (m : Master) (a size v : Nat) (s : State) : Nat × State :=
  if size = 8 ∧ a % 8 = 0 then
    let x := s.write1 m a 4 (v % 2 ^ 32)
    let y := x.2.write1 m (a + 4) 4 (v / 2 ^ 32)
    (if x.1 = 0 then y.1 else x.1, y.2)
  else s.write1 m a size (v % 2 ^ 32)

/-- A write that a command makes: it needs a master that can make it. -/
def State.regWriteBy (m : Master) (a size v : Nat) (s : State) : State :=
  if s.canAccess m then (s.busWrite m a size v).2 else s

/-- A read that a command makes. -/
def State.regReadBy (m : Master) (a size : Nat) (s : State) : State :=
  if s.canAccess m then (s.busRead m a size).2.2 else s

/-- A write to element `i` of a register table; nothing where the table has no such element. -/
def State.fieldWrite (m : Master) (base n step i v : Nat) (s : State) : State :=
  if i < n then s.regWriteBy m (base + step * i) 4 v else s

end Sys2Proof.Machine
end

