-- ==== Sys2Proof/Machine/StartupActs.lean ====
section
/-! DEFINITION. Start-up, copy selection, commits and duplication (chapter 03). -/

namespace Sys2Proof.Machine

/-! ### Start-up (R93 to R96) -/

/-- The management firmware runs, or the module stays inert (R93, R94); the brown-out latch is read (R78) and the
recorder starts (R531). -/
def State.firmware (ok : Bool) (s : State) : State :=
  if s.power.phase = .startup ∧ s.boot.fwRun = false then
    if ok then
      let lost := s.boot.brownout
      ({ s with boot := { s.boot with fwRun := true, wasBrownout := lost, brownout := false,
                                      rtcValid := s.boot.rtcSet && !lost } } : State).logStart lost
    else { s with power := { s.power with phase := .inert }, boot := { s.boot with fwBad := true } }
  else s

/-- The self-test ends (R93, R95). -/
def State.selftestEnd (ok seOk : Bool) (s : State) : State :=
  if s.power.phase = .startup ∧ s.boot.fwRun = true ∧ s.boot.selftest = none then
    { s with boot := { s.boot with selftest := some ok, seOk := seOk } }
  else s

/-! ### Copy selection (R110 to R113) -/

/-- A candidate: marked, and it passes checks 1 to 6 (R110). -/
def State.candidate (c : StoredCopy) (s : State) : Bool :=
  c.marked && s.store.owner.isSome && checkLength c.bytes && checkFormat c.bytes && checkChain s.ownerRoot c.bytes &&
  checkSignature s.ownerRoot c.bytes && decide (hdrFlevel c.bytes ≤ 3)

def State.copyOf (b : Bool) (s : State) : StoredCopy := if b then s.store.copyB else s.store.copyA

def State.setCopy (b : Bool) (c : StoredCopy) (s : State) : State :=
  if b then { s with store := { s.store with copyB := c } } else { s with store := { s.store with copyA := c } }

def State.setOutcome (code ty : Nat) (s : State) : State :=
  { s with boot := { s.boot with copyDone := true, code := code, ldType := ty } }

/-- SHA-256 of the SAFEBRAKE section, or of an empty string (R468). -/
def safeDigestOf (i : Image) : List Byte := sha256 (lookupD [] 12 i.raw)

/-- The safety core's check of the committed image at start-up (R470). -/
def State.safeCheck (i : Image) (s : State) : Option State :=
  let d := safeDigestOf i
  match s.so.safeDigest with
  | none => some s
  | some x =>
    if d = x then some s
    else if s.so.prevDigest = some d then
      some { s with so := { s.so with
        safeDigest := some d, prevDigest := none
        changes := match s.so.changes with | c :: r => { c with reverted := true } :: r | [] => [] } }
    else none

/-- The selected copy under checks 7 to 12 (R110). -/
def State.checkCopy (b : Bool) (s : State) : State :=
  let c := (s.copyOf b).bytes
  if hdrSeq c < s.store.floor then (s.setOutcome 8 0).record 0x0105 0 0 []
  else
    let s1 : State := { s with store := { s.store with floor := max s.store.floor (hdrSeq c), selected := some b } }
    match checkContent c s1.boot.slot with
    | (0, _, some i) =>
      match s1.safeCheck i with
      | some s2 => ({ s2 with store := { s2.store with loaded := some i } } : State).setOutcome 0 0
      | none => s1.setOutcome 0x0B 12
    | (code, ty, _) => s1.setOutcome code ty

/-- Copy selection (R110). -/
def State.copySelection (s : State) : State :=
  if s.power.phase = .startup ∧ s.boot.selftest = some true ∧ s.boot.copyDone = false then
    let a := s.candidate s.store.copyA
    let b := s.candidate s.store.copyB
    let s1 : State := { s with store := { s.store with candA := a, candB := b, selected := none, loaded := none } }
    let da := imageDigest s.store.copyA.bytes
    let db := imageDigest s.store.copyB.bytes
    if !a && !b then s1.setOutcome (if s.store.owner.isSome then 0x0F else 1) 0
    else if a && b then
      if da = db then s1.checkCopy false
      else if hdrSeq s.store.copyA.bytes = hdrSeq s.store.copyB.bytes then s1.setOutcome 0x0E 0
      else s1.checkCopy (decide (hdrSeq s.store.copyA.bytes < hdrSeq s.store.copyB.bytes))
    else s1.checkCopy b
  else s

/-! ### Start-up ends (R96) -/

/-- Each function takes its units from the committed image. -/
def State.confAll (s : State) : State :=
  ((((((((s.confSeq).confMs).confLoop).confSlv).confFld).confCan).confEth).confUsl).confSo

/-- The role that the committed image gives the module (R96, R479). A module that is prepared for removal has ended its
pair participation, and no start-up from copy selection brings that back (R84, log 114). -/
def State.takeRole (s : State) : State :=
  match s.member with
  | 0 => s
  | m =>
    if m ≠ 3 ∧ s.so.safeLatch = true then s.enterSafe 0xFF
    else if s.panel.eject = .prepared then s.enterIsolated
    else if m = 3 then s.leaveActive .referee false
    else if m = 2 ∧ s.img.pair.single = true then s.enterIsolated
    else s.leaveActive .standby false

/-- The loaded image becomes the committed image (R96, R110, R114, R183, R479). A copy that differs from it, its control
block included, is duplicated over. -/
def State.putInForce (i : Image) (s : State) : State :=
  let s1 : State := { s with store := { s.store with image := some i, loaded := none } }
  let s2 := (s1.barnRestore).confAll
  let b := s2.store.selected == some true
  if s2.copyOf (!b) = s2.copyOf b then s2.takeRole
  else (({ s2 with store := { s2.store with dup := some (!b) } } : State).setCopy (!b) {}).takeRole

/-- Start-up ends with an outcome of R96; the START record carries its code and failing TYPE (log 29). -/
def State.startupEnd (s : State) : State :=
  let fin (c t : Nat) (s : State) : State :=
    let s1 : State := { s with
      power := { s.power with phase := .operating }
      boot := { s.boot with outcome := c, endTick := s.clock }
      snap := { s.snap with lstop := false } }
    s1.record 0x0001 0 0 (leBytes 1 c ++ leBytes 2 t)
  if s.power.phase ≠ .startup ∨ s.boot.fwRun = false then s
  else match s.boot.selftest with
    | none => s
    | some false => fin 0x11 0 s
    | some true =>
      if !s.boot.copyDone then s
      else match s.store.loaded with
        | some i => if s.boot.code = 0 then (fin 0 0 s).putInForce i else fin s.boot.code s.boot.ldType s
        | none => fin s.boot.code s.boot.ldType s

/-! ### Loading, commit and duplication (R114 to R120) -/

/-- An abandoned load is recorded as IMAGE_LOAD (R116, R533). -/
def State.abandonLoad (kind code ty : Nat) (s : State) : State :=
  let n := s.store.stage.data.length
  let s1 : State := { s with store := { s.store with stage := {} } }
  let s2 := s1.record 0x0103 0 0 (leBytes 1 kind ++ leBytes 1 code ++ leBytes 2 ty ++ leBytes 4 n)
  s2.olcAbort 0x36 5

/-- 60 s pass with no accepted IMAGE_DATA (R116). -/
def State.loadTimeout (s : State) : State :=
  if s.store.stage.st = .receiving ∧ s.store.stage.lastData + secTicks 60 ≤ s.clock ∧ s.running = true then s.abandonLoad 2 0 0
  else s

/-- The adoption's transfer is complete (R116, R118). -/
def State.adoptDone (s : State) : State :=
  let g := s.store.stage
  if g.st = .receiving ∧ g.sid = none ∧ g.data.length = g.len then
    { s with store := { s.store with stage := { g with st := .received } } }
  else s

/-- A commit begins (R119): the control block takes IMAGE_DIGEST and SEQ, and the mark write follows. -/
def State.beginCommit (olc : Bool) (s : State) : State :=
  let b := s.stagingB
  let d := s.store.stage.data
  let c : StoredCopy := { bytes := d, digest := imageDigest d, seqNo := hdrSeq d, mark := 0xFFFFFFFF#32 }
  let s1 := s.setCopy b c
  { s1 with store := { s1.store with commit := some (olc, b), stage := { s1.store.stage with st := .empty } } }

/-- The commit mark is written (R119, R120): the floor rises, the commit is recorded and duplication starts. Outside an
online change start-up runs again from copy selection. While a power-fail sequence runs only the mark is completed. -/
def State.commitMark (s : State) : State :=
  match s.store.commit with
  | none => s
  | some (olc, bb) =>
    let c := { s.copyOf bb with mark := 0x5A5AC3C3#32 }
    let s1 := s.setCopy bb c
    match s1.power.phase with
    | .powerFail _ => { s1 with store := { s1.store with commit := none } }
    | _ =>
      let s2 : State := { s1 with store := { s1.store with commit := none, stage := {}, floor := max s1.store.floor c.seqNo } }
      let s3 := s2.record 0x0104 0 0 []
      let s4 := if olc then { s3 with store := { s3.store with selected := some bb } } else s3.restart
      ({ s4 with store := { s4.store with dup := some (!bb) } } : State).setCopy (!bb) {}

/-- Duplication completes (R114): both copies hold the committed image, and A counts as the copy in force. -/
def State.dupDone (s : State) : State :=
  match s.store.dup with
  | none => s
  | some b =>
    if s.operating then
      let s1 := s.setCopy b (s.copyOf (!b))
      ({ s1 with store := { s1.store with dup := none, selected := some false } } : State).record 0x0106 0 0 []
    else s

end Sys2Proof.Machine
end

