-- ==== Sys2Proof/Machine/OlcOps.lean ====
section
/-! DEFINITION. The online change (R185 to R190): what OLC_PREPARE checks, the switch and what carries over. -/

namespace Sys2Proof.Machine

/-! ### What may differ (R185, R186) -/

/-- Functions whose ownership entries may differ. -/
def olcFunc (e : W32) : Bool := ownAssigned e && decide (ownFunc e ∈ [4, 6, 7, 8])

/-- Every ownership entry that differs belongs to SEQ, LOOP, MS or SLV in either image. -/
def ownDiffOk (a b : Image) : Bool :=
  (a.own ++ b.own).all fun p => a.entry p.1 = b.entry p.1 || olcFunc (a.entry p.1) || olcFunc (b.entry p.1)

def rawSec (i : Image) (t : Nat) : Option (List Byte) := (i.raw.find? fun p => decide (p.1 = t)).map (·.2)

/-- The TYPE that OLC_FIXED_CHANGED records: 0 for the header or the ownership map, which are compared first (log 53). -/
def fixedDiff (a b : Image) : Option Nat :=
  if a.diagprof ≠ b.diagprof ∨ !ownDiffOk a b then some 0
  else [1, 3, 8, 9, 10, 11, 12, 13, 14, 15].find? fun t =>
    if t = 3 then decide (a.cycle.base ≠ b.cycle.base) else decide (rawSec a t ≠ rawSec b t)

/-- The first code of R186 that applies to OLC_PREPARE, with its TYPE. -/
def State.olcRefusal (s : State) : Option (Nat × Nat) :=
  match s.store.stage.st, s.store.stage.img with
  | .verified, some n =>
    if n.prevDigest ≠ s.img.digest then some (0x31, 0)
    else match fixedDiff s.img n with
      | some t => some (0x32, t)
      | none =>
        if !s.present then none
        else match s.pair.partner with
          | some h => if h.state = 1 ∧ h.inStep ∧ h.staged ∧ h.stageDigest = n.digest then none else some (0x33, 0)
          | none => none
  | _, _ => some (0x31, 0)

/-! ### States (R187) -/

/-- The partner is present, STANDBY and in step. -/
def State.partnerWith (s : State) : Bool :=
  match s.pair.partner with | some h => !s.pair.silent && decide (h.state = 1) && h.inStep | none => false

/-- The new network is loaded: the change is PREPARED, the response is sent and OLC_PREPARED recorded. -/
def State.olcLoaded (s : State) : State :=
  if s.olc.st = .loading then
    let s1 : State := { s with olc := { s.olc with st := .prepared, t0 := s.clock, img := s.store.stage.img } }
    let s2 : State := { s1 with pair := { s1.pair with olcWith := s1.partnerWith } }
    (s2.answer s.olc.sid s.olc.req 0 []).record 0x0402 0 0 []
  else s

/-- The drain limit: 2 s, or the longest enabled lane period of the old image. -/
def drainLimit (i : Image) : Nat :=
  (i.cycle.lanes.map fun l => if l.enable then l.mult * i.cycle.base else 0).foldl max (secTicks 2)

def State.olcDrain (s : State) : State :=
  if s.olc.st = .draining ∧ s.olc.t0 + drainLimit s.img ≤ s.clock then s.olcAbort 0x35 8 else s

/-- 600 s pass without OLC_SWITCH. -/
def State.olcIdle (s : State) : State :=
  if s.olc.st = .prepared ∧ s.olc.t0 + secTicks 600 ≤ s.clock then s.olcAbort 0x36 7 else s

/-! ### Carry-over (R188, R189) -/

/-- A source reference, with an instance named by its identity. -/
def srcKey (i : Image) (x : InSrc) : InSrc :=
  match x with
  | .out n o => .out (match i.net.insts[n]? with | some j => j.ident | none => 0) o
  | y => y

/-- The source of input `j` differs between the two networks. -/
def rewired (old new : Image) (a b : Inst) (j : Nat) : Bool :=
  decide ((a.ins[j]?).map (fun d => srcKey old d.src) ≠ (b.ins[j]?).map (fun d => srcKey new d.src))

/-- MAVG's values, oldest first, in a ring of another length: the latest of them are kept. -/
def reRing (t n m : Nat) (ks : List W32) : List W32 :=
  let w := typeWords t
  let cnt := wOf ks (n * w)
  let idx := wOf ks (n * w + 1)
  let vals := (List.range n).map fun j => ofWs t ks (j * w)
  let ordered := if cnt < n then vals.take cnt else vals.drop idx ++ vals.take idx
  let keep := ordered.drop (ordered.length - m)
  let pad := keep ++ List.replicate (m - keep.length) 0
  pad.flatMap (toWs t) ++ [w32 keep.length, w32 (keep.length % m)]

/-- Kept state of a signal block as another operand type holds it: each kept value converted as CONV would (R219), the
rest as it is. The spec says that it carries over, not how (DESIGN CHOICE, log 87). -/
def retype (b s t : Nat) (ps : List W32) (ks : List W32) : List W32 :=
  let n := if b = 0x64 then parW ps 0 else 1
  ((List.range n).flatMap fun j => toWs t (convT s t (ofWs s ks (j * typeWords s))).1) ++ ks.drop (n * typeWords s)

/-- An instance of the new network as the switch leaves it. -/
def State.carryInst (old : Image) (kept : List InstSt) (i : Inst) (s : State) : InstSt :=
  match old.net.insts.findIdx? fun o => decide (o.ident = i.ident) with
  | none => s.startInst i
  | some n =>
    match old.net.insts[n]?, kept[n]? with
    | some o, some k =>
      if o.btype = i.btype then
        let k0 := if 0x60 ≤ i.btype ∧ i.btype < 0x65 ∧ o.dtype ≠ i.dtype then retype i.btype o.dtype i.dtype o.params k.ks else k.ks
        let ks := if i.btype = 0x64 ∧ parW o.params 0 ≠ parW i.params 0 then reRing i.dtype (parW o.params 0) (parW i.params 0) k0
          else k0
        let outs := (List.zip (List.zip (instSig o).outs (instSig i).outs) k.outs).map fun x =>
          if x.1.1 = x.1.2 then x.2 else (BitVec.ofNat 64 (convT x.1.1 x.1.2 x.2.1.toNat).1, x.2.2)
        { k with ks := ks, outs := outs, rewire := k.rewire || rewired old s.img o i 0, rewireB := k.rewireB || rewired old s.img o i 1 }
      else s.startInst i
    | _, _ => s.startInst i

/-! ### The switch (R190, R504) -/

/-- The new image is in force: a slot whose entry differs starts anew, and a force on a slot that the new image does not
assign is released (R185, R187). -/
def State.olcImage (n : Image) (s : State) : State :=
  { s with
    store := { s.store with image := some n }
    slots := s.slots.filter fun p => decide (s.img.entry p.1 = n.entry p.1)
    forces := s.forces.filter fun p => ownAssigned (n.entry p.1) }

/-- The new image comes into force in this tick. -/
def State.olcApply (n : Image) (s : State) : State :=
  let old := s.img
  let s2 := (s.beginCommit true).olcImage n
  let s3 : State := { s2 with seq := { s2.seq with
    insts := n.net.insts.map fun i => s2.carryInst old s.seq.insts i
    lanes := s2.seq.lanes.map fun l => if l.deferred then { l with deferred := false, restart := true } else l } }
  let s4 := ((s3.switchLoop old).switchMs old).switchSlv old
  { s4 with olc := { tsTick := some s.clock } }

/-- The switch at a harvest tick of the active (R187, R190, R504). -/
def State.olcSwitchNow (s : State) : State :=
  match s.olc.img with
  | some n =>
    let s1 := s.olcApply n
    (s1.record 0x0403 0 0 (leBytes 8 s.seq.h ++ leBytes 4 n.seqNo)).sendBoth (.notice 4 0 s.seq.h)
  | none => s

/-- A SWITCH notice on a STANDBY whose staging copy is VERIFIED for the committed image: it is in force as of
harvest `ts`, which OLC_SWITCH records (R190, R504). -/
def State.switchNotice (ts : Nat) (s : State) : State :=
  match s.mode, s.store.stage.st, s.store.stage.img with
  | .standby, .verified, some n =>
    if n.prevDigest = s.img.digest then (s.olcApply n).record 0x0403 0 0 (leBytes 8 ts ++ leBytes 4 n.seqNo) else s
  | _, _, _ => s

end Sys2Proof.Machine
end

