-- ==== Sys2Proof/Machine/CycleActs.lean ====
section
/-! DEFINITION. The program cycle (chapter 05) and the evaluation of the block network (chapter 06): harvest, passes,
window end, deliver. -/

namespace Sys2Proof.Machine

/-! ### Reading inputs (R192, R198, R199, R201) -/

/-- The outputs that a lane's instances bind to a slot, with their qualities and whether they have been evaluated. -/
def boundOuts (i : Image) (k : Nat) (xs : List InstSt) (slot : Nat) : List (Byte × Bool) :=
  (List.zip (laneInsts i k) xs).flatMap fun q =>
    (List.zip q.1.binds (List.range q.1.binds.length)).filterMap fun b =>
      match b.1 with
      | some r =>
        if r.slot = slot ∨ (r.wide = true ∧ r.slot + 1 = slot) then some ((q.2.outs.getD b.2 (0, 0)).2, q.2.pub) else none
      | none => none

/-- The quality of a slot from its bound outputs (R199). -/
def boundQ (outs : List (Byte × Bool)) : Byte :=
  mkQ (lowest (outs.map fun o => qState o.1)) (outs.any fun o => qSubst o.1) false false

/-- A slot of a lane from its value and its bound outputs; never published, it reads 0 and 00h (R198). -/
def laneSlot (v : W32) (outs : List (Byte × Bool)) : Cell := if outs.any (·.2) then (v, boundQ outs) else (0, 0)

/-- A slot as a pass of lane `k` reads it (R198): its own lane's slots as the pass has them, another lane's as published
before the pass's harvest tick, any other from the harvest view. -/
def State.laneCell (k : Nat) (p : Pass) (slot : Nat) (s : State) : Cell :=
  match s.forces.find? fun f => decide (f.1 = slot) with
  | some f => f.2
  | none =>
    let e := s.entry slot
    let j := ownUnit e
    if ownAssigned e && decide (ownFunc e = 4) then
      if j = k then laneSlot (lookupD (s.ownSlot slot).1 slot p.wslots) (boundOuts s.img k p.cur slot)
      else laneSlot (SlotMap.get p.pslots slot).1 (boundOuts s.img j (p.pubs.drop (laneStart s.img j)) slot)
    else SlotMap.get (p.view.getD s.visible) slot

/-- A raw value taken as a type: a BOOL is TRUE when not zero; a narrow type takes the low bits (R192). -/
def asType (t v : Nat) : Nat := if t = 1 then b2n (decide (v ≠ 0)) else v % 2 ^ typeBits t

/-- An output of an instance: as this pass has it in its own lane, as last published before the harvest tick elsewhere. -/
def State.laneOut (k : Nat) (p : Pass) (n o : Nat) (s : State) : W64 × Byte :=
  let st := laneStart s.img k
  let x := if st ≤ n ∧ n < st + p.cur.length then p.cur[n - st]? else p.pubs[n]?
  match x with | some y => y.outs.getD o (0, 0) | none => (0, 0)

def State.readInput (k : Nat) (p : Pass) (t : Nat) (d : InDesc) (s : State) : BIn :=
  let x : Nat × Byte := match d.src with
    | .slot r => let v := r.read fun i => s.laneCell k p i; (asType t v.1.toNat, v.2)
    | .out n o => let v := s.laneOut k p n o; (v.1.toNat, v.2)
    | .const c => (asType t (ofWs t s.img.net.consts c), qGood)
  { v := if d.inv then 1 - x.1 else x.1, q := if d.ignq then qGood else x.2 }

def State.readInputs (k : Nat) (p : Pass) (i : Inst) (s : State) : List BIn :=
  (List.zip (instSig i).ins i.ins).map fun q => s.readInput k p q.1 q.2

/-! ### Blocks that reach the module (R225 to R227) -/

/-- What a link block does beside its outputs. -/
structure LinkFx where
  res : BRes
  chk : Bool := false
  event : Option UserEvent := none
  deriving DecidableEq, Repr

/-- ST of a link block: 80h where it makes no access; always GOOD. -/
def stOut (code : Nat) : BOut := { v := code, st := 3 }

def State.evalLink (i : Inst) (ins : List BIn) (k : InstSt) (s : State) : LinkFx × State :=
  let en := (inN ins 0).b
  let prev := if k.rewire then en else decide (wOf k.ks 0 ≠ 0)
  let keep : W64 × Byte := k.outs.getD 0 (0, 0)
  let a := parW i.params 0
  match i.btype with
  | 0x70 =>
    if en then
      let r := s.busRead .seq a 4
      ({ res := { outs := [{ v := r.2.1, st := if r.1 = 0 then 3 else 0 }, stOut r.1], ks := [w32 r.2.1, w32 r.1] } }, r.2.2)
    else ({ res := { outs := [{ v := keep.1.toNat, st := qState keep.2 }, stOut 0x80], ks := [w32 keep.1.toNat, w32 0x80] } }, s)
  | 0x71 =>
    if en then
      let r := s.busRead .seq a 8
      ({ res := { outs := [{ v := r.2.1, st := if r.1 = 0 then 3 else 0 }, stOut r.1], ks := toW64 r.2.1 ++ [w32 r.1] } }, r.2.2)
    else ({ res := { outs := [{ v := keep.1.toNat, st := qState keep.2 }, stOut 0x80], ks := toW64 keep.1.toNat ++ [w32 0x80] } }, s)
  | 0x72 =>
    let v := inN ins 1
    if en && (decide (parW i.params 1 = 0) || !prev) && decide ((inN ins 0).st ≠ 0 ∧ v.st ≠ 0) then
      let r := s.busWrite .seq a 4 v.v
      ({ res := { outs := [stOut r.1], ks := [w32 (b2n en)] } }, r.2)
    else ({ res := { outs := [stOut 0x80], ks := [w32 (b2n en)] } }, s)
  | 0x73 =>
    let rise := en && !prev
    ({ res := { outs := [{ v := b2n rise, st := 3 }], ks := [w32 (b2n en)] }, chk := rise }, s)
  | _ =>
    let rise := en && !prev
    ({ res := { outs := [], ks := [w32 (b2n en)] }
       event := if rise then some { ident := i.ident, code := a, v := BitVec.ofNat 32 (inN ins 1).v } else none }, s)

/-! ### One evaluation (R199, R204, R205) -/

/-- A value written into a slot: SINT and INT are sign-extended into a whole slot (R192). -/
def bindValue (t : Nat) (r : SlotRef) (v : Nat) : Nat :=
  if (t = 2 ∨ t = 3) ∧ r.widthM1 = 31 ∧ r.wide = false then ofSigned 32 (toSigned (typeBits t) v) else v

/-- The slot values of a pass with one output's binding written. -/
def State.bindOut (r : SlotRef) (v : Nat) (ws : List (Nat × W32)) (s : State) : List (Nat × W32) :=
  if r.wide then insertKey (r.slot + 1) (BitVec.ofNat 32 (v / 2 ^ 32)) (insertKey r.slot (BitVec.ofNat 32 v) ws)
  else insertKey r.slot (r.put (lookupD (s.ownSlot r.slot).1 r.slot ws) v) ws

def State.bindOuts (i : Inst) (k : InstSt) (ws : List (Nat × W32)) (s : State) : List (Nat × W32) :=
  (List.zip (List.zip (instSig i).outs i.binds) k.outs).foldl (fun ws q =>
    match q.1.2 with
    | some r => s.bindOut r (bindValue q.1.1 r q.2.1.toNat) ws
    | none => ws) ws

/-- The lowest-numbered lane with an unfinished pass (R157). -/
def State.curLane (s : State) : Option Nat := (List.range 4).find? fun k => (s.lane k).unfinished

/-- Only L0 runs on past a window end (R162, R163). -/
def State.onlyL0 (s : State) : Bool := s.seq.skip || s.seq.skipped

/-- A pass whose every instance has been evaluated ends when it is taken up (R157, R165). -/
def State.endPass (k : Nat) (s : State) : State :=
  match (s.lane k).pass with
  | some p =>
    if !p.ended && decide (s.curLane = some k) && decide ((laneInsts s.img k).length ≤ p.next) && (k == 0 || !s.onlyL0) then
      s.modLane k fun l => { l with pass := some { p with ended := true }, ovrCons := if p.ovr then l.ovrCons else 0 }
    else s
  | none => s

/-- Passes that are complete end; evaluation stops where nothing is left to evaluate (R157, R163). -/
def State.settle (s : State) : State :=
  if !s.seq.eval then s
  else
    let s1 := (((s.endPass 0).endPass 1).endPass 2).endPass 3
    if s1.curLane = none ∨ (s1.onlyL0 = true ∧ (s1.lane 0).unfinished = false) then
      { s1 with seq := { s1.seq with eval := false, deliver := some s1.clock } }
    else s1

/-- The next block in the order of R157 and R204 is evaluated. -/
def State.evalBlock (s : State) : State :=
  match s.curLane with
  | none => s
  | some k =>
    if k ≠ 0 ∧ s.onlyL0 = true then s
    else match (s.lane k).pass with
    | none => s
    | some p =>
      match (laneInsts s.img k)[p.next]?, p.cur[p.next]? with
      | some i, some x =>
        let ins := s.readInputs k p i
        let c := laneCfg s.img k
        let r : LinkFx × State :=
          if 0x70 ≤ i.btype ∧ i.btype < 0x75 then s.evalLink i ins x
          else ({ res := evalPure i p.h p.htick p.htime (c.mult * s.img.cycle.base) ins x }, s)
        let y := x.after i r.1.res
        let s1 := r.2
        let p1 : Pass := { p with
          cur := p.cur.set p.next y, next := p.next + 1, wslots := s1.bindOuts i y p.wslots
          chk := p.chk || r.1.chk, events := p.events ++ r.1.event.toList }
        if (s1.lane k).pass.isSome then (s1.modLane k fun l => { l with pass := some p1 }).settle else s1
      | _, _ => s.settle

/-- A SEQ fault with its CAUSE (R165, R206). -/
def State.seqFault (c : Nat) (s : State) : State := (s.setCause 4 none c).funcFault 4 c 0

/-- BLOCK_EVALUATE: the block's writes are compared between the sequencers (R23, R206). -/
def State.blockEvaluate (agree : Bool) (s : State) : State :=
  if !s.isActive || !s.seq.eval || s.seq.hold then s
  else if agree then s.evalBlock else s.seqFault 1

/-- Evaluation of the cycle begins, between 200 and 400 ticks after the harvest tick (R47, R157). -/
def State.evalBegin (s : State) : State :=
  if s.isActive && s.seq.due && !s.seq.hold && decide (s.seq.htick + 200 ≤ s.tick) then
    ({ s with seq := { s.seq with due := false, eval := true } } : State).settle
  else s

/-! ### Overruns (R162 to R165) -/

/-- Lane `k` overruns; `h` is the harvest number of the overrun (R533). -/
def State.overrun (k h : Nat) (s : State) : State :=
  let n := (s.lane k).ovrCons + 1
  let s1 := s.modLane k fun l =>
    { l with ovrCons := n, ovrTotal := satInc 65535 l.ovrTotal, ovrH := h, pass := l.pass.map fun p => { p with ovr := true } }
  if s.img.cycle.ovrLimit ≤ n then s1.seqFault 2
  else s1.record 0x0401 k 0 (leBytes 1 k ++ leBytes 1 n ++ leBytes 8 h)

/-- The window ends 8,000 ticks before the next harvest tick (R157, R162). -/
def State.windowEnd (s : State) : State :=
  let base := s.img.cycle.base
  if !s.isActive || !s.seq.begun || s.seq.skip || s.seq.hold || decide (s.clock < s.seq.tg) ||
      decide ((s.clock + 8000 - s.seq.tg) % base ≠ 0) then s
  else if (s.lane 0).unfinished then
    let s1 := s.overrun 0 (s.hnow + 1)
    if s1.seq.hold || !s1.isActive then s1 else { s1 with seq := { s1.seq with skip := true } }
  else if s.seq.eval then { s with seq := { s.seq with eval := false, deliver := some s.clock } }
  else s

/-! ### Harvest (R154 to R164) -/

/-- A lane begins a pass of the present harvest. -/
def State.beginPass (k : Nat) (s : State) : State :=
  let p : Pass := {
    h := s.seq.h, htick := s.seq.htick, htime := s.seq.htime, pubs := s.seq.insts, pslots := s.slots
    cur := s.laneKept k }
  let s1 := s.modLane k fun l => { l with pass := some p, deferred := false, restart := false }
  { s1 with seq := { s1.seq with fault := false } }

/-- What a harvest tick, not skipped, does to lane `k` (R155, R156, R164, R166, R187). -/
def State.laneHarvest (k : Nat) (s : State) : State :=
  let c := laneCfg s.img k
  let l := s.lane k
  let due := c.enable && decide (s.seq.h % c.mult = c.offset)
  let defer := decide (s.olc.st = .draining ∧ k ≠ 0)
  if l.pass.isSome then
    if !(due && l.unfinished) then s
    else if defer then s.modLane k fun l => { l with deferred := true }
    else s.overrun k s.seq.h
  else if !(due || (l.restart && c.enable)) then s
  else if defer then s.modLane k fun l => { l with deferred := true }
  else s.beginPass k

/-- A lane is looked at while no SEQ fault stands. -/
def State.laneLook (s : State) (k : Nat) : State := if s.seq.hold || !s.isActive then s else s.laneHarvest k

/-- The tick is a harvest tick of the grid that has not been taken yet (R154). -/
def State.harvestDue (s : State) : Bool :=
  s.isActive && decide (s.seq.tg ≤ s.clock) && decide ((s.clock - s.seq.tg) % s.img.cycle.base = 0) &&
  !(s.seq.begun && decide (s.seq.htick = s.tick))

/-- The numbers that a harvest tick latches. -/
def State.harvestLatch (s : State) : State :=
  { s with seq := { s.seq with
    h := s.seq.h0 + (s.clock - s.seq.tg) / s.img.cycle.base, htick := s.tick, htime := s.ns, begun := true
    hp := if s.seq.skip then s.seq.hp else s.seq.h0 + (s.clock - s.seq.tg) / s.img.cycle.base
    skipped := s.seq.skip, skip := false } }

/-- A harvest tick: its numbers are latched and the decided solutions published (R43, R154). The rest is settled at the end of
the tick, so that what else commits in it counts (R17, R45, R159). -/
def State.harvest (s : State) : State :=
  if !s.harvestDue then s
  else
    let s1 := s.harvestLatch.slvDecided (s.seq.h0 + (s.clock - s.seq.tg) / s.img.cycle.base)
    { s1 with expiring := s1.expiring ++ [.harvest] }

/-- A harvest tick has been taken in this tick. -/
def State.inHarvest (s : State) : Bool := s.isActive && s.seq.begun && decide (s.seq.htick = s.tick)

/-- A solution accepted in a harvest tick is published at that harvest (R43, R45). -/
def State.slvAccepted (s : State) : State := if s.inHarvest then s.slvDecided s.seq.h else s

/-- The end of a harvest tick: the misses of remote stations, the publications that its deadline decides, an online change's
switch, the period starts, and the passes that begin on its view (R156, R159, R169 to R171, R190, R315, R350). -/
def State.harvestEnd (s : State) : State :=
  if !s.inHarvest then s
  else
    let h := s.seq.h
    let s2 := ((List.range 5).foldl (fun s ch => s.rioJudge ch h) s).slvPubs h
    let idle := s2.seq.lanes.all fun l => !l.unfinished
    let s3 := if s2.olc.st = .draining ∧ s2.seq.skipped = false ∧ idle = true then s2.olcSwitchNow else s2
    let s4 := (s3.msHarvest).slvStarts h
    if s4.seq.skipped || s4.seq.hold || !s4.isActive then s4
    else
      let s5 := (List.range 4).foldl State.laneLook s4
      if s5.seq.hold || !s5.isActive then s5 else { s5 with seq := { s5.seq with due := true } }

/-! ### Deliver (R158, R160, R199, R227) -/

/-- The slots that a pass publishes, with their qualities (R199). -/
def passSlots (i : Image) (k : Nat) (p : Pass) : List (Nat × Cell) :=
  p.wslots.map fun w => (w.1, (w.2, boundQ (boundOuts i k p.cur w.1)))

/-- The publication of an ended pass. -/
def State.publish (k : Nat) (s : State) : State :=
  match (s.lane k).pass with
  | none => s
  | some p =>
    if !p.ended then s
    else
      let st := laneStart s.img k
      let s1 := (passSlots s.img k p).foldl (fun s w => s.writeSlot w.1 w.2.1 w.2.2) s
      let cost := laneCost s.img.net.insts k
      let s2 : State := { s1 with seq := { s1.seq with insts := s1.seq.insts.take st ++ p.cur ++ s1.seq.insts.drop (st + p.cur.length) } }
      let s3 := s2.modLane k fun l => { l with pass := none, passes := (l.passes + 1) % 2 ^ 64, cost := cost, peak := max l.peak cost }
      let s4 := (List.zip p.events (List.range p.events.length)).foldl (fun s e =>
        s.record 0x0406 k e.2 (leBytes 2 e.1.code ++ leBytes 4 e.1.v.toNat ++ leBytes 4 e.1.ident ++ leBytes 2 p.h)) s3
      if p.chk then s4.requestCheckpoint else s4

/-- The deliver tick (R158, R160): publications, the SEQ tollgate's closing (R129), outputs, and a checkpoint that waits
(R180). `disagree` are the slots on which the safety core's comparison fails (R26). -/
def State.deliverNow (disagree : List Nat) (s : State) : State :=
  match s.seq.deliver with
  | none => s
  | some te =>
    if !s.isActive || decide (s.clock ≤ te) then s
    else
      let s0 : State := { s with seqm := closeGate s.seqm, seq := { s.seq with deliver := none, mirror := true } }
      let s1 := (List.range 4).foldl (fun s k => s.publish k) s0
      let s2 := (((s1.deliverSo disagree).deliverCan).deliverEth).deliverUsl disagree
      if s2.barn.req = .await then (if s2.maySave then s2.snapshot 2 else { s2 with barn := { s2.barn with req := .none } }) else s2

/-! ### Commands -/

end Sys2Proof.Machine
end

