-- ==== Sys2Proof/Machine/RegActs.lean ====
section
/-! DEFINITION. The commands that are accesses of the register bus, and the bus's own events (chapter 04). -/

namespace Sys2Proof.Machine

/-- A master's tollgate closes 1 ms after its opening write (R129). -/
def State.gateExpire (m : Master) (s : State) : State :=
  s.modWin m fun w => match w.tgOpen with
    | some t => if t + msTicks 1 ≤ s.clock then closeGate w else w
    | none => w

/-- A lockout of 1 s ends and the count returns to zero (R131). -/
def State.lockoutEnd (m : Master) (s : State) : State :=
  s.modWin m fun w => match w.tgLock with
    | some t => if t + secTicks 1 ≤ s.clock then { w with tgLock := none, tgFails := 0 } else w
    | none => w

/-- A configuration register's parity fails and the scan or a read detects it (R142, R143). A coefficient word may be
named by its own number (R310). -/
def State.parityFail (addr : Nat) (s : State) : State :=
  let hit (k : Nat) : State := ({ s with bus := { s.bus with parity := if k ∈ s.bus.parity then s.bus.parity else k :: s.bus.parity } } :
    State).parityDetect k
  if !s.running then s
  else if 0x10000 ≤ addr ∧ addr < 0x10000 + 160 * 64 then hit addr
  else match regAt addr with
    | some h => if h.row.img ≠ 0 ∧ addr < 0x10000 then hit (s.parityKey h addr) else s
    | none => s

/-! ### Writes that have rows of their own -/

end Sys2Proof.Machine
end

