-- ==== Sys2Proof/Machine/Frames.lean ====
section
/-! DEFINITION. The bytes of the pair link's frames (R484, R485, R489, R506) and of the referee bus's (R493, R494). -/

namespace Sys2Proof

open Sys2Proof.Machine

/-- The 104 bytes of a HELLO payload (R485). -/
def Hello.payload (h : Hello) : List Byte :=
  leBytes 1 h.member ++ leBytes 1 h.state ++ leBytes 1 h.key ++ leBytes 1 h.flevel ++
  leBytes 2 (b2n h.inStep + 2 * b2n h.eligible + 4 * b2n h.owning + 8 * h.olc + 32 * b2n h.swapFail + 64 * b2n h.refOk +
    128 * b2n h.staged) ++ [0, 0] ++
  leBytes 8 h.h ++ leBytes 4 h.hofs ++ leBytes 4 h.dwell ++ leBytes 8 h.txTick ++ leBytes 8 h.echo ++ h.digest ++ h.stageDigest

/-- Four STATE codes to the byte, lowest slot in bits [1:0] (R489). -/
def statePack : List Nat → List Byte
  | a :: b :: c :: d :: r => leBytes 1 (a + 4 * b + 16 * c + 64 * d) ++ statePack r
  | _ => []

/-- A MIRROR payload (R489). -/
def MirrorMsg.payload (m : MirrorMsg) : List Byte :=
  leBytes 8 m.h ++ leBytes 2 m.first ++ leBytes 2 m.values.length ++ m.values.flatMap (fun v => leBytes 4 v.toNat) ++ statePack m.states

/-- The 24 bytes of a STATUS payload (R494). -/
def StatusMsg.payload (m : StatusMsg) : List Byte :=
  leBytes 1 m.member ++ leBytes 1 m.state ++ leBytes 1 m.key ++
  leBytes 1 (b2n m.healthy + 2 * b2n m.eligible + 4 * b2n m.inStep + 8 * b2n m.linkOk + 16 * b2n m.req + 32 * b2n m.relinq +
    64 * b2n m.safe) ++
  leBytes 8 m.h ++ m.digest8 ++ leBytes 4 m.round

/-- The 12 bytes of a ROUND payload (R494). -/
def RoundMsg.payload (m : RoundMsg) : List Byte :=
  leBytes 4 m.round ++ leBytes 1 m.owner ++ leBytes 1 m.verdictA ++ leBytes 1 m.verdictB ++ [0, 0, 0, 0, 0]

end Sys2Proof

namespace Sys2Proof.Machine

def withCrc (bs : List Byte) : List Byte := bs ++ leBytes 4 (crc32 bs).toNat

/-- A frame of the referee bus (R493): TYPE 1 ROUND, 2 STATUS. -/
def xroadsFrame (type : Nat) (p : List Byte) : List Byte := withCrc (leBytes 1 type ++ leBytes 1 p.length ++ p)

/-- TYPE of a link frame (R484). -/
def LinkMsg.type (m : LinkMsg) : Nat :=
  match m with
  | .hello _ => 1 | .mirror _ => 2 | .shadow _ => 3 | .notice _ _ _ => 4 | .imgReq => 5 | .imgData _ _ => 6

/-- The payload bytes of a link frame where the spec lays them out: those of SHADOW, IMGREQ and IMGDATA it leaves open
(log 110). -/
def LinkMsg.payload (m : LinkMsg) : Option (List Byte) :=
  match m with
  | .hello h => some h.payload
  | .mirror m => some m.payload
  | .notice code cause h => some (leBytes 1 code ++ leBytes 1 cause ++ [0, 0] ++ leBytes 8 h)
  | _ => none

/-- The bytes of a link frame between K27.7 and K29.7 (R484). -/
def LinkMsg.frame (fseq : Nat) (m : LinkMsg) : Option (List Byte) :=
  m.payload.map fun p => withCrc (leBytes 1 m.type ++ [0] ++ leBytes 2 p.length ++ leBytes 4 fseq ++ p)

end Sys2Proof.Machine

namespace Sys2Proof

open Sys2Proof.Machine

def StatusMsg.frame (m : StatusMsg) : List Byte := xroadsFrame 2 m.payload

def RoundMsg.frame (m : RoundMsg) : List Byte := xroadsFrame 1 m.payload

end Sys2Proof
end

