-- ==== Sys2Proof/Machine/PairActs.lean ====
section
/-! DEFINITION. The pair link, the mirror, shadows, the Crossroads, takeover, hand-over and swap test (chapter 15). -/

namespace Sys2Proof.Machine

/-! ### HELLO and lanes (R485 to R488) -/

/-- The latest harvest number of this module's grid and the ticks since it (R485): its own while ACTIVE, else the
shadow grid. -/
def State.gridNow (s : State) : Nat × Nat :=
  let b := s.img.cycle.base
  if s.mode = .active then (s.hAt s.clock, (s.clock - s.seq.tg) % b)
  else match s.pair.grid with
    | some (t, h) => (h + (s.clock - t) / b, (s.clock - t) % b)
    | none => (0, 0)

/-- DWELL as its 4 bytes hold it; the n-th free value where the ticks do not fit. -/
def dwellOf (t n : Nat) : Nat := if t < 2 ^ 32 then t else (Config.freeW32 n).toNat

/-- The HELLO that a member sends (R485). DWELL has 4 bytes: what a greater number of ticks leaves there the spec does not
say, and it is free (log 117). -/
def State.helloNow (s : State) : Hello :=
  let g := s.gridNow
  let p := s.pair.partner
  { member := s.member, state := s.mode.code, key := s.panel.key.code, flevel := 3, inStep := s.inStep
    eligible := s.eligible, owning := s.pair.drive
    olc := match s.olc.st with | .prepared => 1 | .draining => 2 | _ => 0
    swapFail := s.pair.swapFail, refOk := s.pair.refOk, staged := decide (s.store.stage.st = .verified)
    h := g.1, hofs := g.2, dwell := if p.isSome then dwellOf (s.clock - s.pair.rxTick) s.freeCtr else 0, txTick := s.tick
    echo := match p with | some h => h.txTick | none => 0
    digest := s.img.digest, stageDigest := s.stageDigest }

/-- A member sends a HELLO on each lane (R486). -/
def State.sendHello (s : State) : State :=
  if s.participates && s.isMember then
    let s1 := s.sendBoth (.hello s.helloNow)
    if s.pair.partner.isSome ∧ 2 ^ 32 ≤ s.clock - s.pair.rxTick then { s1 with freeCtr := s1.freeCtr + 1 } else s1
  else s

/-- A valid frame arrives on a lane: the lane is up (R486). -/
def State.laneUp (lane : Nat) (s : State) : State :=
  if lane = 0 then { s with pair := { s.pair with lane0 := true, rx0 := s.clock } }
  else { s with pair := { s.pair with lane1 := true, rx1 := s.clock } }

/-- The shadow grid follows an ACTIVE partner's HELLO (R487); `latency` is kept in half ticks. -/
def State.alignGrid (h : Hello) (s : State) : State :=
  if h.state = 2 ∧ (s.mode = .standby ∨ s.mode = .isolated) ∧ h.echo ≠ 0 then
    let x := s.tick - h.echo - h.dwell
    let t := s.clock - x / 2 - h.hofs
    let al : Int := match s.pair.grid with
      | some (t0, h0) => (t : Int) - ((t0 : Int) + ((h.h : Int) - h0) * s.img.cycle.base)
      | none => 0
    { s with pair := { s.pair with grid := some (t, h.h), latency := x, align := al } }
  else s

/-- This member is the PREFERRED one (R107). -/
def State.preferred (s : State) : Bool := decide (s.img.station.preferred + 1 = s.member)

/-- The count of REVERT_DELAY (R501): it runs while the PREFERRED partner is STANDBY and ELIGIBLE, and is suspended
during a swap test's dwell and an online change. -/
def State.countRevert (prev : Nat) (s : State) : State :=
  if s.mode = .active ∧ s.img.pair.revert = true ∧ s.preferred = false ∧ s.partnerReady = true then
    let r := match s.pair.revertSince with
      | none => s.clock
      | some t => if s.pair.swapRun.isSome || s.olc.st ≠ .none then t + (s.clock - prev) else t
    { s with pair := { s.pair with revertSince := some r } }
  else { s with pair := { s.pair with revertSince := none } }

/-- No owner, and the referee is absent (R497); a SAFE partner still owns (R495, R506). -/
def State.noOwner (s : State) : Bool :=
  decide (s.mode = .standby) && s.present && s.pair.digEq && decide (s.pstate ≠ 2 ∧ s.pstate ≠ 6) && s.pair.refLost

def State.countElect (s : State) : State :=
  { s with pair := { s.pair with electSince :=
      if s.noOwner then (match s.pair.electSince with | some t => some t | none => some s.clock) else none } }

/-- The partner's HELLO does not meet R488 (R488, R497). -/
def State.imageDiff (s : State) : State :=
  let s1 : State := { s with pair := { s.pair with digEq := false, formed := none } }
  let s2 := if s1.pair.diffRec then s1
    else (({ s1 with pair := { s1.pair with diffRec := true } } : State).pairEvt 0x40).record 0x0302 0 0 []
  if s2.mode = .standby then s2.enterIsolated else s2

/-- The partner's HELLO meets R488: the pair forms, or stays formed, while the partner receives this member's HELLOs too. -/
def State.pairMeets (h : Hello) (s : State) : State :=
  if s.hears h = false then { s with pair := { s.pair with digEq := true, diffRec := false, formed := none } }
  else match s.pair.formed with
  | some _ => { s with pair := { s.pair with digEq := true, diffRec := false } }
  | none =>
    { s with pair := { s.pair with
        digEq := true, diffRec := false, formed := some s.clock, gotReg := false, gotSlv := false, shLost := false, mirH := none
        safetyH := none, stationH := none, swapDue := s.clock + secTicks (3600 * s.img.pair.swapInterval), swapPost := false } }

/-- An online change ends when the partner leaves STANDBY or step (R187): one that has been there since OLC_PREPARE. -/
def State.olcPartner (h : Hello) (s : State) : State :=
  if s.olc.st = .none then s
  else if h.state = 1 ∧ h.inStep = true then { s with pair := { s.pair with olcWith := true } }
  else if s.mode = .active ∧ s.pair.olcWith = true then s.olcAbort 0x36 4 else s

/-- A valid HELLO arrives (R486 to R488, R187, R500, R501). -/
def State.helloIn (lane : Nat) (h : Hello) (s : State) : State :=
  if !s.operating then s
  else
    let was := s.pair.silent
    let prev := s.pair.rxTick
    let s1 : State := s.laneUp lane
    let left := match s1.pair.partner with | some p => decide (p.olc ≠ 0 ∧ h.olc = 0) | none => false
    let s2 : State := { s1 with pair := { s1.pair with
      partner := some h, silent := false, rxTick := s1.clock, reqFlag := false
      olcEnd := if left then s1.clock + msTicks 10 else s1.pair.olcEnd } }
    if !s2.inPair then s2
    else
      let s3 : State := if s2.meets h then s2.pairMeets h else s2.imageDiff
      let s4 : State := (s3.alignGrid h).countRevert prev
      let s5 : State := if was ∧ s4.mode = .safe then s4.sendBoth (.notice 5 0 s4.hnow) else s4
      let s6 := s5.olcPartner h
      let s7 : State := match s6.pair.ho with
        | some ho => if s6.mode = ModState.active ∧ s6.partnerReady = false then s6.refuseHandover ho.kind else s6
        | none => s6
      s7.countElect

/-- A valid frame of any type arrives on a lane of an operating member (R486). -/
def State.linkIn (lane : Nat) (s : State) : State := if s.operating then s.laneUp lane else s

/-- No valid frame has arrived on a lane for 200 µs (R486). -/
def State.laneDown (lane : Nat) (s : State) : State :=
  let up := if lane = 0 then s.pair.lane0 else s.pair.lane1
  let rx := if lane = 0 then s.pair.rx0 else s.pair.rx1
  if s.operating && s.isMember && decide (lane < 2) && (up || rx == 0) && decide (max rx s.boot.endTick + usTicks 200 ≤ s.clock) then
    let s1 : State := if lane = 0 then { s with pair := { s.pair with lane0 := false, rx0 := s.clock } }
      else { s with pair := { s.pair with lane1 := false, rx1 := s.clock } }
    (s1.pairEvt 2).record 0x0301 0 lane (leBytes 1 lane)
  else s

/-- PAIR_ISOLATED (R497); the cause byte is 1 for a verdict, 2 for silence without a referee (log 30). -/
def State.isolate (cause : Nat) (s : State) : State := (s.enterIsolated).record 0x0303 0 0 (leBytes 1 cause)

/-- No valid HELLO for PL_TIMEOUT: the partner becomes silent (R486); R497 says what that does to a member of a pair
(log 69: R486 holds for the one member of a MODE 1 image too). -/
def State.partnerSilent (s : State) : State :=
  if s.operating && s.isMember && (!s.pair.silent || (s.pair.partner.isNone && s.pair.rxTick == 0)) &&
      decide (max s.pair.rxTick s.boot.endTick + s.img.pair.plTimeout ≤ s.clock) then
    let s0 := s.pairEvt 1
    let s1 : State := { s0 with pair := { s0.pair with
      silent := true, formed := none, digEq := false, electSince := none, revertSince := none
      rxTick := if s.pair.partner.isNone then s.clock else s.pair.rxTick
      reqFlag := decide (s.mode = .standby) } }
    if !s1.inPair then s1 else match s1.mode with
    | .active =>
      let s2 := if s1.pair.olcWith then (s1.record 0x0305 0 0 []).olcAbort 0x36 4 else s1.record 0x0305 0 0 []
      match s2.pair.ho with | some ho => s2.refuseHandover ho.kind | none => s2
    | .standby => if s1.pair.refLost then s1.isolate 2 else s1
    | _ => s1
  else s

/-- An ISOLATED member whose pair has stood for 100 ms returns to STANDBY (R497). -/
def State.pairFormed (s : State) : State :=
  match s.pair.formed with
  | some t =>
    if s.mode = .isolated ∧ s.inPair = true ∧ s.pairEnded = false ∧ t + msTicks 100 ≤ s.clock ∧
        (s.pstate = 1 ∨ s.pstate = 2) then
      s.leaveActive .standby false
    else s
  | none => s

/-! ### Becoming ACTIVE (R479, R481, R487, R498) -/

/-- The PAIR_TAKEOVER causes of the model (log 31): 1 ROUND, 2 planned RELINQUISH, 3 RELINQUISH FAULT, 4 RELINQUISH
POWER, 5 election without a referee, 6 PAIR_SOLO. -/
def State.grant (cause : Nat) (s : State) : State :=
  { s with pair := { s.pair with takeover := some { cause := cause, granted := s.clock } } }

/-- The new active's functions begin; with `take` from the shadows and the mirror as they stand (R498). -/
def State.startActive (h : Nat) (take : Bool) (s : State) : State :=
  let s1 : State := { s with
    mode := .active
    statLast := []
    seq := { s.seq with tg := s.clock, h0 := h, begun := false }
    pair := { s.pair with drive := true, relinq := false, takeover := none, reqFlag := false, electSince := none, ho := none,
                          hto := h
                          swapRun := match s.pair.ho with | some o => if o.kind = 2 then some s.clock else none | none => none } }
  let s2 := ((((s1.enterSeq).enterLoop).enterMs).enterSlv).enterCan take
  ((s2.enterEth take).enterUsl take).enterFld

/-- OWNER_N has read high for 800 ticks, within 20 ms of the grant (R481). -/
def State.ownerGot (granted : Nat) (s : State) : Bool :=
  match s.ownerFree with | some t => decide (max granted t ≤ s.clock ∧ t ≤ granted + msTicks 20) | none => false

/-- At tt the new active takes over (R498): a harvest tick of the shadow grid at or after the tick in which the grant and
R481 both hold. -/
def State.takeOver (s : State) : State :=
  match s.pair.takeover with
  | none => s
  | some g =>
    let b := s.img.cycle.base
    let onGrid := match s.pair.grid with | some (t, _) => decide ((s.clock - t) % b = 0 ∧ t ≤ s.clock) | none => true
    if (s.mode = .standby ∨ (s.mode = .isolated ∧ g.cause = 6)) ∧ s.mayOwn = true ∧ s.ownerGot g.granted = true ∧ onGrid = true then
      let h := match s.pair.grid with | some (t, h) => h + (s.clock - t) / b | none => 0
      let age := match s.pair.mirH with | some m => h - m | none => 0xFFFF
      let s1 := s.startActive h true
      (s1.pairEvt 8).record 0x0306 0 0 (leBytes 8 h ++ leBytes 1 g.cause ++ leBytes 2 (min age 65535))
    else s

/-- Member A of a MODE 1 image becomes ACTIVE (R479). -/
def State.singleActivate (s : State) : State :=
  if s.operating && s.committed && s.img.pair.single && decide (s.member = 1) && decide (s.mode = .standby) &&
      s.mayOwn && s.ownerHigh then s.startActive 0 false
  else s

/-- A grant that does not find OWNER_N high within 20 ms (R481). -/
def State.ownerStuck (s : State) : State :=
  match s.pair.takeover with
  | some g =>
    if g.granted + msTicks 20 ≤ s.clock ∧ (match s.ownerFree with | some t => decide (g.granted + msTicks 20 < t) | none => true) = true then
      let s1 := s.enterIsolated
      (s1.pairEvt 0x80).record 0x0307 0 0 []
    else s
  | none => s

/-- OWNER_N reads high for 1 ms against the owner (R482). -/
def State.ownerMismatch (s : State) : State :=
  if s.operating && ((decide (s.mode = .standby) && decide (s.pstate = 2)) || (decide (s.mode = .active) && s.pair.drive)) then
    (s.pairEvt 0x10).record 0x0308 0 0 []
  else s

/-- With no owner and no referee for 100 ms, the eligible or PREFERRED member takes over (R497). -/
def State.selfElect (s : State) : State :=
  match s.pair.electSince with
  | some t =>
    if s.noOwner && s.mayOwn && decide (t + msTicks 100 ≤ s.clock) && s.eligible && (!s.partnerEligible || s.preferred) then s.grant 5
    else s
  | none => s

/-! ### Mirror and shadows (R489 to R492) -/

/-- How many mirror slots are in use: up to the last destination (R489). -/
def mirrorUsed (p : PairSec) : Nat := p.entries.foldl (fun a e => max a (e.dst + e.count - 0xE000)) 0

/-- Slots 0 to `used` - 1 of the mirror area are covered by the frames. -/
def covered (fs : List (Nat × MirrorMsg)) (used : Nat) : Bool :=
  (List.range used).all fun o => fs.any fun f => decide (f.2.first ≤ o ∧ o < f.2.first + f.2.values.length)

def mirrorCell (fs : List (Nat × MirrorMsg)) (o : Nat) : Cell :=
  match fs.find? fun f => decide (f.2.first ≤ o ∧ o < f.2.first + f.2.values.length) with
  | some f => (f.2.values.getD (o - f.2.first) 0, mkQ (f.2.states.getD (o - f.2.first) 0) false false false)
  | none => (0, 0)

/-- A complete mirror is written to every destination and every source slot, value and STATE (R490). -/
def State.applyMirror (fs : List (Nat × MirrorMsg)) (s : State) : State :=
  s.img.pair.entries.foldl (fun s e =>
    (List.range e.count).foldl (fun s k =>
      let c := mirrorCell fs (e.dst - 0xE000 + k)
      (s.writeSlot (e.dst + k) c.1 c.2).writeSlot (e.src + k) c.1 c.2) s) s

/-- The frames for one H are both there, or the single frame of R489 is: one that covers the used range alone, where two
frames would split it, or with a lane down (log 118). -/
def State.mirrorWhole (fs : List (Nat × MirrorMsg)) (s : State) : Bool :=
  let used := mirrorUsed s.img.pair
  let lane (n : Nat) : Bool := fs.any fun f => decide (f.1 = n)
  covered fs used && ((lane 0 && lane 1) || ((decide (16 < used) || !s.pair.lane0 || !s.pair.lane1) && fs.any fun f => covered [f] used))

/-- A mirror still incomplete at the next tm is abandoned and counted (R490). -/
def State.mirrorDrop (s : State) : State :=
  if s.pair.rx.isEmpty then s else { s with pair := { s.pair with rx := [], mlost := satInc 32767 s.pair.mlost } }

/-- A MIRROR frame arrives (R490); one for another H shows that the next tm has passed. -/
def State.mirrorIn (lane : Nat) (m : MirrorMsg) (s : State) : State :=
  if !s.operating then s
  else
    let s1 := s.laneUp lane
    if s1.mode ≠ .standby ∨ s1.inPair = false ∨ s1.pair.mirH = some m.h then s1
    else
      let s1 := if s1.pair.rx.any fun f => decide (f.2.h ≠ m.h) then s1.mirrorDrop else s1
      let rx := (s1.pair.rx.filter fun f => decide (f.2.h = m.h)) ++ [(lane, m)]
      let s2 : State := { s1 with pair := { s1.pair with rx := rx } }
      if s2.mirrorWhole rx then
        let s3 := s2.applyMirror rx
        { s3 with pair := { s3.pair with rx := [], mirH := some m.h, mirTick := s3.clock, mirrors := (s3.pair.mirrors + 1) % 65536 } }
      else s2

/-- The active sends the REG and SOLVER shadows (R491, R492); a PAIR fault stops them (R509). -/
def State.sendShadows (s : State) : State :=
  if s.mode = .active ∧ s.inPair = true ∧ s.participates = true ∧ s.pair.fault = false then
    (s.sendOnce (.shadow (.reg s.loopShadows s.msShadows))).sendOnce (.shadow (.solver s.slvShadows))
  else s

/-- A SHADOW frame whose CRC fails is discarded (R484); a REG or SOLVER shadow has then been lost (R492). -/
def State.shadowLost (sh : Shadow) (s : State) : State :=
  match sh with
  | .safety _ _ => s
  | .station _ _ => s
  | _ => { s with pair := { s.pair with shLost := true } }

/-- A shadowed field on the standby takes the value of the last shadow received (R491). -/
def State.shadowTake (sh : Shadow) (s : State) : State :=
  if s.operating && s.inPair && decide (s.mode = .standby ∨ s.mode = .isolated) then
    match sh with
    | .safety h c => ({ s with pair := { s.pair with safetyH := some h, shUsl := c } } : State).applyUsl c
    | .station h c => ({ s with pair := { s.pair with stationH := some h, shSta := c } } : State).applySta c
    | .reg l m => (({ s with pair := { s.pair with gotReg := true, kept := true, shLoop := l, shMs := m } } : State).applyLoop l).applyMs m
    | .solver p => ({ s with pair := { s.pair with gotSlv := true, shSlv := p } } : State).applySlv p
  else s

/-- A SHADOW frame arrives on a lane; `ok` tells that its CRC passes (R484, R491). -/
def State.shadowIn (lane : Nat) (ok : Bool) (sh : Shadow) (s : State) : State :=
  if ok then (s.linkIn lane).shadowTake sh else if s.operating then s.shadowLost sh else s

/-- The mirror frames of R489 as (lane, first slot offset, slots): the halves on both lanes, or all of it on the lane
that is up. -/
def State.mirrorCut (used : Nat) (s : State) : List (Nat × Nat × Nat) :=
  let half := min used (((used + 1) / 2 + 15) / 16 * 16)
  if s.pair.lane0 = s.pair.lane1 then [(0, 0, half), (1, half, used - half)]
  else [(if s.pair.lane0 then 0 else 1, 0, used)]

/-- The mirror payload of `n` slots from mirror-area offset `a` on. -/
def State.mirrorMsg (a n : Nat) (s : State) : MirrorMsg :=
  { h := s.hnow, first := a, values := (rangeOf (0xE000 + a) n).map fun i => (s.ownSlot i).1,
    states := (rangeOf (0xE000 + a) n).map fun i => (s.ownSlot i).2.toNat % 4 }

/-- The mirror snapshot of the active (R161, R489): PAIR copies every source slot into its destination, from the
shadow of R40 for a forced slot, and sends the frames with the SAFETY and STATION shadows. On a STANDBY the row is its
partner's next tm (R490). -/
def State.mirrorSnapshot (s : State) : State :=
  if s.mode = .active ∧ s.seq.mirror = true then
    let s0 : State := { s with seq := { s.seq with mirror := false } }
    if s0.pair.fault then s0
    else
      let s1 := s0.img.pair.entries.foldl (fun s e =>
        (List.range e.count).foldl (fun s k => let c := s.ownSlot (e.src + k); s.writeSlot (e.dst + k) c.1 c.2) s) s0
      if s1.inPair && s1.participates then
        let used := ((mirrorUsed s1.img.pair) + 3) / 4 * 4
        let s2 := (s1.mirrorCut used).foldl (fun s f => s.sendLink f.1 (.mirror (s1.mirrorMsg f.2.1 f.2.2))) s1
        let s3 := (s2.sendOnce (.shadow (.safety s2.hnow s2.uslShadows))).sendOnce (.shadow (.station s2.hnow s2.staShadows))
        { s3 with pair := { s3.pair with mirrors := (s3.pair.mirrors + 1) % 65536, mirH := some s3.hnow } }
      else { s1 with pair := { s1.pair with mirH := some s1.hnow } }
  else if s.mode = .standby then s.mirrorDrop
  else s

/-! ### Notices and planned hand-over (R500 to R502, R506) -/

/-- An OFFER names hx; `swap` tells that the hand-over belongs to a swap test (log 32). -/
def State.offer (hx : Nat) (swap : Bool) (s : State) : State :=
  if s.operating && s.inPair && decide (s.mode = .standby) && !s.pairEnded then
    if s.eligible then
      ({ s with pair := { s.pair with ho := some { hx := hx, accepted := true, kind := if swap then 2 else 0 } } } : State).sendBoth
        (.notice 2 0 hx)
    else s.sendBoth (.notice 6 0 hx)
  else s

def State.accept (s : State) : State :=
  match s.pair.ho with
  | some o => if s.mode = .active then { s with pair := { s.pair with ho := some { o with accepted := true } } } else s
  | none => s

def State.decline (s : State) : State :=
  match s.pair.ho with
  | some o => if s.mode = .active then s.refuseHandover o.kind else s
  | none => s

/-- A RELINQUISH from the ACTIVE partner (R497): 0 planned, 1 FAULT, 2 POWER (R506). -/
def State.relinquished (cause : Nat) (s : State) : State :=
  if s.operating && s.inPair && decide (s.mode = .standby) && s.eligible && !s.pairEnded &&
      (match s.pair.partner with | some h => decide (h.state = 2) | none => false) then
    let s1 : State := { s with pair := { s.pair with partner := s.pair.partner.map fun h => { h with owning := false } } }
    s1.grant (cause + 2)
  else s

/-- A SAFE notice from the partner (R497, R523). -/
def State.safeNotice (s : State) : State :=
  if s.operating && s.inPair && decide (s.mode = .active ∨ s.mode = .standby ∨ s.mode = .isolated) then s.enterSafe 0xFF else s

/-- At tx the active leaves ACTIVE when the mirror of hx - 1 has gone out; a late mirror or a skipped hx moves the
hand-over to the next harvest, and the third such move refuses it; a condition of R500 that fails refuses it at once. -/
def State.handoverTx (s : State) : State :=
  match s.pair.ho with
  | none => s
  | some o =>
    if s.mode = .active ∧ o.accepted = true ∧ s.hTick o.hx ≤ s.clock + 1000 then
      let sent := match s.pair.mirH with | some m => decide (o.hx ≤ m + 1) | none => false
      if !s.mayHandOver then s.refuseHandover o.kind
      else if sent && !s.seq.skip then
        let t := s.hTick o.hx
        let s1 := s.sendBoth (.notice 3 0 o.hx)
        let s2 := (s1.leaveActive .standby true).pairEvt 8
        let pass := o.kind = 3
        let s3 : State := { s2 with pair := { s2.pair with
          hto := o.hx, grid := some (t, o.hx), gotReg := true, gotSlv := true, shLost := false
          mirH := some (o.hx - 1), safetyH := some (o.hx - 1), stationH := some (o.hx - 1)
          swapRun := if o.kind = 2 then some s.clock else none
          swapTime := if pass then s.ns else s2.pair.swapTime
          swapDue := if pass then s.clock + secTicks (3600 * s.img.pair.swapInterval) else s2.pair.swapDue } }
        if pass then s3.record 0x030A 0 0 (leBytes 1 0) else s3
      else if 2 ≤ o.moves then s.refuseHandover o.kind
      else { s with pair := { s.pair with ho := some { o with hx := o.hx + 1, moves := o.moves + 1 } } }
    else s

/-- The PREFERRED member has been STANDBY and ELIGIBLE for REVERT_DELAY (R501). -/
def State.revertStart (s : State) : State :=
  match s.pair.revertSince with
  | some t =>
    if s.mode = .active ∧ s.img.pair.revert = true ∧ s.pair.swapRun = none ∧ s.olc.st = .none ∧
        t + secTicks s.img.pair.revertDelay ≤ s.clock then s.requestHandover 1
    else s
  | none => s

/-- A swap test starts (R502), or is postponed by 60 s, recorded once. -/
def State.swapStart (s : State) : State :=
  if s.mayHandOver && s.pair.ho.isNone && s.pair.swapRun.isNone then
    ({ s with pair := { s.pair with swapPost := false } } : State).requestHandover 2
  else
    let s1 : State := { s with pair := { s.pair with swapDue := s.clock + secTicks 60, swapPost := true } }
    if s.pair.swapPost then s1 else s1.record 0x030C 0 0 []

def State.swapTimer (s : State) : State :=
  if s.mode = .active ∧ s.inPair = true ∧ 0 < s.img.pair.swapInterval ∧ s.pair.swapDue ≤ s.clock then s.swapStart else s

/-- SWAP_DWELL ends: the tested member hands back (R502). -/
def State.swapDwellEnd (s : State) : State :=
  match s.pair.swapRun with
  | some t =>
    if t + secTicks s.img.pair.swapDwell ≤ s.clock then
      if s.mode = .active then s.requestHandover 3
      else { s with pair := { s.pair with swapRun := none, swapTime := s.ns,
                                          swapDue := s.clock + secTicks (3600 * s.img.pair.swapInterval) } }
    else s
  | none => s

/-! ### Adoption (R505) -/

def chunks (bs : List Byte) : Nat → Nat → List (Nat × List Byte)
  | 0, _ => []
  | n + 1, o => (o, slice bs o 4096) :: chunks bs n (o + 4096)

/-- The partner's request starts the transfer of the committed image. -/
def State.imgReq (s : State) : State :=
  if s.operating && s.committed then
    let b := (if s.store.selected == some true then s.store.copyB else s.store.copyA).bytes
    (chunks b ((b.length + 4095) / 4096) 0).foldl (fun s c => s.sendOnce (.imgData c.1 c.2)) s
  else s

/-- A piece of the partner's image arrives in its place. -/
def State.imgData (ofs : Nat) (data : List Byte) (s : State) : State :=
  let g := s.store.stage
  if g.st = .receiving ∧ g.sid = none ∧ ofs = g.data.length ∧ ofs + data.length ≤ g.len ∧ data.length ≤ 4096 then
    { s with store := { s.store with stage := { g with data := g.data ++ data, lastData := s.clock } } }
  else s

/-! ### The Crossroads (R493 to R495) -/

/-- A member is present while its STATUS has not been missed in two consecutive rounds (R493). -/
def presentIn (m : Option StatusMsg) (miss : Nat) : Bool := m.isSome && decide (miss < 2)

/-- The ruling of R495: the owner and the verdicts of A and B. -/
def Pair.rule (p : Pair) (preferredB : Bool) (own8 : List Byte) : Nat × Nat × Nat :=
  let pa := presentIn p.statA p.aMiss
  let pb := presentIn p.statB p.bMiss
  let so := if p.refO = 1 then p.statA else if p.refO = 2 then p.statB else none
  let po := if p.refO = 1 then pa else if p.refO = 2 then pb else false
  let other := if p.refO = 1 then p.statB else p.statA
  let otherReq := (other.map (·.req)).getD false
  let mk (o vo vx : Nat) : Nat × Nat × Nat := if o = 1 then (o, vo, vx) else (o, vx, vo)
  let good := match so with | some m => po && decide (m.state = 2) && m.healthy && !m.relinq | none => false
  let safe := match so with | some m => po && m.safe | none => false
  let relinq := match so with | some m => m.relinq | none => false
  if good then mk p.refO 1 (if otherReq then 3 else 2)
  else if safe then (p.refO, 0, 0)
  else
    let dig := if p.refO = 0 then own8 else p.refDig
    let ok (m : Option StatusMsg) (pres : Bool) (who : Nat) : Bool :=
      match m with
      | some x => pres && x.eligible && decide (x.digest8 = dig) &&
          (decide (p.refO = 0) || decide (who = p.refO) || x.req || relinq)
      | none => false
    let ca := ok p.statA pa 1
    let cb := ok p.statB pb 2
    let ca' := ca && !(p.refO == 1 && cb)
    let cb' := cb && !(p.refO == 2 && ca)
    let w := if ca' && cb' then (if preferredB then 2 else 1) else if ca' then 1 else if cb' then 2 else 0
    if w = 0 then (p.refO, 0, 0) else mk w 1 2

/-- The referee begins a round (R493, R495); before the first there was none that a member could have missed. -/
def State.roundStart (s : State) : State :=
  if s.operating && decide (s.mode = .referee) && !s.img.pair.single then
    let p := s.pair
    let miss (seen : Bool) (n : Nat) : Nat := if seen || decide (p.round = 0) then 0 else min 255 (n + 1)
    let so := if p.refO = 1 then p.statA else if p.refO = 2 then p.statB else none
    let p1 : Pair := { p with aMiss := miss p.seenA p.aMiss, bMiss := miss p.seenB p.bMiss, seenA := false, seenB := false
                              refDig := (so.map (·.digest8)).getD p.refDig }
    let r := p1.rule (decide (s.img.station.preferred = 1)) (s.img.digest.take 8)
    let n := (p1.round + 1) % 2 ^ 32
    ({ s with pair := { p1 with refO := r.1, round := n } } : State).emit
      (.xroads (RoundMsg.frame { round := n, owner := r.1, verdictA := r.2.1, verdictB := r.2.2 }))
  else s

/-- The STATUS that a member sends (R494). -/
def State.statusNow (s : State) : StatusMsg :=
  { member := s.member, state := s.mode.code, key := s.panel.key.code, healthy := s.diag.mf.isNone, eligible := s.eligible
    inStep := s.inStep, linkOk := s.present, req := s.pair.reqFlag, relinq := s.pair.relinq, safe := decide (s.mode = .safe)
    h := s.gridNow.1, digest8 := s.img.digest.take 8, round := s.pair.lastRound }

def State.sendStatus (s : State) : State :=
  if s.participates && s.inPair then s.emit (.xroads s.statusNow.frame) else s

/-- A STATUS whose first byte begins `us` µs into the round (R493): valid within its member's window. -/
def State.statusIn (m : StatusMsg) (us : Nat) (s : State) : State :=
  if s.operating && decide (s.mode = .referee) then
    if m.member = 1 ∧ 45 ≤ us ∧ us ≤ 55 then { s with pair := { s.pair with statA := some m, seenA := true } }
    else if m.member = 2 ∧ 145 ≤ us ∧ us ≤ 155 then { s with pair := { s.pair with statB := some m, seenB := true } }
    else s
  else s

/-- A valid ROUND at a member (R493, R497). -/
def State.roundIn (m : RoundMsg) (s : State) : State :=
  if s.participates && s.inPair then
    let v := if s.member = 1 then m.verdictA else m.verdictB
    let s1 : State := { s with pair := { s.pair with lastRound := m.round, refOk := true, refTick := s.clock, refLost := false
                                                     owner := m.owner, verdict := v, electSince := none } }
    if s1.mode = .active ∧ m.owner ≠ 0 ∧ m.owner ≠ s1.member then (s1.enterIsolated).record 0x0304 0 0 []
    else if s1.mode = .standby ∧ v = 1 ∧ m.owner = s1.member ∧ s1.eligible = true ∧ s1.pair.takeover = none then s1.grant 1
    else if s1.mode = .standby ∧ v = 3 then s1.isolate 1
    else s1
  else s

/-- Three consecutive rounds, 500 µs each, without a valid ROUND (R493, R497); before the first, they count from the end
of start-up. -/
def State.refereeAbsent (s : State) : State :=
  if s.operating && decide (s.member = 1 ∨ s.member = 2) && !s.pair.refLost &&
      decide (max s.pair.refTick s.boot.endTick + usTicks 1500 ≤ s.clock) then
    let s1 : State := { s with pair := { s.pair with refOk := false, refLost := true } }
    let s2 := (s1.pairEvt 0x20).record 0x0309 0 0 []
    if s2.mode = .standby ∧ s2.pair.silent = true ∧ s2.img.pair.single = false then s2.isolate 2 else s2.countElect
  else s

end Sys2Proof.Machine
end

