-- ==== Sys2Proof/Machine/PowerActs.lean ====
section
/-! DEFINITION. Power, hot insertion, the panel and the eject request (chapter 02). -/

namespace Sys2Proof.Machine

/-! ### Hot insertion (R80, R81) -/

def State.setPhase (p : Phase) (s : State) : State := { s with power := { s.power with phase := p } }

/-- At least one feed lies within 18 V to 32 V and PWR_EN is high (R61, R80). -/
def State.feedGood (s : State) : Bool := (s.power.feedAStart || s.power.feedBStart) && s.power.pwrEn

/-- The conditions of the insertion sequence stand: both mate contacts, a feed, PWR_EN (R80). -/
def State.mayStart (s : State) : Bool := s.power.mate1 && s.power.mate2 && s.feedGood

/-- The module has no power or waits to start (R75, R80). -/
def State.waitsPower (s : State) : Bool := decide (s.power.phase = .unpowered ∨ s.power.phase = .dead)

/-- The insertion sequence starts once its conditions stand, with its origin there (R80). -/
def State.tryInsert (s : State) : State := if s.waitsPower && s.mayStart then s.setPhase (.mating s.clock) else s

/-- The later mate contact closes: both are closed (R80, R81). -/
def State.mateClose (s : State) : State :=
  ({ s with power := { s.power with mate1 := true, mate2 := true } } : State).tryInsert

/-- The sequence waits again where it loses its conditions before reset release (R61, R80, R81). -/
def State.insertLost (s : State) : State :=
  if s.mayStart then s
  else match s.power.phase with
    | .mating _ => s.setPhase .unpowered
    | .present _ => s.setPhase .unpowered
    | _ => s

def State.mateOpen (mate2 : Bool) (s : State) : State :=
  (if mate2 then { s with power := { s.power with mate2 := false } }
   else { s with power := { s.power with mate1 := false } } : State).insertLost

def State.presence (s : State) : State :=
  match s.power.phase with
  | .mating tm => if tm + msTicks 10 ≤ s.clock ∧ s.mayStart = true then s.setPhase (.present tm) else s
  | _ => s

def State.porRelease (r1 r2 r3 : Nat) (s : State) : State :=
  match s.power.phase with
  | .present tm => if tm + msTicks 75 ≤ s.clock ∧ s.mayStart = true then s.release r1 r2 r3 else s
  | _ => s

/-- The lamp test ends 1 s after reset release (R80, R93). -/
def State.lampEnd (s : State) : State :=
  if s.boot.lampTest && decide (s.boot.tr + secTicks 1 ≤ s.clock) then { s with boot := { s.boot with lampTest := false } }
  else s

/-! ### Feeds and power failure (R72 to R78) -/

/-- A feed's monitor reads `mV`: in range from 17.0 V to 33.0 V (SYS_POWER, R72), good to start from 18 V to 32 V (R80). -/
def State.feedOk (feedB : Bool) (mV : Nat) (s : State) : State :=
  let ok := decide (17000 ≤ mV ∧ mV ≤ 33000)
  let start := decide (18000 ≤ mV ∧ mV ≤ 32000)
  let s1 : State := if feedB then { s with power := { s.power with feedBOk := ok, feedBStart := start } }
    else { s with power := { s.power with feedAOk := ok, feedAStart := start } }
  s1.tryInsert.insertLost

/-- A feed is reported lost (R72). -/
def State.feedLost (feedB : Bool) (s : State) : State :=
  if s.running then
    let s1 := s.feedOk feedB 0
    let s0 := s1.latchSet 0x000C (if feedB then 8 else 4)
    let s2 : State := if feedB then { s0 with power := { s0.power with feedBLost := true } }
      else { s0 with power := { s0.power with feedALost := true } }
    s2.record 0x0009 0 (b2n feedB) (leBytes 1 (b2n feedB))
  else s

/-- What the power-fail event's cause has done to the inputs (R73): 0 the combined feed, 1 PWR_EN, 2 MATE1_N, 3 MATE2_N. -/
def Power.failed (cause : Nat) (p : Power) : Power :=
  match cause with
  | 0 => { p with feedAOk := false, feedBOk := false, feedAStart := false, feedBStart := false }
  | 1 => { p with pwrEn := false }
  | 2 => { p with mate1 := false }
  | _ => { p with mate2 := false }

/-- The power-fail event (R73, R74, R180, R187, R497, R528). The module state reads UNCONFIGURED from here (log 26). -/
def State.powerFail (cause : Nat) (s : State) : State :=
  match s.power.phase with
  | .startup | .operating | .inert =>
    let s1 := if s.mode = .active then s.sendBoth (.notice 3 2 s.hnow) else s
    let s2 := (s1.olcAbort 0x36 6).powerFailSave
    let s3 := s2.leaveActive .unconfigured false
    let s4 := s3.pfCan
    let e : Entry := { num := 0, tick := s.clock, code := 0x0008, sev := 1, tunsure := s.tunsure, unit := 0, item := 0,
                       time := s.ns, data := fit12 [] }
    { s4 with
      power := (s4.power.failed cause) |> fun p => { p with phase := .powerFail s.clock }
      panel := { s4.panel with eject := .none, tripleEnd := 0 }
      pair := { s4.pair with takeover := none }
      store := { s4.store with dup := none }
      log := { s4.log with pf := some e, clear := none } }
  | .resetHold _ => { s with power := { s.power.failed cause with phase := .powerFail s.clock } }
  | _ => ({ s with power := s.power.failed cause } : State).insertLost

/-- The sequence of R74 ends with the module held in reset, all outputs off (R74, R528). Where the conditions of the
insertion sequence stand again, the module starts through it from here on (R75). -/
def State.powerFailReset (s : State) : State :=
  match s.power.phase with
  | .powerFail tp => if tp + msTicks 18 ≤ s.clock then (s.flushLog.shell .dead).tryInsert else s
  | _ => s

/-- The feed and PWR_EN are back: the insertion sequence has its conditions, now or at the end of the power-fail sequence
(R75, R80, log 27). -/
def State.powerReturn (s : State) : State :=
  let p := s.power
  let none := !(p.feedAStart || p.feedBStart)
  ({ s with power := { p with
    pwrEn := true, feedAOk := p.feedAOk || none, feedBOk := p.feedBOk || none
    feedAStart := p.feedAStart || none, feedBStart := p.feedBStart || none } } : State).tryInsert

/-- The backup domain falls below 0.9 V (R78): the clock stops, the backed SRAM is lost and the latch sets. -/
def State.brownout (s : State) : State :=
  if s.running then s
  else { s with boot := { s.boot with brownout := true, rtcValid := false, rtcSet := false, rtc := 0 }, snap := {}
                log := { s.log with recs := [], lastCirc := none } }

/-! ### Key switch (R85, R86, R174) -/

/-- The position that the contacts K1 and K2 encode, each `true` where it is closed; none between positions (R85). -/
def keyOf (k1 k2 : Bool) : Option Key :=
  match k1, k2 with
  | true, false => some .stop
  | true, true => some .prog
  | false, true => some .run
  | false, false => none

/-- Both cores have read the contacts without change for 20 ms (R86): a position is accepted, and while they read None the
last one stands. Leaving PROG aborts an online change (R187), and STOP makes an ACTIVE module request a hand-over
(R174). -/
def State.keyAccept (k1 k2 : Bool) (s : State) : State :=
  match keyOf k1 k2 with
  | none => s
  | some k =>
    if k = s.panel.key || !(s.running || decide (s.power.phase = .startup)) then s
    else
      let s1 : State := { s with panel := { s.panel with key := k } }
      let s2 := if s.panel.key = .prog then s1.olcAbort 0x36 2 else s1
      if k = .stop ∧ s2.mode = .active then s2.requestHandover 4 else s2

/-- A key fault (R86). -/
def State.keyFail (disagree : Bool) (s : State) : State :=
  if s.running then
    ({ s.latchSet 0x0004 64 with panel := { s.panel with keyFault := true } } : State).record 0x000A 0 0 []
  else s

/-! ### Eject (R83, R84) -/

/-- The EJECT record's outcome (log 28): 0 preparing, 1 refused, 2 prepared, 3 not prepared in 2 s, 4 cancelled,
5 ignored. -/
def State.recordEject (o : Nat) (s : State) : State := s.record 0x000B 0 0 (leBytes 1 o)

/-- REMOVE's triple flash (R84): three flashes at 4 Hz. -/
def State.refuseEject (o : Nat) (s : State) : State :=
  ({ s with panel := { s.panel with tripleEnd := s.clock + msTicks 750 } } : State).recordEject o

/-- An eject request (R84). A prepared module restarts under R80, its staged records written first (log 22). -/
def State.ejectRequest (s : State) : State :=
  if !(s.operating || decide (s.power.phase = .startup)) then s
  else match s.panel.eject with
  | .preparing _ _ _ => s.recordEject 5
  | .prepared => ((s.recordEject 4).flushLog.shell .dead).tryInsert
  | .none =>
    if !s.pair.drive && decide (s.olc.st = .none) then
      ({ s with panel := { s.panel with eject := .preparing s.clock s.mode false } } : State).recordEject 0
    else if s.pair.drive && s.pstate = 1 && s.partnerInStep && decide (s.olc.st = .none) then
      (({ s with panel := { s.panel with eject := .preparing s.clock s.mode true } } : State).recordEject 0).requestHandover 5
    else s.refuseEject 1

/-- Preparation completes (R84): the hand-over is done or not required and no Barn write runs. -/
def State.ejectPrepared (s : State) : State :=
  match s.panel.eject with
  | .preparing _ _ _ =>
    if s.mode ≠ .active ∧ s.barn.save = none then
      let s1 := if s.mode = .unconfigured ∨ s.mode = .safe then s else s.enterIsolated
      ({ s1 with panel := { s1.panel with eject := .prepared } } : State).recordEject 2
    else s
  | _ => s

/-- 2 s have elapsed since the request without preparation (R84). -/
def State.ejectTimeout (s : State) : State :=
  match s.panel.eject with
  | .preparing t _ _ =>
    if t + secTicks 2 ≤ s.clock then
      let ho := match s.pair.ho with | some h => if h.kind = 5 then none else some h | none => none
      ({ s with panel := { s.panel with eject := .none }, pair := { s.pair with ho := ho } } : State).refuseEject 3
    else s
  | _ => s

end Sys2Proof.Machine
end

