-- ==== Sys2Proof/Machine/SmpActs.lean ====
section
/-! DEFINITION. Host sessions: their opening and closing, requests and their checks (R98 to R101, R175, R176, R430 to
R437). -/

namespace Sys2Proof.Machine

/-! ### Sessions (R430, R431) -/

/-- SMP is served from the end of start-up on, while the management core runs (R93, R94, R516). -/
def State.smpOn (s : State) : Bool := s.operating && !s.panel.mgmtStopped

/-- SESSION (R431): 1 opening, 2 closing; the role; the fingerprint; DATES_UNCHECKED (log 60). -/
def State.recordSession (kind : Nat) (x : Session) (unchecked : Bool) (s : State) : State :=
  s.record 0x0011 0 x.sid (leBytes 1 kind ++ leBytes 1 x.role.code ++ (x.fp ++ List.replicate 8 0).take 8 ++
    leBytes 1 (b2n unchecked))

/-- The dates of a session chain are checked (R430). -/
def State.datesChecked (s : State) : Bool := s.boot.rtcValid || decide (s.eth.ptp.st = 2)

/-- The leaf of a client's chain: the chain ends at the owner root, and the client has proved that it holds the leaf's key
(R100, R431). -/
def State.clientLeaf (proof : Bool) (chain : List (List Byte)) (s : State) : Option Cert :=
  match s.store.owner with
  | some (root, _) => if proof then chainLeaf root chain else none
  | none => none

/-- The role of a handshake's client: its leaf's OU on an OWNED module, none on an UNOWNED one, where no certificate is
presented (R100, R431). -/
def State.clientRole (proof : Bool) (chain : List (List Byte)) (s : State) : Option Role :=
  if s.store.owner.isSome then (s.clientLeaf proof chain).bind leafRole else if chain = [] then some .anon else none

/-- Cipher suite TLS_AES_128_GCM_SHA256, group secp256r1, scheme ecdsa_secp256r1_sha256, by their TLS code points; neither
resumption nor early data (R431, log 111). -/
def offerOk (suite group scheme : Nat) (resumed early : Bool) : Bool :=
  decide (suite = 0x1301 ∧ group = 0x0017 ∧ scheme = 0x0403) && !resumed && !early

/-- A handshake opens a session or is refused (R100, R430, R431); `resumed` and `early` tell what the client asks for, and
`proof` that its signature over the handshake verifies under the leaf's key (log 3). -/
def State.handshake (sid suite group scheme : Nat) (resumed early proof : Bool) (chain : List (List Byte)) (s : State) : State :=
  let owned := s.store.owner.isSome
  if s.smpOn && (s.session sid).isNone && decide (s.sessions.length < 8) && offerOk suite group scheme resumed early &&
      (!owned || datesOk s.ns chain || !s.datesChecked) then
    match s.clientRole proof chain with
    | none => s
    | some r =>
      let x : Session := { sid := sid, role := r, fp := if owned then sha256 (chain.headD []) else [], lastRec := s.clock }
      ({ s with sessions := s.sessions ++ [x] } : State).recordSession 1 x (owned && !s.datesChecked)
  else s

/-- A session closes: its tollgate and windows go with it, and a load that it holds is abandoned (R116, R129, R431). -/
def State.closeSession (sid : Nat) (s : State) : State :=
  match s.session sid with
  | none => s
  | some x =>
    let s1 := ({ s with sessions := s.sessions.filter fun y => decide (y.sid ≠ sid) } : State).recordSession 2 x false
    if s1.store.stage.st = .receiving ∧ s1.store.stage.sid = some sid then s1.abandonLoad 2 0 0 else s1

def State.closeAll (s : State) : State := s.sessions.foldl (fun s x => s.closeSession x.sid) s

/-- 30 s without an accepted record (R431). -/
def State.sessionIdle (sid : Nat) (s : State) : State :=
  match s.session sid with
  | some x => if s.smpOn = true ∧ x.lastRec + secTicks 30 ≤ s.clock then s.closeSession sid else s
  | none => s

/-! ### Requests (R432) -/

/-- What a command answers: the state, and the response code with its payload; no response where it follows later. -/
abbrev Answer := State × Option (Nat × List Byte)

/-- The request's number is above every one that the session has sent (R432). -/
def Session.fresh (req : Nat) (x : Session) : Bool :=
  match x.high with
  | none => true
  | some h => decide (h < req)

/-- An accepted request counts as its session's latest record (R431). -/
def State.heard (sid : Nat) (s : State) : State := s.modSession sid fun y => { y with lastRec := s.clock }

/-- A new request is noted in its session, its response still to come (R432). -/
def State.taken (sid req cmd : Nat) (s : State) : State :=
  (s.heard sid).modSession sid fun y => { y with
    high := some req, stored := (({ req := req, cmd := cmd } : Resp) :: y.stored).take 16 }

/-- A request of an open session is executed, answered again from the store, or discarded (R432). -/
def State.request (sid req cmd : Nat) (run : Session → State → Answer) (s : State) : State :=
  if !s.smpOn then s
  else match s.session sid with
  | none => s
  | some x =>
    if x.fresh req then
      match run x (s.taken sid req cmd) with
      | (s1, some (code, p)) => s1.answer sid req code p
      | (s1, none) => s1
    else match x.stored.find? fun r => decide (r.req = req) with
      | some r => if r.ready then (s.heard sid).emit (.smp sid r.bytes) else s.heard sid
      | none => s.heard sid

/-! ### Checks and refusals (R175, R176, R433, R437) -/

/-- The command succeeds with 00h and no payload. -/
def ok (s : State) : Answer := (s, some (0, []))

/-- A refusal that changes nothing and is not recorded. -/
def refuse (code : Nat) (s : State) : Answer := (s, some (code, []))

/-- COMMAND_REFUSED: the command, the response code and what else the rule names (R437, log 61). -/
def refuseRec (cmd code : Nat) (more : List Byte) (s : State) : Answer :=
  (s.record 0x0010 0 0 (leBytes 2 cmd ++ leBytes 1 code ++ more), some (code, []))

/-- WRONG_STATE with the command, the module state, the key position and the session's role (R176). -/
def wrongState (cmd : Nat) (x : Session) (s : State) : Answer :=
  (s.record 0x000F 0 0 (leBytes 2 cmd ++ leBytes 1 s.mode.code ++ leBytes 1 s.panel.key.code ++ leBytes 1 x.role.code),
    some (0x30, []))

/-- The role check (R100, R433): while UNOWNED only the commands marked "any session" are accepted. -/
def State.roleOk (min : Role) (anyUnowned : Bool) (x : Session) (s : State) : Bool :=
  if s.store.owner.isSome then decide (min ≠ .anon ∧ min.code ≤ x.role.code) else anyUnowned

/-- The three stages of R175: the role, the table of key positions and module states, the command's own conditions. -/
def State.checked (cmd : Nat) (role table : Bool) (own : Session → State → Answer) (x : Session) (s : State) : Answer :=
  if !role then refuseRec cmd 0x40 [] s
  else if !table then wrongState cmd x s
  else own x s

/-- A request that carries a command with the role and the table of R175 that it needs. `fits` tells whether the payload
has the command's layout; one that has not, or that is longer than 1,100 bytes, is MALFORMED (R432, R437). -/
def State.command (r : SmpReq) (fits : Bool) (min : Role) (anyUnowned : Bool) (table : State → Bool)
    (own : Session → State → Answer) (s : State) : State :=
  s.request r.sid r.req r.cmd fun x s => s.checked r.cmd (s.roleOk min anyUnowned x) (table s)
    (fun x s => if fits && decide (r.p.length ≤ 1100) then own x s else refuse 0x42 s) x

/-- A command outside the table of R175. -/
def anyState (_ : State) : Bool := true

def State.inProg (s : State) : Bool := decide (s.panel.key = .prog)

/-- A number of the payload: `n` bytes at `ofs`. -/
def SmpReq.num (r : SmpReq) (ofs n : Nat) : Nat := getN r.p ofs n

/-- The payload is exactly `n` bytes long. -/
def SmpReq.len (r : SmpReq) (n : Nat) : Bool := decide (r.p.length = n)

/-- Not after a failed self-test (R95, R175). -/
def State.tested (s : State) : Bool := s.boot.selftest != some false

/-- The codes of R437 that refuse a command; one of them, where no rule says which (log 62). -/
def refusalCodes : List Nat :=
  [0x01, 0x02, 0x03, 0x04, 0x05, 0x06, 0x07, 0x08, 0x09, 0x0A, 0x0B, 0x0C, 0x0D, 0x0E, 0x0F, 0x10, 0x11, 0x12,
   0x20, 0x21, 0x22, 0x23, 0x24, 0x25, 0x26, 0x30, 0x31, 0x32, 0x33, 0x34, 0x35, 0x36,
   0x40, 0x41, 0x42, 0x43, 0x44, 0x45, 0x46, 0x47]

def refuseFree (s : State) : Answer :=
  let (v, s1) := s.freeW32
  (s1, some (refusalCodes.getD (v.toNat % 40) 0x42, []))

end Sys2Proof.Machine
end

