-- ==== Sys2Proof/Machine/SmpCmdActs.lean ====
section
/-! DEFINITION. The SMP commands (R433): reads, the recorder, ownership, images, the online change, forces, modes, field
and pair commands. -/

namespace Sys2Proof.Machine

/-! ### Identity, status and reads (R433, R434) -/

/-- A register word as the management core reads it inside the module, without an access on the bus. -/
def State.peek (a : Nat) (s : State) : Nat := match regAt a with | some h => s.regValue .mgmt h % 2 ^ 32 | none => 0

/-- The signature (r, s) of an identity challenge: by the device key over the SHA-256 of 53h 58h 49h 44h, the nonce and
SEC_SERIAL (R98, R433). The number that ECDSA draws for each signature is free. -/
def State.identSig (nonce : List Byte) (s : State) : List Byte × State :=
  let k := Config.signNumber s.freeCtr % (p256N - 1) + 1
  let g := ecdsaSign s.boot.dev.key k (sha256 ([0x53, 0x58, 0x49, 0x44] ++ nonce ++ s.boot.serial))
  (beBytes 32 g.1 ++ beBytes 32 g.2, { s with freeCtr := s.freeCtr + 1 })

/-- The device certificate (R97). -/
def State.deviceCert (s : State) : List Byte := Machine.deviceCert s.boot.dev s.boot.build s.boot.serial

/-- SYS_ID to SYS_POWER, SEC_STATUS, ETH_STAT and PTP_STAT. -/
def statusAddrs : List Nat := [0x0000, 0x0004, 0x0008, 0x000C, 0x0400, 0x9000, 0x9040]

def State.statusBytes (s : State) : List Byte := statusAddrs.flatMap fun a => leBytes 4 (s.peek a)

/-- A read of registers checks the parity of the configuration among them (R142). -/
def State.checkParity (keys : List Nat) (s : State) : State :=
  (s.bus.parity.filter fun k => decide (k ∈ keys)).foldl (fun s k => s.parityDetect k) s

/-- ADDR, WIDTH and COUNT lie in their ranges (R433, R434). -/
def accessOk (width count : Nat) : Bool := decide (width = 1 ∨ width = 2 ∨ width = 4 ∨ width = 8) && decide (1 ≤ count ∧ count ≤ 128)

/-- COUNT reads in ascending order, each answered with its own code and WIDTH bytes (R124, R434). -/
def regReads (m : Master) (width : Nat) : Nat → Nat → State → List Byte × State
  | 0, _, s => ([], s)
  | n + 1, a, s =>
    let x := s.busRead m a width
    let y := regReads m width n (a + width) x.2.2
    (leBytes 1 x.1 ++ leBytes width x.2.1 ++ y.1, y.2)

/-- COUNT writes in ascending order, each answered with its own code. -/
def regWrites (m : Master) (width : Nat) : Nat → Nat → List Byte → State → List Byte × State
  | 0, _, _, s => ([], s)
  | n + 1, a, d, s =>
    let x := s.busWrite m a width (getN d 0 width)
    let y := regWrites m width n (a + width) (d.drop width) x.2
    (leBytes 1 x.1 ++ y.1, y.2)

/-- Values and quality bytes as hosts see them, slot by slot (R42, R43, log 63). -/
def State.slotBytes (first count : Nat) (s : State) : List Byte :=
  (rangeOf first count).flatMap fun i => let c := s.readSlot i; leBytes 4 c.1.toNat ++ [c.2]

/-! ### The recorder (R529, R530) -/

def insertByNum (e : Entry) : List Entry → List Entry
  | [] => [e]
  | x :: r => if e.num ≤ x.num then e :: x :: r else x :: insertByNum e r

/-- NEXT, OLDEST and up to `count` valid records from `from_` on, in ascending NUM. -/
def State.logBytes (from_ count : Nat) (s : State) : List Byte :=
  let all := (s.log.recs.map (·.2)).foldr insertByNum []
  let got := (all.filter fun e => decide (from_ ≤ e.num)).take count
  let next := match got.getLast? with | some e => e.num + 1 | none => from_
  let oldest := match all.head? with | some e => e.num | none => 0
  leBytes 4 next ++ leBytes 4 oldest ++ got.flatMap (·.bytes)

/-- ACKNUM rises to the smaller of NUM and the newest NUM (R530). -/
def State.logAck (num : Nat) (s : State) : State :=
  let n := max s.snap.ackNum (min num s.log.lastNum)
  ({ s with snap := { s.snap with ackNum := n } } : State).record 0x0204 0 0 (leBytes 4 n)

/-- The clear in progress completes, and its command is answered (R529). -/
def State.logCleared (s : State) : State :=
  match s.log.clear with
  | none => s
  | some (sid, req) => (s.finishClear fun _ => true).answer sid req 0 []

/-! ### Ownership (R99, R101) -/

def State.ownTable (s : State) : Bool := s.inProg && decide (s.mode = .unconfigured)

/-- The owner root is stored; every session closes (R99). -/
def State.enrol (cert : List Byte) (s : State) : State :=
  let fp := sha256 cert
  let s1 : State := { s with store := { s.store with owner := some (cert, fp) } }
  (s1.closeAll).record 0x0101 0 0 (fp.take 8)

/-- Ownership is released (R101). -/
def State.ownRelease (s : State) : State :=
  let s1 := s.closeAll
  let s2 : State := { s1 with
    store := { s1.store with copyA := {}, copyB := {}, candA := false, candB := false, selected := none, stage := {}
                             dup := none, commit := none, floor := 0, owner := none }
    barn := { s1.barn with banks := List.replicate s1.barn.banks.length {} }
    so := { s1.so with safeDigest := none, prevDigest := none, salt := [], verifier := [], safeLatch := false } }
  s2.record 0x0102 0 0 []

/-! ### Images (R115 to R120) -/

def State.setStage (g : Staging) (s : State) : State := { s with store := { s.store with stage := g } }

/-- The staging copy is erased and receives `len` bytes from a session, or from the partner. -/
def State.beginLoad (len : Nat) (by_ : Option Nat) (s : State) : State :=
  (s.setCopy s.stagingB {}).setStage { st := .receiving, len := len, sid := by_, lastData := s.clock }

/-- A commit's mark write is in progress (R120). -/
def State.marking (s : State) : Bool := s.store.commit.isSome

/-- Checks 1 to 12 in their load form (R113): the code, the failing TYPE and the image. -/
def State.loadChecks (s : State) : Nat × Nat × Option Image :=
  let b := s.store.stage.data
  if s.store.owner.isNone then (0x01, 0, none)
  else if !checkLength b || decide (b.length ≠ hdrImageLen b) then (0x02, 0, none)
  else if !checkFormat b then (0x03, 0, none)
  else if !checkChain s.ownerRoot b then (0x04, 0, none)
  else if !checkSignature s.ownerRoot b then (0x05, 0, none)
  else if 3 < hdrFlevel b then (0x06, 0, none)
  else if hdrSeq b ≤ s.store.floor ∧ ¬ (s.committed = true ∧ imageDigest b = s.img.digest) then (0x07, 0, none)
  else checkContent b s.boot.slot

def State.setLast (code ty : Nat) (s : State) : State := { s with store := { s.store with lastLoad := code, lastType := ty } }

/-- IMAGE_VERIFY's effect on a RECEIVED copy. -/
def State.verify (s : State) : Answer :=
  match s.loadChecks with
  | (_, _, some i) => ok ((s.setStage { s.store.stage with st := .verified, img := some i }).setLast 0 0)
  | (code, ty, none) => ((s.setLast code ty).abandonLoad 3 code ty, some (code, []))

/-- The partner answers with a committed image that does not make this slot the referee's (R118). -/
def State.mayAdopt (slotRef : Nat) (s : State) : Bool := s.store.owner.isSome && decide (s.boot.slot ≠ some slotRef)

/-- IMAGE_COMMIT's module states (R117, R175). -/
def State.commitTable (s : State) : Bool :=
  s.inProg && decide (s.mode = .unconfigured ∨ s.mode = .isolated ∨ s.mode = .referee) && s.tested

/-- The commit of a verified image under the safety core's check (R119, R468 to R470). -/
def State.commitImage (x : Session) (i : Image) (s : State) : Answer :=
  let d := safeDigestOf i
  let need := match s.so.safeDigest with | some y => decide (y ≠ d) | none => false
  if need && !x.unlocked s.clock then refuseRec 0x26 0x46 [] s
  else
    let s1 := s.storeSafe d i.seqNo (if need then x.fp else [])
    ok ((s1.modSession x.sid fun y => { y with unlock := none }).beginCommit false)

/-! ### The online change (R186, R187) -/

/-- The online change of this member, or on the STANDBY the one that the partner reports (R175, R485). -/
def State.olcAbortTable (s : State) : Bool :=
  (s.isActive && s.olcOn) ||
  (decide (s.mode = .standby) && (match s.pair.partner with | some h => !s.pair.silent && decide (h.olc ≠ 0) | none => false))

/-! ### Forces (R40, R436) -/

/-- The slot may be forced. -/
def State.forceable (i : Nat) (s : State) : Bool :=
  let e := s.entry i
  ownAssigned e && !ownSafety e && decide (ownFunc e ≠ 13 ∧ ownFunc e ≠ 15 ∧ ownFunc e ≠ 3)

def State.forced (i : Nat) (s : State) : Bool := s.forces.any fun p => decide (p.1 = i)

/-- FORCE: 1 set or 2 release, the session's role, the slot, the STATE or flag, the value (log 61). -/
def State.recordForce (kind : Nat) (x : Session) (slot st : Nat) (v : W32) (s : State) : State :=
  s.record 0x0012 0 0 (leBytes 1 kind ++ leBytes 1 x.role.code ++ leBytes 2 slot ++ leBytes 1 st ++ leBytes 4 v.toNat)

def State.setForce (i st : Nat) (v : W32) (s : State) : State :=
  { s with forces := insertKey i (v, mkQ st false false false ||| 0x20#8) s.forces }

/-- One force is released, or every force with flag 1; a slot that is not forced changes nothing. -/
def State.releaseForces (x : Session) (slot flag : Nat) (s : State) : State :=
  if flag = 1 then
    if s.forces = [] then s else ({ s with forces := [] } : State).recordForce 2 x slot flag 0
  else if s.forced slot then ({ s with forces := eraseKey slot s.forces } : State).recordForce 2 x slot flag 0
  else s

/-! ### Modes, time and eject (R84, R178, R181, R429) -/

/-- The SAFE latch is cleared and start-up runs again from copy selection (R178). -/
def State.safeClear (s : State) : State := ({ s with so := { s.so with safeLatch := false } } : State).restart

/-- System time and the real-time clock take the time given (R429). -/
def State.setTime (ns : W64) (s : State) : State :=
  { s with sysTime := ns.toNat * 2 ^ 32, boot := { s.boot with rtc := (ns.toNat : Rat), rtcValid := true, rtcSet := true } }

/-! ### HART and USL (R368, R433, R435) -/

/-- The channel is configured with HART. -/
def hartGiven (i : Image) (kind ch : Nat) : Bool :=
  if kind = 0 then (match aiCfg i ch with | some c => decide (c.hart ≠ 0) | none => false)
  else match aoCfg i ch with | some c => decide (c.hart ≠ 0) | none => false

def State.hartQueue (m : Modem) (q : HartReq) (s : State) : State := s.modModem m fun x => { x with queued := some q }

/-! ### Pair commands (R500, R502, R507) -/

/-- PAIR_SOLO's conditions (R497, R507). -/
def State.maySolo (s : State) : Bool :=
  decide (s.mode = .standby ∨ s.mode = .isolated) && s.mayOwn && s.pair.silent && s.pair.refLost

/-! ### Safe brake commands (R457, R463, R464, R469) -/

/-- SAFETY_UNLOCK: 0 success, 1 failure, 2 lockout (R469, log 67). -/
def State.recordUnlock (o : Nat) (s : State) : State := s.record 0x0D05 0 0 (leBytes 1 o)

/-- The password's check: the third wrong one in a row locks out for 300 s (R469). -/
def State.safetyUnlock (x : Session) (pwd : List Byte) (s : State) : Answer :=
  if s.pwdLocked then refuseRec 0x79 0x47 [] s
  else if s.pwdOk pwd then
    ok (({ s with so := { s.so with pwdFail := 0, pwdLock := none } } : State).modSession x.sid
      (fun y => { y with unlock := some s.clock }) |>.recordUnlock 0)
  else
    let n := (if s.so.pwdLock.isSome then 0 else s.so.pwdFail) + 1
    let s1 : State := { s with so := { s.so with pwdFail := n, pwdLock := if n = 3 then some s.clock else none } }
    refuseRec 0x79 0x47 [] (if n = 3 then (s1.recordUnlock 1).recordUnlock 2 else s1.recordUnlock 1)

/-! ### The commands (R433): each takes its request, checks it and answers -/

def State.identChallenge (r : SmpReq) (s : State) : State :=
  s.command r (r.len 32) .viewer true anyState fun _ s =>
    let g := s.identSig r.p
    (g.2, some (0, s.deviceCert ++ g.1))

def State.statusRead (r : SmpReq) (s : State) : State :=
  s.command r (r.len 0) .viewer true anyState fun _ s => (s.checkParity statusAddrs, some (0, s.statusBytes))

def State.logRead (r : SmpReq) (s : State) : State :=
  let n := r.num 4 1
  s.command r (r.len 5 && decide (1 ≤ n ∧ n ≤ 32)) .viewer true anyState fun _ s => (s, some (0, s.logBytes (r.num 0 4) n))

/-- REG_READ: ADDR, WIDTH and COUNT; the response stays within 1,100 bytes (R434). -/
def State.regRead (r : SmpReq) (s : State) : State :=
  let w := r.num 2 1
  let n := r.num 3 1
  s.command r (r.len 4 && accessOk w n && decide (n * (1 + w) ≤ 1100)) .viewer false anyState fun _ s =>
    let x := regReads (.host r.sid) w n (r.num 0 2) s
    (x.2, some (0, x.1))

/-- REG_WRITE: ADDR, WIDTH and COUNT, then the data (R434). -/
def State.regWrite (r : SmpReq) (s : State) : State :=
  let w := r.num 2 1
  let n := r.num 3 1
  s.command r (accessOk w n && r.len (4 + n * w)) .operator false anyState fun _ s =>
    let x := regWrites (.host r.sid) w n (r.num 0 2) (r.p.drop 4) s
    (x.2, some (0, x.1))

def State.slotRead (r : SmpReq) (s : State) : State :=
  let i := r.num 0 2
  let n := r.num 2 2
  s.command r (r.len 4 && decide (1 ≤ n ∧ n ≤ 128 ∧ i + n ≤ 65536)) .viewer false anyState fun _ s =>
    (s, some (0, s.slotBytes i n))

def State.logAckCmd (r : SmpReq) (s : State) : State :=
  s.command r (r.len 4) .operator false anyState fun _ s => ok (s.logAck (r.num 0 4))

/-- LOG_CLEAR begins the clear; it is answered when the clear ends (R529, log 64). -/
def State.logClear (r : SmpReq) (s : State) : State :=
  s.command r (r.len 0) .owner false anyState fun x s => (s.startClear r.sid r.req x.fp, none)

/-- OWNER_ENROL (R99). A session of an OWNED module is denied (log 65), and no rule gives the code that a bad certificate
is refused with (log 62). -/
def State.ownerEnrol (r : SmpReq) (s : State) : State :=
  s.command r true .anon true State.ownTable fun _ s =>
    if s.store.secFault then refuse 0x10 s else if rootOk r.p then ok (s.enrol r.p) else refuseFree s

def State.ownerRelease (r : SmpReq) (s : State) : State :=
  s.command r (r.len 0) .owner false State.ownTable fun _ s =>
    if s.store.secFault then refuse 0x10 s else ok s.ownRelease

def State.imageLoadBegin (r : SmpReq) (s : State) : State :=
  s.command r (r.len 4) .engineer false State.tested fun _ s =>
    if s.store.secFault || decide (s.store.stage.st ≠ .empty) || s.marking then refuse 0x10 s
    else if s.store.owner.isNone then refuse 0x01 s
    else if !lenInRange (r.num 0 4) then refuse 0x02 s
    else if s.store.dup.isSome then refuse 0x10 s
    else ok (s.beginLoad (r.num 0 4) (some r.sid))

def State.imageData (r : SmpReq) (s : State) : State :=
  let ofs := r.num 0 4
  let data := r.p.drop 4
  s.command r (decide (4 ≤ r.p.length ∧ data.length ≤ 1024)) .engineer false State.tested fun _ s =>
    let g := s.store.stage
    if g.st ≠ .receiving then refuse 0x10 s
    else if g.sid ≠ some r.sid ∨ ofs ≠ g.data.length then refuse 0x12 s
    else if g.len < ofs + data.length then refuse 0x10 s
    else ok (s.setStage { g with data := g.data ++ data, lastData := s.clock })

def State.imageLoadEnd (r : SmpReq) (s : State) : State :=
  s.command r (r.len 0) .engineer false State.tested fun _ s =>
    let g := s.store.stage
    if g.st = .receiving ∧ g.data.length = g.len then ok (s.setStage { g with st := .received }) else refuse 0x10 s

def State.imageVerify (r : SmpReq) (s : State) : State :=
  s.command r (r.len 0) .engineer false State.tested fun _ s =>
    if s.store.secFault || decide (s.store.stage.st ≠ .received) then refuse 0x10 s else s.verify

def State.imageAbort (r : SmpReq) (s : State) : State :=
  s.command r (r.len 0) .engineer false State.tested fun _ s =>
    if s.store.stage.st = .empty then refuse 0x10 s else ok (s.abandonLoad 1 0 0)

def State.imageAdopt (r : SmpReq) (s : State) : State :=
  s.command r (r.len 0) .engineer false (fun s => s.ownTable && s.tested) fun _ s =>
    match r.partner with
    | some (slotRef, len) =>
      if s.store.secFault || decide (s.store.stage.st ≠ .empty) || s.marking || s.store.dup.isSome || !s.mayAdopt slotRef then
        refuse 0x10 s
      else ok ((s.beginLoad len none).sendOnce .imgReq)
    | none => refuse 0x10 s

def State.imageCommit (r : SmpReq) (s : State) : State :=
  s.command r (r.len 0) .engineer false State.commitTable fun x s =>
    match s.store.stage.st, s.store.stage.img with
    | .verified, some i => if s.store.secFault then refuse 0x10 s else s.commitImage x i
    | _, _ => refuse 0x10 s

def State.olcPrepare (r : SmpReq) (s : State) : State :=
  s.command r (r.len 0) .engineer false (fun s => s.inProg && s.isActive && decide (s.olc.st = .none)) fun _ s =>
    match s.olcRefusal with
    | some (code, ty) => refuseRec 0x30 code (if code = 0x32 then leBytes 2 ty else []) s
    | none => ({ s with olc := { s.olc with st := .loading, t0 := s.clock, sid := r.sid, req := r.req } }, none)

def State.olcSwitch (r : SmpReq) (s : State) : State :=
  s.command r (r.len 0) .engineer false (fun s => s.inProg && s.isActive && decide (s.olc.st = .prepared)) fun _ s =>
    ok { s with olc := { s.olc with st := .draining, t0 := s.clock } }

/-- OLC_ABORT; no rule carries it from the STANDBY to the ACTIVE partner (log 66). -/
def State.olcAbortCmd (r : SmpReq) (s : State) : State :=
  s.command r (r.len 0) .engineer false State.olcAbortTable fun _ s => ok (s.olcAbort 0x36 1)

/-- FORCE_SET: SLOT, STATE, a zero byte, VALUE (R436). -/
def State.forceSet (r : SmpReq) (s : State) : State :=
  let i := r.num 0 2
  let st := r.num 2 1
  let v := BitVec.ofNat 32 (r.num 4 4)
  s.command r (r.len 8 && decide (r.num 3 1 = 0 ∧ (st = 0 ∨ st = 1 ∨ st = 3))) .engineer false
    (fun s => s.inProg && s.isActive) fun x s =>
    if !s.forceable i then refuseRec 0x40 0x43 [] s
    else if !s.forced i && decide (256 ≤ s.forces.length) then refuseRec 0x40 0x45 [] s
    else ok ((s.setForce i st v).recordForce 1 x i st v)

/-- FORCE_RELEASE: SLOT and a flag byte, 0 or 1 (R436). -/
def State.forceRelease (r : SmpReq) (s : State) : State :=
  s.command r (r.len 3 && decide (r.num 2 1 ≤ 1)) .operator false State.isActive fun x s =>
    ok (s.releaseForces x (r.num 0 2) (r.num 2 1))

def State.barnCheckpoint (r : SmpReq) (s : State) : State :=
  s.command r (r.len 0) .operator false
    (fun s => decide (s.mode = .active ∨ s.mode = .standby ∨ s.mode = .isolated ∨ s.mode = .safe)) fun _ s =>
    ok s.requestCheckpoint

def State.safeEnter (r : SmpReq) (s : State) : State :=
  s.command r (r.len 0) .operator false (fun s => decide (s.mode = .active ∨ s.mode = .standby ∨ s.mode = .isolated))
    fun _ s => ok (s.enterSafe 0xFF)

def State.safeClearCmd (r : SmpReq) (s : State) : State :=
  s.command r (r.len 0) .engineer false (fun s => s.inProg && decide (s.mode = .safe)) fun _ s => ok s.safeClear

/-- An eject request by command (R83, R84): one that is refused answers with a code that no rule gives (log 62). -/
def State.ejectCmd (r : SmpReq) (s : State) : State :=
  s.command r (r.len 0) .engineer false anyState fun _ s =>
    let s1 := s.ejectRequest
    if s.panel.eject = .none ∧ s1.panel.eject = .none then refuseFree s1 else ok s1

def State.timeSet (r : SmpReq) (s : State) : State :=
  s.command r (r.len 8) .engineer false anyState fun _ s =>
    if s.eth.ptp.st = 1 ∨ s.eth.ptp.st = 2 then refuse 0x44 s else ok (s.setTime (BitVec.ofNat 64 (r.num 0 8)))

/-- HART_PASS: KIND, CH, ADDR and the command number, one byte each, then the request data (R435, log 112). -/
def State.hartPass (r : SmpReq) (s : State) : State :=
  let kind := r.num 0 1
  let ch := r.num 1 1
  let data := r.p.drop 4
  s.command r (decide (4 ≤ r.p.length ∧ kind ≤ 1 ∧ data.length ≤ 251 ∧ r.num 2 1 ≤ 63)) .engineer false anyState fun _ s =>
    if !s.committed || !hartGiven s.img kind ch then refuse 0x24 s
    else match s.modem (modemOf (kind = 1) ch) with
      | none => refuse 0x24 s
      | some x =>
        if x.queued.isSome then refuse 0x10 s
        else (s.hartQueue x.modem
          { sid := r.sid, req := r.req, ch := ch, addr := r.num 2 1, cmd := r.num 3 1, data := data }, none)

/-- USL_ACK is an MGMT write of ACK in USL_CCTL; its response is that of the write (R137, R433). -/
def State.uslAckCmd (r : SmpReq) (s : State) : State :=
  s.command r (r.len 1 && decide (r.num 0 1 < 64)) .operator false anyState fun _ s =>
    let x := s.busWrite .mgmt (0x9600 + 4 * r.num 0 1) 4 1
    refuse x.1 x.2

def State.pairHandover (r : SmpReq) (s : State) : State :=
  s.command r (r.len 0) .engineer false anyState fun x s =>
    if s.mode = .active then
      let s1 := s.requestHandover 0
      if s.mayHandOver && s.pair.ho.isNone then ok s1 else wrongState 0x70 x s1
    else wrongState 0x70 x s

def State.pairSwaptest (r : SmpReq) (s : State) : State :=
  s.command r (r.len 0) .engineer false anyState fun x s =>
    if s.mode = .active ∧ s.inPair = true ∧ 0 < s.img.pair.swapInterval then ok s.swapStart else wrongState 0x71 x s

def State.pairClear (r : SmpReq) (s : State) : State :=
  s.command r (r.len 0) .engineer false anyState fun x s =>
    if s.pair.swapFail then ok { s with pair := { s.pair with swapFail := false } } else wrongState 0x72 x s

def State.pairSolo (r : SmpReq) (s : State) : State :=
  s.command r (r.len 0) .owner false anyState fun x s => if s.maySolo then ok (s.grant 6) else wrongState 0x73 x s

def State.brakeTest (r : SmpReq) (s : State) : State :=
  let k := r.num 0 1
  s.command r (r.len 1 && decide (k < 4)) .engineer false anyState fun x s =>
    if s.mayTest k then ok (s.testStart k) else wrongState 0x78 x s

def State.safetyUnlockCmd (r : SmpReq) (s : State) : State :=
  s.command r (decide (8 ≤ r.p.length ∧ r.p.length ≤ 32)) .engineer false anyState fun x s => s.safetyUnlock x r.p

/-- SO_CLEAR; the request tells whether a fault condition of R462 still stands. -/
def State.soClearCmd (r : SmpReq) (s : State) : State :=
  let k := r.num 0 1
  s.command r (r.len 1 && decide (k < 4)) .engineer false anyState fun x s =>
    if s.inProg && decide ((s.brake k).st = .faulted) && !r.stands then ok (s.soClear k) else wrongState 0x7A x s

/-! ### One request at a time (R432) -/

/-- A request by its CMD; a code that the module does not define is UNKNOWN_CMD (R433, R437). -/
def State.runSmp (s : State) (r : SmpReq) : State :=
  match r.cmd with
  | 0x01 => s.identChallenge r
  | 0x02 => s.statusRead r
  | 0x03 => s.logRead r
  | 0x04 => s.regRead r
  | 0x05 => s.regWrite r
  | 0x06 => s.slotRead r
  | 0x07 => s.logAckCmd r
  | 0x08 => s.logClear r
  | 0x10 => s.ownerEnrol r
  | 0x11 => s.ownerRelease r
  | 0x20 => s.imageLoadBegin r
  | 0x21 => s.imageData r
  | 0x22 => s.imageLoadEnd r
  | 0x23 => s.imageVerify r
  | 0x24 => s.imageAbort r
  | 0x25 => s.imageAdopt r
  | 0x26 => s.imageCommit r
  | 0x30 => s.olcPrepare r
  | 0x31 => s.olcSwitch r
  | 0x32 => s.olcAbortCmd r
  | 0x40 => s.forceSet r
  | 0x41 => s.forceRelease r
  | 0x50 => s.barnCheckpoint r
  | 0x51 => s.safeEnter r
  | 0x52 => s.safeClearCmd r
  | 0x53 => s.ejectCmd r
  | 0x54 => s.timeSet r
  | 0x60 => s.hartPass r
  | 0x61 => s.uslAckCmd r
  | 0x70 => s.pairHandover r
  | 0x71 => s.pairSwaptest r
  | 0x72 => s.pairClear r
  | 0x73 => s.pairSolo r
  | 0x78 => s.brakeTest r
  | 0x79 => s.safetyUnlockCmd r
  | 0x7A => s.soClearCmd r
  | _ => s.request r.sid r.req r.cmd fun _ s => refuse 0x41 s

/-- A request is in execution whose command has not ended: a clear, or an OLC_PREPARE that loads. A HART_PASS ends with its
place in the modem's queue: a second one for the modem is still refused BUSY while it waits there (R368). -/
def State.smpBusy (s : State) : Bool := s.log.clear.isSome || decide (s.olc.st = .loading)

/-- A request is executed, or waits for the one in execution (R432). -/
def State.serve (r : SmpReq) (s : State) : State :=
  if s.smpOn && (s.smpBusy || !s.waiting.isEmpty) then
    { s.heard r.sid with waiting := s.waiting ++ [r] }
  else s.runSmp r

/-- Requests that wait are executed in their order until one does not end at once. -/
def State.serveNext : Nat → State → State
  | 0, s => s
  | n + 1, s =>
    match s.waiting with
    | r :: rs => if s.smpBusy then s else State.serveNext n (({ s with waiting := rs } : State).runSmp r)
    | [] => s

def State.serveWaiting (s : State) : State := s.serveNext s.waiting.length

end Sys2Proof.Machine
end

