-- ==== Sys2Proof/Machine/Tick.lean ====
section
/-! DEFINITION. The tick: deadlines that expire in it and what its end settles (R17, R45), and the passing of time. -/

namespace Sys2Proof.Machine

/-! ### Deadlines (R17) -/

/-- The tick in which a deadline expires, where it stands. -/
def State.deadline (e : Expiry) (s : State) : Option Nat :=
  match e with
  | .harvest | .windowEnd => some s.clock
  | .stationSync ch => some (s.syncAt ch + rioLead s.img ch)
  | .stationHold ch =>
    if (rioCfgs s.img ch).any fun c => (s.station ch c.addr).any fun x => x.stale.any fun t => decide (t + c.hold = s.clock)
    then some s.clock else none
  | .uslWatchdog c | .uslAck c => (s.usl1 c).bind (·.wd)
  | .olcDrain => some (s.olc.t0 + drainLimit s.img)
  | .olcIdle => some (s.olc.t0 + secTicks 600)
  | .domain d => (s.domExpiry d).map (·.toNat)
  | .noFeedback n => match s.msSlot n, msCfg s.img n with
    | some m, some c => m.wait.map fun f => f + (syncOf s.img c).ctMax + 400000
    | _, _ => none
  | .laneDown lane => some (max (if lane = 0 then s.pair.rx0 else s.pair.rx1) s.boot.endTick + usTicks 200)
  | .partnerSilent => some (max s.pair.rxTick s.boot.endTick + s.img.pair.plTimeout)
  | .refereeAbsent => some (max s.pair.refTick s.boot.endTick + usTicks 1500)
  | .ownerStuck => s.pair.takeover.map fun g => g.granted + msTicks 20
  | .selfElect => s.pair.electSince.map (· + msTicks 100)
  | .loadTimeout => some (s.store.stage.lastData + secTicks 60)
  | .ejectTimeout => match s.panel.eject with
    | .preparing t _ _ => some (t + secTicks 2)
    | _ => none
  | .hartAttempt m => (s.modem m).bind fun x => x.run.map fun r => r.2.2.2 + msTicks 500
  | .hartStale k => match s.img.fld.hart[k]?, s.fld.hlast[k]? with
    | some e, some (some t, _) => some (t + msTicks (hstaleOf s.img e))
    | _, _ => none
  | .aoFrame n => (s.ao n).lastFrame.map (· + usTicks 100)
  | .aoHold n => (s.ao n).lastFrame.map (· + msTicks (s.ao n).holdMs)
  | .announce e2 => (s.eth.ptp.best e2).map fun p => p.2 + 3 * p.1.every
  | .sessionIdle sid => (s.session sid).map fun x => x.lastRec + secTicks 30
  | .tollgate m => (s.win m).tgOpen.map (· + msTicks 1)
  | .unlock sid => ((s.session sid).bind (·.unlock)).map (· + secTicks 600)

/-- What an expired deadline does; each operation tests that the deadline still stands. -/
def Expiry.run (e : Expiry) (s : State) : State :=
  match e with
  | .harvest => s.harvestEnd
  | .windowEnd => s.windowEnd
  | .stationSync ch => s.rioSyncTimeout ch
  | .stationHold ch => s.rioHoldExpire ch
  | .uslWatchdog c => s.uslExpire c
  | .uslAck c => s.uslAckTimeout c
  | .olcDrain => s.olcDrain
  | .olcIdle => s.olcIdle
  | .domain d => s.domTimeout d
  | .noFeedback n => s.closeSilent n
  | .laneDown lane => s.laneDown lane
  | .partnerSilent => s.partnerSilent
  | .refereeAbsent => s.refereeAbsent
  | .ownerStuck => s.ownerStuck
  | .selfElect => s.selfElect
  | .loadTimeout => s.loadTimeout
  | .ejectTimeout => s.ejectTimeout
  | .hartAttempt m => s.hartTimeout m
  | .hartStale k => s.hartStale k
  | .aoFrame n => s.aoFrameTimeout n
  | .aoHold n => s.aoHoldExpire n
  | .announce e2 => s.announceTimeout e2
  | .sessionIdle sid => s.sessionIdle sid
  | .tollgate m => s.gateExpire m
  | .unlock sid => s.unlockExpire sid

/-- A deadline's row: a deadline of this very tick waits for the tick's end, one that lies in the past acts now (R17). -/
def State.expire (e : Expiry) (s : State) : State :=
  if s.deadline e = some s.clock then { s with expiring := s.expiring ++ [e] } else e.run s

/-! ### The end of a tick, and time (R16, R17, R45) -/

/-- The deadlines of the tick act, and what follows a command follows them. -/
def State.runExpiring (s : State) : State :=
  if s.expiring.isEmpty then s
  else finish (s.expiring.foldl (fun s e => e.run s) { s with expiring := [] })

/-- The configuration words that the loop contexts which sample in this tick read: LOOP_CTL, LOOP_MAN and the coefficients. -/
def State.loopReads (s : State) : List Nat :=
  (s.loop.ctxs.filter fun x => x.latch.any fun l => decide (l.trig = s.clock)).flatMap fun x =>
    [0x3000 + 0x40 * x.n, 0x3010 + 0x40 * x.n] ++ rangeOf (0x10000 + 64 * x.n) 64

/-- The loop engine reads the configuration of the contexts that sample: its parity is checked (R142). -/
def State.loopParity (s : State) : State :=
  if s.bus.parity.isEmpty then s else finish (s.checkParity s.loopReads)

/-- The end of a tick. -/
def State.endTick (s : State) : State := s.runExpiring.loopRelatch.loopParity.fixViews

/-- Requests that have waited for the one in execution, and what follows them. -/
def State.serveRest (s : State) : State := if s.waiting.isEmpty then s else finish s.serveWaiting

/-- `dt` ticks pass before a command. With `dt` 0 the tick goes on. -/
def State.advance (dt : Nat) (s : State) : State :=
  let s1 := ({ s with out := [] } : State).serveRest
  if dt = 0 then s1 else (s1.endTick.elapse dt).prpForget.tickD7

end Sys2Proof.Machine
end

