-- ==== Sys2Proof/Machine/Brake.lean ====
section
/-! DEFINITION. The commands of safe brake control: one meaning for each row. -/

namespace Sys2Proof.Machine

def execBrakeOn (dt ch : Nat) (fsOk : Bool) (s : State) : Host.Outcome State Fault Refusal :=
  done (((s.advance dt).setFsSq fsOk).brakeOn ch)

def execBrakeDemand (dt ch : Nat) (fsOk : Bool) (s : State) : Host.Outcome State Fault Refusal :=
  done ((s.advance dt).brakeDemandIn ch fsOk)

def execTestPulseStart (dt ch : Nat) (s : State) : Host.Outcome State Fault Refusal := done ((s.advance dt).brakePulseStart ch)

def execTestPulseCheck (dt ch : Nat) (off : Bool) (s : State) : Host.Outcome State Fault Refusal :=
  done ((s.advance dt).soFaultSwap ch (·.brakePulseCheck ch off))

def execTestPulseEnd (dt ch : Nat) (s : State) : Host.Outcome State Fault Refusal :=
  done ((s.advance dt).soFaultSwap ch (·.brakePulseEnd ch))

def execTestPulseOverdue (dt ch : Nat) (s : State) : Host.Outcome State Fault Refusal :=
  done ((s.advance dt).soFaultSwap ch (·.brakePulseOverdue ch))

def execBrakeChannelFault (dt ch cause mA vhs vls : Nat) (s : State) : Host.Outcome State Fault Refusal :=
  done ((s.advance dt).soFaultSwap ch (·.brakeMeasure ch cause mA vhs vls))

def execBrakeTestPhaseEnd (dt ch : Nat) (ok : Bool) (s : State) : Host.Outcome State Fault Refusal :=
  done ((s.advance dt).soFaultSwap ch (·.testPhase ch ok))

def execTestDue (dt ch : Nat) (s : State) : Host.Outcome State Fault Refusal := done ((s.advance dt).testDue ch)

def execSafetyUnlockExpire (dt sid : Nat) (s : State) : Host.Outcome State Fault Refusal := done ((s.advance dt).expire (.unlock sid))

def execSafetyPwdLockoutEnd (dt : Nat) (s : State) : Host.Outcome State Fault Refusal := done (s.advance dt).pwdLockEnd

end Sys2Proof.Machine
end

