-- ==== Sys2Proof/Machine/Can.lean ====
section
/-! DEFINITION. The commands of the CAN channels: one meaning for each row. -/

namespace Sys2Proof.Machine

def execCanIntegrated (dt ch : Nat) (s : State) : Host.Outcome State Fault Refusal := done ((s.advance dt).canIntegrated ch)

def execCanArbitration (dt ch : Nat) (s : State) : Host.Outcome State Fault Refusal := done ((s.advance dt).canArbitrate ch)

def execCanTxAttemptEnd (dt ch : Nat) (res : TxEnd) (more tdcv : Nat) (s : State) : Host.Outcome State Fault Refusal :=
  done ((s.advance dt).canAttemptEnd ch res more tdcv)

def execCanBusoffRecovered (dt ch : Nat) (s : State) : Host.Outcome State Fault Refusal := done ((s.advance dt).canBack ch)

def execCanFrameReceived (dt ch : Nat) (frame : CanFrame) (s : State) : Host.Outcome State Fault Refusal :=
  done ((s.advance dt).canReceive ch frame)

def execCanRioInputFrame (dt ch : Nat) (frame : CanFrame) (s : State) : Host.Outcome State Fault Refusal :=
  done ((s.advance dt).canReceive ch frame)

def execCanRioSyncReceived (dt ch : Nat) (frame : CanFrame) (s : State) : Host.Outcome State Fault Refusal :=
  done ((s.advance dt).canReceive ch frame)

def execCanRioOutputReceived (dt ch : Nat) (frame : CanFrame) (s : State) : Host.Outcome State Fault Refusal :=
  done ((s.advance dt).canReceive ch frame)

def execStationSyncTimeout (dt ch : Nat) (s : State) : Host.Outcome State Fault Refusal := done ((s.advance dt).expire (.stationSync ch))

def execStationHoldExpire (dt ch : Nat) (s : State) : Host.Outcome State Fault Refusal := done ((s.advance dt).expire (.stationHold ch))

def execCanReceiveError (dt ch : Nat) (primary : Bool) (more : Nat) (s : State) : Host.Outcome State Fault Refusal :=
  done ((s.advance dt).canRecvError ch primary more)

end Sys2Proof.Machine
end

