-- ==== Sys2Proof/Machine/Cycle.lean ====
section
/-! DEFINITION. The commands of the program cycle: one meaning for each row. -/

namespace Sys2Proof.Machine

def execHarvest (dt : Nat) (s : State) : Host.Outcome State Fault Refusal := done (s.advance dt).harvest

def execEvaluationBegin (dt : Nat) (s : State) : Host.Outcome State Fault Refusal := done (s.advance dt).evalBegin

def execBlockEvaluate (dt : Nat) (agree : Bool) (s : State) : Host.Outcome State Fault Refusal :=
  done ((s.advance dt).blockEvaluate agree)

def execWindowEnd (dt : Nat) (s : State) : Host.Outcome State Fault Refusal := done ((s.advance dt).expire .windowEnd)

def execDeliver (dt : Nat) (disagree : List Nat) (s : State) : Host.Outcome State Fault Refusal :=
  done ((s.advance dt).deliverNow disagree)

def execCheckpointDeferEnd (dt : Nat) (s : State) : Host.Outcome State Fault Refusal := done (s.advance dt).checkpointDue

def execBarnSaveDone (dt : Nat) (s : State) : Host.Outcome State Fault Refusal := done (s.advance dt).saveDone

/-- SYNC of a master channel: CAN 0 to 3, Ethernet 4 (R167). -/
def execSyncSend (dt ch : Nat) (s : State) : Host.Outcome State Fault Refusal :=
  let s1 := s.advance dt
  done (if ch < 4 then s1.canSync ch else s1.ethSync)

/-- The sequencers' read signatures are compared every 400,000 ticks (R510). -/
def execSignatureCompare (dt : Nat) (agree : Bool) (s : State) : Host.Outcome State Fault Refusal :=
  let s1 := s.advance dt
  done (if agree || !s1.isActive then s1 else s1.seqFault 1)

def execOlcPrepared (dt : Nat) (s : State) : Host.Outcome State Fault Refusal := done (s.advance dt).olcLoaded

def execOlcDrainLimit (dt : Nat) (s : State) : Host.Outcome State Fault Refusal := done ((s.advance dt).expire .olcDrain)

def execOlcPrepareTimeout (dt : Nat) (s : State) : Host.Outcome State Fault Refusal := done ((s.advance dt).expire .olcIdle)

/-- The notice's `ts` is the switch's harvest number. -/
def execSwitchNotice (dt lane ts : Nat) (s : State) : Host.Outcome State Fault Refusal :=
  done (((s.advance dt).linkIn lane).switchNotice ts)

end Sys2Proof.Machine
end

