-- ==== Sys2Proof/Machine/DiagCmds.lean ====
section
/-! DEFINITION. The commands of diagnostics, ladder and recorder: one meaning for each row. -/

namespace Sys2Proof.Machine

def execClockCheck (dt : Nat) (ofSafety : Bool) (count : Nat) (s : State) : Host.Outcome State Fault Refusal :=
  done ((s.advance dt).clockCheck ofSafety count)

def execMgmtWatchdogExpire (dt : Nat) (s : State) : Host.Outcome State Fault Refusal := done (s.advance dt).mgmtStall

def execSafetySelftest (dt : Nat) (ok : Bool) (s : State) : Host.Outcome State Fault Refusal :=
  let s1 := s.advance dt
  done (if ok || !s1.running then s1 else s1.moduleFault 3 0 true)

def execCheckerTest (dt : Nat) (ok : Bool) (s : State) : Host.Outcome State Fault Refusal :=
  done ((s.advance dt).checkerTest ok)

def execScrubWord (dt : Nat) (loc : MemLoc) (p1 p2 same : Bool) (s : State) : Host.Outcome State Fault Refusal :=
  done ((s.advance dt).scrubWord loc p1 p2 same)

def execFunctionRung (dt f : Nat) (unit : Option Nat) (s : State) : Host.Outcome State Fault Refusal :=
  done ((s.advance dt).takeRung f unit)

def execModuleRung (dt : Nat) (s : State) : Host.Outcome State Fault Refusal := done (s.advance dt).takeModuleRung

def execLadderWindowExpire (dt : Nat) (f unit : Option Nat) (s : State) : Host.Outcome State Fault Refusal :=
  done ((s.advance dt).ladderWindow f unit)

def execResetRelease (dt r1 r2 r3 : Nat) (s : State) : Host.Outcome State Fault Refusal :=
  done ((s.advance dt).resetRelease r1 r2 r3)

def execPcycReqEnd (dt : Nat) (s : State) : Host.Outcome State Fault Refusal := done (s.advance dt).pcycEnd

def execPcycIgnored (dt : Nat) (s : State) : Host.Outcome State Fault Refusal := done (s.advance dt).pcycIgnored

def execRecordWriteDone (dt : Nat) (s : State) : Host.Outcome State Fault Refusal := done (s.advance dt).writeDone

end Sys2Proof.Machine
end

