-- ==== Sys2Proof/Machine/Eth.lean ====
section
/-! DEFINITION. The commands of Ethernet and PTP: one meaning for each row. -/

namespace Sys2Proof.Machine

def execEthLinkChange (dt : Nat) (e2 : Bool) (speed : Nat) (s : State) : Host.Outcome State Fault Refusal :=
  done ((s.advance dt).ethLink e2 speed)

def execPrpSupervisionSend (dt : Nat) (s : State) : Host.Outcome State Fault Refusal := done ((s.advance dt).prpSupervise)

def execEthRioInputFrame (dt : Nat) (rx : EthRx) (src : W32) (bytes : List Byte) (s : State) : Host.Outcome State Fault Refusal :=
  done ((s.advance dt).ethIn rx bytes.length (State.ethRioInput src bytes))

def execEthRioSyncReceived (dt : Nat) (rx : EthRx) (src : W32) (bytes : List Byte) (s : State) : Host.Outcome State Fault Refusal :=
  done ((s.advance dt).ethIn rx bytes.length (State.ethRioSync src bytes))

def execEthRioOutputReceived (dt : Nat) (rx : EthRx) (src : W32) (bytes : List Byte) (s : State) : Host.Outcome State Fault Refusal :=
  done ((s.advance dt).ethIn rx bytes.length (State.ethRioOutput src bytes))

def execEthStopReceived (dt : Nat) (rx : EthRx) (src : W32) (addr : Nat) (s : State) : Host.Outcome State Fault Refusal :=
  done ((s.advance dt).ethIn rx 8 (State.ethStop src addr))

def execPtpOffsetMeasured (dt : Nat) (origin : Int) (delay ago : Nat) (s : State) : Host.Outcome State Fault Refusal :=
  done ((s.advance dt).offsetMeasured origin delay ago)

def execPtpAnnounceTimeout (dt : Nat) (e2 : Bool) (s : State) : Host.Outcome State Fault Refusal :=
  done ((s.advance dt).expire (.announce e2))

def execPtpAnnounceReceived (dt : Nat) (e2 : Bool) (msg : Announce) (s : State) : Host.Outcome State Fault Refusal :=
  done ((s.advance dt).announce e2 msg)

def execRtcDiscipline (dt rtc : Nat) (s : State) : Host.Outcome State Fault Refusal := done ((s.advance dt).rtcDiscipline rtc)

def execRtcWrite (dt : Nat) (s : State) : Host.Outcome State Fault Refusal := done ((s.advance dt).rtcWrite)

def execArpRequest (dt : Nat) (rx : EthRx) (ip : W32) (s : State) : Host.Outcome State Fault Refusal :=
  done ((s.advance dt).arpAnswer rx ip)

def execIcmpEchoRequest (dt : Nat) (rx : EthRx) (ip : W32) (s : State) : Host.Outcome State Fault Refusal :=
  done ((s.advance dt).icmpAnswer rx ip)

end Sys2Proof.Machine
end

