-- ==== Sys2Proof/Machine/Field.lean ====
section
/-! DEFINITION. The commands of the field channels and HART: one meaning for each row. -/

namespace Sys2Proof.Machine

def execAiScan (dt : Nat) (fsOk : Bool) (xs : List (Nat × Int)) (s : State) : Host.Outcome State Fault Refusal :=
  done ((s.advance dt).aiScan fsOk xs)

def execAiSampleCommit (dt ch : Nat) (fsOk : Bool) (x : Int) (s : State) : Host.Outcome State Fault Refusal :=
  done ((s.advance dt).aiCommit ch fsOk x)

def execAiRefCheck (dt ch : Nat) (bad : Bool) (s : State) : Host.Outcome State Fault Refusal :=
  done ((s.advance dt).aiRefCheck ch bad)

def execHartTransactionStart (dt : Nat) (modem : Modem) (s : State) : Host.Outcome State Fault Refusal :=
  done ((s.advance dt).hartStart modem)

def execHartResponse (dt : Nat) (modem : Modem) (commErr : Bool) (devStatus : Byte) (vars : List F32) (bytes : List Byte)
    (s : State) : Host.Outcome State Fault Refusal :=
  done ((s.advance dt).hartResponse modem commErr devStatus vars bytes)

def execHartAttemptTimeout (dt : Nat) (modem : Modem) (s : State) : Host.Outcome State Fault Refusal :=
  done ((s.advance dt).expire (.hartAttempt modem))

def execHartStale (dt entry : Nat) (s : State) : Host.Outcome State Fault Refusal := done ((s.advance dt).expire (.hartStale entry))

def execAoFrame (dt ch : Nat) (s : State) : Host.Outcome State Fault Refusal := done ((s.advance dt).aoFrame ch)

def execAoFrameTimeout (dt ch : Nat) (s : State) : Host.Outcome State Fault Refusal := done ((s.advance dt).expire (.aoFrame ch))

def execAoHoldExpire (dt ch : Nat) (s : State) : Host.Outcome State Fault Refusal := done ((s.advance dt).expire (.aoHold ch))

def execAoLoopPower (dt ch : Nat) (s : State) : Host.Outcome State Fault Refusal := done ((s.advance dt).aoPower ch)

def execAoMeasure (dt ch : Nat) (fsOk : Bool) (uA v10mV : Nat) (s : State) : Host.Outcome State Fault Refusal :=
  done ((s.advance dt).aoMeasure ch fsOk uA v10mV)

def execAoCompliance (dt ch uA v10mV : Nat) (s : State) : Host.Outcome State Fault Refusal :=
  done ((s.advance dt).aoCompliance ch uA v10mV)

def execAoComplianceClear (dt ch : Nat) (s : State) : Host.Outcome State Fault Refusal :=
  done ((s.advance dt).aoComplianceClear ch)

def execAoDeviation (dt ch : Nat) (s : State) : Host.Outcome State Fault Refusal := done ((s.advance dt).aoDeviation ch)

def execAoChannelNoFrame (dt ch : Nat) (s : State) : Host.Outcome State Fault Refusal := done ((s.advance dt).aoNoFrame ch)

def execAoClockStep (dt ch uA : Nat) (s : State) : Host.Outcome State Fault Refusal := done ((s.advance dt).aoClockStep ch uA)

def execAoTestWorkDone (dt ch : Nat) (ok : Bool) (s : State) : Host.Outcome State Fault Refusal :=
  done ((s.advance dt).aoTestDone ch ok)

def execDioInputAccept (dt ch : Nat) (level : Bool) (ago : Nat) (s : State) : Host.Outcome State Fault Refusal :=
  done ((s.advance dt).dioAccept ch level ago)

def execDioSupplyLoss (dt : Nat) (groupB : Bool) (s : State) : Host.Outcome State Fault Refusal :=
  done ((s.advance dt).dioSupply groupB false)

def execDioSupplyReturn (dt : Nat) (groupB : Bool) (s : State) : Host.Outcome State Fault Refusal :=
  done ((s.advance dt).dioSupply groupB true)

def execDioOverload (dt ch : Nat) (s : State) : Host.Outcome State Fault Refusal := done ((s.advance dt).dioFail ch 1)

def execDioMismatch (dt ch : Nat) (s : State) : Host.Outcome State Fault Refusal := done ((s.advance dt).dioFail ch 2)

def execDioOpenload (dt ch : Nat) (s : State) : Host.Outcome State Fault Refusal := done ((s.advance dt).dioFail ch 3)

end Sys2Proof.Machine
end

