-- ==== Sys2Proof/Machine/Loop.lean ====
section
/-! DEFINITION. The commands of the loop engine: one meaning for each row. -/

namespace Sys2Proof.Machine

def execLoopTimeTrigger (dt ctx : Nat) (s : State) : Host.Outcome State Fault Refusal := done ((s.advance dt).loopTime ctx)

def execLoopSampleBegin (dt : Nat) (s : State) : Host.Outcome State Fault Refusal := done (s.advance dt).loopBegin

def execLoopSampleCommit (dt : Nat) (agree : Bool) (s : State) : Host.Outcome State Fault Refusal :=
  done ((s.advance dt).loopEnd agree)

def execLoopSampleMissed (dt ctx : Nat) (s : State) : Host.Outcome State Fault Refusal := done ((s.advance dt).loopMissed ctx)

end Sys2Proof.Machine
end

