-- ==== Sys2Proof/Machine/Ms.lean ====
section
/-! DEFINITION. The commands of the milestone scheduler: one meaning for each row. -/

namespace Sys2Proof.Machine

def execToothEdge (dt d frac : Nat) (bHigh : Bool) (s : State) : Host.Outcome State Fault Refusal :=
  let s1 := s.advance dt
  done (s1.toothEdge d (s1.stamp frac) bHigh)

def execCamMarkerEdge (dt d : Nat) (s : State) : Host.Outcome State Fault Refusal := done ((s.advance dt).camEdge d)

def execQuadRefEdge (dt d : Nat) (s : State) : Host.Outcome State Fault Refusal := done ((s.advance dt).quadRef d)

/-- `f4` and `f5` place the timestamps of the two phases within the tick that ends here (R237, R240). -/
def execBvPhaseUpdate (dt ph4 ph5 f4 f5 : Nat) (u0 u1 : F64) (s : State) : Host.Outcome State Fault Refusal :=
  let s1 := s.advance dt
  done (s1.phaseUpdate ph4 ph5 (s1.stamp f4) (s1.stamp f5) u0 u1)

def execDomainTimeout (dt d : Nat) (s : State) : Host.Outcome State Fault Refusal := done ((s.advance dt).expire (.domain d))

def execDirRefChange (dt d : Nat) (s : State) : Host.Outcome State Fault Refusal := done ((s.advance dt).dirChange d)

def execMilestoneFire (dt slot : Nat) (s : State) : Host.Outcome State Fault Refusal := done ((s.advance dt).msCrossing slot)

def execPulseEnd (dt slot : Nat) (s : State) : Host.Outcome State Fault Refusal := done ((s.advance dt).pulseEnd slot)

def execSyncCloseFeedback (dt slot : Nat) (s : State) : Host.Outcome State Fault Refusal := done ((s.advance dt).closeFeedback slot)

def execSyncNoFeedback (dt slot : Nat) (s : State) : Host.Outcome State Fault Refusal := done ((s.advance dt).expire (.noFeedback slot))

def execTrackerCompare (dt : Nat) (agree : Bool) (s : State) : Host.Outcome State Fault Refusal :=
  done ((s.advance dt).trackers agree)

end Sys2Proof.Machine
end

