-- ==== Sys2Proof/Machine/PairCmds.lean ====
section
/-! DEFINITION. The commands of the pair and the referee: one meaning for each row. -/

namespace Sys2Proof.Machine

def execHelloSend (dt : Nat) (s : State) : Host.Outcome State Fault Refusal := done (s.advance dt).sendHello

def execHelloReceived (dt lane : Nat) (hello : Hello) (s : State) : Host.Outcome State Fault Refusal :=
  done ((s.advance dt).helloIn lane hello)

def execLaneDown (dt lane : Nat) (s : State) : Host.Outcome State Fault Refusal := done ((s.advance dt).expire (.laneDown lane))

def execPartnerSilent (dt : Nat) (s : State) : Host.Outcome State Fault Refusal := done ((s.advance dt).expire .partnerSilent)

def execPairFormed (dt : Nat) (s : State) : Host.Outcome State Fault Refusal := done (s.advance dt).pairFormed

def execTakeover (dt : Nat) (s : State) : Host.Outcome State Fault Refusal := done (s.advance dt).takeOver

def execSingleActivate (dt : Nat) (s : State) : Host.Outcome State Fault Refusal := done (s.advance dt).singleActivate

def execOwnerStuck (dt : Nat) (s : State) : Host.Outcome State Fault Refusal := done ((s.advance dt).expire .ownerStuck)

def execOwnerMismatch (dt : Nat) (s : State) : Host.Outcome State Fault Refusal := done (s.advance dt).ownerMismatch

def execPairSelfElect (dt : Nat) (s : State) : Host.Outcome State Fault Refusal := done ((s.advance dt).expire .selfElect)

def execMirrorFrameReceived (dt lane : Nat) (msg : MirrorMsg) (s : State) : Host.Outcome State Fault Refusal :=
  done ((s.advance dt).mirrorIn lane msg)

def execShadowSend (dt : Nat) (s : State) : Host.Outcome State Fault Refusal := done (s.advance dt).sendShadows

def execShadowReceived (dt lane : Nat) (ok : Bool) (sh : Shadow) (s : State) : Host.Outcome State Fault Refusal :=
  done ((s.advance dt).shadowIn lane ok sh)

def execMirrorSnapshot (dt : Nat) (s : State) : Host.Outcome State Fault Refusal := done (s.advance dt).mirrorSnapshot

def execOfferNotice (dt lane hx : Nat) (swap : Bool) (s : State) : Host.Outcome State Fault Refusal :=
  done (((s.advance dt).linkIn lane).offer hx swap)

def execAcceptNotice (dt lane : Nat) (s : State) : Host.Outcome State Fault Refusal :=
  done ((s.advance dt).linkIn lane).accept

def execDeclineNotice (dt lane : Nat) (s : State) : Host.Outcome State Fault Refusal :=
  done ((s.advance dt).linkIn lane).decline

def execRelinquishNotice (dt lane cause : Nat) (s : State) : Host.Outcome State Fault Refusal :=
  done (((s.advance dt).linkIn lane).relinquished cause)

def execSafeNotice (dt lane : Nat) (s : State) : Host.Outcome State Fault Refusal :=
  done ((s.advance dt).linkIn lane).safeNotice

def execHandoverTx (dt : Nat) (s : State) : Host.Outcome State Fault Refusal := done (s.advance dt).handoverTx

def execRevertStart (dt : Nat) (s : State) : Host.Outcome State Fault Refusal := done (s.advance dt).revertStart

def execSwapTestStart (dt : Nat) (s : State) : Host.Outcome State Fault Refusal := done (s.advance dt).swapTimer

def execSwapDwellEnd (dt : Nat) (s : State) : Host.Outcome State Fault Refusal := done (s.advance dt).swapDwellEnd

def execImgreq (dt lane : Nat) (s : State) : Host.Outcome State Fault Refusal :=
  done ((s.advance dt).linkIn lane).imgReq

def execImgdata (dt lane ofs : Nat) (data : List Byte) (s : State) : Host.Outcome State Fault Refusal :=
  done (((s.advance dt).linkIn lane).imgData ofs data)

def execRoundStart (dt : Nat) (s : State) : Host.Outcome State Fault Refusal := done (s.advance dt).roundStart

def execStatusSend (dt : Nat) (s : State) : Host.Outcome State Fault Refusal := done (s.advance dt).sendStatus

def execStatusReceived (dt : Nat) (msg : StatusMsg) (us : Nat) (s : State) : Host.Outcome State Fault Refusal :=
  done ((s.advance dt).statusIn msg us)

def execRoundReceived (dt : Nat) (msg : RoundMsg) (s : State) : Host.Outcome State Fault Refusal :=
  done ((s.advance dt).roundIn msg)

def execRefereeAbsent (dt : Nat) (s : State) : Host.Outcome State Fault Refusal := done ((s.advance dt).expire .refereeAbsent)

end Sys2Proof.Machine
end

