-- ==== Sys2Proof/Machine/Power.lean ====
section
/-! DEFINITION. The commands of power, plugging, key and eject request: one meaning for each row. -/

namespace Sys2Proof.Machine

def execMateClose (dt : Nat) (s : State) : Host.Outcome State Fault Refusal := done (s.advance dt).mateClose

def execMateContactOpen (dt : Nat) (mate2 : Bool) (s : State) : Host.Outcome State Fault Refusal :=
  done ((s.advance dt).mateOpen mate2)

def execPresenceAccepted (dt : Nat) (s : State) : Host.Outcome State Fault Refusal := done (s.advance dt).presence

def execPorRelease (dt r1 r2 r3 : Nat) (s : State) : Host.Outcome State Fault Refusal :=
  done ((s.advance dt).porRelease r1 r2 r3)

def execLampTestEnd (dt : Nat) (s : State) : Host.Outcome State Fault Refusal := done (s.advance dt).lampEnd

def execFeedOkChange (dt : Nat) (feedB : Bool) (mV : Nat) (s : State) : Host.Outcome State Fault Refusal :=
  done ((s.advance dt).feedOk feedB mV)

def execFeedLost (dt : Nat) (feedB : Bool) (s : State) : Host.Outcome State Fault Refusal :=
  done ((s.advance dt).feedLost feedB)

def execPowerFail (dt cause : Nat) (s : State) : Host.Outcome State Fault Refusal := done ((s.advance dt).powerFail cause)

def execPowerFailReset (dt : Nat) (s : State) : Host.Outcome State Fault Refusal := done (s.advance dt).powerFailReset

def execPowerReturn (dt : Nat) (s : State) : Host.Outcome State Fault Refusal := done (s.advance dt).powerReturn

def execBackupBrownout (dt : Nat) (s : State) : Host.Outcome State Fault Refusal := done (s.advance dt).brownout

def execKeyAccept (dt : Nat) (k1 k2 : Bool) (s : State) : Host.Outcome State Fault Refusal := done ((s.advance dt).keyAccept k1 k2)

def execKeyFault (dt : Nat) (disagree : Bool) (s : State) : Host.Outcome State Fault Refusal :=
  done ((s.advance dt).keyFail disagree)

def execEjectButton (dt heldMs : Nat) (s : State) : Host.Outcome State Fault Refusal :=
  done (if 500 ≤ heldMs then (s.advance dt).ejectRequest else s.advance dt)

def execEjectPrepared (dt : Nat) (s : State) : Host.Outcome State Fault Refusal := done (s.advance dt).ejectPrepared

def execEjectTimeout (dt : Nat) (s : State) : Host.Outcome State Fault Refusal := done ((s.advance dt).expire .ejectTimeout)

end Sys2Proof.Machine
end

