-- ==== Sys2Proof/Machine/RegCmds.lean ====
section
/-! DEFINITION. The commands of the register bus and its windows: one meaning for each row. -/

namespace Sys2Proof.Machine

def execRegisterWrite (dt : Nat) (m : Master) (addr width : Nat) (value : W64) (s : State) : Host.Outcome State Fault Refusal :=
  done ((s.advance dt).regWriteBy m addr width value.toNat)

def execReg64LowRead (dt : Nat) (m : Master) (addr : Nat) (s : State) : Host.Outcome State Fault Refusal :=
  done ((s.advance dt).regReadBy m addr 4)

def execReg64LowWrite (dt : Nat) (m : Master) (addr : Nat) (value : W32) (s : State) : Host.Outcome State Fault Refusal :=
  done ((s.advance dt).regWriteBy m addr 4 value.toNat)

def execReg64HighWrite (dt : Nat) (m : Master) (addr : Nat) (value : W32) (s : State) : Host.Outcome State Fault Refusal :=
  done ((s.advance dt).regWriteBy m addr 4 value.toNat)

def execTollgateWrite (dt : Nat) (m : Master) (value : W32) (s : State) : Host.Outcome State Fault Refusal :=
  done ((s.advance dt).regWriteBy m 0x0020 4 value.toNat)

def execTollgateExpire (dt : Nat) (m : Master) (s : State) : Host.Outcome State Fault Refusal := done ((s.advance dt).expire (.tollgate m))

def execTollgateLockoutEnd (dt : Nat) (m : Master) (s : State) : Host.Outcome State Fault Refusal :=
  done ((s.advance dt).lockoutEnd m)

def execAccerrClrcnt (dt : Nat) (m : Master) (value : W32) (s : State) : Host.Outcome State Fault Refusal :=
  done ((s.advance dt).regWriteBy m 0x0028 4 (value.toNat ||| 0x80000000))

def execCfgParityFail (dt addr : Nat) (s : State) : Host.Outcome State Fault Refusal := done ((s.advance dt).parityFail addr)

def execLogLostClr (dt : Nat) (m : Master) (s : State) : Host.Outcome State Fault Refusal :=
  done ((s.advance dt).regWriteBy m 0x080C 4 0x80000000)

def execLogPeakClr (dt : Nat) (m : Master) (s : State) : Host.Outcome State Fault Refusal :=
  done ((s.advance dt).regWriteBy m 0x0810 4 0x80000000)

def execLogRdNum (dt : Nat) (m : Master) (value : W32) (s : State) : Host.Outcome State Fault Refusal :=
  done ((s.advance dt).regWriteBy m 0x0820 4 value.toNat)

def execPairMcntClr (dt : Nat) (m : Master) (s : State) : Host.Outcome State Fault Refusal :=
  done ((s.advance dt).regWriteBy m 0x0C18 4 0x80000000)

def execSeqLstatClr (dt : Nat) (m : Master) (k : Nat) (s : State) : Host.Outcome State Fault Refusal :=
  done ((s.advance dt).fieldWrite m 0x1020 4 0x20 k 0x80000000)

def execImgSlotIdx (dt : Nat) (m : Master) (value : W32) (s : State) : Host.Outcome State Fault Refusal :=
  done ((s.advance dt).regWriteBy m 0x1440 4 value.toNat)

def execImgInstIdx (dt : Nat) (m : Master) (value : W32) (s : State) : Host.Outcome State Fault Refusal :=
  done ((s.advance dt).regWriteBy m 0x1480 4 value.toNat)

def execImgFindId (dt : Nat) (m : Master) (value : W32) (s : State) : Host.Outcome State Fault Refusal :=
  done ((s.advance dt).regWriteBy m 0x14C0 4 value.toNat)

def execMsSlotIdx (dt : Nat) (m : Master) (value : W32) (s : State) : Host.Outcome State Fault Refusal :=
  done ((s.advance dt).regWriteBy m 0x2800 4 value.toNat)

/-- COMMIT is written with the staged bits of `value` (R271). -/
def execMsSlotCommit (dt : Nat) (m : Master) (value : W32) (s : State) : Host.Outcome State Fault Refusal :=
  done ((s.advance dt).regWriteBy m 0x2804 4 (value.toNat ||| 2))

def execLoopCoefA (dt : Nat) (m : Master) (n : Nat) (value : W32) (s : State) : Host.Outcome State Fault Refusal :=
  done ((s.advance dt).fieldWrite m 0x300C 160 0x40 n value.toNat)

def execLoopSwap (dt : Nat) (m : Master) (n modeReq : Nat) (s : State) : Host.Outcome State Fault Refusal :=
  done ((s.advance dt).fieldWrite m 0x3000 160 0x40 n (modeReq % 4 + 4))

def execLoopSupack (dt : Nat) (m : Master) (n modeReq : Nat) (s : State) : Host.Outcome State Fault Refusal :=
  done ((s.advance dt).fieldWrite m 0x3000 160 0x40 n (modeReq % 4 + 8))

def execLoopCntClr (dt : Nat) (m : Master) (n : Nat) (s : State) : Host.Outcome State Fault Refusal :=
  done ((s.advance dt).fieldWrite m 0x301C 160 0x40 n 0x80000000)

def execSlvWinSel (dt : Nat) (m : Master) (value : W32) (s : State) : Host.Outcome State Fault Refusal :=
  done ((s.advance dt).regWriteBy m 0x6800 4 value.toNat)

def execSlvPcntClr (dt : Nat) (m : Master) (p : Nat) (s : State) : Host.Outcome State Fault Refusal :=
  done ((s.advance dt).fieldWrite m 0x6110 4 0x40 p 0x80000000)

def execCanRxPop (dt : Nat) (m : Master) (ch seq : Nat) (s : State) : Host.Outcome State Fault Refusal :=
  done ((s.advance dt).fieldWrite m 0x7060 4 0x400 ch (seq % 256 + 256))

def execCanTxReq (dt : Nat) (m : Master) (ch : Nat) (s : State) : Host.Outcome State Fault Refusal :=
  done ((s.advance dt).fieldWrite m 0x710C 4 0x400 ch 1)

def execCanTxCancel (dt : Nat) (m : Master) (ch : Nat) (s : State) : Host.Outcome State Fault Refusal :=
  done ((s.advance dt).fieldWrite m 0x710C 4 0x400 ch 2)

def execCanCntClr (dt : Nat) (m : Master) (ch : Nat) (s : State) : Host.Outcome State Fault Refusal :=
  done ((s.advance dt).fieldWrite m 0x7014 4 0x400 ch 0x80000000)

def execCanCnt2Clr (dt : Nat) (m : Master) (ch : Nat) (s : State) : Host.Outcome State Fault Refusal :=
  done ((s.advance dt).fieldWrite m 0x7018 4 0x400 ch 0x80000000)

def execAiChCntClr (dt : Nat) (m : Master) (n : Nat) (s : State) : Host.Outcome State Fault Refusal :=
  done ((s.advance dt).fieldWrite m 0x810C 24 0x10 n 0x80000000)

def execAoTest (dt : Nat) (m : Master) (ch : Nat) (s : State) : Host.Outcome State Fault Refusal :=
  done ((s.advance dt).fieldWrite m 0x850C 16 0x10 ch 1)

def execSoBcntClr (dt : Nat) (m : Master) (k : Nat) (s : State) : Host.Outcome State Fault Refusal :=
  done ((s.advance dt).fieldWrite m 0x8C54 4 0x20 k 0x80000000)

def execSoLogIdx (dt : Nat) (m : Master) (value : W32) (s : State) : Host.Outcome State Fault Refusal :=
  done ((s.advance dt).regWriteBy m 0x8D00 4 value.toNat)

def execEthRioClr (dt : Nat) (m : Master) (s : State) : Host.Outcome State Fault Refusal :=
  done ((s.advance dt).regWriteBy m 0x900C 4 0x80000000)

def execUslCctlAck (dt : Nat) (m : Master) (c : Nat) (s : State) : Host.Outcome State Fault Refusal :=
  done ((s.advance dt).fieldWrite m 0x9600 64 4 c 1)

def execUslCcntClr (dt : Nat) (m : Master) (c : Nat) (s : State) : Host.Outcome State Fault Refusal :=
  done ((s.advance dt).fieldWrite m 0x9700 64 4 c 0x80000000)

def execDiagRecoverUnit (dt : Nat) (m : Master) (f unit : Nat) (s : State) : Host.Outcome State Fault Refusal :=
  done ((s.advance dt).regWriteBy m 0x98C0 4 (f % 16 + 16 * (unit % 2048) + 0x80000000))

def execDiagRecoverModule (dt : Nat) (m : Master) (s : State) : Host.Outcome State Fault Refusal :=
  done ((s.advance dt).regWriteBy m 0x98C0 4 0x80010000)

def execDiagFcntClr (dt : Nat) (m : Master) (f : Nat) (s : State) : Host.Outcome State Fault Refusal :=
  done ((s.advance dt).fieldWrite m 0x9840 16 4 f 0x80000000)

def execDiagMemClr (dt : Nat) (m : Master) (s : State) : Host.Outcome State Fault Refusal :=
  done ((s.advance dt).regWriteBy m 0x9880 4 0x80000000)

end Sys2Proof.Machine
end

