-- ==== Sys2Proof/Machine/Slv.lean ====
section
/-! DEFINITION. The commands of the solver: one meaning for each row. -/

namespace Sys2Proof.Machine

def execAssemblyBegin (dt : Nat) (s : State) : Host.Outcome State Fault Refusal := done (s.advance dt).asmBegin

def execAssemblyEnd (dt : Nat) (s : State) : Host.Outcome State Fault Refusal := done (s.advance dt).asmEnd

def execSolveBegin (dt : Nat) (s : State) : Host.Outcome State Fault Refusal := done (s.advance dt).solveBegin

def execSolveHandover (dt cycles : Nat) (s : State) : Host.Outcome State Fault Refusal := done ((s.advance dt).solveEnd cycles)

def execResidualCheck (dt : Nat) (s : State) : Host.Outcome State Fault Refusal := done (s.advance dt).residualCheck.slvAccepted

end Sys2Proof.Machine
end

