-- ==== Sys2Proof/Machine/Smp.lean ====
section
/-! DEFINITION. The commands of SMP sessions: one meaning for each row. -/

namespace Sys2Proof.Machine

def execSmpHandshake (dt sid suite group scheme : Nat) (resumed early proof : Bool) (chain : List (List Byte)) (s : State) :
    Host.Outcome State Fault Refusal :=
  done ((s.advance dt).handshake sid suite group scheme resumed early proof chain)

def execSessionIdleTimeout (dt sid : Nat) (s : State) : Host.Outcome State Fault Refusal := done ((s.advance dt).expire (.sessionIdle sid))

def execDtlsClose (dt sid : Nat) (s : State) : Host.Outcome State Fault Refusal :=
  let s1 := s.advance dt
  done (if s1.smpOn then s1.closeSession sid else s1)

def execUnknownCmd (dt sid req cmd : Nat) (p : List Byte) (s : State) : Host.Outcome State Fault Refusal :=
  done ((s.advance dt).serve { sid := sid, req := req, cmd := cmd, p := p })

end Sys2Proof.Machine
end

