-- ==== Sys2Proof/Machine/SmpCmds.lean ====
section
/-! DEFINITION. The commands of the SMP requests: one meaning for each row; `p` is the request's payload (R432, R433). -/

namespace Sys2Proof.Machine

def execIdentChallenge (dt sid req : Nat) (p : List Byte) (s : State) : Host.Outcome State Fault Refusal :=
  done ((s.advance dt).serve { sid := sid, req := req, cmd := 0x01, p := p })

def execStatusRead (dt sid req : Nat) (p : List Byte) (s : State) : Host.Outcome State Fault Refusal :=
  done ((s.advance dt).serve { sid := sid, req := req, cmd := 0x02, p := p })

def execLogRead (dt sid req : Nat) (p : List Byte) (s : State) : Host.Outcome State Fault Refusal :=
  done ((s.advance dt).serve { sid := sid, req := req, cmd := 0x03, p := p })

def execRegRead (dt sid req : Nat) (p : List Byte) (s : State) : Host.Outcome State Fault Refusal :=
  done ((s.advance dt).serve { sid := sid, req := req, cmd := 0x04, p := p })

def execRegWrite (dt sid req : Nat) (p : List Byte) (s : State) : Host.Outcome State Fault Refusal :=
  done ((s.advance dt).serve { sid := sid, req := req, cmd := 0x05, p := p })

def execSlotRead (dt sid req : Nat) (p : List Byte) (s : State) : Host.Outcome State Fault Refusal :=
  done ((s.advance dt).serve { sid := sid, req := req, cmd := 0x06, p := p })

def execLogAck (dt sid req : Nat) (p : List Byte) (s : State) : Host.Outcome State Fault Refusal :=
  done ((s.advance dt).serve { sid := sid, req := req, cmd := 0x07, p := p })

def execLogClear (dt sid req : Nat) (p : List Byte) (s : State) : Host.Outcome State Fault Refusal :=
  done ((s.advance dt).serve { sid := sid, req := req, cmd := 0x08, p := p })

def execOwnerEnrol (dt sid req : Nat) (p : List Byte) (s : State) : Host.Outcome State Fault Refusal :=
  done ((s.advance dt).serve { sid := sid, req := req, cmd := 0x10, p := p })

def execOwnerRelease (dt sid req : Nat) (p : List Byte) (s : State) : Host.Outcome State Fault Refusal :=
  done ((s.advance dt).serve { sid := sid, req := req, cmd := 0x11, p := p })

def execImageLoadBegin (dt sid req : Nat) (p : List Byte) (s : State) : Host.Outcome State Fault Refusal :=
  done ((s.advance dt).serve { sid := sid, req := req, cmd := 0x20, p := p })

def execImageData (dt sid req : Nat) (p : List Byte) (s : State) : Host.Outcome State Fault Refusal :=
  done ((s.advance dt).serve { sid := sid, req := req, cmd := 0x21, p := p })

def execImageLoadEnd (dt sid req : Nat) (p : List Byte) (s : State) : Host.Outcome State Fault Refusal :=
  done ((s.advance dt).serve { sid := sid, req := req, cmd := 0x22, p := p })

def execImageVerify (dt sid req : Nat) (p : List Byte) (s : State) : Host.Outcome State Fault Refusal :=
  done ((s.advance dt).serve { sid := sid, req := req, cmd := 0x23, p := p })

def execImageAbort (dt sid req : Nat) (p : List Byte) (s : State) : Host.Outcome State Fault Refusal :=
  done ((s.advance dt).serve { sid := sid, req := req, cmd := 0x24, p := p })

def execImageAdopt (dt sid req : Nat) (p : List Byte) (partnerHasImage : Bool) (partnerSlotRef len : Nat) (s : State) :
    Host.Outcome State Fault Refusal :=
  done ((s.advance dt).serve { sid := sid, req := req, cmd := 0x25, p := p
                               partner := if partnerHasImage then some (partnerSlotRef, len) else none })

def execImageCommit (dt sid req : Nat) (p : List Byte) (s : State) : Host.Outcome State Fault Refusal :=
  done ((s.advance dt).serve { sid := sid, req := req, cmd := 0x26, p := p })

def execOlcPrepare (dt sid req : Nat) (p : List Byte) (s : State) : Host.Outcome State Fault Refusal :=
  done ((s.advance dt).serve { sid := sid, req := req, cmd := 0x30, p := p })

def execOlcSwitch (dt sid req : Nat) (p : List Byte) (s : State) : Host.Outcome State Fault Refusal :=
  done ((s.advance dt).serve { sid := sid, req := req, cmd := 0x31, p := p })

def execOlcAbort (dt sid req : Nat) (p : List Byte) (s : State) : Host.Outcome State Fault Refusal :=
  done ((s.advance dt).serve { sid := sid, req := req, cmd := 0x32, p := p })

def execForceSet (dt sid req : Nat) (p : List Byte) (s : State) : Host.Outcome State Fault Refusal :=
  done ((s.advance dt).serve { sid := sid, req := req, cmd := 0x40, p := p })

def execForceRelease (dt sid req : Nat) (p : List Byte) (s : State) : Host.Outcome State Fault Refusal :=
  done ((s.advance dt).serve { sid := sid, req := req, cmd := 0x41, p := p })

def execBarnCheckpoint (dt sid req : Nat) (p : List Byte) (s : State) : Host.Outcome State Fault Refusal :=
  done ((s.advance dt).serve { sid := sid, req := req, cmd := 0x50, p := p })

def execSafeEnter (dt sid req : Nat) (p : List Byte) (s : State) : Host.Outcome State Fault Refusal :=
  done ((s.advance dt).serve { sid := sid, req := req, cmd := 0x51, p := p })

def execSafeClear (dt sid req : Nat) (p : List Byte) (s : State) : Host.Outcome State Fault Refusal :=
  done ((s.advance dt).serve { sid := sid, req := req, cmd := 0x52, p := p })

def execEject (dt sid req : Nat) (p : List Byte) (s : State) : Host.Outcome State Fault Refusal :=
  done ((s.advance dt).serve { sid := sid, req := req, cmd := 0x53, p := p })

def execTimeSet (dt sid req : Nat) (p : List Byte) (s : State) : Host.Outcome State Fault Refusal :=
  done ((s.advance dt).serve { sid := sid, req := req, cmd := 0x54, p := p })

def execHartPass (dt sid req : Nat) (p : List Byte) (s : State) : Host.Outcome State Fault Refusal :=
  done ((s.advance dt).serve { sid := sid, req := req, cmd := 0x60, p := p })

def execUslAck (dt sid req : Nat) (p : List Byte) (s : State) : Host.Outcome State Fault Refusal :=
  done ((s.advance dt).serve { sid := sid, req := req, cmd := 0x61, p := p })

def execPairHandover (dt sid req : Nat) (p : List Byte) (s : State) : Host.Outcome State Fault Refusal :=
  done ((s.advance dt).serve { sid := sid, req := req, cmd := 0x70, p := p })

def execPairSwaptest (dt sid req : Nat) (p : List Byte) (s : State) : Host.Outcome State Fault Refusal :=
  done ((s.advance dt).serve { sid := sid, req := req, cmd := 0x71, p := p })

def execPairClear (dt sid req : Nat) (p : List Byte) (s : State) : Host.Outcome State Fault Refusal :=
  done ((s.advance dt).serve { sid := sid, req := req, cmd := 0x72, p := p })

def execPairSolo (dt sid req : Nat) (p : List Byte) (s : State) : Host.Outcome State Fault Refusal :=
  done ((s.advance dt).serve { sid := sid, req := req, cmd := 0x73, p := p })

def execBrakeTest (dt sid req : Nat) (p : List Byte) (s : State) : Host.Outcome State Fault Refusal :=
  done ((s.advance dt).serve { sid := sid, req := req, cmd := 0x78, p := p })

def execSafetyUnlock (dt sid req : Nat) (p : List Byte) (s : State) : Host.Outcome State Fault Refusal :=
  done ((s.advance dt).serve { sid := sid, req := req, cmd := 0x79, p := p })

def execSoClear (dt sid req : Nat) (p : List Byte) (faultStands : Bool) (s : State) : Host.Outcome State Fault Refusal :=
  done ((s.advance dt).serve { sid := sid, req := req, cmd := 0x7A, p := p, stands := faultStands })

def execLogCleared (dt : Nat) (s : State) : Host.Outcome State Fault Refusal :=
  let s1 := s.advance dt
  done (if s1.running then s1.logCleared else s1)

end Sys2Proof.Machine
end

