-- ==== Sys2Proof/Machine/Startup.lean ====
section
/-! DEFINITION. The commands of start-up and stored copies: one meaning for each row. -/

namespace Sys2Proof.Machine

def execFirmwareVerified (dt : Nat) (ok : Bool) (s : State) : Host.Outcome State Fault Refusal :=
  done ((s.advance dt).firmware ok)

def execSelftestComplete (dt : Nat) (ok seOk : Bool) (s : State) : Host.Outcome State Fault Refusal :=
  done ((s.advance dt).selftestEnd ok seOk)

def execCopySelection (dt : Nat) (s : State) : Host.Outcome State Fault Refusal := done (s.advance dt).copySelection

def execStartupEnd (dt : Nat) (s : State) : Host.Outcome State Fault Refusal := done (s.advance dt).startupEnd

def execLoadTimeout (dt : Nat) (s : State) : Host.Outcome State Fault Refusal := done ((s.advance dt).expire .loadTimeout)

def execAdoptTransferComplete (dt : Nat) (s : State) : Host.Outcome State Fault Refusal := done (s.advance dt).adoptDone

def execCommitMarkDone (dt : Nat) (s : State) : Host.Outcome State Fault Refusal := done (s.advance dt).commitMark

def execDuplicationComplete (dt : Nat) (s : State) : Host.Outcome State Fault Refusal := done (s.advance dt).dupDone

end Sys2Proof.Machine
end

