-- ==== Sys2Proof/Machine/Usl.lean ====
section
/-! DEFINITION. The commands of the safety layer: one meaning for each row. -/

namespace Sys2Proof.Machine

def execUslDataReceived (dt : Nat) (rx : Option EthRx) (conn : Nat) (pdu : List Byte) (s : State) : Host.Outcome State Fault Refusal :=
  done ((s.advance dt).uslDataIn rx conn pdu)

def execUslAckReceived (dt : Nat) (rx : Option EthRx) (conn : Nat) (pdu : List Byte) (s : State) : Host.Outcome State Fault Refusal :=
  done ((s.advance dt).uslAckIn rx conn pdu)

def execUslWatchdogExpire (dt conn : Nat) (s : State) : Host.Outcome State Fault Refusal := done ((s.advance dt).expire (.uslWatchdog conn))

def execUslAckTimeout (dt conn : Nat) (s : State) : Host.Outcome State Fault Refusal := done ((s.advance dt).expire (.uslAck conn))

end Sys2Proof.Machine
end

