-- ==== Sys2Proof/Machine/Dispatch.lean ====
section
/-! DEFINITION. One arm per command: a direct call of its meaning. -/

namespace Sys2Proof.Machine

def exec (i : Instr) (s : State) : Host.Outcome State Fault Refusal :=
  match i with
  | .mateClose dt => Sys2Proof.Machine.execMateClose dt s
  | .presenceAccepted dt => Sys2Proof.Machine.execPresenceAccepted dt s
  | .porRelease dt r1 r2 r3 => Sys2Proof.Machine.execPorRelease dt r1 r2 r3 s
  | .lampTestEnd dt => Sys2Proof.Machine.execLampTestEnd dt s
  | .firmwareVerified dt ok => Sys2Proof.Machine.execFirmwareVerified dt ok s
  | .selftestComplete dt ok seOk => Sys2Proof.Machine.execSelftestComplete dt ok seOk s
  | .copySelection dt => Sys2Proof.Machine.execCopySelection dt s
  | .startupEnd dt => Sys2Proof.Machine.execStartupEnd dt s
  | .feedLost dt feedB => Sys2Proof.Machine.execFeedLost dt feedB s
  | .powerFail dt cause => Sys2Proof.Machine.execPowerFail dt cause s
  | .powerFailReset dt => Sys2Proof.Machine.execPowerFailReset dt s
  | .backupBrownout dt => Sys2Proof.Machine.execBackupBrownout dt s
  | .keyAccept dt k1 k2 => Sys2Proof.Machine.execKeyAccept dt k1 k2 s
  | .keyFault dt disagree => Sys2Proof.Machine.execKeyFault dt disagree s
  | .ejectButton dt heldMs => Sys2Proof.Machine.execEjectButton dt heldMs s
  | .ejectPrepared dt => Sys2Proof.Machine.execEjectPrepared dt s
  | .ejectTimeout dt => Sys2Proof.Machine.execEjectTimeout dt s
  | .loadTimeout dt => Sys2Proof.Machine.execLoadTimeout dt s
  | .adoptTransferComplete dt => Sys2Proof.Machine.execAdoptTransferComplete dt s
  | .commitMarkDone dt => Sys2Proof.Machine.execCommitMarkDone dt s
  | .duplicationComplete dt => Sys2Proof.Machine.execDuplicationComplete dt s
  | .registerWrite dt m addr width value => Sys2Proof.Machine.execRegisterWrite dt m addr width value s
  | .reg64LowRead dt m addr => Sys2Proof.Machine.execReg64LowRead dt m addr s
  | .reg64LowWrite dt m addr value => Sys2Proof.Machine.execReg64LowWrite dt m addr value s
  | .reg64HighWrite dt m addr value => Sys2Proof.Machine.execReg64HighWrite dt m addr value s
  | .tollgateWrite dt m value => Sys2Proof.Machine.execTollgateWrite dt m value s
  | .tollgateExpire dt m => Sys2Proof.Machine.execTollgateExpire dt m s
  | .tollgateLockoutEnd dt m => Sys2Proof.Machine.execTollgateLockoutEnd dt m s
  | .accerrClrcnt dt m value => Sys2Proof.Machine.execAccerrClrcnt dt m value s
  | .cfgParityFail dt addr => Sys2Proof.Machine.execCfgParityFail dt addr s
  | .harvest dt => Sys2Proof.Machine.execHarvest dt s
  | .evaluationBegin dt => Sys2Proof.Machine.execEvaluationBegin dt s
  | .blockEvaluate dt agree => Sys2Proof.Machine.execBlockEvaluate dt agree s
  | .windowEnd dt => Sys2Proof.Machine.execWindowEnd dt s
  | .deliver dt disagree => Sys2Proof.Machine.execDeliver dt disagree s
  | .checkpointDeferEnd dt => Sys2Proof.Machine.execCheckpointDeferEnd dt s
  | .barnSaveDone dt => Sys2Proof.Machine.execBarnSaveDone dt s
  | .mirrorSnapshot dt => Sys2Proof.Machine.execMirrorSnapshot dt s
  | .syncSend dt ch => Sys2Proof.Machine.execSyncSend dt ch s
  | .olcPrepared dt => Sys2Proof.Machine.execOlcPrepared dt s
  | .olcDrainLimit dt => Sys2Proof.Machine.execOlcDrainLimit dt s
  | .olcPrepareTimeout dt => Sys2Proof.Machine.execOlcPrepareTimeout dt s
  | .toothEdge dt d frac bHigh => Sys2Proof.Machine.execToothEdge dt d frac bHigh s
  | .camMarkerEdge dt d => Sys2Proof.Machine.execCamMarkerEdge dt d s
  | .quadRefEdge dt d => Sys2Proof.Machine.execQuadRefEdge dt d s
  | .bvPhaseUpdate dt ph4 ph5 f4 f5 u0 u1 => Sys2Proof.Machine.execBvPhaseUpdate dt ph4 ph5 f4 f5 u0 u1 s
  | .domainTimeout dt d => Sys2Proof.Machine.execDomainTimeout dt d s
  | .dirRefChange dt d => Sys2Proof.Machine.execDirRefChange dt d s
  | .milestoneFire dt slot => Sys2Proof.Machine.execMilestoneFire dt slot s
  | .pulseEnd dt slot => Sys2Proof.Machine.execPulseEnd dt slot s
  | .syncCloseFeedback dt slot => Sys2Proof.Machine.execSyncCloseFeedback dt slot s
  | .syncNoFeedback dt slot => Sys2Proof.Machine.execSyncNoFeedback dt slot s
  | .trackerCompare dt agree => Sys2Proof.Machine.execTrackerCompare dt agree s
  | .loopTimeTrigger dt ctx => Sys2Proof.Machine.execLoopTimeTrigger dt ctx s
  | .loopSampleBegin dt => Sys2Proof.Machine.execLoopSampleBegin dt s
  | .loopSampleCommit dt agree => Sys2Proof.Machine.execLoopSampleCommit dt agree s
  | .loopSampleMissed dt ctx => Sys2Proof.Machine.execLoopSampleMissed dt ctx s
  | .assemblyBegin dt => Sys2Proof.Machine.execAssemblyBegin dt s
  | .assemblyEnd dt => Sys2Proof.Machine.execAssemblyEnd dt s
  | .solveBegin dt => Sys2Proof.Machine.execSolveBegin dt s
  | .solveHandover dt cycles => Sys2Proof.Machine.execSolveHandover dt cycles s
  | .residualCheck dt => Sys2Proof.Machine.execResidualCheck dt s
  | .aiScan dt fsOk xs => Sys2Proof.Machine.execAiScan dt fsOk xs s
  | .aiSampleCommit dt ch fsOk x => Sys2Proof.Machine.execAiSampleCommit dt ch fsOk x s
  | .aiRefCheck dt ch bad => Sys2Proof.Machine.execAiRefCheck dt ch bad s
  | .hartTransactionStart dt modem => Sys2Proof.Machine.execHartTransactionStart dt modem s
  | .hartResponse dt modem commErr devStatus vars bytes => Sys2Proof.Machine.execHartResponse dt modem commErr devStatus vars bytes s
  | .hartAttemptTimeout dt modem => Sys2Proof.Machine.execHartAttemptTimeout dt modem s
  | .hartStale dt entry => Sys2Proof.Machine.execHartStale dt entry s
  | .aoFrame dt ch => Sys2Proof.Machine.execAoFrame dt ch s
  | .aoFrameTimeout dt ch => Sys2Proof.Machine.execAoFrameTimeout dt ch s
  | .aoHoldExpire dt ch => Sys2Proof.Machine.execAoHoldExpire dt ch s
  | .aoLoopPower dt ch => Sys2Proof.Machine.execAoLoopPower dt ch s
  | .aoMeasure dt ch fsOk uA v10mV => Sys2Proof.Machine.execAoMeasure dt ch fsOk uA v10mV s
  | .aoCompliance dt ch uA v10mV => Sys2Proof.Machine.execAoCompliance dt ch uA v10mV s
  | .aoComplianceClear dt ch => Sys2Proof.Machine.execAoComplianceClear dt ch s
  | .aoDeviation dt ch => Sys2Proof.Machine.execAoDeviation dt ch s
  | .aoClockStep dt ch uA => Sys2Proof.Machine.execAoClockStep dt ch uA s
  | .aoTestWorkDone dt ch ok => Sys2Proof.Machine.execAoTestWorkDone dt ch ok s
  | .aoTest dt m ch => Sys2Proof.Machine.execAoTest dt m ch s
  | .dioInputAccept dt ch level ago => Sys2Proof.Machine.execDioInputAccept dt ch level ago s
  | .dioSupplyLoss dt groupB => Sys2Proof.Machine.execDioSupplyLoss dt groupB s
  | .dioOverload dt ch => Sys2Proof.Machine.execDioOverload dt ch s
  | .dioMismatch dt ch => Sys2Proof.Machine.execDioMismatch dt ch s
  | .dioOpenload dt ch => Sys2Proof.Machine.execDioOpenload dt ch s
  | .canIntegrated dt ch => Sys2Proof.Machine.execCanIntegrated dt ch s
  | .canArbitration dt ch => Sys2Proof.Machine.execCanArbitration dt ch s
  | .canTxAttemptEnd dt ch res more tdcv => Sys2Proof.Machine.execCanTxAttemptEnd dt ch res more tdcv s
  | .canBusoffRecovered dt ch => Sys2Proof.Machine.execCanBusoffRecovered dt ch s
  | .canFrameReceived dt ch frame => Sys2Proof.Machine.execCanFrameReceived dt ch frame s
  | .canRioInputFrame dt ch frame => Sys2Proof.Machine.execCanRioInputFrame dt ch frame s
  | .canRioSyncReceived dt ch frame => Sys2Proof.Machine.execCanRioSyncReceived dt ch frame s
  | .canRioOutputReceived dt ch frame => Sys2Proof.Machine.execCanRioOutputReceived dt ch frame s
  | .stationSyncTimeout dt ch => Sys2Proof.Machine.execStationSyncTimeout dt ch s
  | .stationHoldExpire dt ch => Sys2Proof.Machine.execStationHoldExpire dt ch s
  | .canRxPop dt m ch seq => Sys2Proof.Machine.execCanRxPop dt m ch seq s
  | .canTxReq dt m ch => Sys2Proof.Machine.execCanTxReq dt m ch s
  | .canTxCancel dt m ch => Sys2Proof.Machine.execCanTxCancel dt m ch s
  | .canCntClr dt m ch => Sys2Proof.Machine.execCanCntClr dt m ch s
  | .canCnt2Clr dt m ch => Sys2Proof.Machine.execCanCnt2Clr dt m ch s
  | .ethLinkChange dt e2 speed => Sys2Proof.Machine.execEthLinkChange dt e2 speed s
  | .prpSupervisionSend dt => Sys2Proof.Machine.execPrpSupervisionSend dt s
  | .ethRioInputFrame dt rx src bytes => Sys2Proof.Machine.execEthRioInputFrame dt rx src bytes s
  | .ethRioSyncReceived dt rx src bytes => Sys2Proof.Machine.execEthRioSyncReceived dt rx src bytes s
  | .ethRioOutputReceived dt rx src bytes => Sys2Proof.Machine.execEthRioOutputReceived dt rx src bytes s
  | .ethStopReceived dt rx src addr => Sys2Proof.Machine.execEthStopReceived dt rx src addr s
  | .ethRioClr dt m => Sys2Proof.Machine.execEthRioClr dt m s
  | .ptpOffsetMeasured dt origin delay ago => Sys2Proof.Machine.execPtpOffsetMeasured dt origin delay ago s
  | .ptpAnnounceTimeout dt e2 => Sys2Proof.Machine.execPtpAnnounceTimeout dt e2 s
  | .rtcDiscipline dt rtc => Sys2Proof.Machine.execRtcDiscipline dt rtc s
  | .rtcWrite dt => Sys2Proof.Machine.execRtcWrite dt s
  | .smpHandshake dt sid suite group scheme resumed early proof chain => Sys2Proof.Machine.execSmpHandshake dt sid suite group scheme resumed early proof chain s
  | .sessionIdleTimeout dt sid => Sys2Proof.Machine.execSessionIdleTimeout dt sid s
  | .dtlsClose dt sid => Sys2Proof.Machine.execDtlsClose dt sid s
  | .unknownCmd dt sid req cmd p => Sys2Proof.Machine.execUnknownCmd dt sid req cmd p s
  | .identChallenge dt sid req p => Sys2Proof.Machine.execIdentChallenge dt sid req p s
  | .statusRead dt sid req p => Sys2Proof.Machine.execStatusRead dt sid req p s
  | .logRead dt sid req p => Sys2Proof.Machine.execLogRead dt sid req p s
  | .regRead dt sid req p => Sys2Proof.Machine.execRegRead dt sid req p s
  | .regWrite dt sid req p => Sys2Proof.Machine.execRegWrite dt sid req p s
  | .slotRead dt sid req p => Sys2Proof.Machine.execSlotRead dt sid req p s
  | .logAck dt sid req p => Sys2Proof.Machine.execLogAck dt sid req p s
  | .logClear dt sid req p => Sys2Proof.Machine.execLogClear dt sid req p s
  | .logCleared dt => Sys2Proof.Machine.execLogCleared dt s
  | .ownerEnrol dt sid req p => Sys2Proof.Machine.execOwnerEnrol dt sid req p s
  | .ownerRelease dt sid req p => Sys2Proof.Machine.execOwnerRelease dt sid req p s
  | .imageLoadBegin dt sid req p => Sys2Proof.Machine.execImageLoadBegin dt sid req p s
  | .imageData dt sid req p => Sys2Proof.Machine.execImageData dt sid req p s
  | .imageLoadEnd dt sid req p => Sys2Proof.Machine.execImageLoadEnd dt sid req p s
  | .imageVerify dt sid req p => Sys2Proof.Machine.execImageVerify dt sid req p s
  | .imageAbort dt sid req p => Sys2Proof.Machine.execImageAbort dt sid req p s
  | .imageAdopt dt sid req p partnerHasImage partnerSlotRef len => Sys2Proof.Machine.execImageAdopt dt sid req p partnerHasImage partnerSlotRef len s
  | .imageCommit dt sid req p => Sys2Proof.Machine.execImageCommit dt sid req p s
  | .olcPrepare dt sid req p => Sys2Proof.Machine.execOlcPrepare dt sid req p s
  | .olcSwitch dt sid req p => Sys2Proof.Machine.execOlcSwitch dt sid req p s
  | .olcAbort dt sid req p => Sys2Proof.Machine.execOlcAbort dt sid req p s
  | .forceSet dt sid req p => Sys2Proof.Machine.execForceSet dt sid req p s
  | .forceRelease dt sid req p => Sys2Proof.Machine.execForceRelease dt sid req p s
  | .barnCheckpoint dt sid req p => Sys2Proof.Machine.execBarnCheckpoint dt sid req p s
  | .safeEnter dt sid req p => Sys2Proof.Machine.execSafeEnter dt sid req p s
  | .safeClear dt sid req p => Sys2Proof.Machine.execSafeClear dt sid req p s
  | .eject dt sid req p => Sys2Proof.Machine.execEject dt sid req p s
  | .timeSet dt sid req p => Sys2Proof.Machine.execTimeSet dt sid req p s
  | .hartPass dt sid req p => Sys2Proof.Machine.execHartPass dt sid req p s
  | .uslAck dt sid req p => Sys2Proof.Machine.execUslAck dt sid req p s
  | .pairHandover dt sid req p => Sys2Proof.Machine.execPairHandover dt sid req p s
  | .pairSwaptest dt sid req p => Sys2Proof.Machine.execPairSwaptest dt sid req p s
  | .pairClear dt sid req p => Sys2Proof.Machine.execPairClear dt sid req p s
  | .pairSolo dt sid req p => Sys2Proof.Machine.execPairSolo dt sid req p s
  | .brakeTest dt sid req p => Sys2Proof.Machine.execBrakeTest dt sid req p s
  | .safetyUnlock dt sid req p => Sys2Proof.Machine.execSafetyUnlock dt sid req p s
  | .soClear dt sid req p faultStands => Sys2Proof.Machine.execSoClear dt sid req p faultStands s
  | .uslDataReceived dt rx conn pdu => Sys2Proof.Machine.execUslDataReceived dt rx conn pdu s
  | .uslAckReceived dt rx conn pdu => Sys2Proof.Machine.execUslAckReceived dt rx conn pdu s
  | .uslWatchdogExpire dt conn => Sys2Proof.Machine.execUslWatchdogExpire dt conn s
  | .uslAckTimeout dt conn => Sys2Proof.Machine.execUslAckTimeout dt conn s
  | .uslCctlAck dt m conn => Sys2Proof.Machine.execUslCctlAck dt m conn s
  | .uslCcntClr dt m conn => Sys2Proof.Machine.execUslCcntClr dt m conn s
  | .brakeOn dt ch fsOk => Sys2Proof.Machine.execBrakeOn dt ch fsOk s
  | .brakeDemand dt ch fsOk => Sys2Proof.Machine.execBrakeDemand dt ch fsOk s
  | .testPulseStart dt ch => Sys2Proof.Machine.execTestPulseStart dt ch s
  | .testPulseCheck dt ch off => Sys2Proof.Machine.execTestPulseCheck dt ch off s
  | .testPulseEnd dt ch => Sys2Proof.Machine.execTestPulseEnd dt ch s
  | .testPulseOverdue dt ch => Sys2Proof.Machine.execTestPulseOverdue dt ch s
  | .brakeChannelFault dt ch cause mA vhs vls => Sys2Proof.Machine.execBrakeChannelFault dt ch cause mA vhs vls s
  | .brakeTestPhaseEnd dt ch ok => Sys2Proof.Machine.execBrakeTestPhaseEnd dt ch ok s
  | .testDue dt ch => Sys2Proof.Machine.execTestDue dt ch s
  | .safetyUnlockExpire dt sid => Sys2Proof.Machine.execSafetyUnlockExpire dt sid s
  | .safetyPwdLockoutEnd dt => Sys2Proof.Machine.execSafetyPwdLockoutEnd dt s
  | .soBcntClr dt m k => Sys2Proof.Machine.execSoBcntClr dt m k s
  | .soLogIdx dt m value => Sys2Proof.Machine.execSoLogIdx dt m value s
  | .helloSend dt => Sys2Proof.Machine.execHelloSend dt s
  | .helloReceived dt lane hello => Sys2Proof.Machine.execHelloReceived dt lane hello s
  | .laneDown dt lane => Sys2Proof.Machine.execLaneDown dt lane s
  | .partnerSilent dt => Sys2Proof.Machine.execPartnerSilent dt s
  | .pairFormed dt => Sys2Proof.Machine.execPairFormed dt s
  | .pairSelfElect dt => Sys2Proof.Machine.execPairSelfElect dt s
  | .singleActivate dt => Sys2Proof.Machine.execSingleActivate dt s
  | .mirrorFrameReceived dt lane msg => Sys2Proof.Machine.execMirrorFrameReceived dt lane msg s
  | .shadowSend dt => Sys2Proof.Machine.execShadowSend dt s
  | .shadowReceived dt lane ok sh => Sys2Proof.Machine.execShadowReceived dt lane ok sh s
  | .offerNotice dt lane hx swap => Sys2Proof.Machine.execOfferNotice dt lane hx swap s
  | .acceptNotice dt lane => Sys2Proof.Machine.execAcceptNotice dt lane s
  | .declineNotice dt lane => Sys2Proof.Machine.execDeclineNotice dt lane s
  | .relinquishNotice dt lane cause => Sys2Proof.Machine.execRelinquishNotice dt lane cause s
  | .switchNotice dt lane ts => Sys2Proof.Machine.execSwitchNotice dt lane ts s
  | .safeNotice dt lane => Sys2Proof.Machine.execSafeNotice dt lane s
  | .imgreq dt lane => Sys2Proof.Machine.execImgreq dt lane s
  | .imgdata dt lane ofs data => Sys2Proof.Machine.execImgdata dt lane ofs data s
  | .roundStart dt => Sys2Proof.Machine.execRoundStart dt s
  | .statusSend dt => Sys2Proof.Machine.execStatusSend dt s
  | .statusReceived dt msg us => Sys2Proof.Machine.execStatusReceived dt msg us s
  | .roundReceived dt msg => Sys2Proof.Machine.execRoundReceived dt msg s
  | .refereeAbsent dt => Sys2Proof.Machine.execRefereeAbsent dt s
  | .takeover dt => Sys2Proof.Machine.execTakeover dt s
  | .ownerStuck dt => Sys2Proof.Machine.execOwnerStuck dt s
  | .ownerMismatch dt => Sys2Proof.Machine.execOwnerMismatch dt s
  | .handoverTx dt => Sys2Proof.Machine.execHandoverTx dt s
  | .revertStart dt => Sys2Proof.Machine.execRevertStart dt s
  | .swapTestStart dt => Sys2Proof.Machine.execSwapTestStart dt s
  | .swapDwellEnd dt => Sys2Proof.Machine.execSwapDwellEnd dt s
  | .pairMcntClr dt m => Sys2Proof.Machine.execPairMcntClr dt m s
  | .clockCheck dt ofSafety count => Sys2Proof.Machine.execClockCheck dt ofSafety count s
  | .mgmtWatchdogExpire dt => Sys2Proof.Machine.execMgmtWatchdogExpire dt s
  | .safetySelftest dt ok => Sys2Proof.Machine.execSafetySelftest dt ok s
  | .signatureCompare dt agree => Sys2Proof.Machine.execSignatureCompare dt agree s
  | .checkerTest dt ok => Sys2Proof.Machine.execCheckerTest dt ok s
  | .scrubWord dt loc p1 p2 same => Sys2Proof.Machine.execScrubWord dt loc p1 p2 same s
  | .functionRung dt f unit => Sys2Proof.Machine.execFunctionRung dt f unit s
  | .moduleRung dt => Sys2Proof.Machine.execModuleRung dt s
  | .resetRelease dt r1 r2 r3 => Sys2Proof.Machine.execResetRelease dt r1 r2 r3 s
  | .pcycIgnored dt => Sys2Proof.Machine.execPcycIgnored dt s
  | .ladderWindowExpire dt f unit => Sys2Proof.Machine.execLadderWindowExpire dt f unit s
  | .diagRecoverUnit dt m f unit => Sys2Proof.Machine.execDiagRecoverUnit dt m f unit s
  | .diagRecoverModule dt m => Sys2Proof.Machine.execDiagRecoverModule dt m s
  | .diagFcntClr dt m f => Sys2Proof.Machine.execDiagFcntClr dt m f s
  | .diagMemClr dt m => Sys2Proof.Machine.execDiagMemClr dt m s
  | .recordWriteDone dt => Sys2Proof.Machine.execRecordWriteDone dt s
  | .logLostClr dt m => Sys2Proof.Machine.execLogLostClr dt m s
  | .logPeakClr dt m => Sys2Proof.Machine.execLogPeakClr dt m s
  | .logRdNum dt m value => Sys2Proof.Machine.execLogRdNum dt m value s
  | .seqLstatClr dt m k => Sys2Proof.Machine.execSeqLstatClr dt m k s
  | .imgSlotIdx dt m value => Sys2Proof.Machine.execImgSlotIdx dt m value s
  | .imgInstIdx dt m value => Sys2Proof.Machine.execImgInstIdx dt m value s
  | .imgFindId dt m value => Sys2Proof.Machine.execImgFindId dt m value s
  | .msSlotIdx dt m value => Sys2Proof.Machine.execMsSlotIdx dt m value s
  | .msSlotCommit dt m value => Sys2Proof.Machine.execMsSlotCommit dt m value s
  | .loopCoefA dt m n value => Sys2Proof.Machine.execLoopCoefA dt m n value s
  | .loopSwap dt m n modeReq => Sys2Proof.Machine.execLoopSwap dt m n modeReq s
  | .loopSupack dt m n modeReq => Sys2Proof.Machine.execLoopSupack dt m n modeReq s
  | .loopCntClr dt m n => Sys2Proof.Machine.execLoopCntClr dt m n s
  | .slvWinSel dt m value => Sys2Proof.Machine.execSlvWinSel dt m value s
  | .slvPcntClr dt m p => Sys2Proof.Machine.execSlvPcntClr dt m p s
  | .aiChCntClr dt m n => Sys2Proof.Machine.execAiChCntClr dt m n s
  | .mateContactOpen dt mate2 => Sys2Proof.Machine.execMateContactOpen dt mate2 s
  | .powerReturn dt => Sys2Proof.Machine.execPowerReturn dt s
  | .feedOkChange dt feedB mV => Sys2Proof.Machine.execFeedOkChange dt feedB mV s
  | .dioSupplyReturn dt groupB => Sys2Proof.Machine.execDioSupplyReturn dt groupB s
  | .aoChannelNoFrame dt ch => Sys2Proof.Machine.execAoChannelNoFrame dt ch s
  | .canReceiveError dt ch primary more => Sys2Proof.Machine.execCanReceiveError dt ch primary more s
  | .arpRequest dt rx ip => Sys2Proof.Machine.execArpRequest dt rx ip s
  | .icmpEchoRequest dt rx ip => Sys2Proof.Machine.execIcmpEchoRequest dt rx ip s
  | .ptpAnnounceReceived dt e2 msg => Sys2Proof.Machine.execPtpAnnounceReceived dt e2 msg s
  | .pcycReqEnd dt => Sys2Proof.Machine.execPcycReqEnd dt s

end Sys2Proof.Machine
end

