-- ==== Sys2Proof/Safety.lean ====
section
/-! DEFINITION. What every command keeps, whatever it does: the terms in which a run of the module is sound. -/

namespace Sys2Proof

/-- A reference reaches slot `j`: its own slot, and the next one where it is a pair (R32, R33). -/
def SlotRef.covers (r : SlotRef) (j : Nat) : Bool := decide (j = r.slot) || (r.wide && decide (j = r.slot + 1))

end Sys2Proof

namespace Sys2Proof.Machine

/-- What stands in every sound state: the process image in its canonical form, forces listed by ascending slot and at
most 256 (R436), OWNER_N driven low exactly while the module is ACTIVE (R480), at most eight open sessions (R432), and
at most 64 staged records (R526). -/
structure State.Sound (s : State) : Prop where
  image : SlotMap.wf s.slots = true
  forced : ascending s.forces = true
  forceCap : s.forces.length ≤ 256
  owner : s.pair.drive = decide (s.mode = .active)
  sessions : s.sessions.length ≤ 8
  staging : s.log.fifo.length ≤ 64

/-- A request that its session has not sent before: SMP is served, no other request is in execution or waits, the session
is open, and the number is above every one that it has sent (R93, R432). -/
structure State.Asks (sid req : Nat) (x : Session) (s : State) : Prop where
  served : s.smpOn = true
  idle : s.smpBusy = false
  empty : s.waiting = []
  session : s.session sid = some x
  fresh : x.fresh req = true

/-- A write of a whole word that the bus admits: the master can make it, a register of a configured unit stands there,
its guards are open to the master, and neither another master nor a function has written it in this tick (R125, R127 to
R131, R137). -/
structure State.Admits (m : Master) (addr : Nat) (s : State) : Prop where
  master : s.canAccess m = true
  mapped : ∃ h, regAt addr = some h ∧ s.regDisabled h.row.id h.i = false ∧ s.guardOk m h.row addr h.row.wr = true
  first : ¬ m.rank < lookupD 0 addr s.bus.wrote
  quiet : addr ∉ s.bus.fnSet
  alone : ∀ p ∈ s.bus.undo, p.1 ≠ addr

/-- What one command may not change on its way: the clock once its time has passed, the queue, and a bound that the
sequence floor keeps unless the owner releases the module (R101, R111). -/
structure Bounds where
  clock : Nat
  queue : List Instr
  floor : Nat
  /-- OWNER_RELEASE may run: as this command, or as a request that has waited. -/
  release : Bool

/-- `s` is sound and keeps the bounds `q`. -/
structure Holds (q : Bounds) (s : State) : Prop extends State.Sound s where
  clock : s.clock = q.clock
  queue : s.pending = q.queue
  floor : q.release = true ∨ q.floor ≤ s.store.floor
  waits : q.release = true ∨ ∀ r ∈ s.waiting, r.cmd ≠ 0x11

end Sys2Proof.Machine
end

