-- ==== Sys2Proof/WellFormed.lean ====
section
/-! DEFINITION. Well-formed commands: every operand lies in the range that its encoding or its number of units gives
(R1, R33, R59, R123, R432, R433, R484 to R494). What R437 calls MALFORMED is the meaning's to refuse, not ill-formed. -/

namespace Sys2Proof

def Modem.inRange (m : Modem) : Bool := match m with | .ai k => decide (k < 8) | .ao k => decide (k < 16)

/-- R392: an 11-bit or 29-bit identifier, at most 64 data bytes. -/
def CanFrame.inRange (f : CanFrame) : Bool :=
  decide (f.ident < (if f.ide then 2 ^ 29 else 2 ^ 11)) && decide (f.dlc < 16) && decide (f.data.length ≤ 64)

def MirrorMsg.inRange (m : MirrorMsg) : Bool :=
  decide (m.first + m.values.length ≤ 8192) && decide (m.states.length = m.values.length) &&
  m.states.all fun x => decide (x < 4)

/-- A 48-bit source address and a 16-bit sequence number of the redundancy trailer (R423). -/
def EthRx.inRange (r : EthRx) : Bool := decide (r.mac < 2 ^ 48) && r.seq.all fun n => decide (n < 65536)

def Announce.inRange (a : Announce) : Bool :=
  decide (a.domain < 256 ∧ a.prio1 < 256 ∧ a.clkClass < 256 ∧ a.accuracy < 256 ∧ a.variance < 65536 ∧ a.prio2 < 256 ∧
    a.steps < 65536 ∧ a.sender < 2 ^ 80)

/-- The commands of R433. -/
def smpCodes : List Nat :=
  [0x01, 0x02, 0x03, 0x04, 0x05, 0x06, 0x07, 0x08, 0x10, 0x11, 0x20, 0x21, 0x22, 0x23, 0x24, 0x25, 0x26, 0x30, 0x31, 0x32,
   0x40, 0x41, 0x50, 0x51, 0x52, 0x53, 0x54, 0x60, 0x61, 0x70, 0x71, 0x72, 0x73, 0x78, 0x79, 0x7A]

def StatusMsg.inRange (m : StatusMsg) : Bool := decide (m.member < 4 ∧ m.state < 8 ∧ m.key < 4 ∧ m.digest8.length = 8)

def RoundMsg.inRange (m : RoundMsg) : Bool := decide (m.owner < 4 ∧ m.verdictA < 4 ∧ m.verdictB < 4)

def Hello.inRange (h : Hello) : Bool :=
  decide (h.member < 4 ∧ h.state < 8 ∧ h.key < 4 ∧ h.olc < 4 ∧ h.digest.length = 32 ∧ h.stageDigest.length = 32)

def MemLoc.inRange (l : MemLoc) : Bool :=
  match l with
  | .slot i => decide (i < 65536)
  | .quality i => decide (i < 65536)
  | .func f _ => decide (f < 16)
  | .mgmtCode _ => true
  | .mgmtData _ => true
  | .record i => decide (i < 1280)

def Instr.wf (i : Instr) : Bool :=
  match i with
  | .mateClose _ => true
  | .presenceAccepted _ => true
  | .porRelease _ r1 r2 r3 => decide (r1 < 128) && decide (r2 < 128) && decide (r3 < 128)
  | .lampTestEnd _ => true
  | .firmwareVerified _ _ => true
  | .selftestComplete _ _ _ => true
  | .copySelection _ => true
  | .startupEnd _ => true
  | .feedLost _ _ => true
  | .powerFail _ cause => decide (cause < 4)
  | .powerFailReset _ => true
  | .backupBrownout _ => true
  | .keyAccept _ _ _ => true
  | .keyFault _ _ => true
  | .ejectButton _ _ => true
  | .ejectPrepared _ => true
  | .ejectTimeout _ => true
  | .loadTimeout _ => true
  | .adoptTransferComplete _ => true
  | .commitMarkDone _ => true
  | .duplicationComplete _ => true
  | .registerWrite _ _ addr width _ => decide (addr < 65536) && decide (width ∈ [1, 2, 4, 8])
  | .reg64LowRead _ _ addr => decide (addr < 65536)
  | .reg64LowWrite _ _ addr _ => decide (addr < 65536)
  | .reg64HighWrite _ _ addr _ => decide (addr < 65536)
  | .tollgateWrite _ _ _ => true
  | .tollgateExpire _ _ => true
  | .tollgateLockoutEnd _ _ => true
  | .accerrClrcnt _ _ _ => true
  | .cfgParityFail _ addr => decide (addr < 65536)
  | .harvest _ => true
  | .evaluationBegin _ => true
  | .blockEvaluate _ _ => true
  | .windowEnd _ => true
  | .deliver _ disagree => disagree.all (fun i => decide (i < 65536))
  | .checkpointDeferEnd _ => true
  | .barnSaveDone _ => true
  | .mirrorSnapshot _ => true
  | .syncSend _ ch => decide (ch < 5)
  | .olcPrepared _ => true
  | .olcDrainLimit _ => true
  | .olcPrepareTimeout _ => true
  | .toothEdge _ d frac _ => decide (d < 8) && decide (frac < 16)
  | .camMarkerEdge _ d => decide (d < 8)
  | .quadRefEdge _ d => decide (d < 8)
  | .bvPhaseUpdate _ ph4 ph5 f4 f5 _ _ =>
    decide (ph4 < 2 ^ 32) && decide (ph5 < 2 ^ 32) && decide (f4 < 16) && decide (f5 < 16)
  | .domainTimeout _ d => decide (d < 8)
  | .dirRefChange _ d => decide (d < 8)
  | .milestoneFire _ slot => decide (slot < 1024)
  | .pulseEnd _ slot => decide (slot < 1024)
  | .syncCloseFeedback _ slot => decide (slot < 1024)
  | .syncNoFeedback _ slot => decide (slot < 1024)
  | .trackerCompare _ _ => true
  | .loopTimeTrigger _ ctx => decide (ctx < 160)
  | .loopSampleBegin _ => true
  | .loopSampleCommit _ _ => true
  | .loopSampleMissed _ ctx => decide (ctx < 160)
  | .assemblyBegin _ => true
  | .assemblyEnd _ => true
  | .solveBegin _ => true
  | .solveHandover _ _ => true
  | .residualCheck _ => true
  | .aiScan _ _ xs => xs.all (fun p => decide (p.1 < 24))
  | .aiSampleCommit _ ch _ _ => decide (ch < 24)
  | .aiRefCheck _ ch _ => decide (ch < 24)
  | .hartTransactionStart _ modem => Modem.inRange modem
  | .hartResponse _ modem _ _ vars bytes =>
    Modem.inRange modem && decide (vars.length ≤ 9) && decide (bytes.length ≤ 255)
  | .hartAttemptTimeout _ modem => Modem.inRange modem
  | .hartStale _ entry => decide (entry < 1536)
  | .aoFrame _ ch => decide (ch < 16)
  | .aoFrameTimeout _ ch => decide (ch < 16)
  | .aoHoldExpire _ ch => decide (ch < 16)
  | .aoLoopPower _ ch => decide (ch < 16)
  | .aoMeasure _ ch _ uA v10mV => decide (ch < 16) && decide (uA < 65536) && decide (v10mV < 65536)
  | .aoCompliance _ ch uA v10mV => decide (ch < 16) && decide (uA < 65536) && decide (v10mV < 65536)
  | .aoComplianceClear _ ch => decide (ch < 16)
  | .aoDeviation _ ch => decide (ch < 16)
  | .aoClockStep _ ch uA => decide (ch < 16) && decide (uA < 65536)
  | .aoTestWorkDone _ ch _ => decide (ch < 16)
  | .aoTest _ _ ch => decide (ch < 16)
  | .dioInputAccept _ ch _ _ => decide (ch < 32)
  | .dioSupplyLoss _ _ => true
  | .dioOverload _ ch => decide (ch < 32)
  | .dioMismatch _ ch => decide (ch < 32)
  | .dioOpenload _ ch => decide (ch < 32)
  | .canIntegrated _ ch => decide (ch < 4)
  | .canArbitration _ ch => decide (ch < 4)
  | .canTxAttemptEnd _ ch _ more tdcv => decide (ch < 4) && decide (more ≤ 31) && decide (tdcv < 128)
  | .canBusoffRecovered _ ch => decide (ch < 4)
  | .canFrameReceived _ ch frame => decide (ch < 4) && CanFrame.inRange frame
  | .canRioInputFrame _ ch frame => decide (ch < 4) && CanFrame.inRange frame
  | .canRioSyncReceived _ ch frame => decide (ch < 4) && CanFrame.inRange frame
  | .canRioOutputReceived _ ch frame => decide (ch < 4) && CanFrame.inRange frame
  | .stationSyncTimeout _ ch => decide (ch < 5)
  | .stationHoldExpire _ ch => decide (ch < 5)
  | .canRxPop _ _ ch seq => decide (ch < 4) && decide (seq < 256)
  | .canTxReq _ _ ch => decide (ch < 4)
  | .canTxCancel _ _ ch => decide (ch < 4)
  | .canCntClr _ _ ch => decide (ch < 4)
  | .canCnt2Clr _ _ ch => decide (ch < 4)
  | .ethLinkChange _ _ speed => decide (speed < 4)
  | .prpSupervisionSend _ => true
  | .ethRioInputFrame _ rx _ bytes => EthRx.inRange rx && decide (bytes.length ≤ 1500)
  | .ethRioSyncReceived _ rx _ bytes => EthRx.inRange rx && decide (bytes.length ≤ 1500)
  | .ethRioOutputReceived _ rx _ bytes => EthRx.inRange rx && decide (bytes.length ≤ 1500)
  | .ethStopReceived _ rx _ addr => EthRx.inRange rx && decide (addr < 65536)
  | .ethRioClr _ _ => true
  | .ptpOffsetMeasured _ _ _ _ => true
  | .ptpAnnounceTimeout _ _ => true
  | .rtcDiscipline _ _ => true
  | .rtcWrite _ => true
  | .smpHandshake _ sid suite group scheme _ _ _ _ =>
    decide (sid < 2 ^ 32) && decide (suite < 65536) && decide (group < 65536) && decide (scheme < 65536)
  | .sessionIdleTimeout _ sid => decide (sid < 2 ^ 32)
  | .dtlsClose _ sid => decide (sid < 2 ^ 32)
  | .unknownCmd _ sid req cmd p =>
    decide (sid < 2 ^ 32) && decide (req < 2 ^ 32) && decide (cmd < 65536 ∧ cmd ∉ smpCodes) &&
      decide (p.length ≤ 65535)
  | .identChallenge _ sid req p => decide (sid < 2 ^ 32) && decide (req < 2 ^ 32) && decide (p.length ≤ 65535)
  | .statusRead _ sid req p => decide (sid < 2 ^ 32) && decide (req < 2 ^ 32) && decide (p.length ≤ 65535)
  | .logRead _ sid req p => decide (sid < 2 ^ 32) && decide (req < 2 ^ 32) && decide (p.length ≤ 65535)
  | .regRead _ sid req p => decide (sid < 2 ^ 32) && decide (req < 2 ^ 32) && decide (p.length ≤ 65535)
  | .regWrite _ sid req p => decide (sid < 2 ^ 32) && decide (req < 2 ^ 32) && decide (p.length ≤ 65535)
  | .slotRead _ sid req p => decide (sid < 2 ^ 32) && decide (req < 2 ^ 32) && decide (p.length ≤ 65535)
  | .logAck _ sid req p => decide (sid < 2 ^ 32) && decide (req < 2 ^ 32) && decide (p.length ≤ 65535)
  | .logClear _ sid req p => decide (sid < 2 ^ 32) && decide (req < 2 ^ 32) && decide (p.length ≤ 65535)
  | .logCleared _ => true
  | .ownerEnrol _ sid req p => decide (sid < 2 ^ 32) && decide (req < 2 ^ 32) && decide (p.length ≤ 65535)
  | .ownerRelease _ sid req p => decide (sid < 2 ^ 32) && decide (req < 2 ^ 32) && decide (p.length ≤ 65535)
  | .imageLoadBegin _ sid req p => decide (sid < 2 ^ 32) && decide (req < 2 ^ 32) && decide (p.length ≤ 65535)
  | .imageData _ sid req p => decide (sid < 2 ^ 32) && decide (req < 2 ^ 32) && decide (p.length ≤ 65535)
  | .imageLoadEnd _ sid req p => decide (sid < 2 ^ 32) && decide (req < 2 ^ 32) && decide (p.length ≤ 65535)
  | .imageVerify _ sid req p => decide (sid < 2 ^ 32) && decide (req < 2 ^ 32) && decide (p.length ≤ 65535)
  | .imageAbort _ sid req p => decide (sid < 2 ^ 32) && decide (req < 2 ^ 32) && decide (p.length ≤ 65535)
  | .imageAdopt _ sid req p _ partnerSlotRef len =>
    decide (sid < 2 ^ 32) && decide (req < 2 ^ 32) && decide (p.length ≤ 65535) &&
      decide (partnerSlotRef < 64) && decide (len < 2 ^ 32)
  | .imageCommit _ sid req p => decide (sid < 2 ^ 32) && decide (req < 2 ^ 32) && decide (p.length ≤ 65535)
  | .olcPrepare _ sid req p => decide (sid < 2 ^ 32) && decide (req < 2 ^ 32) && decide (p.length ≤ 65535)
  | .olcSwitch _ sid req p => decide (sid < 2 ^ 32) && decide (req < 2 ^ 32) && decide (p.length ≤ 65535)
  | .olcAbort _ sid req p => decide (sid < 2 ^ 32) && decide (req < 2 ^ 32) && decide (p.length ≤ 65535)
  | .forceSet _ sid req p => decide (sid < 2 ^ 32) && decide (req < 2 ^ 32) && decide (p.length ≤ 65535)
  | .forceRelease _ sid req p => decide (sid < 2 ^ 32) && decide (req < 2 ^ 32) && decide (p.length ≤ 65535)
  | .barnCheckpoint _ sid req p => decide (sid < 2 ^ 32) && decide (req < 2 ^ 32) && decide (p.length ≤ 65535)
  | .safeEnter _ sid req p => decide (sid < 2 ^ 32) && decide (req < 2 ^ 32) && decide (p.length ≤ 65535)
  | .safeClear _ sid req p => decide (sid < 2 ^ 32) && decide (req < 2 ^ 32) && decide (p.length ≤ 65535)
  | .eject _ sid req p => decide (sid < 2 ^ 32) && decide (req < 2 ^ 32) && decide (p.length ≤ 65535)
  | .timeSet _ sid req p => decide (sid < 2 ^ 32) && decide (req < 2 ^ 32) && decide (p.length ≤ 65535)
  | .hartPass _ sid req p => decide (sid < 2 ^ 32) && decide (req < 2 ^ 32) && decide (p.length ≤ 65535)
  | .uslAck _ sid req p => decide (sid < 2 ^ 32) && decide (req < 2 ^ 32) && decide (p.length ≤ 65535)
  | .pairHandover _ sid req p => decide (sid < 2 ^ 32) && decide (req < 2 ^ 32) && decide (p.length ≤ 65535)
  | .pairSwaptest _ sid req p => decide (sid < 2 ^ 32) && decide (req < 2 ^ 32) && decide (p.length ≤ 65535)
  | .pairClear _ sid req p => decide (sid < 2 ^ 32) && decide (req < 2 ^ 32) && decide (p.length ≤ 65535)
  | .pairSolo _ sid req p => decide (sid < 2 ^ 32) && decide (req < 2 ^ 32) && decide (p.length ≤ 65535)
  | .brakeTest _ sid req p => decide (sid < 2 ^ 32) && decide (req < 2 ^ 32) && decide (p.length ≤ 65535)
  | .safetyUnlock _ sid req p => decide (sid < 2 ^ 32) && decide (req < 2 ^ 32) && decide (p.length ≤ 65535)
  | .soClear _ sid req p _ => decide (sid < 2 ^ 32) && decide (req < 2 ^ 32) && decide (p.length ≤ 65535)
  | .uslDataReceived _ rx conn pdu => rx.all EthRx.inRange && decide (conn < 64) && decide (pdu.length ≤ 1500)
  | .uslAckReceived _ rx conn pdu => rx.all EthRx.inRange && decide (conn < 64) && decide (pdu.length ≤ 1500)
  | .uslWatchdogExpire _ conn => decide (conn < 64)
  | .uslAckTimeout _ conn => decide (conn < 64)
  | .uslCctlAck _ _ conn => decide (conn < 64)
  | .uslCcntClr _ _ conn => decide (conn < 64)
  | .brakeOn _ ch _ => decide (ch < 4)
  | .brakeDemand _ ch _ => decide (ch < 4)
  | .testPulseStart _ ch => decide (ch < 4)
  | .testPulseCheck _ ch _ => decide (ch < 4)
  | .testPulseEnd _ ch => decide (ch < 4)
  | .testPulseOverdue _ ch => decide (ch < 4)
  | .brakeChannelFault _ ch cause mA vhs vls =>
    decide (ch < 4) && decide (1 ≤ cause ∧ cause < 16) && decide (mA < 65536) && decide (vhs < 256) &&
      decide (vls < 256)
  | .brakeTestPhaseEnd _ ch _ => decide (ch < 4)
  | .testDue _ ch => decide (ch < 4)
  | .safetyUnlockExpire _ sid => decide (sid < 2 ^ 32)
  | .safetyPwdLockoutEnd _ => true
  | .soBcntClr _ _ k => decide (k < 4)
  | .soLogIdx _ _ _ => true
  | .helloSend _ => true
  | .helloReceived _ lane hello => decide (lane < 2) && Hello.inRange hello
  | .laneDown _ lane => decide (lane < 2)
  | .partnerSilent _ => true
  | .pairFormed _ => true
  | .pairSelfElect _ => true
  | .singleActivate _ => true
  | .mirrorFrameReceived _ lane msg => decide (lane < 2) && MirrorMsg.inRange msg
  | .shadowSend _ => true
  | .shadowReceived _ lane _ _ => decide (lane < 2)
  | .offerNotice _ lane _ _ => decide (lane < 2)
  | .acceptNotice _ lane => decide (lane < 2)
  | .declineNotice _ lane => decide (lane < 2)
  | .relinquishNotice _ lane cause => decide (lane < 3) && decide (cause < 3)
  | .switchNotice _ lane _ => decide (lane < 2)
  | .safeNotice _ lane => decide (lane < 2)
  | .imgreq _ lane => decide (lane < 2)
  | .imgdata _ lane ofs data => decide (lane < 2) && decide (ofs < 2 ^ 32) && decide (data.length ≤ 4096)
  | .roundStart _ => true
  | .statusSend _ => true
  | .statusReceived _ msg us => StatusMsg.inRange msg && decide (us < 65536)
  | .roundReceived _ msg => RoundMsg.inRange msg
  | .refereeAbsent _ => true
  | .takeover _ => true
  | .ownerStuck _ => true
  | .ownerMismatch _ => true
  | .handoverTx _ => true
  | .revertStart _ => true
  | .swapTestStart _ => true
  | .swapDwellEnd _ => true
  | .pairMcntClr _ _ => true
  | .clockCheck _ _ count => decide (count < 2 ^ 32)
  | .mgmtWatchdogExpire _ => true
  | .safetySelftest _ _ => true
  | .signatureCompare _ _ => true
  | .checkerTest _ _ => true
  | .scrubWord _ loc _ _ _ => MemLoc.inRange loc
  | .functionRung _ f unit => decide (f < 16) && unit.all (fun x => decide (x < 1032))
  | .moduleRung _ => true
  | .resetRelease _ r1 r2 r3 => decide (r1 < 128) && decide (r2 < 128) && decide (r3 < 128)
  | .pcycIgnored _ => true
  | .ladderWindowExpire _ f unit => f.all (fun x => decide (x < 16)) && unit.all (fun x => decide (x < 1032))
  | .diagRecoverUnit _ _ f unit => decide (f < 16) && decide (unit < 1032)
  | .diagRecoverModule _ _ => true
  | .diagFcntClr _ _ f => decide (f < 16)
  | .diagMemClr _ _ => true
  | .recordWriteDone _ => true
  | .logLostClr _ _ => true
  | .logPeakClr _ _ => true
  | .logRdNum _ _ _ => true
  | .seqLstatClr _ _ k => decide (k < 4)
  | .imgSlotIdx _ _ _ => true
  | .imgInstIdx _ _ _ => true
  | .imgFindId _ _ _ => true
  | .msSlotIdx _ _ _ => true
  | .msSlotCommit _ _ _ => true
  | .loopCoefA _ _ n _ => decide (n < 160)
  | .loopSwap _ _ n modeReq => decide (n < 160) && decide (modeReq < 4)
  | .loopSupack _ _ n modeReq => decide (n < 160) && decide (modeReq < 4)
  | .loopCntClr _ _ n => decide (n < 160)
  | .slvWinSel _ _ _ => true
  | .slvPcntClr _ _ p => decide (p < 4)
  | .aiChCntClr _ _ n => decide (n < 24)
  | .mateContactOpen _ _ => true
  | .powerReturn _ => true
  | .feedOkChange _ _ mV => decide (mV < 65536)
  | .dioSupplyReturn _ _ => true
  | .aoChannelNoFrame _ ch => decide (ch < 16)
  | .canReceiveError _ ch _ more => decide (ch < 4) && decide (more ≤ 31)
  | .arpRequest _ rx _ => EthRx.inRange rx
  | .icmpEchoRequest _ rx _ => EthRx.inRange rx
  | .ptpAnnounceReceived _ _ msg => Announce.inRange msg
  | .pcycReqEnd _ => true

end Sys2Proof
end

