-- ==== Sys2Proof/Certificates/Slice0/Obligations.lean ====
section
/-! DEFINITION. The statements for the provers: what each command does, when it completes, what every step keeps. -/

open Sys2Proof Sys2Proof.Machine

/-- With the insertion sequence's conditions standing, MATE_CLOSE and POWER_RETURN start it, PRESENCE_ACCEPTED passes it
on at 10 ms and POR_RELEASE releases reset at 75 ms; a mate contact that opens, or the loss of the feeds, before then
ends it. What POWER_RETURN takes the feeds and PWR_EN to be is the model's reading, log 27. (R80, R81, R72, R75) -/
def Obligations.InsertionRuns : Prop :=
  (∀ (s a : State) (dt : Nat), s.advance dt = a → (a.power.phase = .unpowered ∨ a.power.phase = .dead) → a.feedGood = true →
    exec (.mateClose dt) s = .next (finish { a with power := { a.power with mate1 := true, mate2 := true, phase := .mating a.clock } })) ∧
  (∀ (s a : State) (dt tm : Nat), s.advance dt = a → a.power.phase = .mating tm → tm + 4000000 ≤ a.clock → a.mayStart = true →
    exec (.presenceAccepted dt) s = .next (finish { a with power := { a.power with phase := .present tm } })) ∧
  (∀ (s a : State) (dt tm r1 r2 r3 : Nat), s.advance dt = a → a.power.phase = .present tm → tm + 30000000 ≤ a.clock → a.mayStart = true →
    ∃ u, exec (.porRelease dt r1 r2 r3) s = .next (finish u) ∧ u.power.phase = .startup ∧ u.boot.tr = a.clock ∧
      u.boot.slot = latchSlot r1 r2 r3 ∧ u.tick = 0 ∧ u.mode = .unconfigured ∧ u.slots = [] ∧ u.sessions = [] ∧
      u.store.owner = a.store.owner ∧ u.store.floor = a.store.floor ∧ u.store.copyA = a.store.copyA ∧
      u.store.copyB = a.store.copyB ∧ u.barn.banks = a.barn.banks ∧ u.log.recs = a.log.recs ∧ u.boot.rtc = a.boot.rtc) ∧
  (∀ (s a : State) (dt tm : Nat) (m2 : Bool), s.advance dt = a → (a.power.phase = .mating tm ∨ a.power.phase = .present tm) →
    exec (.mateContactOpen dt m2) s = .next (finish { a with power := { a.power with
      phase := .unpowered, mate1 := a.power.mate1 && m2, mate2 := a.power.mate2 && !m2 } })) ∧
  (∀ (s a : State) (dt v : Nat) (b : Bool), s.advance dt = a → a.power.phase = .operating →
    exec (.feedOkChange dt b v) s = .next (finish { a with power := { a.power with
      feedAOk := if b then a.power.feedAOk else decide (17000 ≤ v ∧ v ≤ 33000),
      feedBOk := if b then decide (17000 ≤ v ∧ v ≤ 33000) else a.power.feedBOk,
      feedAStart := if b then a.power.feedAStart else decide (18000 ≤ v ∧ v ≤ 32000),
      feedBStart := if b then decide (18000 ≤ v ∧ v ≤ 32000) else a.power.feedBStart } })) ∧
  (∀ (s a : State) (dt tm v : Nat), s.advance dt = a → (a.power.phase = .mating tm ∨ a.power.phase = .present tm) → a.power.feedBStart = false →
    v < 17000 → exec (.feedOkChange dt false v) s = .next (finish { a with power := { a.power with
      feedAOk := false, feedAStart := false, phase := .unpowered } })) ∧
  (∀ (s a : State) (dt : Nat), s.advance dt = a → (a.power.phase = .unpowered ∨ a.power.phase = .dead) →
    a.power.mate1 = true → a.power.mate2 = true → a.power.feedAStart = true →
    exec (.powerReturn dt) s = .next (finish { a with power := { a.power with pwrEn := true, phase := .mating a.clock } }))

/-- During start-up FIRMWARE_VERIFIED, SELFTEST_COMPLETE, LAMP_TEST_END and COPY_SELECTION take their effects, and
STARTUP_END ends start-up with the self-test's failure, or with the outcome of copy selection. (R93, R94, R96, R78,
R87, R110) -/
def Obligations.StartupRuns : Prop :=
  (∀ (s a : State) (dt : Nat), s.advance dt = a → a.power.phase = .startup → a.boot.fwRun = false →
    exec (.firmwareVerified dt false) s = .next (finish { a with power := { a.power with phase := .inert }, boot := { a.boot with fwBad := true } })) ∧
  (∀ (s a : State) (dt : Nat), s.advance dt = a → a.power.phase = .startup → a.boot.fwRun = false →
    ∃ u, exec (.firmwareVerified dt true) s = .next (finish u) ∧ u.boot = { a.boot with
      fwRun := true, wasBrownout := a.boot.brownout, brownout := false, rtcValid := a.boot.rtcSet && !a.boot.brownout } ∧ u.power = a.power ∧ u.store = a.store ∧ u.mode = a.mode) ∧
  (∀ (s a : State) (dt : Nat) (ok se : Bool), s.advance dt = a → a.power.phase = .startup → a.boot.fwRun = true →
    a.boot.selftest = none → exec (.selftestComplete dt ok se) s = .next (finish { a with boot := { a.boot with selftest := some ok, seOk := se } })) ∧
  (∀ (s a : State) (dt : Nat), s.advance dt = a → a.boot.lampTest = true → a.boot.tr + 400000000 ≤ a.clock →
    exec (.lampTestEnd dt) s = .next (finish { a with boot := { a.boot with lampTest := false } })) ∧
  (∀ (s a : State) (dt : Nat), s.advance dt = a → a.power.phase = .startup → a.boot.selftest = some true →
    a.boot.copyDone = false → a.store.copyA.marked = false → a.store.copyB.marked = false →
    exec (.copySelection dt) s = .next (finish { a with
      store := { a.store with candA := false, candB := false, selected := none, loaded := none },
      boot := { a.boot with copyDone := true, code := if a.store.owner.isSome then 0x0F else 1, ldType := 0 } })) ∧
  (∀ (s a : State) (dt : Nat), s.advance dt = a → a.power.phase = .startup → a.boot.fwRun = true → a.boot.selftest = some false →
    ∃ u, exec (.startupEnd dt) s = .next (finish u) ∧ u.power = { a.power with phase := .operating } ∧
      u.boot = { a.boot with outcome := 0x11, endTick := a.clock } ∧ u.mode = a.mode ∧ u.store = a.store) ∧
  (∀ (s a : State) (dt : Nat), s.advance dt = a → a.power.phase = .startup → a.boot.fwRun = true → a.boot.selftest = some true →
    a.boot.copyDone = true → a.store.loaded = none →
    ∃ u, exec (.startupEnd dt) s = .next (finish u) ∧ u.power = { a.power with phase := .operating } ∧
      u.boot = { a.boot with outcome := a.boot.code, endTick := a.clock } ∧ u.mode = a.mode ∧ u.store = a.store)

/-- A feed reported lost is recorded; the power-fail event starts the sequence in any module state, withdraws what R74
withdraws and stages POWER_FAIL; 18 ms later the module is held in reset with only what R74 and R77 keep; and a backup
brown-out stops the clock and empties the backed SRAM. The module state during the sequence is the model's reading,
log 26. (R72, R73, R74, R77, R78, R528) -/
def Obligations.PowerFailRuns : Prop :=
  (∀ (s a : State) (dt : Nat) (b : Bool), s.advance dt = a → a.power.phase = .operating →
    exec (.feedLost dt b) s = .next (finish (State.record 0x0009 0 (b2n b) (leBytes 1 (b2n b)) { a.latchSet 0x000C (if b then 8 else 4) with power := { a.power with
      feedAOk := b && a.power.feedAOk, feedAStart := b && a.power.feedAStart, feedALost := !b || a.power.feedALost,
      feedBOk := !b && a.power.feedBOk, feedBStart := !b && a.power.feedBStart, feedBLost := b || a.power.feedBLost } }))) ∧
  (∀ (s a : State) (dt c : Nat), s.advance dt = a → (a.power.phase = .startup ∨ a.power.phase = .operating ∨ a.power.phase = .inert) →
    ∃ u, exec (.powerFail dt c) s = .next (finish u) ∧ u.power.phase = .powerFail a.clock ∧ u.mode = .unconfigured ∧
      u.panel.eject = .none ∧ u.store.dup = none ∧ u.pair.takeover = none ∧ u.log.clear = none ∧
      (∃ e, u.log.pf = some e ∧ e.code = 0x0008 ∧ e.tick = a.clock ∧ e.time = a.ns)) ∧
  (∀ (s a : State) (dt tp : Nat), s.advance dt = a → a.power.phase = .powerFail tp → tp + 7200000 ≤ a.clock →
    ∃ u, exec (.powerFailReset dt) s = .next (finish u) ∧ u.power.phase = (if a.mayStart then .mating a.clock else .dead) ∧ u.mode = .unconfigured ∧ u.slots = [] ∧
      u.forces = [] ∧ u.sessions = [] ∧ u.store.image = none) ∧
  (∀ (s a : State) (dt : Nat), s.advance dt = a → (a.power.phase = .unpowered ∨ a.power.phase = .dead) →
    exec (.backupBrownout dt) s = .next (finish { a with
      boot := { a.boot with brownout := true, rtcValid := false, rtcSet := false, rtc := 0 }, snap := {},
      log := { a.log with recs := [], lastCirc := none } }))

/-- An accepted key position becomes the key's, in STOP an ACTIVE module requests the hand-over; a key fault is latched
and recorded; an eject request held 500 ms begins preparing, is ignored while preparing, and restarts a prepared
module; preparation ends prepared, or unprepared after 2 s. The outcome byte of EJECT, the restart of a prepared
module and that it takes no part in the pair until then are the model's, logs 22, 28 and 114. (R83, R84, R85, R86,
R87, R174) -/
def Obligations.PanelRuns : Prop :=
  (∀ (s a : State) (dt : Nat) (k1 k2 : Bool) (k : Key), s.advance dt = a → a.power.phase = .operating → keyOf k1 k2 = some k → k ≠ a.panel.key →
    ∃ u, exec (.keyAccept dt k1 k2) s = .next (finish u) ∧ u.panel = { a.panel with key := k } ∧ u.mode = a.mode ∧ u.slots = a.slots ∧
      u.forces = a.forces ∧ u.store = a.store ∧ u.sessions.length = a.sessions.length) ∧
  (∀ (s a : State) (dt : Nat) (k1 k2 : Bool) (k : Key), s.advance dt = a → a.power.phase = .operating → keyOf k1 k2 = some k → k ≠ a.panel.key →
    a.olc.st = .none → ¬ (k = .stop ∧ a.mode = .active) →
    exec (.keyAccept dt k1 k2) s = .next (finish { a with panel := { a.panel with key := k } })) ∧
  (∀ (s a : State) (dt : Nat), s.advance dt = a → a.power.phase = .operating → a.panel.key ≠ .stop → a.olc.st = .none → a.mode = .active →
    exec (.keyAccept dt true false) s = .next (finish (({ a with panel := { a.panel with key := .stop } } : State).requestHandover 4))) ∧
  (keyOf true false = some .stop ∧ keyOf true true = some .prog ∧ keyOf false true = some .run ∧ keyOf false false = none) ∧
  (∀ (s a : State) (dt : Nat), s.advance dt = a → exec (.keyAccept dt false false) s = .next (finish a)) ∧
  (∀ (s a : State) (dt : Nat) (d : Bool), s.advance dt = a → a.power.phase = .operating →
    exec (.keyFault dt d) s = .next (finish (State.record 0x000A 0 0 [] { a.latchSet 0x0004 64 with panel := { a.panel with keyFault := true } }))) ∧
  (∀ (s a : State) (dt hm : Nat), s.advance dt = a → 500 ≤ hm → a.power.phase = .operating → a.panel.eject = .none →
    a.pair.drive = false → a.olc.st = .none →
    exec (.ejectButton dt hm) s = .next (finish (State.record 0x000B 0 0 [0x00#8]
      { a with panel := { a.panel with eject := .preparing a.clock a.mode false } }))) ∧
  (∀ (s a : State) (dt hm : Nat), s.advance dt = a → 500 ≤ hm → a.power.phase = .operating → a.panel.eject = .prepared →
    ∃ u, exec (.ejectButton dt hm) s = .next (finish u) ∧ u.power.phase = (if a.mayStart then .mating a.clock else .dead) ∧ u.mode = .unconfigured ∧ u.panel.eject = .none) ∧
  (∀ (s a : State) (dt t : Nat) (m : ModState) (b : Bool), s.advance dt = a → a.panel.eject = .preparing t m b → a.mode ≠ .active →
    a.barn.save = none → ∃ u, exec (.ejectPrepared dt) s = .next (finish u) ∧ u.panel = { a.panel with eject := .prepared } ∧
      u.mode = (if a.mode = .unconfigured ∨ a.mode = .safe then a.mode else .isolated) ∧ u.slots = a.slots ∧ u.store = a.store) ∧
  (∀ (s a : State) (dt t : Nat) (m : ModState) (b : Bool), s.advance dt = a → a.panel.eject = .preparing t m b →
    t + 800000000 < a.clock → ∃ u, exec (.ejectTimeout dt) s = .next (finish u) ∧
      u.panel = { a.panel with eject := .none, tripleEnd := a.clock + 300000000 } ∧ u.mode = a.mode ∧ u.slots = a.slots)

/-- An accepted request of the reading commands answers 00h with the payload that its rule gives, IDENT_CHALLENGE with the
device certificate and a signature by the device key, and a command code that the module does not define answers 41h;
a payload that has not the command's layout answers MALFORMED. Beside the response and the session's own bookkeeping
nothing changes but what IDENT_CHALLENGE draws and the parity that STATUS_READ checks. The layout of a slot in the
answer is the model's reading, log 63; the certificate's form and ECDSA are those of their standards, logs 8, 78 and
111. (R43, R98, R432, R433, R434, R437) -/
def Obligations.SmpReads : Prop :=
  (∀ (s a : State) (dt sid req : Nat) (p : List Byte) (x : Session) (cmd : Nat), s.advance dt = a → a.Asks sid req x →
    cmd ∉ smpCodes →
    exec (.unknownCmd dt sid req cmd p) s = .next (finish ((a.taken sid req cmd).answer sid req 0x41 []))) ∧
  (∀ (s a : State) (dt sid req : Nat) (p : List Byte) (x : Session), s.advance dt = a → a.Asks sid req x →
    a.roleOk .viewer true x = true → p.length = 32 →
    exec (.identChallenge dt sid req p) s = .next (finish (((a.taken sid req 0x01).identSig p).2.answer sid req 0
      ((a.taken sid req 0x01).deviceCert ++ ((a.taken sid req 0x01).identSig p).1)))) ∧
  (∀ (s a : State) (dt sid req : Nat) (p : List Byte) (x : Session), s.advance dt = a → a.Asks sid req x →
    a.roleOk .viewer true x = true → p = [] →
    exec (.statusRead dt sid req p) s = .next (finish (((a.taken sid req 0x02).checkParity statusAddrs).answer sid req 0
      (a.taken sid req 0x02).statusBytes))) ∧
  (∀ (s a : State) (dt sid req : Nat) (p : List Byte) (x : Session), s.advance dt = a → a.Asks sid req x →
    a.roleOk .viewer true x = true → p.length = 5 → 1 ≤ getN p 4 1 → getN p 4 1 ≤ 32 →
    exec (.logRead dt sid req p) s = .next (finish ((a.taken sid req 0x03).answer sid req 0 (a.logBytes (getN p 0 4) (getN p 4 1))))) ∧
  (∀ (s a : State) (dt sid req : Nat) (p : List Byte) (x : Session), s.advance dt = a → a.Asks sid req x →
    a.roleOk .viewer false x = true → p.length = 4 → 1 ≤ getN p 2 2 → getN p 2 2 ≤ 128 → getN p 0 2 + getN p 2 2 ≤ 65536 →
    exec (.slotRead dt sid req p) s = .next (finish ((a.taken sid req 0x06).answer sid req 0 (a.slotBytes (getN p 0 2) (getN p 2 2))))) ∧
  (∀ (s a : State) (dt sid req : Nat) (p : List Byte) (x : Session), s.advance dt = a → a.Asks sid req x →
    a.roleOk .viewer false x = true → p.length ≠ 4 →
    exec (.slotRead dt sid req p) s = .next (finish ((a.taken sid req 0x06).answer sid req 0x42 []))) ∧
  (∀ (s a : State) (dt sid req : Nat) (p : List Byte) (x : Session), s.advance dt = a → a.Asks sid req x →
    a.roleOk .viewer true x = true → p.length ≠ 32 →
    exec (.identChallenge dt sid req p) s = .next (finish ((a.taken sid req 0x01).answer sid req 0x42 [])))

/-- A handshake with the suite, the group and the scheme of R431 opens an anonymous session on an UNOWNED module, and on
an OWNED one a session of its leaf's role where the chain ends at the owner root; another offer, a resumption, early
data or a ninth session is refused. A session that is idle for 30 s, or whose association closes, closes and leaves
the image and the mode as they are. The code points of the suite, group and scheme, and the reading of certificates,
are those of their standards, log 111. (R100, R116, R430, R431) -/
def Obligations.SmpSessions : Prop :=
  (∀ (s a : State) (dt sid : Nat) (pr : Bool), s.advance dt = a → a.smpOn = true → a.session sid = none →
    a.sessions.length < 8 → a.store.owner = none →
    ∃ u, exec (.smpHandshake dt sid 0x1301 0x0017 0x0403 false false pr []) s = .next (finish u) ∧ u.store = a.store ∧ u.mode = a.mode ∧
      u.sessions = a.sessions ++ [{ sid := sid, role := .anon, fp := [], lastRec := a.clock }]) ∧
  (∀ (s a : State) (dt sid : Nat) (root : List Byte) (rf : List Byte) (chain : List (List Byte)) (c : Cert) (r : Role), s.advance dt = a → a.smpOn = true → a.session sid = none →
    a.sessions.length < 8 → a.store.owner = some (root, rf) → chainLeaf root chain = some c → leafRole c = some r →
    (datesOk a.ns chain = true ∨ a.datesChecked = false) →
    ∃ u, exec (.smpHandshake dt sid 0x1301 0x0017 0x0403 false false true chain) s = .next (finish u) ∧ u.store = a.store ∧ u.mode = a.mode ∧
      u.sessions = a.sessions ++ [{ sid := sid, role := r, fp := sha256 (chain.headD []), lastRec := a.clock }]) ∧
  (∀ (s a : State) (dt sid : Nat) (n g k : Nat) (rs ea pr : Bool) (chain : List (List Byte)), s.advance dt = a →
    (offerOk n g k rs ea = false ∨ 8 ≤ a.sessions.length) →
    exec (.smpHandshake dt sid n g k rs ea pr chain) s = .next (finish a)) ∧
  (∀ (s a : State) (dt sid : Nat) (x : Session), s.advance dt = a → a.smpOn = true → a.session sid = some x → x.lastRec + 12000000000 < a.clock →
    ∃ u, exec (.sessionIdleTimeout dt sid) s = .next (finish u) ∧ u.session sid = none ∧ u.mode = a.mode ∧ u.slots = a.slots ∧
      u.sessions.map (·.sid) = (a.sessions.filter fun y => decide (y.sid ≠ sid)).map (·.sid) ∧ u.store.image = a.store.image) ∧
  (∀ (s a : State) (dt sid : Nat) (x : Session), s.advance dt = a → a.smpOn = true → a.session sid = some x →
    ∃ u, exec (.dtlsClose dt sid) s = .next (finish u) ∧ u.session sid = none ∧ u.mode = a.mode ∧ u.slots = a.slots ∧
      u.sessions.map (·.sid) = (a.sessions.filter fun y => decide (y.sid ≠ sid)).map (·.sid) ∧ u.store.image = a.store.image)

/-- A command whose session's role is too low answers ROLE_DENIED and is recorded; one in a module state or key position
that the table does not give answers WRONG_STATE and is recorded; a request number that its session has passed
executes nothing, and its stored response is sent again; a request that comes while another is in execution waits.
Role codes in the records are the model's choice, log 61, and which requests wait is its reading, log 64. (R175, R176,
R432, R433, R437) -/
def Obligations.SmpRefusals : Prop :=
  (∀ (s a : State) (dt sid req : Nat) (p : List Byte) (x : Session), s.advance dt = a → a.Asks sid req x →
    a.roleOk .owner false x = false →
    exec (.ownerRelease dt sid req p) s = .next (finish ((State.record 0x0010 0 0 (leBytes 2 0x11 ++ leBytes 1 0x40 ++ []) (a.taken sid req 0x11)).answer sid req 0x40 []))) ∧
  (∀ (s a : State) (dt sid req : Nat) (p : List Byte) (x : Session), s.advance dt = a → a.Asks sid req x →
    a.roleOk .engineer false x = true →
    (a.panel.key ≠ .prog ∨ a.mode ≠ .active) →
    exec (.forceSet dt sid req p) s = .next (finish ((State.record 0x000F 0 0 (leBytes 2 0x40 ++ leBytes 1 a.mode.code ++
      leBytes 1 a.panel.key.code ++ leBytes 1 x.role.code) (a.taken sid req 0x40)).answer sid req 0x30 []))) ∧
  (∀ (s a : State) (dt sid req : Nat) (p : List Byte) (x : Session) (r : Resp), s.advance dt = a → a.smpOn = true → a.smpBusy = false → a.waiting = [] →
    a.session sid = some x → x.fresh req = false → (x.stored.find? fun r => decide (r.req = req)) = some r → r.ready = true →
    exec (.forceSet dt sid req p) s = .next (finish ((a.heard sid).emit (.smp sid r.bytes)))) ∧
  (∀ (s a : State) (dt sid req : Nat) (p : List Byte), s.advance dt = a → a.smpOn = true → (a.smpBusy = true ∨ a.waiting ≠ []) →
    exec (.forceSet dt sid req p) s = .next (finish { a.heard sid with waiting := a.waiting ++ [{ sid := sid, req := req, cmd := 0x40, p := p }] })) ∧
  (∀ (s : State) (r : SmpReq), s.waiting = [r] → s.smpBusy = false → s.serveWaiting = ({ s with waiting := [] } : State).runSmp r)

/-- In their own conditions the image commands take the staging copy from EMPTY through RECEIVING and RECEIVED to
VERIFIED, abandon it, or begin its adoption or its commit, and answer 00h; IMAGE_VERIFY abandons a copy that fails a
check of the load, and answers that check's code. That a commit is answered at its acceptance is the model's reading,
log 73, and certificates are read by their standard, log 111. (R113, R115, R116, R118, R119, R120, R175) -/
def Obligations.SmpImages : Prop :=
  (∀ (s a : State) (dt sid req : Nat) (p : List Byte) (x : Session), s.advance dt = a → a.Asks sid req x →
    a.roleOk .engineer false x = true → p.length = 4 → a.tested = true → a.store.secFault = false →
    a.store.stage.st = .empty → a.store.commit = none → a.store.owner.isSome = true → lenInRange (getN p 0 4) = true → a.store.dup = none →
    exec (.imageLoadBegin dt sid req p) s = .next (finish (((State.beginLoad (getN p 0 4) (some sid) (a.taken sid req 0x20))).answer sid req 0 []))) ∧
  (∀ (s a : State) (dt sid req : Nat) (p : List Byte) (x : Session) (d : List Byte), s.advance dt = a → a.Asks sid req x →
    a.roleOk .engineer false x = true → a.tested = true → d.length ≤ 1024 → a.store.stage.st = .receiving →
    a.store.stage.sid = some sid → a.store.stage.data.length + d.length ≤ a.store.stage.len → 4 ≤ p.length → p.drop 4 = d →
    getN p 0 4 = a.store.stage.data.length →
    exec (.imageData dt sid req p) s = .next (finish (({ a.taken sid req 0x21 with store := { a.store with stage :=
      { a.store.stage with data := a.store.stage.data ++ d, lastData := a.clock } } } : State).answer sid req 0 []))) ∧
  (∀ (s a : State) (dt sid req : Nat) (p : List Byte) (x : Session), s.advance dt = a → a.Asks sid req x →
    a.roleOk .engineer false x = true → p = [] → a.tested = true → a.store.stage.st = .receiving →
    a.store.stage.data.length = a.store.stage.len →
    exec (.imageLoadEnd dt sid req p) s = .next (finish (({ a.taken sid req 0x22 with store := { a.store with stage := { a.store.stage with st := .received } } } : State).answer sid req 0 []))) ∧
  (∀ (s a : State) (dt sid req : Nat) (p : List Byte) (x : Session), s.advance dt = a → a.Asks sid req x →
    a.roleOk .engineer false x = true → p = [] → a.tested = true → a.store.secFault = false →
    a.store.stage.st = .received →
    ∃ u : State, exec (.imageVerify dt sid req p) s = .next (finish (u.answer sid req (match a.loadChecks.2.2 with | some _ => 0 | none => a.loadChecks.1) [])) ∧ u.store = { a.store with
      stage := (match a.loadChecks.2.2 with | some i => { a.store.stage with st := .verified, img := some i } | none => {}),
      lastLoad := (match a.loadChecks.2.2 with | some _ => 0 | none => a.loadChecks.1), lastType := (match a.loadChecks.2.2 with | some _ => 0 | none => a.loadChecks.2.1) } ∧
      u.mode = a.mode ∧ u.slots = a.slots) ∧
  (∀ (s a : State) (dt sid req : Nat) (p : List Byte) (x : Session), s.advance dt = a → a.Asks sid req x →
    a.roleOk .engineer false x = true → p = [] → a.tested = true → a.store.stage.st ≠ .empty →
    ∃ u : State, exec (.imageAbort dt sid req p) s = .next (finish (u.answer sid req 0 [])) ∧ u.store = { a.store with stage := {} } ∧
      u.slots = a.slots ∧ u.mode = a.mode) ∧
  (∀ (s a : State) (dt sid req : Nat) (p : List Byte) (x : Session) (r n : Nat), s.advance dt = a → a.Asks sid req x →
    a.roleOk .engineer false x = true → p = [] → a.panel.key = .prog → a.mode = .unconfigured → a.tested = true →
    a.store.secFault = false → a.store.stage.st = .empty → a.store.commit = none → a.store.dup = none → a.store.owner.isSome = true →
    a.boot.slot ≠ some r →
    exec (.imageAdopt dt sid req p true r n) s = .next (finish (((State.beginLoad n none (a.taken sid req 0x25)).sendOnce .imgReq).answer sid req 0 []))) ∧
  (∀ (s a : State) (dt sid req : Nat) (p : List Byte) (x : Session) (i : Image), s.advance dt = a → a.Asks sid req x →
    a.roleOk .engineer false x = true → p = [] → a.commitTable = true → a.store.secFault = false → a.store.stage.st = .verified →
    a.store.stage.img = some i → (a.so.safeDigest = none ∨ a.so.safeDigest = some (safeDigestOf i)) →
    ∃ u : State, exec (.imageCommit dt sid req p) s = .next (finish (u.answer sid req 0 [])) ∧ u.store.commit = some (false, a.stagingB) ∧
      u.store.stage.st = .empty ∧ u.copyOf a.stagingB = {
        bytes := a.store.stage.data, digest := imageDigest a.store.stage.data, seqNo := hdrSeq a.store.stage.data, mark := 0xFFFFFFFF#32 } ∧ u.store.floor = a.store.floor ∧ u.store.image = a.store.image)

/-- A load with no accepted IMAGE_DATA for 60 s is abandoned; a complete transfer makes an adoption RECEIVED; the commit
mark raises the floor to the copy's SEQ and starts duplication, outside an online change through start-up from copy
selection; duplication leaves both copies alike. (R111, R114, R116, R118, R119, R120) -/
def Obligations.ImageEvents : Prop :=
  (∀ (s a : State) (dt : Nat), s.advance dt = a → a.power.phase = .operating → a.store.stage.st = .receiving →
    a.store.stage.lastData + 24000000000 < a.clock →
    ∃ u, exec (.loadTimeout dt) s = .next (finish u) ∧ u.store = { a.store with stage := {} } ∧ u.mode = a.mode ∧ u.slots = a.slots) ∧
  (∀ (s a : State) (dt : Nat), s.advance dt = a → a.store.stage.st = .receiving → a.store.stage.sid = none →
    a.store.stage.data.length = a.store.stage.len →
    exec (.adoptTransferComplete dt) s = .next (finish { a with store := { a.store with stage := { a.store.stage with st := .received } } })) ∧
  (∀ (s a : State) (dt : Nat) (b : Bool), s.advance dt = a → a.power.phase = .operating → a.store.commit = some (false, b) →
    ∃ u, exec (.commitMarkDone dt) s = .next (finish u) ∧ u.store.floor = max a.store.floor (a.copyOf b).seqNo ∧
      u.store.commit = none ∧ u.store.dup = some (!b) ∧ u.copyOf b = { a.copyOf b with mark := 0x5A5AC3C3#32 } ∧ u.copyOf (!b) = {} ∧
      u.power.phase = .startup ∧ u.boot.copyDone = false ∧ u.store.image = none ∧ u.slots = []) ∧
  (∀ (s a : State) (dt : Nat) (b : Bool), s.advance dt = a → a.power.phase = .operating → a.store.commit = some (true, b) →
    ∃ u, exec (.commitMarkDone dt) s = .next (finish u) ∧ u.store.floor = max a.store.floor (a.copyOf b).seqNo ∧
      u.store.commit = none ∧ u.store.dup = some (!b) ∧ u.copyOf b = { a.copyOf b with mark := 0x5A5AC3C3#32 } ∧ u.copyOf (!b) = {} ∧
      u.power = a.power ∧ u.store.image = a.store.image ∧ u.slots = a.slots ∧ u.mode = a.mode) ∧
  (∀ (s a : State) (dt : Nat) (b : Bool), s.advance dt = a → a.power.phase = .operating → a.store.dup = some b →
    ∃ u, exec (.duplicationComplete dt) s = .next (finish u) ∧ u.copyOf b = a.copyOf (!b) ∧ u.copyOf (!b) = a.copyOf (!b) ∧
      u.store.dup = none ∧ u.store.selected = some false ∧ u.store.floor = a.store.floor ∧ u.slots = a.slots)

/-- LOG_ACK raises ACKNUM to the smaller of NUM and the newest number and never lowers it; LOG_CLEAR begins a clear that
is answered when it ends; the end of the clear answers its command. The newest number and the time of the answer are
the model's readings, logs 64 and 77. (R433, R529, R530) -/
def Obligations.SmpRecorder : Prop :=
  (∀ (s a : State) (dt sid req : Nat) (p : List Byte) (x : Session), s.advance dt = a → a.Asks sid req x →
    a.roleOk .operator false x = true → p.length = 4 →
    exec (.logAck dt sid req p) s = .next (finish ((State.record 0x0204 0 0 (leBytes 4 (max a.snap.ackNum (min (getN p 0 4) a.log.lastNum)))
      { a.taken sid req 0x07 with snap := { a.snap with ackNum := max a.snap.ackNum (min (getN p 0 4) a.log.lastNum) } }).answer sid req 0 []))) ∧
  (∀ (s a : State) (dt sid req : Nat) (p : List Byte) (x : Session), s.advance dt = a → a.Asks sid req x →
    a.roleOk .owner false x = true → p = [] →
    exec (.logClear dt sid req p) s = .next (finish ((a.taken sid req 0x08).startClear sid req x.fp))) ∧
  (∀ (s a : State) (dt sid req : Nat), s.advance dt = a → a.power.phase = .operating → a.log.clear = some (sid, req) →
    exec (.logCleared dt) s = .next (finish ((a.finishClear fun _ => true).answer sid req 0 [])))

/-- OWNER_ENROL stores the owner's root and its fingerprint and closes every session; OWNER_RELEASE erases both copies,
the floor, the Barn and the safety digest and leaves the module UNOWNED. That OWNER_RELEASE empties the staging copy
too is the model's reading, log 76, and certificates are read by their standard, log 111. (R99, R101, R109, R111,
R175) -/
def Obligations.SmpOwnership : Prop :=
  (∀ (s a : State) (dt sid req : Nat) (p : List Byte) (x : Session), s.advance dt = a → a.Asks sid req x →
    a.store.owner = none → rootOk p = true → a.panel.key = .prog → a.mode = .unconfigured → a.store.secFault = false →
    ∃ u : State, exec (.ownerEnrol dt sid req p) s = .next (finish u) ∧ u.store.owner = some (p, sha256 p) ∧ u.sessions = [] ∧
      u.store.floor = a.store.floor ∧ u.store.copyA = a.store.copyA ∧ u.store.copyB = a.store.copyB) ∧
  (∀ (s a : State) (dt sid req : Nat) (p : List Byte) (x : Session), s.advance dt = a → a.Asks sid req x →
    p = [] → a.store.owner.isSome = true → a.roleOk .owner false x = true → a.panel.key = .prog → a.mode = .unconfigured → a.store.secFault = false →
    ∃ u : State, exec (.ownerRelease dt sid req p) s = .next (finish u) ∧ u.store.owner = none ∧ u.sessions = [] ∧ u.store.floor = 0 ∧
      u.store.copyA = {} ∧ u.store.copyB = {} ∧ u.store.stage = {} ∧ u.so.safeDigest = none ∧ u.so.safeLatch = false ∧
      u.barn.banks = List.replicate a.barn.banks.length {})

/-- An online change that nothing refuses is loading from OLC_PREPARE on, drains from OLC_SWITCH on, and ends with
OLC_ABORT, which is recorded and answers an OLC_PREPARE still waiting. The cause byte of OLC_ABORTED is the model's
choice, log 20. (R185, R186, R187) -/
def Obligations.SmpOnlineChange : Prop :=
  (∀ (s a : State) (dt sid req : Nat) (p : List Byte) (x : Session), s.advance dt = a → a.Asks sid req x →
    a.roleOk .engineer false x = true → p = [] → a.panel.key = .prog → a.mode = .active → a.olc.st = .none → a.olcRefusal = none →
    exec (.olcPrepare dt sid req p) s = .next (finish { a.taken sid req 0x30 with olc := { a.olc with
      st := .loading, t0 := a.clock, sid := sid, req := req } })) ∧
  (∀ (s a : State) (dt sid req : Nat) (p : List Byte) (x : Session), s.advance dt = a → a.Asks sid req x →
    a.roleOk .engineer false x = true → p = [] → a.panel.key = .prog → a.mode = .active → a.olc.st = .prepared →
    exec (.olcSwitch dt sid req p) s = .next (finish (({ a.taken sid req 0x31 with olc := { a.olc with st := .draining, t0 := a.clock } } : State).answer sid req 0 []))) ∧
  (∀ (s a : State) (dt sid req : Nat) (p : List Byte) (x : Session), s.advance dt = a → a.Asks sid req x →
    a.roleOk .engineer false x = true → p = [] → a.mode = .active → (a.olc.st = .prepared ∨ a.olc.st = .draining) →
    ∃ u : State, exec (.olcAbort dt sid req p) s = .next (finish (u.answer sid req 0 [])) ∧ u.olc = { tsTick := a.olc.tsTick } ∧
      u.mode = .active ∧ u.slots = a.slots ∧ u.store = a.store) ∧
  (∀ (s a : State) (dt : Nat), s.advance dt = a → a.olc.st = .loading →
    exec (.olcPrepared dt) s = .next (finish (State.record 0x0402 0 0 [] (State.answer a.olc.sid a.olc.req 0 []
      { a with olc := { a.olc with st := .prepared, t0 := a.clock, img := a.store.stage.img }, pair := { a.pair with olcWith := a.partnerWith } })))) ∧
  (∀ (s a : State) (dt : Nat), s.advance dt = a → a.olc.st = .draining → a.olc.t0 + drainLimit a.img < a.clock →
    ∃ u : State, exec (.olcDrainLimit dt) s = .next (finish u) ∧ u.olc = { tsTick := a.olc.tsTick } ∧ u.mode = a.mode ∧ u.slots = a.slots ∧ u.store = a.store) ∧
  (∀ (s a : State) (dt : Nat), s.advance dt = a → a.olc.st = .prepared → a.olc.t0 + 240000000000 < a.clock →
    ∃ u : State, exec (.olcPrepareTimeout dt) s = .next (finish u) ∧ u.olc = { tsTick := a.olc.tsTick } ∧ u.mode = a.mode ∧ u.slots = a.slots ∧ u.store = a.store)

/-- FORCE_SET lists the slot's forced value with FORCED set, FORCE_RELEASE removes one force or all of them, and both are
recorded; the slot that its function wrote keeps its own value underneath. Kind and role codes of FORCE are the
model's choice, log 61. (R40, R175, R436) -/
def Obligations.SmpForces : Prop :=
  (∀ (s a : State) (dt sid req : Nat) (p : List Byte) (x : Session) (i st : Nat) (v : W32), s.advance dt = a → a.Asks sid req x →
    a.roleOk .engineer false x = true → a.panel.key = .prog → a.mode = .active → p.length = 8 → getN p 0 2 = i → getN p 2 1 = st → getN p 3 1 = 0 →
    BitVec.ofNat 32 (getN p 4 4) = v → (st = 0 ∨ st = 1 ∨ st = 3) → a.forceable i = true →
    (a.forced i = true ∨ a.forces.length < 256) →
    exec (.forceSet dt sid req p) s = .next (finish ((State.recordForce 1 x i st v { a.taken sid req 0x40 with
      forces := insertKey i (v, mkQ st false false false ||| 0x20#8) a.forces }).answer sid req 0 []))) ∧
  (∀ (s a : State) (dt sid req : Nat) (p : List Byte) (x : Session) (i : Nat), s.advance dt = a → a.Asks sid req x →
    a.roleOk .operator false x = true → a.mode = .active → p.length = 3 → getN p 0 2 = i → getN p 2 1 = 0 → a.forced i = true →
    exec (.forceRelease dt sid req p) s = .next (finish ((State.recordForce 2 x i 0 0 { a.taken sid req 0x41 with forces := eraseKey i a.forces }).answer sid req 0 []))) ∧
  (∀ (s a : State) (dt sid req : Nat) (p : List Byte) (x : Session) (i : Nat), s.advance dt = a → a.Asks sid req x →
    a.roleOk .operator false x = true → a.mode = .active → p.length = 3 → getN p 0 2 = i → getN p 2 1 = 1 → a.forces ≠ [] →
    exec (.forceRelease dt sid req p) s = .next (finish ((State.recordForce 2 x i 1 0 { a.taken sid req 0x41 with forces := [] }).answer sid req 0 [])))

/-- BARN_CHECKPOINT requests a checkpoint; SAFE_ENTER leaves for SAFE and latches it; SAFE_CLEAR clears the latch and
start-up runs again from copy selection; EJECT begins preparing; TIME_SET sets system time and the real-time clock.
The outcome byte of EJECT is the model's choice, log 28. (R83, R84, R178, R181, R429) -/
def Obligations.SmpModes : Prop :=
  (∀ (s a : State) (dt sid req : Nat) (p : List Byte) (x : Session), s.advance dt = a → a.Asks sid req x →
    a.roleOk .operator false x = true → p = [] → (a.mode = .active ∨ a.mode = .standby ∨ a.mode = .isolated ∨ a.mode = .safe) →
    exec (.barnCheckpoint dt sid req p) s = .next (finish ((a.taken sid req 0x50).requestCheckpoint.answer sid req 0 []))) ∧
  (∀ (s a : State) (dt sid req : Nat) (p : List Byte) (x : Session), s.advance dt = a → a.Asks sid req x →
    a.roleOk .operator false x = true → p = [] → (a.mode = .active ∨ a.mode = .standby ∨ a.mode = .isolated) →
    ∃ u : State, exec (.safeEnter dt sid req p) s = .next (finish (u.answer sid req 0 [])) ∧ u.mode = .safe ∧ u.so.safeLatch = true ∧
      u.pair.takeover = none ∧ (a.mode = .active → u.pair.drive = false ∧ u.forces = [])) ∧
  (∀ (s a : State) (dt sid req : Nat) (p : List Byte) (x : Session), s.advance dt = a → a.Asks sid req x →
    a.roleOk .engineer false x = true → p = [] → a.panel.key = .prog → a.mode = .safe →
    ∃ u : State, exec (.safeClear dt sid req p) s = .next (finish (u.answer sid req 0 [])) ∧ u.mode = .unconfigured ∧ u.so.safeLatch = false ∧
      u.power.phase = .startup ∧ u.boot.copyDone = false ∧ u.store.image = none ∧ u.slots = [] ∧ u.store.floor = a.store.floor) ∧
  (∀ (s a : State) (dt sid req : Nat) (p : List Byte) (x : Session), s.advance dt = a → a.Asks sid req x →
    a.roleOk .engineer false x = true → p = [] → a.panel.eject = .none → a.pair.drive = false → a.olc.st = .none →
    exec (.eject dt sid req p) s = .next (finish ((State.record 0x000B 0 0 [0x00#8]
      { a.taken sid req 0x53 with panel := { a.panel with eject := .preparing a.clock a.mode false } }).answer sid req 0 []))) ∧
  (∀ (s a : State) (dt sid req : Nat) (p : List Byte) (x : Session), s.advance dt = a → a.Asks sid req x →
    a.roleOk .engineer false x = true → p.length = 8 → a.eth.ptp.st ≠ 1 → a.eth.ptp.st ≠ 2 →
    exec (.timeSet dt sid req p) s = .next (finish (({ a.taken sid req 0x54 with
      sysTime := getN p 0 8 % 2 ^ 64 * 2 ^ 32, boot := { a.boot with rtc := ((getN p 0 8 % 2 ^ 64 : Nat) : Rat), rtcValid := true, rtcSet := true } } : State).answer sid req 0 [])))

/-- HART_PASS queues its transaction, the pair's commands hand over, start the swap test, clear its failure or assume
ownership alone, a brake test starts, and each answers when its rule says. The layout of HART_PASS, the answer to
PAIR_SWAPTEST and the cause 6 of a takeover are the model's, logs 112, 76 and 31. (R368, R433, R435, R457, R463, R464,
R469, R500, R502, R507) -/
def Obligations.SmpField : Prop :=
  (∀ (s a : State) (dt sid req : Nat) (p : List Byte) (x : Session) (kind ch ad hc : Nat) (d : List Byte) (y : ModemSt), s.advance dt = a → a.Asks sid req x →
    a.roleOk .engineer false x = true → 4 ≤ p.length → p.drop 4 = d → getN p 0 1 = kind → getN p 1 1 = ch → getN p 2 1 = ad → getN p 3 1 = hc →
    kind ≤ 1 → d.length ≤ 251 → ad ≤ 63 → a.committed = true →
    hartGiven a.img kind ch = true → a.modem (modemOf (kind = 1) ch) = some y → y.queued = none →
    exec (.hartPass dt sid req p) s = .next (finish ((a.taken sid req 0x60).hartQueue y.modem
      { sid := sid, req := req, ch := ch, addr := ad, cmd := hc, data := d }))) ∧
  (∀ (s a : State) (dt sid req : Nat) (p : List Byte) (x : Session), s.advance dt = a → a.Asks sid req x →
    a.roleOk .engineer false x = true → p = [] → a.mode = .active → a.mayHandOver = true → a.pair.ho = none →
    exec (.pairHandover dt sid req p) s = .next (finish ((({ a.taken sid req 0x70 with pair := { a.pair with ho := some { hx := a.hAt a.clock + 2, kind := 0 } } } : State).sendBoth
      (.notice 1 0 (a.hAt a.clock + 2))).answer sid req 0 []))) ∧
  (∀ (s a : State) (dt sid req : Nat) (p : List Byte) (x : Session), s.advance dt = a → a.Asks sid req x →
    a.roleOk .engineer false x = true → p = [] → a.mode = .active → a.inPair = true → 0 < a.img.pair.swapInterval →
    exec (.pairSwaptest dt sid req p) s = .next (finish ((a.taken sid req 0x71).swapStart.answer sid req 0 []))) ∧
  (∀ (s a : State) (dt sid req : Nat) (p : List Byte) (x : Session), s.advance dt = a → a.Asks sid req x →
    a.roleOk .engineer false x = true → p = [] → a.pair.swapFail = true →
    exec (.pairClear dt sid req p) s = .next (finish (({ a.taken sid req 0x72 with pair := { a.pair with swapFail := false } } : State).answer sid req 0 []))) ∧
  (∀ (s a : State) (dt sid req : Nat) (p : List Byte) (x : Session), s.advance dt = a → a.Asks sid req x →
    a.roleOk .owner false x = true → p = [] → (a.mode = .standby ∨ a.mode = .isolated) → a.mayOwn = true → a.pair.silent = true → a.pair.refLost = true →
    exec (.pairSolo dt sid req p) s = .next (finish (((a.taken sid req 0x73).grant 6).answer sid req 0 []))) ∧
  (∀ (s a : State) (dt sid req : Nat) (p : List Byte) (x : Session) (ch : Nat), s.advance dt = a → a.Asks sid req x →
    a.roleOk .engineer false x = true → p.length = 1 → getN p 0 1 = ch → ch < 4 → a.mayTest ch = true →
    exec (.brakeTest dt sid req p) s = .next (finish (((a.taken sid req 0x78).testStart ch).answer sid req 0 []))) ∧
  (∀ (s a : State) (dt sid req : Nat) (p : List Byte) (x : Session), s.advance dt = a → a.Asks sid req x →
    a.roleOk .engineer false x = true → 8 ≤ p.length → p.length ≤ 32 → a.pwdLocked = false → a.pwdOk p = true →
    ∃ u : State, exec (.safetyUnlock dt sid req p) s = .next (finish (u.answer sid req 0 [])) ∧ u.so.pwdFail = 0 ∧ u.so.pwdLock = none ∧
      (u.session sid).map (·.unlock) = some (some a.clock) ∧ u.store = a.store ∧ u.mode = a.mode) ∧
  (∀ (s a : State) (dt sid req : Nat) (p : List Byte) (x : Session) (ch : Nat), s.advance dt = a → a.Asks sid req x →
    a.roleOk .engineer false x = true → p.length = 1 → getN p 0 1 = ch → ch < 4 → a.panel.key = .prog → (a.brake ch).st = .faulted →
    exec (.soClear dt sid req p false) s = .next (finish (((a.taken sid req 0x7A).soClear ch).answer sid req 0 [])))

/-- A write of CLR that the bus admits sets to zero the counts that its register's rule names; beside the bus's own
bookkeeping and the tollgates, nothing else changes. (R127, R145, R148) -/
def Obligations.CounterClears : Prop :=
  (∀ (s a : State) (dt : Nat) (m : Master), s.advance dt = a → a.Admits m (0x080C) →
    ∃ b q ss, exec (.logLostClr dt m) s = .next (finish { a with
      bus := b, seqm := q, sessions := ss,
      log := { a.log with lost := 0, episodes := 0 } })) ∧
  (∀ (s a : State) (dt : Nat) (m : Master), s.advance dt = a → a.Admits m (0x0810) →
    ∃ b q ss, exec (.logPeakClr dt m) s = .next (finish { a with
      bus := b, seqm := q, sessions := ss,
      log := { a.log with peak := a.log.fifo.length } })) ∧
  (∀ (s a : State) (dt : Nat) (m : Master), s.advance dt = a → a.Admits m (0x0C18) →
    ∃ b q ss, exec (.pairMcntClr dt m) s = .next (finish { a with
      bus := b, seqm := q, sessions := ss,
      pair := { a.pair with mlost := 0 } })) ∧
  (∀ (s a : State) (dt : Nat) (m : Master) (k : Nat), s.advance dt = a → k < 4 → a.Admits m (0x1020 + 0x20 * k) →
    ∃ b q ss, exec (.seqLstatClr dt m k) s = .next (finish { a with
      bus := b, seqm := q, sessions := ss,
      seq := { a.seq with lanes := modifyAt a.seq.lanes k fun l => { l with ovrTotal := 0, peak := 0 } } })) ∧
  (∀ (s a : State) (dt : Nat) (m : Master) (n : Nat), s.advance dt = a → n < 160 → a.Admits m (0x301C + 0x40 * n) →
    ∃ b q ss, exec (.loopCntClr dt m n) s = .next (finish { a with
      bus := b, seqm := q, sessions := ss,
      loop := { a.loop with ctxs := modifyKey (·.n) n (fun x => { x with missTotal := 0, trigSkip := 0 }) a.loop.ctxs } })) ∧
  (∀ (s a : State) (dt : Nat) (m : Master) (p : Nat), s.advance dt = a → p < 4 → a.Admits m (0x6110 + 0x40 * p) →
    ∃ b q ss, exec (.slvPcntClr dt m p) s = .next (finish { a with
      bus := b, seqm := q, sessions := ss,
      slv := { a.slv with probs := modifyKey (·.p) p (fun x => { x with solved := 0, fallback := 0 }) a.slv.probs } })) ∧
  (∀ (s a : State) (dt : Nat) (m : Master) (c : Nat), s.advance dt = a → c < 4 → a.Admits m (0x7014 + 0x400 * c) →
    ∃ b q ss, exec (.canCntClr dt m c) s = .next (finish { a with
      bus := b, seqm := q, sessions := ss,
      can := modifyKey (·.n) c (fun x => { x with busoffs := 0, clashes := 0 }) a.can })) ∧
  (∀ (s a : State) (dt : Nat) (m : Master) (c : Nat), s.advance dt = a → c < 4 → a.Admits m (0x7018 + 0x400 * c) →
    ∃ b q ss, exec (.canCnt2Clr dt m c) s = .next (finish { a with
      bus := b, seqm := q, sessions := ss,
      can := modifyKey (·.n) c (fun x => { x with rxovf := 0, rioerr := 0 }) a.can })) ∧
  (∀ (s a : State) (dt : Nat) (m : Master) (n : Nat), s.advance dt = a → n < 24 → a.Admits m (0x810C + 0x10 * n) →
    ∃ b q ss, exec (.aiChCntClr dt m n) s = .next (finish { a with
      bus := b, seqm := q, sessions := ss,
      fld := { a.fld with ai := modifyKey (·.n) n (fun x => { x with hartErr := 0, trigSkip := 0 }) a.fld.ai } })) ∧
  (∀ (s a : State) (dt : Nat) (m : Master) (k : Nat), s.advance dt = a → k < 4 → a.Admits m (0x8C54 + 0x20 * k) →
    ∃ b q ss, exec (.soBcntClr dt m k) s = .next (finish { a with
      bus := b, seqm := q, sessions := ss,
      so := { a.so with chans := modifyAt a.so.chans k (fun x => { x with pulses := 0, aband := 0 }) } })) ∧
  (∀ (s a : State) (dt : Nat) (m : Master), s.advance dt = a → a.Admits m (0x900C) →
    ∃ b q ss, exec (.ethRioClr dt m) s = .next (finish { a with
      bus := b, seqm := q, sessions := ss,
      eth := { a.eth with rioerr := 0 } })) ∧
  (∀ (s a : State) (dt : Nat) (m : Master) (c : Nat), s.advance dt = a → c < 64 → a.Admits m (0x9700 + 4 * c) →
    ∃ b q ss, exec (.uslCcntClr dt m c) s = .next (finish { a with
      bus := b, seqm := q, sessions := ss,
      usl := { a.usl with conns := modifyKey (·.c) c (fun x => { x with crcErr := 0, seqErr := 0, ageErr := 0, passives := 0 }) a.usl.conns } })) ∧
  (∀ (s a : State) (dt : Nat) (m : Master) (f : Nat), s.advance dt = a → f < 16 → a.Admits m (0x9840 + 4 * f) →
    ∃ b q ss, exec (.diagFcntClr dt m f) s = .next (finish { a with
      bus := b, seqm := q, sessions := ss,
      diag := { a.diag with totals := a.diag.totals.set f 0 } })) ∧
  (∀ (s a : State) (dt : Nat) (m : Master), s.advance dt = a → a.Admits m (0x9880) →
    ∃ b q ss, exec (.diagMemClr dt m) s = .next (finish { a with
      bus := b, seqm := q, sessions := ss,
      diag := { a.diag with corr := 0, hard := 0, backed := 0 } }))

/-- A write of a window's index that the bus admits captures the slot, the record, the instance, the milestone slot, the
solver value or the change entry for its master, and a coefficient write takes its word; nothing else changes. (R127,
R228, R271, R291, R310, R357, R408, R530) -/
def Obligations.WindowCaptures : Prop :=
  (∀ (s a : State) (dt : Nat) (m : Master) (v : W32), s.advance dt = a → a.Admits m (0x1440) →
    ∃ u b q ss, exec (.imgSlotIdx dt m v) s = .next (finish u) ∧ u = { a with bus := b, seqm := q, sessions := ss } ∧
      (u.win m).slotIdx = v.toNat % 65536 ∧ (u.win m).slotVal = (a.readSlot (v.toNat % 65536)).1 ∧
      (u.win m).slotQual = (a.readSlot (v.toNat % 65536)).2 ∧ (u.win m).slotEntry = a.entry (v.toNat % 65536)) ∧
  (∀ (s a : State) (dt : Nat) (m : Master) (v : W32) (i : Inst) (k : InstSt), s.advance dt = a → a.img.net.insts[v.toNat % 65536]? = some i → a.seq.insts[v.toNat % 65536]? = some k → a.Admits m (0x1480) →
    ∃ u b q ss, exec (.imgInstIdx dt m v) s = .next (finish u) ∧ u = { a with bus := b, seqm := q, sessions := ss } ∧
      (u.win m).instIdx = v.toNat % 65536 ∧ (u.win m).instValid = true ∧ (u.win m).instId = BitVec.ofNat 32 i.ident ∧
      (u.win m).instOq = k.outs.map (·.2) ∧ (u.win m).instKs = k.ks) ∧
  (∀ (s a : State) (dt : Nat) (m : Master) (v : W32), s.advance dt = a → (a.img.net.insts.findIdx? fun i => decide (i.ident = v.toNat)) = none → a.Admits m (0x14C0) →
    ∃ u b q ss, exec (.imgFindId dt m v) s = .next (finish u) ∧ u = { a with bus := b, seqm := q, sessions := ss } ∧
      (u.win m).findId = v ∧ (u.win m).instValid = false ∧ (u.win m).instOq = [] ∧ (u.win m).instKs = []) ∧
  (∀ (s a : State) (dt : Nat) (m : Master) (v : W32) (n i : Nat) (e : Entry), s.advance dt = a → (a.log.recs.find? fun p => decide (p.2.num = v.toNat)) = some (i, e) → a.Admits m (0x0820) →
    ∃ u b q ss, exec (.logRdNum dt m v) s = .next (finish u) ∧ u = { a with bus := b, seqm := q, sessions := ss } ∧
      (u.win m).logNum = v ∧ (u.win m).logValid = true ∧ (u.win m).logSlot = i ∧ (u.win m).logFrozen = decide (i < 256)) ∧
  (∀ (s a : State) (dt : Nat) (m : Master) (v : W32) (x : MsSlotSt), s.advance dt = a → a.msSlot (v.toNat % 1024) = some x → a.Admits m (0x2800) →
    ∃ u b q ss, exec (.msSlotIdx dt m v) s = .next (finish u) ∧ u = { a with bus := b, seqm := q, sessions := ss } ∧
      (u.win m).ms = {
        index := v.toNat % 1024, arm := x.arm, rep := x.rep, dirsel := x.dirsel, latepol := x.latepol, endmode := x.endmode,
        tgt := w32 x.tgt, endv := w32 x.endv, win := w32 x.win }) ∧
  (∀ (s a : State) (dt : Nat) (m : Master) (v : W32), s.advance dt = a → a.Admits m (0x2804) →
    ∃ u b q ss, exec (.msSlotCommit dt m v) s = .next (finish u) ∧ u = { a with
      bus := b, seqm := q, sessions := ss,
      ms := { a.ms with slots := modifyKey (·.num) (a.win m).ms.index (fun x => { x with
          arm := v.getLsbD 0, rep := v.getLsbD 2, dirsel := v.toNat / 8 % 4, latepol := v.getLsbD 5, endmode := v.getLsbD 6,
          tgt := (a.win m).ms.tgt.toNat, endv := (a.win m).ms.endv.toNat, win := (a.win m).ms.win.toNat }) a.ms.slots } } ∧
      (u.win m).ms = { (a.win m).ms with
        arm := v.getLsbD 0, rep := v.getLsbD 2, dirsel := v.toNat / 8 % 4, latepol := v.getLsbD 5, endmode := v.getLsbD 6 }) ∧
  (∀ (s a : State) (dt : Nat) (m : Master) (n : Nat) (v : W32) (x : CtxSt), s.advance dt = a → n < 160 → a.ctx n = some x → ¬ (x.bank / 4 = x.aset ∧ (x.mode = 1 ∨ x.mode = 2)) → a.Admits m (0x300C + 0x40 * n) →
    ∃ b q ss, exec (.loopCoefA dt m n v) s = .next (finish { a with
      bus := b, seqm := q, sessions := ss,
      loop := { a.loop with ctxs := modifyKey (·.n) n (fun y => { y with
        banks := y.banks.set (8 * y.bank + y.word) v, word := (y.word + 1) % 8 }) a.loop.ctxs } })) ∧
  (∀ (s a : State) (dt : Nat) (m : Master) (n md : Nat), s.advance dt = a → n < 160 → a.Admits m (0x3000 + 0x40 * n) →
    ∃ b q ss, exec (.loopSwap dt m n md) s = .next (finish { a with
      bus := b, seqm := q, sessions := ss,
      loop := { a.loop with ctxs := modifyKey (·.n) n (fun y => { y with
        modeReq := md % 4, swapReq := y.swapReq || !y.swapPend, swapPend := true }) a.loop.ctxs } })) ∧
  (∀ (s a : State) (dt : Nat) (m : Master) (v : W32), s.advance dt = a → a.Admits m (0x6800) →
    ∃ u b q ss, exec (.slvWinSel dt m v) s = .next (finish u) ∧ u = { a with bus := b, seqm := q, sessions := ss } ∧
      (u.win m).slvSel = v &&& 0x00FFFF1F#32) ∧
  (∀ (s a : State) (dt : Nat) (m : Master) (v : W32), s.advance dt = a → a.Admits m (0x8D00) →
    ∃ u b q ss, exec (.soLogIdx dt m v) s = .next (finish u) ∧ u = { a with bus := b, seqm := q, sessions := ss } ∧
      (u.win m).soIdx = v.toNat % 64)

/-- A write of SUPACK to a context whose supervision has tripped records SUPV_ACK; where the condition no longer stands
supervision starts afresh. (R303, R304, R310) -/
def Obligations.SupervisionAcknowledged : Prop :=
  (∀ (s a : State) (dt : Nat) (m : Master) (n md : Nat) (x : CtxSt), s.advance dt = a → n < 160 → a.ctx n = some x → x.supv = 2 → x.exceeded = true → a.Admits m (0x3000 + 0x40 * n) →
    ∃ b q ss l, exec (.loopSupack dt m n md) s = .next (finish { a with
      bus := b, seqm := q, sessions := ss, log := l,
      loop := { a.loop with ctxs := modifyKey (·.n) n (fun y => { y with modeReq := md % 4 }) a.loop.ctxs } })) ∧
  (∀ (s a : State) (dt : Nat) (m : Master) (n md : Nat) (x : CtxSt), s.advance dt = a → n < 160 → a.ctx n = some x → x.supv = 2 → x.exceeded = false → a.Admits m (0x3000 + 0x40 * n) →
    ∃ b q ss l, exec (.loopSupack dt m n md) s = .next (finish { a with
      bus := b, seqm := q, sessions := ss, log := l,
      loop := { a.loop with ctxs := modifyKey (·.n) n (fun y => { y with
        modeReq := md % 4, supv := 0, supT := 0, manLatch := false }) a.loop.ctxs } }))

/-- A whole-word read by a session answers OK with the register's value; a write of SYS_SCRATCH stores exactly the bytes
written; an access where no register stands, one that is not aligned, and one that a guard closes answer UNMAPPED,
UNALIGNED and GUARD, set their flags and count; the low word of a 64-bit register captures the high one. A
configuration register whose parity fails while the module runs an image is found, and CFG_FAIL latches; a latch that
a lower master's write cleared in this tick stands again after a higher master's write. That an access takes effect in
its tick is the model's choice, log 80, what a higher master's write withdraws is too, log 115, and CFG_PARITY_FAIL's
address is an operand, log 84. (R124, R125, R127, R132, R135, R136, R137, R138, R142, R143, R434, R446) -/
def Obligations.BusAccesses : Prop :=
  (∀ (s a : State) (dt sid req ad : Nat) (p : List Byte) (x : Session) (h : RegHit), s.advance dt = a → a.Asks sid req x → a.roleOk .viewer false x = true →
    p.length = 4 → getN p 0 2 = ad → getN p 2 1 = 4 → getN p 3 1 = 1 →
    a.panel.mgmtStopped = false → ad % 4 = 0 → regAt ad = some h → h.row.wide = false → h.high = false → a.regDisabled h.row.id h.i = false →
    a.parityKey h ad ∉ a.bus.parity →
    exec (.regRead dt sid req p) s = .next (finish ((a.taken sid req 0x04).answer sid req 0
      (leBytes 1 0 ++ leBytes 4 ((a.taken sid req 0x04).regValue (.host sid) h % 2 ^ 32) ++ [])))) ∧
  (∀ (s a : State) (dt : Nat) (m : Master) (v : W64), s.advance dt = a → a.Admits m 0x0034 →
    ∃ u, exec (.registerWrite dt m 0x0034 4 v) s = .next (finish u) ∧ u.bus.scratch = v.setWidth 32 ∧ u.bus.accFlags = a.bus.accFlags ∧
      u.slots = a.slots ∧ u.store = a.store ∧ u.mode = a.mode ∧ u.log = a.log) ∧
  (∀ (s a : State) (dt ad : Nat) (m : Master) (v : W64), s.advance dt = a → a.canAccess m = true → ad % 4 = 0 → regAt ad = none →
    exec (.registerWrite dt m ad 4 v) s = .next (finish (a.accFault m 0x23 ad (v.toNat % 2 ^ 32)))) ∧
  (∀ (s a : State) (dt ad : Nat) (v : W64), s.advance dt = a → a.canAccess .mgmt = true → ad % 4 ≠ 0 →
    exec (.registerWrite dt .mgmt ad 4 v) s = .next (finish (a.accFault .mgmt 0x21 ad (v.toNat % 2 ^ 32)))) ∧
  (∀ (s a : State) (dt : Nat) (v : W64), s.advance dt = a → a.canAccess .seq = true → a.committed = false →
    exec (.registerWrite dt .seq 0x0C18 4 v) s = .next (finish (a.accFault .seq 0x20 0x0C18 (v.toNat % 2 ^ 32)))) ∧
  (∀ (s : State) (m : Master) (c ad v : Nat), (s.accFault m c ad v).bus.accFlags = s.bus.accFlags ||| BitVec.ofNat 7 (2 ^ (c - 0x20)) ∧
    (s.accFault m c ad v).bus.accCount = satInc 0x7FFF s.bus.accCount ∧ (s.accFault m c ad v).slots = s.slots ∧
    (s.accFault m c ad v).store = s.store ∧ (s.accFault m c ad v).mode = s.mode) ∧
  (∀ (s a : State) (dt : Nat) (m : Master) (h : RegHit), s.advance dt = a → a.canAccess m = true → regAt 0x0010 = some h →
    a.bus.parity = [] →
    ∃ u, exec (.reg64LowRead dt m 0x0010) s = .next (finish u) ∧
      lookupD 0 0x0010 (u.shadows m).rsh = BitVec.ofNat 32 (a.regValue m h / 2 ^ 32) ∧ u.slots = a.slots ∧ u.store = a.store ∧ u.bus = a.bus) ∧
  (∀ (s a : State) (dt : Nat) (m : Master) (v : W32), s.advance dt = a → a.canAccess m = true →
    ∃ u, exec (.reg64LowWrite dt m 0x0010 v) s = .next (finish u) ∧ lookupD 0 0x0010 (u.shadows m).wsh = v ∧
      u.sysTime = a.sysTime ∧ u.tickOrigin = a.tickOrigin ∧ u.slots = a.slots ∧ u.bus = a.bus) ∧
  (∀ (s a : State) (dt : Nat) (m : Master) (v : W32), s.advance dt = a → a.canAccess m = true →
    ∃ u, exec (.reg64HighWrite dt m 0x0014 v) s = .next (finish u) ∧ (u.shadows m).wsh = eraseKey 0x0010 (a.shadows m).wsh ∧
      u.sysTime = a.sysTime ∧ u.tickOrigin = a.tickOrigin ∧ u.slots = a.slots ∧ u.bus = a.bus) ∧
  (∀ (s a : State) (dt : Nat) (m : Master) (v : W32), s.advance dt = a → a.Admits m 0x0028 →
    ∃ b q ss, exec (.accerrClrcnt dt m v) s = .next (finish { a with bus := b, seqm := q, sessions := ss }) ∧ b.accCount = 0 ∧
      b.accFlags = a.bus.accFlags &&& ~~~(v.setWidth 7)) ∧
  (∀ (s a : State) (dt sid req ad : Nat) (p : List Byte) (x : Session), s.advance dt = a → a.Asks sid req x → a.roleOk .operator false x = true →
    p.length = 8 → getN p 0 2 = ad → getN p 2 1 = 4 → getN p 3 1 = 1 →
    a.panel.mgmtStopped = false → ad % 4 = 0 → regAt ad = none →
    exec (.regWrite dt sid req p) s = .next (finish (((a.taken sid req 0x05).accFault (.host sid) 0x23 ad (getN (p.drop 4) 0 4 % 2 ^ 32)).answer sid req 0 (leBytes 1 0x23 ++ [])))) ∧
  (∀ (s a : State) (dt sid req c : Nat) (p : List Byte) (x : Session), s.advance dt = a → a.Asks sid req x → a.roleOk .operator false x = true → p.length = 1 → getN p 0 1 = c → c < 64 →
    a.regDisabled .uslCctl c = false → 0 < dt →
    ∃ b, exec (.uslAck dt sid req p) s = .next (finish (({ a.taken sid req 0x61 with
      bus := b, usl := { a.usl with conns := modifyKey (·.c) c (fun y => { y with ackW := y.ackW || y.reintRdy }) a.usl.conns } } : State).answer sid req 0 []))) ∧
  (∀ (s a : State) (dt : Nat) (m : Master) (c : Nat), s.advance dt = a → c < 64 → a.Admits m (0x9600 + 4 * c) →
    ∃ b q ss, exec (.uslCctlAck dt m c) s = .next (finish { a with
      bus := b, seqm := q, sessions := ss, usl := { a.usl with conns := modifyKey (·.c) c (fun y => { y with ackW := y.ackW || y.reintRdy }) a.usl.conns } })) ∧
  (∀ (s a : State) (dt n : Nat) (h : RegHit), s.advance dt = a → a.running = true → regAt n = some h → h.row.img ≠ 0 → n < 65536 → a.parityKey h n = n → n ∉ a.bus.parityUp →
    (parityScope n).isSome = true →
    ∃ u, exec (.cfgParityFail dt n) s = .next (finish u) ∧ n ∈ u.bus.parity ∧ u.bus.cfgFail = true) ∧
  (∀ (s a : State) (dt r : Nat) (m : Master), s.advance dt = a → a.canAccess m = true → (∀ h, regAt 0x0004 = some h → a.guardOk m h.row 0x0004 h.row.wr = true) →
    a.bus.undo = [(0x0004, 64, [])] → a.bus.wrote = [(0x0004, r)] → r < m.rank → 0x0004 ∉ a.bus.fnSet →
    ∃ u, exec (.registerWrite dt m 0x0004 4 0) s = .next (finish u) ∧ u.panel.keyFault = true ∧ u.slots = a.slots ∧ u.mode = a.mode)

/-- The right key opens a master's tollgate and clears its count; a wrong one closes it and counts, the fourth in a row
locking it out and being recorded; the tollgate closes 1 ms after it opened, and a lockout ends after 1 s with the
count at zero. (R123, R129, R130, R131) -/
def Obligations.TollgateRuns : Prop :=
  (∀ (s a : State) (dt : Nat) (m : Master) (v : W32), s.advance dt = a → a.canAccess m = true → m ≠ .mgmt → a.committed = true →
    (a.win m).gateLocked a.clock = false → v.toNat % 65536 = a.img.reginit.tgKey → v.toNat / 65536 = 65535 - a.img.reginit.tgKey →
    ∃ u, exec (.tollgateWrite dt m v) s = .next (finish u) ∧ (u.win m).tgOpen = some a.clock ∧ (u.win m).tgFails = 0 ∧
      (u.win m).tgLock = none ∧ u.bus = a.bus ∧ u.log = a.log ∧ u.slots = a.slots) ∧
  (∀ (s a : State) (dt : Nat) (v : W32), s.advance dt = a → a.canAccess .seq = true → a.committed = true →
    a.seqm.gateLocked a.clock = false → a.seqm.tgLock = none → v.toNat % 65536 ≠ a.img.reginit.tgKey → a.seqm.tgFails < 3 →
    ∃ u, exec (.tollgateWrite dt .seq v) s = .next (finish u) ∧ u.seqm.tgOpen = none ∧ u.seqm.tgFails = a.seqm.tgFails + 1 ∧
      u.seqm.tgLock = none ∧ u.slots = a.slots) ∧
  (∀ (s a : State) (dt : Nat) (v : W32), s.advance dt = a → a.canAccess .seq = true → a.committed = true →
    a.seqm.gateLocked a.clock = false → a.seqm.tgLock = none → v.toNat % 65536 ≠ a.img.reginit.tgKey → a.seqm.tgFails = 3 →
    ∃ u, exec (.tollgateWrite dt .seq v) s = .next (finish u) ∧ u.seqm.tgOpen = none ∧ u.seqm.tgLock = some a.clock ∧ u.slots = a.slots) ∧
  (∀ (s a : State) (dt t : Nat) (m : Master), s.advance dt = a → m ≠ .mgmt → (∀ sid, m = .host sid → (a.session sid).isSome = true) →
    (a.win m).tgOpen = some t → t + 400000 < a.clock →
    ∃ q ss, exec (.tollgateExpire dt m) s = .next (finish { a with seqm := q, sessions := ss }) ∧
      ({ a with seqm := q, sessions := ss }.win m) = { a.win m with tgOpen := none }) ∧
  (∀ (s a : State) (dt t : Nat) (m : Master), s.advance dt = a → m ≠ .mgmt → (∀ sid, m = .host sid → (a.session sid).isSome = true) →
    (a.win m).tgLock = some t → t + 400000000 ≤ a.clock →
    ∃ q ss, exec (.tollgateLockoutEnd dt m) s = .next (finish { a with seqm := q, sessions := ss }) ∧
      ({ a with seqm := q, sessions := ss }.win m) = { a.win m with tgLock := none, tgFails := 0 })

/-- A second bad clock window in a row, the watchdog's expiry, a failed self-test and a failed checker test each take the
module to FAULT with their cause; a passed test and a sound word change nothing; one failing copy of a word is
corrected and counted, and the clock count restarts at a good window. That SCRUB_WORD acts whatever SCRUB_EN is the
model's reading, log 84, and the counts of the clock check are operands, log 3. (R51, R510, R513, R515, R516, R518) -/
def Obligations.SupervisionRuns : Prop :=
  (∀ (s a : State) (dt n : Nat), s.advance dt = a → a.power.phase = .operating → clockBad true n = false →
    exec (.clockCheck dt true n) s = .next (finish { a with diag := { a.diag with badSc := 0 } })) ∧
  (∀ (s a : State) (dt n : Nat), s.advance dt = a → a.power.phase = .operating → a.diag.badSc = 0 → clockBad true n = true →
    exec (.clockCheck dt true n) s = .next (finish { a with diag := { a.diag with badSc := 1 } })) ∧
  (∀ (s a : State) (dt n : Nat), s.advance dt = a → a.power.phase = .operating → a.diag.badTb = 1 → clockBad false n = true → a.diag.mf = none →
    ∃ u, exec (.clockCheck dt false n) s = .next (finish u) ∧ u.mode = .fault ∧ u.diag.mf = some (1, 0, a.clock) ∧ u.snap.mcause = 1 ∧ u.pair.takeover = none ∧
      u.panel.mgmtStopped = (a.panel.mgmtStopped || decide (n = 0))) ∧
  (∀ (s a : State) (dt : Nat), s.advance dt = a → a.power.phase = .operating → a.panel.mgmtStopped = false → a.diag.mf = none →
    ∃ u, exec (.mgmtWatchdogExpire dt) s = .next (finish u) ∧ u.mode = .fault ∧ u.panel.mgmtStopped = true ∧
      u.diag.mf = some (2, 0, a.clock) ∧ u.snap.mcause = 2 ∧ u.snap.pending = true) ∧
  (∀ (s a : State) (dt : Nat), s.advance dt = a → exec (.safetySelftest dt true) s = .next (finish a)) ∧
  (∀ (s a : State) (dt : Nat), s.advance dt = a → a.power.phase = .operating → a.diag.mf = none →
    ∃ u, exec (.safetySelftest dt false) s = .next (finish u) ∧ u.mode = .fault ∧ u.diag.mf = some (3, 0, a.clock) ∧ u.snap.mcause = 3) ∧
  (∀ (s a : State) (dt : Nat), s.advance dt = a → exec (.checkerTest dt true) s = .next (finish a)) ∧
  (∀ (s a : State) (dt : Nat), s.advance dt = a → a.power.phase = .operating → a.committed = true → a.img.diagprof = 0 → a.diag.mf = none →
    ∃ u, exec (.checkerTest dt false) s = .next (finish u) ∧ u.mode = .fault ∧ u.diag.chkFailL = true ∧ u.diag.mf = some (5, 0, a.clock)) ∧
  (∀ (s a : State) (dt : Nat) (l : MemLoc), s.advance dt = a → exec (.scrubWord dt l true true true) s = .next (finish a)) ∧
  (∀ (s a : State) (dt i : Nat) (p : Bool), s.advance dt = a → a.power.phase = .operating → (∀ x ∈ a.diag.corrAt, x.1 ≠ .slot i) →
    exec (.scrubWord dt (.slot i) p (!p) false) s = .next (finish { a with diag := { a.diag with
      corr := satInc 65535 a.diag.corr, corrAt := (.slot i, a.clock) :: a.diag.corrAt.filter fun x =>
                                            decide (x.1 ≠ .slot i ∧ a.clock < x.2 + 400000000) } }))

/-- A standing function fault whose RETRY_DELAY has passed is retried while the counts allow; a module fault holds the
module in RESET for 10 ms, after which start-up begins; the power-cycle request ends after 20 ms and is recorded as
ignored 2 s later; a quiet window clears the counts; DIAG_RECOVER releases a latched scope or ends a stopped ladder.
(R62, R519, R520, R522, R524, R526) -/
def Obligations.LadderRuns : Prop :=
  (∀ (s a : State) (dt f : Nat) (w : Option Nat) (x : Scope), s.advance dt = a → a.scope f w = some x → x.standing = true → x.latched = false →
    x.ladder = true → a.panel.eject ≠ .prepared → a.mode ≠ .fault → a.panel.mgmtStopped = false →
    x.tf + 400000 * a.img.diag.retryDelay ≤ a.clock → x.cr < a.img.diag.retryMax →
    exec (.functionRung dt f w) s = .next (finish ((((a.record 0x0004 0 0 (leBytes 1 1 ++ leBytes 1 (x.cr + 1) ++ leBytes 1 f)).modScope f w
      fun y => { y with cr := y.cr + 1 }).clearFault f w |>.clearUnits f w false).retryFunc f w))) ∧
  (∀ (s a : State) (dt f c tf : Nat), s.advance dt = a → a.diag.mf = some (c, f, tf) → a.snap.lstop = false → a.panel.eject ≠ .prepared →
    a.panel.pcycReq = none → a.diag.pcycEnd = none → tf + 400000 * a.img.diag.retryDelay ≤ a.clock → a.snap.cs < a.img.diag.resetMax →
    ∃ u, exec (.moduleRung dt) s = .next (finish u) ∧ u.power.phase = .resetHold a.clock ∧ u.snap.cs = a.snap.cs + 1 ∧
      u.mode = .unconfigured ∧ u.slots = [] ∧ u.store.floor = a.store.floor) ∧
  (∀ (s a : State) (dt t r1 r2 r3 : Nat), s.advance dt = a → a.power.phase = .resetHold t → t + 4000000 ≤ a.clock →
    ∃ u, exec (.resetRelease dt r1 r2 r3) s = .next (finish u) ∧ u.power.phase = .startup ∧ u.boot.tr = a.clock ∧
      u.boot.slot = latchSlot r1 r2 r3 ∧ u.tick = 0 ∧ u.snap = a.snap) ∧
  (∀ (s a : State) (dt t : Nat), s.advance dt = a → a.panel.pcycReq = some t → t + 8000000 ≤ a.clock →
    exec (.pcycReqEnd dt) s = .next (finish { a with panel := { a.panel with pcycReq := none }, diag := { a.diag with pcycEnd := some a.clock } })) ∧
  (∀ (s a : State) (dt t : Nat), s.advance dt = a → a.diag.pcycEnd = some t → t + 800000000 ≤ a.clock →
    exec (.pcycIgnored dt) s = .next (finish (State.record 0x0006 0 0 [] { a with
      diag := { a.diag with pcycEnd := none }, snap := { a.snap with lstop := true } }))) ∧
  (∀ (s a : State) (dt : Nat) (u : Option Nat), s.advance dt = a → a.power.phase = .operating → a.mode ≠ .fault →
    a.boot.endTick + 400000000 * a.img.diag.ladderWindow ≤ a.clock →
    exec (.ladderWindowExpire dt none u) s = .next (finish { a with snap := { a.snap with cs := 0, cp := 0, zeroTime := a.ns } })) ∧
  (∀ (s a : State) (dt : Nat) (m : Master), s.advance dt = a → a.Admits m 0x98C0 → a.snap.lstop = true → a.mode = .fault →
    ∃ u, exec (.diagRecoverModule dt m) s = .next (finish u) ∧ u.power.phase = .resetHold a.clock ∧ u.snap.lstop = false ∧
      u.snap.cs = 0 ∧ u.snap.cp = 0) ∧
  (∀ (s a : State) (dt f n : Nat) (m : Master) (x : Scope), s.advance dt = a → a.Admits m 0x98C0 → f < 16 → n < 2048 →
    a.scope f (some n) = some x → x.latched = true →
    ∃ u, exec (.diagRecoverUnit dt m f n) s = .next (finish u) ∧ u.diag.recover = f + 16 * n ∧
      (u.scope f (some n)).map (fun y => (y.latched, y.standing, y.cr, y.ci)) = some (false, false, 0, 0)) ∧
  (∀ (s a : State) (dt t : Nat) (e : Entry), s.advance dt = a → a.log.writing = some (e, t) → t + 800 ≤ a.clock →
    exec (.recordWriteDone dt) s = .next (finish { a.writeEnd with log := a.writeEnd.log.begin a.clock a.writeEnd.snap.clearing }))

/-- A harvest tick latches its number, tick and system time, and its end begins the passes that are due; evaluation begins
200 ticks later; a block's evaluation advances its lane's pass by one instance and writes no slot; the window's end,
acting as its tick ends, stops evaluation, or makes the next harvest tick skip where L0 has not finished; deliver ends
the passes it publishes. That the harvest and a window's end are settled as their tick ends is the model's reading,
log 93. (R23, R47, R129, R154, R156, R157, R158, R162, R163, R165, R206, R510) -/
def Obligations.CycleRuns : Prop :=
  (∀ (s a : State) (dt : Nat), s.advance dt = a → a.harvestDue = true →
    ∃ u, exec (.harvest dt) s = .next (finish u) ∧ u.seq.h = a.seq.h0 + (a.clock - a.seq.tg) / a.img.cycle.base ∧ u.seq.htick = a.tick ∧
      u.seq.htime = a.ns ∧ u.seq.begun = true ∧ u.seq.skipped = a.seq.skip ∧ u.expiring = a.expiring ++ [.harvest]) ∧
  (∀ (a : State), a.inHarvest = true → a.seq.skipped = false → a.seq.hold = false → a.olc.st = .none →
    a.seq.lanes.length = 4 → (∀ l ∈ a.seq.lanes, l.pass = none) → (laneCfg a.img 0).enable = true →
    a.seq.h % (laneCfg a.img 0).mult = (laneCfg a.img 0).offset →
    ∃ u p, Expiry.harvest.run a = u ∧ u.seq.due = true ∧ (u.lane 0).pass = some p ∧ p.h = a.seq.h ∧ p.htick = a.tick ∧
      p.next = 0 ∧ p.ended = false ∧ p.view = none) ∧
  (∀ (s a : State) (dt : Nat), s.advance dt = a → a.mode = .active → a.seq.due = true → a.seq.hold = false → a.seq.htick + 200 ≤ a.tick →
    ∃ u, exec (.evaluationBegin dt) s = .next (finish u) ∧ u.seq.due = false ∧ (u.seq.eval = true ∨ u.seq.deliver = some a.clock) ∧
      u.slots = a.slots ∧ u.mode = a.mode) ∧
  (∀ (s a : State) (dt k : Nat) (p : Pass) (i : Inst) (x : InstSt), s.advance dt = a → a.mode = .active → a.seq.eval = true → a.seq.hold = false →
    a.curLane = some k → (k = 0 ∨ a.onlyL0 = false) → (a.lane k).pass = some p → (laneInsts a.img k)[p.next]? = some i →
    p.cur[p.next]? = some x → i.btype < 0x70 →
    ∃ u p', exec (.blockEvaluate dt true) s = .next (finish u) ∧ (u.lane k).pass = some p' ∧ p'.next = p.next + 1 ∧
      p'.cur = p.cur.set p.next (x.after i (evalPure i p.h p.htick p.htime ((laneCfg a.img k).mult * a.img.cycle.base) (a.readInputs k p i) x)) ∧
      u.slots = a.slots ∧ u.mode = a.mode ∧ u.log = a.log) ∧
  (∀ (s a : State) (dt : Nat), s.advance dt = a → a.mode = .active → a.seq.eval = true → a.seq.hold = false → a.scopeOn 4 none = false →
    ∃ u, exec (.blockEvaluate dt false) s = .next (finish u) ∧ u.seq.cause = 1 ∧ u.seq.hold = true ∧ u.seq.eval = false) ∧
  (∀ (s a : State) (dt : Nat), s.advance dt = a → a.mode = .active → a.seq.begun = true → a.seq.skip = false → a.seq.hold = false → a.seq.tg ≤ a.clock →
    (a.clock + 8000 - a.seq.tg) % a.img.cycle.base = 0 → (a.lane 0).unfinished = false → a.seq.eval = true →
    exec (.windowEnd dt) s = .next (finish { a with expiring := a.expiring ++ [.windowEnd] }) ∧
      Expiry.windowEnd.run a = { a with seq := { a.seq with eval := false, deliver := some a.clock } }) ∧
  (∀ (s a : State) (dt : Nat), s.advance dt = a → a.mode = .active → a.seq.begun = true → a.seq.skip = false → a.seq.hold = false → a.seq.tg ≤ a.clock →
    (a.clock + 8000 - a.seq.tg) % a.img.cycle.base = 0 → (a.lane 0).unfinished = true → (a.lane 0).ovrCons + 1 < a.img.cycle.ovrLimit →
    ∃ u, exec (.windowEnd dt) s = .next (finish { a with expiring := a.expiring ++ [.windowEnd] }) ∧ Expiry.windowEnd.run a = u ∧ u.seq.skip = true ∧ (u.lane 0).ovrCons = (a.lane 0).ovrCons + 1 ∧
      (u.lane 0).ovrTotal = satInc 65535 (a.lane 0).ovrTotal ∧ u.slots = a.slots ∧ u.mode = a.mode) ∧
  (∀ (s a : State) (dt te : Nat) (ds : List Nat), s.advance dt = a → a.mode = .active → a.seq.deliver = some te → te < a.clock →
    ∃ u, exec (.deliver dt ds) s = .next (finish u) ∧ u.seq.deliver = none ∧ u.seqm.tgOpen = none ∧
      ∀ k p, k < 4 → (a.lane k).pass = some p → p.ended = true → (u.lane k).pass = none ∧ (u.lane k).passes = ((a.lane k).passes + 1) % 2 ^ 64) ∧
  (∀ (s a : State) (dt : Nat), s.advance dt = a → exec (.signatureCompare dt true) s = .next (finish a)) ∧
  (∀ (s a : State) (dt : Nat), s.advance dt = a → a.mode = .active → a.scopeOn 4 none = false →
    ∃ u, exec (.signatureCompare dt false) s = .next (finish u) ∧ u.seq.cause = 1 ∧ u.seq.hold = true ∧ u.seq.eval = false)

/-- A deferred checkpoint takes effect at its tick once no save runs, on an ACTIVE module at its next deliver tick; a save
that ends marks its bank valid with its content; a checkpoint asked for within 1 s of the latest snapshot is deferred
to the end of that second; and a snapshot keeps every RET slot's own value. (R179, R180, R181, R182) -/
def Obligations.BarnRuns : Prop :=
  (∀ (s a : State) (dt t : Nat), s.advance dt = a → a.barn.req = .deferred t → t ≤ a.clock → a.barn.save = none → a.mode = .active →
    exec (.checkpointDeferEnd dt) s = .next (finish { a with barn := { a.barn with req := .await } })) ∧
  (∀ (s a : State) (dt : Nat) (v : Save), s.advance dt = a → a.barn.save = some v → a.barn.next = none → a.barn.req = .none →
    exec (.barnSaveDone dt) s = .next (finish { a with barn := { a.barn with
      banks := modifyAt a.barn.banks v.bank (fun _ => { v.content with ok := true }), save := none } })) ∧
  (∀ (s : State) (t : Nat), s.maySave = true → s.barn.req = .none → s.barn.lastSnap = some t → s.clock < t + 400000000 →
    s.requestCheckpoint = { s with barn := { s.barn with req := .deferred (t + 400000000) } }) ∧
  (∀ (s : State) (t : Nat), s.maySave = true → s.mode = .active → s.barn.req = .none → s.barn.save = none → s.barn.lastSnap = some t →
    t + 400000000 ≤ s.clock → s.requestCheckpoint = { s with barn := { s.barn with req := .await } }) ∧
  (∀ (s : State) (c : Nat), (s.snapBank c).entries = s.img.cycle.ret.map (fun p => (p.1, s.ownSlot p.1, p.2)) ∧ (s.snapBank c).time = s.ns ∧
    (s.snapBank c).digest = s.img.digest ∧ (s.snapBank c).cause = c)

/-- A member sends its HELLO on both lanes; a valid HELLO brings its lane up, becomes the partner's latest and ends its
silence; a lane without a frame for 200 us goes down and is recorded; a partner silent for PL_TIMEOUT becomes silent,
a STANDBY member without a referee going ISOLATED; a pair that has stood for 100 ms brings an ISOLATED member back to
STANDBY. The DATA of LANE_DOWN and what a STANDBY takes from a HELLO of an online change are the model's readings,
logs 91 and 24. (R485, R486, R487, R488, R497) -/
def Obligations.PairLinkRuns : Prop :=
  (∀ (s a : State) (dt : Nat), s.advance dt = a → a.participates = true → (a.member = 1 ∨ a.member = 2) →
    ∃ u, exec (.helloSend dt) s = .next (finish u) ∧ u.out = a.out ++ [.link 0 ((a.pair.fseq0 + 1) % 2 ^ 32) (.hello a.helloNow), .link 1 ((a.pair.fseq1 + 1) % 2 ^ 32) (.hello a.helloNow)] ∧
      u.pair = { a.pair with fseq0 := (a.pair.fseq0 + 1) % 2 ^ 32, fseq1 := (a.pair.fseq1 + 1) % 2 ^ 32 } ∧ u.slots = a.slots ∧ u.mode = a.mode) ∧
  (∀ (s a : State) (dt : Nat) (h : Hello), s.advance dt = a → a.power.phase = .operating →
    ∃ u, exec (.helloReceived dt 0 h) s = .next (finish u) ∧ u.pair.lane0 = true ∧ u.pair.rx0 = a.clock ∧ u.pair.partner = some h ∧
      u.pair.silent = false ∧ u.pair.rxTick = a.clock ∧ u.pair.lane1 = a.pair.lane1) ∧
  (∀ (s a : State) (dt : Nat), s.advance dt = a → a.power.phase = .operating → (a.member = 1 ∨ a.member = 2) → a.pair.lane1 = true →
    max a.pair.rx1 a.boot.endTick + 80000 < a.clock →
    exec (.laneDown dt 1) s = .next (finish (State.record 0x0301 0 1 [0x01#8] (State.pairEvt 0x02 { a with pair := { a.pair with
      lane1 := false, rx1 := a.clock } })))) ∧
  (∀ (s a : State) (dt : Nat), s.advance dt = a → a.power.phase = .operating → a.inPair = true → a.pair.silent = false →
    max a.pair.rxTick a.boot.endTick + a.img.pair.plTimeout < a.clock →
    ∃ u, exec (.partnerSilent dt) s = .next (finish u) ∧ u.pair.silent = true ∧ u.pair.formed = none ∧ u.pair.digEq = false ∧
      u.mode = (if a.mode = .standby ∧ a.pair.refLost = true then .isolated else a.mode) ∧ u.slots = a.slots) ∧
  (∀ (s a : State) (dt : Nat) (t : Nat), s.advance dt = a → a.pair.formed = some t → a.mode = .isolated → a.inPair = true → a.pairEnded = false →
    t + 40000000 ≤ a.clock → (a.pstate = 1 ∨ a.pstate = 2) →
    exec (.pairFormed dt) s = .next (finish { a with mode := .standby }))

/-- A granted member takes over at a harvest tick of the shadow grid, a MODE 1 member becomes ACTIVE by itself, a member
without owner or referee elects itself, and a grant whose OWNER_N stays low isolates the member; a module is ACTIVE
with OWNER_N driven. The causes of a takeover are the model's codes, log 31, and OWNER_N's level is derived, log 25.
(R479, R480, R481, R482, R497, R498, R506) -/
def Obligations.OwnershipMoves : Prop :=
  (∀ (s a : State) (dt : Nat) (g : Takeover), s.advance dt = a → a.pair.takeover = some g → a.mode = .standby → a.mayOwn = true → a.ownerGot g.granted = true → a.pair.grid = none →
    ∃ u, exec (.takeover dt) s = .next (finish u) ∧ u.mode = .active ∧ u.pair.drive = true ∧ u.pair.relinq = false ∧ u.pair.takeover = none ∧
      u.pair.evt = a.pair.evt ||| 0x08#8 ∧ u.seq.tg = a.clock ∧ u.seq.h0 = 0) ∧
  (∀ (s a : State) (dt : Nat) (g : Takeover) (t h : Nat), s.advance dt = a → a.pair.takeover = some g → a.mode = .standby → a.mayOwn = true → a.ownerGot g.granted = true →
    a.pair.grid = some (t, h) → t ≤ a.clock → (a.clock - t) % a.img.cycle.base = 0 →
    ∃ u, exec (.takeover dt) s = .next (finish u) ∧ u.mode = .active ∧ u.pair.drive = true ∧ u.pair.takeover = none ∧
      u.pair.evt = a.pair.evt ||| 0x08#8 ∧ u.seq.tg = a.clock ∧ u.seq.h0 = h + (a.clock - t) / a.img.cycle.base) ∧
  (∀ (s a : State) (dt : Nat), s.advance dt = a → a.power.phase = .operating → a.committed = true → a.img.pair.single = true → a.member = 1 → a.mode = .standby →
    a.mayOwn = true → a.ownerHigh = true →
    ∃ u, exec (.singleActivate dt) s = .next (finish u) ∧ u.mode = .active ∧ u.pair.drive = true ∧ u.seq.tg = a.clock ∧ u.seq.h0 = 0) ∧
  (∀ (s a : State) (dt : Nat) (t : Nat), s.advance dt = a → a.pair.electSince = some t → a.noOwner = true → a.mayOwn = true → t + 40000000 < a.clock → a.eligible = true →
    (a.partnerEligible = false ∨ a.preferred = true) →
    exec (.pairSelfElect dt) s = .next (finish { a with pair := { a.pair with takeover := some { cause := 5, granted := a.clock } } })) ∧
  (∀ (s a : State) (dt : Nat) (g : Takeover), s.advance dt = a → a.pair.takeover = some g → g.granted + 8000000 < a.clock →
    (∀ t, a.ownerFree = some t → g.granted + 8000000 < t) →
    ∃ u, exec (.ownerStuck dt) s = .next (finish u) ∧ u.mode = .isolated ∧ u.pair.takeover = none ∧ u.pair.evt = a.pair.evt ||| 0x84#8) ∧
  (∀ (s a : State) (dt : Nat), s.advance dt = a → a.power.phase = .operating → a.mode = .active → a.pair.drive = true →
    exec (.ownerMismatch dt) s = .next (finish (State.record 0x0308 0 0 [] (a.pairEvt 0x10)))) ∧
  (∀ (s a : State) (dt : Nat) (l c : Nat), s.advance dt = a → a.power.phase = .operating → a.inPair = true → a.mode = .standby → (a.linkIn l).eligible = true → a.pairEnded = false →
    (∃ h, a.pair.partner = some h ∧ h.state = 2) →
    ∃ u, exec (.relinquishNotice dt l c) s = .next (finish u) ∧ u.pair.takeover = some { cause := c + 2, granted := a.clock } ∧
      u.pair.partner = a.pair.partner.map (fun h => { h with owning := false }) ∧ u.mode = .standby ∧ u.slots = a.slots) ∧
  (∀ (s a : State) (dt : Nat) (l : Nat), s.advance dt = a → a.power.phase = .operating → a.inPair = true → (a.mode = .active ∨ a.mode = .standby ∨ a.mode = .isolated) →
    ∃ u, exec (.safeNotice dt l) s = .next (finish u) ∧ u.mode = .safe ∧ u.so.safeLatch = true ∧ (a.mode = .active → u.pair.drive = false))

/-- An eligible STANDBY accepts an OFFER and one that is not eligible declines it; an accepted hand-over takes effect at
its harvest with RELINQUISH when the mirror has gone out; reversion and the swap test request one, and the swap test's
dwell ends with one. The kinds of a hand-over and the operand swap of OFFER are the model's, logs 31 and 32. (R500,
R501, R502, R506) -/
def Obligations.PlannedHandOver : Prop :=
  (∀ (s a : State) (dt : Nat) (l hx : Nat) (w : Bool), s.advance dt = a → a.power.phase = .operating → a.inPair = true → a.mode = .standby → a.pairEnded = false → (a.linkIn l).eligible = true →
    exec (.offerNotice dt l hx w) s = .next (finish (State.sendBoth (.notice 2 0 hx) { a.linkIn l with pair := { (a.linkIn l).pair with
      ho := some { hx := hx, accepted := true, kind := if w then 2 else 0 } } }))) ∧
  (∀ (s a : State) (dt : Nat) (l hx : Nat) (w : Bool), s.advance dt = a → a.power.phase = .operating → a.inPair = true → a.mode = .standby → a.pairEnded = false → (a.linkIn l).eligible = false →
    exec (.offerNotice dt l hx w) s = .next (finish ((a.linkIn l).sendBoth (.notice 6 0 hx)))) ∧
  (∀ (s a : State) (dt : Nat) (l : Nat) (o : Handover), s.advance dt = a → a.pair.ho = some o → a.mode = .active →
    exec (.acceptNotice dt l) s = .next (finish { a.linkIn l with pair := { (a.linkIn l).pair with ho := some { o with accepted := true } } })) ∧
  (∀ (s a : State) (dt : Nat) (l : Nat) (o : Handover), s.advance dt = a → a.pair.ho = some o → a.mode = .active →
    exec (.declineNotice dt l) s = .next (finish (State.record 0x030D 0 0 (leBytes 1 o.kind) { a.linkIn l with pair := { (a.linkIn l).pair with ho := none } }))) ∧
  (∀ (s a : State) (dt : Nat) (o : Handover) (m : Nat), s.advance dt = a → a.pair.ho = some o → a.mode = .active → o.accepted = true → a.hTick o.hx ≤ a.clock + 1000 →
    a.pair.mirH = some m → o.hx ≤ m + 1 → a.seq.skip = false → a.mayHandOver = true →
    ∃ u, exec (.handoverTx dt) s = .next (finish u) ∧ u.mode = .standby ∧ u.pair.drive = false ∧ u.pair.hto = o.hx ∧ u.pair.ho = none ∧
      u.pair.grid = some (a.hTick o.hx, o.hx) ∧ (∀ l, l < 2 → ∃ f, .link l f (.notice 3 0 o.hx) ∈ u.out)) ∧
  (∀ (s a : State) (dt : Nat) (t : Nat), s.advance dt = a → a.pair.revertSince = some t → a.mode = .active → a.img.pair.revert = true → a.pair.swapRun = none →
    t + 400000000 * a.img.pair.revertDelay ≤ a.clock → a.mayHandOver = true → a.pair.ho = none →
    exec (.revertStart dt) s = .next (finish (State.sendBoth (.notice 1 0 (a.hAt a.clock + 2)) { a with pair := { a.pair with
      ho := some { hx := a.hAt a.clock + 2, kind := 1 } } }))) ∧
  (∀ (s a : State) (dt : Nat), s.advance dt = a → a.mode = .active → a.inPair = true → 0 < a.img.pair.swapInterval → a.pair.swapDue ≤ a.clock →
    a.mayHandOver = true → a.pair.ho = none → a.pair.swapRun = none →
    exec (.swapTestStart dt) s = .next (finish (State.sendBoth (.notice 1 0 (a.hAt a.clock + 2)) { a with pair := { a.pair with
      swapPost := false, ho := some { hx := a.hAt a.clock + 2, kind := 2 } } }))) ∧
  (∀ (s a : State) (dt : Nat), s.advance dt = a → a.mode = .active → a.inPair = true → 0 < a.img.pair.swapInterval → a.pair.swapDue ≤ a.clock →
    a.mayHandOver = false → a.pair.swapPost = true →
    exec (.swapTestStart dt) s = .next (finish { a with pair := { a.pair with swapDue := a.clock + 24000000000, swapPost := true } })) ∧
  (∀ (s a : State) (dt : Nat) (t : Nat), s.advance dt = a → a.pair.swapRun = some t → t + 400000000 * a.img.pair.swapDwell ≤ a.clock → a.mode = .active →
    a.mayHandOver = true → a.pair.ho = none →
    exec (.swapDwellEnd dt) s = .next (finish (State.sendBoth (.notice 1 0 (a.hAt a.clock + 2)) { a with pair := { a.pair with
      ho := some { hx := a.hAt a.clock + 2, kind := 3 } } })))

/-- The active's snapshot copies every source slot to its destination and sends the frames; a standby takes a complete
mirror's values and states into both, and every shadow it receives; the image's pieces go to a partner that asks and
into an adoption in their place; a SWITCH notice puts a verified image in force on the standby. When a SWITCH notice
acts, when a mirror is complete and what its tick drops are the model's readings, logs 88, 118 and 126. (R161, R489,
R490, R491, R492, R504, R505) -/
def Obligations.MirrorAndShadows : Prop :=
  (∀ (s a : State) (dt : Nat), s.advance dt = a → a.mode = .active → a.seq.mirror = true → a.pair.fault = false → a.img.pair.entries = [] → a.inPair = true → a.participates = true →
    ∃ u, exec (.mirrorSnapshot dt) s = .next (finish u) ∧ u.seq.mirror = false ∧ u.slots = a.slots ∧ u.pair.mirH = some a.hnow ∧
      u.pair.mirrors = (a.pair.mirrors + 1) % 65536 ∧ u.mode = .active) ∧
  (∀ (s a : State) (dt : Nat) (e : MirrorEntry), s.advance dt = a → a.mode = .active → a.seq.mirror = true → a.pair.fault = false → a.img.pair.entries = [e] → e.count = 1 →
    e.src < 65536 → e.dst < 65536 →
    ∃ u, exec (.mirrorSnapshot dt) s = .next (finish u) ∧ u.ownSlot e.dst = a.ownSlot e.src ∧ u.pair.mirH = some a.hnow) ∧
  (∀ (s a : State) (dt : Nat) (l : Nat) (m : MirrorMsg), s.advance dt = a → a.power.phase = .operating → a.mode = .standby → a.inPair = true → a.pair.rx = [] →
    a.img.pair.entries = [] → l < 2 → (if l = 0 then a.pair.lane1 else a.pair.lane0) = false → a.pair.mirH ≠ some m.h →
    ∃ u, exec (.mirrorFrameReceived dt l m) s = .next (finish u) ∧ u.pair.mirH = some m.h ∧ u.pair.mirTick = a.clock ∧ u.pair.rx = [] ∧ u.slots = a.slots) ∧
  (∀ (s a : State) (dt : Nat) (l h : Nat) (e : MirrorEntry) (v : W32) (q : Nat), s.advance dt = a → a.power.phase = .operating → a.mode = .standby → a.inPair = true →
    a.pair.rx = [] → a.img.pair.entries = [e] → e.count = 1 → e.dst = 0xE000 → e.src < 65536 → l < 2 →
    (if l = 0 then a.pair.lane1 else a.pair.lane0) = false → a.pair.mirH ≠ some h →
    ∃ u, exec (.mirrorFrameReceived dt l { h := h, first := 0, values := [v], states := [q] }) s = .next (finish u) ∧
      u.ownSlot e.dst = (v, mkQ q false false false) ∧ u.ownSlot e.src = (v, mkQ q false false false) ∧ u.pair.mirH = some h) ∧
  (∀ (s a : State) (dt : Nat), s.advance dt = a → a.mode = .active → a.inPair = true → a.participates = true → a.pair.fault = false →
    exec (.shadowSend dt) s = .next (finish ((a.sendOnce (.shadow (.reg a.loopShadows a.msShadows))).sendOnce (.shadow (.solver a.slvShadows))))) ∧
  (∀ (s a : State) (dt : Nat) (n : Nat) (l : List LoopShadow) (m : List MsShadow), s.advance dt = a → a.power.phase = .operating → a.inPair = true → (a.mode = .standby ∨ a.mode = .isolated) →
    ∃ u, exec (.shadowReceived dt n true (.reg l m)) s = .next (finish u) ∧ u.pair = { (a.linkIn n).pair with gotReg := true, kept := true, shLoop := l, shMs := m } ∧ u.mode = a.mode ∧
      u.slots = a.slots) ∧
  (∀ (s a : State) (dt : Nat) (n : Nat) (l : List LoopShadow) (m : List MsShadow), s.advance dt = a → a.power.phase = .operating →
    exec (.shadowReceived dt n false (.reg l m)) s = .next (finish { a with pair := { a.pair with shLost := true } })) ∧
  (∀ (s a : State) (dt : Nat) (l : Nat) (m m0 : MirrorMsg), s.advance dt = a → a.power.phase = .operating → a.mode = .standby → a.inPair = true → a.pair.rx = [(0, m0)] →
    m0.h = m.h → a.img.pair.entries = [] → a.pair.mirH ≠ some m.h →
    ∃ u, exec (.mirrorFrameReceived dt 1 m) s = .next (finish u) ∧ u.pair.mirH = some m.h ∧ u.pair.rx = [] ∧ u.pair.mlost = a.pair.mlost) ∧
  (∀ (s a : State) (dt : Nat) (l : Nat), s.advance dt = a → a.power.phase = .operating → a.committed = false → exec (.imgreq dt l) s = .next (finish (a.linkIn l))) ∧
  (∀ (s a : State) (dt : Nat) (l : Nat), s.advance dt = a → a.power.phase = .operating → a.committed = true → a.store.selected = some false → a.store.copyA.bytes.length = 4096 →
    exec (.imgreq dt l) s = .next (finish ((a.linkIn l).sendOnce (.imgData 0 (slice a.store.copyA.bytes 0 4096))))) ∧
  (∀ (s a : State) (dt : Nat) (l : Nat) (d : List Byte), s.advance dt = a → a.store.stage.st = .receiving → a.store.stage.sid = none →
    a.store.stage.data.length + d.length ≤ a.store.stage.len → d.length ≤ 4096 →
    exec (.imgdata dt l a.store.stage.data.length d) s = .next (finish { a.linkIn l with store := { a.store with
      stage := { a.store.stage with data := a.store.stage.data ++ d, lastData := a.clock } } })) ∧
  (∀ (s a : State) (dt : Nat) (l ts : Nat) (n : Image), s.advance dt = a → a.mode = .standby → a.store.stage.st = .verified → a.store.stage.img = some n →
    n.prevDigest = a.img.digest →
    ∃ u, exec (.switchNotice dt l ts) s = .next (finish u) ∧ u.store.image = some n ∧ u.store.commit = some (true, a.stagingB) ∧
      u.olc.tsTick = some a.clock ∧ u.olc.st = .none ∧ u.mode = .standby)

/-- The referee begins a round and sends its ruling; a STATUS within its member's window is that member's latest; a member
sends its STATUS and follows the ROUND it receives: the owner that ruled against leaves for ISOLATED, the STANDBY
granted ownership is granted it; a referee absent for three rounds is marked and recorded. The cause of a takeover is
the model's code, log 31. (R493, R494, R495, R497) -/
def Obligations.CrossroadsRuns : Prop :=
  (∀ (s a : State) (dt : Nat), s.advance dt = a → a.power.phase = .operating → a.mode = .referee → a.img.pair.single = false →
    ∃ u va vb, exec (.roundStart dt) s = .next (finish u) ∧ u.pair.round = (a.pair.round + 1) % 2 ^ 32 ∧ u.pair.seenA = false ∧ u.pair.seenB = false ∧
      u.out = a.out ++ [.xroads (RoundMsg.frame { round := u.pair.round, owner := u.pair.refO, verdictA := va, verdictB := vb })] ∧ u.slots = a.slots ∧ u.mode = .referee) ∧
  (∀ (p : Pair) (b : Bool) (d : List Byte) (m : StatusMsg), p.refO = 1 → p.statA = some m → p.aMiss < 2 → m.state = 2 → m.healthy = true → m.relinq = false →
    p.rule b d = (1, 1, if (p.statB.map (·.req)).getD false then 3 else 2)) ∧
  (∀ (s a : State) (dt : Nat) (m : StatusMsg) (us : Nat), s.advance dt = a → a.power.phase = .operating → a.mode = .referee → m.member = 1 → 45 ≤ us → us ≤ 55 →
    exec (.statusReceived dt m us) s = .next (finish { a with pair := { a.pair with statA := some m, seenA := true } })) ∧
  (∀ (s a : State) (dt : Nat) (m : StatusMsg) (us : Nat), s.advance dt = a → a.power.phase = .operating → a.mode = .referee → m.member = 2 → 145 ≤ us → us ≤ 155 →
    exec (.statusReceived dt m us) s = .next (finish { a with pair := { a.pair with statB := some m, seenB := true } })) ∧
  (∀ (s a : State) (dt : Nat), s.advance dt = a → a.participates = true → a.inPair = true →
    exec (.statusSend dt) s = .next (finish (a.emit (.xroads a.statusNow.frame)))) ∧
  (∀ (s a : State) (dt : Nat) (m : RoundMsg), s.advance dt = a → a.participates = true → a.inPair = true → a.member = 1 → a.mode = .standby → m.verdictA = 1 →
    m.owner = 1 → a.eligible = true → a.pair.takeover = none →
    exec (.roundReceived dt m) s = .next (finish { a with pair := { a.pair with
      lastRound := m.round, refOk := true, refTick := a.clock, refLost := false, owner := 1, verdict := 1,
      electSince := none, takeover := some { cause := 1, granted := a.clock } } })) ∧
  (∀ (s a : State) (dt : Nat) (m : RoundMsg), s.advance dt = a → a.participates = true → a.inPair = true → a.member = 1 → a.mode = .active → m.owner = 2 →
    ∃ u, exec (.roundReceived dt m) s = .next (finish u) ∧ u.mode = .isolated ∧ u.pair.drive = false ∧ u.pair.refOk = true ∧ u.pair.refLost = false ∧ u.pair.owner = 2) ∧
  (∀ (s a : State) (dt : Nat), s.advance dt = a → a.power.phase = .operating → (a.member = 1 ∨ a.member = 2) → a.pair.refLost = false →
    max a.pair.refTick a.boot.endTick + 600000 < a.clock →
    ∃ u, exec (.refereeAbsent dt) s = .next (finish u) ∧ u.pair.refOk = false ∧ u.pair.refLost = true ∧ u.slots = a.slots ∧
      u.mode = (if a.mode = .standby ∧ a.pair.silent = true ∧ a.img.pair.single = false then .isolated else a.mode))

/-- The first edge of a stopped or lost domain makes it SEEKING with that edge's time; an edge sooner than 800 ticks after
the last, a timeout and a change of direction while it moves make it LOST with their causes; a timeout below the speed
limit makes it STOPPED; a cam marker synchronises the revolution; a reference edge is noted; the busbar's magnitudes
are taken with each phase update. Log 42 names what the model reads into SEEKING, log 44 the states in which domains
start, log 41 the lines after a reference and log 119 the first edge. (R231, R233, R235, R236, R237, R245, R248, R249,
R269) -/
def Obligations.DomainsRun : Prop :=
  (∀ (s a : State) (dt : Nat) (d f : Nat) (b : Bool), s.advance dt = a → a.msTracks = true → a.ms.doms.length = 8 → d < 4 → (domCfg a.img d).enable = true → ((a.dom d).st = 1 ∨ (a.dom d).st = 5) →
    ∃ u, exec (.toothEdge dt d f b) s = .next (finish u) ∧ (u.dom d).st = 2 ∧ (u.dom d).last16 = some (a.stamp f) ∧ (u.dom d).mdl = none ∧
      (u.dom d).ivals = 0 ∧ u.mode = a.mode ∧ u.store = a.store) ∧
  (∀ (s a : State) (dt : Nat) (d f l : Nat) (b : Bool), s.advance dt = a → a.msTracks = true → a.ms.doms.length = 8 → d < 4 → (domCfg a.img d).enable = true → ((a.dom d).st = 2 ∨ (a.dom d).st = 3 ∨ (a.dom d).st = 4) →
    (a.dom d).last16 = some l → a.stamp f - l < 12800 →
    ∃ u, exec (.toothEdge dt d f b) s = .next (finish u) ∧ (u.dom d).st = 5 ∧ (u.dom d).cause = 4 ∧ (u.dom d).lostL = true ∧
      (u.dom d).lostCount = satInc 65535 (a.dom d).lostCount) ∧
  (∀ (s a : State) (dt : Nat) (d : Nat), s.advance dt = a → a.msTracks = true → a.ms.doms.length = 8 → d < 4 → (domCfg a.img d).enable = true → (domCfg a.img d).mode ≠ 2 → (domCfg a.img d).periodRev = 2 → (a.dom d).st = 3 →
    ∃ u, exec (.camMarkerEdge dt d) s = .next (finish u) ∧ (u.dom d).st = 4 ∧ (u.dom d).revn = (domCfg a.img d).camRev ∧ (u.dom d).marker = some 0 ∧
      u.slots = a.slots ∧ u.log = a.log) ∧
  (∀ (s a : State) (dt : Nat) (d : Nat), s.advance dt = a → a.msTracks = true → a.ms.doms.length = 8 → d < 4 → (domCfg a.img d).enable = true → (domCfg a.img d).mode = 2 → (a.dom d).st = 2 →
    (a.dio (domCfg a.img d).refDio).pin = true → (∀ p ∈ (a.dom d).lines, p.1 ≤ 16 * (a.dio (domCfg a.img d).refDio).cap) →
    exec (.quadRefEdge dt d) s = .next (finish { a with ms := { a.ms with doms := modifyAt a.ms.doms d fun y => { y with refSeen := true } } })) ∧
  (∀ (s a : State) (dt : Nat) (d : Nat) (e : Int), s.advance dt = a → a.msTracks = true → a.ms.doms.length = 8 → d < 4 → (domCfg a.img d).enable = true → ((a.dom d).st = 2 ∨ (a.dom d).st = 3 ∨ (a.dom d).st = 4) → a.domExpiry d = some e →
    e.toNat < a.clock → (a.dom d).up ≠ a.clock → 16 * (domCfg a.img d).limit ≤ (a.dom d).int16 →
    ∃ u, exec (.domainTimeout dt d) s = .next (finish u) ∧ (u.dom d).st = 1 ∧ u.log = a.log) ∧
  (∀ (s a : State) (dt : Nat) (d : Nat) (e : Int), s.advance dt = a → a.msTracks = true → a.ms.doms.length = 8 → d < 4 → (domCfg a.img d).enable = true → ((a.dom d).st = 2 ∨ (a.dom d).st = 3 ∨ (a.dom d).st = 4) → a.domExpiry d = some e →
    e.toNat < a.clock → (a.dom d).up ≠ a.clock → (a.dom d).int16 < 16 * (domCfg a.img d).limit →
    ∃ u, exec (.domainTimeout dt d) s = .next (finish u) ∧ (u.dom d).st = 5 ∧ (u.dom d).cause = 1) ∧
  (∀ (s a : State) (dt : Nat) (d : Nat), s.advance dt = a → a.msTracks = true → a.ms.doms.length = 8 → d < 4 → (domCfg a.img d).enable = true → (domCfg a.img d).mode ≠ 2 → a.dirLevel d ≠ (a.dom d).dirSeen → (a.dom d).st = 1 →
    ∃ u, exec (.dirRefChange dt d) s = .next (finish u) ∧ (u.dom d).rev = a.dirLevel d ∧ (u.dom d).dirSeen = a.dirLevel d ∧ (u.dom d).st = 1 ∧
      u.slots = a.slots) ∧
  (∀ (s a : State) (dt : Nat) (d : Nat), s.advance dt = a → a.msTracks = true → a.ms.doms.length = 8 → d < 4 → (domCfg a.img d).enable = true → (domCfg a.img d).mode ≠ 2 → a.dirLevel d ≠ (a.dom d).dirSeen → (a.dom d).st = 4 →
    ∃ u, exec (.dirRefChange dt d) s = .next (finish u) ∧ (u.dom d).st = 5 ∧ (u.dom d).cause = 3) ∧
  (∀ (s a : State) (dt : Nat) (p4 p5 f4 f5 : Nat) (u0 u1 : F64), s.advance dt = a → a.msTracks = true → a.ms.doms.length = 8 →
    ∃ u, exec (.bvPhaseUpdate dt p4 p5 f4 f5 u0 u1) s = .next (finish u) ∧ (u.dom 4).mag = u0 ∧ (u.dom 5).mag = u1 ∧ u.mode = a.mode ∧
      ((domCfg a.img 4).enable = true → rat64 u0 < tenths (domCfg a.img 4).limit → (u.dom 4).st = 6)) ∧
  (∀ (s a : State) (dt : Nat), s.advance dt = a → exec (.trackerCompare dt true) s = .next (finish a)) ∧
  (∀ (s a : State) (dt : Nat), s.advance dt = a → a.msTracks = true → a.scopeOn 6 none = false →
    ∃ u, exec (.trackerCompare dt false) s = .next (finish u) ∧ u.ms.cause = 1 ∧ ∀ d, d < 8 → (u.dom d).st = 0)

/-- A slot whose target the present tick crosses fires with its result, count, tick and cycle, and an ON action turns its
output on; a pulse that is due ends with its output off; the breaker's feedback within its window ends the wait with
its result, and none within 1 ms after CT_MAX ends it with NO_FEEDBACK. The record of NO_FEEDBACK takes two free
values, log 5; the layout of SYNC_CLOSE is the model's choice, log 120. (R242, R250, R251, R252, R253, R254, R258,
R261) -/
def Obligations.MilestonesRun : Prop :=
  (∀ (s a : State) (dt : Nat) (n : Nat) (m : MsSlotSt) (c : MsSlotCfg) (cy : Int), s.advance dt = a → a.msSlot n = some m → msCfg a.img n = some c → a.msReady c m = true → a.msCross c m = some cy →
    m.fired ≠ some cy → m.skipped ≠ some cy → m.pulse = none → msAct c = 1 →
    ∃ u, exec (.milestoneFire dt n) s = .next (finish u) ∧ u.msSlot n = some { m with
        count := (m.count + 1) % 65536, ftick := a.tick, fired := some cy, result := if a.msLate c m then 2 else 1,
        arm := m.arm && m.rep, seenArm := m.arm && m.rep } ∧
      (a.msOffNow c.out.toNat = false → ∀ x ∈ u.fld.dio, x.n = c.out.toNat → x.ms = true) ∧ u.slots = a.slots ∧ u.log = a.log) ∧
  (∀ (s a : State) (dt : Nat) (n : Nat) (m : MsSlotSt) (c : MsSlotCfg) (cy : Int), s.advance dt = a → a.msSlot n = some m → msCfg a.img n = some c → a.msReady c m = true → a.msCross c m = some cy →
    m.fired ≠ some cy → m.skipped ≠ some cy → m.pulse.isSome = true →
    exec (.milestoneFire dt n) s = .next (finish { a with ms := { a.ms with
      slots := modifyKey (·.num) n (fun x => { x with result := 7 }) a.ms.slots } })) ∧
  (∀ (s a : State) (dt : Nat) (n : Nat) (m : MsSlotSt) (c : MsSlotCfg) (p : MsPulse), s.advance dt = a → a.msSlot n = some m → msCfg a.img n = some c → a.msPulseDue c m = true → m.pulse = some p →
    ∃ u, exec (.pulseEnd dt n) s = .next (finish u) ∧ (u.msSlot n).map (·.pulse) = some none ∧
      (∀ x ∈ u.fld.dio, x.n = p.dio → x.ms = false) ∧ u.slots = a.slots ∧ u.log = a.log) ∧
  (∀ (s a : State) (dt : Nat) (n f : Nat) (m : MsSlotSt) (c : MsSlotCfg), s.advance dt = a → a.msSlot n = some m → msCfg a.img n = some c → a.msRun = true → m.wait = some f →
    (a.dio (syncOf a.img c).fbDio).pin ≠ (syncOf a.img c).fbFalling →
    f + (syncOf a.img c).auxDelay + (syncOf a.img c).ctMin ≤ (a.dio (syncOf a.img c).fbDio).cap →
    (a.dio (syncOf a.img c).fbDio).cap ≤ f + (syncOf a.img c).auxDelay + (syncOf a.img c).ctMax →
    (a.dio (syncOf a.img c).fbDio).cap ≤ f + (syncOf a.img c).ctMax + 400000 →
    ∃ u, exec (.syncCloseFeedback dt n) s = .next (finish u) ∧ (u.msSlot n).map (fun x => (x.wait, x.result)) = some (none, 0x0D) ∧ u.mode = a.mode) ∧
  (∀ (s a : State) (dt : Nat) (n f : Nat) (m : MsSlotSt) (c : MsSlotCfg), s.advance dt = a → a.msSlot n = some m → msCfg a.img n = some c → a.msRun = true → m.wait = some f →
    f + (syncOf a.img c).ctMax + 400000 < a.clock →
    ∃ u, exec (.syncNoFeedback dt n) s = .next (finish u) ∧ (u.msSlot n).map (fun x => (x.wait, x.result, x.ct)) = some (none, 0x0B, m.ct) ∧
      u.slots = a.slots ∧ u.freeCtr = a.freeCtr + 2)

/-- At its instant a time-triggered context latches its inputs; the engine takes the sample that waits; its agreeing
results commit after 66 ticks with the output slot and a fresh miss count, and a disagreement is a LOOP fault with
cause 1; a sample that can no longer commit in time is missed and counted, and the limit marks the output slot. That
coefficients are latched with the inputs and the period rounded once is the model's reading, log 90. (R24, R273, R276,
R278, R279, R281) -/
def Obligations.LoopSamplesRun : Prop :=
  (∀ (s a : State) (dt : Nat) (n : Nat) (x : CtxSt) (c : LoopCfg), s.advance dt = a → a.ctx n = some x → loopCfg a.img n = some c → a.loopRuns = true → c.trig = 0 →
    a.loopInstant c = true → x.lastTrig ≠ some a.clock → x.latch = none →
    exec (.loopTimeTrigger dt n) s = .next (finish (State.swapLatched n (a.modCtx n fun y => { y with
      latch := some (a.loopLatch n c x), lastTrig := some a.clock })))) ∧
  (∀ (s a : State) (dt : Nat) (x : CtxSt) (c : LoopCfg) (l : LoopLatch), s.advance dt = a → a.loop.ctxs = [x] → x.latch = some l → loopCfg a.img x.n = some c →
    a.loopRuns = true → a.loop.run = [] → l.trig + 1 ≤ a.clock → a.clock + 66 ≤ l.trig + c.deadline →
    exec (.loopSampleBegin dt) s = .next (finish { a with loop := { a.loop with
      ctxs := [{ x with latch := none }], run := [(x.n, a.clock, l)] } })) ∧
  (∀ (s a : State) (dt : Nat) (n t : Nat) (x : CtxSt) (c : LoopCfg) (l : LoopLatch) (r : SlotRef), s.advance dt = a → a.loop.run = [(n, t, l)] → a.loopRuns = true → t + 66 ≤ a.clock →
    a.ctx n = some x → loopCfg a.img n = some c → c.outBind = some r → c.statBind = none → c.pspBind = none → r.slot < 65536 →
    ∃ u k y, exec (.loopSampleCommit dt true) s = .next (finish u) ∧ u.loop.run = [] ∧ u.ctx n = some y ∧
      k = loopSampleOf c x l (F32.ofRat (((x.lastDone.elim c.period fun d => l.trig - d : Nat) : Rat) / 400000000)) ∧
      u.ownSlot r.slot = (k.x.y1, k.q) ∧ y.out = k.x.y1 ∧ y.mode = k.x.mode ∧ y.missCons = 0 ∧ y.miss = false ∧ y.lastDone = some l.trig) ∧
  (∀ (s a : State) (dt : Nat) (n t : Nat) (l : LoopLatch), s.advance dt = a → a.loop.run = [(n, t, l)] → a.loopRuns = true → t + 66 ≤ a.clock →
    exec (.loopSampleCommit dt false) s = .next (finish (State.funcFault 7 1 0 { a with loop := { a.loop with cause := 1 } }))) ∧
  (∀ (s a : State) (dt : Nat) (n : Nat) (x : CtxSt) (c : LoopCfg) (l : LoopLatch), s.advance dt = a → a.ctx n = some x → loopCfg a.img n = some c → x.latch = some l →
    a.loopRuns = true → l.trig + c.deadline < a.clock + 66 → x.missCons + 1 ≠ c.missLimit →
    exec (.loopSampleMissed dt n) s = .next (finish ((a.latchSet (0x3004 + 0x40 * n) 2097152).modCtx n fun y => { y with
      latch := none, miss := true, missL := true, missTotal := satInc 65535 y.missTotal, missCons := satInc 255 x.missCons }))) ∧
  (∀ (s a : State) (dt : Nat) (n : Nat) (x : CtxSt) (c : LoopCfg) (l : LoopLatch) (r : SlotRef), s.advance dt = a → a.ctx n = some x → loopCfg a.img n = some c → x.latch = some l →
    a.loopRuns = true → l.trig + c.deadline < a.clock + 66 → x.missCons + 1 = c.missLimit → c.outBind = some r → r.slot < 65536 →
    ∃ u y, exec (.loopSampleMissed dt n) s = .next (finish u) ∧ u.ctx n = some y ∧ y.missHeld = true ∧ y.latch = none ∧
      u.ownSlot r.slot = ((a.ownSlot r.slot).1, mkQ 1 false true false))

/-- The assembly unit takes the period that waits and leaves it assembled, or decided where an input refuses or a matrix
is not finite; the engine takes an assembled period and hands it over, to the residual unit if optimal and decided by
its stop code otherwise; the residual check decides the solution or refuses it with a record. ITER of a solve that its
deadline stops is free, log 49. (R316, R317, R319, R323, R337, R341, R347, R348, R356) -/
def Obligations.SolverPeriodsRun : Prop :=
  (∀ (s a : State) (dt : Nat) (p : Nat), s.advance dt = a → a.slvRun = true → a.slv.asm = none → a.slv.asmFree ≤ a.clock → a.slvNext .queued = some p →
    ∃ u, exec (.assemblyBegin dt) s = .next (finish u) ∧ u.slv.asm = some (p, a.clock) ∧ u.prob p = (a.prob p).map (setStage .assembling) ∧ u.slots = a.slots) ∧
  (∀ (s a : State) (dt : Nat) (p t : Nat) (c : SlvCfg) (x : ProbSt) (y : Period) (f : List (List Fetched)), s.advance dt = a → a.slv.asm = some (p, t) → slvCfg a.img p = some c →
    a.prob p = some x → x.per = some y → y.stage = .assembling → f = fetchAll c x.lasts (y.view.getD a.visible) →
    t + cyclesTicks (asmCycles c (f.any fun l => l.any (·.refuse))) ≤ a.clock →
    ∃ u z w, exec (.assemblyEnd dt) s = .next (finish u) ∧ u.slv.asm = none ∧ u.slv.asmFree = a.clock + 1 ∧ u.prob p = some z ∧ z.per = some w ∧
      w.stage = (if f.any fun l => l.any (·.refuse) then .decided 0x16 else if matsFin (assemble c y.h f) then .assembled else .decided 0x17) ∧
      u.slots = a.slots) ∧
  (∀ (s a : State) (dt : Nat) (p : Nat) (c : SlvCfg) (x : ProbSt) (y : Period), s.advance dt = a → a.slvRun = true → a.slv.eng = none → a.slv.engFree ≤ a.clock →
    a.slvNext .assembled = some p → slvCfg a.img p = some c → a.prob p = some x → x.per = some y →
    ∃ u z w, exec (.solveBegin dt) s = .next (finish u) ∧ u.slv.eng = some (p, a.clock) ∧ u.prob p = some z ∧ z.per = some w ∧
      w.stage = .solving ∧ w.res = solve c (x.mats.getD {}) x.ret ∧ u.slots = a.slots) ∧
  (∀ (s a : State) (dt : Nat) (p t k : Nat) (x : ProbSt) (y : Period), s.advance dt = a → a.slv.eng = some (p, t) → t + cyclesTicks k ≤ a.clock → a.prob p = some x → x.per = some y →
    ∃ u z w, exec (.solveHandover dt k) s = .next (finish u) ∧ u.slv.eng = none ∧ u.slv.engFree = a.clock + 1 ∧ u.prob p = some z ∧ z.per = some w ∧
      w.stage = (if y.res.stop = .optimal then .checking else .decided (stopCode y.res.stop)) ∧ z.cycles = k % 16777216 ∧
      u.slv.resq = (if y.res.stop = .optimal then a.slv.resq ++ [p] else a.slv.resq) ∧ u.slots = a.slots) ∧
  (∀ (s a : State) (dt : Nat) (p : Nat) (q : List Nat) (c : SlvCfg) (x : ProbSt) (y : Period), s.advance dt = a → a.slv.resq = p :: q → slvCfg a.img p = some c → a.prob p = some x →
    x.per = some y → (residual c (x.mats.getD {}) y.res.x y.res.lam).ok = true →
    ∃ u z w, exec (.residualCheck dt) s = .next (finish (State.slvAccepted u)) ∧ u.slv.resq = q ∧ u.prob p = some z ∧ z.per = some w ∧
      w.stage = .decided (b2n y.res.reg) ∧ z.rescons = 0 ∧ u.slots = a.slots ∧ u.log = a.log) ∧
  (∀ (s a : State) (dt : Nat) (p : Nat) (q : List Nat) (c : SlvCfg) (x : ProbSt) (y : Period), s.advance dt = a → a.slv.resq = p :: q → slvCfg a.img p = some c → a.prob p = some x →
    x.per = some y → (residual c (x.mats.getD {}) y.res.x y.res.lam).ok = false → x.rescons + 1 < c.resfail →
    ∃ u z w, exec (.residualCheck dt) s = .next (finish (State.slvAccepted u)) ∧ u.slv.resq = q ∧ u.prob p = some z ∧ z.per = some w ∧
      w.stage = .decided 0x14 ∧ z.rescons = x.rescons + 1 ∧ u.slots = a.slots ∧ u.slv.fault = a.slv.fault)

/-- A scan commits the value, quality and status of a channel that it names; a milestone conversion commits 3200 ticks
after its trigger; a reference deviation is the channel fault CONV; a HART transaction starts with command 0, its
response sets the channel's device status, and an attempt without response for 500 ms is counted and repeated; a good
value that is not renewed goes stale. The DATA of CHANNEL_FAULT and the step of HARTERR are the model's readings, logs
50 and 100. (R360, R361, R362, R363, R364, R365, R366) -/
def Obligations.AnalogInputsRun : Prop :=
  (∀ (s a : State) (dt : Nat) (ok : Bool) (v : Int) (c : AiCfg) (x : AiSt) (r : SlotRef), s.advance dt = a → a.fieldRuns = true → a.tick % 400000 = a.img.fld.scanPhase →
    a.img.fld.ai = [c] → c.trig = 0 → a.ai c.ch = some x → x.faulted a = false → c.valBind = some r → r.slot < 65536 → r = { slot := r.slot, bitpos := 0, widthM1 := 31, wide := false } →
    c.statBind = none → c.filt = 0 →
    ∃ u y, exec (.aiScan dt ok [(c.ch, v)]) s = .next (finish u) ∧ u.ai c.ch = some y ∧ y.raw = v ∧ y.cond = aiCond c ok v ∧ y.restart = false ∧
      u.ownSlot r.slot = (aiValue c (aiReal c v), mkQ (condState (aiCond c ok v)) false false false) ∧ u.fld.fsAi = ok) ∧
  (∀ (s a : State) (dt : Nat) (n t : Nat) (ok : Bool) (v : Int) (c : AiCfg) (x : AiSt), s.advance dt = a → aiCfg a.img n = some c → a.ai n = some x → x.conv = some t →
    a.mode = .active → t + 3200 ≤ a.clock → x.faulted a = false →
    ∃ u y, exec (.aiSampleCommit dt n ok v) s = .next (finish u) ∧ u.ai n = some y ∧ y.conv = none ∧ y.raw = v ∧ y.cond = aiCond c ok v ∧ u.fld.fsAi = ok) ∧
  (∀ (s a : State) (dt : Nat) (n : Nat) (x : AiSt), s.advance dt = a → a.ai n = some x → a.fieldRuns = true → x.faulted a = false →
    exec (.aiRefCheck dt n true) s = .next (finish (State.raiseScope 10 (some n) (fun s => s.record 0x0A01 n 0 (leBytes 1 8))
      ((a.latchSet (0x8104 + 0x10 * n) 65536).modAi n fun x => { x with cond := 8, condL := true })))) ∧
  (∀ (s a : State) (dt : Nat) (n ad : Nat) (m : Modem) (x : ModemSt), s.advance dt = a → a.modem m = some x → a.fieldRuns = true → x.run = none → x.queued = none →
    a.hartAddrs m = [(n, ad)] → (n, ad) ∉ x.known →
    ∃ u y, exec (.hartTransactionStart dt m) s = .next (finish u) ∧ u.modem m = some y ∧ y.run = some (ad, 0, 1, a.clock) ∧ y.ch = n ∧ u.slots = a.slots) ∧
  (∀ (s a : State) (dt : Nat) (ad k t : Nat) (n : Nat) (x : ModemSt) (z : AiSt) (dev : Byte) (vs : List F32) (bs : List Byte), s.advance dt = a → a.modem (.ai n) = some x →
    a.fieldRuns = true → x.run = some (ad, 0, k, t) → x.passRun = none → a.ai x.ch = some z →
    ∃ u y w, exec (.hartResponse dt (.ai n) false dev vs bs) s = .next (finish u) ∧ u.modem (.ai n) = some y ∧ y.run = none ∧ (x.ch, ad) ∈ y.known ∧
      u.ai x.ch = some w ∧ w.hartOk = true ∧ w.hstat = dev ∧ u.slots = a.slots) ∧
  (∀ (s a : State) (dt : Nat) (ad cmd t : Nat) (n : Nat) (x : ModemSt) (z : AiSt), s.advance dt = a → a.modem (.ai n) = some x → a.fieldRuns = true → x.run = some (ad, cmd, 1, t) →
    t + msTicks 500 < a.clock → a.ai x.ch = some z →
    ∃ u y w, exec (.hartAttemptTimeout dt (.ai n)) s = .next (finish u) ∧ u.modem (.ai n) = some y ∧ y.run = some (ad, cmd, 2, a.clock) ∧
      u.ai x.ch = some w ∧ w.hartErr = satInc 65535 z.hartErr ∧ w.hartErrL = true ∧ u.slots = a.slots) ∧
  (∀ (s a : State) (dt : Nat) (k t : Nat) (e : HartEntry), s.advance dt = a → a.img.fld.hart[k]? = some e → a.fld.hlast[k]? = some (some t, false) → a.fieldRuns = true →
    a.unitWorks e.ao e.ch = true → t + msTicks (hstaleOf a.img e) < a.clock → e.ref.slot < 65536 →
    e.ref = { slot := e.ref.slot, bitpos := 0, widthM1 := 31, wide := false } →
    ∃ u, exec (.hartStale dt k) s = .next (finish u) ∧ u.ownSlot e.ref.slot = ((a.ownSlot e.ref.slot).1, mkQ 1 false false true) ∧
      u.fld.hlast[k]? = some (some t, true))

/-- A frame drives the level that the module commands and ends a hold; 100 us without one holds a driving channel, and
HOLDMS later it goes to LOSSLEVEL; a newly powered sink channel starts its test work; a measurement is kept with its
supply flag; compliance, deviation and missing frames are latched, recorded and raised; test work steps the clock and
ends. COND in these corners, the DATA of CHANNEL_FAULT and the current in AO_COMPLIANCE are the model's, logs 7, 50
and 99. (R28, R371, R372, R373, R374, R375, R376, R377) -/
def Obligations.AnalogOutputsRun : Prop :=
  (∀ (s a : State) (dt : Nat) (n : Nat) (c : AoCfg), s.advance dt = a → a.power.phase = .operating → a.mode ≠ .fault → a.fld.aoFault = false → n < 16 →
    aoCfg a.img n = some c → (a.ao n).cfault = false → (a.ao n).sink = false →
    exec (.aoFrame dt n) s = .next (finish (a.modAo n fun x => { x with
      lastFrame := some a.clock, hold := false, loss := false, cmd := (a.aoLevel c).1, drv := (a.aoLevel c).1,
      clk := if x.sink && !x.testing then (if (a.aoLevel c).1.isSome then 3 else 0) else x.clk }))) ∧
  (∀ (s a : State) (dt : Nat) (n : Nat) (c : AoCfg), s.advance dt = a → a.power.phase = .operating → a.mode = .safe → a.fld.aoFault = false → n < 16 →
    aoCfg a.img n = some c → (a.ao n).cfault = false → (a.ao n).sink = false →
    exec (.aoFrame dt n) s = .next (finish (a.modAo n fun x => { x with
      lastFrame := some a.clock, hold := false, loss := false, cmd := some (mA c.safeval), drv := some (mA c.safeval),
      clk := if x.sink && !x.testing then 3 else x.clk }))) ∧
  (∀ (s a : State) (dt : Nat) (n t : Nat) (x : AoSt) (l : F32), s.advance dt = a → findKey (·.n) n a.fld.ao = some x → x.lastFrame = some t → t + 40000 < a.clock → x.drv = some l →
    x.cfault = false →
    ∃ u y, exec (.aoFrameTimeout dt n) s = .next (finish u) ∧ findKey (·.n) n u.fld.ao = some y ∧ y = { x with hold := true } ∧ u.slots = a.slots) ∧
  (∀ (s a : State) (dt : Nat) (n t : Nat) (x : AoSt), s.advance dt = a → findKey (·.n) n a.fld.ao = some x → x.lastFrame = some t → x.hold = true → t + 400000 * x.holdMs < a.clock →
    ∃ u y, exec (.aoHoldExpire dt n) s = .next (finish u) ∧ findKey (·.n) n u.fld.ao = some y ∧
      y = { x with loss := true, drv := some (lossLevel x.lossHigh) } ∧ u.slots = a.slots) ∧
  (∀ (s a : State) (dt : Nat) (n : Nat) (x : AoSt), s.advance dt = a → findKey (·.n) n a.fld.ao = some x → x.sink = true →
    ∃ u y, exec (.aoLoopPower dt n) s = .next (finish u) ∧ findKey (·.n) n u.fld.ao = some y ∧ y = { x with
      powered := true, testing := true, clk := 0, stepAt := a.clock, lastFrame := none, cmd := none, drv := none, hold := false, loss := false,
      noFrame := false, openL := false, compl := false }) ∧
  (∀ (s a : State) (dt : Nat) (n i v : Nat) (ok : Bool) (c : AoCfg) (x : AoSt), s.advance dt = a → aoCfg a.img n = some c → a.fieldRuns = true → (a.ao n).cfault = false →
    a.fld.aoFault = false → findKey (·.n) n a.fld.ao = some x → x.sink = true →
    ∃ u y, exec (.aoMeasure dt n ok i v) s = .next (finish u) ∧ findKey (·.n) n u.fld.ao = some y ∧
      y = { x with meas := i % 65536, vterm := v % 65536, openL := false } ∧ u.fld.fsAo = ok) ∧
  (∀ (s a : State) (dt : Nat) (n i v : Nat) (c : AoCfg), s.advance dt = a → aoCfg a.img n = some c → a.fieldRuns = true → (a.ao n).cfault = false → a.fld.aoFault = false →
    (a.ao n).compl = false → (a.mode = .active ∨ a.mode = .safe) →
    exec (.aoCompliance dt n i v) s = .next (finish (State.record 0x0B02 n 0 (leBytes 4 ((a.ao n).cmd.elim 0 microAmps) ++ leBytes 4 i ++ leBytes 4 v)
      ((a.latchSet (0x8504 + 0x10 * n) 65536).modAo n fun x => { x with compl := true, complL := true })))) ∧
  (∀ (s a : State) (dt : Nat) (n : Nat), s.advance dt = a → a.fieldRuns = true →
    exec (.aoComplianceClear dt n) s = .next (finish (a.modAo n fun x => { x with compl := false }))) ∧
  (∀ (s a : State) (dt : Nat) (n : Nat) (c : AoCfg), s.advance dt = a → aoCfg a.img n = some c → a.fieldRuns = true → (a.ao n).dev = false →
    (a.ao n).compl = false → (a.ao n).openL = false → (a.ao n).testing = false → (a.mode = .active ∨ a.mode = .safe) →
    exec (.aoDeviation dt n) s = .next (finish ((a.latchSet (0x8504 + 0x10 * n) 131072).aoFail n 6 fun x => { x with dev := true, devL := true }))) ∧
  (∀ (s a : State) (dt : Nat) (n i : Nat) (x : AoSt), s.advance dt = a → findKey (·.n) n a.fld.ao = some x → x.sink = true → x.testing = true → x.clk = 3 → 5100 ≤ i → x.stepAt + 400000 ≤ a.clock →
    ∃ u y, exec (.aoClockStep dt n i) s = .next (finish u) ∧ findKey (·.n) n u.fld.ao = some y ∧ y = { x with clk := 4, stepAt := a.clock }) ∧
  (∀ (s a : State) (dt : Nat) (n i : Nat) (x : AoSt), s.advance dt = a → findKey (·.n) n a.fld.ao = some x → x.sink = true → x.testing = true → x.clk = 4 → i < 2300 →
    ∃ u y, exec (.aoClockStep dt n i) s = .next (finish u) ∧ findKey (·.n) n u.fld.ao = some y ∧ y = { x with clk := 0, stepAt := a.clock }) ∧
  (∀ (s a : State) (dt : Nat) (n : Nat), s.advance dt = a → (a.ao n).testing = true → (a.ao n).sink = false →
    exec (.aoTestWorkDone dt n true) s = .next (finish (a.modAo n fun x => { x with testing := false, clk := if x.sink then 3 else 4 }))) ∧
  (∀ (s a : State) (dt : Nat) (m : Master) (n : Nat) (c : AoCfg), s.advance dt = a → n < 16 → a.Admits m (0x850C + 0x10 * n) → aoCfg a.img n = some c → a.fieldRuns = true →
    ∃ b q ss, exec (.aoTest dt m n) s = .next (finish { a with
      bus := b, seqm := q, sessions := ss,
      fld := { a.fld with ao := modifyKey (·.n) n (fun x => if x.testing then x else x.startTest a.clock) a.fld.ao } })) ∧
  (∀ (s a : State) (dt : Nat) (n : Nat) (c : AoCfg), s.advance dt = a → aoCfg a.img n = some c → a.fieldRuns = true → (a.ao n).noFrame = false → (a.ao n).sink = false →
    exec (.aoChannelNoFrame dt n) s = .next (finish ((a.latchSet (0x8504 + 0x10 * n) 262144).aoFail n 5 fun x => { x with noFrame := true, linkL := true })))

/-- An accepted level enters the pin and the input's slot; a group supply that leaves its range marks the slots of its
group BAD and one that returns writes them afresh; an overload, a mismatch and an open load are channel faults of a
configured output. The DATA of CHANNEL_FAULT is the model's reading, log 50, and so are the readback's corners, log
98. (R378, R379, R382, R390, R391) -/
def Obligations.DigitalChannelsRun : Prop :=
  (∀ (s a : State) (dt : Nat) (n ago : Nat) (v : Bool) (c : DioCfg) (f : Nat → DioSt) (r : SlotRef), s.advance dt = a → dioCfg a.img n = some c → a.fieldRuns = true → a.dioFaulted n = false →
    c.ch = n → c.kind = 0 → c.bind = some r → n < 16 → a.fld.fsDioA = true → usTicks c.filt ≤ ago → r.slot < 65536 → r = { slot := r.slot, bitpos := 0, widthM1 := 31, wide := false } →
    (∀ k, (f k).n = k) → a.fld.dio = (List.range 32).map f →
    ∃ u, exec (.dioInputAccept dt n v ago) s = .next (finish u) ∧ u.dio n = { f n with pin := v, cap := a.clock - ago } ∧
      u.ownSlot r.slot = (BitVec.ofNat 32 (b2n (v != c.inv)), qGood)) ∧
  (∀ (s a : State) (dt : Nat) (n ago : Nat) (v : Bool) (c : DioCfg) (f : Nat → DioSt) (r : SlotRef), s.advance dt = a → dioCfg a.img n = some c → a.fieldRuns = true → a.fld.dioFault = true →
    c.ch = n → c.kind = 1 → c.bind = some r → usTicks c.filt ≤ ago →
    r.slot < 65536 → r = { slot := r.slot, bitpos := 0, widthM1 := 31, wide := false } →
    n < 32 → (∀ k, (f k).n = k) → a.fld.dio = (List.range 32).map f →
    ∃ u, exec (.dioInputAccept dt n v ago) s = .next (finish u) ∧ (u.dio n).pin = v ∧
      u.ownSlot r.slot = (BitVec.ofNat 32 (b2n v), qBad)) ∧
  (∀ (s a : State) (dt : Nat) (b : Bool) (c : DioCfg) (r : SlotRef), s.advance dt = a → a.fieldRuns = true → a.img.fld.dio = [c] → decide (16 ≤ c.ch) = b → a.dioFaulted c.ch = false →
    c.bind = some r → r.slot < 65536 → r = { slot := r.slot, bitpos := 0, widthM1 := 31, wide := false } →
    ∃ u, exec (.dioSupplyLoss dt b) s = .next (finish u) ∧ u.ownSlot r.slot = ((a.ownSlot r.slot).1, qBad) ∧
      (if b then u.fld.fsDioB else u.fld.fsDioA) = false) ∧
  (∀ (s a : State) (dt : Nat) (b : Bool) (c : DioCfg) (r : SlotRef), s.advance dt = a → a.fieldRuns = true → a.img.fld.dio = [c] → decide (16 ≤ c.ch) = b → a.dioFaulted c.ch = false →
    c.kind = 0 → c.bind = some r → r.slot < 65536 → r = { slot := r.slot, bitpos := 0, widthM1 := 31, wide := false } →
    ∃ u, exec (.dioSupplyReturn dt b) s = .next (finish u) ∧ (if b then u.fld.fsDioB else u.fld.fsDioA) = true ∧
      u.ownSlot r.slot = (BitVec.ofNat 32 (b2n ((a.dio c.ch).pin != c.inv)), qGood)) ∧
  (∀ (s a : State) (dt : Nat) (n : Nat) (c : DioCfg), s.advance dt = a → dioCfg a.img n = some c → a.fieldRuns = true → a.dioFaulted n = false → a.dioNoSupply n = false →
    c.kind ≠ 0 → (a.dio n).drv = true →
    exec (.dioOverload dt n) s = .next (finish (State.raiseScope 12 (some n) (fun s => s.record 0x0C01 n 0 (leBytes 1 1))
      (a.modDio n fun x => { x with cond := 1 })))) ∧
  (∀ (s a : State) (dt : Nat) (n : Nat) (c : DioCfg), s.advance dt = a → dioCfg a.img n = some c → a.fieldRuns = true → a.dioFaulted n = false → a.dioNoSupply n = false →
    c.kind ≠ 0 →
    exec (.dioMismatch dt n) s = .next (finish (State.raiseScope 12 (some n) (fun s => s.record 0x0C01 n 0 (leBytes 1 2))
      (a.modDio n fun x => { x with cond := 2 })))) ∧
  (∀ (s a : State) (dt : Nat) (n : Nat) (c : DioCfg), s.advance dt = a → dioCfg a.img n = some c → a.fieldRuns = true → a.dioFaulted n = false → a.dioNoSupply n = false →
    c.kind ≠ 0 → c.oldet = true → (a.dio n).drv = true →
    exec (.dioOpenload dt n) s = .next (finish (State.raiseScope 12 (some n) (fun s => s.record 0x0C01 n 0 (leBytes 1 3))
      (a.modDio n fun x => { x with cond := 3 }))))

/-- An integrated channel becomes ERROR_ACTIVE; at the end of intermission it sends its frame that wins; an attempt that
is sent, lost, unacknowledged or a clash leaves its buffer and the counters as the rules give; BUS_OFF ends after its
hold with both counters zero; a receive error raises REC. The steps of the error counters come from ISO 11898-1, log
83. (R393, R396, R397, R399, R400, R402) -/
def Obligations.CanChannelsRun : Prop :=
  (∀ (s a : State) (dt n : Nat), s.advance dt = a → a.canRuns n = true → (a.can1 n).st = 1 →
    exec (.canIntegrated dt n) s = .next (finish (a.modCan n fun c => { c with st := 2 }))) ∧
  (∀ (s a : State) (dt n : Nat) (q : QFrame) (g : CanCfg), s.advance dt = a → a.canRuns n = true → a.mode = .active → canCfg a.img n = some g → g.listen = false →
    (a.can1 n).active = none → (a.can1 n).st ∈ [2, 3, 4] → (a.can1 n).offers = [(frameKey q.frame, .queue q, q.frame)] →
    exec (.canArbitration dt n) s = .next (finish (State.emit (.canSof n { q.frame with esi := q.frame.fdf && decide (127 < (a.can1 n).tec ∨ 127 < (a.can1 n).recv) }) (a.modCan n fun c => { c with
      active := some (.queue q), queue := dropFirst (fun x => decide (x = q)) c.queue })))) ∧
  (∀ (s a : State) (dt n : Nat) (i t : Nat) (g : CanCfg) (c : CanSt) (b : TxBuf), s.advance dt = a → a.canRuns n = true → findKey (·.n) n a.can = some c → a.can1 n = c → canCfg a.img n = some g →
    c.active = some (.buf i) → c.bufs[i]? = some b → c.st = 2 → c.tec ≤ 127 → c.recv ≤ 127 →
    ∃ u d, exec (.canTxAttemptEnd dt n .sent 0 t) s = .next (finish u) ∧ findKey (·.n) n u.can = some d ∧ d.active = none ∧
      d.bufs[i]? = some { b with st := .sent, cancel := false, clash := 0 } ∧ d.tec = c.tec - 1 ∧ d.ackCons = 0 ∧ d.st = 2 ∧ u.slots = a.slots ∧ u.log = a.log) ∧
  (∀ (s a : State) (dt n : Nat) (i t : Nat) (g : CanCfg) (c : CanSt) (b : TxBuf), s.advance dt = a → a.canRuns n = true → findKey (·.n) n a.can = some c → a.can1 n = c → canCfg a.img n = some g →
    c.active = some (.buf i) → c.bufs[i]? = some b → b.cancel = false → c.st = 2 → c.tec ≤ 127 → c.recv ≤ 127 →
    ∃ u d, exec (.canTxAttemptEnd dt n .lostArbitration 0 t) s = .next (finish u) ∧ findKey (·.n) n u.can = some d ∧ d.active = none ∧
      d.bufs[i]? = some { b with st := .pending, clash := 0 } ∧ d.tec = c.tec ∧ d.st = 2 ∧ u.slots = a.slots ∧ u.log = a.log) ∧
  (∀ (s a : State) (dt n : Nat) (i t : Nat) (g : CanCfg) (c : CanSt) (b : TxBuf), s.advance dt = a → a.canRuns n = true → findKey (·.n) n a.can = some c → a.can1 n = c → canCfg a.img n = some g →
    c.active = some (.buf i) → c.bufs[i]? = some b → b.clash = 2 → c.st = 2 → c.tec ≤ 119 → c.recv ≤ 127 →
    ∃ u d, exec (.canTxAttemptEnd dt n .clash 0 t) s = .next (finish u) ∧ findKey (·.n) n u.can = some d ∧ d.active = none ∧
      d.bufs[i]? = some { b with st := .clash, cancel := false, clash := 0 } ∧ d.tec = c.tec + 8 ∧ d.clashes = satInc 0x7FFF c.clashes ∧ d.st = 2 ∧
      clashKey b.frame ∈ d.clashRec ∧ u.slots = a.slots) ∧
  (∀ (s a : State) (dt n : Nat) (g : CanCfg), s.advance dt = a → a.canRuns n = true → canCfg a.img n = some g → (a.can1 n).st = 5 → (a.can1 n).busoffAt + 400000 * g.busoffHold ≤ a.clock →
    exec (.canBusoffRecovered dt n) s = .next (finish (State.record 0x0903 n 0 [] (a.modCan n fun c => { c with
      st := 2, tec := 0, recv := 0, ackCons := 0 })))) ∧
  (∀ (s a : State) (dt n : Nat) (k : Nat) (c : CanSt) (p : Bool), s.advance dt = a → a.canRuns n = true → findKey (·.n) n a.can = some c → a.can1 n = c → c.st = 2 → c.tec ≤ 127 →
    c.recv + 8 * k ≤ 118 → ∃ u d, exec (.canReceiveError dt n p k) s = .next (finish u) ∧ findKey (·.n) n u.can = some d ∧
      d = { c with recv := c.recv + (if p then 9 else 1) + 8 * k } ∧ u.slots = a.slots ∧ u.log = a.log)

/-- A frame that the first matching filter sends to a FIFO with room enters it with the next sequence number, and one that
no filter takes enters none; a well-formed remote-I/O input frame of the latest SYNC, and an output frame at a
STATION, write a station's mapped input with its quality and make its link OK; a SYNC at a STATION queues the answer
of its mapped data; a master silent for SYNC_TIMEOUT is lost, and HOLD later a mapped input takes its substitute. The
first SEQ of a FIFO and what a station with nothing mapped answers are the model's readings, logs 102 and 103. (R167,
R168, R169, R171, R172, R405, R406, R407, R410, R411, R412, R413) -/
def Obligations.CanFramesArrive : Prop :=
  (∀ (s a : State) (dt n : Nat) (f : CanFrame) (g : CanCfg) (c : CanSt) (x : CanFilter) (k : Nat), s.advance dt = a → a.canRuns n = true → findKey (·.n) n a.can = some c → a.can1 n = c → c.st ∈ [2, 3, 4] → c.tec ≤ 255 → canCfg a.img n = some g → (g.role = 0 ∨ f.ide = true ∨ f.fdf = false ∨ f.rtr = true ∨ f.ident < g.idBase ∨ g.idBase + 0x200 ≤ f.ident) → uslIdent a.img n f = false →
    g.filters.findIdx? (filterHits f) = some k → g.filters[k]? = some x → x.dest = 0 → c.fifo0.length < 16 →
    ∃ u d, exec (.canFrameReceived dt n f) s = .next (finish u) ∧ findKey (·.n) n u.can = some d ∧
      d.fifo0 = c.fifo0 ++ [{ frame := f, filter := k, tick := a.tick, seqn := (c.seq0 + 1) % 256 }] ∧ d.fifo1 = c.fifo1 ∧ d.ackCons = 0 ∧ u.slots = a.slots) ∧
  (∀ (s a : State) (dt n : Nat) (f : CanFrame) (g : CanCfg) (c : CanSt) (x : CanFilter) (k : Nat), s.advance dt = a → a.canRuns n = true → findKey (·.n) n a.can = some c → a.can1 n = c → c.st ∈ [2, 3, 4] → c.tec ≤ 255 → canCfg a.img n = some g → (g.role = 0 ∨ f.ide = true ∨ f.fdf = false ∨ f.rtr = true ∨ f.ident < g.idBase ∨ g.idBase + 0x200 ≤ f.ident) → uslIdent a.img n f = false →
    g.filters.findIdx? (filterHits f) = some k → g.filters[k]? = some x → x.dest = 1 → c.fifo1.length < 16 →
    ∃ u d, exec (.canFrameReceived dt n f) s = .next (finish u) ∧ findKey (·.n) n u.can = some d ∧
      d.fifo1 = c.fifo1 ++ [{ frame := f, filter := k, tick := a.tick, seqn := (c.seq1 + 1) % 256 }] ∧ d.fifo0 = c.fifo0 ∧ d.ackCons = 0 ∧ u.slots = a.slots) ∧
  (∀ (s a : State) (dt n : Nat) (f : CanFrame) (g : CanCfg) (c : CanSt), s.advance dt = a → a.canRuns n = true → findKey (·.n) n a.can = some c → a.can1 n = c → c.st ∈ [2, 3, 4] → c.tec ≤ 255 → canCfg a.img n = some g → (g.role = 0 ∨ f.ide = true ∨ f.fdf = false ∨ f.rtr = true ∨ f.ident < g.idBase ∨ g.idBase + 0x200 ≤ f.ident) → uslIdent a.img n f = false →
    g.filters.findIdx? (filterHits f) = none →
    ∃ u d, exec (.canFrameReceived dt n f) s = .next (finish u) ∧ findKey (·.n) n u.can = some d ∧ d.fifo0 = c.fifo0 ∧ d.fifo1 = c.fifo1 ∧
      d.ackCons = 0 ∧ u.slots = a.slots) ∧
  (∀ (s a : State) (dt n : Nat) (f : CanFrame) (g : CanCfg) (c : CanSt) (t : StationCfg) (x : StationSt) (m : RioMap), s.advance dt = a → n < 4 → a.rioRuns n = true → a.canRuns n = true → findKey (·.n) n a.can = some c → a.can1 n = c → c.st ∈ [2, 3, 4] → c.tec ≤ 255 → canCfg a.img n = some g → g.role = 1 → g.stations = [t] → t.addr < 128 →
    a.station n t.addr = some x → x.addr = t.addr → x.seen = false → c.syncH = some (getN f.data 0 2) → f.ide = false → f.fdf = true → f.rtr = false → 
    f.ident = g.idBase + 0x180 + t.addr → rioBadLen f t.rxLen = false → t.maps = [m] → m.tx = false → m.ref.slot < 65536 →
    ∃ u y, exec (.canRioInputFrame dt n f) s = .next (finish u) ∧ u.station n t.addr = some y ∧ y.addr = x.addr ∧ y.link = 3 ∧ y.missed = 0 ∧ y.undel = 0 ∧ y.stale = none ∧ y.subst = false ∧ y.seen = true ∧
      u.ownSlot m.ref.slot = (m.ref.put (a.ownSlot m.ref.slot).1 (mapField (leNat (f.data.drop 4)) m), qOfState (getN f.data 3 1))) ∧
  (∀ (s a : State) (dt n : Nat) (f : CanFrame) (g : CanCfg) (c : CanSt) (t : StationCfg) (x : StationSt), s.advance dt = a → n < 4 → a.rioRuns n = true → a.canRuns n = true → findKey (·.n) n a.can = some c → a.can1 n = c → c.st ∈ [2, 3, 4] → c.tec ≤ 255 → canCfg a.img n = some g → g.role = 1 → g.stations = [t] → t.addr < 128 →
    a.station n t.addr = some x → x.addr = t.addr → (x.seen = true ∨ c.syncH ≠ some (getN f.data 0 2) ∨ rioBadLen f t.rxLen = true) → f.ide = false → f.fdf = true → f.rtr = false → 
    f.ident = g.idBase + 0x180 + t.addr →
    ∃ u d, exec (.canRioInputFrame dt n f) s = .next (finish u) ∧ findKey (·.n) n u.can = some d ∧ d.stations = c.stations ∧
      d.rioerr = satInc 0x7FFF c.rioerr ∧ u.slots = a.slots) ∧
  (∀ (s a : State) (dt n : Nat) (f : CanFrame) (g : CanCfg) (c : CanSt) (t : StationCfg) (x : StationSt), s.advance dt = a → n < 4 → a.rioRuns n = true → a.canRuns n = true → findKey (·.n) n a.can = some c → a.can1 n = c → c.st ∈ [2, 3, 4] → c.tec ≤ 255 → canCfg a.img n = some g → g.role = 2 → g.stations = [t] → a.station n t.addr = some x → x.addr = t.addr →
    x.link ≠ 1 → (c.syncH = none ∨ x.seen = true) → f.ide = false → f.fdf = true → f.rtr = false → f.ident = g.idBase →
    ∃ u d, exec (.canRioSyncReceived dt n f) s = .next (finish u) ∧ findKey (·.n) n u.can = some d ∧ d.syncH = some (getN f.data 0 2) ∧ d.syncAt = a.clock ∧
      d.queue = c.queue ++ [{ frame := rioFrame g 3 g.addr (getN f.data 0 2) t.txLen (a.txData t.maps).2 (a.txData t.maps).1, station := some t.addr }] ∧
      u.slots = a.slots) ∧
  (∀ (s a : State) (dt n : Nat) (f : CanFrame) (g : CanCfg) (c : CanSt) (t : StationCfg) (x : StationSt) (m : RioMap), s.advance dt = a → n < 4 → a.rioRuns n = true → a.canRuns n = true → findKey (·.n) n a.can = some c → a.can1 n = c → c.st ∈ [2, 3, 4] → c.tec ≤ 255 → canCfg a.img n = some g → g.role = 2 → g.stations = [t] → g.addr = t.addr → g.addr < 128 →
    a.station n t.addr = some x → x.addr = t.addr → f.ide = false → f.fdf = true → f.rtr = false → 
    f.ident = g.idBase + 0x100 + g.addr → rioBadLen f t.rxLen = false → t.maps = [m] → m.tx = false → m.ref.slot < 65536 →
    ∃ u y, exec (.canRioOutputReceived dt n f) s = .next (finish u) ∧ u.station n t.addr = some y ∧ y.addr = x.addr ∧ y.link = 3 ∧ y.missed = 0 ∧ y.undel = 0 ∧ y.stale = none ∧ y.subst = false ∧ y.seen = true ∧
      u.ownSlot m.ref.slot = (m.ref.put (a.ownSlot m.ref.slot).1 (mapField (leNat (f.data.drop 4)) m), qOfState (getN f.data 3 1))) ∧
  (∀ (s a : State) (dt n : Nat) (g : CanCfg) (c : CanSt) (t : StationCfg) (x : StationSt) (m : RioMap), s.advance dt = a → n < 4 → a.rioRuns n = true → a.can1 n = c → findKey (·.n) n a.can = some c →
    canCfg a.img n = some g → g.role = 2 → g.stations = [t] → c.stations = [x] → x.addr = t.addr → x.link ≠ 1 → t.maps = [m] → m.tx = false → m.ref.slot < 65536 →
    c.syncAt + g.lead < a.clock →
    ∃ u y, exec (.stationSyncTimeout dt n) s = .next (finish u) ∧ u.station n t.addr = some y ∧ y.link = 1 ∧ y.stale = x.stale.or (some a.clock) ∧
      u.ownSlot m.ref.slot = ((a.ownSlot m.ref.slot).1, staleQ (a.ownSlot m.ref.slot).2)) ∧
  (∀ (s a : State) (dt n : Nat) (g : CanCfg) (c : CanSt) (t : StationCfg) (x : StationSt) (h : Nat) (m : RioMap), s.advance dt = a → n < 4 → a.rioRuns n = true → a.can1 n = c →
    findKey (·.n) n a.can = some c → canCfg a.img n = some g → g.role = 2 → g.stations = [t] → c.stations = [x] → x.addr = t.addr → x.subst = false → x.stale = some h →
    h + t.hold < a.clock → t.maps = [m] → m.tx = false → m.ref.slot < 65536 →
    ∃ u y, exec (.stationHoldExpire dt n) s = .next (finish u) ∧ u.station n t.addr = some y ∧ y = { x with subst := true } ∧
      u.ownSlot m.ref.slot = (m.ref.put (a.ownSlot m.ref.slot).1 m.subst.toNat, substStaleQ m.substUncertain))

/-- A POP that the bus admits removes the head whose number it names from the FIFO of its master's window, and one that
names another number removes nothing and sets POPERR; a REQ of a buffer that is neither PENDING nor ACTIVE and whose
frame is sound, on a channel neither OFF nor BUS_OFF nor listening in an ACTIVE module, makes it PENDING; a CANCEL of
a PENDING buffer makes it CANCELLED, and of an ACTIVE one lets its attempt end without another. (R399, R403, R404,
R408) -/
def Obligations.CanRegistersCommand : Prop :=
  (∀ (s a : State) (dt n : Nat) (m : Master) (c : CanSt) (e : RxFrame) (r : List RxFrame), s.advance dt = a → n < 4 → a.Admits m (0x7060 + 0x400 * n) → a.can1 n = c → findKey (·.n) n a.can = some c →
    c.fifo0 = e :: r → (a.win m).canSel.getD n 0 = 0 → e.seqn < 256 →
    ∃ u d, exec (.canRxPop dt m n e.seqn) s = .next (finish u) ∧ findKey (·.n) n u.can = some d ∧ d.fifo0 = r ∧ d.fifo1 = c.fifo1 ∧ d.evt = c.evt ∧
      u.slots = a.slots ∧ u.mode = a.mode) ∧
  (∀ (s a : State) (dt n : Nat) (m : Master) (c : CanSt) (e : RxFrame) (r : List RxFrame), s.advance dt = a → n < 4 → a.Admits m (0x7060 + 0x400 * n) → a.can1 n = c → findKey (·.n) n a.can = some c →
    c.fifo1 = e :: r → (a.win m).canSel.getD n 0 = 1 → e.seqn < 256 →
    ∃ u d, exec (.canRxPop dt m n e.seqn) s = .next (finish u) ∧ findKey (·.n) n u.can = some d ∧ d.fifo1 = r ∧ d.fifo0 = c.fifo0 ∧ d.evt = c.evt ∧
      u.slots = a.slots ∧ u.mode = a.mode) ∧
  (∀ (s a : State) (dt n : Nat) (m : Master) (k : Nat) (c : CanSt) (e : RxFrame) (r : List RxFrame), s.advance dt = a → n < 4 → a.Admits m (0x7060 + 0x400 * n) → a.can1 n = c → findKey (·.n) n a.can = some c →
    c.fifo0 = e :: r → (a.win m).canSel.getD n 0 = 0 → k < 256 → k ≠ e.seqn →
    ∃ u d, exec (.canRxPop dt m n k) s = .next (finish u) ∧ findKey (·.n) n u.can = some d ∧ d.fifo0 = c.fifo0 ∧ d.evt = c.evt ||| 512#11 ∧
      u.slots = a.slots) ∧
  (∀ (s a : State) (dt n : Nat) (m : Master) (i : Nat) (c : CanSt) (g : CanCfg) (b : TxBuf), s.advance dt = a → n < 4 → a.Admits m (0x710C + 0x400 * n) → a.can1 n = c → findKey (·.n) n a.can = some c →
    canCfg a.img n = some g → g.listen = false → (a.win m).canTx.getD n 0 = i → c.bufs[i]? = some b → b.st ≠ .pending → b.st ≠ .active → a.mode = .active →
    c.st ≠ 0 → c.st ≠ 5 → (b.brs = true → b.fdf = true) → (b.rtr = true → b.fdf = false) → (b.fdf = false → b.dlc ≤ 8) → (b.ide = false → b.ident < 2048) →
    ∃ u d, exec (.canTxReq dt m n) s = .next (finish u) ∧ findKey (·.n) n u.can = some d ∧
      d.bufs[i]? = some { b with st := .pending, attempts := 0, clash := 0, cancel := false } ∧ d.evt = c.evt ∧ u.slots = a.slots) ∧
  (∀ (s a : State) (dt n : Nat) (m : Master) (i : Nat) (c : CanSt) (b : TxBuf), s.advance dt = a → n < 4 → a.Admits m (0x710C + 0x400 * n) → a.can1 n = c → findKey (·.n) n a.can = some c →
    (a.win m).canTx.getD n 0 = i → c.bufs[i]? = some b → (b.st = .pending ∨ b.st = .active) →
    ∃ u d, exec (.canTxCancel dt m n) s = .next (finish u) ∧ findKey (·.n) n u.can = some d ∧
      d.bufs[i]? = some (if b.st = .pending then { b with st := .cancelled } else { b with cancel := true }) ∧ u.slots = a.slots)

/-- An enabled port takes its link at the speed that both sides advertise; a PRP node sends its supervision frame every 2
s on both LANs and discards a copy of a frame; ARP and ICMP requests for an own address are answered; a due SYNC goes
to each station of the master and onto its CAN channel; an input datagram of the latest SYNC and an output datagram at
a STATION write a station's mapped input with its quality and make its link OK; one of another harvest or length is
counted; a SYNC at a STATION is answered with the mapped data; a STOP loses the station. What a station with nothing
mapped answers is the model's reading, log 102. (R167, R171, R172, R422, R423, R424, R425, R438, R439, R440) -/
def Obligations.EthernetRuns : Prop :=
  (∀ (s a : State) (dt : Nat) (e2 : Bool) (v : Nat), s.advance dt = a → a.portsLive = true → a.portOn e2 = true → v < 3 → a.rioRuns 4 = false →
    exec (.ethLinkChange dt e2 v) s = .next (finish (if e2
      then { a with eth := { a.eth with e2link := decide (v ≠ 0), e2spd := min v (if a.img.eth.speed = 1 then 1 else 2) } }
      else { a with eth := { a.eth with e1link := decide (v ≠ 0), e1spd := min v (if a.img.eth.speed = 1 then 1 else 2) } }))) ∧
  (∀ (s a : State) (dt : Nat) (k : Nat), s.advance dt = a → a.portsLive = true → a.img.eth.prp = true → (a.eth.supAt = none ∨ ∃ t, a.eth.supAt = some t ∧ t + secTicks 2 ≤ a.clock) →
    k = (a.eth.rctSeq + 1) % 65536 →
    exec (.prpSupervisionSend dt) s = .next (finish { a with
      eth := { a.eth with supSeq := (a.eth.supSeq + 1) % 65536, supAt := some a.clock, rctSeq := k }, out := a.out ++ [.eth false (some k) (.supervision a.eth.supSeq)] ++ [.eth true (some k) (.supervision a.eth.supSeq)] })) ∧
  (∀ (s a : State) (dt : Nat) (rx : EthRx) (ip : W32), s.advance dt = a → a.portsLive = true → a.portOn rx.e2 = true → frameFits rx.seq.isSome 0 = true →
    (∀ k, a.img.eth.prp = true → rx.seq = some k → a.eth.prpSeen.any (PrpSeen.same rx.mac k a.clock) = false) → rx.seq = none → a.img.eth.prp = false → a.answers ip = true →
    exec (.arpRequest dt rx ip) s = .next (finish (a.emit (.eth (!a.img.eth.e1En) none (.arp ip))))) ∧
  (∀ (s a : State) (dt : Nat) (rx : EthRx) (ip : W32), s.advance dt = a → a.portsLive = true → a.portOn rx.e2 = true → frameFits rx.seq.isSome 0 = true →
    (∀ k, a.img.eth.prp = true → rx.seq = some k → a.eth.prpSeen.any (PrpSeen.same rx.mac k a.clock) = false) → rx.seq = none → a.img.eth.prp = false → a.answers ip = true →
    exec (.icmpEchoRequest dt rx ip) s = .next (finish (a.emit (.eth (!a.img.eth.e1En) none (.icmp ip))))) ∧
  (∀ (s a : State) (dt : Nat) (h : Nat), s.advance dt = a → a.syncDue 4 = some h → a.img.eth.prp = false → 
    ∃ u, exec (.syncSend dt 4) s = .next (finish u) ∧
      u.out = a.out ++ a.img.eth.stations.map (fun c => .eth (!a.img.eth.e1En) none (.udp c.ip 4961 (rioDatagram 0 0 (h % 65536) 0 3 0))) ∧
      u.eth.syncH = some (h % 65536) ∧ u.eth.syncAt = a.clock ∧ (∀ x ∈ u.eth.stations, x.seen = false) ∧ u.slots = a.slots) ∧
  (∀ (s a : State) (dt : Nat) (h n : Nat) (g : CanCfg) (c : CanSt), s.advance dt = a → n < 4 → a.syncDue n = some h → canCfg a.img n = some g → a.can1 n = c → findKey (·.n) n a.can = some c →
    a.canRuns n = true → c.st ∈ [1, 2, 3, 4] →
    ∃ u d, exec (.syncSend dt n) s = .next (finish u) ∧ findKey (·.n) n u.can = some d ∧ d.syncH = some (h % 65536) ∧
      d.queue = c.queue ++ [{ frame := rioFrame g 0 0 (h % 65536) 0 3 0, station := none }] ∧ u.slots = a.slots) ∧
  (∀ (s a : State) (dt : Nat) (rx : EthRx) (ds : List Byte) (t : StationCfg) (x : StationSt) (m : RioMap), s.advance dt = a → a.portsLive = true → a.portOn rx.e2 = true → frameFits rx.seq.isSome ds.length = true →
    (∀ k, a.img.eth.prp = true → rx.seq = some k → a.eth.prpSeen.any (PrpSeen.same rx.mac k a.clock) = false) → a.rioRuns 4 = true → a.img.eth.role = 1 → getN ds 0 1 = 3 → getN ds 1 1 = t.addr →
    a.img.eth.stations = [t] → a.eth.stations = [x] → x.addr = t.addr → x.seen = false → a.eth.syncH = some (getN ds 2 2) → getN ds 4 2 = t.rxLen → ds.length = 8 + t.rxLen → t.maps = [m] → m.tx = false → m.ref.slot < 65536 →
    ∃ u y, exec (.ethRioInputFrame dt rx t.ip ds) s = .next (finish u) ∧ u.eth.stations = [y] ∧ y.addr = x.addr ∧ y.link = 3 ∧ y.missed = 0 ∧ y.undel = 0 ∧ y.stale = none ∧ y.subst = false ∧ y.seen = true ∧ u.eth.rioerr = a.eth.rioerr ∧
      u.ownSlot m.ref.slot = (m.ref.put (a.ownSlot m.ref.slot).1 (mapField (leNat (ds.drop 8)) m), qOfState (getN ds 6 1))) ∧
  (∀ (s a : State) (dt : Nat) (rx : EthRx) (ds : List Byte) (t : StationCfg) (x : StationSt), s.advance dt = a → a.portsLive = true → a.portOn rx.e2 = true → frameFits rx.seq.isSome ds.length = true →
    (∀ k, a.img.eth.prp = true → rx.seq = some k → a.eth.prpSeen.any (PrpSeen.same rx.mac k a.clock) = false) → a.rioRuns 4 = true → a.img.eth.role = 1 → getN ds 0 1 = 3 → getN ds 1 1 = t.addr → a.img.eth.stations = [t] → a.eth.stations = [x] → x.addr = t.addr → 
    a.eth.syncH ≠ some (getN ds 2 2) →
    ∃ u, exec (.ethRioInputFrame dt rx t.ip ds) s = .next (finish u) ∧ u.eth.rioerr = satInc 0x7FFF a.eth.rioerr ∧ u.eth.latel = true ∧
      u.eth.stations = a.eth.stations ∧ u.slots = a.slots) ∧
  (∀ (s a : State) (dt : Nat) (rx : EthRx) (ds : List Byte) (t : StationCfg) (x : StationSt), s.advance dt = a → a.portsLive = true → a.portOn rx.e2 = true → frameFits rx.seq.isSome ds.length = true →
    (∀ k, a.img.eth.prp = true → rx.seq = some k → a.eth.prpSeen.any (PrpSeen.same rx.mac k a.clock) = false) → a.rioRuns 4 = true → a.img.eth.role = 2 → getN ds 0 1 = 0 → a.img.eth.stations = [t] → a.eth.stations = [x] → x.addr = t.addr → 
    x.link ≠ 1 → (a.eth.syncH = none ∨ x.seen = true) → a.img.eth.prp = false → 
    ∃ u, exec (.ethRioSyncReceived dt rx t.ip ds) s = .next (finish u) ∧ u.eth.syncH = some (getN ds 2 2) ∧ u.eth.syncAt = a.clock ∧ u.slots = a.slots ∧
      u.out = a.out ++ [.eth (!a.img.eth.e1En) none (.udp t.ip 4961 (rioDatagram 3 a.img.eth.addr (getN ds 2 2) t.txLen (a.txData t.maps).2 (a.txData t.maps).1))]) ∧
  (∀ (s a : State) (dt : Nat) (rx : EthRx) (ds : List Byte) (t : StationCfg) (x : StationSt) (m : RioMap), s.advance dt = a → a.portsLive = true → a.portOn rx.e2 = true → frameFits rx.seq.isSome ds.length = true →
    (∀ k, a.img.eth.prp = true → rx.seq = some k → a.eth.prpSeen.any (PrpSeen.same rx.mac k a.clock) = false) → a.rioRuns 4 = true → a.img.eth.role = 2 → getN ds 0 1 = 2 → getN ds 1 1 = a.img.eth.addr →
    a.img.eth.stations = [t] → a.eth.stations = [x] → x.addr = t.addr → getN ds 4 2 = t.rxLen → ds.length = 8 + t.rxLen → t.maps = [m] → m.tx = false → m.ref.slot < 65536 →
    ∃ u y, exec (.ethRioOutputReceived dt rx t.ip ds) s = .next (finish u) ∧ u.eth.stations = [y] ∧ y.addr = x.addr ∧ y.link = 3 ∧ y.missed = 0 ∧ y.undel = 0 ∧ y.stale = none ∧ y.subst = false ∧ y.seen = true ∧
      u.ownSlot m.ref.slot = (m.ref.put (a.ownSlot m.ref.slot).1 (mapField (leNat (ds.drop 8)) m), qOfState (getN ds 6 1))) ∧
  (∀ (s a : State) (dt : Nat) (rx : EthRx) (t : StationCfg) (x : StationSt) (m : RioMap), s.advance dt = a → a.portsLive = true → a.portOn rx.e2 = true → frameFits rx.seq.isSome 8 = true →
    (∀ k, a.img.eth.prp = true → rx.seq = some k → a.eth.prpSeen.any (PrpSeen.same rx.mac k a.clock) = false) → a.rioRuns 4 = true → a.img.eth.stations = [t] → a.eth.stations = [x] → x.addr = t.addr → x.link ≠ 1 →
    t.maps = [m] → m.tx = false → m.ref.slot < 65536 →
    ∃ u y, exec (.ethStopReceived dt rx t.ip t.addr) s = .next (finish u) ∧ u.eth.stations = [y] ∧
      y = { x with link := 1, stale := x.stale.or (some a.clock) } ∧
      u.ownSlot m.ref.slot = ((a.ownSlot m.ref.slot).1, staleQ (a.ownSlot m.ref.slot).2)) ∧
  (∀ (s a : State) (dt : Nat) (rx : EthRx) (ip : W32) (ds : List Byte) (k : Nat), s.advance dt = a → a.portsLive = true → a.portOn rx.e2 = true → frameFits true ds.length = true →
    a.img.eth.prp = true → rx.seq = some k → a.eth.prpSeen.any (PrpSeen.same rx.mac k a.clock) = true →
    ∃ u, exec (.ethRioInputFrame dt rx ip ds) s = .next (finish u) ∧ u.eth.stations = a.eth.stations ∧ u.eth.rioerr = a.eth.rioerr ∧ u.slots = a.slots)

/-- An Announce in the clock's domain on a port without a master makes its sender the port's master, and the port the one
in use if none had one; one from the port's master, or from a better one, takes its place and leaves the port in use;
three announce intervals without another forget it, a clock without any master going from LOCKED to HOLDOVER; a
measurement in FREERUN or HOLDOVER starts the servo, an offset beyond the limit steps system time, one above 10 µs
ends LOCKED, and the 16th small one locks with the servo's rate; FREERUN follows the real-time clock every second, and
LOCKED writes it every ten. That the first exchange is the servo's first measurement is the model's reading, log 101;
the comparison of masters is IEEE 1588's, log 122, and a stays at the first Sync, log 123. (R426, R427, R428, R429) -/
def Obligations.ClocksRun : Prop :=
  (∀ (s a : State) (dt : Nat) (e2 : Bool) (g : Announce), s.advance dt = a → a.ptpOn = true → a.portOn e2 = true → g.domain = a.img.eth.ptpDomain →
    g.udp = decide (a.img.eth.ptpTransport = 1) → a.eth.ptp.a1 = none → a.eth.ptp.a2 = none →
    exec (.ptpAnnounceReceived dt e2 g) s = .next (finish (a.modPtp fun p =>
      if e2 then { p with a2 := some (g, a.clock), port := true, gmid := g.gm } else { p with a1 := some (g, a.clock), port := false, gmid := g.gm }))) ∧
  (∀ (s a : State) (dt : Nat) (g : Announce) (t : Nat), s.advance dt = a → a.ptpOn = true → a.eth.ptp.st = 2 → a.eth.ptp.a1 = some (g, t) → a.eth.ptp.a2 = none → t + 3 * g.every < a.clock →
    ∃ u, exec (.ptpAnnounceTimeout dt false) s = .next (finish u) ∧ u.eth.ptp = { a.eth.ptp with a1 := none, st := 3, good := 0, lockL := true } ∧
      u.rate = a.rateInt ∧ u.rateInt = a.rateInt ∧ u.slots = a.slots) ∧
  (∀ (s a : State) (dt : Nat) (e2 : Bool) (g b : Announce) (t : Nat), s.advance dt = a → a.ptpOn = true → a.portOn e2 = true → g.domain = a.img.eth.ptpDomain →
    g.udp = decide (a.img.eth.ptpTransport = 1) → a.eth.ptp.best e2 = some (b, t) → (g.sender = b.sender ∨ announceBetter g b = true) → a.eth.ptp.hasMaster = true →
    ∃ u, exec (.ptpAnnounceReceived dt e2 g) s = .next (finish u) ∧ u.eth.ptp.best e2 = some (g, a.clock) ∧ u.eth.ptp.port = a.eth.ptp.port ∧
      u.eth.ptp.st = a.eth.ptp.st ∧ u.eth.ptp.gmid = (if a.eth.ptp.port = e2 then g.gm else a.eth.ptp.gmid) ∧ u.slots = a.slots) ∧
  (∀ (s a : State) (dt : Nat) (o th : Int) (d g : Nat), s.advance dt = a → th = (a.sysAt g : Int) - (o + (d : Int)) → a.ptpOn = true → a.eth.ptp.hasMaster = true → (a.eth.ptp.st = 0 ∨ a.eth.ptp.st = 3) →
    ∃ u, exec (.ptpOffsetMeasured dt o d g) s = .next (finish u) ∧ u.eth.ptp.st = 1 ∧ u.eth.ptp.theta = th ∧ u.eth.ptp.delay = min d 0xFFFFFFFF ∧
      u.eth.ptp.syncAt = some (a.clock - g) ∧ u.slots = a.slots) ∧
  (∀ (s a : State) (dt : Nat) (o th : Int) (d g : Nat), s.advance dt = a → th = (a.sysAt g : Int) - (o + (d : Int)) → a.ptpOn = true → a.eth.ptp.hasMaster = true → a.img.eth.stepNs < th.natAbs →
    ∃ u, exec (.ptpOffsetMeasured dt o d g) s = .next (finish u) ∧ (u.sysTime : Int) = ((a.sysTime : Int) - th * 4294967296) % 79228162514264337593543950336 ∧
      u.eth.ptp.theta = th ∧ u.eth.ptp.stepL = true ∧ u.rate = rateLimit a.rate ∧ u.slots = a.slots) ∧
  (∀ (s a : State) (dt : Nat) (o th : Int) (d g : Nat), s.advance dt = a → th = (a.sysAt g : Int) - (o + (d : Int)) → a.ptpOn = true → a.eth.ptp.hasMaster = true → a.eth.ptp.st = 2 → 10000 < th.natAbs →
    ∃ u, exec (.ptpOffsetMeasured dt o d g) s = .next (finish u) ∧ u.eth.ptp.st = 1 ∧ u.eth.ptp.lockL = true ∧ u.eth.ptp.theta = th ∧ u.slots = a.slots) ∧
  (∀ (s a : State) (dt : Nat) (o th : Int) (d g t : Nat) (ts : Rat), s.advance dt = a → th = (a.sysAt g : Int) - (o + (d : Int)) → a.eth.ptp.syncAt = some t →
    ts = ((a.clock - g - t : Nat) : Rat) * tickNs → 0 < ts → a.ptpOn = true → a.eth.ptp.hasMaster = true → a.eth.ptp.st = 1 → a.eth.ptp.good = 15 →
    th.natAbs ≤ a.img.eth.stepNs → th.natAbs ≤ 1000 →
    ∃ u, exec (.ptpOffsetMeasured dt o d g) s = .next (finish u) ∧ u.sysTime = a.sysTime ∧ u.eth.ptp.st = 2 ∧ u.eth.ptp.theta = th ∧
      u.rateInt = rateLimit (a.rateInt - (th : Rat) / (16 * ts)) ∧
      u.rate = rateLimit (a.rateInt - (th : Rat) / (16 * ts) - (th : Rat) / (2 * ts)) ∧ u.slots = a.slots) ∧
  (∀ (s a : State) (dt : Nat) (r : Nat), s.advance dt = a → a.eth.ptp.st = 0 → a.boot.rtcValid = true → a.power.phase = .operating → a.eth.ptp.discAt + secTicks 1 ≤ a.clock →
    ∃ u, exec (.rtcDiscipline dt r) s = .next (finish u) ∧ u.boot.rtc = (r : Rat) ∧ u.eth.ptp.discAt = a.clock ∧
      u.rate = rateLimit (((r : Rat) - a.sysNs) / 8000000000) ∧ u.sysTime = a.sysTime ∧ u.slots = a.slots) ∧
  (∀ (s a : State) (dt : Nat), s.advance dt = a → a.eth.ptp.st = 2 → a.power.phase = .operating → a.eth.ptp.wrAt + secTicks 10 ≤ a.clock →
    ∃ u, exec (.rtcWrite dt) s = .next (finish u) ∧ u.boot = { a.boot with rtc := ((a.ns : Nat) : Rat), rtcSet := true, rtcValid := true } ∧
      u.eth.ptp.wrAt = a.clock ∧ u.sysTime = a.sysTime ∧ u.slots = a.slots)

/-- A sink in RUN accepts a PDU that passes the tests, takes its sequence number, restarts its watchdog, writes its mapped
field, or its substitute where the PDU carries fail-safe values, and sends its ACK; the eighth such PDU in a row ends
PASSIVE where REINT is set; one whose check value fails is counted and writes nothing; a source accepts the ACK of a
PDU that it sent within WD; a watchdog that expires in RUN passivates the connection with its cause and puts a sink's
field to its substitute, and one that expires in PASSIVE clears its readiness. When a connection runs and what breaks
its run are the model's readings, log 104. (R424, R443, R444, R445, R446, R447) -/
def Obligations.SafetyLayerRuns : Prop :=
  (∀ (s a : State) (dt : Nat) (n : Nat) (c : UslCfg) (x : UslSt) (rx : Option EthRx) (p : List Byte) (m : RioMap), s.advance dt = a → (∀ r, rx = some r → a.portsLive = true ∧ a.portOn r.e2 = true ∧ frameFits r.seq.isSome p.length = true ∧
      ∀ k, a.img.eth.prp = true → r.seq = some k → a.eth.prpSeen.any (PrpSeen.same r.mac k a.clock) = false) →  uslCfg a.img n = some c → a.usl1 n = some x → a.uslRuns = true → c.sink = true → pduOk c.connId p = true → getN p 0 1 = 1 → getN p 2 1 = c.len → a.uslOld c (getN p 8 8) = false → x.st = 1 →
    getN p 4 4 ≠ 0 → (∀ l, x.lastSeq = some l → 1 ≤ seqDist l (getN p 4 4) ∧ seqDist l (getN p 4 4) ≤ c.seqwin) → c.maps = [m] → m.tx = false → m.ref.slot < 65536 → 
    ∃ u y, exec (.uslDataReceived dt rx n p) s = .next (finish u) ∧ u.usl1 n = some y ∧
      y = { x with lastSeq := some (getN p 4 4), wd := some (a.clock + c.wd), fsv := bit (getN p 1 1) 0 } ∧
      u.ownSlot m.ref.slot = (if bit (getN p 1 1) 0 then (m.ref.put (a.ownSlot m.ref.slot).1 m.subst.toNat, mkQ 0 true false false)
        else (m.ref.put (a.ownSlot m.ref.slot).1 (mapField (getN p 16 c.len) m), qGood))) ∧
  (∀ (s a : State) (dt : Nat) (n : Nat) (c : UslCfg) (x : UslSt) (rx : Option EthRx) (p : List Byte), s.advance dt = a → (∀ r, rx = some r → a.portsLive = true ∧ a.portOn r.e2 = true ∧ frameFits r.seq.isSome p.length = true ∧
      ∀ k, a.img.eth.prp = true → r.seq = some k → a.eth.prpSeen.any (PrpSeen.same r.mac k a.clock) = false) →  uslCfg a.img n = some c → a.usl1 n = some x → a.uslRuns = true → c.sink = true → pduOk c.connId p = true → getN p 0 1 = 1 → getN p 2 1 = c.len → a.uslOld c (getN p 8 8) = false → x.st = 1 →
    getN p 4 4 ≠ 0 → (∀ l, x.lastSeq = some l → 1 ≤ seqDist l (getN p 4 4) ∧ seqDist l (getN p 4 4) ≤ c.seqwin) → c.medium = 0 → a.img.eth.prp = false →
    ∃ u, exec (.uslDataReceived dt rx n p) s = .next (finish u) ∧
      u.out = a.out ++ [.eth (!a.img.eth.e1En) none (.udp c.peer 4962 (uslPdu c.connId 2 0 (getN p 4 4) a.txTime []))]) ∧
  (∀ (s a : State) (dt : Nat) (n : Nat) (c : UslCfg) (x : UslSt) (rx : Option EthRx) (p : List Byte), s.advance dt = a → (∀ r, rx = some r → a.portsLive = true ∧ a.portOn r.e2 = true ∧ frameFits r.seq.isSome p.length = true ∧
      ∀ k, a.img.eth.prp = true → r.seq = some k → a.eth.prpSeen.any (PrpSeen.same r.mac k a.clock) = false) →  uslCfg a.img n = some c → a.usl1 n = some x → a.uslRuns = true → c.sink = true → pduOk c.connId p = true → getN p 0 1 = 1 → getN p 2 1 = c.len → a.uslOld c (getN p 8 8) = false → c.conn = n → x.c = n → x.st = 2 → c.reint = true → x.good = 7 →
    ∃ u y, exec (.uslDataReceived dt rx n p) s = .next (finish u) ∧ u.usl1 n = some y ∧ y.st = 1 ∧ y.good = 0 ∧ y.reintRdy = false ∧
      y.wd = some (a.clock + c.wd)) ∧
  (∀ (s a : State) (dt : Nat) (n : Nat) (c : UslCfg) (x : UslSt) (rx : Option EthRx) (p : List Byte), s.advance dt = a → (∀ r, rx = some r → a.portsLive = true ∧ a.portOn r.e2 = true ∧ frameFits r.seq.isSome p.length = true ∧
      ∀ k, a.img.eth.prp = true → r.seq = some k → a.eth.prpSeen.any (PrpSeen.same r.mac k a.clock) = false) →  uslCfg a.img n = some c → a.usl1 n = some x → a.uslRuns = true → c.sink = true → pduOk c.connId p = false → x.lastCrc = none →
    ∃ u y, exec (.uslDataReceived dt rx n p) s = .next (finish u) ∧ u.usl1 n = some y ∧
      y = { x with crcErr := satInc 255 x.crcErr, lastCrc := some a.clock, good := 0 } ∧ u.slots = a.slots ∧ u.out = a.out) ∧
  (∀ (s a : State) (dt : Nat) (n : Nat) (c : UslCfg) (x : UslSt) (rx : Option EthRx) (p : List Byte) (t : Nat), s.advance dt = a → (∀ r, rx = some r → a.portsLive = true ∧ a.portOn r.e2 = true ∧ frameFits r.seq.isSome p.length = true ∧
      ∀ k, a.img.eth.prp = true → r.seq = some k → a.eth.prpSeen.any (PrpSeen.same r.mac k a.clock) = false) →  uslCfg a.img n = some c → a.usl1 n = some x → a.uslRuns = true → c.sink = false → c.conn = n → pduOk c.connId p = true → getN p 0 1 = 2 → getN p 2 1 = 0 →
    (getN p 4 4, t) ∈ x.sent → a.clock ≤ t + c.wd → (x.st = 0 ∨ x.st = 1) →
    ∃ u y, exec (.uslAckReceived dt rx n p) s = .next (finish u) ∧ u.usl1 n = some y ∧ y = { x with st := 1, wd := some (a.clock + c.wd) } ∧ u.slots = a.slots) ∧
  (∀ (s a : State) (dt : Nat) (n : Nat) (c : UslCfg) (x : UslSt) (t : Nat) (m : RioMap), s.advance dt = a → uslCfg a.img n = some c → a.usl1 n = some x → a.uslRuns = true → c.sink = true → c.conn = n → x.wd = some t → t < a.clock → x.st = 1 → c.maps = [m] → m.tx = false → m.ref.slot < 65536 → 
    ∃ u y, exec (.uslWatchdogExpire dt n) s = .next (finish u) ∧ u.usl1 n = some y ∧
      y = { x with wd := none, st := 2, cause := 1, passL := true, passives := satInc 127 x.passives, reintRdy := false, ackW := false, good := 0 } ∧
      u.ownSlot m.ref.slot = (m.ref.put (a.ownSlot m.ref.slot).1 m.subst.toNat, mkQ 0 true false false)) ∧
  (∀ (s a : State) (dt : Nat) (n : Nat) (c : UslCfg) (x : UslSt) (t : Nat), s.advance dt = a → uslCfg a.img n = some c → a.usl1 n = some x → a.uslRuns = true → c.sink = true → x.wd = some t → t < a.clock → x.st = 2 →
    exec (.uslWatchdogExpire dt n) s = .next (finish (a.modUsl n fun x => { x with wd := none, reintRdy := false, ackW := false, good := 0 }))) ∧
  (∀ (s a : State) (dt : Nat) (n : Nat) (c : UslCfg) (x : UslSt) (t : Nat) (m : RioMap), s.advance dt = a → uslCfg a.img n = some c → a.usl1 n = some x → a.uslRuns = true → c.sink = false → c.conn = n → x.wd = some t → t < a.clock → x.st ≠ 2 → c.maps = [m] → m.tx = true →
    ∃ u y, exec (.uslAckTimeout dt n) s = .next (finish u) ∧ u.usl1 n = some y ∧
      y = { x with wd := none, st := 2, cause := 3, passL := true, passives := satInc 127 x.passives, reintRdy := false, ackW := false, good := 0 } ∧ u.slots = a.slots)

/-- A channel whose conditions hold and whose rest is over energises both switches; a demand de-energises both; a test
pulse opens one switch, passes its check, ends with the other switch next, or is the fault SWITCH_NOT_OFF; a
measurement raises the fault that fits; a function test moves through its phases and stores its pass; a test falls
due, and the unlock and its lockout end. PULSES at the check, the overdue tick and TEST_DUE are the model's readings,
logs 105 and 106. (R454, R455, R457, R459, R460, R461, R462, R464, R465, R469) -/
def Obligations.BrakesRun : Prop :=
  (∀ (s a : State) (dt : Nat) (n : Nat) (c : BrakeCfg) (x : BrakeSt) (ok : Bool), s.advance dt = a → brakeCfg a.img n = some c → c.ch = n → a.so.chans[n]? = some x → x.st = .off → (a.setFsSq ok).brakeHolds c = true → x.lastOff = none →
    ∃ u, exec (.brakeOn dt n ok) s = .next (finish u) ∧ u.so.chans[n]? = some { x with
      st := .on, hs := true, ls := true, freewheel := false, nextAt := a.clock + halfPeriod c, pulse := none, passed := false,
      endAt := none, hsSince := a.clock, lsSince := a.clock } ∧ u.slots = a.slots) ∧
  (∀ (s a : State) (dt : Nat) (n : Nat) (c : BrakeCfg) (x : BrakeSt) (ok : Bool), s.advance dt = a → brakeCfg a.img n = some c → c.ch = n → a.so.chans[n]? = some x → x.st = .on → x.pulse = none → x.nextAt ≠ a.clock → x.endAt = none → (a.setFsSq ok).brakeHolds c = false →
    ∃ u, exec (.brakeDemand dt n ok) s = .next (finish u) ∧ u.so.chans[n]? = some { x with
      st := .off, hs := false, ls := false, freewheel := false, lastOff := some a.clock, passed := false, lowNext := false } ∧ u.slots = a.slots) ∧
  (∀ (s a : State) (dt : Nat) (n : Nat) (c : BrakeCfg) (x : BrakeSt), s.advance dt = a → brakeCfg a.img n = some c → c.ch = n → a.so.chans[n]? = some x → x.st = .on → x.pulse = none → x.nextAt ≤ a.clock →
    ∃ u, exec (.testPulseStart dt n) s = .next (finish u) ∧ u.so.chans[n]? = some { x with
      pulse := some a.clock, passed := false, freewheel := true, nextAt := a.clock + halfPeriod c, hs := x.lowNext, ls := !x.lowNext } ∧ u.slots = a.slots) ∧
  (∀ (s a : State) (dt : Nat) (n : Nat) (c : BrakeCfg) (x : BrakeSt) (t : Nat), s.advance dt = a → brakeCfg a.img n = some c → c.ch = n → a.so.chans[n]? = some x → x.st = .on → x.pulse = some t → x.passed = false → a.clock ≤ t + 20000 → x.lowNext = false →
    ∃ u, exec (.testPulseCheck dt n true) s = .next (finish u) ∧ u.so.chans[n]? = some { x with
      passed := true, pulses := satInc 0xFFFF x.pulses, hsSince := a.clock } ∧ u.slots = a.slots) ∧
  (∀ (s a : State) (dt : Nat) (n : Nat) (c : BrakeCfg) (x : BrakeSt) (t : Nat), s.advance dt = a → brakeCfg a.img n = some c → c.ch = n → a.so.chans[n]? = some x → x.st = .on → x.pulse = some t → x.passed = false → t + 20000 ≤ a.clock →
    ∃ u y, exec (.testPulseCheck dt n false) s = .next (finish u) ∧ u.so.chans[n]? = some y ∧ y.st = .faulted ∧ y.hs = false ∧ y.ls = false ∧ y.fcause = 1 ∧
      y.faultL = true ∧ y.aband = x.aband) ∧
  (∀ (s a : State) (dt : Nat) (n : Nat) (c : BrakeCfg) (x : BrakeSt) (t : Nat), s.advance dt = a → brakeCfg a.img n = some c → c.ch = n → a.so.chans[n]? = some x → x.st = .on → x.pulse = some t → x.passed = true → t + 400 * c.tpWidth ≤ a.clock →
    ∃ u, exec (.testPulseEnd dt n) s = .next (finish u) ∧ u.so.chans[n]? = some { x with
      pulse := none, passed := false, hs := true, ls := true, freewheel := false, lowNext := !x.lowNext, endAt := some a.clock } ∧ u.slots = a.slots) ∧
  (∀ (s a : State) (dt : Nat) (n : Nat) (c : BrakeCfg) (x : BrakeSt), s.advance dt = a → brakeCfg a.img n = some c → c.ch = n → a.so.chans[n]? = some x → x.st = .on → min x.hsSince x.lsSince + 2 * halfPeriod c + 20000 < a.clock →
    ∃ u y, exec (.testPulseOverdue dt n) s = .next (finish u) ∧ u.so.chans[n]? = some y ∧ y.st = .faulted ∧ y.hs = false ∧ y.ls = false ∧ y.fcause = 1 ∧ y.faultL = true) ∧
  (∀ (s a : State) (dt : Nat) (n : Nat) (c : BrakeCfg) (x : BrakeSt) (k i v w : Nat), s.advance dt = a → brakeCfg a.img n = some c → c.ch = n → a.so.chans[n]? = some x → x.st = .on → faultFits c { x with mA := min i 65535, vhs := min v 255, vls := min w 255 } k i = true →
    ∃ u y, exec (.brakeChannelFault dt n k i v w) s = .next (finish u) ∧ u.so.chans[n]? = some y ∧ y.st = .faulted ∧ y.hs = false ∧ y.ls = false ∧ y.fcause = k ∧
      y.mA = min i 65535 ∧ y.faultL = true) ∧
  (∀ (s a : State) (dt : Nat) (n : Nat) (c : BrakeCfg) (x : BrakeSt), s.advance dt = a → brakeCfg a.img n = some c → c.ch = n → a.so.chans[n]? = some x → x.st = .testing → x.phase = 1 → x.phaseAt + 8000000 ≤ a.clock →
    ∃ u, exec (.brakeTestPhaseEnd dt n true) s = .next (finish u) ∧ u.so.chans[n]? = some { x with
      phase := 2, phaseAt := a.clock, hs := false, ls := true } ∧ u.slots = a.slots) ∧
  (∀ (s a : State) (dt : Nat) (n : Nat) (c : BrakeCfg) (x : BrakeSt), s.advance dt = a → brakeCfg a.img n = some c → c.ch = n → a.so.chans[n]? = some x → x.st = .testing → x.phase = 2 → x.phaseAt + 8000000 ≤ a.clock →
    ∃ u, exec (.brakeTestPhaseEnd dt n true) s = .next (finish u) ∧ u.so.chans[n]? = some { x with
      phase := 3, phaseAt := a.clock, hs := false, ls := false } ∧ u.slots = a.slots) ∧
  (∀ (s a : State) (dt : Nat) (n : Nat) (c : BrakeCfg) (x : BrakeSt) (ok : Bool), s.advance dt = a → brakeCfg a.img n = some c → c.ch = n → a.so.chans[n]? = some x → x.st = .testing → x.phase = 3 → x.phaseAt + 40000000 * c.testHold ≤ a.clock → c.torqRef = none →
    ∃ u, exec (.brakeTestPhaseEnd dt n ok) s = .next (finish u) ∧ u.so.chans[n]? = some { x with
      st := .off, phase := 0, fromReq := false, hs := false, ls := false, freewheel := false, fcause := 0, testTime := a.ns,
      testAt := some a.clock, due := false } ∧ u.slots = a.slots) ∧
  (∀ (s a : State) (dt : Nat) (n : Nat) (c : BrakeCfg) (x : BrakeSt) (t : Nat), s.advance dt = a → brakeCfg a.img n = some c → c.ch = n → a.so.chans[n]? = some x → x.testAt = some t → x.due = false → t + 1440000000000 * c.testInterval < a.clock →
    ∃ u, exec (.testDue dt n) s = .next (finish u) ∧ u.so.chans[n]? = some { x with
      due := true } ∧ u.slots = a.slots) ∧
  (∀ (s a : State) (dt : Nat) (n t : Nat) (x : Session), s.advance dt = a → a.session n = some x → x.unlock = some t → t + 240000000000 < a.clock →
    ∃ u, exec (.safetyUnlockExpire dt n) s = .next (finish u) ∧ u.session n = some { x with unlock := none } ∧ u.so = a.so ∧ u.slots = a.slots) ∧
  (∀ (s a : State) (dt : Nat) (t : Nat), s.advance dt = a → a.so.pwdLock = some t → t + 120000000000 ≤ a.clock →
    exec (.safetyPwdLockoutEnd dt) s = .next (finish { a with so := { a.so with pwdLock := none, pwdFail := 0 } }))

/-- A step takes the command at the front of the queue and answers what exec answers for it on the state with the queue's
rest; on an empty queue the block idles (the model's choice, log 68). (00_scope) -/
def Obligations.StepRunsFront : Prop :=
  (∀ (s : State) (c : Instr) (r : List Instr), s.pending = c :: r → step s = exec c { s with pending := r }) ∧
  (∀ (s : State) (c : Instr), step (s.withFront c) = exec c s) ∧
  (∀ s : State, s.pending = [] → step s = .next s)

/-- The state after reset is sound: UNCONFIGURED, its tick counter 0, the process image empty, no force, no session,
nothing staged or sent, OWNER_N released, the sequence floor 0. The values that the spec does not give are the
model's, log 4. (R49, R79, R93, R111) -/
def Obligations.ResetIsSound : Prop :=
  State.reset.Sound ∧ State.reset.mode = .unconfigured ∧ State.reset.tick = 0 ∧ State.reset.slots = [] ∧ State.reset.forces = [] ∧
    State.reset.sessions = [] ∧ State.reset.pair.drive = false ∧ State.reset.store.floor = 0 ∧ State.reset.log.fifo = [] ∧ State.reset.out = [] ∧
    State.reset.store.image = none ∧ State.reset.pending = []

/-- Time adds to the clock and leaves the queue. Where no request waits, no deadline stands queued and no configuration
word fails its parity, it also adds to system time at the corrected rate, forgets what was sent, and leaves mode,
store, forces, sessions and every slot but the five of D7, whose position takes the module's place on the grid. A
command in the same tick lets no time pass. A deadline that falls in the tick of its command acts at the tick's end,
after everything else that commits in it. How a tick's share of system time is rounded is the model's reading, log 6;
deadlines act at their tick's end by log 93, and what was sent is kept for one step, log 109. (R16, R17, R45, R49,
R50, R239, R268) -/
def Obligations.TimeAdvances : Prop :=
  (∀ (s : State) (dt : Nat), s.Sound → (s.advance dt).clock = s.clock + dt ∧ (s.advance dt).pending = s.pending) ∧
  (∀ (s a : State) (dt : Nat), s.advance dt = a → s.waiting = [] → s.expiring = [] → s.bus.parity = [] → 0 < dt → a.sysTime = (s.sysTime + dt * sysStep s.rate) % 79228162514264337593543950336 ∧
    a.rate = s.rate ∧ a.tickOrigin = s.tickOrigin ∧ a.mode = s.mode ∧ a.store = s.store ∧ a.forces = s.forces ∧ a.sessions = s.sessions ∧
    a.panel = s.panel ∧ a.power = s.power ∧ a.pair = s.pair ∧ a.fld = s.fld ∧ a.can = s.can ∧ a.so = s.so ∧ a.out = []) ∧
  (∀ s : State, s.waiting = [] → s.advance 0 = { s with out := [] }) ∧
  (∀ (s : State) (dt j : Nat), s.Sound → s.waiting = [] → s.expiring = [] → s.bus.parity = [] → 0 < dt → (∀ b, (s.img.ms.doms.getD 7 {}).statBase = some b → j < b ∨ b + 4 < j) → (s.advance dt).ownSlot j = s.ownSlot j) ∧
  (∀ (s : State) (dt b : Nat), s.Sound → s.waiting = [] → s.expiring = [] → s.bus.parity = [] → 0 < dt → (s.img.ms.doms.getD 7 {}).statBase = some b → b + 4 < 65536 → (s.img.ms.doms.getD 7 {}).enable = true →
    s.mode = .active → s.ms.fault = false →
    (s.advance dt).ownSlot b = (BitVec.ofNat 32 (((s.clock + dt : Nat) - s.origin) % ((s.img.ms.doms.getD 7 {}).zero : Int)).toNat, domQ (s.dom 7).st)) ∧
  (∀ (s : State) (e : Expiry), s.expiring = [e] → s.runExpiring = finish (e.run { s with expiring := [] })) ∧
  (∀ (s a : State) (dt n : Nat) (m : Modem) (k : Master) (b : Bool), s.advance dt = a →
    (a.deadline (.windowEnd) = some a.clock → exec (.windowEnd dt) s = .next (finish { a with expiring := a.expiring ++ [.windowEnd] })) ∧
    (a.deadline (.olcDrain) = some a.clock → exec (.olcDrainLimit dt) s = .next (finish { a with expiring := a.expiring ++ [.olcDrain] })) ∧
    (a.deadline (.olcIdle) = some a.clock → exec (.olcPrepareTimeout dt) s = .next (finish { a with expiring := a.expiring ++ [.olcIdle] })) ∧
    (a.deadline (.partnerSilent) = some a.clock → exec (.partnerSilent dt) s = .next (finish { a with expiring := a.expiring ++ [.partnerSilent] })) ∧
    (a.deadline (.ownerStuck) = some a.clock → exec (.ownerStuck dt) s = .next (finish { a with expiring := a.expiring ++ [.ownerStuck] })) ∧
    (a.deadline (.selfElect) = some a.clock → exec (.pairSelfElect dt) s = .next (finish { a with expiring := a.expiring ++ [.selfElect] })) ∧
    (a.deadline (.refereeAbsent) = some a.clock → exec (.refereeAbsent dt) s = .next (finish { a with expiring := a.expiring ++ [.refereeAbsent] })) ∧
    (a.deadline (.ejectTimeout) = some a.clock → exec (.ejectTimeout dt) s = .next (finish { a with expiring := a.expiring ++ [.ejectTimeout] })) ∧
    (a.deadline (.loadTimeout) = some a.clock → exec (.loadTimeout dt) s = .next (finish { a with expiring := a.expiring ++ [.loadTimeout] })) ∧
    (a.deadline (.laneDown n) = some a.clock → exec (.laneDown dt n) s = .next (finish { a with expiring := a.expiring ++ [.laneDown n] })) ∧
    (a.deadline (.stationSync n) = some a.clock → exec (.stationSyncTimeout dt n) s = .next (finish { a with expiring := a.expiring ++ [.stationSync n] })) ∧
    (a.deadline (.stationHold n) = some a.clock → exec (.stationHoldExpire dt n) s = .next (finish { a with expiring := a.expiring ++ [.stationHold n] })) ∧
    (a.deadline (.hartStale n) = some a.clock → exec (.hartStale dt n) s = .next (finish { a with expiring := a.expiring ++ [.hartStale n] })) ∧
    (a.deadline (.aoFrame n) = some a.clock → exec (.aoFrameTimeout dt n) s = .next (finish { a with expiring := a.expiring ++ [.aoFrame n] })) ∧
    (a.deadline (.aoHold n) = some a.clock → exec (.aoHoldExpire dt n) s = .next (finish { a with expiring := a.expiring ++ [.aoHold n] })) ∧
    (a.deadline (.domain n) = some a.clock → exec (.domainTimeout dt n) s = .next (finish { a with expiring := a.expiring ++ [.domain n] })) ∧
    (a.deadline (.noFeedback n) = some a.clock → exec (.syncNoFeedback dt n) s = .next (finish { a with expiring := a.expiring ++ [.noFeedback n] })) ∧
    (a.deadline (.sessionIdle n) = some a.clock → exec (.sessionIdleTimeout dt n) s = .next (finish { a with expiring := a.expiring ++ [.sessionIdle n] })) ∧
    (a.deadline (.uslWatchdog n) = some a.clock → exec (.uslWatchdogExpire dt n) s = .next (finish { a with expiring := a.expiring ++ [.uslWatchdog n] })) ∧
    (a.deadline (.uslAck n) = some a.clock → exec (.uslAckTimeout dt n) s = .next (finish { a with expiring := a.expiring ++ [.uslAck n] })) ∧
    (a.deadline (.unlock n) = some a.clock → exec (.safetyUnlockExpire dt n) s = .next (finish { a with expiring := a.expiring ++ [.unlock n] })) ∧
    (a.deadline (.hartAttempt m) = some a.clock → exec (.hartAttemptTimeout dt m) s = .next (finish { a with expiring := a.expiring ++ [.hartAttempt m] })) ∧
    (a.deadline (.tollgate k) = some a.clock → exec (.tollgateExpire dt k) s = .next (finish { a with expiring := a.expiring ++ [.tollgate k] })) ∧
    (a.deadline (.announce b) = some a.clock → exec (.ptpAnnounceTimeout dt b) s = .next (finish { a with expiring := a.expiring ++ [.announce b] })))

/-- What every command ends with (milestones that are due, demands, status words, outputs and indicators) leaves time,
mode, power, start-up, stored images, the bus but for latches set in this tick and parity, sessions, forces, cycle,
Barn, solver, CAN, Ethernet, the safety layer, the pair but for its sense of OWNER_N, diagnosis and the queue as they
are, and the safety core's store. That demands are looked for and deadlines settled at the end of every command is the
model's reading, logs 93 and 105. (R45, R150, R253, R380, R454) -/
def Obligations.CommandEndKeeps : Prop :=
  ∀ s : State, finish s = { s with
    ms := (finish s).ms, loop := (finish s).loop, fld := (finish s).fld, slots := (finish s).slots, statLast := (finish s).statLast,
    bus := { s.bus with lat0 := (finish s).bus.lat0, parity := (finish s).bus.parity }, pair := { s.pair with highAt := (finish s).pair.highAt },
    log := (finish s).log, so := { s.so with chans := (finish s).so.chans }, panel := { s.panel with leds := (finish s).panel.leds } }

/-- From every sound state, whatever command stands at the front, a step's next state is sound: the process image and the
forces keep their canonical form, at most 256 slots are forced, OWNER_N is driven exactly while the module is ACTIVE,
at most eight sessions stand open and at most 64 records are staged. (R40, R431, R436, R480, R526) -/
def Obligations.EveryStepKeepsSound : Prop :=
  ∀ s t : State, s.Sound → step s = .next t → t.Sound

/-- On every sound state exec answers a next state for every command, with the queue untouched, and the clock never runs
back. (R16, R49) -/
def Obligations.EveryCommandCompletes : Prop :=
  ∀ (c : Instr) (s : State), s.Sound → ∃ t, exec c s = .next t ∧ t.pending = s.pending ∧ s.clock ≤ t.clock

/-- No command, carried out on a sound state, leaves a sequence floor below the one before it, unless it is OWNER_RELEASE
or lets a waiting OWNER_RELEASE (command code 11h) run. (R101, R111) -/
def Obligations.FloorNeverFalls : Prop :=
  ∀ (c : Instr) (s t : State), s.Sound → (∀ dt sid req p, c ≠ .ownerRelease dt sid req p) → (∀ dt sid req p, c ≠ .unknownCmd dt sid req 0x11 p) →
    (∀ r ∈ s.waiting, r.cmd ≠ 0x11) → exec c s = .next t → s.store.floor ≤ t.store.floor

/-- A write gives its slot its value and quality together and leaves every other slot and every force; a forced slot reads
as its force while its writer's value stands beneath; two images in canonical form that read alike are equal. (R11,
R12, R31, R40) -/
def Obligations.ProcessImage : Prop :=
  (∀ (s : State) (i j : Nat) (v : W32) (q : Byte), SlotMap.wf s.slots = true → i < 65536 →
    (s.writeSlot i v q).ownSlot j = (if j = i then (v, q) else s.ownSlot j) ∧ SlotMap.wf (s.writeSlot i v q).slots = true ∧
    (s.writeSlot i v q).forces = s.forces ∧ (s.writeSlot i v q).mode = s.mode ∧ (s.writeSlot i v q).store = s.store) ∧
  (∀ (s : State) (i : Nat) (v : W32) (q : Byte) (c : Cell), SlotMap.wf s.slots = true → i < 65536 → (i, c) ∈ s.forces → ascending s.forces = true →
    (s.writeSlot i v q).readSlot i = c ∧ (s.writeSlot i v q).ownSlot i = (v, q)) ∧
  (∀ (s : State) (i : Nat), (∀ c, (i, c) ∉ s.forces) → s.readSlot i = s.ownSlot i) ∧
  (∀ m n : SlotMap, SlotMap.wf m = true → SlotMap.wf n = true → (∀ i, SlotMap.get m i = SlotMap.get n i) → m = n)

/-- No read of a register, whoever makes it and whatever guards stand, answers GUARD. (R126) -/
def Obligations.ReadsAreNeverGuarded : Prop :=
  ∀ (s : State) (m : Master) (ad n : Nat), (s.read1 m ad n).1 ≠ 0x20

/-- A write that touches a field with PRV passes its guards from MGMT in every case, from SEQ in none, and from a session
only where its role is Owner or Engineer (its tollgate as R128 asks). (R127) -/
def Obligations.PrivilegedWrites : Prop :=
  (∀ (s : State) (r : RegRow) (ad k : Nat), s.guardOk .mgmt r ad k = true) ∧
  (∀ (s : State) (r : RegRow) (ad k : Nat), k &&& r.prv ≠ 0 → s.guardOk .seq r ad k = false) ∧
  (∀ (s : State) (sid : Nat) (r : RegRow) (ad k : Nat), k &&& r.prv ≠ 0 → (k &&& s.tgFields r ad = 0 ∨ (s.win (.host sid)).gateOpen s.clock = true) →
    (s.guardOk (.host sid) r ad k = true ↔ ∃ x, s.session sid = some x ∧ (x.role = .owner ∨ x.role = .engineer)))

/-- An access that is not OK while no flag of SYS_ACCERR stands is captured with its address, master and cause; while any
flag stands nothing is captured. (R139) -/
def Obligations.FirstBadAccessHeld : Prop :=
  (∀ (s : State) (m : Master) (c ad v : Nat), s.bus.accFlags = 0 → (s.accFault m c ad v).bus.firstAddr = ad % 65536 ∧
    (s.accFault m c ad v).bus.firstCause = c - 0x20 ∧ (s.accFault m c ad v).bus.firstMaster = m.code) ∧
  (∀ (s : State) (m : Master) (c ad v : Nat), s.bus.accFlags ≠ 0 → (s.accFault m c ad v).bus.firstAddr = s.bus.firstAddr ∧
    (s.accFault m c ad v).bus.firstCause = s.bus.firstCause ∧ (s.accFault m c ad v).bus.firstMaster = s.bus.firstMaster)

/-- The line read high for 1 ms beside a STANDBY member's ACTIVE partner, or by an ACTIVE member that drives it low,
records OWNER_MISMATCH with its event flag, as a warning, and leaves the module's state. (R482) -/
def Obligations.OwnerMismatchOnlyWarns : Prop :=
  (∀ (s a : State) (dt : Nat), s.advance dt = a → a.operating = true → a.mode = .standby → a.pstate = 2 →
    exec (.ownerMismatch dt) s = .next (finish (State.recordSev 1 0x0308 0 0 [] (a.pairEvt 0x10)))) ∧
  (∀ (s a : State) (dt : Nat), s.advance dt = a → a.operating = true → a.mode = .active → a.pair.drive = true →
    exec (.ownerMismatch dt) s = .next (finish (State.recordSev 1 0x0308 0 0 [] (a.pairEvt 0x10)))) ∧
  (∀ (s a : State) (dt : Nat), s.advance dt = a → ∃ t, exec (.ownerMismatch dt) s = .next t ∧ t.mode = a.mode ∧ t.pair.drive = a.pair.drive ∧ t.pair.takeover = a.pair.takeover)

/-- A pass-through is queued at a modem where none waits, a second one is refused BUSY, and the modem's next transaction
is the queued one. The payload's layout is the model's reading, log 112. (R368, R435) -/
def Obligations.PassThroughQueues : Prop :=
  (∀ (s a : State) (dt sid req : Nat) (p : List Byte) (x : Session) (y : ModemSt), s.advance dt = a → a.Asks sid req x →
    a.roleOk .engineer false x = true → 4 ≤ p.length → p.length ≤ 255 → getN p 0 1 ≤ 1 → getN p 2 1 ≤ 63 → a.committed = true →
    hartGiven a.img (getN p 0 1) (getN p 1 1) = true → a.modem (modemOf (getN p 0 1 = 1) (getN p 1 1)) = some y → y.queued = none →
    exec (.hartPass dt sid req p) s = .next (finish ((a.taken sid req 0x60).hartQueue y.modem
      { sid := sid, req := req, ch := getN p 1 1, addr := getN p 2 1, cmd := getN p 3 1, data := p.drop 4 }))) ∧
  (∀ (s a : State) (dt sid req : Nat) (p : List Byte) (x : Session) (y : ModemSt) (z : HartReq), s.advance dt = a → a.Asks sid req x →
    a.roleOk .engineer false x = true → 4 ≤ p.length → p.length ≤ 255 → getN p 0 1 ≤ 1 → getN p 2 1 ≤ 63 → a.committed = true →
    hartGiven a.img (getN p 0 1) (getN p 1 1) = true → a.modem (modemOf (getN p 0 1 = 1) (getN p 1 1)) = some y → y.queued = some z →
    exec (.hartPass dt sid req p) s = .next (finish ((a.taken sid req 0x60).answer sid req 0x10 []))) ∧
  (∀ (s a : State) (dt : Nat) (m : Modem) (y : ModemSt) (z : HartReq), s.advance dt = a → a.modem m = some y → a.fieldRuns = true → y.run = none → y.queued = some z →
    exec (.hartTransactionStart dt m) s = .next (finish (a.modModem m fun x => { x with
      run := some (z.addr, z.cmd, 1, a.clock), ch := z.ch, passRun := some z, queued := none })))

/-- Latching, running, missing and committing samples touch the loop contexts, the recorder and only the slots that the
context's OUT, STAT and PSP name; assembly, engine and hand-over touch the solver alone. (R29, R276, R278, R281, R307,
R316, R337) -/
def Obligations.LoopAndSolverFrames : Prop :=
  (∀ (s : State) (dt : Nat) (n : Nat), (s.advance dt).Sound →
    ∃ u, exec (.loopTimeTrigger dt n) s = .next (finish u) ∧ u = { s.advance dt with
      loop := u.loop, log := u.log, slots := u.slots, bus := u.bus } ∧
      ∀ j, (∀ c, loopCfg (s.advance dt).img n = some c → (∀ r, c.outBind = some r → r.covers j = false)) → u.ownSlot j = (s.advance dt).ownSlot j) ∧
  (∀ (s : State) (dt : Nat),
    ∃ u, exec (.loopSampleBegin dt) s = .next (finish u) ∧ u = { s.advance dt with
      loop := u.loop }) ∧
  (∀ (s : State) (dt : Nat) (n : Nat), (s.advance dt).Sound →
    ∃ u, exec (.loopSampleMissed dt n) s = .next (finish u) ∧ u = { s.advance dt with
      loop := u.loop, log := u.log, slots := u.slots, bus := u.bus } ∧
      ∀ j, (∀ c, loopCfg (s.advance dt).img n = some c → (∀ r, c.outBind = some r → r.covers j = false)) → u.ownSlot j = (s.advance dt).ownSlot j) ∧
  (∀ (s : State) (dt : Nat), (s.advance dt).Sound →
    ∃ u, exec (.loopSampleCommit dt true) s = .next (finish u) ∧ u = { s.advance dt with
      loop := u.loop, log := u.log, slots := u.slots, bus := u.bus } ∧
      ∀ j, (∀ n t l q c, (s.advance dt).loop.run = (n, t, l) :: q → loopCfg (s.advance dt).img n = some c →
        (∀ r, c.outBind = some r → r.covers j = false) ∧ (∀ r, c.statBind = some r → r.covers j = false) ∧ (∀ r, c.pspBind = some r → r.covers j = false)) → u.ownSlot j = (s.advance dt).ownSlot j) ∧
  (∀ (s : State) (dt : Nat),
    ∃ u, exec (.assemblyBegin dt) s = .next (finish u) ∧ u = { s.advance dt with
      slv := u.slv }) ∧
  (∀ (s : State) (dt : Nat),
    ∃ u, exec (.assemblyEnd dt) s = .next (finish u) ∧ u = { s.advance dt with
      slv := u.slv }) ∧
  (∀ (s : State) (dt : Nat),
    ∃ u, exec (.solveBegin dt) s = .next (finish u) ∧ u = { s.advance dt with
      slv := u.slv }) ∧
  (∀ (s : State) (dt : Nat) (k : Nat),
    ∃ u, exec (.solveHandover dt k) s = .next (finish u) ∧ u = { s.advance dt with
      slv := u.slv })

/-- Scans, conversions, frames, holds, measurements, accepted levels, supplies and HART transactions touch the field
channels (HART also its answer), and only the slots that their records name. (R29, R360, R361, R364, R366, R371, R372,
R373, R378, R379) -/
def Obligations.FieldFrames : Prop :=
  (∀ (s : State) (dt : Nat) (ok : Bool) (l : List (Nat × Int)), (s.advance dt).Sound →
    ∃ u, exec (.aiScan dt ok l) s = .next (finish u) ∧ u = { s.advance dt with
      fld := u.fld, slots := u.slots, bus := u.bus } ∧
      ∀ j, (∀ c ∈ (s.advance dt).img.fld.ai, (∀ r, c.valBind = some r → r.covers j = false) ∧ (∀ r, c.statBind = some r → r.covers j = false)) → u.ownSlot j = (s.advance dt).ownSlot j) ∧
  (∀ (s : State) (dt : Nat) (n : Nat) (ok : Bool) (v : Int), (s.advance dt).Sound →
    ∃ u, exec (.aiSampleCommit dt n ok v) s = .next (finish u) ∧ u = { s.advance dt with
      fld := u.fld, slots := u.slots, bus := u.bus } ∧
      ∀ j, (∀ c, aiCfg (s.advance dt).img n = some c → (∀ r, c.valBind = some r → r.covers j = false) ∧ (∀ r, c.statBind = some r → r.covers j = false)) → u.ownSlot j = (s.advance dt).ownSlot j) ∧
  (∀ (s : State) (dt : Nat) (m : Modem),
    ∃ u, exec (.hartTransactionStart dt m) s = .next (finish u) ∧ u = { s.advance dt with
      fld := u.fld }) ∧
  (∀ (s : State) (dt : Nat) (m : Modem) (e : Bool) (b : Byte) (v : List F32) (l : List Byte), (s.advance dt).Sound →
    ∃ u, exec (.hartResponse dt m e b v l) s = .next (finish u) ∧ u = { s.advance dt with
      fld := u.fld, slots := u.slots, out := u.out, sessions := u.sessions, bus := u.bus } ∧
      ∀ j, (∀ e ∈ (s.advance dt).img.fld.hart, e.ref.covers j = false) → u.ownSlot j = (s.advance dt).ownSlot j) ∧
  (∀ (s : State) (dt : Nat) (m : Modem),
    ∃ u, exec (.hartAttemptTimeout dt m) s = .next (finish u) ∧ u = { s.advance dt with
      fld := u.fld, out := u.out, sessions := u.sessions, freeCtr := u.freeCtr, bus := u.bus, expiring := u.expiring }) ∧
  (∀ (s : State) (dt : Nat) (k : Nat), (s.advance dt).Sound →
    ∃ u, exec (.hartStale dt k) s = .next (finish u) ∧ u = { s.advance dt with
      fld := u.fld, slots := u.slots, expiring := u.expiring } ∧
      ∀ j, (∀ e ∈ (s.advance dt).img.fld.hart, e.ref.covers j = false) → u.ownSlot j = (s.advance dt).ownSlot j) ∧
  (∀ (s : State) (dt : Nat) (n : Nat),
    ∃ u, exec (.aoFrame dt n) s = .next (finish u) ∧ u = { s.advance dt with
      fld := u.fld }) ∧
  (∀ (s : State) (dt : Nat) (n : Nat),
    ∃ u, exec (.aoFrameTimeout dt n) s = .next (finish u) ∧ u = { s.advance dt with
      fld := u.fld, expiring := u.expiring }) ∧
  (∀ (s : State) (dt : Nat) (n : Nat),
    ∃ u, exec (.aoHoldExpire dt n) s = .next (finish u) ∧ u = { s.advance dt with
      fld := u.fld, expiring := u.expiring }) ∧
  (∀ (s : State) (dt : Nat) (n : Nat),
    ∃ u, exec (.aoLoopPower dt n) s = .next (finish u) ∧ u = { s.advance dt with
      fld := u.fld }) ∧
  (∀ (s : State) (dt : Nat) (n i : Nat),
    ∃ u, exec (.aoClockStep dt n i) s = .next (finish u) ∧ u = { s.advance dt with
      fld := u.fld }) ∧
  (∀ (s : State) (dt : Nat) (n : Nat),
    ∃ u, exec (.aoComplianceClear dt n) s = .next (finish u) ∧ u = { s.advance dt with
      fld := u.fld }) ∧
  (∀ (s : State) (dt : Nat) (n i v : Nat),
    ∃ u, exec (.aoCompliance dt n i v) s = .next (finish u) ∧ u = { s.advance dt with
      fld := u.fld, log := u.log, bus := u.bus }) ∧
  (∀ (s : State) (dt : Nat) (n i v : Nat) (ok : Bool), (s.advance dt).Sound →
    ∃ u, exec (.aoMeasure dt n ok i v) s = .next (finish u) ∧ u = { s.advance dt with
      fld := u.fld, slots := u.slots } ∧
      ∀ j, (∀ c, aoCfg (s.advance dt).img n = some c → (∀ r, c.rbBind = some r → r.covers j = false) ∧ (∀ r, c.statBind = some r → r.covers j = false)) → u.ownSlot j = (s.advance dt).ownSlot j) ∧
  (∀ (s : State) (dt : Nat) (n ago : Nat) (v : Bool), (s.advance dt).Sound →
    ∃ u, exec (.dioInputAccept dt n v ago) s = .next (finish u) ∧ u = { s.advance dt with
      fld := u.fld, slots := u.slots } ∧
      ∀ j, (∀ c, dioCfg (s.advance dt).img n = some c → (∀ r, c.bind = some r → r.covers j = false)) → u.ownSlot j = (s.advance dt).ownSlot j) ∧
  (∀ (s : State) (dt : Nat) (b : Bool), (s.advance dt).Sound →
    ∃ u, exec (.dioSupplyLoss dt b) s = .next (finish u) ∧ u = { s.advance dt with
      fld := u.fld, slots := u.slots } ∧
      ∀ j, (∀ c ∈ (s.advance dt).img.fld.dio, (∀ r, c.bind = some r → r.covers j = false)) → u.ownSlot j = (s.advance dt).ownSlot j) ∧
  (∀ (s : State) (dt : Nat) (b : Bool), (s.advance dt).Sound →
    ∃ u, exec (.dioSupplyReturn dt b) s = .next (finish u) ∧ u = { s.advance dt with
      fld := u.fld, slots := u.slots } ∧
      ∀ j, (∀ c ∈ (s.advance dt).img.fld.dio, (∀ r, c.bind = some r → r.covers j = false)) → u.ownSlot j = (s.advance dt).ownSlot j)

/-- Frames, attempts, errors and timeouts of a network touch that network's own state, the recorder and what is sent, and
only the slots into which the stations or the connection concerned are mapped. (R29, R170, R171, R401, R405, R411,
R439, R441, R445, R446) -/
def Obligations.NetworkFrames : Prop :=
  (∀ (s : State) (dt : Nat) (n : Nat),
    ∃ u, exec (.canIntegrated dt n) s = .next (finish u) ∧ u = { s.advance dt with
      can := u.can }) ∧
  (∀ (s : State) (dt : Nat) (n : Nat),
    ∃ u, exec (.canArbitration dt n) s = .next (finish u) ∧ u = { s.advance dt with
      can := u.can, out := u.out }) ∧
  (∀ (s : State) (dt : Nat) (n : Nat),
    ∃ u, exec (.canBusoffRecovered dt n) s = .next (finish u) ∧ u = { s.advance dt with
      can := u.can, log := u.log }) ∧
  (∀ (s : State) (dt : Nat) (n k t : Nat) (r : TxEnd), (s.advance dt).Sound → n < 4 →
    ∃ u, exec (.canTxAttemptEnd dt n r k t) s = .next (finish u) ∧ u = { s.advance dt with
      can := u.can, log := u.log, slots := u.slots, bus := u.bus } ∧
      ∀ j, (∀ c ∈ rioCfgs (s.advance dt).img n, j ∉ rxSlots c.maps) → u.ownSlot j = (s.advance dt).ownSlot j) ∧
  (∀ (s : State) (dt : Nat) (n k : Nat) (p : Bool), (s.advance dt).Sound → n < 4 →
    ∃ u, exec (.canReceiveError dt n p k) s = .next (finish u) ∧ u = { s.advance dt with
      can := u.can, log := u.log, slots := u.slots, bus := u.bus } ∧
      ∀ j, (∀ c ∈ rioCfgs (s.advance dt).img n, j ∉ rxSlots c.maps) → u.ownSlot j = (s.advance dt).ownSlot j) ∧
  (∀ (s : State) (dt : Nat) (n : Nat) (f : CanFrame), (s.advance dt).Sound → n < 4 →
    ∃ u, exec (.canFrameReceived dt n f) s = .next (finish u) ∧ u = { s.advance dt with
      can := u.can, log := u.log, slots := u.slots, freeCtr := u.freeCtr, bus := u.bus } ∧
      ∀ j, (∀ c ∈ rioCfgs (s.advance dt).img n, j ∉ rxSlots c.maps) → u.ownSlot j = (s.advance dt).ownSlot j) ∧
  (∀ (s : State) (dt : Nat) (n : Nat) (f : CanFrame), (s.advance dt).Sound → n < 4 →
    ∃ u, exec (.canRioInputFrame dt n f) s = .next (finish u) ∧ u = { s.advance dt with
      can := u.can, log := u.log, slots := u.slots, freeCtr := u.freeCtr, bus := u.bus } ∧
      ∀ j, (∀ c ∈ rioCfgs (s.advance dt).img n, j ∉ rxSlots c.maps) → u.ownSlot j = (s.advance dt).ownSlot j) ∧
  (∀ (s : State) (dt : Nat) (n : Nat) (f : CanFrame), (s.advance dt).Sound → n < 4 →
    ∃ u, exec (.canRioSyncReceived dt n f) s = .next (finish u) ∧ u = { s.advance dt with
      can := u.can, log := u.log, slots := u.slots, freeCtr := u.freeCtr, bus := u.bus } ∧
      ∀ j, (∀ c ∈ rioCfgs (s.advance dt).img n, j ∉ rxSlots c.maps) → u.ownSlot j = (s.advance dt).ownSlot j) ∧
  (∀ (s : State) (dt : Nat) (n : Nat) (f : CanFrame), (s.advance dt).Sound → n < 4 →
    ∃ u, exec (.canRioOutputReceived dt n f) s = .next (finish u) ∧ u = { s.advance dt with
      can := u.can, log := u.log, slots := u.slots, freeCtr := u.freeCtr, bus := u.bus } ∧
      ∀ j, (∀ c ∈ rioCfgs (s.advance dt).img n, j ∉ rxSlots c.maps) → u.ownSlot j = (s.advance dt).ownSlot j) ∧
  (∀ (s : State) (dt : Nat) (n : Nat), (s.advance dt).Sound →
    ∃ u, exec (.stationSyncTimeout dt n) s = .next (finish u) ∧ u = { s.advance dt with
      can := u.can, eth := u.eth, log := u.log, slots := u.slots, expiring := u.expiring } ∧
      ∀ j, (∀ c ∈ rioCfgs (s.advance dt).img n, j ∉ rxSlots c.maps) → u.ownSlot j = (s.advance dt).ownSlot j) ∧
  (∀ (s : State) (dt : Nat) (n : Nat), (s.advance dt).Sound →
    ∃ u, exec (.stationHoldExpire dt n) s = .next (finish u) ∧ u = { s.advance dt with
      can := u.can, eth := u.eth, log := u.log, slots := u.slots, expiring := u.expiring } ∧
      ∀ j, (∀ c ∈ rioCfgs (s.advance dt).img n, j ∉ rxSlots c.maps) → u.ownSlot j = (s.advance dt).ownSlot j) ∧
  (∀ (s : State) (dt : Nat) (e : Bool) (v : Nat), (s.advance dt).Sound →
    ∃ u, exec (.ethLinkChange dt e v) s = .next (finish u) ∧ u = { s.advance dt with
      can := u.can, eth := u.eth, log := u.log, slots := u.slots } ∧
      ∀ j, (∀ c ∈ rioCfgs (s.advance dt).img 4, j ∉ rxSlots c.maps) → u.ownSlot j = (s.advance dt).ownSlot j) ∧
  (∀ (s : State) (dt : Nat) (rx : EthRx) (ip : W32) (l : List Byte), (s.advance dt).Sound →
    ∃ u, exec (.ethRioInputFrame dt rx ip l) s = .next (finish u) ∧ u = { s.advance dt with
      eth := u.eth, log := u.log, slots := u.slots, bus := u.bus } ∧
      ∀ j, (∀ c ∈ rioCfgs (s.advance dt).img 4, j ∉ rxSlots c.maps) → u.ownSlot j = (s.advance dt).ownSlot j) ∧
  (∀ (s : State) (dt : Nat) (rx : EthRx) (ip : W32) (l : List Byte), (s.advance dt).Sound →
    ∃ u, exec (.ethRioSyncReceived dt rx ip l) s = .next (finish u) ∧ u = { s.advance dt with
      can := u.can, eth := u.eth, log := u.log, slots := u.slots, out := u.out } ∧
      ∀ j, (∀ c ∈ rioCfgs (s.advance dt).img 4, j ∉ rxSlots c.maps) → u.ownSlot j = (s.advance dt).ownSlot j) ∧
  (∀ (s : State) (dt : Nat) (rx : EthRx) (ip : W32) (l : List Byte), (s.advance dt).Sound →
    ∃ u, exec (.ethRioOutputReceived dt rx ip l) s = .next (finish u) ∧ u = { s.advance dt with
      eth := u.eth, log := u.log, slots := u.slots, bus := u.bus } ∧
      ∀ j, (∀ c ∈ rioCfgs (s.advance dt).img 4, j ∉ rxSlots c.maps) → u.ownSlot j = (s.advance dt).ownSlot j) ∧
  (∀ (s : State) (dt : Nat) (rx : EthRx) (ip : W32) (k : Nat), (s.advance dt).Sound →
    ∃ u, exec (.ethStopReceived dt rx ip k) s = .next (finish u) ∧ u = { s.advance dt with
      can := u.can, eth := u.eth, log := u.log, slots := u.slots } ∧
      ∀ j, (∀ c ∈ rioCfgs (s.advance dt).img 4, j ∉ rxSlots c.maps) → u.ownSlot j = (s.advance dt).ownSlot j) ∧
  (∀ (s : State) (dt : Nat) (rx : Option EthRx) (n : Nat) (l : List Byte), (s.advance dt).Sound →
    ∃ u, exec (.uslDataReceived dt rx n l) s = .next (finish u) ∧ u = { s.advance dt with
      usl := u.usl, can := u.can, log := u.log, slots := u.slots, out := u.out, eth := u.eth, bus := u.bus } ∧
      ∀ j, (∀ c, uslCfg (s.advance dt).img n = some c → j ∉ rxSlots c.maps) → u.ownSlot j = (s.advance dt).ownSlot j) ∧
  (∀ (s : State) (dt : Nat) (rx : Option EthRx) (n : Nat) (l : List Byte),
    ∃ u, exec (.uslAckReceived dt rx n l) s = .next (finish u) ∧ u = { s.advance dt with
      usl := u.usl, log := u.log, eth := u.eth }) ∧
  (∀ (s : State) (dt : Nat) (n : Nat), (s.advance dt).Sound →
    ∃ u, exec (.uslWatchdogExpire dt n) s = .next (finish u) ∧ u = { s.advance dt with
      usl := u.usl, log := u.log, slots := u.slots, bus := u.bus, expiring := u.expiring } ∧
      ∀ j, (∀ c, uslCfg (s.advance dt).img n = some c → j ∉ rxSlots c.maps) → u.ownSlot j = (s.advance dt).ownSlot j) ∧
  (∀ (s : State) (dt : Nat) (n : Nat), (s.advance dt).Sound →
    ∃ u, exec (.uslAckTimeout dt n) s = .next (finish u) ∧ u = { s.advance dt with
      usl := u.usl, log := u.log, slots := u.slots, bus := u.bus, expiring := u.expiring } ∧
      ∀ j, (∀ c, uslCfg (s.advance dt).img n = some c → j ∉ rxSlots c.maps) → u.ownSlot j = (s.advance dt).ownSlot j)

/-- PTP and the real-time clock touch only time and their own state; brake events touch only the safety core's channels;
unlocks, HELLO, STATUS, shadows and image pieces touch only what they name. No slot changes. (R425, R426, R428, R429,
R454, R459, R469, R485, R495, R505) -/
def Obligations.ClockBrakeAndPairFrames : Prop :=
  (∀ (s : State) (dt : Nat) (o : Int) (d g : Nat),
    ∃ u, exec (.ptpOffsetMeasured dt o d g) s = .next (finish u) ∧ u = { s.advance dt with
      sysTime := u.sysTime, rate := u.rate, rateInt := u.rateInt, eth := u.eth, log := u.log, bus := u.bus }) ∧
  (∀ (s : State) (dt : Nat) (e : Bool),
    ∃ u, exec (.ptpAnnounceTimeout dt e) s = .next (finish u) ∧ u = { s.advance dt with
      rate := u.rate, eth := u.eth, log := u.log, bus := u.bus, expiring := u.expiring }) ∧
  (∀ (s : State) (dt : Nat) (e : Bool) (g : Announce),
    ∃ u, exec (.ptpAnnounceReceived dt e g) s = .next (finish u) ∧ u = { s.advance dt with
      eth := u.eth }) ∧
  (∀ (s : State) (dt : Nat) (r : Nat),
    ∃ u, exec (.rtcDiscipline dt r) s = .next (finish u) ∧ u = { s.advance dt with
      boot := u.boot, rate := u.rate, eth := u.eth }) ∧
  (∀ (s : State) (dt : Nat),
    ∃ u, exec (.rtcWrite dt) s = .next (finish u) ∧ u = { s.advance dt with
      boot := u.boot, eth := u.eth }) ∧
  (∀ (s : State) (dt : Nat) (rx : EthRx) (ip : W32),
    ∃ u, exec (.arpRequest dt rx ip) s = .next (finish u) ∧ u = { s.advance dt with
      eth := u.eth, out := u.out }) ∧
  (∀ (s : State) (dt : Nat) (rx : EthRx) (ip : W32),
    ∃ u, exec (.icmpEchoRequest dt rx ip) s = .next (finish u) ∧ u = { s.advance dt with
      eth := u.eth, out := u.out }) ∧
  (∀ (s : State) (dt : Nat),
    ∃ u, exec (.prpSupervisionSend dt) s = .next (finish u) ∧ u = { s.advance dt with
      eth := u.eth, out := u.out }) ∧
  (∀ (s : State) (dt : Nat) (n : Nat) (b : Bool),
    ∃ u, exec (.brakeOn dt n b) s = .next (finish u) ∧ u = { s.advance dt with
      so := u.so }) ∧
  (∀ (s : State) (dt : Nat) (n : Nat) (b : Bool),
    ∃ u, exec (.brakeDemand dt n b) s = .next (finish u) ∧ u = { s.advance dt with
      so := u.so }) ∧
  (∀ (s : State) (dt : Nat) (n : Nat),
    ∃ u, exec (.testPulseStart dt n) s = .next (finish u) ∧ u = { s.advance dt with
      so := u.so }) ∧
  (∀ (s : State) (dt : Nat) (n : Nat),
    ∃ u, exec (.testDue dt n) s = .next (finish u) ∧ u = { s.advance dt with
      so := u.so, log := u.log }) ∧
  (∀ (s : State) (dt : Nat) (n : Nat),
    ∃ u, exec (.safetyUnlockExpire dt n) s = .next (finish u) ∧ u = { s.advance dt with
      sessions := u.sessions, expiring := u.expiring }) ∧
  (∀ (s : State) (dt : Nat),
    ∃ u, exec (.safetyPwdLockoutEnd dt) s = .next (finish u) ∧ u = { s.advance dt with
      so := u.so }) ∧
  (∀ (s : State) (dt : Nat),
    ∃ u, exec (.helloSend dt) s = .next (finish u) ∧ u = { s.advance dt with
      pair := u.pair, out := u.out }) ∧
  (∀ (s : State) (dt : Nat),
    ∃ u, exec (.statusSend dt) s = .next (finish u) ∧ u = { s.advance dt with
      out := u.out }) ∧
  (∀ (s : State) (dt : Nat) (m : StatusMsg) (v : Nat),
    ∃ u, exec (.statusReceived dt m v) s = .next (finish u) ∧ u = { s.advance dt with
      pair := u.pair }) ∧
  (∀ (s : State) (dt : Nat),
    ∃ u, exec (.shadowSend dt) s = .next (finish u) ∧ u = { s.advance dt with
      pair := u.pair, out := u.out }) ∧
  (∀ (s : State) (dt : Nat) (l : Nat),
    ∃ u, exec (.imgreq dt l) s = .next (finish u) ∧ u = { s.advance dt with
      pair := u.pair, out := u.out }) ∧
  (∀ (s : State) (dt : Nat) (k o : Nat) (l : List Byte),
    ∃ u, exec (.imgdata dt k o l) s = .next (finish u) ∧ u = { s.advance dt with
      pair := u.pair, store := u.store })
end

