-- ==== Sys2Proof/Laws/Lists.lean ====
section
/-! SUPPORT. The canonical forms: ascending keyed lists and the process image. -/

namespace Sys2Proof.Machine

variable {α : Type}

/-- `ascending` in terms of `List.Pairwise`. -/
theorem ascending_iff (xs : List (Nat × α)) : ascending xs = true ↔ xs.Pairwise fun a b => a.1 < b.1 := by
  induction xs with
  | nil => simp [ascending]
  | cons x r ih =>
    cases r with
    | nil => simp [ascending]
    | cons y r =>
      simp only [ascending, Bool.and_eq_true, decide_eq_true_eq, ih]
      rw [List.pairwise_cons (a := x)]
      constructor
      · rintro ⟨h, hp⟩
        refine ⟨fun z hz => ?_, hp⟩
        rcases List.mem_cons.mp hz with rfl | hz
        · exact h
        · exact Nat.lt_trans h (List.rel_of_pairwise_cons hp hz)
      · rintro ⟨h, hp⟩
        exact ⟨h y (by simp), hp⟩

theorem ascending_filter {xs : List (Nat × α)} (p : Nat × α → Bool) (h : ascending xs = true) :
    ascending (xs.filter p) = true := by
  rw [ascending_iff] at *
  exact h.filter p

theorem ascending_eraseKey {xs : List (Nat × α)} (k : Nat) (h : ascending xs = true) :
    ascending (eraseKey k xs) = true := ascending_filter _ h

theorem mem_insertKey {k : Nat} {v : α} {xs : List (Nat × α)} {p : Nat × α} (h : p ∈ insertKey k v xs) :
    p = (k, v) ∨ p ∈ xs := by
  induction xs with
  | nil => simpa [insertKey] using h
  | cons x r ih =>
    obtain ⟨k', v'⟩ := x
    simp only [insertKey] at h
    split at h
    · simpa using h
    · split at h
      · rcases List.mem_cons.mp h with rfl | h <;> simp_all
      · rcases List.mem_cons.mp h with rfl | h
        · simp
        · rcases ih h with h | h <;> simp_all

theorem ascending_insertKey {xs : List (Nat × α)} (k : Nat) (v : α) (h : ascending xs = true) :
    ascending (insertKey k v xs) = true := by
  rw [ascending_iff] at *
  induction xs with
  | nil => simp [insertKey]
  | cons x r ih =>
    obtain ⟨k', v'⟩ := x
    rw [List.pairwise_cons] at h
    simp only [insertKey]
    split
    · rename_i hk
      refine List.pairwise_cons.mpr ⟨fun z hz => ?_, List.pairwise_cons.mpr h⟩
      rcases List.mem_cons.mp hz with rfl | hz
      · exact hk
      · exact Nat.lt_trans hk (h.1 z hz)
    · split
      · rename_i hk
        subst hk
        exact List.pairwise_cons.mpr h
      · rename_i h1 h2
        refine List.pairwise_cons.mpr ⟨fun z hz => ?_, ih h.2⟩
        rcases mem_insertKey hz with rfl | hz
        · show k' < k
          omega
        · exact h.1 z hz

theorem length_insertKey_le (k : Nat) (v : α) (xs : List (Nat × α)) : (insertKey k v xs).length ≤ xs.length + 1 := by
  induction xs with
  | nil => simp [insertKey]
  | cons x r ih =>
    obtain ⟨k', v'⟩ := x
    simp only [insertKey]
    split
    · simp
    · split <;> simp <;> omega

theorem length_insertKey_mem {k : Nat} {v : α} {xs : List (Nat × α)} (ha : ascending xs = true)
    (h : ∃ p ∈ xs, p.1 = k) : (insertKey k v xs).length = xs.length := by
  rw [ascending_iff] at ha
  induction xs with
  | nil => simp at h
  | cons x r ih =>
    obtain ⟨k', v'⟩ := x
    rw [List.pairwise_cons] at ha
    obtain ⟨p, hp, hk⟩ := h
    simp only [insertKey]
    rcases List.mem_cons.mp hp with rfl | hp
    · simp at hk
      subst hk
      simp
    · have h1 := ha.1 p hp
      simp only at h1
      rw [if_neg (by omega), if_neg (by omega)]
      simp [ih ha.2 ⟨p, hp, hk⟩]

theorem length_eraseKey_le (k : Nat) (xs : List (Nat × α)) : (eraseKey k xs).length ≤ xs.length :=
  List.length_filter_le _ _

theorem SlotMap.wf_iff (m : SlotMap) :
    SlotMap.wf m = true ↔ ascending m = true ∧ ∀ p ∈ m, p.2 ≠ (0, 0) ∧ p.1 < 65536 := by
  unfold SlotMap.wf
  rw [Bool.and_eq_true, List.all_eq_true]
  exact and_congr_right fun _ => forall₂_congr fun p _ => by rw [decide_eq_true_eq]

theorem SlotMap.wf_filter {m : SlotMap} (p : Nat × Cell → Bool) (h : SlotMap.wf m = true) :
    SlotMap.wf (m.filter p) = true := by
  rw [SlotMap.wf_iff] at *
  exact ⟨ascending_filter p h.1, fun x hx => h.2 x (List.mem_of_mem_filter hx)⟩

/-- Writing a slot keeps the canonical form. -/
theorem SlotMap.wf_set {m : SlotMap} {i : Nat} (c : Cell) (hi : i < 65536) (h : SlotMap.wf m = true) :
    SlotMap.wf (SlotMap.set m i c) = true := by
  unfold SlotMap.set
  split
  · exact SlotMap.wf_filter _ h
  · rename_i hc
    rw [SlotMap.wf_iff] at *
    refine ⟨ascending_insertKey i c h.1, fun p hp => ?_⟩
    rcases mem_insertKey hp with rfl | hp
    · exact ⟨hc, hi⟩
    · exact h.2 p hp

theorem lookupD_insertKey (d : α) (k j : Nat) (v : α) (xs : List (Nat × α)) (h : ascending xs = true) :
    lookupD d j (insertKey k v xs) = if j = k then v else lookupD d j xs := by
  rw [ascending_iff] at h
  induction xs with
  | nil => simp [insertKey, lookupD]
  | cons x r ih =>
    obtain ⟨k', v'⟩ := x
    rw [List.pairwise_cons] at h
    simp only [insertKey]
    split
    · simp [lookupD]
    · split
      · rename_i h1 h2
        subst h2
        by_cases hj : j = k <;> simp [lookupD, hj]
      · simp only [lookupD, ih h.2]
        by_cases hj : j = k' <;> by_cases hk : j = k <;> simp_all

theorem lookupD_eraseKey (d : α) (k j : Nat) (xs : List (Nat × α)) :
    lookupD d j (eraseKey k xs) = if j = k then d else lookupD d j xs := by
  unfold eraseKey
  induction xs with
  | nil => simp [lookupD]
  | cons x r ih =>
    obtain ⟨k', v'⟩ := x
    by_cases h : k' = k
    · subst h
      simp only [List.filter_cons, ne_eq, not_true_eq_false, decide_false, lookupD, ih]
      by_cases hj : j = k' <;> simp_all
    · simp only [List.filter_cons, ne_eq, h, not_false_eq_true, decide_true, if_true, lookupD, ih]
      by_cases hj : j = k' <;> by_cases hk : j = k <;> simp_all

/-- Reading a slot after a write: the written slot reads the value written, every other slot as before. -/
theorem SlotMap.get_set {m : SlotMap} {i j : Nat} (c : Cell) (h : SlotMap.wf m = true) :
    SlotMap.get (SlotMap.set m i c) j = if j = i then c else SlotMap.get m j := by
  unfold SlotMap.get SlotMap.set
  split
  · rename_i hc
    rw [lookupD_eraseKey, hc]
  · exact lookupD_insertKey _ _ _ _ _ ((SlotMap.wf_iff m).mp h).1

/-- The empty image is in canonical form. -/
theorem SlotMap.wf_nil : SlotMap.wf [] = true := rfl

end Sys2Proof.Machine
end

