-- ==== Sys2Proof/Laws/Kept.lean ====
section
/-! SUPPORT. What every operation keeps: the shared operations of Ops. -/

namespace Sys2Proof.Machine

variable {q : Bounds} {s : State}

/-- An operation that leaves the watched fields alone keeps the bounds. -/
theorem Holds.of_eq {a b : State} (h : Holds q a) (h1 : b.clock = a.clock) (h2 : b.pending = a.pending)
    (h3 : b.store.floor = a.store.floor) (h4 : b.pair.drive = a.pair.drive) (h5 : b.mode = a.mode)
    (h6 : b.slots = a.slots) (h7 : b.forces = a.forces) (h8 : b.sessions.length = a.sessions.length)
    (h9 : b.log.fifo.length = a.log.fifo.length)
    (h10 : b.waiting = a.waiting) : Holds q b where
  clock := h1 ▸ h.clock
  queue := h2 ▸ h.queue
  floor := h3 ▸ h.floor
  waits := h10 ▸ h.waits
  image := h6 ▸ h.image
  forced := h7 ▸ h.forced
  forceCap := h7 ▸ h.forceCap
  owner := by rw [h4, h5]; exact h.owner
  sessions := h8 ▸ h.sessions
  staging := h9 ▸ h.staging

/-- A state built from one that keeps the bounds, with the watched fields left alone. -/
theorem Holds.mk' {a : State} {x0 x1 x2 x3 x4 x5 x6 x7 x8 x9 x10 x11 x12 x13 x14 x15 x16 x17 x18 x19 x20 x21 x22 x23 x24 x25 x26 x27 x28 x29 x30 x31 x32 x33 x34 x35 x36}
    (h : Holds q a) (h1 : x0 = a.clock) (h2 : x36 = a.pending) (h3 : x9.floor = a.store.floor)
    (h4 : x29.drive = a.pair.drive) (h5 : x5 = a.mode) (h6 : x15 = a.slots) (h7 : x16 = a.forces)
    (h8 : x13.length = a.sessions.length) (h9 : x32.fifo.length = a.log.fifo.length) (h10 : x14 = a.waiting) :
    Holds q (State.mk x0 x1 x2 x3 x4 x5 x6 x7 x8 x9 x10 x11 x12 x13 x14 x15 x16 x17 x18 x19 x20 x21 x22 x23 x24 x25 x26 x27 x28 x29 x30 x31 x32 x33 x34 x35 x36) :=
  h.of_eq h1 h2 h3 h4 h5 h6 h7 h8 h9 h10


/-- A state built from one that keeps the bounds, where the floor may have risen. -/
theorem Holds.mkFloor {a : State} {x0 x1 x2 x3 x4 x5 x6 x7 x8 x9 x10 x11 x12 x13 x14 x15 x16 x17 x18 x19 x20 x21 x22 x23 x24 x25 x26 x27 x28 x29 x30 x31 x32 x33 x34 x35 x36}
    (h : Holds q a) (h1 : x0 = a.clock) (h2 : x36 = a.pending) (h3 : a.store.floor ≤ x9.floor)
    (h4 : x29.drive = a.pair.drive) (h5 : x5 = a.mode) (h6 : x15 = a.slots) (h7 : x16 = a.forces)
    (h8 : x13.length = a.sessions.length) (h9 : x32.fifo.length = a.log.fifo.length) (h10 : x14 = a.waiting) :
    Holds q (State.mk x0 x1 x2 x3 x4 x5 x6 x7 x8 x9 x10 x11 x12 x13 x14 x15 x16 x17 x18 x19 x20 x21 x22 x23 x24 x25 x26 x27 x28 x29 x30 x31 x32 x33 x34 x35 x36) :=
  ⟨⟨h6 ▸ h.image, h7 ▸ h.forced, h7 ▸ h.forceCap, (by show x29.drive = decide (x5 = .active); rw [h4, h5]; exact h.owner),
    h8 ▸ h.sessions, h9 ▸ h.staging⟩, h1 ▸ h.clock, h2 ▸ h.queue, h.floor.imp_right (Nat.le_trans · h3), h10 ▸ h.waits⟩


/-- A conditional step keeps what the step keeps. -/
theorem Holds.step {c : Prop} [Decidable c] {a b : State} (h : Holds q a) (hb : Holds q a → Holds q b) :
    Holds q (if c then b else a) := by
  split
  · exact hb h
  · exact h

/-- A fold keeps what each of its steps keeps. -/
theorem Holds.foldl {α : Type} {l : List α} {f : State → α → State} (h : Holds q s)
    (hf : ∀ t x, Holds q t → Holds q (f t x)) : Holds q (l.foldl f s) := by
  induction l generalizing s with
  | nil => exact h
  | cons x r ih => exact ih (hf s x h)

theorem Log.enterLoss_fifo (l : Log) (h : l.fifo.length ≤ 64) : l.enterLoss.fifo.length ≤ 64 := by
  unfold Log.enterLoss
  split
  · exact h
  · dsimp only
    split
    · simp; omega
    · exact h

theorem Log.begin_fifo (now : Nat) (c : Bool) (l : Log) (h : l.fifo.length ≤ 64) :
    (l.begin now c).fifo.length ≤ 64 := by
  unfold Log.begin
  split
  · exact h
  · split
    · rename_i e r hr
      refine Log.enterLoss_fifo _ ?_
      rw [hr] at h
      simp at h ⊢
      omega
    · split
      · exact h
      · exact h

theorem insertEntry_length (e : Entry) (l : List Entry) : (insertEntry e l).length = l.length + 1 := by
  induction l with
  | nil => rfl
  | cons x r ih => simp only [insertEntry]; split <;> simp [ih]

theorem renum_length (n : Nat) (l : List Entry) : (renum n l).length = l.length := by
  induction l generalizing n with
  | nil => rfl
  | cons x r ih => simp [renum, ih]

theorem length_split {α : Type} (p : α → Bool) (l : List α) :
    (l.filter p).length + (l.filter fun x => !p x).length = l.length := by
  induction l with
  | nil => rfl
  | cons x r ih => by_cases h : p x <;> simp [h] <;> omega

theorem Log.enter_fifo (now : Nat) (e : Entry) (l : Log) (h : l.fifo.length ≤ 64) :
    (l.enter now e).fifo.length ≤ 64 := by
  have hl := length_split (fun x : Entry => decide (x.tick = now)) l.fifo
  have hn : (l.fifo.filter fun x => !decide (x.tick = now)) = l.fifo.filter fun x => decide (x.tick ≠ now) := by
    congr 1; funext x; simp
  rw [hn] at hl
  unfold Log.enter
  dsimp only
  split
  · simp only [List.length_append, renum_length, insertEntry_length]
    omega
  · have hk : ((l.fifo.filter fun x => decide (x.tick ≠ now)) ++ (renum (l.lastNum + 1 -
        (l.fifo.filter fun x => decide (x.tick = now)).length) (insertEntry e (l.fifo.filter fun x =>
          decide (x.tick = now)))).dropLast).length ≤ 64 := by
      simp only [List.length_append, List.length_dropLast, renum_length, insertEntry_length]
      omega
    split
    · split
      · simp only [List.length_append, List.length_dropLast, List.length_cons, List.length_nil] at hk ⊢
        rename_i t ht _
        have : 0 < ((l.fifo.filter fun x => decide (x.tick ≠ now)) ++ (renum (l.lastNum + 1 -
            (l.fifo.filter fun x => decide (x.tick = now)).length) (insertEntry e (l.fifo.filter fun x =>
              decide (x.tick = now)))).dropLast).length := by
          rw [List.length_pos_iff]
          intro h0
          rw [h0] at ht
          simp at ht
        simp only [List.length_append, List.length_dropLast] at this
        omega
      · split <;> exact hk
    · exact hk

/-- A new log that is still bounded keeps the bounds. -/
theorem Holds.log {l : Log} (h : Holds q s) (hl : l.fifo.length ≤ 64) : Holds q { s with log := l } :=
  { h with staging := hl }

theorem State.recordSev_holds (h : Holds q s) : ∀ sev code unit item data, Holds q (s.recordSev sev code unit item data) :=
  fun _ _ _ _ _ => h.log (Log.enter_fifo _ _ _ h.staging)

theorem State.record_holds (h : Holds q s) : ∀ code unit item data, Holds q (s.record code unit item data) :=
  fun _ _ _ _ => State.recordSev_holds h _ _ _ _ _

theorem State.emit_holds (h : Holds q s) : ∀ m, Holds q (s.emit m) :=
  fun _ => h.of_eq rfl rfl rfl rfl rfl rfl rfl rfl rfl rfl

theorem State.freeW32_holds (h : Holds q s) : Holds q s.freeW32.2 := h.of_eq rfl rfl rfl rfl rfl rfl rfl rfl rfl rfl

/-- A write of a slot keeps the process image canonical. -/
theorem State.writeSlot_holds (h : Holds q s) : ∀ i v y, Holds q (s.writeSlot i v y) := by
  intro i v y
  unfold State.writeSlot
  split
  · rename_i hi
    exact { h with image := SlotMap.wf_set _ hi h.image }
  · exact h

theorem State.modSession_holds (h : Holds q s) : ∀ sid f, Holds q (s.modSession sid f) :=
  fun _ _ => h.of_eq rfl rfl rfl rfl rfl rfl rfl (by simp [State.modSession, modifyKey]) rfl rfl

end Sys2Proof.Machine
end

