-- ==== Sys2Proof/Laws/KeptOps.lean ====
section
/-! SUPPORT. What the operations of Machine/Ops.lean keep. -/

namespace Sys2Proof.Machine

variable {q : Bounds} {s : State}

theorem State.sendLink_holds (h : Holds q s) : ∀ x0 x1, Holds q (State.sendLink x0 x1 s) := by
  intro x0 x1; unfold State.sendLink
  repeat' first
    | with_reducible assumption | with_reducible apply State.emit_holds | intro _
    | with_reducible refine Holds.step ?_ ?_
    | fail_if_no_progress with_reducible refine Holds.mk' ?_ rfl rfl rfl rfl rfl rfl rfl rfl rfl rfl

theorem State.sendBoth_holds (h : Holds q s) : ∀ x0, Holds q (State.sendBoth x0 s) := by
  intro x0; unfold State.sendBoth
  repeat' first | with_reducible assumption | with_reducible apply State.sendLink_holds

theorem State.sendOnce_holds (h : Holds q s) : ∀ x0, Holds q (State.sendOnce x0 s) := by
  intro x0; unfold State.sendOnce
  repeat' first
    | with_reducible assumption | with_reducible apply State.sendLink_holds

theorem State.r38_holds (h : Holds q s) : ∀ x0 x1 x2, Holds q (State.r38 x0 x1 x2 s) := by
  intro x0 x1 x2; unfold State.r38
  repeat' first
    | with_reducible assumption | with_reducible apply State.writeSlot_holds
    | with_reducible apply Holds.foldl | intro _ | with_reducible refine Holds.step ?_ ?_

theorem State.answer_holds (h : Holds q s) : ∀ x0 x1 x2 x3, Holds q (State.answer x0 x1 x2 x3 s) := by
  intro x0 x1 x2 x3; unfold State.answer
  repeat' first
    | with_reducible assumption | with_reducible apply State.modSession_holds
    | with_reducible apply State.emit_holds | intro _ | with_reducible refine Holds.step ?_ ?_
    | fail_if_no_progress with_reducible refine Holds.mk' ?_ rfl rfl rfl rfl rfl rfl rfl rfl rfl rfl | split
    | dsimp only

theorem State.fixViews_holds (h : Holds q s) : Holds q (State.fixViews s) := by
  unfold State.fixViews
  repeat' first
    | with_reducible assumption | intro _
    | fail_if_no_progress with_reducible refine Holds.mk' ?_ rfl rfl rfl rfl rfl rfl rfl rfl rfl rfl

theorem State.latchSet_holds (h : Holds q s) : ∀ x0 x1, Holds q (State.latchSet x0 x1 s) := by
  intro x0 x1; unfold State.latchSet
  repeat' first
    | with_reducible assumption | intro _ | with_reducible refine Holds.step ?_ ?_
    | fail_if_no_progress with_reducible refine Holds.mk' ?_ rfl rfl rfl rfl rfl rfl rfl rfl rfl rfl

theorem State.pairEvt_holds (h : Holds q s) : ∀ x0, Holds q (State.pairEvt x0 s) := by
  intro x0; unfold State.pairEvt
  repeat' first
    | with_reducible assumption | with_reducible apply State.latchSet_holds | intro _
    | fail_if_no_progress with_reducible refine Holds.mk' ?_ rfl rfl rfl rfl rfl rfl rfl rfl rfl rfl

theorem State.parityFresh_holds (h : Holds q s) : ∀ x0, Holds q (State.parityFresh x0 s) := by
  intro x0; unfold State.parityFresh
  repeat' first
    | with_reducible assumption | intro _
    | fail_if_no_progress with_reducible refine Holds.mk' ?_ rfl rfl rfl rfl rfl rfl rfl rfl rfl rfl

/-- Time passes: the clock moves by exactly the time that passes, and nothing else that is watched moves. -/
theorem State.elapse_holds (h : Holds q s) : ∀ dt, Holds { q with clock := q.clock + dt } (s.elapse dt) := by
  intro dt
  unfold State.elapse
  split
  · rename_i h0; subst h0; exact h
  · exact ⟨⟨h.image, h.forced, h.forceCap, h.owner, h.sessions, Log.begin_fifo _ _ _ h.staging⟩,
      congrArg (· + dt) h.clock, h.queue, h.floor, h.waits⟩

end Sys2Proof.Machine
end

