-- ==== Sys2Proof/Laws/KeptOperands.lean ====
section
/-! SUPPORT. What the operations of Machine/Operands.lean keep. -/

namespace Sys2Proof.Machine

variable {q : Bounds} {s : State}

theorem State.writeRef_holds (h : Holds q s) : ∀ x0 x1 x2, Holds q (State.writeRef x0 x1 x2 s) := by
  intro x0 x1 x2; unfold State.writeRef
  repeat' first
    | with_reducible assumption | with_reducible apply State.writeSlot_holds | intro _
    | with_reducible refine Holds.step ?_ ?_

theorem State.writeOpt_holds (h : Holds q s) : ∀ x0 x1 x2, Holds q (State.writeOpt x0 x1 x2 s) := by
  intro x0 x1 x2; unfold State.writeOpt
  repeat' first
    | with_reducible assumption | with_reducible apply State.writeRef_holds | intro _
    | fail_if_no_progress with_reducible refine Holds.mk' ?_ rfl rfl rfl rfl rfl rfl rfl rfl rfl rfl | split

end Sys2Proof.Machine
end

