-- ==== Sys2Proof/Laws/KeptBarnOps.lean ====
section
/-! SUPPORT. What the operations of Machine/BarnOps.lean keep. -/

namespace Sys2Proof.Machine

variable {q : Bounds} {s : State}

theorem State.beginSave_holds (h : Holds q s) : ∀ x0, Holds q (State.beginSave x0 s) := by
  intro x0; unfold State.beginSave
  repeat' first
    | with_reducible assumption | with_reducible apply ok_holds | intro _
    | with_reducible refine Holds.step ?_ ?_
    | fail_if_no_progress with_reducible refine Holds.mk' ?_ rfl rfl rfl rfl rfl rfl rfl rfl rfl rfl

theorem State.snapshot_holds (h : Holds q s) : ∀ x0, Holds q (State.snapshot x0 s) := by
  intro x0; unfold State.snapshot
  repeat' first
    | with_reducible assumption | with_reducible apply State.beginSave_holds | intro _
    | fail_if_no_progress with_reducible refine Holds.mk' ?_ rfl rfl rfl rfl rfl rfl rfl rfl rfl rfl

theorem State.effectCheckpoint_holds (h : Holds q s) : Holds q (State.effectCheckpoint s) := by
  unfold State.effectCheckpoint
  repeat' first
    | with_reducible assumption | with_reducible apply State.snapshot_holds | intro _
    | with_reducible refine Holds.step ?_ ?_
    | fail_if_no_progress with_reducible refine Holds.mk' ?_ rfl rfl rfl rfl rfl rfl rfl rfl rfl rfl

theorem State.requestCheckpoint_holds (h : Holds q s) : Holds q (State.requestCheckpoint s) := by
  unfold State.requestCheckpoint
  repeat' first
    | with_reducible assumption | with_reducible apply State.effectCheckpoint_holds | intro _
    | with_reducible refine Holds.step ?_ ?_
    | fail_if_no_progress with_reducible refine Holds.mk' ?_ rfl rfl rfl rfl rfl rfl rfl rfl rfl rfl

theorem State.checkpointDue_holds (h : Holds q s) : Holds q (State.checkpointDue s) := by
  unfold State.checkpointDue
  repeat' first
    | with_reducible assumption | with_reducible apply State.effectCheckpoint_holds | intro _
    | with_reducible refine Holds.step ?_ ?_
    | fail_if_no_progress with_reducible refine Holds.mk' ?_ rfl rfl rfl rfl rfl rfl rfl rfl rfl rfl | split

theorem State.saveDone_holds (h : Holds q s) : Holds q (State.saveDone s) := by
  unfold State.saveDone
  repeat' first
    | with_reducible assumption | with_reducible apply ok_holds | with_reducible apply State.beginSave_holds
    | with_reducible apply State.checkpointDue_holds | intro _
    | fail_if_no_progress with_reducible refine Holds.mk' ?_ rfl rfl rfl rfl rfl rfl rfl rfl rfl rfl | split
    | dsimp only

theorem State.powerFailSave_holds (h : Holds q s) : Holds q (State.powerFailSave s) := by
  unfold State.powerFailSave
  repeat' first
    | with_reducible assumption | with_reducible apply State.snapshot_holds | intro _
    | with_reducible refine Holds.step ?_ ?_
    | fail_if_no_progress with_reducible refine Holds.mk' ?_ rfl rfl rfl rfl rfl rfl rfl rfl rfl rfl | split

theorem State.barnRestore_holds (h : Holds q s) : Holds q (State.barnRestore s) := by
  unfold State.barnRestore
  repeat' first
    | with_reducible assumption | with_reducible apply State.record_holds
    | with_reducible apply State.writeSlot_holds | with_reducible apply Holds.foldl | intro _
    | fail_if_no_progress with_reducible refine Holds.mk' ?_ rfl rfl rfl rfl rfl rfl rfl rfl rfl rfl | split

end Sys2Proof.Machine
end

