-- ==== Sys2Proof/Laws/KeptSlvOps.lean ====
section
/-! SUPPORT. What the operations of Machine/SlvOps.lean keep. -/

namespace Sys2Proof.Machine

variable {q : Bounds} {s : State}

theorem State.modProb_holds (h : Holds q s) : ∀ x0 x1, Holds q (State.modProb x0 x1 s) := by
  intro x0 x1; unfold State.modProb
  repeat' first
    | with_reducible assumption | intro _
    | fail_if_no_progress with_reducible refine Holds.mk' ?_ rfl rfl rfl rfl rfl rfl rfl rfl rfl rfl

theorem State.putPub_holds (h : Holds q s) : ∀ x0 x1 x2 x3, Holds q (State.putPub x0 x1 x2 x3 s) := by
  intro x0 x1 x2 x3; unfold State.putPub
  repeat' first
    | with_reducible assumption | with_reducible apply State.writeSlot_holds | intro _
    | with_reducible refine Holds.step ?_ ?_

theorem State.slvPublish_holds (h : Holds q s) : ∀ x0 x1 x2, Holds q (State.slvPublish x0 x1 x2 s) := by
  intro x0 x1 x2; unfold State.slvPublish
  repeat' first
    | with_reducible assumption | with_reducible apply State.putPub_holds
    | with_reducible apply State.freeW32_holds | with_reducible apply State.writeSlot_holds
    | with_reducible apply State.modProb_holds | with_reducible apply State.record_holds
    | with_reducible apply Holds.foldl | intro _ | with_reducible refine Holds.step ?_ ?_
    | fail_if_no_progress with_reducible refine Holds.mk' ?_ rfl rfl rfl rfl rfl rfl rfl rfl rfl rfl | split

theorem State.slvDrop_holds (h : Holds q s) : ∀ x0, Holds q (State.slvDrop x0 s) := by
  intro x0; unfold State.slvDrop
  repeat' first
    | with_reducible assumption | intro _ | with_reducible refine Holds.step ?_ ?_
    | fail_if_no_progress with_reducible refine Holds.mk' ?_ rfl rfl rfl rfl rfl rfl rfl rfl rfl rfl

theorem State.slvHarvestOne_holds (h : Holds q s) : ∀ x0 x1, Holds q (State.slvHarvestOne x0 x1 s) := by
  intro x0 x1; unfold State.slvHarvestOne
  repeat' first
    | with_reducible assumption | with_reducible apply State.slvPublish_holds
    | with_reducible apply State.slvDrop_holds | intro _ | with_reducible refine Holds.step ?_ ?_
    | fail_if_no_progress with_reducible refine Holds.mk' ?_ rfl rfl rfl rfl rfl rfl rfl rfl rfl rfl | split

theorem State.slvDecided_holds (h : Holds q s) : ∀ x0, Holds q (State.slvDecided x0 s) := by
  intro x0; unfold State.slvDecided
  repeat' first
    | with_reducible assumption | with_reducible apply State.slvPublish_holds
    | with_reducible apply Holds.foldl | intro _ | with_reducible refine Holds.step ?_ ?_
    | fail_if_no_progress with_reducible refine Holds.mk' ?_ rfl rfl rfl rfl rfl rfl rfl rfl rfl rfl | split

theorem State.slvStart_holds (h : Holds q s) : ∀ x0 x1, Holds q (State.slvStart x0 x1 s) := by
  intro x0 x1; unfold State.slvStart
  repeat' first
    | with_reducible assumption | with_reducible apply State.modProb_holds | intro _
    | with_reducible refine Holds.step ?_ ?_
    | fail_if_no_progress with_reducible refine Holds.mk' ?_ rfl rfl rfl rfl rfl rfl rfl rfl rfl rfl | split

theorem State.slvPubs_holds (h : Holds q s) : ∀ x0, Holds q (State.slvPubs x0 s) := by
  intro x0; unfold State.slvPubs
  repeat' first
    | with_reducible assumption | with_reducible apply State.slvHarvestOne_holds
    | with_reducible apply Holds.foldl | intro _ | with_reducible refine Holds.step ?_ ?_

theorem State.slvStarts_holds (h : Holds q s) : ∀ x0, Holds q (State.slvStarts x0 s) := by
  intro x0; unfold State.slvStarts
  repeat' first
    | with_reducible assumption | with_reducible apply State.slvStart_holds | with_reducible apply Holds.foldl
    | intro _ | with_reducible refine Holds.step ?_ ?_

theorem State.asmBegin_holds (h : Holds q s) : Holds q (State.asmBegin s) := by
  unfold State.asmBegin
  repeat' first
    | with_reducible assumption | with_reducible apply State.modProb_holds
    | with_reducible apply State.setStage_holds | intro _ | with_reducible refine Holds.step ?_ ?_
    | fail_if_no_progress with_reducible refine Holds.mk' ?_ rfl rfl rfl rfl rfl rfl rfl rfl rfl rfl | split

theorem State.asmEnd_holds (h : Holds q s) : Holds q (State.asmEnd s) := by
  unfold State.asmEnd
  repeat' first
    | with_reducible assumption | with_reducible apply refuse_holds | with_reducible apply State.modProb_holds
    | with_reducible apply State.setStage_holds | intro _ | with_reducible refine Holds.step ?_ ?_
    | fail_if_no_progress with_reducible refine Holds.mk' ?_ rfl rfl rfl rfl rfl rfl rfl rfl rfl rfl | split

theorem State.solveBegin_holds (h : Holds q s) : Holds q (State.solveBegin s) := by
  unfold State.solveBegin
  repeat' first
    | with_reducible assumption | with_reducible apply State.modProb_holds | intro _
    | with_reducible refine Holds.step ?_ ?_
    | fail_if_no_progress with_reducible refine Holds.mk' ?_ rfl rfl rfl rfl rfl rfl rfl rfl rfl rfl | split

theorem State.solveEnd_holds (h : Holds q s) : ∀ x0, Holds q (State.solveEnd x0 s) := by
  intro x0; unfold State.solveEnd
  repeat' first
    | with_reducible assumption | with_reducible apply ok_holds | with_reducible apply State.modProb_holds
    | with_reducible apply State.setStage_holds | intro _ | with_reducible refine Holds.step ?_ ?_
    | fail_if_no_progress with_reducible refine Holds.mk' ?_ rfl rfl rfl rfl rfl rfl rfl rfl rfl rfl | split

theorem State.slvClear_holds (h : Holds q s) : Holds q (State.slvClear s) := by
  unfold State.slvClear
  repeat' first
    | with_reducible assumption | intro _
    | fail_if_no_progress with_reducible refine Holds.mk' ?_ rfl rfl rfl rfl rfl rfl rfl rfl rfl rfl

theorem State.confSlv_holds (h : Holds q s) : Holds q (State.confSlv s) := by
  unfold State.confSlv
  repeat' first
    | with_reducible assumption | intro _
    | fail_if_no_progress with_reducible refine Holds.mk' ?_ rfl rfl rfl rfl rfl rfl rfl rfl rfl rfl

theorem State.leaveSlv_holds (h : Holds q s) : Holds q (State.leaveSlv s) := by
  unfold State.leaveSlv
  repeat' first | with_reducible assumption | with_reducible apply State.slvClear_holds

theorem State.stopSlv_holds (h : Holds q s) : Holds q (State.stopSlv s) := by
  unfold State.stopSlv
  repeat' first
    | with_reducible assumption | with_reducible apply State.slvClear_holds
    | with_reducible apply State.r38_holds | intro _
    | fail_if_no_progress with_reducible refine Holds.mk' ?_ rfl rfl rfl rfl rfl rfl rfl rfl rfl rfl

theorem State.retrySlv_holds (h : Holds q s) : Holds q (State.retrySlv s) := by
  unfold State.retrySlv
  repeat' first
    | with_reducible assumption | intro _
    | fail_if_no_progress with_reducible refine Holds.mk' ?_ rfl rfl rfl rfl rfl rfl rfl rfl rfl rfl

theorem State.reinitSlv_holds (h : Holds q s) : Holds q (State.reinitSlv s) := by
  unfold State.reinitSlv
  repeat' first
    | with_reducible assumption | with_reducible apply State.retrySlv_holds | intro _
    | fail_if_no_progress with_reducible refine Holds.mk' ?_ rfl rfl rfl rfl rfl rfl rfl rfl rfl rfl

theorem State.enterSlv_holds (h : Holds q s) : Holds q (State.enterSlv s) := by
  unfold State.enterSlv
  repeat' first
    | with_reducible assumption | intro _
    | fail_if_no_progress with_reducible refine Holds.mk' ?_ rfl rfl rfl rfl rfl rfl rfl rfl rfl rfl

theorem State.applySlv_holds (h : Holds q s) : ∀ x0, Holds q (State.applySlv x0 s) := by
  intro x0; unfold State.applySlv
  repeat' first
    | with_reducible assumption | with_reducible apply State.harvest_holds | intro _
    | with_reducible refine Holds.step ?_ ?_
    | fail_if_no_progress with_reducible refine Holds.mk' ?_ rfl rfl rfl rfl rfl rfl rfl rfl rfl rfl

theorem State.switchSlv_holds (h : Holds q s) : ∀ x0, Holds q (State.switchSlv x0 s) := by
  intro x0; unfold State.switchSlv
  repeat' first
    | with_reducible assumption | with_reducible apply State.slvDrop_holds | with_reducible apply Holds.foldl
    | intro _ | with_reducible refine Holds.step ?_ ?_
    | fail_if_no_progress with_reducible refine Holds.mk' ?_ rfl rfl rfl rfl rfl rfl rfl rfl rfl rfl

end Sys2Proof.Machine
end

