-- ==== Sys2Proof/Laws/KeptLoopOps.lean ====
section
/-! SUPPORT. What the operations of Machine/LoopOps.lean keep. -/

namespace Sys2Proof.Machine

variable {q : Bounds} {s : State}

theorem State.modCtx_holds (h : Holds q s) : ∀ x0 x1, Holds q (State.modCtx x0 x1 s) := by
  intro x0 x1; unfold State.modCtx
  repeat' first
    | with_reducible assumption | intro _
    | fail_if_no_progress with_reducible refine Holds.mk' ?_ rfl rfl rfl rfl rfl rfl rfl rfl rfl rfl

theorem State.loopMiss_holds (h : Holds q s) : ∀ x0, Holds q (State.loopMiss x0 s) := by
  intro x0; unfold State.loopMiss
  repeat' first
    | with_reducible assumption | with_reducible apply State.latchSet_holds
    | with_reducible apply State.modCtx_holds | with_reducible apply State.writeSlot_holds
    | with_reducible apply State.record_holds | intro _ | with_reducible refine Holds.step ?_ ?_
    | fail_if_no_progress with_reducible refine Holds.mk' ?_ rfl rfl rfl rfl rfl rfl rfl rfl rfl rfl | split

theorem State.swapLatched_holds (h : Holds q s) : ∀ x0, Holds q (State.swapLatched x0 s) := by
  intro x0; unfold State.swapLatched
  repeat' first
    | with_reducible assumption | with_reducible apply State.modCtx_holds
    | with_reducible apply State.parityFresh_holds | intro _ | with_reducible refine Holds.step ?_ ?_
    | fail_if_no_progress with_reducible refine Holds.mk' ?_ rfl rfl rfl rfl rfl rfl rfl rfl rfl rfl | split

theorem State.loopSample_holds (h : Holds q s) : ∀ x0 x1, Holds q (State.loopSample x0 x1 s) := by
  intro x0 x1; unfold State.loopSample
  repeat' first
    | with_reducible assumption | with_reducible apply State.loopMiss_holds
    | with_reducible apply State.modCtx_holds | with_reducible apply State.swapLatched_holds | intro _
    | with_reducible refine Holds.step ?_ ?_
    | fail_if_no_progress with_reducible refine Holds.mk' ?_ rfl rfl rfl rfl rfl rfl rfl rfl rfl rfl | split
    | dsimp only

theorem State.loopRelatch_holds (h : Holds q s) : Holds q (State.loopRelatch s) := by
  unfold State.loopRelatch
  repeat' first
    | with_reducible assumption | with_reducible apply State.modCtx_holds
    | with_reducible apply State.swapLatched_holds | with_reducible apply Holds.foldl | intro _
    | with_reducible refine Holds.step ?_ ?_
    | fail_if_no_progress with_reducible refine Holds.mk' ?_ rfl rfl rfl rfl rfl rfl rfl rfl rfl rfl | split

theorem State.loopTrigger_holds (h : Holds q s) : ∀ x0, Holds q (State.loopTrigger x0 s) := by
  intro x0; unfold State.loopTrigger
  repeat' first
    | with_reducible assumption | with_reducible apply State.latchSet_holds
    | with_reducible apply State.modCtx_holds | with_reducible apply State.loopSample_holds | intro _
    | with_reducible refine Holds.step ?_ ?_
    | fail_if_no_progress with_reducible refine Holds.mk' ?_ rfl rfl rfl rfl rfl rfl rfl rfl rfl rfl | split

theorem State.loopTime_holds (h : Holds q s) : ∀ x0, Holds q (State.loopTime x0 s) := by
  intro x0; unfold State.loopTime
  repeat' first
    | with_reducible assumption | with_reducible apply State.loopSample_holds | intro _
    | with_reducible refine Holds.step ?_ ?_
    | fail_if_no_progress with_reducible refine Holds.mk' ?_ rfl rfl rfl rfl rfl rfl rfl rfl rfl rfl | split

theorem State.loopBegin_holds (h : Holds q s) : Holds q (State.loopBegin s) := by
  unfold State.loopBegin
  repeat' first
    | with_reducible assumption | with_reducible apply Expiry.run_holds
    | with_reducible apply State.modCtx_holds | intro _ | with_reducible refine Holds.step ?_ ?_
    | fail_if_no_progress with_reducible refine Holds.mk' ?_ rfl rfl rfl rfl rfl rfl rfl rfl rfl rfl | split

theorem State.loopMissed_holds (h : Holds q s) : ∀ x0, Holds q (State.loopMissed x0 s) := by
  intro x0; unfold State.loopMissed
  repeat' first
    | with_reducible assumption | with_reducible apply State.loopMiss_holds | intro _
    | with_reducible refine Holds.step ?_ ?_
    | fail_if_no_progress with_reducible refine Holds.mk' ?_ rfl rfl rfl rfl rfl rfl rfl rfl rfl rfl | split

theorem State.loopCommit_holds (h : Holds q s) : ∀ x0 x1, Holds q (State.loopCommit x0 x1 s) := by
  intro x0 x1; unfold State.loopCommit
  repeat' first
    | with_reducible assumption | with_reducible apply State.modCtx_holds
    | with_reducible apply State.parityFresh_holds | with_reducible apply State.latchSet_holds
    | with_reducible apply State.record_holds | with_reducible apply State.writeSlot_holds | intro _
    | with_reducible refine Holds.step ?_ ?_
    | fail_if_no_progress with_reducible refine Holds.mk' ?_ rfl rfl rfl rfl rfl rfl rfl rfl rfl rfl | split

theorem State.loopAck_holds (h : Holds q s) : ∀ x0, Holds q (State.loopAck x0 s) := by
  intro x0; unfold State.loopAck
  repeat' first
    | with_reducible assumption | with_reducible apply State.modCtx_holds
    | with_reducible apply State.record_holds | intro _ | with_reducible refine Holds.step ?_ ?_
    | fail_if_no_progress with_reducible refine Holds.mk' ?_ rfl rfl rfl rfl rfl rfl rfl rfl rfl rfl | split

theorem State.loopCoef_holds (h : Holds q s) : ∀ x0 x1, Holds q (State.loopCoef x0 x1 s) := by
  intro x0 x1; unfold State.loopCoef
  repeat' first
    | with_reducible assumption | with_reducible apply refuse_holds | with_reducible apply State.modCtx_holds
    | with_reducible apply State.latchSet_holds | with_reducible apply State.record_holds
    | with_reducible apply State.parityFresh_holds | intro _ | with_reducible refine Holds.step ?_ ?_
    | fail_if_no_progress with_reducible refine Holds.mk' ?_ rfl rfl rfl rfl rfl rfl rfl rfl rfl rfl | split

theorem State.confLoop_holds (h : Holds q s) : Holds q (State.confLoop s) := by
  unfold State.confLoop
  repeat' first
    | with_reducible assumption | intro _
    | fail_if_no_progress with_reducible refine Holds.mk' ?_ rfl rfl rfl rfl rfl rfl rfl rfl rfl rfl

theorem State.loopDrop_holds (h : Holds q s) : Holds q (State.loopDrop s) := by
  unfold State.loopDrop
  repeat' first
    | with_reducible assumption | with_reducible apply Expiry.run_holds | intro _
    | fail_if_no_progress with_reducible refine Holds.mk' ?_ rfl rfl rfl rfl rfl rfl rfl rfl rfl rfl

theorem State.leaveLoop_holds (h : Holds q s) : Holds q (State.leaveLoop s) := by
  unfold State.leaveLoop
  repeat' first | with_reducible assumption | with_reducible apply State.loopDrop_holds

theorem State.stopLoop_holds (h : Holds q s) : Holds q (State.stopLoop s) := by
  unfold State.stopLoop
  repeat' first
    | with_reducible assumption | with_reducible apply State.loopDrop_holds
    | with_reducible apply State.r38_holds | intro _
    | fail_if_no_progress with_reducible refine Holds.mk' ?_ rfl rfl rfl rfl rfl rfl rfl rfl rfl rfl

theorem State.retryLoop_holds (h : Holds q s) : Holds q (State.retryLoop s) := by
  unfold State.retryLoop
  repeat' first
    | with_reducible assumption | with_reducible apply State.restart_holds | intro _
    | fail_if_no_progress with_reducible refine Holds.mk' ?_ rfl rfl rfl rfl rfl rfl rfl rfl rfl rfl

theorem State.reinitLoop_holds (h : Holds q s) : Holds q (State.reinitLoop s) := by
  unfold State.reinitLoop
  repeat' first
    | with_reducible assumption | with_reducible apply State.restart_holds | intro _
    | fail_if_no_progress with_reducible refine Holds.mk' ?_ rfl rfl rfl rfl rfl rfl rfl rfl rfl rfl

theorem State.applyLoop_holds (h : Holds q s) : ∀ x0, Holds q (State.applyLoop x0 s) := by
  intro x0; unfold State.applyLoop
  repeat' first
    | with_reducible assumption | intro _
    | fail_if_no_progress with_reducible refine Holds.mk' ?_ rfl rfl rfl rfl rfl rfl rfl rfl rfl rfl

theorem State.enterLoop_holds (h : Holds q s) : Holds q (State.enterLoop s) := by
  unfold State.enterLoop
  repeat' first
    | with_reducible assumption | with_reducible apply State.reinitLoop_holds
    | with_reducible apply State.applyLoop_holds | with_reducible apply State.restart_holds | intro _
    | with_reducible refine Holds.step ?_ ?_
    | fail_if_no_progress with_reducible refine Holds.mk' ?_ rfl rfl rfl rfl rfl rfl rfl rfl rfl rfl

theorem State.switchLoop_holds (h : Holds q s) : ∀ x0, Holds q (State.switchLoop x0 s) := by
  intro x0; unfold State.switchLoop
  repeat' first
    | with_reducible assumption | with_reducible apply State.restart_holds
    | with_reducible apply Expiry.run_holds | intro _ | with_reducible refine Holds.step ?_ ?_
    | fail_if_no_progress with_reducible refine Holds.mk' ?_ rfl rfl rfl rfl rfl rfl rfl rfl rfl rfl

end Sys2Proof.Machine
end

