-- ==== Sys2Proof/Laws/KeptFldOps.lean ====
section
/-! SUPPORT. What the operations of Machine/FldOps.lean keep. -/

namespace Sys2Proof.Machine

variable {q : Bounds} {s : State}

theorem State.modAi_holds (h : Holds q s) : ∀ x0 x1, Holds q (State.modAi x0 x1 s) := by
  intro x0 x1; unfold State.modAi
  repeat' first
    | with_reducible assumption | intro _
    | fail_if_no_progress with_reducible refine Holds.mk' ?_ rfl rfl rfl rfl rfl rfl rfl rfl rfl rfl

theorem State.modAo_holds (h : Holds q s) : ∀ x0 x1, Holds q (State.modAo x0 x1 s) := by
  intro x0 x1; unfold State.modAo
  repeat' first
    | with_reducible assumption | intro _
    | fail_if_no_progress with_reducible refine Holds.mk' ?_ rfl rfl rfl rfl rfl rfl rfl rfl rfl rfl

theorem State.modDio_holds (h : Holds q s) : ∀ x0 x1, Holds q (State.modDio x0 x1 s) := by
  intro x0 x1; unfold State.modDio
  repeat' first
    | with_reducible assumption | intro _
    | fail_if_no_progress with_reducible refine Holds.mk' ?_ rfl rfl rfl rfl rfl rfl rfl rfl rfl rfl

theorem State.aiStatus_holds (h : Holds q s) : ∀ x0, Holds q (State.aiStatus x0 s) := by
  intro x0; unfold State.aiStatus
  repeat' first
    | with_reducible assumption | with_reducible apply State.writeOpt_holds | intro _
    | fail_if_no_progress with_reducible refine Holds.mk' ?_ rfl rfl rfl rfl rfl rfl rfl rfl rfl rfl | split

theorem State.aiResult_holds (h : Holds q s) : ∀ x0 x1 x2, Holds q (State.aiResult x0 x1 x2 s) := by
  intro x0 x1 x2; unfold State.aiResult
  repeat' first
    | with_reducible assumption | with_reducible apply State.restart_holds
    | with_reducible apply State.latchSet_holds | with_reducible apply State.modAi_holds
    | with_reducible apply State.writeOpt_holds | with_reducible apply State.aiStatus_holds | intro _
    | with_reducible refine Holds.step ?_ ?_
    | fail_if_no_progress with_reducible refine Holds.mk' ?_ rfl rfl rfl rfl rfl rfl rfl rfl rfl rfl | split

theorem State.aiScan_holds (h : Holds q s) : ∀ x0 x1, Holds q (State.aiScan x0 x1 s) := by
  intro x0 x1; unfold State.aiScan
  repeat' first
    | with_reducible assumption | with_reducible apply State.aiResult_holds | with_reducible apply Holds.foldl
    | intro _ | with_reducible refine Holds.step ?_ ?_
    | fail_if_no_progress with_reducible refine Holds.mk' ?_ rfl rfl rfl rfl rfl rfl rfl rfl rfl rfl

theorem State.aiTrigger_holds (h : Holds q s) : ∀ x0, Holds q (State.aiTrigger x0 s) := by
  intro x0; unfold State.aiTrigger
  repeat' first
    | with_reducible assumption | with_reducible apply State.latchSet_holds
    | with_reducible apply State.modAi_holds | intro _ | with_reducible refine Holds.step ?_ ?_
    | fail_if_no_progress with_reducible refine Holds.mk' ?_ rfl rfl rfl rfl rfl rfl rfl rfl rfl rfl | split

theorem State.aiCommit_holds (h : Holds q s) : ∀ x0 x1 x2, Holds q (State.aiCommit x0 x1 x2 s) := by
  intro x0 x1 x2; unfold State.aiCommit
  repeat' first
    | with_reducible assumption | with_reducible apply State.modAi_holds
    | with_reducible apply State.aiResult_holds | intro _ | with_reducible refine Holds.step ?_ ?_
    | fail_if_no_progress with_reducible refine Holds.mk' ?_ rfl rfl rfl rfl rfl rfl rfl rfl rfl rfl | split

theorem State.modModem_holds (h : Holds q s) : ∀ x0 x1, Holds q (State.modModem x0 x1 s) := by
  intro x0 x1; unfold State.modModem
  repeat' first
    | with_reducible assumption | intro _ | with_reducible refine Holds.step ?_ ?_
    | fail_if_no_progress with_reducible refine Holds.mk' ?_ rfl rfl rfl rfl rfl rfl rfl rfl rfl rfl

theorem State.hartStart_holds (h : Holds q s) : ∀ x0, Holds q (State.hartStart x0 s) := by
  intro x0; unfold State.hartStart
  repeat' first
    | with_reducible assumption | with_reducible apply Expiry.run_holds
    | with_reducible apply State.modModem_holds | intro _ | with_reducible refine Holds.step ?_ ?_
    | fail_if_no_progress with_reducible refine Holds.mk' ?_ rfl rfl rfl rfl rfl rfl rfl rfl rfl rfl | split
    | dsimp only

theorem State.hartMark_holds (h : Holds q s) : ∀ x0 x1 x2 x3, Holds q (State.hartMark x0 x1 x2 x3 s) := by
  intro x0 x1 x2 x3; unfold State.hartMark
  repeat' first
    | with_reducible assumption | with_reducible apply State.modAo_holds | with_reducible apply ok_holds
    | with_reducible apply State.modAi_holds | intro _ | with_reducible refine Holds.step ?_ ?_

theorem State.hartFail_holds (h : Holds q s) : ∀ x0 x1, Holds q (State.hartFail x0 x1 s) := by
  intro x0 x1; unfold State.hartFail
  repeat' first
    | with_reducible assumption | with_reducible apply Expiry.run_holds
    | with_reducible apply State.modAo_holds | with_reducible apply State.latchSet_holds
    | with_reducible apply State.modAi_holds | with_reducible apply State.modModem_holds
    | with_reducible apply State.hartMark_holds | with_reducible apply State.answer_holds | intro _
    | with_reducible refine Holds.step ?_ ?_
    | fail_if_no_progress with_reducible refine Holds.mk' ?_ rfl rfl rfl rfl rfl rfl rfl rfl rfl rfl | split

theorem State.hartWrite_holds (h : Holds q s) : ∀ x0 x1 x2 x3 x4, Holds q (State.hartWrite x0 x1 x2 x3 x4 s) := by
  intro x0 x1 x2 x3 x4; unfold State.hartWrite
  repeat' first
    | with_reducible assumption | with_reducible apply State.writeRef_holds | with_reducible apply Holds.foldl
    | intro _ | with_reducible refine Holds.step ?_ ?_
    | fail_if_no_progress with_reducible refine Holds.mk' ?_ rfl rfl rfl rfl rfl rfl rfl rfl rfl rfl

theorem State.hartResponse_holds (h : Holds q s) :
    ∀ x0 x1 x2 x3 x4, Holds q (State.hartResponse x0 x1 x2 x3 x4 s) := by
  intro x0 x1 x2 x3 x4; unfold State.hartResponse
  repeat' first
    | with_reducible assumption | with_reducible apply Expiry.run_holds
    | with_reducible apply State.hartFail_holds | with_reducible apply State.modModem_holds
    | with_reducible apply State.hartMark_holds | with_reducible apply State.answer_holds
    | with_reducible apply State.hartWrite_holds | intro _ | with_reducible refine Holds.step ?_ ?_
    | fail_if_no_progress with_reducible refine Holds.mk' ?_ rfl rfl rfl rfl rfl rfl rfl rfl rfl rfl | split

theorem State.hartTimeout_holds (h : Holds q s) : ∀ x0, Holds q (State.hartTimeout x0 s) := by
  intro x0; unfold State.hartTimeout
  repeat' first
    | with_reducible assumption | with_reducible apply Expiry.run_holds
    | with_reducible apply State.freeW32_holds | with_reducible apply State.hartFail_holds | intro _
    | with_reducible refine Holds.step ?_ ?_
    | fail_if_no_progress with_reducible refine Holds.mk' ?_ rfl rfl rfl rfl rfl rfl rfl rfl rfl rfl | split

theorem State.hartStale_holds (h : Holds q s) : ∀ x0, Holds q (State.hartStale x0 s) := by
  intro x0; unfold State.hartStale
  repeat' first
    | with_reducible assumption | with_reducible apply State.writeRef_holds | intro _
    | with_reducible refine Holds.step ?_ ?_
    | fail_if_no_progress with_reducible refine Holds.mk' ?_ rfl rfl rfl rfl rfl rfl rfl rfl rfl rfl | split

theorem State.hartStop_holds (h : Holds q s) : ∀ x0 x1, Holds q (State.hartStop x0 x1 s) := by
  intro x0 x1; unfold State.hartStop
  repeat' first
    | with_reducible assumption | with_reducible apply Expiry.run_holds
    | with_reducible apply State.freeW32_holds | with_reducible apply State.answer_holds
    | with_reducible apply Holds.foldl | intro _ | with_reducible refine Holds.step ?_ ?_
    | fail_if_no_progress with_reducible refine Holds.mk' ?_ rfl rfl rfl rfl rfl rfl rfl rfl rfl rfl

theorem State.aoFrame_holds (h : Holds q s) : ∀ x0, Holds q (State.aoFrame x0 s) := by
  intro x0; unfold State.aoFrame
  repeat' first
    | with_reducible assumption | with_reducible apply State.modAo_holds | intro _
    | with_reducible refine Holds.step ?_ ?_

theorem State.aoFrameTimeout_holds (h : Holds q s) : ∀ x0, Holds q (State.aoFrameTimeout x0 s) := by
  intro x0; unfold State.aoFrameTimeout
  repeat' first
    | with_reducible assumption | with_reducible apply State.modAo_holds

theorem State.aoHoldExpire_holds (h : Holds q s) : ∀ x0, Holds q (State.aoHoldExpire x0 s) := by
  intro x0; unfold State.aoHoldExpire
  repeat' first
    | with_reducible assumption | with_reducible apply State.modAo_holds

theorem State.aoPower_holds (h : Holds q s) : ∀ x0, Holds q (State.aoPower x0 s) := by
  intro x0; unfold State.aoPower
  repeat' first
    | with_reducible assumption | with_reducible apply State.modAo_holds

theorem State.aoMeasure_holds (h : Holds q s) : ∀ x0 x1 x2 x3, Holds q (State.aoMeasure x0 x1 x2 x3 s) := by
  intro x0 x1 x2 x3; unfold State.aoMeasure
  repeat' first
    | with_reducible assumption | with_reducible apply State.modAo_holds
    | with_reducible apply State.writeOpt_holds | intro _ | with_reducible refine Holds.step ?_ ?_
    | fail_if_no_progress with_reducible refine Holds.mk' ?_ rfl rfl rfl rfl rfl rfl rfl rfl rfl rfl | split

theorem State.aoStatus_holds (h : Holds q s) : ∀ x0, Holds q (State.aoStatus x0 s) := by
  intro x0; unfold State.aoStatus
  repeat' first
    | with_reducible assumption | with_reducible apply State.writeOpt_holds | intro _
    | fail_if_no_progress with_reducible refine Holds.mk' ?_ rfl rfl rfl rfl rfl rfl rfl rfl rfl rfl | split

theorem State.aoCompliance_holds (h : Holds q s) : ∀ x0 x1 x2, Holds q (State.aoCompliance x0 x1 x2 s) := by
  intro x0 x1 x2; unfold State.aoCompliance
  repeat' first
    | with_reducible assumption | with_reducible apply State.latchSet_holds
    | with_reducible apply State.modAo_holds | with_reducible apply State.record_holds | intro _
    | with_reducible refine Holds.step ?_ ?_
    | fail_if_no_progress with_reducible refine Holds.mk' ?_ rfl rfl rfl rfl rfl rfl rfl rfl rfl rfl | split

theorem State.aoComplianceClear_holds (h : Holds q s) : ∀ x0, Holds q (State.aoComplianceClear x0 s) := by
  intro x0; unfold State.aoComplianceClear
  repeat' first
    | with_reducible assumption | with_reducible apply State.modAo_holds | intro _
    | with_reducible refine Holds.step ?_ ?_

theorem State.aoClockStep_holds (h : Holds q s) : ∀ x0 x1, Holds q (State.aoClockStep x0 x1 s) := by
  intro x0 x1; unfold State.aoClockStep
  repeat' first
    | with_reducible assumption | with_reducible apply State.modAo_holds

theorem State.aoTest_holds (h : Holds q s) : ∀ x0, Holds q (State.aoTest x0 s) := by
  intro x0; unfold State.aoTest
  repeat' first
    | with_reducible assumption | with_reducible apply State.modAo_holds | intro _
    | with_reducible refine Holds.step ?_ ?_

theorem State.aoRestart_holds (h : Holds q s) : ∀ x0, Holds q (State.aoRestart x0 s) := by
  intro x0; unfold State.aoRestart
  repeat' first
    | with_reducible assumption | with_reducible apply State.modAo_holds
    | with_reducible apply State.aoFrame_holds | intro _
    | fail_if_no_progress with_reducible refine Holds.mk' ?_ rfl rfl rfl rfl rfl rfl rfl rfl rfl rfl | split

theorem State.dioLook_holds (h : Holds q s) : Holds q (State.dioLook s) := by
  unfold State.dioLook
  repeat' first
    | with_reducible assumption | intro _
    | fail_if_no_progress with_reducible refine Holds.mk' ?_ rfl rfl rfl rfl rfl rfl rfl rfl rfl rfl

theorem State.dioWrite_holds (h : Holds q s) : ∀ x0, Holds q (State.dioWrite x0 s) := by
  intro x0; unfold State.dioWrite
  repeat' first
    | with_reducible assumption | with_reducible apply State.writeOpt_holds

theorem State.dioAccept_holds (h : Holds q s) : ∀ x0 x1 x2, Holds q (State.dioAccept x0 x1 x2 s) := by
  intro x0 x1 x2; unfold State.dioAccept
  repeat' first
    | with_reducible assumption | with_reducible apply State.modDio_holds
    | with_reducible apply State.dioWrite_holds | intro _ | with_reducible refine Holds.step ?_ ?_
    | fail_if_no_progress with_reducible refine Holds.mk' ?_ rfl rfl rfl rfl rfl rfl rfl rfl rfl rfl | split

theorem State.dioSupply_holds (h : Holds q s) : ∀ x0 x1, Holds q (State.dioSupply x0 x1 s) := by
  intro x0 x1; unfold State.dioSupply
  repeat' first
    | with_reducible assumption | with_reducible apply ok_holds | with_reducible apply State.dioWrite_holds
    | with_reducible apply State.writeOpt_holds | with_reducible apply Holds.foldl | intro _
    | with_reducible refine Holds.step ?_ ?_
    | fail_if_no_progress with_reducible refine Holds.mk' ?_ rfl rfl rfl rfl rfl rfl rfl rfl rfl rfl

theorem State.confFld_holds (h : Holds q s) : Holds q (State.confFld s) := by
  unfold State.confFld
  repeat' first
    | with_reducible assumption | with_reducible apply State.restart_holds
    | with_reducible apply State.dioWrite_holds | with_reducible apply Holds.foldl | intro _
    | fail_if_no_progress with_reducible refine Holds.mk' ?_ rfl rfl rfl rfl rfl rfl rfl rfl rfl rfl

theorem State.stopAi_holds (h : Holds q s) : ∀ x0, Holds q (State.stopAi x0 s) := by
  intro x0; unfold State.stopAi
  repeat' first
    | with_reducible assumption | with_reducible apply State.modAi_holds
    | with_reducible apply State.hartStop_holds | with_reducible apply State.r38_holds
    | with_reducible apply State.aiStatus_holds | with_reducible apply Holds.foldl | intro _
    | with_reducible refine Holds.step ?_ ?_
    | fail_if_no_progress with_reducible refine Holds.mk' ?_ rfl rfl rfl rfl rfl rfl rfl rfl rfl rfl | split

theorem State.stopAo_holds (h : Holds q s) : ∀ x0, Holds q (State.stopAo x0 s) := by
  intro x0; unfold State.stopAo
  repeat' first
    | with_reducible assumption | with_reducible apply State.modAo_holds
    | with_reducible apply State.hartStop_holds | with_reducible apply State.r38_holds
    | with_reducible apply State.aoStatus_holds | with_reducible apply Holds.foldl | intro _
    | with_reducible refine Holds.step ?_ ?_
    | fail_if_no_progress with_reducible refine Holds.mk' ?_ rfl rfl rfl rfl rfl rfl rfl rfl rfl rfl | split

theorem State.stopDio_holds (h : Holds q s) : ∀ x0, Holds q (State.stopDio x0 s) := by
  intro x0; unfold State.stopDio
  repeat' first
    | with_reducible assumption | with_reducible apply State.latchSet_holds
    | with_reducible apply State.modDio_holds | with_reducible apply State.r38_holds
    | with_reducible apply State.writeSlot_holds | with_reducible apply Holds.foldl | intro _
    | fail_if_no_progress with_reducible refine Holds.mk' ?_ rfl rfl rfl rfl rfl rfl rfl rfl rfl rfl | split

theorem State.retryAi_holds (h : Holds q s) : ∀ x0, Holds q (State.retryAi x0 s) := by
  intro x0; unfold State.retryAi
  repeat' first
    | with_reducible assumption | with_reducible apply State.restart_holds | intro _
    | with_reducible refine Holds.step ?_ ?_
    | fail_if_no_progress with_reducible refine Holds.mk' ?_ rfl rfl rfl rfl rfl rfl rfl rfl rfl rfl

theorem State.retryAo_holds (h : Holds q s) : ∀ x0, Holds q (State.retryAo x0 s) := by
  intro x0; unfold State.retryAo
  repeat' first
    | with_reducible assumption | with_reducible apply State.aoRestart_holds
    | with_reducible apply Holds.foldl | intro _ | with_reducible refine Holds.step ?_ ?_
    | fail_if_no_progress with_reducible refine Holds.mk' ?_ rfl rfl rfl rfl rfl rfl rfl rfl rfl rfl

theorem State.retryDio_holds (h : Holds q s) : ∀ x0, Holds q (State.retryDio x0 s) := by
  intro x0; unfold State.retryDio
  repeat' first
    | with_reducible assumption | with_reducible apply State.dioWrite_holds | with_reducible apply Holds.foldl
    | intro _ | with_reducible refine Holds.step ?_ ?_
    | fail_if_no_progress with_reducible refine Holds.mk' ?_ rfl rfl rfl rfl rfl rfl rfl rfl rfl rfl

theorem State.hartForget_holds (h : Holds q s) : ∀ x0, Holds q (State.hartForget x0 s) := by
  intro x0; unfold State.hartForget
  repeat' first
    | with_reducible assumption | intro _ | with_reducible refine Holds.step ?_ ?_
    | fail_if_no_progress with_reducible refine Holds.mk' ?_ rfl rfl rfl rfl rfl rfl rfl rfl rfl rfl

theorem State.reinitAi_holds (h : Holds q s) : ∀ x0, Holds q (State.reinitAi x0 s) := by
  intro x0; unfold State.reinitAi
  repeat' first
    | with_reducible assumption | with_reducible apply State.retryAi_holds
    | with_reducible apply State.hartForget_holds | intro _ | with_reducible refine Holds.step ?_ ?_
    | fail_if_no_progress with_reducible refine Holds.mk' ?_ rfl rfl rfl rfl rfl rfl rfl rfl rfl rfl

theorem State.reinitAo_holds (h : Holds q s) : ∀ x0, Holds q (State.reinitAo x0 s) := by
  intro x0; unfold State.reinitAo
  repeat' first
    | with_reducible assumption | with_reducible apply State.retryAo_holds | intro _
    | with_reducible refine Holds.step ?_ ?_
    | fail_if_no_progress with_reducible refine Holds.mk' ?_ rfl rfl rfl rfl rfl rfl rfl rfl rfl rfl

theorem State.reinitDio_holds (h : Holds q s) : ∀ x0, Holds q (State.reinitDio x0 s) := by
  intro x0; unfold State.reinitDio
  repeat' first
    | with_reducible assumption | with_reducible apply State.retryDio_holds | intro _
    | with_reducible refine Holds.step ?_ ?_
    | fail_if_no_progress with_reducible refine Holds.mk' ?_ rfl rfl rfl rfl rfl rfl rfl rfl rfl rfl

theorem State.aoNoPower_holds (h : Holds q s) : Holds q (State.aoNoPower s) := by
  unfold State.aoNoPower
  repeat' first
    | with_reducible assumption | with_reducible apply State.latchSet_holds
    | with_reducible apply State.modAo_holds | with_reducible apply Holds.foldl | intro _

theorem State.enterFld_holds (h : Holds q s) : Holds q (State.enterFld s) := by
  unfold State.enterFld
  repeat' first | with_reducible assumption | with_reducible apply State.aoNoPower_holds

theorem State.safeFld_holds (h : Holds q s) : Holds q (State.safeFld s) := by
  unfold State.safeFld
  repeat' first | with_reducible assumption | with_reducible apply State.aoNoPower_holds

theorem State.leaveFld_holds (h : Holds q s) : Holds q (State.leaveFld s) := by
  unfold State.leaveFld
  repeat' first
    | with_reducible assumption | intro _
    | fail_if_no_progress with_reducible refine Holds.mk' ?_ rfl rfl rfl rfl rfl rfl rfl rfl rfl rfl

end Sys2Proof.Machine
end

