-- ==== Sys2Proof/Laws/KeptRioOps.lean ====
section
/-! SUPPORT. What the operations of Machine/RioOps.lean keep. -/

namespace Sys2Proof.Machine

variable {q : Bounds} {s : State}

theorem State.modCan_holds (h : Holds q s) : ∀ x0 x1, Holds q (State.modCan x0 x1 s) := by
  intro x0 x1; unfold State.modCan
  repeat' first
    | with_reducible assumption | intro _
    | fail_if_no_progress with_reducible refine Holds.mk' ?_ rfl rfl rfl rfl rfl rfl rfl rfl rfl rfl

theorem State.modStations_holds (h : Holds q s) : ∀ x0 x1, Holds q (State.modStations x0 x1 s) := by
  intro x0 x1; unfold State.modStations
  repeat' first
    | with_reducible assumption | with_reducible apply State.modCan_holds | intro _
    | with_reducible refine Holds.step ?_ ?_
    | fail_if_no_progress with_reducible refine Holds.mk' ?_ rfl rfl rfl rfl rfl rfl rfl rfl rfl rfl

theorem State.modStation_holds (h : Holds q s) : ∀ x0 x1 x2, Holds q (State.modStation x0 x1 x2 s) := by
  intro x0 x1 x2; unfold State.modStation
  repeat' first
    | with_reducible assumption | with_reducible apply State.modStations_holds

theorem State.setSync_holds (h : Holds q s) : ∀ x0 x1, Holds q (State.setSync x0 x1 s) := by
  intro x0 x1; unfold State.setSync
  repeat' first
    | with_reducible assumption | with_reducible apply State.modCan_holds | intro _
    | with_reducible refine Holds.step ?_ ?_
    | fail_if_no_progress with_reducible refine Holds.mk' ?_ rfl rfl rfl rfl rfl rfl rfl rfl rfl rfl

theorem State.putMaps_holds (h : Holds q s) : ∀ x0 x1 x2, Holds q (State.putMaps x0 x1 x2 s) := by
  intro x0 x1 x2; unfold State.putMaps
  repeat' first
    | with_reducible assumption | with_reducible apply State.writeSlot_holds
    | with_reducible apply Holds.foldl | intro _

theorem State.rioStale_holds (h : Holds q s) : ∀ x0 x1, Holds q (State.rioStale x0 x1 s) := by
  intro x0 x1; unfold State.rioStale
  repeat' first
    | with_reducible assumption | with_reducible apply State.writeSlot_holds
    | with_reducible apply State.modStation_holds | with_reducible apply Holds.foldl | intro _

theorem State.rioCancel_holds (h : Holds q s) : ∀ x0 x1, Holds q (State.rioCancel x0 x1 s) := by
  intro x0 x1; unfold State.rioCancel
  repeat' first
    | with_reducible assumption | with_reducible apply State.modStation_holds
    | with_reducible apply State.modCan_holds | intro _ | with_reducible refine Holds.step ?_ ?_

theorem State.rioLose_holds (h : Holds q s) : ∀ x0 x1, Holds q (State.rioLose x0 x1 s) := by
  intro x0 x1; unfold State.rioLose
  repeat' first
    | with_reducible assumption | with_reducible apply State.modStation_holds
    | with_reducible apply State.rioStale_holds | with_reducible apply State.rioCancel_holds
    | with_reducible apply State.record_holds | intro _ | with_reducible refine Holds.step ?_ ?_
    | fail_if_no_progress with_reducible refine Holds.mk' ?_ rfl rfl rfl rfl rfl rfl rfl rfl rfl rfl | split

theorem State.rioUnreachable_holds (h : Holds q s) : ∀ x0, Holds q (State.rioUnreachable x0 s) := by
  intro x0; unfold State.rioUnreachable
  repeat' first
    | with_reducible assumption | with_reducible apply State.rioLose_holds | with_reducible apply Holds.foldl
    | intro _

theorem State.rioMiss_holds (h : Holds q s) : ∀ x0 x1, Holds q (State.rioMiss x0 x1 s) := by
  intro x0 x1; unfold State.rioMiss
  repeat' first
    | with_reducible assumption | with_reducible apply State.modStation_holds
    | with_reducible apply State.rioStale_holds | with_reducible apply State.rioLose_holds | intro _
    | with_reducible refine Holds.step ?_ ?_
    | fail_if_no_progress with_reducible refine Holds.mk' ?_ rfl rfl rfl rfl rfl rfl rfl rfl rfl rfl | split
    | dsimp only

theorem State.rioSubst_holds (h : Holds q s) : ∀ x0 x1, Holds q (State.rioSubst x0 x1 s) := by
  intro x0 x1; unfold State.rioSubst
  repeat' first
    | with_reducible assumption | with_reducible apply State.putMaps_holds
    | with_reducible apply State.modStation_holds

theorem State.rioJudge_holds (h : Holds q s) : ∀ x0 x1, Holds q (State.rioJudge x0 x1 s) := by
  intro x0 x1; unfold State.rioJudge
  repeat' first
    | with_reducible assumption | with_reducible apply State.rioMiss_holds
    | with_reducible apply State.rioSubst_holds | with_reducible apply Holds.foldl | intro _
    | with_reducible refine Holds.step ?_ ?_
    | fail_if_no_progress with_reducible refine Holds.mk' ?_ rfl rfl rfl rfl rfl rfl rfl rfl rfl rfl | split
    | dsimp only

theorem State.rioArrive_holds (h : Holds q s) : ∀ x0 x1 x2 x3, Holds q (State.rioArrive x0 x1 x2 x3 s) := by
  intro x0 x1 x2 x3; unfold State.rioArrive
  repeat' first
    | with_reducible assumption | with_reducible apply State.putMaps_holds
    | with_reducible apply State.modStation_holds | with_reducible apply State.record_holds | intro _
    | with_reducible refine Holds.step ?_ ?_
    | fail_if_no_progress with_reducible refine Holds.mk' ?_ rfl rfl rfl rfl rfl rfl rfl rfl rfl rfl | split

theorem State.rioSyncIn_holds (h : Holds q s) : ∀ x0 x1, Holds q (State.rioSyncIn x0 x1 s).2 := by
  intro x0 x1; unfold State.rioSyncIn
  repeat' first
    | with_reducible assumption | with_reducible apply State.setSync_holds
    | with_reducible apply State.modStation_holds | with_reducible apply State.rioMiss_holds | split | dsimp only

theorem State.rioSyncTimeout_holds (h : Holds q s) : ∀ x0, Holds q (State.rioSyncTimeout x0 s) := by
  intro x0; unfold State.rioSyncTimeout
  repeat' first
    | with_reducible assumption | with_reducible apply State.rioUnreachable_holds | intro _
    | with_reducible refine Holds.step ?_ ?_

theorem State.rioHoldExpire_holds (h : Holds q s) : ∀ x0, Holds q (State.rioHoldExpire x0 s) := by
  intro x0; unfold State.rioHoldExpire
  repeat' first
    | with_reducible assumption | with_reducible apply State.rioSubst_holds | with_reducible apply Holds.foldl
    | intro _ | with_reducible refine Holds.step ?_ ?_
    | fail_if_no_progress with_reducible refine Holds.mk' ?_ rfl rfl rfl rfl rfl rfl rfl rfl rfl rfl | split

theorem State.rioEnter_holds (h : Holds q s) : ∀ x0 x1, Holds q (State.rioEnter x0 x1 s) := by
  intro x0 x1; unfold State.rioEnter
  repeat' first
    | with_reducible assumption | with_reducible apply State.setSync_holds
    | with_reducible apply State.modStations_holds | with_reducible apply State.modStation_holds
    | with_reducible apply State.rioStale_holds | with_reducible apply Holds.foldl | intro _
    | with_reducible refine Holds.step ?_ ?_

theorem State.rioFail_holds (h : Holds q s) : ∀ x0, Holds q (State.rioFail x0 s) := by
  intro x0; unfold State.rioFail
  repeat' first
    | with_reducible assumption | with_reducible apply State.rioUnreachable_holds
    | with_reducible apply State.writeSlot_holds | with_reducible apply Holds.foldl | intro _
    | fail_if_no_progress with_reducible refine Holds.mk' ?_ rfl rfl rfl rfl rfl rfl rfl rfl rfl rfl | split

theorem State.applySta_holds (h : Holds q s) : ∀ x0, Holds q (State.applySta x0 s) := by
  intro x0; unfold State.applySta
  repeat' first
    | with_reducible assumption | with_reducible apply State.modStation_holds
    | with_reducible apply Holds.foldl | intro _

end Sys2Proof.Machine
end

