-- ==== Sys2Proof/Laws/KeptCanOps.lean ====
section
/-! SUPPORT. What the operations of Machine/CanOps.lean keep. -/

namespace Sys2Proof.Machine

variable {q : Bounds} {s : State}

theorem State.canEvt_holds (h : Holds q s) : ∀ x0 x1 x2, Holds q (State.canEvt x0 x1 x2 s) := by
  intro x0 x1 x2; unfold State.canEvt
  repeat' first
    | with_reducible assumption | with_reducible apply State.latchSet_holds
    | with_reducible apply State.modCan_holds

theorem State.modBuf_holds (h : Holds q s) : ∀ x0 x1 x2, Holds q (State.modBuf x0 x1 x2 s) := by
  intro x0 x1 x2; unfold State.modBuf
  repeat' first
    | with_reducible assumption | with_reducible apply State.modCan_holds

theorem State.canJudge_holds (h : Holds q s) : ∀ x0, Holds q (State.canJudge x0 s) := by
  intro x0; unfold State.canJudge
  repeat' first
    | with_reducible assumption | with_reducible apply State.canEvt_holds
    | with_reducible apply State.record_holds | with_reducible apply State.rioUnreachable_holds
    | with_reducible apply State.modCan_holds | intro _ | with_reducible refine Holds.step ?_ ?_

theorem State.canAlone_holds (h : Holds q s) : ∀ x0, Holds q (State.canAlone x0 s) := by
  intro x0; unfold State.canAlone
  repeat' first
    | with_reducible assumption | with_reducible apply State.canEvt_holds
    | with_reducible apply State.record_holds | with_reducible apply State.rioUnreachable_holds | intro _
    | with_reducible refine Holds.step ?_ ?_

theorem State.canHeard_holds (h : Holds q s) : ∀ x0, Holds q (State.canHeard x0 s) := by
  intro x0; unfold State.canHeard
  repeat' first
    | with_reducible assumption | with_reducible apply State.modCan_holds
    | with_reducible apply State.canEvt_holds | with_reducible apply State.record_holds | intro _
    | with_reducible refine Holds.step ?_ ?_

theorem State.recDown_holds (h : Holds q s) : ∀ n, Holds q (s.recDown n) := by
  intro n
  unfold State.recDown State.freeW32
  dsimp only
  split
  · exact State.modCan_holds (State.freeW32_holds h) _ _
  · exact State.modCan_holds h _ _

theorem State.canRecvError_holds (h : Holds q s) : ∀ x0 x1 x2, Holds q (State.canRecvError x0 x1 x2 s) := by
  intro x0 x1 x2; unfold State.canRecvError
  repeat' first
    | with_reducible assumption | with_reducible apply State.modCan_holds
    | with_reducible apply State.canJudge_holds | intro _ | with_reducible refine Holds.step ?_ ?_

theorem State.canIntegrated_holds (h : Holds q s) : ∀ x0, Holds q (State.canIntegrated x0 s) := by
  intro x0; unfold State.canIntegrated
  repeat' first
    | with_reducible assumption | with_reducible apply State.modCan_holds | intro _
    | with_reducible refine Holds.step ?_ ?_

theorem State.canBack_holds (h : Holds q s) : ∀ x0, Holds q (State.canBack x0 s) := by
  intro x0; unfold State.canBack
  repeat' first
    | with_reducible assumption | with_reducible apply State.modCan_holds
    | with_reducible apply State.record_holds | intro _ | with_reducible refine Holds.step ?_ ?_

theorem State.canQueue_holds (h : Holds q s) : ∀ x0 x1 x2, Holds q (State.canQueue x0 x1 x2 s) := by
  intro x0 x1 x2; unfold State.canQueue
  repeat' first
    | with_reducible assumption | with_reducible apply State.modCan_holds | intro _
    | with_reducible refine Holds.step ?_ ?_

theorem State.canArbitrate_holds (h : Holds q s) : ∀ x0, Holds q (State.canArbitrate x0 s) := by
  intro x0; unfold State.canArbitrate
  repeat' first
    | with_reducible assumption | with_reducible apply State.modBuf_holds
    | with_reducible apply State.modCan_holds | with_reducible apply State.emit_holds | intro _
    | with_reducible refine Holds.step ?_ ?_
    | fail_if_no_progress with_reducible refine Holds.mk' ?_ rfl rfl rfl rfl rfl rfl rfl rfl rfl rfl | split

theorem State.canAttemptEnd_holds (h : Holds q s) : ∀ x0 x1 x2 x3, Holds q (State.canAttemptEnd x0 x1 x2 x3 s) := by
  intro x0 x1 x2 x3; unfold State.canAttemptEnd
  repeat' first
    | with_reducible assumption | with_reducible apply State.modCan_holds
    | with_reducible apply State.modBuf_holds | with_reducible apply State.canEvt_holds
    | with_reducible apply State.record_holds | with_reducible apply State.canHeard_holds
    | with_reducible apply State.canJudge_holds | with_reducible apply State.canAlone_holds | intro _
    | with_reducible refine Holds.step ?_ ?_
    | fail_if_no_progress with_reducible refine Holds.mk' ?_ rfl rfl rfl rfl rfl rfl rfl rfl rfl rfl | split
    | dsimp only

theorem State.canReq_holds (h : Holds q s) : ∀ x0 x1, Holds q (State.canReq x0 x1 s) := by
  intro x0 x1; unfold State.canReq
  repeat' first
    | with_reducible assumption | with_reducible apply State.canEvt_holds
    | with_reducible apply State.modBuf_holds | intro _ | with_reducible refine Holds.step ?_ ?_

theorem State.canCancel_holds (h : Holds q s) : ∀ x0 x1, Holds q (State.canCancel x0 x1 s) := by
  intro x0 x1; unfold State.canCancel
  repeat' first
    | with_reducible assumption | with_reducible apply State.modBuf_holds

theorem State.canTxbWrite_holds (h : Holds q s) : ∀ x0 x1 x2, Holds q (State.canTxbWrite x0 x1 x2 s) := by
  intro x0 x1 x2; unfold State.canTxbWrite
  repeat' first
    | with_reducible assumption | with_reducible apply State.canEvt_holds
    | with_reducible apply State.modBuf_holds | intro _ | with_reducible refine Holds.step ?_ ?_

theorem State.canFifo_holds (h : Holds q s) : ∀ x0 x1 x2 x3, Holds q (State.canFifo x0 x1 x2 x3 s) := by
  intro x0 x1 x2 x3; unfold State.canFifo
  repeat' first
    | with_reducible assumption | with_reducible apply State.canEvt_holds
    | with_reducible apply State.modCan_holds | with_reducible apply State.record_holds | intro _
    | with_reducible refine Holds.step ?_ ?_

theorem State.canFilter_holds (h : Holds q s) : ∀ x0 x1, Holds q (State.canFilter x0 x1 s) := by
  intro x0 x1; unfold State.canFilter
  repeat' first
    | with_reducible assumption | with_reducible apply State.canFifo_holds | intro _
    | with_reducible refine Holds.step ?_ ?_
    | fail_if_no_progress with_reducible refine Holds.mk' ?_ rfl rfl rfl rfl rfl rfl rfl rfl rfl rfl | split
    | dsimp only

theorem State.canPop_holds (h : Holds q s) : ∀ x0 x1 x2, Holds q (State.canPop x0 x1 x2 s) := by
  intro x0 x1 x2; unfold State.canPop
  repeat' first
    | with_reducible assumption | with_reducible apply State.modCan_holds
    | with_reducible apply State.canEvt_holds | intro _ | with_reducible refine Holds.step ?_ ?_
    | fail_if_no_progress with_reducible refine Holds.mk' ?_ rfl rfl rfl rfl rfl rfl rfl rfl rfl rfl | split
    | dsimp only

theorem State.canRioErr_holds (h : Holds q s) : ∀ x0 x1 x2 x3, Holds q (State.canRioErr x0 x1 x2 x3 s) := by
  intro x0 x1 x2 x3; unfold State.canRioErr
  repeat' first
    | with_reducible assumption | with_reducible apply State.canEvt_holds

theorem State.canRioInput_holds (h : Holds q s) : ∀ x0 x1 x2, Holds q (State.canRioInput x0 x1 x2 s) := by
  intro x0 x1 x2; unfold State.canRioInput
  repeat' first
    | with_reducible assumption | with_reducible apply State.canRioErr_holds
    | with_reducible apply State.rioArrive_holds | intro _ | with_reducible refine Holds.step ?_ ?_
    | fail_if_no_progress with_reducible refine Holds.mk' ?_ rfl rfl rfl rfl rfl rfl rfl rfl rfl rfl | split

theorem State.canRioSync_holds (h : Holds q s) : ∀ n g f, Holds q (s.canRioSync n g f) := by
  intro n g f
  have h1 := State.rioSyncIn_holds h n (rioHead f).1
  unfold State.canRioSync
  dsimp only
  split <;> rename_i heq <;> rw [heq] at h1
  · exact State.canQueue_holds h1 _ _ _
  · exact h1

theorem State.canRioOutput_holds (h : Holds q s) : ∀ x0 x1 x2, Holds q (State.canRioOutput x0 x1 x2 s) := by
  intro x0 x1 x2; unfold State.canRioOutput
  repeat' first
    | with_reducible assumption | with_reducible apply State.canRioErr_holds
    | with_reducible apply State.rioArrive_holds | intro _ | with_reducible refine Holds.step ?_ ?_

theorem State.canConsume_holds (h : Holds q s) {n : Nat} {f : CanFrame} {t : State} (ht : s.canConsume n f = some t) :
    Holds q t := by
  unfold State.canConsume at ht
  dsimp only at ht
  split at ht
  · cases ht
  · split at ht
    · cases ht
    · split at ht
      · split at ht
        · obtain ⟨c, -, rfl⟩ := Option.map_eq_some_iff.mp ht
          exact State.canRioInput_holds h _ _ _
        · cases ht
      · split at ht
        · cases ht
          exact State.canRioSync_holds h _ _ _
        · split at ht
          · obtain ⟨c, -, rfl⟩ := Option.map_eq_some_iff.mp ht
            exact State.canRioOutput_holds h _ _ _
          · cases ht

theorem State.canReceive_holds (h : Holds q s) : ∀ n f, Holds q (s.canReceive n f) := by
  intro n f
  have h1 := State.canJudge_holds (State.canHeard_holds (State.recDown_holds h n) n) n
  unfold State.canReceive
  dsimp only
  split
  · exact h
  · split
    · rename_i heq
      exact State.canConsume_holds h1 heq
    · split
      · exact h1
      · exact State.canFilter_holds h1 _ _

theorem State.canSync_holds (h : Holds q s) : ∀ x0, Holds q (State.canSync x0 s) := by
  intro x0; unfold State.canSync
  repeat' first
    | with_reducible assumption | with_reducible apply State.setSync_holds
    | with_reducible apply State.modStations_holds | with_reducible apply State.canQueue_holds | intro _
    | fail_if_no_progress with_reducible refine Holds.mk' ?_ rfl rfl rfl rfl rfl rfl rfl rfl rfl rfl | split

theorem State.deliverCan_holds (h : Holds q s) : Holds q (State.deliverCan s) := by
  unfold State.deliverCan
  repeat' first
    | with_reducible assumption | with_reducible apply State.modStation_holds
    | with_reducible apply State.canQueue_holds | with_reducible apply Holds.foldl | intro _
    | with_reducible refine Holds.step ?_ ?_
    | fail_if_no_progress with_reducible refine Holds.mk' ?_ rfl rfl rfl rfl rfl rfl rfl rfl rfl rfl | split

theorem State.confCan_holds (h : Holds q s) : Holds q (State.confCan s) := by
  unfold State.confCan
  repeat' first
    | with_reducible assumption | intro _
    | fail_if_no_progress with_reducible refine Holds.mk' ?_ rfl rfl rfl rfl rfl rfl rfl rfl rfl rfl

theorem State.stopCan_holds (h : Holds q s) : ∀ x0, Holds q (State.stopCan x0 s) := by
  intro x0; unfold State.stopCan
  repeat' first
    | with_reducible assumption | with_reducible apply State.rioFail_holds
    | with_reducible apply State.modCan_holds | with_reducible apply State.r38_holds
    | with_reducible apply Holds.foldl | intro _ | with_reducible refine Holds.step ?_ ?_

theorem State.retryCan_holds (h : Holds q s) : ∀ x0, Holds q (State.retryCan x0 s) := by
  intro x0; unfold State.retryCan
  repeat' first
    | with_reducible assumption | with_reducible apply State.modCan_holds | with_reducible apply Holds.foldl
    | intro _

theorem State.reinitCan_holds (h : Holds q s) : ∀ x0, Holds q (State.reinitCan x0 s) := by
  intro x0; unfold State.reinitCan
  repeat' first
    | with_reducible assumption | with_reducible apply State.modCan_holds
    | with_reducible apply State.retryCan_holds | with_reducible apply Holds.foldl | intro _

theorem State.leaveCan_holds (h : Holds q s) : Holds q (State.leaveCan s) := by
  unfold State.leaveCan
  repeat' first
    | with_reducible assumption | intro _ | with_reducible refine Holds.step ?_ ?_
    | fail_if_no_progress with_reducible refine Holds.mk' ?_ rfl rfl rfl rfl rfl rfl rfl rfl rfl rfl

theorem State.enterCan_holds (h : Holds q s) : ∀ x0, Holds q (State.enterCan x0 s) := by
  intro x0; unfold State.enterCan
  repeat' first
    | with_reducible assumption | with_reducible apply State.rioEnter_holds | with_reducible apply Holds.foldl
    | intro _

theorem State.pfCan_holds (h : Holds q s) : Holds q (State.pfCan s) := by
  unfold State.pfCan
  repeat' first
    | with_reducible assumption | intro _
    | fail_if_no_progress with_reducible refine Holds.mk' ?_ rfl rfl rfl rfl rfl rfl rfl rfl rfl rfl

end Sys2Proof.Machine
end

