-- ==== Sys2Proof/Laws/KeptEthOps.lean ====
section
/-! SUPPORT. What the operations of Machine/EthOps.lean keep. -/

namespace Sys2Proof.Machine

variable {q : Bounds} {s : State}

theorem State.ethLink_holds (h : Holds q s) : ∀ x0 x1, Holds q (State.ethLink x0 x1 s) := by
  intro x0 x1; unfold State.ethLink
  repeat' first
    | with_reducible assumption | with_reducible apply State.rioUnreachable_holds | intro _
    | with_reducible refine Holds.step ?_ ?_
    | fail_if_no_progress with_reducible refine Holds.mk' ?_ rfl rfl rfl rfl rfl rfl rfl rfl rfl rfl

theorem State.ethSend_holds (h : Holds q s) : ∀ x0, Holds q (State.ethSend x0 s) := by
  intro x0; unfold State.ethSend
  repeat' first
    | with_reducible assumption | with_reducible apply State.emit_holds | intro _
    | with_reducible refine Holds.step ?_ ?_
    | fail_if_no_progress with_reducible refine Holds.mk' ?_ rfl rfl rfl rfl rfl rfl rfl rfl rfl rfl

theorem State.prpSupervise_holds (h : Holds q s) : Holds q (State.prpSupervise s) := by
  unfold State.prpSupervise
  repeat' first
    | with_reducible assumption | with_reducible apply State.ethSend_holds | intro _
    | with_reducible refine Holds.step ?_ ?_
    | fail_if_no_progress with_reducible refine Holds.mk' ?_ rfl rfl rfl rfl rfl rfl rfl rfl rfl rfl

theorem State.ethIn_holds (h : Holds q s) :
    ∀ x0 x1 x2, (∀ t, Holds q t → Holds q (x2 t)) → Holds q (State.ethIn x0 x1 x2 s) := by
  intro x0 x1 x2 hf2; unfold State.ethIn
  repeat' first
    | with_reducible assumption | with_reducible apply hf2 | intro _ | with_reducible refine Holds.step ?_ ?_
    | fail_if_no_progress with_reducible refine Holds.mk' ?_ rfl rfl rfl rfl rfl rfl rfl rfl rfl rfl | split

theorem State.prpForget_holds (h : Holds q s) : Holds q (State.prpForget s) := by
  unfold State.prpForget
  repeat' first
    | with_reducible assumption | intro _
    | fail_if_no_progress with_reducible refine Holds.mk' ?_ rfl rfl rfl rfl rfl rfl rfl rfl rfl rfl

theorem State.modPtp_holds (h : Holds q s) : ∀ x0, Holds q (State.modPtp x0 s) := by
  intro x0; unfold State.modPtp
  repeat' first
    | with_reducible assumption | intro _
    | fail_if_no_progress with_reducible refine Holds.mk' ?_ rfl rfl rfl rfl rfl rfl rfl rfl rfl rfl

theorem State.announce_holds (h : Holds q s) : ∀ x0 x1, Holds q (State.announce x0 x1 s) := by
  intro x0 x1; unfold State.announce
  repeat' first
    | with_reducible assumption | with_reducible apply State.modPtp_holds | intro _
    | with_reducible refine Holds.step ?_ ?_

theorem State.ptpHoldover_holds (h : Holds q s) : Holds q (State.ptpHoldover s) := by
  unfold State.ptpHoldover
  repeat' first
    | with_reducible assumption | with_reducible apply State.latchSet_holds
    | with_reducible apply State.modPtp_holds | with_reducible apply State.record_holds | intro _
    | with_reducible refine Holds.step ?_ ?_
    | fail_if_no_progress with_reducible refine Holds.mk' ?_ rfl rfl rfl rfl rfl rfl rfl rfl rfl rfl

theorem State.announceTimeout_holds (h : Holds q s) : ∀ x0, Holds q (State.announceTimeout x0 s) := by
  intro x0; unfold State.announceTimeout
  repeat' first
    | with_reducible assumption | with_reducible apply State.modPtp_holds
    | with_reducible apply State.ptpHoldover_holds | intro _ | with_reducible refine Holds.step ?_ ?_
    | fail_if_no_progress with_reducible refine Holds.mk' ?_ rfl rfl rfl rfl rfl rfl rfl rfl rfl rfl | split
    | dsimp only

theorem State.servo_holds (h : Holds q s) : ∀ x0 x1, Holds q (State.servo x0 x1 s) := by
  intro x0 x1; unfold State.servo
  repeat' first
    | with_reducible assumption | with_reducible apply State.latchSet_holds
    | with_reducible apply State.modPtp_holds | with_reducible apply State.record_holds | intro _
    | with_reducible refine Holds.step ?_ ?_
    | fail_if_no_progress with_reducible refine Holds.mk' ?_ rfl rfl rfl rfl rfl rfl rfl rfl rfl rfl

theorem State.offsetMeasured_holds (h : Holds q s) : ∀ x0 x1 x2, Holds q (State.offsetMeasured x0 x1 x2 s) := by
  intro x0 x1 x2; unfold State.offsetMeasured
  repeat' first
    | with_reducible assumption | with_reducible apply State.modPtp_holds
    | with_reducible apply State.servo_holds | with_reducible apply State.latchSet_holds
    | with_reducible apply State.record_holds | intro _ | with_reducible refine Holds.step ?_ ?_
    | fail_if_no_progress with_reducible refine Holds.mk' ?_ rfl rfl rfl rfl rfl rfl rfl rfl rfl rfl

theorem State.rtcDiscipline_holds (h : Holds q s) : ∀ x0, Holds q (State.rtcDiscipline x0 s) := by
  intro x0; unfold State.rtcDiscipline
  repeat' first
    | with_reducible assumption | with_reducible apply State.modPtp_holds | intro _
    | with_reducible refine Holds.step ?_ ?_
    | fail_if_no_progress with_reducible refine Holds.mk' ?_ rfl rfl rfl rfl rfl rfl rfl rfl rfl rfl

theorem State.setRtc_holds (h : Holds q s) : ∀ x0, Holds q (State.setRtc x0 s) := by
  intro x0; unfold State.setRtc
  repeat' first
    | with_reducible assumption | intro _
    | fail_if_no_progress with_reducible refine Holds.mk' ?_ rfl rfl rfl rfl rfl rfl rfl rfl rfl rfl

theorem State.rtcWrite_holds (h : Holds q s) : Holds q (State.rtcWrite s) := by
  unfold State.rtcWrite
  repeat' first
    | with_reducible assumption | with_reducible apply State.modPtp_holds
    | with_reducible apply State.setRtc_holds | intro _ | with_reducible refine Holds.step ?_ ?_

theorem State.rioSend_holds (h : Holds q s) : ∀ x0 x1, Holds q (State.rioSend x0 x1 s) := by
  intro x0 x1; unfold State.rioSend
  repeat' first | with_reducible assumption | with_reducible apply State.ethSend_holds

theorem State.ethRioErr_holds (h : Holds q s) : ∀ x0 x1 x2, Holds q (State.ethRioErr x0 x1 x2 s) := by
  intro x0 x1 x2; unfold State.ethRioErr
  repeat' first
    | with_reducible assumption | with_reducible apply State.latchSet_holds | intro _
    | fail_if_no_progress with_reducible refine Holds.mk' ?_ rfl rfl rfl rfl rfl rfl rfl rfl rfl rfl

theorem State.ethRioInput_holds (h : Holds q s) : ∀ x0 x1, Holds q (State.ethRioInput x0 x1 s) := by
  intro x0 x1; unfold State.ethRioInput
  repeat' first
    | with_reducible assumption | with_reducible apply State.ethRioErr_holds
    | with_reducible apply State.rioArrive_holds | intro _ | with_reducible refine Holds.step ?_ ?_
    | fail_if_no_progress with_reducible refine Holds.mk' ?_ rfl rfl rfl rfl rfl rfl rfl rfl rfl rfl | split

theorem State.ethRioSync_holds (h : Holds q s) : ∀ src d, Holds q (s.ethRioSync src d) := by
  intro src d
  have h1 := State.rioSyncIn_holds h 4 (rioParse d).hlow
  unfold State.ethRioSync
  dsimp only
  split
  · split
    · exact h
    · split <;> rename_i heq <;> rw [heq] at h1
      · exact State.rioSend_holds h1 _ _
      · exact h1
  · exact h

theorem State.ethRioOutput_holds (h : Holds q s) : ∀ x0 x1, Holds q (State.ethRioOutput x0 x1 s) := by
  intro x0 x1; unfold State.ethRioOutput
  repeat' first
    | with_reducible assumption | with_reducible apply State.ethRioErr_holds
    | with_reducible apply State.rioArrive_holds | intro _ | with_reducible refine Holds.step ?_ ?_
    | fail_if_no_progress with_reducible refine Holds.mk' ?_ rfl rfl rfl rfl rfl rfl rfl rfl rfl rfl | split

theorem State.ethStop_holds (h : Holds q s) : ∀ x0 x1, Holds q (State.ethStop x0 x1 s) := by
  intro x0 x1; unfold State.ethStop
  repeat' first
    | with_reducible assumption | with_reducible apply State.rioLose_holds | intro _
    | with_reducible refine Holds.step ?_ ?_
    | fail_if_no_progress with_reducible refine Holds.mk' ?_ rfl rfl rfl rfl rfl rfl rfl rfl rfl rfl | split

theorem State.ethSync_holds (h : Holds q s) : Holds q (State.ethSync s) := by
  unfold State.ethSync
  repeat' first
    | with_reducible assumption | with_reducible apply State.setSync_holds
    | with_reducible apply State.modStations_holds | with_reducible apply State.rioSend_holds
    | with_reducible apply Holds.foldl | intro _
    | fail_if_no_progress with_reducible refine Holds.mk' ?_ rfl rfl rfl rfl rfl rfl rfl rfl rfl rfl | split

theorem State.deliverEth_holds (h : Holds q s) : Holds q (State.deliverEth s) := by
  unfold State.deliverEth
  repeat' first
    | with_reducible assumption | with_reducible apply State.modStation_holds
    | with_reducible apply State.rioSend_holds | with_reducible apply Holds.foldl | intro _
    | with_reducible refine Holds.step ?_ ?_
    | fail_if_no_progress with_reducible refine Holds.mk' ?_ rfl rfl rfl rfl rfl rfl rfl rfl rfl rfl | split

theorem State.confEth_holds (h : Holds q s) : Holds q (State.confEth s) := by
  unfold State.confEth
  repeat' first
    | with_reducible assumption | with_reducible apply State.modPtp_holds | intro _
    | with_reducible refine Holds.step ?_ ?_
    | fail_if_no_progress with_reducible refine Holds.mk' ?_ rfl rfl rfl rfl rfl rfl rfl rfl rfl rfl

theorem State.stopEth_holds (h : Holds q s) : Holds q (State.stopEth s) := by
  unfold State.stopEth
  repeat' first
    | with_reducible assumption | with_reducible apply State.rioFail_holds
    | with_reducible apply State.ptpHoldover_holds | with_reducible apply State.r38_holds | intro _
    | fail_if_no_progress with_reducible refine Holds.mk' ?_ rfl rfl rfl rfl rfl rfl rfl rfl rfl rfl

theorem State.retryEth_holds (h : Holds q s) : Holds q (State.retryEth s) := by
  unfold State.retryEth
  repeat' first
    | with_reducible assumption | intro _
    | fail_if_no_progress with_reducible refine Holds.mk' ?_ rfl rfl rfl rfl rfl rfl rfl rfl rfl rfl

theorem State.reinitEth_holds (h : Holds q s) : Holds q (State.reinitEth s) := by
  unfold State.reinitEth
  repeat' first
    | with_reducible assumption | with_reducible apply State.retryEth_holds | intro _
    | fail_if_no_progress with_reducible refine Holds.mk' ?_ rfl rfl rfl rfl rfl rfl rfl rfl rfl rfl

theorem State.enterEth_holds (h : Holds q s) : ∀ x0, Holds q (State.enterEth x0 s) := by
  intro x0; unfold State.enterEth
  repeat' first
    | with_reducible assumption | with_reducible apply State.rioEnter_holds
    | with_reducible apply State.ethSend_holds | intro _ | with_reducible refine Holds.step ?_ ?_
    | fail_if_no_progress with_reducible refine Holds.mk' ?_ rfl rfl rfl rfl rfl rfl rfl rfl rfl rfl

theorem State.leaveEth_holds (h : Holds q s) : ∀ x0, Holds q (State.leaveEth x0 s) := by
  intro x0; unfold State.leaveEth
  repeat' first
    | with_reducible assumption | with_reducible apply State.rioSend_holds | with_reducible apply Holds.foldl
    | intro _ | with_reducible refine Holds.step ?_ ?_
    | fail_if_no_progress with_reducible refine Holds.mk' ?_ rfl rfl rfl rfl rfl rfl rfl rfl rfl rfl

end Sys2Proof.Machine
end

