-- ==== Sys2Proof/Laws/KeptUslOps.lean ====
section
/-! SUPPORT. What the operations of Machine/UslOps.lean keep. -/

namespace Sys2Proof.Machine

variable {q : Bounds} {s : State}

theorem State.modUsl_holds (h : Holds q s) : ∀ x0 x1, Holds q (State.modUsl x0 x1 s) := by
  intro x0 x1; unfold State.modUsl
  repeat' first
    | with_reducible assumption | intro _
    | fail_if_no_progress with_reducible refine Holds.mk' ?_ rfl rfl rfl rfl rfl rfl rfl rfl rfl rfl

theorem State.uslSend_holds (h : Holds q s) : ∀ x0 x1 x2, Holds q (State.uslSend x0 x1 x2 s) := by
  intro x0 x1 x2; unfold State.uslSend
  repeat' first
    | with_reducible assumption | with_reducible apply State.ethSend_holds
    | with_reducible apply State.canQueue_holds | intro _ | with_reducible refine Holds.step ?_ ?_

theorem State.uslFailSafe_holds (h : Holds q s) : ∀ x0, Holds q (State.uslFailSafe x0 s) := by
  intro x0; unfold State.uslFailSafe
  repeat' first | with_reducible assumption | with_reducible apply State.putMaps_holds

theorem State.uslPassivate_holds (h : Holds q s) : ∀ x0 x1, Holds q (State.uslPassivate x0 x1 s) := by
  intro x0 x1; unfold State.uslPassivate
  repeat' first
    | with_reducible assumption | with_reducible apply State.latchSet_holds
    | with_reducible apply State.modUsl_holds | with_reducible apply State.uslFailSafe_holds
    | with_reducible apply State.record_holds

theorem State.uslAccept_holds (h : Holds q s) :
    ∀ x0 x1, (∀ t, Holds q t → Holds q (x1 t)) → Holds q (State.uslAccept x0 x1 s) := by
  intro x0 x1 hf1; unfold State.uslAccept
  repeat' first
    | with_reducible assumption | with_reducible apply hf1 | with_reducible apply State.modUsl_holds
    | with_reducible apply State.record_holds | intro _ | with_reducible refine Holds.step ?_ ?_
    | fail_if_no_progress with_reducible refine Holds.mk' ?_ rfl rfl rfl rfl rfl rfl rfl rfl rfl rfl | split

theorem State.uslQuiet_holds (h : Holds q s) : ∀ x0, Holds q (State.uslQuiet x0 s) := by
  intro x0; unfold State.uslQuiet
  repeat' first
    | with_reducible assumption | with_reducible apply State.modUsl_holds

theorem State.uslBuild_holds (h : Holds q s) : ∀ x0 x1, Holds q (State.uslBuild x0 x1 s) := by
  intro x0 x1; unfold State.uslBuild
  repeat' first
    | with_reducible assumption | with_reducible apply State.modUsl_holds
    | with_reducible apply State.uslSend_holds | intro _ | with_reducible refine Holds.step ?_ ?_
    | fail_if_no_progress with_reducible refine Holds.mk' ?_ rfl rfl rfl rfl rfl rfl rfl rfl rfl rfl | split

theorem State.deliverUsl_holds (h : Holds q s) : ∀ x0, Holds q (State.deliverUsl x0 s) := by
  intro x0; unfold State.deliverUsl
  repeat' first
    | with_reducible assumption | with_reducible apply State.uslBuild_holds | with_reducible apply Holds.foldl
    | intro _ | with_reducible refine Holds.step ?_ ?_

theorem State.uslAckTake_holds (h : Holds q s) : ∀ x0 x1, Holds q (State.uslAckTake x0 x1 s) := by
  intro x0 x1; unfold State.uslAckTake
  repeat' first
    | with_reducible assumption | with_reducible apply State.modUsl_holds
    | with_reducible apply State.uslAccept_holds | intro _ | with_reducible refine Holds.step ?_ ?_
    | fail_if_no_progress with_reducible refine Holds.mk' ?_ rfl rfl rfl rfl rfl rfl rfl rfl rfl rfl | split
    | dsimp only | assumption

theorem State.uslAckTimeout_holds (h : Holds q s) : ∀ x0, Holds q (State.uslAckTimeout x0 s) := by
  intro x0; unfold State.uslAckTimeout
  repeat' first
    | with_reducible assumption | with_reducible apply State.uslQuiet_holds
    | with_reducible apply State.modUsl_holds | with_reducible apply State.uslPassivate_holds | intro _
    | with_reducible refine Holds.step ?_ ?_
    | fail_if_no_progress with_reducible refine Holds.mk' ?_ rfl rfl rfl rfl rfl rfl rfl rfl rfl rfl | split

theorem State.uslReject_holds (h : Holds q s) : ∀ x0 x1, Holds q (State.uslReject x0 x1 s) := by
  intro x0 x1; unfold State.uslReject
  repeat' first
    | with_reducible assumption | with_reducible apply State.modUsl_holds

theorem State.uslDataTake_holds (h : Holds q s) : ∀ x0 x1, Holds q (State.uslDataTake x0 x1 s) := by
  intro x0 x1; unfold State.uslDataTake
  repeat' first
    | with_reducible assumption | with_reducible apply State.uslReject_holds
    | with_reducible apply State.uslPassivate_holds | with_reducible apply State.uslFailSafe_holds
    | with_reducible apply State.putMaps_holds | with_reducible apply State.modUsl_holds
    | with_reducible apply State.uslAccept_holds | with_reducible apply State.uslSend_holds | intro _
    | with_reducible refine Holds.step ?_ ?_
    | fail_if_no_progress with_reducible refine Holds.mk' ?_ rfl rfl rfl rfl rfl rfl rfl rfl rfl rfl | split

theorem State.uslExpire_holds (h : Holds q s) : ∀ x0, Holds q (State.uslExpire x0 s) := by
  intro x0; unfold State.uslExpire
  repeat' first
    | with_reducible assumption | with_reducible apply State.modUsl_holds
    | with_reducible apply State.uslPassivate_holds | with_reducible apply State.uslQuiet_holds | intro _
    | with_reducible refine Holds.step ?_ ?_
    | fail_if_no_progress with_reducible refine Holds.mk' ?_ rfl rfl rfl rfl rfl rfl rfl rfl rfl rfl | split

theorem State.uslVia_holds (h : Holds q s) :
    ∀ x0 x1 x2, (∀ t, Holds q t → Holds q (x2 t)) → Holds q (State.uslVia x0 x1 x2 s) := by
  intro x0 x1 x2 hf2; unfold State.uslVia
  repeat' first
    | with_reducible assumption | with_reducible apply hf2 | with_reducible apply State.ethIn_holds | intro _
    | fail_if_no_progress with_reducible refine Holds.mk' ?_ rfl rfl rfl rfl rfl rfl rfl rfl rfl rfl | split

theorem State.uslDataIn_holds (h : Holds q s) : ∀ x0 x1 x2, Holds q (State.uslDataIn x0 x1 x2 s) := by
  intro x0 x1 x2; unfold State.uslDataIn
  repeat' first
    | with_reducible assumption | with_reducible apply State.uslVia_holds
    | with_reducible apply State.uslDataTake_holds | intro _

theorem State.uslAckIn_holds (h : Holds q s) : ∀ x0 x1 x2, Holds q (State.uslAckIn x0 x1 x2 s) := by
  intro x0 x1 x2; unfold State.uslAckIn
  repeat' first
    | with_reducible assumption | with_reducible apply State.uslVia_holds
    | with_reducible apply State.uslAckTake_holds | intro _

theorem State.uslAckWrite_holds (h : Holds q s) : ∀ x0, Holds q (State.uslAckWrite x0 s) := by
  intro x0; unfold State.uslAckWrite
  repeat' first
    | with_reducible assumption | with_reducible apply State.modUsl_holds

theorem State.applyUsl_holds (h : Holds q s) : ∀ x0, Holds q (State.applyUsl x0 s) := by
  intro x0; unfold State.applyUsl
  repeat' first
    | with_reducible assumption | with_reducible apply State.modUsl_holds | with_reducible apply Holds.foldl
    | intro _

theorem State.confUsl_holds (h : Holds q s) : Holds q (State.confUsl s) := by
  unfold State.confUsl
  repeat' first
    | with_reducible assumption | intro _
    | fail_if_no_progress with_reducible refine Holds.mk' ?_ rfl rfl rfl rfl rfl rfl rfl rfl rfl rfl

theorem State.uslStart_holds (h : Holds q s) : ∀ x0, Holds q (State.uslStart x0 s) := by
  intro x0; unfold State.uslStart
  repeat' first
    | with_reducible assumption | with_reducible apply State.modUsl_holds
    | with_reducible apply State.uslFailSafe_holds | intro _ | with_reducible refine Holds.step ?_ ?_

theorem State.uslContinue_holds (h : Holds q s) : ∀ x0 x1, Holds q (State.uslContinue x0 x1 s) := by
  intro x0 x1; unfold State.uslContinue
  repeat' first
    | with_reducible assumption | with_reducible apply State.modUsl_holds
    | with_reducible apply State.uslFailSafe_holds | intro _ | with_reducible refine Holds.step ?_ ?_

theorem State.enterUsl_holds (h : Holds q s) : ∀ x0, Holds q (State.enterUsl x0 s) := by
  intro x0; unfold State.enterUsl
  repeat' first
    | with_reducible assumption | with_reducible apply State.applyUsl_holds
    | with_reducible apply State.uslContinue_holds | with_reducible apply State.uslStart_holds
    | with_reducible apply Holds.foldl | intro _ | with_reducible refine Holds.step ?_ ?_
    | fail_if_no_progress with_reducible refine Holds.mk' ?_ rfl rfl rfl rfl rfl rfl rfl rfl rfl rfl | split

theorem State.leaveUsl_holds (h : Holds q s) : Holds q (State.leaveUsl s) := by
  unfold State.leaveUsl
  repeat' first
    | with_reducible assumption | intro _
    | fail_if_no_progress with_reducible refine Holds.mk' ?_ rfl rfl rfl rfl rfl rfl rfl rfl rfl rfl

theorem State.stopUsl_holds (h : Holds q s) : Holds q (State.stopUsl s) := by
  unfold State.stopUsl
  repeat' first
    | with_reducible assumption | with_reducible apply State.uslFailSafe_holds
    | with_reducible apply State.uslPassivate_holds | with_reducible apply State.r38_holds
    | with_reducible apply Holds.foldl | intro _ | with_reducible refine Holds.step ?_ ?_
    | fail_if_no_progress with_reducible refine Holds.mk' ?_ rfl rfl rfl rfl rfl rfl rfl rfl rfl rfl | split

theorem State.retryUsl_holds (h : Holds q s) : Holds q (State.retryUsl s) := by
  unfold State.retryUsl
  repeat' first
    | with_reducible assumption | with_reducible apply State.uslStart_holds | with_reducible apply Holds.foldl
    | intro _ | with_reducible refine Holds.step ?_ ?_
    | fail_if_no_progress with_reducible refine Holds.mk' ?_ rfl rfl rfl rfl rfl rfl rfl rfl rfl rfl

theorem State.reinitUsl_holds (h : Holds q s) : Holds q (State.reinitUsl s) := by
  unfold State.reinitUsl
  repeat' first
    | with_reducible assumption | with_reducible apply State.retryUsl_holds | intro _
    | fail_if_no_progress with_reducible refine Holds.mk' ?_ rfl rfl rfl rfl rfl rfl rfl rfl rfl rfl

end Sys2Proof.Machine
end

