-- ==== Sys2Proof/Laws/KeptBrakeOps.lean ====
section
/-! SUPPORT. What the operations of Machine/BrakeOps.lean keep. -/

namespace Sys2Proof.Machine

variable {q : Bounds} {s : State}

theorem State.modBrake_holds (h : Holds q s) : ∀ x0 x1, Holds q (State.modBrake x0 x1 s) := by
  intro x0 x1; unfold State.modBrake
  repeat' first
    | with_reducible assumption | intro _
    | fail_if_no_progress with_reducible refine Holds.mk' ?_ rfl rfl rfl rfl rfl rfl rfl rfl rfl rfl

theorem State.brakeLatch_holds (h : Holds q s) : ∀ x0 x1, Holds q (State.brakeLatch x0 x1 s) := by
  intro x0 x1; unfold State.brakeLatch
  repeat' first | with_reducible assumption | with_reducible apply State.latchSet_holds

theorem State.brakeDemand_holds (h : Holds q s) : ∀ x0, Holds q (State.brakeDemand x0 s) := by
  intro x0; unfold State.brakeDemand
  repeat' first
    | with_reducible assumption | with_reducible apply State.brakeLatch_holds
    | with_reducible apply State.modBrake_holds | intro _ | with_reducible refine Holds.step ?_ ?_

theorem State.soLook_holds (h : Holds q s) : Holds q (State.soLook s) := by
  unfold State.soLook
  repeat' first
    | with_reducible assumption | with_reducible apply State.brakeDemand_holds
    | with_reducible apply Holds.foldl | intro _ | with_reducible refine Holds.step ?_ ?_

theorem State.brakeOn_holds (h : Holds q s) : ∀ x0, Holds q (State.brakeOn x0 s) := by
  intro x0; unfold State.brakeOn
  repeat' first
    | with_reducible assumption | with_reducible apply State.modBrake_holds | intro _
    | with_reducible refine Holds.step ?_ ?_
    | fail_if_no_progress with_reducible refine Holds.mk' ?_ rfl rfl rfl rfl rfl rfl rfl rfl rfl rfl | split

theorem State.setFsSq_holds (h : Holds q s) : ∀ x0, Holds q (State.setFsSq x0 s) := by
  intro x0; unfold State.setFsSq
  repeat' first
    | with_reducible assumption | with_reducible apply ok_holds | intro _
    | fail_if_no_progress with_reducible refine Holds.mk' ?_ rfl rfl rfl rfl rfl rfl rfl rfl rfl rfl

theorem State.testRecord_holds (h : Holds q s) : ∀ x0 x1, Holds q (State.testRecord x0 x1 s) := by
  intro x0 x1; unfold State.testRecord
  repeat' first
    | with_reducible assumption | with_reducible apply State.recordSev_holds

theorem State.brakeFail_holds (h : Holds q s) : ∀ x0 x1, Holds q (State.brakeFail x0 x1 s) := by
  intro x0 x1; unfold State.brakeFail
  repeat' first
    | with_reducible assumption | with_reducible apply State.brakeLatch_holds
    | with_reducible apply State.modBrake_holds | with_reducible apply State.record_holds | intro _
    | with_reducible refine Holds.step ?_ ?_

theorem State.brakePulseFail_holds (h : Holds q s) : ∀ x0, Holds q (State.brakePulseFail x0 s) := by
  intro x0; unfold State.brakePulseFail
  repeat' first
    | with_reducible assumption | with_reducible apply State.modBrake_holds
    | with_reducible apply State.brakeFail_holds

theorem State.brakePulseStart_holds (h : Holds q s) : ∀ x0, Holds q (State.brakePulseStart x0 s) := by
  intro x0; unfold State.brakePulseStart
  repeat' first
    | with_reducible assumption | with_reducible apply State.modBrake_holds | intro _
    | with_reducible refine Holds.step ?_ ?_
    | fail_if_no_progress with_reducible refine Holds.mk' ?_ rfl rfl rfl rfl rfl rfl rfl rfl rfl rfl | split

theorem State.brakePulseCheck_holds (h : Holds q s) : ∀ x0 x1, Holds q (State.brakePulseCheck x0 x1 s) := by
  intro x0 x1; unfold State.brakePulseCheck
  repeat' first
    | with_reducible assumption | with_reducible apply State.modBrake_holds
    | with_reducible apply State.brakePulseFail_holds | intro _ | with_reducible refine Holds.step ?_ ?_
    | fail_if_no_progress with_reducible refine Holds.mk' ?_ rfl rfl rfl rfl rfl rfl rfl rfl rfl rfl | split
    | dsimp only

theorem State.brakePulseEnd_holds (h : Holds q s) : ∀ x0, Holds q (State.brakePulseEnd x0 s) := by
  intro x0; unfold State.brakePulseEnd
  repeat' first
    | with_reducible assumption | with_reducible apply State.modBrake_holds
    | with_reducible apply State.brakePulseFail_holds | intro _ | with_reducible refine Holds.step ?_ ?_
    | fail_if_no_progress with_reducible refine Holds.mk' ?_ rfl rfl rfl rfl rfl rfl rfl rfl rfl rfl | split
    | dsimp only

theorem State.brakePulseOverdue_holds (h : Holds q s) : ∀ x0, Holds q (State.brakePulseOverdue x0 s) := by
  intro x0; unfold State.brakePulseOverdue
  repeat' first
    | with_reducible assumption | with_reducible apply State.brakeFail_holds | intro _
    | with_reducible refine Holds.step ?_ ?_
    | fail_if_no_progress with_reducible refine Holds.mk' ?_ rfl rfl rfl rfl rfl rfl rfl rfl rfl rfl | split

theorem State.brakeMeasure_holds (h : Holds q s) :
    ∀ x0 x1 x2 x3 x4, Holds q (State.brakeMeasure x0 x1 x2 x3 x4 s) := by
  intro x0 x1 x2 x3 x4; unfold State.brakeMeasure
  repeat' first
    | with_reducible assumption | with_reducible apply State.modBrake_holds
    | with_reducible apply State.brakeFail_holds | intro _ | with_reducible refine Holds.step ?_ ?_
    | fail_if_no_progress with_reducible refine Holds.mk' ?_ rfl rfl rfl rfl rfl rfl rfl rfl rfl rfl | split

theorem State.testStart_holds (h : Holds q s) : ∀ x0, Holds q (State.testStart x0 s) := by
  intro x0; unfold State.testStart
  repeat' first
    | with_reducible assumption | with_reducible apply State.modBrake_holds

theorem State.testPass_holds (h : Holds q s) : ∀ x0, Holds q (State.testPass x0 s) := by
  intro x0; unfold State.testPass
  repeat' first
    | with_reducible assumption | with_reducible apply State.modBrake_holds
    | with_reducible apply State.testRecord_holds

theorem State.testFail_holds (h : Holds q s) : ∀ x0, Holds q (State.testFail x0 s) := by
  intro x0; unfold State.testFail
  repeat' first
    | with_reducible assumption | with_reducible apply State.brakeFail_holds
    | with_reducible apply State.testRecord_holds

theorem State.testAbort_holds (h : Holds q s) : ∀ x0, Holds q (State.testAbort x0 s) := by
  intro x0; unfold State.testAbort
  repeat' first
    | with_reducible assumption | with_reducible apply State.modBrake_holds
    | with_reducible apply State.testRecord_holds | intro _ | with_reducible refine Holds.step ?_ ?_

theorem State.testPhase_holds (h : Holds q s) : ∀ x0 x1, Holds q (State.testPhase x0 x1 s) := by
  intro x0 x1; unfold State.testPhase
  repeat' first
    | with_reducible assumption | with_reducible apply State.testPass_holds
    | with_reducible apply State.testFail_holds | with_reducible apply ok_holds
    | with_reducible apply State.modBrake_holds | intro _ | with_reducible refine Holds.step ?_ ?_
    | fail_if_no_progress with_reducible refine Holds.mk' ?_ rfl rfl rfl rfl rfl rfl rfl rfl rfl rfl | split

theorem State.testDue_holds (h : Holds q s) : ∀ x0, Holds q (State.testDue x0 s) := by
  intro x0; unfold State.testDue
  repeat' first
    | with_reducible assumption | with_reducible apply State.modBrake_holds
    | with_reducible apply State.record_holds | intro _ | with_reducible refine Holds.step ?_ ?_
    | fail_if_no_progress with_reducible refine Holds.mk' ?_ rfl rfl rfl rfl rfl rfl rfl rfl rfl rfl | split

theorem State.soClear_holds (h : Holds q s) : ∀ x0, Holds q (State.soClear x0 s) := by
  intro x0; unfold State.soClear
  repeat' first
    | with_reducible assumption | with_reducible apply State.modBrake_holds
    | with_reducible apply State.record_holds

theorem State.leaveSo_holds (h : Holds q s) : Holds q (State.leaveSo s) := by
  unfold State.leaveSo
  repeat' first
    | with_reducible assumption | with_reducible apply State.brakeDemand_holds
    | with_reducible apply State.testAbort_holds | with_reducible apply Holds.foldl | intro _
    | fail_if_no_progress with_reducible refine Holds.mk' ?_ rfl rfl rfl rfl rfl rfl rfl rfl rfl rfl

theorem State.confSo_holds (h : Holds q s) : Holds q (State.confSo s) := by
  unfold State.confSo
  repeat' first
    | with_reducible assumption | intro _
    | fail_if_no_progress with_reducible refine Holds.mk' ?_ rfl rfl rfl rfl rfl rfl rfl rfl rfl rfl

theorem State.soRewrite_holds (h : Holds q s) : Holds q (State.soRewrite s) := by
  unfold State.soRewrite
  repeat' first
    | with_reducible assumption | intro _
    | fail_if_no_progress with_reducible refine Holds.mk' ?_ rfl rfl rfl rfl rfl rfl rfl rfl rfl rfl

theorem State.stopSo_holds (h : Holds q s) : Holds q (State.stopSo s) := by
  unfold State.stopSo
  repeat' first
    | with_reducible assumption | with_reducible apply State.leaveSo_holds
    | with_reducible apply State.soRewrite_holds | with_reducible apply State.r38_holds | intro _
    | fail_if_no_progress with_reducible refine Holds.mk' ?_ rfl rfl rfl rfl rfl rfl rfl rfl rfl rfl

theorem State.retrySo_holds (h : Holds q s) : Holds q (State.retrySo s) := by
  unfold State.retrySo
  repeat' first
    | with_reducible assumption | with_reducible apply State.soRewrite_holds | intro _
    | fail_if_no_progress with_reducible refine Holds.mk' ?_ rfl rfl rfl rfl rfl rfl rfl rfl rfl rfl

theorem State.reinitSo_holds (h : Holds q s) : Holds q (State.reinitSo s) := by
  unfold State.reinitSo
  repeat' first
    | with_reducible assumption | with_reducible apply State.retrySo_holds | intro _
    | fail_if_no_progress with_reducible refine Holds.mk' ?_ rfl rfl rfl rfl rfl rfl rfl rfl rfl rfl

theorem State.deliverSo_holds (h : Holds q s) : ∀ x0, Holds q (State.deliverSo x0 s) := by
  intro x0; unfold State.deliverSo
  repeat' first
    | with_reducible assumption | intro _
    | fail_if_no_progress with_reducible refine Holds.mk' ?_ rfl rfl rfl rfl rfl rfl rfl rfl rfl rfl

theorem State.storeSafe_holds (h : Holds q s) : ∀ x0 x1 x2, Holds q (State.storeSafe x0 x1 x2 s) := by
  intro x0 x1 x2; unfold State.storeSafe
  repeat' first
    | with_reducible assumption | with_reducible apply State.record_holds | intro _
    | with_reducible refine Holds.step ?_ ?_
    | fail_if_no_progress with_reducible refine Holds.mk' ?_ rfl rfl rfl rfl rfl rfl rfl rfl rfl rfl

end Sys2Proof.Machine
end

