-- ==== Sys2Proof/Laws/KeptSeqOps.lean ====
section
/-! SUPPORT. What the operations of Machine/SeqOps.lean keep. -/

namespace Sys2Proof.Machine

variable {q : Bounds} {s : State}

theorem State.modLane_holds (h : Holds q s) : ∀ x0 x1, Holds q (State.modLane x0 x1 s) := by
  intro x0 x1; unfold State.modLane
  repeat' first
    | with_reducible assumption | intro _
    | fail_if_no_progress with_reducible refine Holds.mk' ?_ rfl rfl rfl rfl rfl rfl rfl rfl rfl rfl

theorem State.stopSeq_holds (h : Holds q s) : Holds q (State.stopSeq s) := by
  unfold State.stopSeq
  repeat' first
    | with_reducible assumption | with_reducible apply State.restart_holds
    | with_reducible apply State.r38_holds | intro _
    | fail_if_no_progress with_reducible refine Holds.mk' ?_ rfl rfl rfl rfl rfl rfl rfl rfl rfl rfl

theorem State.retrySeq_holds (h : Holds q s) : Holds q (State.retrySeq s) := by
  unfold State.retrySeq
  repeat' first
    | with_reducible assumption | intro _
    | fail_if_no_progress with_reducible refine Holds.mk' ?_ rfl rfl rfl rfl rfl rfl rfl rfl rfl rfl

theorem State.reinitSeq_holds (h : Holds q s) : Holds q (State.reinitSeq s) := by
  unfold State.reinitSeq
  repeat' first
    | with_reducible assumption | with_reducible apply State.restart_holds | intro _
    | fail_if_no_progress with_reducible refine Holds.mk' ?_ rfl rfl rfl rfl rfl rfl rfl rfl rfl rfl

theorem State.leaveSeq_holds (h : Holds q s) : Holds q (State.leaveSeq s) := by
  unfold State.leaveSeq
  repeat' first
    | with_reducible assumption | with_reducible apply State.restart_holds | intro _
    | fail_if_no_progress with_reducible refine Holds.mk' ?_ rfl rfl rfl rfl rfl rfl rfl rfl rfl rfl

theorem State.confSeq_holds (h : Holds q s) : Holds q (State.confSeq s) := by
  unfold State.confSeq
  repeat' first
    | with_reducible assumption | intro _
    | fail_if_no_progress with_reducible refine Holds.mk' ?_ rfl rfl rfl rfl rfl rfl rfl rfl rfl rfl

theorem State.enterSeq_holds (h : Holds q s) : Holds q (State.enterSeq s) := by
  unfold State.enterSeq
  repeat' first
    | with_reducible assumption | intro _
    | fail_if_no_progress with_reducible refine Holds.mk' ?_ rfl rfl rfl rfl rfl rfl rfl rfl rfl rfl

end Sys2Proof.Machine
end

