-- ==== Sys2Proof/Laws/KeptMsOps.lean ====
section
/-! SUPPORT. What the operations of Machine/MsOps.lean keep. -/

namespace Sys2Proof.Machine

variable {q : Bounds} {s : State}

theorem State.modDom_holds (h : Holds q s) : ∀ x0 x1, Holds q (State.modDom x0 x1 s) := by
  intro x0 x1; unfold State.modDom
  repeat' first
    | with_reducible assumption | intro _
    | fail_if_no_progress with_reducible refine Holds.mk' ?_ rfl rfl rfl rfl rfl rfl rfl rfl rfl rfl

theorem State.msDomWrite_holds (h : Holds q s) : ∀ x0, Holds q (State.msDomWrite x0 s) := by
  intro x0; unfold State.msDomWrite
  repeat' first
    | with_reducible assumption | with_reducible apply State.writeSlot_holds | intro _
    | with_reducible refine Holds.step ?_ ?_
    | fail_if_no_progress with_reducible refine Holds.mk' ?_ rfl rfl rfl rfl rfl rfl rfl rfl rfl rfl | split
    | dsimp only

theorem State.msHarvest_holds (h : Holds q s) : Holds q (State.msHarvest s) := by
  unfold State.msHarvest
  repeat' first
    | with_reducible assumption | with_reducible apply State.msDomWrite_holds
    | with_reducible apply Holds.foldl | intro _

theorem State.modMs_holds (h : Holds q s) : ∀ x0 x1, Holds q (State.modMs x0 x1 s) := by
  intro x0 x1; unfold State.modMs
  repeat' first
    | with_reducible assumption | intro _
    | fail_if_no_progress with_reducible refine Holds.mk' ?_ rfl rfl rfl rfl rfl rfl rfl rfl rfl rfl

theorem State.dioMs_holds (h : Holds q s) : ∀ x0 x1, Holds q (State.dioMs x0 x1 s) := by
  intro x0 x1; unfold State.dioMs
  repeat' first
    | with_reducible assumption | intro _
    | fail_if_no_progress with_reducible refine Holds.mk' ?_ rfl rfl rfl rfl rfl rfl rfl rfl rfl rfl

theorem State.msOff_holds (h : Holds q s) : ∀ x0, Holds q (State.msOff x0 s) := by
  intro x0; unfold State.msOff
  repeat' first
    | with_reducible assumption | with_reducible apply State.dioMs_holds | intro _
    | with_reducible refine Holds.step ?_ ?_
    | fail_if_no_progress with_reducible refine Holds.mk' ?_ rfl rfl rfl rfl rfl rfl rfl rfl rfl rfl

theorem State.msOn_holds (h : Holds q s) : ∀ x0, Holds q (State.msOn x0 s) := by
  intro x0; unfold State.msOn
  repeat' first
    | with_reducible assumption | with_reducible apply State.dioMs_holds | intro _
    | with_reducible refine Holds.step ?_ ?_

theorem State.msPulseEnd_holds (h : Holds q s) : ∀ x0, Holds q (State.msPulseEnd x0 s) := by
  intro x0; unfold State.msPulseEnd
  repeat' first
    | with_reducible assumption | with_reducible apply State.modMs_holds
    | with_reducible apply State.msOff_holds | intro _
    | fail_if_no_progress with_reducible refine Holds.mk' ?_ rfl rfl rfl rfl rfl rfl rfl rfl rfl rfl | split

theorem State.msPulseStart_holds (h : Holds q s) : ∀ x0 x1 x2, Holds q (State.msPulseStart x0 x1 x2 s) := by
  intro x0 x1 x2; unfold State.msPulseStart
  repeat' first
    | with_reducible assumption | with_reducible apply State.modMs_holds
    | with_reducible apply State.dioMs_holds | intro _ | with_reducible refine Holds.step ?_ ?_

theorem State.msCapture_holds (h : Holds q s) : ∀ x0, Holds q (State.msCapture x0 s) := by
  intro x0; unfold State.msCapture
  repeat' first | with_reducible assumption | with_reducible apply State.writeRef_holds

theorem State.msArm_holds (h : Holds q s) : ∀ x0 x1 x2, Holds q (State.msArm x0 x1 x2 s) := by
  intro x0 x1 x2; unfold State.msArm
  repeat' first
    | with_reducible assumption | with_reducible apply State.modMs_holds

theorem State.msAction_holds (h : Holds q s) : ∀ x0 x1, Holds q (State.msAction x0 x1 s) := by
  intro x0 x1; unfold State.msAction
  repeat' first
    | with_reducible assumption | with_reducible apply State.msOn_holds
    | with_reducible apply State.msOff_holds | with_reducible apply State.msPulseStart_holds
    | with_reducible apply State.loopTrigger_holds | with_reducible apply State.aiTrigger_holds
    | with_reducible apply State.msCapture_holds | with_reducible apply State.msArm_holds
    | with_reducible apply State.modMs_holds | intro _ | with_reducible refine Holds.step ?_ ?_
    | fail_if_no_progress with_reducible refine Holds.mk' ?_ rfl rfl rfl rfl rfl rfl rfl rfl rfl rfl | split

theorem State.msFire_holds (h : Holds q s) : ∀ x0 x1 x2 x3, Holds q (State.msFire x0 x1 x2 x3 s) := by
  intro x0 x1 x2 x3; unfold State.msFire
  repeat' first
    | with_reducible assumption | with_reducible apply State.modMs_holds
    | with_reducible apply State.msAction_holds

theorem State.msCrossing_holds (h : Holds q s) : ∀ x0, Holds q (State.msCrossing x0 s) := by
  intro x0; unfold State.msCrossing
  repeat' first
    | with_reducible assumption | with_reducible apply State.modMs_holds
    | with_reducible apply State.msFire_holds | intro _ | with_reducible refine Holds.step ?_ ?_
    | fail_if_no_progress with_reducible refine Holds.mk' ?_ rfl rfl rfl rfl rfl rfl rfl rfl rfl rfl | split

theorem State.msPassed_holds (h : Holds q s) : ∀ x0 x1 x2, Holds q (State.msPassed x0 x1 x2 s) := by
  intro x0 x1 x2; unfold State.msPassed
  repeat' first
    | with_reducible assumption | with_reducible apply State.modMs_holds
    | with_reducible apply State.msFire_holds | intro _ | with_reducible refine Holds.step ?_ ?_
    | fail_if_no_progress with_reducible refine Holds.mk' ?_ rfl rfl rfl rfl rfl rfl rfl rfl rfl rfl | split
    | dsimp only

theorem State.msLookSlot_holds (h : Holds q s) : ∀ x0, Holds q (State.msLookSlot x0 s) := by
  intro x0; unfold State.msLookSlot
  repeat' first
    | with_reducible assumption | with_reducible apply State.modMs_holds
    | with_reducible apply State.msPassed_holds | with_reducible apply State.msFire_holds
    | with_reducible apply State.writeRef_holds | intro _ | with_reducible refine Holds.step ?_ ?_
    | fail_if_no_progress with_reducible refine Holds.mk' ?_ rfl rfl rfl rfl rfl rfl rfl rfl rfl rfl | split
    | dsimp only

theorem State.msLook_holds (h : Holds q s) : Holds q (State.msLook s) := by
  unfold State.msLook
  repeat' first
    | with_reducible assumption | with_reducible apply State.msLookSlot_holds
    | with_reducible apply Holds.foldl | intro _ | with_reducible refine Holds.step ?_ ?_

theorem State.msWithdraw_holds (h : Holds q s) : ∀ x0 x1, Holds q (State.msWithdraw x0 x1 s) := by
  intro x0 x1; unfold State.msWithdraw
  repeat' first
    | with_reducible assumption | with_reducible apply State.msPulseEnd_holds
    | with_reducible apply State.modMs_holds | with_reducible apply Holds.foldl | intro _
    | with_reducible refine Holds.step ?_ ?_
    | fail_if_no_progress with_reducible refine Holds.mk' ?_ rfl rfl rfl rfl rfl rfl rfl rfl rfl rfl | split

theorem State.domLost_holds (h : Holds q s) : ∀ x0 x1, Holds q (State.domLost x0 x1 s) := by
  intro x0 x1; unfold State.domLost
  repeat' first
    | with_reducible assumption | with_reducible apply State.latchSet_holds
    | with_reducible apply State.modDom_holds | with_reducible apply State.restart_holds
    | with_reducible apply State.msWithdraw_holds | with_reducible apply State.record_holds

theorem State.domStopped_holds (h : Holds q s) : ∀ x0, Holds q (State.domStopped x0 s) := by
  intro x0; unfold State.domStopped
  repeat' first
    | with_reducible assumption | with_reducible apply State.modDom_holds
    | with_reducible apply State.restart_holds | with_reducible apply State.msWithdraw_holds

theorem State.msUpdated_holds (h : Holds q s) : ∀ x0, Holds q (State.msUpdated x0 s) := by
  intro x0; unfold State.msUpdated
  repeat' first
    | with_reducible assumption | with_reducible apply State.msDomWrite_holds | intro _
    | with_reducible refine Holds.step ?_ ?_
    | fail_if_no_progress with_reducible refine Holds.mk' ?_ rfl rfl rfl rfl rfl rfl rfl rfl rfl rfl

theorem State.domSync_holds (h : Holds q s) : ∀ x0 x1 x2 x3, Holds q (State.domSync x0 x1 x2 x3 s) := by
  intro x0 x1 x2 x3; unfold State.domSync
  repeat' first
    | with_reducible assumption | with_reducible apply State.modDom_holds

theorem State.domSeekEdge_holds (h : Holds q s) : ∀ x0 x1 x2 x3, Holds q (State.domSeekEdge x0 x1 x2 x3 s) := by
  intro x0 x1 x2 x3; unfold State.domSeekEdge
  repeat' first
    | with_reducible assumption | with_reducible apply State.modDom_holds

theorem State.domNextEdge_holds (h : Holds q s) : ∀ x0 x1 x2 x3, Holds q (State.domNextEdge x0 x1 x2 x3 s) := by
  intro x0 x1 x2 x3; unfold State.domNextEdge
  repeat' first
    | with_reducible assumption | with_reducible apply State.modDom_holds

theorem State.domReverse_holds (h : Holds q s) : ∀ x0 x1 x2, Holds q (State.domReverse x0 x1 x2 s) := by
  intro x0 x1 x2; unfold State.domReverse
  repeat' first
    | with_reducible assumption | with_reducible apply State.msPulseEnd_holds
    | with_reducible apply State.modMs_holds | with_reducible apply State.modDom_holds
    | with_reducible apply State.restart_holds | with_reducible apply State.record_holds
    | with_reducible apply Holds.foldl | intro _ | with_reducible refine Holds.step ?_ ?_
    | fail_if_no_progress with_reducible refine Holds.mk' ?_ rfl rfl rfl rfl rfl rfl rfl rfl rfl rfl | split

theorem State.quadNote_holds (h : Holds q s) : ∀ x0 x1 x2, Holds q (State.quadNote x0 x1 x2 s) := by
  intro x0 x1 x2; unfold State.quadNote
  repeat' first
    | with_reducible assumption | with_reducible apply State.modDom_holds

theorem State.edgeTaken_holds (h : Holds q s) : ∀ x0 x1 x2, Holds q (State.edgeTaken x0 x1 x2 s) := by
  intro x0 x1 x2; unfold State.edgeTaken
  repeat' first
    | with_reducible assumption | with_reducible apply State.modDom_holds
    | with_reducible apply State.restart_holds | with_reducible apply State.msUpdated_holds
    | with_reducible apply State.domLost_holds | with_reducible apply State.domReverse_holds
    | with_reducible apply State.domNextEdge_holds | with_reducible apply State.domSync_holds
    | with_reducible apply State.domSeekEdge_holds | intro _ | with_reducible refine Holds.step ?_ ?_
    | fail_if_no_progress with_reducible refine Holds.mk' ?_ rfl rfl rfl rfl rfl rfl rfl rfl rfl rfl | split

theorem State.toothEdge_holds (h : Holds q s) : ∀ x0 x1 x2, Holds q (State.toothEdge x0 x1 x2 s) := by
  intro x0 x1 x2; unfold State.toothEdge
  repeat' first
    | with_reducible assumption | with_reducible apply State.edgeTaken_holds
    | with_reducible apply State.quadNote_holds | intro _ | with_reducible refine Holds.step ?_ ?_

theorem State.camEdge_holds (h : Holds q s) : ∀ x0, Holds q (State.camEdge x0 s) := by
  intro x0; unfold State.camEdge
  repeat' first
    | with_reducible assumption | with_reducible apply State.modDom_holds
    | with_reducible apply State.domLost_holds | intro _ | with_reducible refine Holds.step ?_ ?_

theorem State.quadRef_holds (h : Holds q s) : ∀ x0, Holds q (State.quadRef x0 s) := by
  intro x0; unfold State.quadRef
  repeat' first
    | with_reducible assumption | with_reducible apply State.modDom_holds
    | with_reducible apply State.domLost_holds | intro _ | with_reducible refine Holds.step ?_ ?_
    | fail_if_no_progress with_reducible refine Holds.mk' ?_ rfl rfl rfl rfl rfl rfl rfl rfl rfl rfl | split

theorem State.domTimeout_holds (h : Holds q s) : ∀ x0, Holds q (State.domTimeout x0 s) := by
  intro x0; unfold State.domTimeout
  repeat' first
    | with_reducible assumption | with_reducible apply State.domStopped_holds
    | with_reducible apply State.msUpdated_holds | with_reducible apply State.domLost_holds | intro _
    | with_reducible refine Holds.step ?_ ?_
    | fail_if_no_progress with_reducible refine Holds.mk' ?_ rfl rfl rfl rfl rfl rfl rfl rfl rfl rfl | split

theorem State.dirChange_holds (h : Holds q s) : ∀ x0, Holds q (State.dirChange x0 s) := by
  intro x0; unfold State.dirChange
  repeat' first
    | with_reducible assumption | with_reducible apply State.modDom_holds
    | with_reducible apply State.domLost_holds | with_reducible apply State.msUpdated_holds | intro _
    | with_reducible refine Holds.step ?_ ?_

theorem State.busUpdate_holds (h : Holds q s) : ∀ x0 x1 x2 x3, Holds q (State.busUpdate x0 x1 x2 x3 s) := by
  intro x0 x1 x2 x3; unfold State.busUpdate
  repeat' first
    | with_reducible assumption | with_reducible apply State.modDom_holds
    | with_reducible apply State.restart_holds | intro _ | with_reducible refine Holds.step ?_ ?_

theorem State.phaseUpdate_holds (h : Holds q s) :
    ∀ x0 x1 x2 x3 x4 x5, Holds q (State.phaseUpdate x0 x1 x2 x3 x4 x5 s) := by
  intro x0 x1 x2 x3 x4 x5; unfold State.phaseUpdate
  repeat' first
    | with_reducible assumption | with_reducible apply State.busUpdate_holds
    | with_reducible apply State.modDom_holds | with_reducible apply State.restart_holds
    | with_reducible apply State.msUpdated_holds | intro _ | with_reducible refine Holds.step ?_ ?_
    | fail_if_no_progress with_reducible refine Holds.mk' ?_ rfl rfl rfl rfl rfl rfl rfl rfl rfl rfl

theorem State.tickD7_holds (h : Holds q s) : Holds q (State.tickD7 s) := by
  unfold State.tickD7
  repeat' first
    | with_reducible assumption | with_reducible apply State.msDomWrite_holds | intro _
    | with_reducible refine Holds.step ?_ ?_

theorem State.msEndWait_holds (h : Holds q s) : ∀ x0, Holds q (State.msEndWait x0 s) := by
  intro x0; unfold State.msEndWait
  repeat' first
    | with_reducible assumption | with_reducible apply State.modMs_holds | intro _
    | with_reducible refine Holds.step ?_ ?_
    | fail_if_no_progress with_reducible refine Holds.mk' ?_ rfl rfl rfl rfl rfl rfl rfl rfl rfl rfl

theorem State.closeFeedback_holds (h : Holds q s) : ∀ x0, Holds q (State.closeFeedback x0 s) := by
  intro x0; unfold State.closeFeedback
  repeat' first
    | with_reducible assumption | with_reducible apply ok_holds | with_reducible apply State.modMs_holds
    | with_reducible apply State.writeOpt_holds | with_reducible apply State.record_holds
    | with_reducible apply State.msEndWait_holds | intro _ | with_reducible refine Holds.step ?_ ?_
    | fail_if_no_progress with_reducible refine Holds.mk' ?_ rfl rfl rfl rfl rfl rfl rfl rfl rfl rfl | split

theorem State.closeSilent_holds (h : Holds q s) : ∀ x0, Holds q (State.closeSilent x0 s) := by
  intro x0; unfold State.closeSilent
  repeat' first
    | with_reducible assumption | with_reducible apply State.freeW32_holds
    | with_reducible apply State.modMs_holds | with_reducible apply State.record_holds
    | with_reducible apply State.msEndWait_holds | intro _ | with_reducible refine Holds.step ?_ ?_
    | fail_if_no_progress with_reducible refine Holds.mk' ?_ rfl rfl rfl rfl rfl rfl rfl rfl rfl rfl | split

theorem State.msDomsRestart_holds (h : Holds q s) : Holds q (State.msDomsRestart s) := by
  unfold State.msDomsRestart
  repeat' first
    | with_reducible assumption | with_reducible apply State.modDom_holds
    | with_reducible apply State.restart_holds | with_reducible apply Holds.foldl | intro _

theorem State.msOutputsOff_holds (h : Holds q s) : Holds q (State.msOutputsOff s) := by
  unfold State.msOutputsOff
  repeat' first
    | with_reducible assumption | intro _
    | fail_if_no_progress with_reducible refine Holds.mk' ?_ rfl rfl rfl rfl rfl rfl rfl rfl rfl rfl

theorem State.confMs_holds (h : Holds q s) : Holds q (State.confMs s) := by
  unfold State.confMs
  repeat' first
    | with_reducible assumption | with_reducible apply State.msDomsRestart_holds | intro _
    | fail_if_no_progress with_reducible refine Holds.mk' ?_ rfl rfl rfl rfl rfl rfl rfl rfl rfl rfl

theorem State.stopMs_holds (h : Holds q s) : Holds q (State.stopMs s) := by
  unfold State.stopMs
  repeat' first
    | with_reducible assumption | with_reducible apply State.msOutputsOff_holds
    | with_reducible apply State.modDom_holds | with_reducible apply State.restart_holds
    | with_reducible apply State.r38_holds | with_reducible apply Holds.foldl | intro _
    | with_reducible refine Holds.step ?_ ?_
    | fail_if_no_progress with_reducible refine Holds.mk' ?_ rfl rfl rfl rfl rfl rfl rfl rfl rfl rfl

theorem State.retryMs_holds (h : Holds q s) : Holds q (State.retryMs s) := by
  unfold State.retryMs
  repeat' first
    | with_reducible assumption | with_reducible apply State.msWithdraw_holds
    | with_reducible apply State.msDomsRestart_holds | with_reducible apply Holds.foldl | intro _
    | fail_if_no_progress with_reducible refine Holds.mk' ?_ rfl rfl rfl rfl rfl rfl rfl rfl rfl rfl

theorem State.reinitMs_holds (h : Holds q s) : Holds q (State.reinitMs s) := by
  unfold State.reinitMs
  repeat' first
    | with_reducible assumption | with_reducible apply State.retryMs_holds | intro _
    | fail_if_no_progress with_reducible refine Holds.mk' ?_ rfl rfl rfl rfl rfl rfl rfl rfl rfl rfl

theorem State.enterMs_holds (h : Holds q s) : Holds q (State.enterMs s) := by
  unfold State.enterMs
  repeat' first
    | with_reducible assumption | with_reducible apply State.modDom_holds | intro _
    | with_reducible refine Holds.step ?_ ?_
    | fail_if_no_progress with_reducible refine Holds.mk' ?_ rfl rfl rfl rfl rfl rfl rfl rfl rfl rfl

theorem State.leaveMs_holds (h : Holds q s) : Holds q (State.leaveMs s) := by
  unfold State.leaveMs
  repeat' first
    | with_reducible assumption | with_reducible apply State.msOutputsOff_holds
    | with_reducible apply State.modDom_holds | with_reducible apply State.msDomWrite_holds

theorem State.switchDom_holds (h : Holds q s) : ∀ x0 x1, Holds q (State.switchDom x0 s x1) := by
  intro x0 x1; unfold State.switchDom
  repeat' first
    | with_reducible assumption | with_reducible apply State.msWithdraw_holds
    | with_reducible apply State.modDom_holds | with_reducible apply State.restart_holds | intro _
    | with_reducible refine Holds.step ?_ ?_

theorem State.switchGone_holds (h : Holds q s) : ∀ x0, Holds q (State.switchGone s x0) := by
  intro x0; unfold State.switchGone
  repeat' first
    | with_reducible assumption | with_reducible apply State.msOff_holds | intro _
    | fail_if_no_progress with_reducible refine Holds.mk' ?_ rfl rfl rfl rfl rfl rfl rfl rfl rfl rfl | split

theorem State.switchSlot_holds (old : Image) (l : List MsSlotCfg) (acc : State × List MsSlotSt) (h : Holds q acc.1) :
    Holds q (l.foldl (State.switchSlot old) acc).1 := by
  induction l generalizing acc with
  | nil => exact h
  | cons c l ih =>
    refine ih _ ?_
    unfold State.switchSlot
    dsimp only
    split
    · split
      · exact h
      · split
        · exact h
        · split
          · exact State.msOff_holds h _
          · exact h
    · exact h

theorem State.switchMs_holds (h : Holds q s) : ∀ old, Holds q (s.switchMs old) := by
  intro old
  unfold State.switchMs
  extract_lets s1 s2 s3
  have h1 : Holds q s1 := Holds.foldl h fun t d ht => State.switchDom_holds ht _ _
  have h2 : Holds q s2 := Holds.foldl h1 fun t m ht => State.switchGone_holds ht _
  clear_value s2
  have h3 : Holds q s3.1 := State.switchSlot_holds old _ (s2, []) h2
  clear_value s3
  exact h3.of_eq rfl rfl rfl rfl rfl rfl rfl rfl rfl rfl

theorem State.applyMs_holds (h : Holds q s) : ∀ x0, Holds q (State.applyMs x0 s) := by
  intro x0; unfold State.applyMs
  repeat' first
    | with_reducible assumption | intro _
    | fail_if_no_progress with_reducible refine Holds.mk' ?_ rfl rfl rfl rfl rfl rfl rfl rfl rfl rfl

end Sys2Proof.Machine
end

