-- ==== Sys2Proof/Laws/KeptModes.lean ====
section
/-! SUPPORT. What the operations of Machine/Modes.lean keep. -/

namespace Sys2Proof.Machine

variable {q : Bounds} {s : State}

theorem State.olcAbort_holds (h : Holds q s) : ∀ x0 x1, Holds q (State.olcAbort x0 x1 s) := by
  intro x0 x1; unfold State.olcAbort
  repeat' first
    | with_reducible assumption | with_reducible apply State.restart_holds
    | with_reducible apply State.record_holds | with_reducible apply State.answer_holds | intro _
    | with_reducible refine Holds.step ?_ ?_
    | fail_if_no_progress with_reducible refine Holds.mk' ?_ rfl rfl rfl rfl rfl rfl rfl rfl rfl rfl

theorem State.keepShadows_holds (h : Holds q s) : Holds q (State.keepShadows s) :=
  { h with forced := rfl, forceCap := Nat.zero_le _ }

theorem State.leaveBarn_holds (h : Holds q s) : ∀ x0, Holds q (State.leaveBarn x0 s) := by
  intro x0; unfold State.leaveBarn
  repeat' first
    | with_reducible assumption | with_reducible apply State.snapshot_holds | intro _
    | with_reducible refine Holds.step ?_ ?_
    | fail_if_no_progress with_reducible refine Holds.mk' ?_ rfl rfl rfl rfl rfl rfl rfl rfl rfl rfl

theorem State.leaveFuncs_holds (h : Holds q s) : ∀ x0, Holds q (State.leaveFuncs x0 s) := by
  intro x0; unfold State.leaveFuncs
  repeat' first
    | with_reducible assumption | with_reducible apply State.leaveSeq_holds
    | with_reducible apply State.leaveMs_holds | with_reducible apply State.leaveLoop_holds
    | with_reducible apply State.leaveSlv_holds | with_reducible apply State.leaveCan_holds
    | with_reducible apply State.leaveFld_holds | with_reducible apply State.leaveSo_holds
    | with_reducible apply State.leaveEth_holds | with_reducible apply State.leaveUsl_holds

/-- Leaving ACTIVE releases OWNER_N in the same tick (R480). -/
theorem State.leaveActive_holds (h : Holds q s) : ∀ m p, m ≠ .active → Holds q (s.leaveActive m p) := by
  intro m p hm
  unfold State.leaveActive
  split
  · rename_i hs
    have ho := h.owner
    exact { h with owner := by simp only [hs, hm, decide_false] at ho ⊢; exact ho }
  · have h1 := State.leaveFuncs_holds (State.leaveBarn_holds (State.keepShadows_holds (State.olcAbort_holds h 0x36 3)) m) p
    exact { h1 with owner := by simp only [hm, decide_false] }

theorem State.swapFault_holds (h : Holds q s) : ∀ x0, Holds q (State.swapFault x0 s) := by
  intro x0
  unfold State.swapFault
  split
  · refine State.leaveActive_holds (State.sendBoth_holds (State.record_holds ?_ _ _ _ _) _) _ _ (by simp)
    exact h.of_eq rfl rfl rfl rfl rfl rfl rfl rfl rfl rfl
  · exact h

theorem State.enterIsolated_holds (h : Holds q s) : Holds q (State.enterIsolated s) := by
  unfold State.enterIsolated
  exact (State.pairEvt_holds (State.leaveActive_holds h .isolated false (by simp)) _).of_eq rfl rfl rfl rfl rfl rfl rfl rfl rfl rfl

theorem State.enterSafe_holds (h : Holds q s) : ∀ x0, Holds q (State.enterSafe x0 s) := by
  intro x0
  have h1 := State.leaveActive_holds h .safe false (by simp)
  unfold State.enterSafe
  repeat' first
    | with_reducible assumption | with_reducible apply State.record_holds | with_reducible apply State.sendBoth_holds
    | with_reducible apply State.safeFld_holds | intro _ | with_reducible refine Holds.step ?_ ?_
    | fail_if_no_progress with_reducible refine Holds.mk' ?_ rfl rfl rfl rfl rfl rfl rfl rfl rfl rfl


/-- A reset keeps the bounds: the process image and the forces end, OWNER_N is released, no request waits. -/
theorem State.shell_holds (h : Holds q s) : ∀ ph, Holds q (s.shell ph) := fun _ => {
  clock := h.clock, queue := h.queue, floor := h.floor, image := rfl, forced := rfl, forceCap := Nat.zero_le _
  owner := rfl, sessions := Nat.zero_le _, staging := Nat.zero_le _, waits := .inr fun _ hr => nomatch hr }

theorem State.release_holds (h : Holds q s) : ∀ r1 r2 r3, Holds q (s.release r1 r2 r3) :=
  fun _ _ _ => (State.shell_holds h .startup).of_eq rfl rfl rfl rfl rfl rfl rfl rfl rfl rfl

theorem State.restart_holds (h : Holds q s) : Holds q (State.restart s) := by
  have h1 := State.leaveActive_holds h .unconfigured false (by simp)
  have hm : (s.leaveActive .unconfigured false).mode = .unconfigured := by
    unfold State.leaveActive
    split <;> rfl
  unfold State.restart
  exact { h1 with image := rfl, forced := rfl, forceCap := Nat.zero_le _, owner := by simp [hm] }

end Sys2Proof.Machine
end

