-- ==== Sys2Proof/Laws/KeptLogOps.lean ====
section
/-! SUPPORT. What the operations of Machine/LogOps.lean keep. -/

namespace Sys2Proof.Machine

variable {q : Bounds} {s : State}

theorem State.writeEnd_holds (h : Holds q s) : Holds q (State.writeEnd s) := by
  unfold State.writeEnd
  repeat' first
    | with_reducible assumption | intro _ | with_reducible refine Holds.step ?_ ?_
    | fail_if_no_progress with_reducible refine Holds.mk' ?_ rfl rfl rfl rfl rfl rfl rfl rfl rfl rfl | split

theorem drainLog_holds : ∀ (n : Nat) {s : State}, Holds q s → Holds q (drainLog n s)
  | 0, _, h => h
  | n + 1, s, h => by
    have h1 := State.writeEnd_holds h
    unfold drainLog
    dsimp only
    split
    · exact h1
    · exact drainLog_holds n (h1.log (Log.begin_fifo _ _ _ h1.staging))

theorem State.flushLog_holds (h : Holds q s) : Holds q (State.flushLog s) := drainLog_holds 200 h

theorem State.finishClear_holds (h : Holds q s) : ∀ x0, Holds q (State.finishClear x0 s) := by
  intro x0; unfold State.finishClear
  repeat' first
    | with_reducible assumption | intro _
    | fail_if_no_progress with_reducible refine Holds.mk' ?_ rfl rfl rfl rfl rfl rfl rfl rfl rfl rfl

theorem State.startClear_holds (h : Holds q s) : ∀ x0 x1 x2, Holds q (State.startClear x0 x1 x2 s) := by
  intro x0 x1 x2; unfold State.startClear
  repeat' first
    | with_reducible assumption | with_reducible apply State.writeEnd_holds | intro _
    | fail_if_no_progress with_reducible refine Holds.mk' ?_ rfl rfl rfl rfl rfl rfl rfl rfl rfl rfl

theorem State.logScan_holds (h : Holds q s) : ∀ x0, Holds q (State.logScan x0 s) := by
  intro x0
  unfold State.logScan
  dsimp only
  split
  · refine State.finishClear_holds ?_ _
    exact h.log h.staging
  · split
    · refine State.record_holds ?_ _ _ _ _
      exact h.log h.staging
    · split
      · refine State.record_holds ?_ _ _ _ _
        exact h.log h.staging
      · exact h.log h.staging

theorem State.logPending_holds (h : Holds q s) : Holds q (State.logPending s) := by
  unfold State.logPending
  split
  · exact h.log (Log.enter_fifo _ _ _ h.staging)
  · exact h

theorem State.logStart_holds (h : Holds q s) : ∀ x0, Holds q (State.logStart x0 s) := by
  intro x0; unfold State.logStart
  repeat' first
    | with_reducible assumption | with_reducible apply State.logScan_holds
    | with_reducible apply State.logPending_holds

end Sys2Proof.Machine
end

