-- ==== Sys2Proof/Laws/KeptFaults.lean ====
section
/-! SUPPORT. What the operations of Machine/Faults.lean keep. -/

namespace Sys2Proof.Machine

variable {q : Bounds} {s : State}

theorem State.stopFunc_holds (h : Holds q s) : ∀ x0 x1, Holds q (State.stopFunc x0 x1 s) := by
  intro x0 x1; unfold State.stopFunc
  repeat' first
    | with_reducible assumption | with_reducible apply State.r38_holds
    | with_reducible apply State.stopSeq_holds | with_reducible apply State.stopMs_holds
    | with_reducible apply State.stopLoop_holds | with_reducible apply State.stopSlv_holds
    | with_reducible apply State.stopCan_holds | with_reducible apply State.stopAi_holds
    | with_reducible apply State.stopAo_holds | with_reducible apply State.stopDio_holds
    | with_reducible apply State.stopSo_holds | with_reducible apply State.stopEth_holds
    | with_reducible apply State.stopUsl_holds | intro _
    | fail_if_no_progress with_reducible refine Holds.mk' ?_ rfl rfl rfl rfl rfl rfl rfl rfl rfl rfl | split

theorem State.rewriteWord_holds (h : Holds q s) : ∀ l, Holds q (s.rewriteWord l) := by
  intro l
  unfold State.rewriteWord
  split
  · split
    · exact h
    · exact { h with image := SlotMap.wf_filter _ h.image }
  · exact State.writeSlot_holds h _ _ _
  · exact h

theorem State.retryFunc_holds (h : Holds q s) : ∀ x0 x1, Holds q (State.retryFunc x0 x1 s) := by
  intro x0 x1; unfold State.retryFunc
  repeat' first
    | with_reducible assumption | with_reducible apply State.rewriteWord_holds
    | with_reducible apply State.retrySeq_holds | with_reducible apply State.retryMs_holds
    | with_reducible apply State.retryLoop_holds | with_reducible apply State.retrySlv_holds
    | with_reducible apply State.retryCan_holds | with_reducible apply State.retryAi_holds
    | with_reducible apply State.retryAo_holds | with_reducible apply State.retryDio_holds
    | with_reducible apply State.retrySo_holds | with_reducible apply State.retryEth_holds
    | with_reducible apply State.retryUsl_holds | with_reducible apply Holds.foldl | intro _
    | fail_if_no_progress with_reducible refine Holds.mk' ?_ rfl rfl rfl rfl rfl rfl rfl rfl rfl rfl | split

theorem State.reinitFunc_holds (h : Holds q s) : ∀ x0 x1, Holds q (State.reinitFunc x0 x1 s) := by
  intro x0 x1; unfold State.reinitFunc
  repeat' first
    | with_reducible assumption | with_reducible apply State.retryFunc_holds
    | with_reducible apply State.reinitSeq_holds | with_reducible apply State.reinitMs_holds
    | with_reducible apply State.reinitLoop_holds | with_reducible apply State.reinitSlv_holds
    | with_reducible apply State.reinitCan_holds | with_reducible apply State.reinitAi_holds
    | with_reducible apply State.reinitAo_holds | with_reducible apply State.reinitDio_holds
    | with_reducible apply State.reinitSo_holds | with_reducible apply State.reinitEth_holds
    | with_reducible apply State.reinitUsl_holds | intro _
    | fail_if_no_progress with_reducible refine Holds.mk' ?_ rfl rfl rfl rfl rfl rfl rfl rfl rfl rfl | split

theorem State.modScope_holds (h : Holds q s) : ∀ x0 x1 x2, Holds q (State.modScope x0 x1 x2 s) := by
  intro x0 x1 x2; unfold State.modScope
  repeat' first
    | with_reducible assumption | intro _ | with_reducible refine Holds.step ?_ ?_
    | fail_if_no_progress with_reducible refine Holds.mk' ?_ rfl rfl rfl rfl rfl rfl rfl rfl rfl rfl

theorem State.clearFault_holds (h : Holds q s) : ∀ x0 x1, Holds q (State.clearFault x0 x1 s) := by
  intro x0 x1; unfold State.clearFault
  repeat' first
    | with_reducible assumption | with_reducible apply State.modScope_holds | intro _
    | fail_if_no_progress with_reducible refine Holds.mk' ?_ rfl rfl rfl rfl rfl rfl rfl rfl rfl rfl

theorem State.rewriteCfg_holds (h : Holds q s) : ∀ x0 x1, Holds q (State.rewriteCfg x0 x1 s) := by
  intro x0 x1; unfold State.rewriteCfg
  repeat' first
    | with_reducible assumption | intro _
    | fail_if_no_progress with_reducible refine Holds.mk' ?_ rfl rfl rfl rfl rfl rfl rfl rfl rfl rfl

theorem State.withFaults_holds (h : Holds q s) : ∀ b, Holds q (State.withFaults b s) :=
  fun _ => h.of_eq rfl rfl rfl rfl rfl rfl rfl rfl rfl rfl

theorem State.faultBit_holds (h : Holds q s) : ∀ x0, Holds q (State.faultBit x0 s) := by
  intro x0; unfold State.faultBit
  repeat' first
    | with_reducible assumption | intro _
    | fail_if_no_progress with_reducible refine Holds.mk' ?_ rfl rfl rfl rfl rfl rfl rfl rfl rfl rfl | split

theorem State.stopAll_holds (h : Holds q s) : Holds q (State.stopAll s) := by
  unfold State.stopAll
  repeat' first
    | with_reducible assumption | with_reducible apply State.withFaults_holds
    | with_reducible apply State.stopFunc_holds | with_reducible apply Holds.foldl | intro _
    | with_reducible refine Holds.step ?_ ?_

theorem State.keepFault_holds (h : Holds q s) : ∀ x0 x1 x2, Holds q (State.keepFault x0 x1 x2 s) := by
  intro x0 x1 x2; unfold State.keepFault
  repeat' first
    | with_reducible assumption | with_reducible apply State.record_holds | intro _
    | with_reducible refine Holds.step ?_ ?_
    | fail_if_no_progress with_reducible refine Holds.mk' ?_ rfl rfl rfl rfl rfl rfl rfl rfl rfl rfl

theorem State.moduleFault_holds (h : Holds q s) : ∀ x0 x1 x2, Holds q (State.moduleFault x0 x1 x2 s) := by
  intro x0 x1 x2; unfold State.moduleFault
  repeat' first
    | with_reducible assumption | with_reducible apply State.sendBoth_holds
    | with_reducible apply State.swapFault_holds | with_reducible apply State.leaveActive_holds
    | with_reducible apply State.stopAll_holds | with_reducible apply State.keepFault_holds
    | exact fun e => ModState.noConfusion e | intro _ | with_reducible refine Holds.step ?_ ?_
    | fail_if_no_progress with_reducible refine Holds.mk' ?_ rfl rfl rfl rfl rfl rfl rfl rfl rfl rfl

theorem State.raiseScope_holds (h : Holds q s) :
    ∀ x0 x1 x2, (∀ t, Holds q t → Holds q (x2 t)) → Holds q (State.raiseScope x0 x1 x2 s) := by
  intro x0 x1 x2 hf2; unfold State.raiseScope
  repeat' first
    | with_reducible assumption | with_reducible apply hf2 | with_reducible apply State.modScope_holds
    | with_reducible apply State.moduleFault_holds | with_reducible apply State.faultBit_holds
    | with_reducible apply State.stopFunc_holds | with_reducible apply State.enterSafe_holds
    | with_reducible apply State.swapFault_holds | intro _ | with_reducible refine Holds.step ?_ ?_
    | fail_if_no_progress with_reducible refine Holds.mk' ?_ rfl rfl rfl rfl rfl rfl rfl rfl rfl rfl

theorem State.funcFault_holds (h : Holds q s) : ∀ f c a, Holds q (s.funcFault f c a) :=
  fun f _ _ => State.raiseScope_holds h f none _ fun _ ht => State.record_holds ht _ _ _ _

theorem State.setCause_holds (h : Holds q s) : ∀ x0 x1 x2, Holds q (State.setCause x0 x1 x2 s) := by
  intro x0 x1 x2; unfold State.setCause
  repeat' first
    | with_reducible assumption | with_reducible apply State.modCan_holds | intro _
    | fail_if_no_progress with_reducible refine Holds.mk' ?_ rfl rfl rfl rfl rfl rfl rfl rfl rfl rfl | split

theorem State.parityDetect_holds (h : Holds q s) : ∀ x0, Holds q (State.parityDetect x0 s) := by
  intro x0; unfold State.parityDetect
  repeat' first
    | with_reducible assumption | with_reducible apply State.latchSet_holds
    | with_reducible apply State.record_holds | with_reducible apply State.setCause_holds
    | with_reducible apply State.raiseScope_holds | intro _ | with_reducible refine Holds.step ?_ ?_
    | fail_if_no_progress with_reducible refine Holds.mk' ?_ rfl rfl rfl rfl rfl rfl rfl rfl rfl rfl | split

theorem State.recordRung_holds (h : Holds q s) : ∀ x0 x1 x2, Holds q (State.recordRung x0 x1 x2 s) := by
  intro x0 x1 x2; unfold State.recordRung
  repeat' first
    | with_reducible assumption | with_reducible apply State.record_holds | intro _
    | with_reducible refine Holds.step ?_ ?_

theorem State.clearUnits_holds (h : Holds q s) : ∀ x0 x1 x2, Holds q (State.clearUnits x0 x1 x2 s) := by
  intro x0 x1 x2; unfold State.clearUnits
  repeat' first
    | with_reducible assumption | intro _ | with_reducible refine Holds.step ?_ ?_
    | fail_if_no_progress with_reducible refine Holds.mk' ?_ rfl rfl rfl rfl rfl rfl rfl rfl rfl rfl | split

theorem State.takeRung_holds (h : Holds q s) : ∀ x0 x1, Holds q (State.takeRung x0 x1 s) := by
  intro x0 x1; unfold State.takeRung
  repeat' first
    | with_reducible assumption | with_reducible apply State.recordRung_holds
    | with_reducible apply State.modScope_holds | with_reducible apply State.clearFault_holds
    | with_reducible apply State.clearUnits_holds | with_reducible apply State.retryFunc_holds
    | with_reducible apply State.reinitFunc_holds | with_reducible apply State.rewriteCfg_holds
    | with_reducible apply State.record_holds | with_reducible apply State.moduleFault_holds | intro _
    | with_reducible refine Holds.step ?_ ?_
    | fail_if_no_progress with_reducible refine Holds.mk' ?_ rfl rfl rfl rfl rfl rfl rfl rfl rfl rfl | split

theorem State.reset10ms_holds (h : Holds q s) : Holds q (State.reset10ms s) := by
  unfold State.reset10ms
  repeat' first
    | with_reducible assumption | with_reducible apply State.flushLog_holds
    | with_reducible apply State.shell_holds | intro _ | with_reducible refine Holds.step ?_ ?_

theorem State.takeModuleRung_holds (h : Holds q s) : Holds q (State.takeModuleRung s) := by
  unfold State.takeModuleRung
  repeat' first
    | with_reducible assumption | with_reducible apply State.pcycEnd_holds
    | with_reducible apply State.recordRung_holds | with_reducible apply State.reset10ms_holds
    | with_reducible apply State.record_holds | intro _ | with_reducible refine Holds.step ?_ ?_
    | fail_if_no_progress with_reducible refine Holds.mk' ?_ rfl rfl rfl rfl rfl rfl rfl rfl rfl rfl | split

theorem State.ladderWindow_holds (h : Holds q s) : ∀ x0 x1, Holds q (State.ladderWindow x0 x1 s) := by
  intro x0 x1; unfold State.ladderWindow
  repeat' first
    | with_reducible assumption | with_reducible apply State.modScope_holds
    | with_reducible apply State.endTick_holds | intro _ | with_reducible refine Holds.step ?_ ?_
    | fail_if_no_progress with_reducible refine Holds.mk' ?_ rfl rfl rfl rfl rfl rfl rfl rfl rfl rfl | split

theorem State.diagRecover_holds (h : Holds q s) : ∀ x0 x1 x2, Holds q (State.diagRecover x0 x1 x2 s) := by
  intro x0 x1 x2; unfold State.diagRecover
  repeat' first
    | with_reducible assumption | with_reducible apply State.reset10ms_holds
    | with_reducible apply State.modScope_holds | with_reducible apply State.clearFault_holds
    | with_reducible apply State.retryFunc_holds | intro _ | with_reducible refine Holds.step ?_ ?_
    | fail_if_no_progress with_reducible refine Holds.mk' ?_ rfl rfl rfl rfl rfl rfl rfl rfl rfl rfl | split

end Sys2Proof.Machine
end

