-- ==== Sys2Proof/Laws/KeptPairOps.lean ====
section
/-! SUPPORT. What the operations of Machine/PairOps.lean keep. -/

namespace Sys2Proof.Machine

variable {q : Bounds} {s : State}

theorem State.senseOwner_holds (h : Holds q s) : Holds q (State.senseOwner s) := by
  unfold State.senseOwner
  repeat' first
    | with_reducible assumption | intro _ | with_reducible refine Holds.step ?_ ?_
    | fail_if_no_progress with_reducible refine Holds.mk' ?_ rfl rfl rfl rfl rfl rfl rfl rfl rfl rfl

theorem State.refuseRequest_holds (h : Holds q s) : ∀ x0, Holds q (State.refuseRequest x0 s) := by
  intro x0; unfold State.refuseRequest
  repeat' first | with_reducible assumption | with_reducible apply State.record_holds

theorem State.refuseHandover_holds (h : Holds q s) : ∀ x0, Holds q (State.refuseHandover x0 s) := by
  intro x0; unfold State.refuseHandover
  repeat' first
    | with_reducible assumption | with_reducible apply State.refuseRequest_holds | intro _
    | fail_if_no_progress with_reducible refine Holds.mk' ?_ rfl rfl rfl rfl rfl rfl rfl rfl rfl rfl

theorem State.requestHandover_holds (h : Holds q s) : ∀ x0, Holds q (State.requestHandover x0 s) := by
  intro x0; unfold State.requestHandover
  repeat' first
    | with_reducible assumption | with_reducible apply State.sendBoth_holds
    | with_reducible apply State.refuseRequest_holds | intro _ | with_reducible refine Holds.step ?_ ?_
    | fail_if_no_progress with_reducible refine Holds.mk' ?_ rfl rfl rfl rfl rfl rfl rfl rfl rfl rfl

end Sys2Proof.Machine
end

