-- ==== Sys2Proof/Laws/KeptFinish.lean ====
section
/-! SUPPORT. What the operations of Machine/Finish.lean keep. -/

namespace Sys2Proof.Machine

variable {q : Bounds} {s : State}

theorem State.putStatus_holds (h : Holds q s) : ∀ x0, Holds q (State.putStatus x0 s) := by
  intro x0; unfold State.putStatus
  repeat' first
    | with_reducible assumption | with_reducible apply State.writeRef_holds | intro _
    | with_reducible refine Holds.step ?_ ?_
    | fail_if_no_progress with_reducible refine Holds.mk' ?_ rfl rfl rfl rfl rfl rfl rfl rfl rfl rfl | split

theorem State.syncStatus_holds (h : Holds q s) : Holds q (State.syncStatus s) := by
  unfold State.syncStatus
  repeat' first
    | with_reducible assumption | with_reducible apply State.putStatus_holds
    | with_reducible apply Holds.foldl | intro _ | with_reducible refine Holds.step ?_ ?_

theorem State.setLeds_holds (h : Holds q s) : Holds q (State.setLeds s) := by
  unfold State.setLeds
  repeat' first
    | with_reducible assumption | with_reducible apply Expiry.run_holds
    | with_reducible apply State.powerFail_holds | intro _ | with_reducible refine Holds.step ?_ ?_
    | fail_if_no_progress with_reducible refine Holds.mk' ?_ rfl rfl rfl rfl rfl rfl rfl rfl rfl rfl

theorem finish_holds (h : Holds q s) : Holds q (finish s) := by
  unfold finish
  repeat' first
    | with_reducible assumption | with_reducible apply State.msLook_holds
    | with_reducible apply State.soLook_holds | with_reducible apply State.syncStatus_holds
    | with_reducible apply State.dioLook_holds | with_reducible apply State.senseOwner_holds
    | with_reducible apply State.setLeds_holds

end Sys2Proof.Machine
end

