-- ==== Sys2Proof/Laws/KeptBrakeActs.lean ====
section
/-! SUPPORT. What the operations of Machine/BrakeActs.lean keep. -/

namespace Sys2Proof.Machine

variable {q : Bounds} {s : State}

theorem State.brakeDemandIn_holds (h : Holds q s) : ∀ x0 x1, Holds q (State.brakeDemandIn x0 x1 s) := by
  intro x0 x1; unfold State.brakeDemandIn
  repeat' first
    | with_reducible assumption | with_reducible apply State.setFsSq_holds
    | with_reducible apply State.brakeDemand_holds | intro _ | with_reducible refine Holds.step ?_ ?_
    | fail_if_no_progress with_reducible refine Holds.mk' ?_ rfl rfl rfl rfl rfl rfl rfl rfl rfl rfl | split
    | dsimp only

theorem State.soFaultSwap_holds (h : Holds q s) : ∀ k (f : State → State), (∀ t, Holds q t → Holds q (f t)) →
    Holds q (s.soFaultSwap k f) := by
  intro k f hf
  unfold State.soFaultSwap
  dsimp only
  split
  · exact State.swapFault_holds (hf s h) _
  · exact hf s h

theorem State.unlockExpire_holds (h : Holds q s) : ∀ x0, Holds q (State.unlockExpire x0 s) := by
  intro x0; unfold State.unlockExpire
  repeat' first
    | with_reducible assumption | with_reducible apply State.modSession_holds

theorem State.pwdLockEnd_holds (h : Holds q s) : Holds q (State.pwdLockEnd s) := by
  unfold State.pwdLockEnd
  repeat' first
    | with_reducible assumption | intro _ | with_reducible refine Holds.step ?_ ?_
    | fail_if_no_progress with_reducible refine Holds.mk' ?_ rfl rfl rfl rfl rfl rfl rfl rfl rfl rfl | split

end Sys2Proof.Machine
end

