-- ==== Sys2Proof/Laws/KeptDiagActs.lean ====
section
/-! SUPPORT. What the operations of Machine/DiagActs.lean keep. -/

namespace Sys2Proof.Machine

variable {q : Bounds} {s : State}

theorem State.clockCheck_holds (h : Holds q s) : ∀ x0 x1, Holds q (State.clockCheck x0 x1 s) := by
  intro x0 x1; unfold State.clockCheck
  repeat' first
    | with_reducible assumption | with_reducible apply State.record_holds
    | with_reducible apply State.moduleFault_holds | intro _ | with_reducible refine Holds.step ?_ ?_
    | fail_if_no_progress with_reducible refine Holds.mk' ?_ rfl rfl rfl rfl rfl rfl rfl rfl rfl rfl

theorem State.mgmtStall_holds (h : Holds q s) : Holds q (State.mgmtStall s) := by
  unfold State.mgmtStall
  repeat' first
    | with_reducible assumption | with_reducible apply State.moduleFault_holds | intro _
    | with_reducible refine Holds.step ?_ ?_
    | fail_if_no_progress with_reducible refine Holds.mk' ?_ rfl rfl rfl rfl rfl rfl rfl rfl rfl rfl

theorem State.checkerTest_holds (h : Holds q s) : ∀ x0, Holds q (State.checkerTest x0 s) := by
  intro x0; unfold State.checkerTest
  repeat' first
    | with_reducible assumption | with_reducible apply ok_holds | with_reducible apply State.latchSet_holds
    | with_reducible apply State.record_holds | with_reducible apply State.moduleFault_holds | intro _
    | with_reducible refine Holds.step ?_ ?_
    | fail_if_no_progress with_reducible refine Holds.mk' ?_ rfl rfl rfl rfl rfl rfl rfl rfl rfl rfl

theorem State.memHard_holds (h : Holds q s) : ∀ x0 x1, Holds q (State.memHard x0 x1 s) := by
  intro x0 x1; unfold State.memHard
  repeat' first
    | with_reducible assumption | with_reducible apply State.record_holds
    | with_reducible apply State.funcFault_holds | intro _ | with_reducible refine Holds.step ?_ ?_
    | fail_if_no_progress with_reducible refine Holds.mk' ?_ rfl rfl rfl rfl rfl rfl rfl rfl rfl rfl

theorem State.memSoft_holds (h : Holds q s) : ∀ x0 x1, Holds q (State.memSoft x0 x1 s) := by
  intro x0 x1; unfold State.memSoft
  repeat' first
    | with_reducible assumption | with_reducible apply State.memHard_holds | intro _
    | with_reducible refine Holds.step ?_ ?_
    | fail_if_no_progress with_reducible refine Holds.mk' ?_ rfl rfl rfl rfl rfl rfl rfl rfl rfl rfl

theorem State.scrubWord_holds (h : Holds q s) : ∀ x0 x1 x2 x3, Holds q (State.scrubWord x0 x1 x2 x3 s) := by
  intro x0 x1 x2 x3; unfold State.scrubWord
  repeat' first
    | with_reducible assumption | with_reducible apply State.moduleFault_holds
    | with_reducible apply State.record_holds | with_reducible apply State.memHard_holds
    | with_reducible apply State.memSoft_holds | intro _ | with_reducible refine Holds.step ?_ ?_
    | fail_if_no_progress with_reducible refine Holds.mk' ?_ rfl rfl rfl rfl rfl rfl rfl rfl rfl rfl | split

theorem State.resetRelease_holds (h : Holds q s) : ∀ x0 x1 x2, Holds q (State.resetRelease x0 x1 x2 s) := by
  intro x0 x1 x2; unfold State.resetRelease
  repeat' first
    | with_reducible assumption | with_reducible apply State.release_holds | intro _
    | with_reducible refine Holds.step ?_ ?_
    | fail_if_no_progress with_reducible refine Holds.mk' ?_ rfl rfl rfl rfl rfl rfl rfl rfl rfl rfl | split

theorem State.pcycEnd_holds (h : Holds q s) : Holds q (State.pcycEnd s) := by
  unfold State.pcycEnd
  repeat' first
    | with_reducible assumption | intro _ | with_reducible refine Holds.step ?_ ?_
    | fail_if_no_progress with_reducible refine Holds.mk' ?_ rfl rfl rfl rfl rfl rfl rfl rfl rfl rfl | split

theorem State.pcycIgnored_holds (h : Holds q s) : Holds q (State.pcycIgnored s) := by
  unfold State.pcycIgnored
  repeat' first
    | with_reducible assumption | with_reducible apply State.pcycEnd_holds
    | with_reducible apply State.record_holds | intro _ | with_reducible refine Holds.step ?_ ?_
    | fail_if_no_progress with_reducible refine Holds.mk' ?_ rfl rfl rfl rfl rfl rfl rfl rfl rfl rfl | split

theorem State.writeDone_holds (h : Holds q s) : Holds q (State.writeDone s) := by
  have h1 := State.writeEnd_holds h
  unfold State.writeDone
  split
  · split
    · exact h1.log (Log.begin_fifo _ _ _ h1.staging)
    · exact h
  · exact h

end Sys2Proof.Machine
end

