-- ==== Sys2Proof/Laws/KeptEthActs.lean ====
section
/-! SUPPORT. What the operations of Machine/EthActs.lean keep. -/

namespace Sys2Proof.Machine

variable {q : Bounds} {s : State}

theorem State.arpAnswer_holds (h : Holds q s) : ∀ x0 x1, Holds q (State.arpAnswer x0 x1 s) := by
  intro x0 x1; unfold State.arpAnswer
  repeat' first
    | with_reducible assumption | with_reducible apply State.ethIn_holds
    | with_reducible apply State.ethSend_holds | intro _ | with_reducible refine Holds.step ?_ ?_

theorem State.icmpAnswer_holds (h : Holds q s) : ∀ x0 x1, Holds q (State.icmpAnswer x0 x1 s) := by
  intro x0 x1; unfold State.icmpAnswer
  repeat' first
    | with_reducible assumption | with_reducible apply State.ethIn_holds
    | with_reducible apply State.ethSend_holds | intro _ | with_reducible refine Holds.step ?_ ?_

end Sys2Proof.Machine
end

