-- ==== Sys2Proof/Laws/KeptFieldActs.lean ====
section
/-! SUPPORT. What the operations of Machine/FieldActs.lean keep. -/

namespace Sys2Proof.Machine

variable {q : Bounds} {s : State}

theorem State.aiRefCheck_holds (h : Holds q s) : ∀ x0 x1, Holds q (State.aiRefCheck x0 x1 s) := by
  intro x0 x1; unfold State.aiRefCheck
  repeat' first
    | with_reducible assumption | with_reducible apply State.latchSet_holds
    | with_reducible apply State.modAi_holds | with_reducible apply State.raiseScope_holds
    | with_reducible apply State.record_holds | intro _ | with_reducible refine Holds.step ?_ ?_
    | fail_if_no_progress with_reducible refine Holds.mk' ?_ rfl rfl rfl rfl rfl rfl rfl rfl rfl rfl | split

theorem State.aoFail_holds (h : Holds q s) : ∀ x0 x1 x2, Holds q (State.aoFail x0 x1 x2 s) := by
  intro x0 x1 x2; unfold State.aoFail
  repeat' first
    | with_reducible assumption | with_reducible apply State.modAo_holds
    | with_reducible apply State.raiseScope_holds | with_reducible apply State.record_holds | intro _

theorem State.aoDeviation_holds (h : Holds q s) : ∀ x0, Holds q (State.aoDeviation x0 s) := by
  intro x0; unfold State.aoDeviation
  repeat' first
    | with_reducible assumption | with_reducible apply State.latchSet_holds
    | with_reducible apply State.aoFail_holds | intro _ | with_reducible refine Holds.step ?_ ?_

theorem State.aoNoFrame_holds (h : Holds q s) : ∀ x0, Holds q (State.aoNoFrame x0 s) := by
  intro x0; unfold State.aoNoFrame
  repeat' first
    | with_reducible assumption | with_reducible apply State.latchSet_holds
    | with_reducible apply State.modAo_holds | with_reducible apply State.aoFail_holds | intro _
    | with_reducible refine Holds.step ?_ ?_

theorem State.aoTestDone_holds (h : Holds q s) : ∀ x0 x1, Holds q (State.aoTestDone x0 x1 s) := by
  intro x0 x1; unfold State.aoTestDone
  repeat' first
    | with_reducible assumption | with_reducible apply State.modAo_holds | with_reducible apply ok_holds
    | with_reducible apply State.aoFail_holds | intro _ | with_reducible refine Holds.step ?_ ?_

theorem State.dioFail_holds (h : Holds q s) : ∀ x0 x1, Holds q (State.dioFail x0 x1 s) := by
  intro x0 x1; unfold State.dioFail
  repeat' first
    | with_reducible assumption | with_reducible apply State.modDio_holds
    | with_reducible apply State.raiseScope_holds | with_reducible apply State.record_holds | intro _
    | with_reducible refine Holds.step ?_ ?_
    | fail_if_no_progress with_reducible refine Holds.mk' ?_ rfl rfl rfl rfl rfl rfl rfl rfl rfl rfl | split

end Sys2Proof.Machine
end

