-- ==== Sys2Proof/Laws/KeptLoopActs.lean ====
section
/-! SUPPORT. What the operations of Machine/LoopActs.lean keep. -/

namespace Sys2Proof.Machine

variable {q : Bounds} {s : State}

theorem State.loopEnd_holds (h : Holds q s) : ∀ x0, Holds q (State.loopEnd x0 s) := by
  intro x0; unfold State.loopEnd
  repeat' first
    | with_reducible assumption | with_reducible apply Expiry.run_holds
    | with_reducible apply State.loopCommit_holds | with_reducible apply State.funcFault_holds | intro _
    | with_reducible refine Holds.step ?_ ?_
    | fail_if_no_progress with_reducible refine Holds.mk' ?_ rfl rfl rfl rfl rfl rfl rfl rfl rfl rfl | split

end Sys2Proof.Machine
end

