-- ==== Sys2Proof/Laws/KeptMsActs.lean ====
section
/-! SUPPORT. What the operations of Machine/MsActs.lean keep. -/

namespace Sys2Proof.Machine

variable {q : Bounds} {s : State}

theorem State.msCommit_holds (h : Holds q s) : ∀ x0, Holds q (State.msCommit x0 s) := by
  intro x0; unfold State.msCommit
  repeat' first
    | with_reducible assumption | with_reducible apply State.modMs_holds

theorem State.pulseEnd_holds (h : Holds q s) : ∀ x0, Holds q (State.pulseEnd x0 s) := by
  intro x0; unfold State.pulseEnd
  repeat' first
    | with_reducible assumption | with_reducible apply State.msPulseEnd_holds | intro _
    | with_reducible refine Holds.step ?_ ?_
    | fail_if_no_progress with_reducible refine Holds.mk' ?_ rfl rfl rfl rfl rfl rfl rfl rfl rfl rfl | split

theorem State.trackers_holds (h : Holds q s) : ∀ x0, Holds q (State.trackers x0 s) := by
  intro x0; unfold State.trackers
  repeat' first
    | with_reducible assumption | with_reducible apply State.funcFault_holds | intro _
    | with_reducible refine Holds.step ?_ ?_
    | fail_if_no_progress with_reducible refine Holds.mk' ?_ rfl rfl rfl rfl rfl rfl rfl rfl rfl rfl

end Sys2Proof.Machine
end

