-- ==== Sys2Proof/Laws/KeptSlvActs.lean ====
section
/-! SUPPORT. What the operations of Machine/SlvActs.lean keep. -/

namespace Sys2Proof.Machine

variable {q : Bounds} {s : State}

theorem State.residualCheck_holds (h : Holds q s) : Holds q (State.residualCheck s) := by
  unfold State.residualCheck
  repeat' first
    | with_reducible assumption | with_reducible apply State.modProb_holds | with_reducible apply ok_holds
    | with_reducible apply State.setStage_holds | with_reducible apply State.funcFault_holds
    | with_reducible apply State.record_holds | intro _ | with_reducible refine Holds.step ?_ ?_
    | fail_if_no_progress with_reducible refine Holds.mk' ?_ rfl rfl rfl rfl rfl rfl rfl rfl rfl rfl | split

end Sys2Proof.Machine
end

