-- ==== Sys2Proof/Laws/KeptRegRead.lean ====
section
/-! SUPPORT. What the operations of Machine/RegRead.lean keep. -/

namespace Sys2Proof.Machine

variable {q : Bounds} {s : State}

theorem State.modWin_holds (h : Holds q s) : ∀ x0 x1, Holds q (State.modWin x0 x1 s) := by
  intro x0 x1; unfold State.modWin
  repeat' first
    | with_reducible assumption | with_reducible apply State.modSession_holds | intro _
    | fail_if_no_progress with_reducible refine Holds.mk' ?_ rfl rfl rfl rfl rfl rfl rfl rfl rfl rfl | split

theorem State.modShadows_holds (h : Holds q s) : ∀ x0 x1, Holds q (State.modShadows x0 x1 s) := by
  intro x0 x1; unfold State.modShadows
  repeat' first
    | with_reducible assumption | with_reducible apply State.modWin_holds | intro _
    | fail_if_no_progress with_reducible refine Holds.mk' ?_ rfl rfl rfl rfl rfl rfl rfl rfl rfl rfl | split

end Sys2Proof.Machine
end

