-- ==== Sys2Proof/Laws/KeptBusUndo.lean ====
section
/-! SUPPORT. What the operations of Machine/BusUndo.lean keep. -/

namespace Sys2Proof.Machine

variable {q : Bounds} {s : State}

theorem State.setLatches_holds (h : Holds q s) : ∀ x0 x1 x2, Holds q (State.setLatches x0 x1 x2 s) := by
  intro x0 x1 x2; unfold State.setLatches
  repeat' first
    | with_reducible assumption | with_reducible apply State.pairEvt_holds
    | with_reducible apply State.modDom_holds | with_reducible apply State.modCtx_holds
    | with_reducible apply State.canEvt_holds | with_reducible apply State.modCan_holds
    | with_reducible apply State.modAi_holds | with_reducible apply State.modAo_holds
    | with_reducible apply State.modBrake_holds | with_reducible apply State.modPtp_holds
    | with_reducible apply State.modUsl_holds | intro _
    | fail_if_no_progress with_reducible refine Holds.mk' ?_ rfl rfl rfl rfl rfl rfl rfl rfl rfl rfl | split

theorem State.putCounters_holds (h : Holds q s) : ∀ x0 x1 x2, Holds q (State.putCounters x0 x1 x2 s) := by
  intro x0 x1 x2; unfold State.putCounters
  repeat' first
    | with_reducible assumption | with_reducible apply State.modLane_holds
    | with_reducible apply State.modCtx_holds | with_reducible apply State.modProb_holds
    | with_reducible apply State.modCan_holds | with_reducible apply State.modAi_holds
    | with_reducible apply State.modBrake_holds | with_reducible apply State.modUsl_holds | intro _
    | fail_if_no_progress with_reducible refine Holds.mk' ?_ rfl rfl rfl rfl rfl rfl rfl rfl rfl rfl | split

theorem State.keepUndo_holds (h : Holds q s) : ∀ x0 x1 x2 x3 x4, Holds q (State.keepUndo x0 x1 x2 x3 x4 s) := by
  intro x0 x1 x2 x3 x4; unfold State.keepUndo
  repeat' first
    | with_reducible assumption | intro _ | with_reducible refine Holds.step ?_ ?_
    | fail_if_no_progress with_reducible refine Holds.mk' ?_ rfl rfl rfl rfl rfl rfl rfl rfl rfl rfl

theorem State.undoWrite_holds (h : Holds q s) : ∀ x0 x1 x2, Holds q (State.undoWrite x0 x1 x2 s) := by
  intro x0 x1 x2; unfold State.undoWrite
  repeat' first
    | with_reducible assumption | with_reducible apply State.setLatches_holds
    | with_reducible apply State.putCounters_holds | intro _ | with_reducible refine Holds.step ?_ ?_
    | fail_if_no_progress with_reducible refine Holds.mk' ?_ rfl rfl rfl rfl rfl rfl rfl rfl rfl rfl | split

end Sys2Proof.Machine
end

