-- ==== Sys2Proof/Laws/KeptBus.lean ====
section
/-! SUPPORT. What the operations of Machine/Bus.lean keep. -/

namespace Sys2Proof.Machine

variable {q : Bounds} {s : State}

theorem State.accFault_holds (h : Holds q s) : ∀ x0 x1 x2 x3, Holds q (State.accFault x0 x1 x2 x3 s) := by
  intro x0 x1 x2 x3; unfold State.accFault
  repeat' first
    | with_reducible assumption | with_reducible apply State.record_holds | intro _
    | with_reducible refine Holds.step ?_ ?_
    | fail_if_no_progress with_reducible refine Holds.mk' ?_ rfl rfl rfl rfl rfl rfl rfl rfl rfl rfl

theorem State.gateWriteBy_holds (h : Holds q s) : ∀ x0 x1, Holds q (State.gateWriteBy x0 x1 s).2 := by
  intro x0 x1; unfold State.gateWriteBy
  repeat' first
    | with_reducible assumption | with_reducible apply State.modWin_holds | with_reducible apply State.record_holds
    | intro _ | with_reducible refine Holds.step ?_ ?_ | split

theorem State.parityWritten_holds (h : Holds q s) : ∀ x0 x1, Holds q (State.parityWritten x0 x1 s) := by
  intro x0 x1; unfold State.parityWritten
  repeat' first
    | with_reducible assumption | with_reducible apply State.parityFresh_holds | intro _
    | with_reducible refine Holds.step ?_ ?_

theorem State.setBus_holds (h : Holds q s) : ∀ x0, Holds q (State.setBus x0 s) := by
  intro x0; unfold State.setBus
  repeat' first
    | with_reducible assumption | intro _
    | fail_if_no_progress with_reducible refine Holds.mk' ?_ rfl rfl rfl rfl rfl rfl rfl rfl rfl rfl

theorem State.fxCore_holds (h : Holds q s) : ∀ x0 x1 x2 x3 x4, Holds q (State.fxCore x0 x1 x2 x3 x4 s) := by
  intro x0 x1 x2 x3 x4; unfold State.fxCore
  repeat' first
    | with_reducible assumption | with_reducible apply State.setBus_holds
    | with_reducible apply State.modWin_holds | with_reducible apply State.pairEvt_holds
    | with_reducible apply State.modLane_holds | intro _ | with_reducible refine Holds.step ?_ ?_
    | fail_if_no_progress with_reducible refine Holds.mk' ?_ rfl rfl rfl rfl rfl rfl rfl rfl rfl rfl | split

theorem State.fxMs_holds (h : Holds q s) : ∀ x0 x1 x2 x3 x4, Holds q (State.fxMs x0 x1 x2 x3 x4 s) := by
  intro x0 x1 x2 x3 x4; unfold State.fxMs
  repeat' first
    | with_reducible assumption | with_reducible apply State.modWin_holds
    | with_reducible apply State.modDom_holds | with_reducible apply State.msCommit_holds | intro _
    | with_reducible refine Holds.step ?_ ?_
    | fail_if_no_progress with_reducible refine Holds.mk' ?_ rfl rfl rfl rfl rfl rfl rfl rfl rfl rfl | split

theorem State.fxLoop_holds (h : Holds q s) : ∀ x0 x1 x2 x3 x4, Holds q (State.fxLoop x0 x1 x2 x3 x4 s) := by
  intro x0 x1 x2 x3 x4; unfold State.fxLoop
  repeat' first
    | with_reducible assumption | with_reducible apply State.modCtx_holds
    | with_reducible apply State.loopAck_holds | with_reducible apply State.loopCoef_holds
    | with_reducible apply State.modProb_holds | with_reducible apply State.modWin_holds | intro _
    | with_reducible refine Holds.step ?_ ?_
    | fail_if_no_progress with_reducible refine Holds.mk' ?_ rfl rfl rfl rfl rfl rfl rfl rfl rfl rfl | split

theorem State.fxCan_holds (h : Holds q s) : ∀ x0 x1 x2 x3 x4 x5, Holds q (State.fxCan x0 x1 x2 x3 x4 x5 s) := by
  intro x0 x1 x2 x3 x4 x5; unfold State.fxCan
  repeat' first
    | with_reducible assumption | with_reducible apply State.modCan_holds
    | with_reducible apply State.canEvt_holds | with_reducible apply State.modWin_holds
    | with_reducible apply State.canPop_holds | with_reducible apply State.canTxbWrite_holds
    | with_reducible apply State.canReq_holds | with_reducible apply State.canCancel_holds | intro _
    | with_reducible refine Holds.step ?_ ?_
    | fail_if_no_progress with_reducible refine Holds.mk' ?_ rfl rfl rfl rfl rfl rfl rfl rfl rfl rfl | split

theorem State.fxRest_holds (h : Holds q s) : ∀ x0 x1 x2 x3 x4, Holds q (State.fxRest x0 x1 x2 x3 x4 s) := by
  intro x0 x1 x2 x3 x4; unfold State.fxRest
  repeat' first
    | with_reducible assumption | with_reducible apply State.modAi_holds
    | with_reducible apply State.modAo_holds | with_reducible apply State.aoTest_holds
    | with_reducible apply State.modBrake_holds | with_reducible apply State.modWin_holds
    | with_reducible apply State.modPtp_holds | with_reducible apply State.modUsl_holds
    | with_reducible apply State.uslAckWrite_holds | with_reducible apply State.diagRecover_holds | intro _
    | with_reducible refine Holds.step ?_ ?_
    | fail_if_no_progress with_reducible refine Holds.mk' ?_ rfl rfl rfl rfl rfl rfl rfl rfl rfl rfl | split

theorem State.writeFx_holds (h : Holds q s) : ∀ x0 x1 x2 x3, Holds q (State.writeFx x0 x1 x2 x3 s) := by
  intro x0 x1 x2 x3; unfold State.writeFx
  repeat' first
    | with_reducible assumption | with_reducible apply State.fxCore_holds
    | with_reducible apply State.fxMs_holds | with_reducible apply State.fxLoop_holds
    | with_reducible apply State.fxCan_holds | with_reducible apply State.fxRest_holds | intro _
    | with_reducible refine Holds.step ?_ ?_

theorem State.read1_holds (h : Holds q s) : ∀ m a n, Holds q (s.read1 m a n).2.2 := by
  intro m a n
  unfold State.read1
  repeat' first
    | with_reducible assumption | with_reducible apply State.accFault_holds
    | with_reducible apply State.parityDetect_holds | with_reducible apply State.modShadows_holds | split
    | dsimp only

theorem State.write2_holds (h : Holds q s) : ∀ m hit a n v, Holds q (s.write2 m hit a n v).2 := by
  intro m hit a n v
  unfold State.write2
  extract_lets word base mask lower off s0 s1 k s2 c
  split
  · exact State.gateWriteBy_holds h _ _
  · split
    · split <;> (dsimp only; exact State.modShadows_holds h _ _)
    · have h0 : Holds q s0 := Holds.step h fun h => State.undoWrite_holds h _ _ _
      clear_value s0
      have h1 : Holds q s1 := Holds.step h0 fun h => State.setBus_holds h _
      clear_value s1
      have h2 : Holds q s2 := State.parityWritten_holds (State.setBus_holds h1 _) _ _
      clear_value s2
      split
      · exact h
      · split
        · exact h
        · split
          · exact h
          · dsimp only; exact State.writeFx_holds (State.keepUndo_holds h2 _ _ _ _ _) _ _ _ _

theorem State.write1_holds (h : Holds q s) : ∀ m a n v, Holds q (s.write1 m a n v).2 := by
  intro m a n v
  unfold State.write1
  cases regAt (a - a % 4) <;> repeat' first
    | with_reducible assumption | with_reducible apply State.accFault_holds
    | with_reducible apply State.modWin_holds | with_reducible apply State.write2_holds | intro _
    | with_reducible refine Holds.step ?_ ?_ | split

theorem State.busRead_holds (h : Holds q s) : ∀ m a n, Holds q (s.busRead m a n).2.2 := by
  intro m a n
  unfold State.busRead
  split
  · exact State.read1_holds (State.read1_holds h _ _ _) _ _ _
  · exact State.read1_holds h _ _ _

theorem State.busWrite_holds (h : Holds q s) : ∀ x0 x1 x2 x3, Holds q (State.busWrite x0 x1 x2 x3 s).2 := by
  intro x0 x1 x2 x3; unfold State.busWrite
  repeat' first | with_reducible assumption | with_reducible apply State.write1_holds | split

theorem State.regWriteBy_holds (h : Holds q s) : ∀ x0 x1 x2 x3, Holds q (State.regWriteBy x0 x1 x2 x3 s) := by
  intro x0 x1 x2 x3; unfold State.regWriteBy
  repeat' first
    | with_reducible assumption | with_reducible apply State.busWrite_holds | intro _
    | with_reducible refine Holds.step ?_ ?_

theorem State.regReadBy_holds (h : Holds q s) : ∀ x0 x1 x2, Holds q (State.regReadBy x0 x1 x2 s) := by
  intro x0 x1 x2; unfold State.regReadBy
  repeat' first
    | with_reducible assumption | with_reducible apply State.busRead_holds | intro _
    | with_reducible refine Holds.step ?_ ?_

theorem State.fieldWrite_holds (h : Holds q s) :
    ∀ x0 x1 x2 x3 x4 x5, Holds q (State.fieldWrite x0 x1 x2 x3 x4 x5 s) := by
  intro x0 x1 x2 x3 x4 x5; unfold State.fieldWrite
  repeat' first
    | with_reducible assumption | with_reducible apply State.regWriteBy_holds | intro _
    | with_reducible refine Holds.step ?_ ?_

end Sys2Proof.Machine
end

