-- ==== Sys2Proof/Laws/KeptStartupActs.lean ====
section
/-! SUPPORT. What the operations of Machine/StartupActs.lean keep. -/

namespace Sys2Proof.Machine

variable {q : Bounds} {s : State}

theorem State.firmware_holds (h : Holds q s) : ∀ x0, Holds q (State.firmware x0 s) := by
  intro x0; unfold State.firmware
  repeat' first
    | with_reducible assumption | with_reducible apply ok_holds | with_reducible apply State.brownout_holds
    | with_reducible apply State.logStart_holds | intro _ | with_reducible refine Holds.step ?_ ?_
    | fail_if_no_progress with_reducible refine Holds.mk' ?_ rfl rfl rfl rfl rfl rfl rfl rfl rfl rfl

theorem State.selftestEnd_holds (h : Holds q s) : ∀ x0 x1, Holds q (State.selftestEnd x0 x1 s) := by
  intro x0 x1; unfold State.selftestEnd
  repeat' first
    | with_reducible assumption | with_reducible apply ok_holds | intro _
    | with_reducible refine Holds.step ?_ ?_
    | fail_if_no_progress with_reducible refine Holds.mk' ?_ rfl rfl rfl rfl rfl rfl rfl rfl rfl rfl

theorem State.setCopy_holds (h : Holds q s) : ∀ x0 x1, Holds q (State.setCopy x0 x1 s) := by
  intro x0 x1; unfold State.setCopy
  repeat' first
    | with_reducible assumption | intro _ | with_reducible refine Holds.step ?_ ?_
    | fail_if_no_progress with_reducible refine Holds.mk' ?_ rfl rfl rfl rfl rfl rfl rfl rfl rfl rfl

theorem State.setOutcome_holds (h : Holds q s) : ∀ x0 x1, Holds q (State.setOutcome x0 x1 s) := by
  intro x0 x1; unfold State.setOutcome
  repeat' first
    | with_reducible assumption | intro _
    | fail_if_no_progress with_reducible refine Holds.mk' ?_ rfl rfl rfl rfl rfl rfl rfl rfl rfl rfl

theorem State.safeCheck_holds (h : Holds q s) {i : Image} {t : State} (ht : s.safeCheck i = some t) : Holds q t := by
  unfold State.safeCheck at ht
  dsimp only at ht
  split at ht
  · cases ht
    exact h
  · split at ht
    · cases ht
      exact h
    · split at ht
      · cases ht
        exact h.of_eq rfl rfl rfl rfl rfl rfl rfl rfl rfl rfl
      · cases ht

theorem State.checkCopy_holds (h : Holds q s) : ∀ x0, Holds q (State.checkCopy x0 s) := by
  intro x0
  have h1 : Holds q { s with store := { s.store with
      floor := max s.store.floor (hdrSeq (s.copyOf x0).bytes), selected := some x0 } } :=
    { h with floor := h.floor.imp_right (Nat.le_trans · (Nat.le_max_left _ _)) }
  unfold State.checkCopy
  dsimp only
  split
  · exact State.record_holds (State.setOutcome_holds h _ _) _ _ _ _
  · split
    · split
      · rename_i heq
        refine State.setOutcome_holds ?_ _ _
        exact (State.safeCheck_holds h1 heq).of_eq rfl rfl rfl rfl rfl rfl rfl rfl rfl rfl
      · exact State.setOutcome_holds h1 _ _
    · exact State.setOutcome_holds h1 _ _

theorem State.copySelection_holds (h : Holds q s) : Holds q (State.copySelection s) := by
  unfold State.copySelection
  repeat' first
    | with_reducible assumption | with_reducible apply State.setOutcome_holds
    | with_reducible apply State.checkCopy_holds | intro _ | with_reducible refine Holds.step ?_ ?_
    | fail_if_no_progress with_reducible refine Holds.mk' ?_ rfl rfl rfl rfl rfl rfl rfl rfl rfl rfl

theorem State.confAll_holds (h : Holds q s) : Holds q (State.confAll s) := by
  unfold State.confAll
  repeat' first
    | with_reducible assumption | with_reducible apply State.confSeq_holds
    | with_reducible apply State.confMs_holds | with_reducible apply State.confLoop_holds
    | with_reducible apply State.confSlv_holds | with_reducible apply State.confFld_holds
    | with_reducible apply State.confCan_holds | with_reducible apply State.confEth_holds
    | with_reducible apply State.confUsl_holds | with_reducible apply State.confSo_holds

theorem State.takeRole_holds (h : Holds q s) : Holds q (State.takeRole s) := by
  unfold State.takeRole
  repeat' first
    | with_reducible assumption | with_reducible apply State.enterSafe_holds
    | with_reducible apply State.enterIsolated_holds | with_reducible apply State.leaveActive_holds
    | exact fun e => ModState.noConfusion e | intro _ | with_reducible refine Holds.step ?_ ?_
    | fail_if_no_progress with_reducible refine Holds.mk' ?_ rfl rfl rfl rfl rfl rfl rfl rfl rfl rfl | split

theorem State.putInForce_holds (h : Holds q s) : ∀ x0, Holds q (State.putInForce x0 s) := by
  intro x0; unfold State.putInForce
  repeat' first
    | with_reducible assumption | with_reducible apply State.barnRestore_holds
    | with_reducible apply State.confAll_holds | with_reducible apply State.takeRole_holds
    | with_reducible apply State.setCopy_holds | intro _ | with_reducible refine Holds.step ?_ ?_
    | fail_if_no_progress with_reducible refine Holds.mk' ?_ rfl rfl rfl rfl rfl rfl rfl rfl rfl rfl

theorem State.startupEnd_holds (h : Holds q s) : Holds q (State.startupEnd s) := by
  unfold State.startupEnd
  repeat' first
    | with_reducible assumption | with_reducible apply State.endTick_holds
    | with_reducible apply State.record_holds | with_reducible apply State.putInForce_holds | intro _
    | with_reducible refine Holds.step ?_ ?_
    | fail_if_no_progress with_reducible refine Holds.mk' ?_ rfl rfl rfl rfl rfl rfl rfl rfl rfl rfl | split

theorem State.abandonLoad_holds (h : Holds q s) : ∀ x0 x1 x2, Holds q (State.abandonLoad x0 x1 x2 s) := by
  intro x0 x1 x2; unfold State.abandonLoad
  repeat' first
    | with_reducible assumption | with_reducible apply State.record_holds
    | with_reducible apply State.olcAbort_holds | intro _
    | fail_if_no_progress with_reducible refine Holds.mk' ?_ rfl rfl rfl rfl rfl rfl rfl rfl rfl rfl

theorem State.loadTimeout_holds (h : Holds q s) : Holds q (State.loadTimeout s) := by
  unfold State.loadTimeout
  repeat' first
    | with_reducible assumption | with_reducible apply State.abandonLoad_holds | intro _
    | with_reducible refine Holds.step ?_ ?_

theorem State.adoptDone_holds (h : Holds q s) : Holds q (State.adoptDone s) := by
  unfold State.adoptDone
  repeat' first
    | with_reducible assumption | intro _ | with_reducible refine Holds.step ?_ ?_
    | fail_if_no_progress with_reducible refine Holds.mk' ?_ rfl rfl rfl rfl rfl rfl rfl rfl rfl rfl

theorem State.beginCommit_holds (h : Holds q s) : ∀ x0, Holds q (State.beginCommit x0 s) := by
  intro x0; unfold State.beginCommit
  repeat' first
    | with_reducible assumption | with_reducible apply State.setCopy_holds | intro _
    | fail_if_no_progress with_reducible refine Holds.mk' ?_ rfl rfl rfl rfl rfl rfl rfl rfl rfl rfl

theorem State.commitMark_holds (h : Holds q s) : Holds q (State.commitMark s) := by
  unfold State.commitMark
  repeat' first
    | with_reducible assumption | with_reducible apply State.setCopy_holds
    | with_reducible apply State.powerFail_holds | with_reducible apply State.record_holds
    | with_reducible apply State.restart_holds | intro _ | with_reducible refine Holds.step ?_ ?_
    | fail_if_no_progress with_reducible refine Holds.mk' ?_ rfl rfl rfl rfl rfl rfl rfl rfl rfl rfl
    | fail_if_no_progress with_reducible refine Holds.mkFloor ?_ rfl rfl (Nat.le_max_left _ _) rfl rfl rfl rfl rfl rfl rfl
    | split | dsimp only

theorem State.dupDone_holds (h : Holds q s) : Holds q (State.dupDone s) := by
  unfold State.dupDone
  repeat' first
    | with_reducible assumption | with_reducible apply State.setCopy_holds
    | with_reducible apply State.record_holds | intro _ | with_reducible refine Holds.step ?_ ?_
    | fail_if_no_progress with_reducible refine Holds.mk' ?_ rfl rfl rfl rfl rfl rfl rfl rfl rfl rfl | split

end Sys2Proof.Machine
end

