-- ==== Sys2Proof/Laws/KeptOlcOps.lean ====
section
/-! SUPPORT. What the operations of Machine/OlcOps.lean keep. -/

namespace Sys2Proof.Machine

variable {q : Bounds} {s : State}

theorem State.olcLoaded_holds (h : Holds q s) : Holds q (State.olcLoaded s) := by
  unfold State.olcLoaded
  repeat' first
    | with_reducible assumption | with_reducible apply State.answer_holds
    | with_reducible apply State.record_holds | intro _ | with_reducible refine Holds.step ?_ ?_
    | fail_if_no_progress with_reducible refine Holds.mk' ?_ rfl rfl rfl rfl rfl rfl rfl rfl rfl rfl

theorem State.olcDrain_holds (h : Holds q s) : Holds q (State.olcDrain s) := by
  unfold State.olcDrain
  repeat' first
    | with_reducible assumption | with_reducible apply State.olcAbort_holds | intro _
    | with_reducible refine Holds.step ?_ ?_

theorem State.olcIdle_holds (h : Holds q s) : Holds q (State.olcIdle s) := by
  unfold State.olcIdle
  repeat' first
    | with_reducible assumption | with_reducible apply State.olcAbort_holds | intro _
    | with_reducible refine Holds.step ?_ ?_

theorem State.olcImage_holds (h : Holds q s) : ∀ n, Holds q (s.olcImage n) := fun _ =>
  { h with
    image := SlotMap.wf_filter _ h.image
    forced := ascending_filter _ h.forced
    forceCap := Nat.le_trans (List.length_filter_le _ _) h.forceCap }

theorem State.olcApply_holds (h : Holds q s) : ∀ x0, Holds q (State.olcApply x0 s) := by
  intro x0; unfold State.olcApply
  repeat' first
    | with_reducible assumption | with_reducible apply State.beginCommit_holds
    | with_reducible apply State.olcImage_holds | with_reducible apply State.restart_holds
    | with_reducible apply State.switchLoop_holds | with_reducible apply State.switchMs_holds
    | with_reducible apply State.switchSlv_holds | intro _ | with_reducible refine Holds.step ?_ ?_
    | fail_if_no_progress with_reducible refine Holds.mk' ?_ rfl rfl rfl rfl rfl rfl rfl rfl rfl rfl

theorem State.olcSwitchNow_holds (h : Holds q s) : Holds q (State.olcSwitchNow s) := by
  unfold State.olcSwitchNow
  repeat' first
    | with_reducible assumption | with_reducible apply State.olcApply_holds
    | with_reducible apply State.record_holds | with_reducible apply State.sendBoth_holds | intro _
    | fail_if_no_progress with_reducible refine Holds.mk' ?_ rfl rfl rfl rfl rfl rfl rfl rfl rfl rfl | split

theorem State.switchNotice_holds (h : Holds q s) : ∀ x0, Holds q (State.switchNotice x0 s) := by
  intro x0; unfold State.switchNotice
  repeat' first
    | with_reducible assumption | with_reducible apply State.olcApply_holds
    | with_reducible apply State.record_holds | intro _ | with_reducible refine Holds.step ?_ ?_
    | fail_if_no_progress with_reducible refine Holds.mk' ?_ rfl rfl rfl rfl rfl rfl rfl rfl rfl rfl | split

end Sys2Proof.Machine
end

