-- ==== Sys2Proof/Laws/KeptCycleActs.lean ====
section
/-! SUPPORT. What the operations of Machine/CycleActs.lean keep. -/

namespace Sys2Proof.Machine

variable {q : Bounds} {s : State}

theorem State.evalLink_holds (h : Holds q s) : ∀ i ins k, Holds q (s.evalLink i ins k).2 := by
  intro i ins k
  have hr := fun m a n => State.busRead_holds h m a n
  have hw := fun m a n v => State.busWrite_holds h m a n v
  unfold State.evalLink
  dsimp only
  split <;> (repeat' split) <;> first | exact h | exact hr _ _ _ | exact hw _ _ _ _

theorem State.endPass_holds (h : Holds q s) : ∀ x0, Holds q (State.endPass x0 s) := by
  intro x0; unfold State.endPass
  repeat' first
    | with_reducible assumption | with_reducible apply State.modLane_holds | intro _
    | with_reducible refine Holds.step ?_ ?_
    | fail_if_no_progress with_reducible refine Holds.mk' ?_ rfl rfl rfl rfl rfl rfl rfl rfl rfl rfl | split

theorem State.settle_holds (h : Holds q s) : Holds q (State.settle s) := by
  unfold State.settle
  repeat' first
    | with_reducible assumption | with_reducible apply State.endPass_holds | intro _
    | with_reducible refine Holds.step ?_ ?_
    | fail_if_no_progress with_reducible refine Holds.mk' ?_ rfl rfl rfl rfl rfl rfl rfl rfl rfl rfl

theorem State.evalBlock_holds (h : Holds q s) : Holds q (State.evalBlock s) := by
  unfold State.evalBlock
  split
  · exact h
  · split
    · exact h
    · split
      · exact h
      · split
        · rename_i i x hi hx
          extract_lets ins c r y s1 p1
          have h1 : Holds q s1 := by
            show Holds q (if _ then _ else _ : LinkFx × State).2
            split
            · exact State.evalLink_holds h _ _ _
            · exact h
          split
          · exact State.settle_holds (State.modLane_holds h1 _ _)
          · exact h1
        · exact State.settle_holds h

theorem State.seqFault_holds (h : Holds q s) : ∀ x0, Holds q (State.seqFault x0 s) := by
  intro x0; unfold State.seqFault
  repeat' first
    | with_reducible assumption | with_reducible apply State.setCause_holds
    | with_reducible apply State.funcFault_holds

theorem State.blockEvaluate_holds (h : Holds q s) : ∀ x0, Holds q (State.blockEvaluate x0 s) := by
  intro x0; unfold State.blockEvaluate
  repeat' first
    | with_reducible assumption | with_reducible apply State.evalBlock_holds
    | with_reducible apply State.seqFault_holds | intro _ | with_reducible refine Holds.step ?_ ?_

theorem State.evalBegin_holds (h : Holds q s) : Holds q (State.evalBegin s) := by
  unfold State.evalBegin
  repeat' first
    | with_reducible assumption | with_reducible apply State.settle_holds | intro _
    | with_reducible refine Holds.step ?_ ?_
    | fail_if_no_progress with_reducible refine Holds.mk' ?_ rfl rfl rfl rfl rfl rfl rfl rfl rfl rfl

theorem State.overrun_holds (h : Holds q s) : ∀ x0 x1, Holds q (State.overrun x0 x1 s) := by
  intro x0 x1; unfold State.overrun
  repeat' first
    | with_reducible assumption | with_reducible apply State.modLane_holds
    | with_reducible apply State.seqFault_holds | with_reducible apply State.record_holds | intro _
    | with_reducible refine Holds.step ?_ ?_

theorem State.windowEnd_holds (h : Holds q s) : Holds q (State.windowEnd s) := by
  unfold State.windowEnd
  repeat' first
    | with_reducible assumption | with_reducible apply State.overrun_holds | intro _
    | with_reducible refine Holds.step ?_ ?_
    | fail_if_no_progress with_reducible refine Holds.mk' ?_ rfl rfl rfl rfl rfl rfl rfl rfl rfl rfl

theorem State.beginPass_holds (h : Holds q s) : ∀ x0, Holds q (State.beginPass x0 s) := by
  intro x0; unfold State.beginPass
  repeat' first
    | with_reducible assumption | with_reducible apply State.modLane_holds
    | with_reducible apply State.restart_holds | intro _
    | fail_if_no_progress with_reducible refine Holds.mk' ?_ rfl rfl rfl rfl rfl rfl rfl rfl rfl rfl

theorem State.laneHarvest_holds (h : Holds q s) : ∀ x0, Holds q (State.laneHarvest x0 s) := by
  intro x0; unfold State.laneHarvest
  repeat' first
    | with_reducible assumption | with_reducible apply State.modLane_holds
    | with_reducible apply State.overrun_holds | with_reducible apply State.restart_holds
    | with_reducible apply State.beginPass_holds | intro _ | with_reducible refine Holds.step ?_ ?_

theorem State.laneLook_holds (h : Holds q s) : ∀ x0, Holds q (State.laneLook s x0) := by
  intro x0; unfold State.laneLook
  repeat' first
    | with_reducible assumption | with_reducible apply State.laneHarvest_holds | intro _
    | with_reducible refine Holds.step ?_ ?_

theorem State.harvestLatch_holds (h : Holds q s) : Holds q (State.harvestLatch s) := by
  unfold State.harvestLatch
  repeat' first
    | with_reducible assumption | intro _ | with_reducible refine Holds.step ?_ ?_
    | fail_if_no_progress with_reducible refine Holds.mk' ?_ rfl rfl rfl rfl rfl rfl rfl rfl rfl rfl

theorem State.harvest_holds (h : Holds q s) : Holds q (State.harvest s) := by
  unfold State.harvest
  repeat' first
    | with_reducible assumption | with_reducible apply State.harvestLatch_holds
    | with_reducible apply State.slvDecided_holds | intro _ | with_reducible refine Holds.step ?_ ?_
    | fail_if_no_progress with_reducible refine Holds.mk' ?_ rfl rfl rfl rfl rfl rfl rfl rfl rfl rfl

theorem State.slvAccepted_holds (h : Holds q s) : Holds q (State.slvAccepted s) := by
  unfold State.slvAccepted
  repeat' first
    | with_reducible assumption | with_reducible apply State.slvDecided_holds | intro _
    | with_reducible refine Holds.step ?_ ?_

theorem State.harvestEnd_holds (h : Holds q s) : Holds q (State.harvestEnd s) := by
  unfold State.harvestEnd
  repeat' first
    | with_reducible assumption | with_reducible apply State.rioJudge_holds
    | with_reducible apply State.slvPubs_holds | with_reducible apply State.olcSwitchNow_holds
    | with_reducible apply State.msHarvest_holds | with_reducible apply State.slvStarts_holds
    | with_reducible apply State.laneLook_holds | with_reducible apply Holds.foldl | intro _
    | with_reducible refine Holds.step ?_ ?_
    | fail_if_no_progress with_reducible refine Holds.mk' ?_ rfl rfl rfl rfl rfl rfl rfl rfl rfl rfl

theorem State.publish_holds (h : Holds q s) : ∀ x0, Holds q (State.publish x0 s) := by
  intro x0; unfold State.publish
  repeat' first
    | with_reducible assumption | with_reducible apply State.writeSlot_holds
    | with_reducible apply State.modLane_holds | with_reducible apply State.record_holds
    | with_reducible apply State.requestCheckpoint_holds | with_reducible apply Holds.foldl | intro _
    | with_reducible refine Holds.step ?_ ?_
    | fail_if_no_progress with_reducible refine Holds.mk' ?_ rfl rfl rfl rfl rfl rfl rfl rfl rfl rfl | split

theorem State.deliverNow_holds (h : Holds q s) : ∀ x0, Holds q (State.deliverNow x0 s) := by
  intro x0; unfold State.deliverNow
  repeat' first
    | with_reducible assumption | with_reducible apply State.publish_holds
    | with_reducible apply State.deliverSo_holds | with_reducible apply State.deliverCan_holds
    | with_reducible apply State.deliverEth_holds | with_reducible apply State.deliverUsl_holds
    | with_reducible apply State.snapshot_holds | with_reducible apply Holds.foldl | intro _
    | with_reducible refine Holds.step ?_ ?_
    | fail_if_no_progress with_reducible refine Holds.mk' ?_ rfl rfl rfl rfl rfl rfl rfl rfl rfl rfl | split

end Sys2Proof.Machine
end

