-- ==== Sys2Proof/Laws/KeptRegActs.lean ====
section
/-! SUPPORT. What the operations of Machine/RegActs.lean keep. -/

namespace Sys2Proof.Machine

variable {q : Bounds} {s : State}

theorem State.gateExpire_holds (h : Holds q s) : ∀ x0, Holds q (State.gateExpire x0 s) := by
  intro x0; unfold State.gateExpire
  repeat' first
    | with_reducible assumption | with_reducible apply State.modWin_holds

theorem State.lockoutEnd_holds (h : Holds q s) : ∀ x0, Holds q (State.lockoutEnd x0 s) := by
  intro x0; unfold State.lockoutEnd
  repeat' first
    | with_reducible assumption | with_reducible apply State.modWin_holds

theorem State.parityFail_holds (h : Holds q s) : ∀ x0, Holds q (State.parityFail x0 s) := by
  intro x0; unfold State.parityFail
  repeat' first
    | with_reducible assumption | with_reducible apply State.parityDetect_holds | intro _
    | with_reducible refine Holds.step ?_ ?_
    | fail_if_no_progress with_reducible refine Holds.mk' ?_ rfl rfl rfl rfl rfl rfl rfl rfl rfl rfl | split

end Sys2Proof.Machine
end

