-- ==== Sys2Proof/Laws/KeptPairActs.lean ====
section
/-! SUPPORT. What the operations of Machine/PairActs.lean keep. -/

namespace Sys2Proof.Machine

variable {q : Bounds} {s : State}

theorem State.sendHello_holds (h : Holds q s) : Holds q (State.sendHello s) := by
  unfold State.sendHello
  repeat' first
    | with_reducible assumption | with_reducible apply State.sendBoth_holds | intro _
    | with_reducible refine Holds.step ?_ ?_
    | fail_if_no_progress with_reducible refine Holds.mk' ?_ rfl rfl rfl rfl rfl rfl rfl rfl rfl rfl

theorem State.laneUp_holds (h : Holds q s) : ∀ x0, Holds q (State.laneUp x0 s) := by
  intro x0; unfold State.laneUp
  repeat' first
    | with_reducible assumption | intro _ | with_reducible refine Holds.step ?_ ?_
    | fail_if_no_progress with_reducible refine Holds.mk' ?_ rfl rfl rfl rfl rfl rfl rfl rfl rfl rfl

theorem State.alignGrid_holds (h : Holds q s) : ∀ x0, Holds q (State.alignGrid x0 s) := by
  intro x0; unfold State.alignGrid
  repeat' first
    | with_reducible assumption | intro _ | with_reducible refine Holds.step ?_ ?_
    | fail_if_no_progress with_reducible refine Holds.mk' ?_ rfl rfl rfl rfl rfl rfl rfl rfl rfl rfl

theorem State.countRevert_holds (h : Holds q s) : ∀ x0, Holds q (State.countRevert x0 s) := by
  intro x0; unfold State.countRevert
  repeat' first
    | with_reducible assumption | intro _ | with_reducible refine Holds.step ?_ ?_
    | fail_if_no_progress with_reducible refine Holds.mk' ?_ rfl rfl rfl rfl rfl rfl rfl rfl rfl rfl

theorem State.countElect_holds (h : Holds q s) : Holds q (State.countElect s) := by
  unfold State.countElect
  repeat' first
    | with_reducible assumption | intro _ | with_reducible refine Holds.step ?_ ?_
    | fail_if_no_progress with_reducible refine Holds.mk' ?_ rfl rfl rfl rfl rfl rfl rfl rfl rfl rfl

theorem State.imageDiff_holds (h : Holds q s) : Holds q (State.imageDiff s) := by
  unfold State.imageDiff
  repeat' first
    | with_reducible assumption | with_reducible apply State.pairEvt_holds
    | with_reducible apply State.record_holds | with_reducible apply State.enterIsolated_holds | intro _
    | with_reducible refine Holds.step ?_ ?_
    | fail_if_no_progress with_reducible refine Holds.mk' ?_ rfl rfl rfl rfl rfl rfl rfl rfl rfl rfl

theorem State.pairMeets_holds (h : Holds q s) : ∀ x0, Holds q (State.pairMeets x0 s) := by
  intro x0; unfold State.pairMeets
  repeat' first
    | with_reducible assumption | intro _ | with_reducible refine Holds.step ?_ ?_
    | fail_if_no_progress with_reducible refine Holds.mk' ?_ rfl rfl rfl rfl rfl rfl rfl rfl rfl rfl | split

theorem State.olcPartner_holds (h : Holds q s) : ∀ x0, Holds q (State.olcPartner x0 s) := by
  intro x0; unfold State.olcPartner
  repeat' first
    | with_reducible assumption | with_reducible apply State.olcAbort_holds | intro _
    | with_reducible refine Holds.step ?_ ?_
    | fail_if_no_progress with_reducible refine Holds.mk' ?_ rfl rfl rfl rfl rfl rfl rfl rfl rfl rfl

theorem State.helloIn_holds (h : Holds q s) : ∀ x0 x1, Holds q (State.helloIn x0 x1 s) := by
  intro x0 x1; unfold State.helloIn
  repeat' first
    | with_reducible assumption | with_reducible apply State.laneUp_holds
    | with_reducible apply State.pairMeets_holds | with_reducible apply State.imageDiff_holds
    | with_reducible apply State.alignGrid_holds | with_reducible apply State.countRevert_holds
    | with_reducible apply State.sendBoth_holds | with_reducible apply State.olcPartner_holds
    | with_reducible apply State.refuseHandover_holds | with_reducible apply State.countElect_holds | intro _
    | with_reducible refine Holds.step ?_ ?_
    | fail_if_no_progress with_reducible refine Holds.mk' ?_ rfl rfl rfl rfl rfl rfl rfl rfl rfl rfl | split

theorem State.linkIn_holds (h : Holds q s) : ∀ x0, Holds q (State.linkIn x0 s) := by
  intro x0; unfold State.linkIn
  repeat' first
    | with_reducible assumption | with_reducible apply State.laneUp_holds | intro _
    | with_reducible refine Holds.step ?_ ?_

theorem State.laneDown_holds (h : Holds q s) : ∀ x0, Holds q (State.laneDown x0 s) := by
  intro x0; unfold State.laneDown
  repeat' first
    | with_reducible assumption | with_reducible apply State.endTick_holds
    | with_reducible apply State.pairEvt_holds | with_reducible apply State.record_holds | intro _
    | with_reducible refine Holds.step ?_ ?_
    | fail_if_no_progress with_reducible refine Holds.mk' ?_ rfl rfl rfl rfl rfl rfl rfl rfl rfl rfl

theorem State.isolate_holds (h : Holds q s) : ∀ x0, Holds q (State.isolate x0 s) := by
  intro x0; unfold State.isolate
  repeat' first
    | with_reducible assumption | with_reducible apply State.enterIsolated_holds
    | with_reducible apply State.record_holds

theorem State.partnerSilent_holds (h : Holds q s) : Holds q (State.partnerSilent s) := by
  unfold State.partnerSilent
  repeat' first
    | with_reducible assumption | with_reducible apply State.endTick_holds
    | with_reducible apply State.pairEvt_holds | with_reducible apply State.record_holds
    | with_reducible apply State.olcAbort_holds | with_reducible apply State.refuseHandover_holds
    | with_reducible apply State.isolate_holds | intro _ | with_reducible refine Holds.step ?_ ?_
    | fail_if_no_progress with_reducible refine Holds.mk' ?_ rfl rfl rfl rfl rfl rfl rfl rfl rfl rfl | split
    | dsimp only

theorem State.pairFormed_holds (h : Holds q s) : Holds q (State.pairFormed s) := by
  unfold State.pairFormed
  repeat' first
    | with_reducible assumption | with_reducible apply State.leaveActive_holds
    | exact fun e => ModState.noConfusion e | intro _ | with_reducible refine Holds.step ?_ ?_
    | fail_if_no_progress with_reducible refine Holds.mk' ?_ rfl rfl rfl rfl rfl rfl rfl rfl rfl rfl | split

theorem State.grant_holds (h : Holds q s) : ∀ x0, Holds q (State.grant x0 s) := by
  intro x0; unfold State.grant
  repeat' first
    | with_reducible assumption | intro _
    | fail_if_no_progress with_reducible refine Holds.mk' ?_ rfl rfl rfl rfl rfl rfl rfl rfl rfl rfl

/-- OWNER_N is driven in the tick in which the member becomes ACTIVE (R480, R481). -/
theorem State.startActive_holds (h : Holds q s) : ∀ x0 x1, Holds q (State.startActive x0 x1 s) := by
  intro x0 x1
  unfold State.startActive
  dsimp only
  refine State.enterFld_holds (State.enterUsl_holds (State.enterEth_holds (State.enterCan_holds (State.enterSlv_holds
    (State.enterMs_holds (State.enterLoop_holds (State.enterSeq_holds ?_)))) _) _) _)
  exact { h with owner := rfl }

theorem State.takeOver_holds (h : Holds q s) : Holds q (State.takeOver s) := by
  unfold State.takeOver
  repeat' first
    | with_reducible assumption | with_reducible apply State.startActive_holds
    | with_reducible apply State.pairEvt_holds | with_reducible apply State.record_holds | intro _
    | with_reducible refine Holds.step ?_ ?_
    | fail_if_no_progress with_reducible refine Holds.mk' ?_ rfl rfl rfl rfl rfl rfl rfl rfl rfl rfl | split

theorem State.singleActivate_holds (h : Holds q s) : Holds q (State.singleActivate s) := by
  unfold State.singleActivate
  repeat' first
    | with_reducible assumption | with_reducible apply State.startActive_holds | intro _
    | with_reducible refine Holds.step ?_ ?_

theorem State.ownerStuck_holds (h : Holds q s) : Holds q (State.ownerStuck s) := by
  unfold State.ownerStuck
  repeat' first
    | with_reducible assumption | with_reducible apply State.enterIsolated_holds
    | with_reducible apply State.pairEvt_holds | with_reducible apply State.record_holds | intro _
    | with_reducible refine Holds.step ?_ ?_
    | fail_if_no_progress with_reducible refine Holds.mk' ?_ rfl rfl rfl rfl rfl rfl rfl rfl rfl rfl | split

theorem State.ownerMismatch_holds (h : Holds q s) : Holds q (State.ownerMismatch s) := by
  unfold State.ownerMismatch
  repeat' first
    | with_reducible assumption | with_reducible apply State.pairEvt_holds
    | with_reducible apply State.record_holds | intro _ | with_reducible refine Holds.step ?_ ?_

theorem State.selfElect_holds (h : Holds q s) : Holds q (State.selfElect s) := by
  unfold State.selfElect
  repeat' first
    | with_reducible assumption | with_reducible apply State.grant_holds | intro _
    | with_reducible refine Holds.step ?_ ?_
    | fail_if_no_progress with_reducible refine Holds.mk' ?_ rfl rfl rfl rfl rfl rfl rfl rfl rfl rfl | split

theorem State.applyMirror_holds (h : Holds q s) : ∀ x0, Holds q (State.applyMirror x0 s) := by
  intro x0; unfold State.applyMirror
  repeat' first
    | with_reducible assumption | with_reducible apply State.writeSlot_holds
    | with_reducible apply Holds.foldl | intro _

theorem State.mirrorDrop_holds (h : Holds q s) : Holds q (State.mirrorDrop s) := by
  unfold State.mirrorDrop
  repeat' first
    | with_reducible assumption | intro _ | with_reducible refine Holds.step ?_ ?_
    | fail_if_no_progress with_reducible refine Holds.mk' ?_ rfl rfl rfl rfl rfl rfl rfl rfl rfl rfl

theorem State.mirrorIn_holds (h : Holds q s) : ∀ x0 x1, Holds q (State.mirrorIn x0 x1 s) := by
  intro x0 x1; unfold State.mirrorIn
  repeat' first
    | with_reducible assumption | with_reducible apply State.laneUp_holds
    | with_reducible apply State.mirrorDrop_holds | with_reducible apply State.applyMirror_holds | intro _
    | with_reducible refine Holds.step ?_ ?_
    | fail_if_no_progress with_reducible refine Holds.mk' ?_ rfl rfl rfl rfl rfl rfl rfl rfl rfl rfl

theorem State.sendShadows_holds (h : Holds q s) : Holds q (State.sendShadows s) := by
  unfold State.sendShadows
  repeat' first
    | with_reducible assumption | with_reducible apply State.sendOnce_holds | intro _
    | with_reducible refine Holds.step ?_ ?_

theorem State.shadowLost_holds (h : Holds q s) : ∀ x0, Holds q (State.shadowLost x0 s) := by
  intro x0; unfold State.shadowLost
  repeat' first
    | with_reducible assumption | intro _
    | fail_if_no_progress with_reducible refine Holds.mk' ?_ rfl rfl rfl rfl rfl rfl rfl rfl rfl rfl | split

theorem State.shadowTake_holds (h : Holds q s) : ∀ x0, Holds q (State.shadowTake x0 s) := by
  intro x0; unfold State.shadowTake
  repeat' first
    | with_reducible assumption | with_reducible apply State.applyUsl_holds
    | with_reducible apply State.applySta_holds | with_reducible apply State.applyLoop_holds
    | with_reducible apply State.applyMs_holds | with_reducible apply State.applySlv_holds | intro _
    | with_reducible refine Holds.step ?_ ?_
    | fail_if_no_progress with_reducible refine Holds.mk' ?_ rfl rfl rfl rfl rfl rfl rfl rfl rfl rfl | split

theorem State.shadowIn_holds (h : Holds q s) : ∀ x0 x1 x2, Holds q (State.shadowIn x0 x1 x2 s) := by
  intro x0 x1 x2; unfold State.shadowIn
  repeat' first
    | with_reducible assumption | with_reducible apply ok_holds | with_reducible apply State.linkIn_holds
    | with_reducible apply State.shadowTake_holds | with_reducible apply State.shadowLost_holds | intro _
    | with_reducible refine Holds.step ?_ ?_

theorem State.mirrorSnapshot_holds (h : Holds q s) : Holds q (State.mirrorSnapshot s) := by
  unfold State.mirrorSnapshot
  repeat' first
    | with_reducible assumption | with_reducible apply State.writeSlot_holds
    | with_reducible apply State.sendLink_holds | with_reducible apply State.sendOnce_holds
    | with_reducible apply State.mirrorDrop_holds | with_reducible apply Holds.foldl | intro _
    | with_reducible refine Holds.step ?_ ?_
    | fail_if_no_progress with_reducible refine Holds.mk' ?_ rfl rfl rfl rfl rfl rfl rfl rfl rfl rfl

theorem State.offer_holds (h : Holds q s) : ∀ x0 x1, Holds q (State.offer x0 x1 s) := by
  intro x0 x1; unfold State.offer
  repeat' first
    | with_reducible assumption | with_reducible apply State.sendBoth_holds | intro _
    | with_reducible refine Holds.step ?_ ?_
    | fail_if_no_progress with_reducible refine Holds.mk' ?_ rfl rfl rfl rfl rfl rfl rfl rfl rfl rfl

theorem State.accept_holds (h : Holds q s) : Holds q (State.accept s) := by
  unfold State.accept
  repeat' first
    | with_reducible assumption | intro _ | with_reducible refine Holds.step ?_ ?_
    | fail_if_no_progress with_reducible refine Holds.mk' ?_ rfl rfl rfl rfl rfl rfl rfl rfl rfl rfl | split

theorem State.decline_holds (h : Holds q s) : Holds q (State.decline s) := by
  unfold State.decline
  repeat' first
    | with_reducible assumption | with_reducible apply State.refuseHandover_holds | intro _
    | with_reducible refine Holds.step ?_ ?_
    | fail_if_no_progress with_reducible refine Holds.mk' ?_ rfl rfl rfl rfl rfl rfl rfl rfl rfl rfl | split

theorem State.relinquished_holds (h : Holds q s) : ∀ x0, Holds q (State.relinquished x0 s) := by
  intro x0; unfold State.relinquished
  repeat' first
    | with_reducible assumption | with_reducible apply State.grant_holds | intro _
    | with_reducible refine Holds.step ?_ ?_
    | fail_if_no_progress with_reducible refine Holds.mk' ?_ rfl rfl rfl rfl rfl rfl rfl rfl rfl rfl

theorem State.safeNotice_holds (h : Holds q s) : Holds q (State.safeNotice s) := by
  unfold State.safeNotice
  repeat' first
    | with_reducible assumption | with_reducible apply State.enterSafe_holds | intro _
    | with_reducible refine Holds.step ?_ ?_

theorem State.handoverTx_holds (h : Holds q s) : Holds q (State.handoverTx s) := by
  unfold State.handoverTx
  repeat' first
    | with_reducible assumption | with_reducible apply State.refuseHandover_holds
    | with_reducible apply State.sendBoth_holds | with_reducible apply State.leaveActive_holds
    | with_reducible apply State.pairEvt_holds | with_reducible apply State.record_holds
    | exact fun e => ModState.noConfusion e | intro _ | with_reducible refine Holds.step ?_ ?_
    | fail_if_no_progress with_reducible refine Holds.mk' ?_ rfl rfl rfl rfl rfl rfl rfl rfl rfl rfl | split

theorem State.revertStart_holds (h : Holds q s) : Holds q (State.revertStart s) := by
  unfold State.revertStart
  repeat' first
    | with_reducible assumption | with_reducible apply State.requestHandover_holds | intro _
    | with_reducible refine Holds.step ?_ ?_
    | fail_if_no_progress with_reducible refine Holds.mk' ?_ rfl rfl rfl rfl rfl rfl rfl rfl rfl rfl | split

theorem State.swapStart_holds (h : Holds q s) : Holds q (State.swapStart s) := by
  unfold State.swapStart
  repeat' first
    | with_reducible assumption | with_reducible apply State.requestHandover_holds
    | with_reducible apply State.record_holds | intro _ | with_reducible refine Holds.step ?_ ?_
    | fail_if_no_progress with_reducible refine Holds.mk' ?_ rfl rfl rfl rfl rfl rfl rfl rfl rfl rfl

theorem State.swapTimer_holds (h : Holds q s) : Holds q (State.swapTimer s) := by
  unfold State.swapTimer
  repeat' first
    | with_reducible assumption | with_reducible apply State.swapStart_holds | intro _
    | with_reducible refine Holds.step ?_ ?_

theorem State.swapDwellEnd_holds (h : Holds q s) : Holds q (State.swapDwellEnd s) := by
  unfold State.swapDwellEnd
  repeat' first
    | with_reducible assumption | with_reducible apply State.requestHandover_holds | intro _
    | with_reducible refine Holds.step ?_ ?_
    | fail_if_no_progress with_reducible refine Holds.mk' ?_ rfl rfl rfl rfl rfl rfl rfl rfl rfl rfl | split

theorem State.imgReq_holds (h : Holds q s) : Holds q (State.imgReq s) := by
  unfold State.imgReq
  repeat' first
    | with_reducible assumption | with_reducible apply State.sendOnce_holds
    | with_reducible apply State.imgData_holds | with_reducible apply Holds.foldl | intro _
    | with_reducible refine Holds.step ?_ ?_

theorem State.imgData_holds (h : Holds q s) : ∀ x0 x1, Holds q (State.imgData x0 x1 s) := by
  intro x0 x1; unfold State.imgData
  repeat' first
    | with_reducible assumption | intro _ | with_reducible refine Holds.step ?_ ?_
    | fail_if_no_progress with_reducible refine Holds.mk' ?_ rfl rfl rfl rfl rfl rfl rfl rfl rfl rfl

theorem State.roundStart_holds (h : Holds q s) : Holds q (State.roundStart s) := by
  unfold State.roundStart
  repeat' first
    | with_reducible assumption | with_reducible apply State.emit_holds | intro _
    | with_reducible refine Holds.step ?_ ?_
    | fail_if_no_progress with_reducible refine Holds.mk' ?_ rfl rfl rfl rfl rfl rfl rfl rfl rfl rfl

theorem State.sendStatus_holds (h : Holds q s) : Holds q (State.sendStatus s) := by
  unfold State.sendStatus
  repeat' first
    | with_reducible assumption | with_reducible apply State.emit_holds | intro _
    | with_reducible refine Holds.step ?_ ?_

theorem State.statusIn_holds (h : Holds q s) : ∀ x0 x1, Holds q (State.statusIn x0 x1 s) := by
  intro x0 x1; unfold State.statusIn
  repeat' first
    | with_reducible assumption | intro _ | with_reducible refine Holds.step ?_ ?_
    | fail_if_no_progress with_reducible refine Holds.mk' ?_ rfl rfl rfl rfl rfl rfl rfl rfl rfl rfl

theorem State.roundIn_holds (h : Holds q s) : ∀ x0, Holds q (State.roundIn x0 s) := by
  intro x0; unfold State.roundIn
  repeat' first
    | with_reducible assumption | with_reducible apply State.enterIsolated_holds
    | with_reducible apply State.record_holds | with_reducible apply State.grant_holds
    | with_reducible apply State.isolate_holds | intro _ | with_reducible refine Holds.step ?_ ?_
    | fail_if_no_progress with_reducible refine Holds.mk' ?_ rfl rfl rfl rfl rfl rfl rfl rfl rfl rfl

theorem State.refereeAbsent_holds (h : Holds q s) : Holds q (State.refereeAbsent s) := by
  unfold State.refereeAbsent
  repeat' first
    | with_reducible assumption | with_reducible apply State.endTick_holds
    | with_reducible apply State.pairEvt_holds | with_reducible apply State.record_holds
    | with_reducible apply State.isolate_holds | with_reducible apply State.countElect_holds | intro _
    | with_reducible refine Holds.step ?_ ?_
    | fail_if_no_progress with_reducible refine Holds.mk' ?_ rfl rfl rfl rfl rfl rfl rfl rfl rfl rfl

end Sys2Proof.Machine
end

