-- ==== Sys2Proof/Laws/KeptPowerActs.lean ====
section
/-! SUPPORT. What the operations of Machine/PowerActs.lean keep. -/

namespace Sys2Proof.Machine

variable {q : Bounds} {s : State}

theorem State.setPhase_holds (h : Holds q s) : ∀ x0, Holds q (State.setPhase x0 s) := by
  intro x0; unfold State.setPhase
  repeat' first
    | with_reducible assumption | intro _
    | fail_if_no_progress with_reducible refine Holds.mk' ?_ rfl rfl rfl rfl rfl rfl rfl rfl rfl rfl

theorem State.tryInsert_holds (h : Holds q s) : Holds q (State.tryInsert s) := by
  unfold State.tryInsert
  repeat' first
    | with_reducible assumption | with_reducible apply State.setPhase_holds | intro _
    | with_reducible refine Holds.step ?_ ?_

theorem State.mateClose_holds (h : Holds q s) : Holds q (State.mateClose s) := by
  unfold State.mateClose
  repeat' first
    | with_reducible assumption | with_reducible apply State.tryInsert_holds | intro _
    | fail_if_no_progress with_reducible refine Holds.mk' ?_ rfl rfl rfl rfl rfl rfl rfl rfl rfl rfl

theorem State.insertLost_holds (h : Holds q s) : Holds q (State.insertLost s) := by
  unfold State.insertLost
  repeat' first
    | with_reducible assumption | with_reducible apply State.setPhase_holds | intro _
    | with_reducible refine Holds.step ?_ ?_
    | fail_if_no_progress with_reducible refine Holds.mk' ?_ rfl rfl rfl rfl rfl rfl rfl rfl rfl rfl | split

theorem State.mateOpen_holds (h : Holds q s) : ∀ x0, Holds q (State.mateOpen x0 s) := by
  intro x0; unfold State.mateOpen
  repeat' first
    | with_reducible assumption | with_reducible apply State.insertLost_holds | intro _
    | with_reducible refine Holds.step ?_ ?_
    | fail_if_no_progress with_reducible refine Holds.mk' ?_ rfl rfl rfl rfl rfl rfl rfl rfl rfl rfl

theorem State.presence_holds (h : Holds q s) : Holds q (State.presence s) := by
  unfold State.presence
  repeat' first
    | with_reducible assumption | with_reducible apply State.setPhase_holds | intro _
    | with_reducible refine Holds.step ?_ ?_
    | fail_if_no_progress with_reducible refine Holds.mk' ?_ rfl rfl rfl rfl rfl rfl rfl rfl rfl rfl | split

theorem State.porRelease_holds (h : Holds q s) : ∀ x0 x1 x2, Holds q (State.porRelease x0 x1 x2 s) := by
  intro x0 x1 x2; unfold State.porRelease
  repeat' first
    | with_reducible assumption | with_reducible apply State.release_holds | intro _
    | with_reducible refine Holds.step ?_ ?_
    | fail_if_no_progress with_reducible refine Holds.mk' ?_ rfl rfl rfl rfl rfl rfl rfl rfl rfl rfl | split

theorem State.lampEnd_holds (h : Holds q s) : Holds q (State.lampEnd s) := by
  unfold State.lampEnd
  repeat' first
    | with_reducible assumption | intro _ | with_reducible refine Holds.step ?_ ?_
    | fail_if_no_progress with_reducible refine Holds.mk' ?_ rfl rfl rfl rfl rfl rfl rfl rfl rfl rfl

theorem State.feedOk_holds (h : Holds q s) : ∀ x0 x1, Holds q (State.feedOk x0 x1 s) := by
  intro x0 x1; unfold State.feedOk
  repeat' first
    | with_reducible assumption | with_reducible apply ok_holds | with_reducible apply State.tryInsert_holds
    | with_reducible apply State.insertLost_holds | intro _ | with_reducible refine Holds.step ?_ ?_
    | fail_if_no_progress with_reducible refine Holds.mk' ?_ rfl rfl rfl rfl rfl rfl rfl rfl rfl rfl

theorem State.feedLost_holds (h : Holds q s) : ∀ x0, Holds q (State.feedLost x0 s) := by
  intro x0; unfold State.feedLost
  repeat' first
    | with_reducible assumption | with_reducible apply State.feedOk_holds
    | with_reducible apply State.latchSet_holds | with_reducible apply State.record_holds | intro _
    | with_reducible refine Holds.step ?_ ?_
    | fail_if_no_progress with_reducible refine Holds.mk' ?_ rfl rfl rfl rfl rfl rfl rfl rfl rfl rfl

theorem State.powerFail_holds (h : Holds q s) : ∀ x0, Holds q (State.powerFail x0 s) := by
  intro x0; unfold State.powerFail
  repeat' first
    | with_reducible assumption | with_reducible apply State.sendBoth_holds
    | with_reducible apply State.olcAbort_holds | with_reducible apply State.powerFailSave_holds
    | with_reducible apply State.leaveActive_holds | with_reducible apply State.pfCan_holds
    | with_reducible apply State.insertLost_holds | exact fun e => ModState.noConfusion e | intro _
    | with_reducible refine Holds.step ?_ ?_
    | fail_if_no_progress with_reducible refine Holds.mk' ?_ rfl rfl rfl rfl rfl rfl rfl rfl rfl rfl | split

theorem State.powerFailReset_holds (h : Holds q s) : Holds q (State.powerFailReset s) := by
  unfold State.powerFailReset
  repeat' first
    | with_reducible assumption | with_reducible apply State.powerFail_holds
    | with_reducible apply State.flushLog_holds | with_reducible apply State.shell_holds
    | with_reducible apply State.tryInsert_holds | intro _ | with_reducible refine Holds.step ?_ ?_
    | fail_if_no_progress with_reducible refine Holds.mk' ?_ rfl rfl rfl rfl rfl rfl rfl rfl rfl rfl | split

theorem State.powerReturn_holds (h : Holds q s) : Holds q (State.powerReturn s) := by
  unfold State.powerReturn
  repeat' first
    | with_reducible assumption | with_reducible apply State.tryInsert_holds | intro _
    | fail_if_no_progress with_reducible refine Holds.mk' ?_ rfl rfl rfl rfl rfl rfl rfl rfl rfl rfl

theorem State.brownout_holds (h : Holds q s) : Holds q (State.brownout s) := by
  unfold State.brownout
  repeat' first
    | with_reducible assumption | intro _ | with_reducible refine Holds.step ?_ ?_
    | fail_if_no_progress with_reducible refine Holds.mk' ?_ rfl rfl rfl rfl rfl rfl rfl rfl rfl rfl

theorem State.keyAccept_holds (h : Holds q s) : ∀ x0 x1, Holds q (State.keyAccept x0 x1 s) := by
  intro x0 x1; unfold State.keyAccept
  repeat' first
    | with_reducible assumption | with_reducible apply State.olcAbort_holds
    | with_reducible apply State.requestHandover_holds | intro _ | with_reducible refine Holds.step ?_ ?_
    | fail_if_no_progress with_reducible refine Holds.mk' ?_ rfl rfl rfl rfl rfl rfl rfl rfl rfl rfl | split

theorem State.keyFail_holds (h : Holds q s) : ∀ x0, Holds q (State.keyFail x0 s) := by
  intro x0; unfold State.keyFail
  repeat' first
    | with_reducible assumption | with_reducible apply State.latchSet_holds
    | with_reducible apply State.record_holds | intro _ | with_reducible refine Holds.step ?_ ?_
    | fail_if_no_progress with_reducible refine Holds.mk' ?_ rfl rfl rfl rfl rfl rfl rfl rfl rfl rfl

theorem State.recordEject_holds (h : Holds q s) : ∀ x0, Holds q (State.recordEject x0 s) := by
  intro x0; unfold State.recordEject
  repeat' first | with_reducible assumption | with_reducible apply State.record_holds

theorem State.refuseEject_holds (h : Holds q s) : ∀ x0, Holds q (State.refuseEject x0 s) := by
  intro x0; unfold State.refuseEject
  repeat' first
    | with_reducible assumption | with_reducible apply State.recordEject_holds | intro _
    | fail_if_no_progress with_reducible refine Holds.mk' ?_ rfl rfl rfl rfl rfl rfl rfl rfl rfl rfl

theorem State.ejectRequest_holds (h : Holds q s) : Holds q (State.ejectRequest s) := by
  unfold State.ejectRequest
  repeat' first
    | with_reducible assumption | with_reducible apply State.recordEject_holds
    | with_reducible apply State.flushLog_holds | with_reducible apply State.shell_holds
    | with_reducible apply State.tryInsert_holds | with_reducible apply State.requestHandover_holds
    | with_reducible apply State.refuseEject_holds | intro _ | with_reducible refine Holds.step ?_ ?_
    | fail_if_no_progress with_reducible refine Holds.mk' ?_ rfl rfl rfl rfl rfl rfl rfl rfl rfl rfl | split

theorem State.ejectPrepared_holds (h : Holds q s) : Holds q (State.ejectPrepared s) := by
  unfold State.ejectPrepared
  repeat' first
    | with_reducible assumption | with_reducible apply State.enterIsolated_holds
    | with_reducible apply State.recordEject_holds | intro _ | with_reducible refine Holds.step ?_ ?_
    | fail_if_no_progress with_reducible refine Holds.mk' ?_ rfl rfl rfl rfl rfl rfl rfl rfl rfl rfl | split

theorem State.ejectTimeout_holds (h : Holds q s) : Holds q (State.ejectTimeout s) := by
  unfold State.ejectTimeout
  repeat' first
    | with_reducible assumption | with_reducible apply State.refuseEject_holds | intro _
    | with_reducible refine Holds.step ?_ ?_
    | fail_if_no_progress with_reducible refine Holds.mk' ?_ rfl rfl rfl rfl rfl rfl rfl rfl rfl rfl | split

end Sys2Proof.Machine
end

