-- ==== Sys2Proof/Laws/KeptSmpActs.lean ====
section
/-! SUPPORT. What the operations of Machine/SmpActs.lean keep. -/

namespace Sys2Proof.Machine

variable {q : Bounds} {s : State}

theorem State.recordSession_holds (h : Holds q s) : ∀ x0 x1 x2, Holds q (State.recordSession x0 x1 x2 s) := by
  intro x0 x1 x2; unfold State.recordSession
  repeat' first | with_reducible assumption | with_reducible apply State.record_holds

/-- At most eight sessions are open (R432). -/
theorem State.handshake_holds (h : Holds q s) : ∀ sid x1 x2 x3 x4 x5 x6 chain,
    Holds q (s.handshake sid x1 x2 x3 x4 x5 x6 chain) := by
  intro sid x1 x2 x3 x4 x5 x6 chain
  unfold State.handshake
  dsimp only
  split
  · rename_i hc
    simp only [Bool.and_eq_true, decide_eq_true_eq] at hc
    split
    · exact h
    · refine State.recordSession_holds ?_ _ _ _
      refine { h with sessions := ?_ }
      simp only [List.length_append, List.length_cons, List.length_nil]
      omega
  · exact h

theorem State.closeSession_holds (h : Holds q s) : ∀ x0, Holds q (State.closeSession x0 s) := by
  intro x0
  have h1 : Holds q { s with sessions := s.sessions.filter fun y => decide (y.sid ≠ x0) } :=
    { h with sessions := Nat.le_trans (List.length_filter_le _ _) h.sessions }
  unfold State.closeSession
  repeat' first
    | with_reducible assumption | with_reducible apply State.recordSession_holds
    | with_reducible apply State.abandonLoad_holds | intro _ | with_reducible refine Holds.step ?_ ?_ | split

theorem State.closeAll_holds (h : Holds q s) : Holds q (State.closeAll s) := by
  unfold State.closeAll
  repeat' first
    | with_reducible assumption | with_reducible apply State.closeSession_holds
    | with_reducible apply Holds.foldl | intro _

theorem State.sessionIdle_holds (h : Holds q s) : ∀ x0, Holds q (State.sessionIdle x0 s) := by
  intro x0; unfold State.sessionIdle
  repeat' first
    | with_reducible assumption | with_reducible apply State.closeSession_holds | intro _
    | with_reducible refine Holds.step ?_ ?_
    | fail_if_no_progress with_reducible refine Holds.mk' ?_ rfl rfl rfl rfl rfl rfl rfl rfl rfl rfl | split

theorem State.heard_holds (h : Holds q s) : ∀ sid, Holds q (s.heard sid) := fun _ => State.modSession_holds h _ _

theorem State.taken_holds (h : Holds q s) : ∀ sid req cmd, Holds q (s.taken sid req cmd) :=
  fun _ _ _ => State.modSession_holds (State.heard_holds h _) _ _

theorem State.request_holds (h : Holds q s) : ∀ sid req cmd (run : Session → State → Answer),
    (∀ x t, Holds q t → Holds q (run x t).1) → Holds q (s.request sid req cmd run) := by
  intro sid req cmd run hr
  unfold State.request
  split
  · exact h
  · split
    · exact h
    · rename_i x hx
      have h2 := hr x _ (State.taken_holds h sid req cmd)
      split
      · split <;> rename_i heq <;> rw [heq] at h2
        · exact State.answer_holds h2 _ _ _ _
        · exact h2
      · split
        · split
          · exact State.emit_holds (State.heard_holds h _) _
          · exact State.heard_holds h _
        · exact State.heard_holds h _

theorem ok_holds (h : Holds q s) : Holds q (ok s).1 := by
  unfold ok
  repeat' first | with_reducible assumption

theorem refuse_holds (h : Holds q s) : ∀ x0, Holds q (refuse x0 s).1 := by
  intro x0; unfold refuse
  repeat' first | with_reducible assumption

theorem refuseRec_holds (h : Holds q s) : ∀ x0 x1 x2, Holds q (refuseRec x0 x1 x2 s).1 := by
  intro x0 x1 x2; unfold refuseRec
  repeat' first | with_reducible assumption | with_reducible apply State.record_holds

theorem wrongState_holds (h : Holds q s) : ∀ x0 x1, Holds q (wrongState x0 x1 s).1 := by
  intro x0 x1; unfold wrongState
  repeat' first | with_reducible assumption | with_reducible apply State.record_holds

theorem State.checked_holds (h : Holds q s) : ∀ cmd role table (own : Session → State → Answer) x,
    (∀ x t, Holds q t → Holds q (own x t).1) → Holds q (s.checked cmd role table own x).1 := by
  intro cmd role table own x ho
  unfold State.checked
  split
  · exact refuseRec_holds h _ _ _
  · split
    · exact wrongState_holds h _ _
    · exact ho x s h

theorem State.command_holds (h : Holds q s) : ∀ r fits min anyU (table : State → Bool) (own : Session → State → Answer),
    (∀ x t, Holds q t → Holds q (own x t).1) → Holds q (s.command r fits min anyU table own) := by
  intro r fits min anyU table own ho
  refine State.request_holds h _ _ _ _ fun x t ht => State.checked_holds ht _ _ _ _ _ fun y u hu => ?_
  split
  · exact ho y u hu
  · exact refuse_holds hu _

theorem refuseFree_holds (h : Holds q s) : Holds q (refuseFree s).1 := by
  unfold refuseFree
  repeat' first | with_reducible assumption | with_reducible apply State.freeW32_holds

end Sys2Proof.Machine
end

