-- ==== Sys2Proof/Laws/KeptSmpCmdActs.lean ====
section
/-! SUPPORT. What the operations of Machine/SmpCmdActs.lean keep. -/

namespace Sys2Proof.Machine

variable {q : Bounds} {s : State}

theorem State.identSig_holds (h : Holds q s) : ∀ nonce, Holds q (s.identSig nonce).2 :=
  fun _ => h.of_eq rfl rfl rfl rfl rfl rfl rfl rfl rfl rfl

theorem State.checkParity_holds (h : Holds q s) : ∀ x0, Holds q (State.checkParity x0 s) := by
  intro x0; unfold State.checkParity
  repeat' first
    | with_reducible assumption | with_reducible apply State.parityDetect_holds
    | with_reducible apply Holds.foldl | intro _

theorem regReads_holds (m : Master) (w : Nat) : ∀ (n a : Nat) {s : State}, Holds q s → Holds q (regReads m w n a s).2
  | 0, _, _, h => h
  | n + 1, a, _, h => regReads_holds m w n _ (State.busRead_holds h m a w)

theorem regWrites_holds (m : Master) (w : Nat) : ∀ (n a : Nat) (d : List Byte) {s : State}, Holds q s →
    Holds q (regWrites m w n a d s).2
  | 0, _, _, _, h => h
  | n + 1, a, d, _, h => regWrites_holds m w n _ _ (State.busWrite_holds h m a w _)

theorem State.logAck_holds (h : Holds q s) : ∀ x0, Holds q (State.logAck x0 s) := by
  intro x0; unfold State.logAck
  repeat' first
    | with_reducible assumption | with_reducible apply State.record_holds | intro _
    | fail_if_no_progress with_reducible refine Holds.mk' ?_ rfl rfl rfl rfl rfl rfl rfl rfl rfl rfl

theorem State.logCleared_holds (h : Holds q s) : Holds q (State.logCleared s) := by
  unfold State.logCleared
  repeat' first
    | with_reducible assumption | with_reducible apply State.finishClear_holds
    | with_reducible apply State.answer_holds | intro _
    | fail_if_no_progress with_reducible refine Holds.mk' ?_ rfl rfl rfl rfl rfl rfl rfl rfl rfl rfl | split

theorem State.enrol_holds (h : Holds q s) : ∀ x0, Holds q (State.enrol x0 s) := by
  intro x0; unfold State.enrol
  repeat' first
    | with_reducible assumption | with_reducible apply State.closeAll_holds
    | with_reducible apply State.record_holds | intro _
    | fail_if_no_progress with_reducible refine Holds.mk' ?_ rfl rfl rfl rfl rfl rfl rfl rfl rfl rfl

/-- The owner's release returns the floor to 0 (R101). -/
theorem State.ownRelease_holds (hr : q.release = true) (h : Holds q s) : Holds q s.ownRelease := by
  unfold State.ownRelease
  have h1 := State.closeAll_holds h
  refine State.record_holds ?_ _ _ _ _
  exact ⟨⟨h1.image, h1.forced, h1.forceCap, h1.owner, h1.sessions, h1.staging⟩, h1.clock, h1.queue, .inl hr, .inl hr⟩

theorem State.setStage_holds (h : Holds q s) : ∀ x0, Holds q (State.setStage x0 s) := by
  intro x0; unfold State.setStage
  repeat' first
    | with_reducible assumption | intro _
    | fail_if_no_progress with_reducible refine Holds.mk' ?_ rfl rfl rfl rfl rfl rfl rfl rfl rfl rfl

theorem State.beginLoad_holds (h : Holds q s) : ∀ x0 x1, Holds q (State.beginLoad x0 x1 s) := by
  intro x0 x1; unfold State.beginLoad
  repeat' first
    | with_reducible assumption | with_reducible apply State.setCopy_holds
    | with_reducible apply State.setStage_holds

theorem State.setLast_holds (h : Holds q s) : ∀ x0 x1, Holds q (State.setLast x0 x1 s) := by
  intro x0 x1; unfold State.setLast
  repeat' first
    | with_reducible assumption | intro _
    | fail_if_no_progress with_reducible refine Holds.mk' ?_ rfl rfl rfl rfl rfl rfl rfl rfl rfl rfl

theorem State.verify_holds (h : Holds q s) : Holds q (State.verify s).1 := by
  unfold State.verify
  repeat' first
    | with_reducible assumption | with_reducible apply ok_holds | with_reducible apply State.setStage_holds
    | with_reducible apply State.setLast_holds | with_reducible apply State.abandonLoad_holds | intro _
    | fail_if_no_progress with_reducible refine Holds.mk' ?_ rfl rfl rfl rfl rfl rfl rfl rfl rfl rfl | split

theorem State.commitImage_holds (h : Holds q s) : ∀ x i, Holds q (s.commitImage x i).1 := by
  intro x i
  unfold State.commitImage
  extract_lets d need s1
  split
  · exact refuseRec_holds h _ _ _
  · have h1 : Holds q s1 := State.storeSafe_holds h _ _ _
    clear_value s1
    exact State.beginCommit_holds (State.modSession_holds h1 _ _) _

theorem State.recordForce_holds (h : Holds q s) :
    ∀ x0 x1 x2 x3 x4, Holds q (State.recordForce x0 x1 x2 x3 x4 s) := by
  intro x0 x1 x2 x3 x4; unfold State.recordForce
  repeat' first | with_reducible assumption | with_reducible apply State.record_holds

theorem State.setForce_holds (h : Holds q s) : ∀ i st v, (s.forced i = true ∨ s.forces.length < 256) →
    Holds q (s.setForce i st v) := by
  intro i st v hc
  unfold State.setForce
  refine { h with forced := ascending_insertKey _ _ h.forced, forceCap := ?_ }
  show (insertKey i _ s.forces).length ≤ 256
  rcases hc with hc | hc
  · have hm : ∃ p ∈ s.forces, p.1 = i := by simpa [State.forced] using hc
    rw [length_insertKey_mem h.forced hm]
    exact h.forceCap
  · have := length_insertKey_le i (v, mkQ st false false false ||| 0x20#8) s.forces
    omega

theorem State.releaseForces_holds (h : Holds q s) : ∀ x0 x1 x2, Holds q (State.releaseForces x0 x1 x2 s) := by
  intro x0 x1 x2
  unfold State.releaseForces
  split
  · split
    · exact h
    · refine State.recordForce_holds ?_ _ _ _ _ _
      exact { h with forced := rfl, forceCap := Nat.zero_le _ }
  · split
    · refine State.recordForce_holds ?_ _ _ _ _ _
      exact { h with
        forced := ascending_eraseKey _ h.forced
        forceCap := Nat.le_trans (length_eraseKey_le _ _) h.forceCap }
    · exact h

theorem State.safeClear_holds (h : Holds q s) : Holds q (State.safeClear s) := by
  unfold State.safeClear
  repeat' first
    | with_reducible assumption | with_reducible apply State.restart_holds | intro _
    | fail_if_no_progress with_reducible refine Holds.mk' ?_ rfl rfl rfl rfl rfl rfl rfl rfl rfl rfl

theorem State.setTime_holds (h : Holds q s) : ∀ x0, Holds q (State.setTime x0 s) := by
  intro x0; unfold State.setTime
  repeat' first
    | with_reducible assumption | intro _
    | fail_if_no_progress with_reducible refine Holds.mk' ?_ rfl rfl rfl rfl rfl rfl rfl rfl rfl rfl

theorem State.hartQueue_holds (h : Holds q s) : ∀ x0 x1, Holds q (State.hartQueue x0 x1 s) := by
  intro x0 x1; unfold State.hartQueue
  repeat' first
    | with_reducible assumption | with_reducible apply State.modModem_holds

theorem State.recordUnlock_holds (h : Holds q s) : ∀ x0, Holds q (State.recordUnlock x0 s) := by
  intro x0; unfold State.recordUnlock
  repeat' first | with_reducible assumption | with_reducible apply State.record_holds

theorem State.safetyUnlock_holds (h : Holds q s) : ∀ x0 x1, Holds q (State.safetyUnlock x0 x1 s).1 := by
  intro x0 x1; unfold State.safetyUnlock
  repeat' first
    | with_reducible assumption | with_reducible apply refuseRec_holds | with_reducible apply ok_holds
    | with_reducible apply State.modSession_holds | with_reducible apply State.recordUnlock_holds | intro _
    | with_reducible refine Holds.step ?_ ?_
    | fail_if_no_progress with_reducible refine Holds.mk' ?_ rfl rfl rfl rfl rfl rfl rfl rfl rfl rfl | split

theorem State.identChallenge_holds (h : Holds q s) : ∀ x0, Holds q (State.identChallenge x0 s) := by
  intro x0; unfold State.identChallenge
  exact State.command_holds h _ _ _ _ _ _ fun _ _ ht => State.identSig_holds ht x0.p

theorem State.statusRead_holds (h : Holds q s) : ∀ x0, Holds q (State.statusRead x0 s) := by
  intro x0; unfold State.statusRead
  repeat' first
    | with_reducible assumption | with_reducible apply State.command_holds
    | with_reducible apply State.checkParity_holds | intro _

theorem State.logRead_holds (h : Holds q s) : ∀ x0, Holds q (State.logRead x0 s) := by
  intro x0; unfold State.logRead
  repeat' first | with_reducible assumption | with_reducible apply State.command_holds | intro _

theorem State.regRead_holds (h : Holds q s) : ∀ x0, Holds q (State.regRead x0 s) := by
  intro x0; unfold State.regRead
  repeat' first
    | with_reducible assumption | with_reducible apply State.command_holds
    | with_reducible apply regReads_holds | intro _

theorem State.regWrite_holds (h : Holds q s) : ∀ x0, Holds q (State.regWrite x0 s) := by
  intro x0; unfold State.regWrite
  repeat' first
    | with_reducible assumption | with_reducible apply State.command_holds
    | with_reducible apply regWrites_holds | intro _

theorem State.slotRead_holds (h : Holds q s) : ∀ x0, Holds q (State.slotRead x0 s) := by
  intro x0; unfold State.slotRead
  repeat' first | with_reducible assumption | with_reducible apply State.command_holds | intro _

theorem State.logAckCmd_holds (h : Holds q s) : ∀ x0, Holds q (State.logAckCmd x0 s) := by
  intro x0; unfold State.logAckCmd
  repeat' first
    | with_reducible assumption | with_reducible apply State.command_holds | with_reducible apply ok_holds
    | with_reducible apply State.logAck_holds | intro _

theorem State.logClear_holds (h : Holds q s) : ∀ x0, Holds q (State.logClear x0 s) := by
  intro x0; unfold State.logClear
  repeat' first
    | with_reducible assumption | with_reducible apply State.command_holds
    | with_reducible apply State.startClear_holds | intro _

theorem State.ownerEnrol_holds (h : Holds q s) : ∀ x0, Holds q (State.ownerEnrol x0 s) := by
  intro x0; unfold State.ownerEnrol
  repeat' first
    | with_reducible assumption | with_reducible apply State.command_holds | with_reducible apply refuse_holds
    | with_reducible apply ok_holds | with_reducible apply State.enrol_holds
    | with_reducible apply refuseFree_holds | intro _ | with_reducible refine Holds.step ?_ ?_ | split

theorem State.ownerRelease_holds (hr : q.release = true) (h : Holds q s) : ∀ x0, Holds q (State.ownerRelease x0 s) := by
  intro x0; unfold State.ownerRelease
  refine State.command_holds h _ _ _ _ _ _ fun _ t ht => ?_
  split
  · exact refuse_holds ht _
  · exact ok_holds (State.ownRelease_holds hr ht)

theorem State.imageLoadBegin_holds (h : Holds q s) : ∀ x0, Holds q (State.imageLoadBegin x0 s) := by
  intro x0; unfold State.imageLoadBegin
  repeat' first
    | with_reducible assumption | with_reducible apply State.command_holds | with_reducible apply refuse_holds
    | with_reducible apply ok_holds | with_reducible apply State.beginLoad_holds | intro _
    | with_reducible refine Holds.step ?_ ?_ | split

theorem State.imageData_holds (h : Holds q s) : ∀ x0, Holds q (State.imageData x0 s) := by
  intro x0; unfold State.imageData
  repeat' first
    | with_reducible assumption | with_reducible apply State.command_holds | with_reducible apply refuse_holds
    | with_reducible apply ok_holds | with_reducible apply State.setStage_holds | intro _
    | with_reducible refine Holds.step ?_ ?_
    | fail_if_no_progress with_reducible refine Holds.mk' ?_ rfl rfl rfl rfl rfl rfl rfl rfl rfl rfl | split
    | dsimp only

theorem State.imageLoadEnd_holds (h : Holds q s) : ∀ x0, Holds q (State.imageLoadEnd x0 s) := by
  intro x0; unfold State.imageLoadEnd
  repeat' first
    | with_reducible assumption | with_reducible apply State.command_holds | with_reducible apply ok_holds
    | with_reducible apply State.setStage_holds | with_reducible apply refuse_holds | intro _
    | with_reducible refine Holds.step ?_ ?_
    | fail_if_no_progress with_reducible refine Holds.mk' ?_ rfl rfl rfl rfl rfl rfl rfl rfl rfl rfl | split
    | dsimp only

theorem State.imageVerify_holds (h : Holds q s) : ∀ x0, Holds q (State.imageVerify x0 s) := by
  intro x0; unfold State.imageVerify
  repeat' first
    | with_reducible assumption | with_reducible apply State.command_holds | with_reducible apply refuse_holds
    | with_reducible apply State.verify_holds | intro _ | with_reducible refine Holds.step ?_ ?_ | split

theorem State.imageAbort_holds (h : Holds q s) : ∀ x0, Holds q (State.imageAbort x0 s) := by
  intro x0; unfold State.imageAbort
  repeat' first
    | with_reducible assumption | with_reducible apply State.command_holds | with_reducible apply refuse_holds
    | with_reducible apply ok_holds | with_reducible apply State.abandonLoad_holds | intro _
    | with_reducible refine Holds.step ?_ ?_ | split

theorem State.imageAdopt_holds (h : Holds q s) : ∀ x0, Holds q (State.imageAdopt x0 s) := by
  intro x0; unfold State.imageAdopt
  repeat' first
    | with_reducible assumption | with_reducible apply State.command_holds | with_reducible apply refuse_holds
    | with_reducible apply ok_holds | with_reducible apply State.beginLoad_holds
    | with_reducible apply State.sendOnce_holds | with_reducible apply State.imgReq_holds | intro _
    | with_reducible refine Holds.step ?_ ?_
    | fail_if_no_progress with_reducible refine Holds.mk' ?_ rfl rfl rfl rfl rfl rfl rfl rfl rfl rfl | split

theorem State.imageCommit_holds (h : Holds q s) : ∀ x0, Holds q (State.imageCommit x0 s) := by
  intro x0; unfold State.imageCommit
  repeat' first
    | with_reducible assumption | with_reducible apply State.command_holds | with_reducible apply refuse_holds
    | with_reducible apply State.commitImage_holds | intro _ | with_reducible refine Holds.step ?_ ?_
    | fail_if_no_progress with_reducible refine Holds.mk' ?_ rfl rfl rfl rfl rfl rfl rfl rfl rfl rfl | split

theorem State.olcPrepare_holds (h : Holds q s) : ∀ x0, Holds q (State.olcPrepare x0 s) := by
  intro x0; unfold State.olcPrepare
  repeat' first
    | with_reducible assumption | with_reducible apply State.command_holds
    | with_reducible apply refuseRec_holds | intro _ | with_reducible refine Holds.step ?_ ?_
    | fail_if_no_progress with_reducible refine Holds.mk' ?_ rfl rfl rfl rfl rfl rfl rfl rfl rfl rfl | split

theorem State.olcSwitch_holds (h : Holds q s) : ∀ x0, Holds q (State.olcSwitch x0 s) := by
  intro x0; unfold State.olcSwitch
  repeat' first
    | with_reducible assumption | with_reducible apply State.command_holds | with_reducible apply ok_holds
    | intro _ | fail_if_no_progress with_reducible refine Holds.mk' ?_ rfl rfl rfl rfl rfl rfl rfl rfl rfl rfl

theorem State.olcAbortCmd_holds (h : Holds q s) : ∀ x0, Holds q (State.olcAbortCmd x0 s) := by
  intro x0; unfold State.olcAbortCmd
  repeat' first
    | with_reducible assumption | with_reducible apply State.command_holds | with_reducible apply ok_holds
    | with_reducible apply State.olcAbort_holds | intro _

theorem State.forceSet_holds (h : Holds q s) : ∀ x0, Holds q (State.forceSet x0 s) := by
  intro x0; unfold State.forceSet
  refine State.command_holds h _ _ _ _ _ _ fun _ t ht => ?_
  split
  · exact refuseRec_holds ht _ _ _
  · split
    · exact refuseRec_holds ht _ _ _
    · rename_i hf
      refine ok_holds (State.recordForce_holds (State.setForce_holds ht _ _ _ ?_) _ _ _ _ _)
      simp only [Bool.and_eq_true, Bool.not_eq_true', decide_eq_true_eq, not_and] at hf
      cases hs : t.forced (x0.num 0 2)
      · exact .inr (Nat.lt_of_not_le (hf hs))
      · exact .inl rfl

theorem State.forceRelease_holds (h : Holds q s) : ∀ x0, Holds q (State.forceRelease x0 s) := by
  intro x0; unfold State.forceRelease
  repeat' first
    | with_reducible assumption | with_reducible apply State.command_holds | with_reducible apply ok_holds
    | with_reducible apply State.releaseForces_holds | intro _

theorem State.barnCheckpoint_holds (h : Holds q s) : ∀ x0, Holds q (State.barnCheckpoint x0 s) := by
  intro x0; unfold State.barnCheckpoint
  repeat' first
    | with_reducible assumption | with_reducible apply State.command_holds | with_reducible apply ok_holds
    | with_reducible apply State.requestCheckpoint_holds | intro _

theorem State.safeEnter_holds (h : Holds q s) : ∀ x0, Holds q (State.safeEnter x0 s) := by
  intro x0; unfold State.safeEnter
  repeat' first
    | with_reducible assumption | with_reducible apply State.command_holds | with_reducible apply ok_holds
    | with_reducible apply State.enterSafe_holds | intro _

theorem State.safeClearCmd_holds (h : Holds q s) : ∀ x0, Holds q (State.safeClearCmd x0 s) := by
  intro x0; unfold State.safeClearCmd
  repeat' first
    | with_reducible assumption | with_reducible apply State.command_holds | with_reducible apply ok_holds
    | with_reducible apply State.safeClear_holds | intro _

theorem State.ejectCmd_holds (h : Holds q s) : ∀ x0, Holds q (State.ejectCmd x0 s) := by
  intro x0; unfold State.ejectCmd
  repeat' first
    | with_reducible assumption | with_reducible apply State.command_holds
    | with_reducible apply State.ejectRequest_holds | with_reducible apply refuseFree_holds
    | with_reducible apply ok_holds | intro _ | with_reducible refine Holds.step ?_ ?_ | split | dsimp only

theorem State.timeSet_holds (h : Holds q s) : ∀ x0, Holds q (State.timeSet x0 s) := by
  intro x0; unfold State.timeSet
  repeat' first
    | with_reducible assumption | with_reducible apply State.command_holds | with_reducible apply refuse_holds
    | with_reducible apply ok_holds | with_reducible apply State.setTime_holds | intro _
    | with_reducible refine Holds.step ?_ ?_ | split

theorem State.hartPass_holds (h : Holds q s) : ∀ x0, Holds q (State.hartPass x0 s) := by
  intro x0; unfold State.hartPass
  repeat' first
    | with_reducible assumption | with_reducible apply State.command_holds | with_reducible apply refuse_holds
    | with_reducible apply State.hartQueue_holds | intro _ | with_reducible refine Holds.step ?_ ?_
    | fail_if_no_progress with_reducible refine Holds.mk' ?_ rfl rfl rfl rfl rfl rfl rfl rfl rfl rfl | split

theorem State.uslAckCmd_holds (h : Holds q s) : ∀ x0, Holds q (State.uslAckCmd x0 s) := by
  intro x0; unfold State.uslAckCmd
  repeat' first
    | with_reducible assumption | with_reducible apply State.command_holds
    | with_reducible apply State.busWrite_holds | with_reducible apply refuse_holds | intro _

theorem State.pairHandover_holds (h : Holds q s) : ∀ x0, Holds q (State.pairHandover x0 s) := by
  intro x0; unfold State.pairHandover
  repeat' first
    | with_reducible assumption | with_reducible apply State.command_holds
    | with_reducible apply State.requestHandover_holds | with_reducible apply ok_holds
    | with_reducible apply wrongState_holds | intro _ | with_reducible refine Holds.step ?_ ?_ | split

theorem State.pairSwaptest_holds (h : Holds q s) : ∀ x0, Holds q (State.pairSwaptest x0 s) := by
  intro x0; unfold State.pairSwaptest
  repeat' first
    | with_reducible assumption | with_reducible apply State.command_holds | with_reducible apply ok_holds
    | with_reducible apply State.swapStart_holds | with_reducible apply wrongState_holds | intro _
    | with_reducible refine Holds.step ?_ ?_ | split

theorem State.pairClear_holds (h : Holds q s) : ∀ x0, Holds q (State.pairClear x0 s) := by
  intro x0; unfold State.pairClear
  repeat' first
    | with_reducible assumption | with_reducible apply State.command_holds | with_reducible apply ok_holds
    | with_reducible apply wrongState_holds | intro _ | with_reducible refine Holds.step ?_ ?_
    | fail_if_no_progress with_reducible refine Holds.mk' ?_ rfl rfl rfl rfl rfl rfl rfl rfl rfl rfl | split

theorem State.pairSolo_holds (h : Holds q s) : ∀ x0, Holds q (State.pairSolo x0 s) := by
  intro x0; unfold State.pairSolo
  repeat' first
    | with_reducible assumption | with_reducible apply State.command_holds | with_reducible apply ok_holds
    | with_reducible apply State.grant_holds | with_reducible apply wrongState_holds | intro _
    | with_reducible refine Holds.step ?_ ?_ | split

theorem State.brakeTest_holds (h : Holds q s) : ∀ x0, Holds q (State.brakeTest x0 s) := by
  intro x0; unfold State.brakeTest
  repeat' first
    | with_reducible assumption | with_reducible apply State.command_holds | with_reducible apply ok_holds
    | with_reducible apply State.testStart_holds | with_reducible apply wrongState_holds | intro _
    | with_reducible refine Holds.step ?_ ?_ | split

theorem State.safetyUnlockCmd_holds (h : Holds q s) : ∀ x0, Holds q (State.safetyUnlockCmd x0 s) := by
  intro x0; unfold State.safetyUnlockCmd
  repeat' first
    | with_reducible assumption | with_reducible apply State.command_holds
    | with_reducible apply State.safetyUnlock_holds | intro _

theorem State.soClearCmd_holds (h : Holds q s) : ∀ x0, Holds q (State.soClearCmd x0 s) := by
  intro x0; unfold State.soClearCmd
  repeat' first
    | with_reducible assumption | with_reducible apply State.command_holds | with_reducible apply ok_holds
    | with_reducible apply State.soClear_holds | with_reducible apply wrongState_holds | intro _
    | with_reducible refine Holds.step ?_ ?_ | split

/-- A request other than OWNER_RELEASE keeps the bounds, and every request where the release is allowed for. -/
theorem State.runSmp_holds (h : Holds q s) : ∀ r, (q.release = true ∨ r.cmd ≠ 0x11) → Holds q (s.runSmp r) := by
  intro r hr
  unfold State.runSmp
  split <;> first
    | with_reducible exact State.identChallenge_holds h _ | with_reducible exact State.statusRead_holds h _
    | with_reducible exact State.logRead_holds h _ | with_reducible exact State.regRead_holds h _
    | with_reducible exact State.regWrite_holds h _ | with_reducible exact State.slotRead_holds h _
    | with_reducible exact State.logAckCmd_holds h _ | with_reducible exact State.logClear_holds h _
    | with_reducible exact State.ownerEnrol_holds h _ | with_reducible exact State.imageLoadBegin_holds h _
    | with_reducible exact State.imageData_holds h _ | with_reducible exact State.imageLoadEnd_holds h _
    | with_reducible exact State.imageVerify_holds h _ | with_reducible exact State.imageAbort_holds h _
    | with_reducible exact State.imageAdopt_holds h _ | with_reducible exact State.imageCommit_holds h _
    | with_reducible exact State.olcPrepare_holds h _ | with_reducible exact State.olcSwitch_holds h _
    | with_reducible exact State.olcAbortCmd_holds h _ | with_reducible exact State.forceSet_holds h _
    | with_reducible exact State.forceRelease_holds h _ | with_reducible exact State.barnCheckpoint_holds h _
    | with_reducible exact State.safeEnter_holds h _ | with_reducible exact State.safeClearCmd_holds h _
    | with_reducible exact State.ejectCmd_holds h _ | with_reducible exact State.timeSet_holds h _
    | with_reducible exact State.hartPass_holds h _ | with_reducible exact State.uslAckCmd_holds h _
    | with_reducible exact State.pairHandover_holds h _ | with_reducible exact State.pairSwaptest_holds h _
    | with_reducible exact State.pairClear_holds h _ | with_reducible exact State.pairSolo_holds h _
    | with_reducible exact State.brakeTest_holds h _ | with_reducible exact State.safetyUnlockCmd_holds h _
    | with_reducible exact State.soClearCmd_holds h _
    | (rename_i heq; exact State.ownerRelease_holds (hr.resolve_right fun e => e heq) h _)
    | exact State.request_holds h _ _ _ _ fun _ _ ht => refuse_holds ht _

theorem State.serve_holds (h : Holds q s) : ∀ r, (q.release = true ∨ r.cmd ≠ 0x11) → Holds q (s.serve r) := by
  intro r hr
  unfold State.serve
  split
  · refine { State.heard_holds h r.sid with waits := ?_ }
    rcases hr with hr | hr
    · exact .inl hr
    · refine h.waits.imp_right fun hw => ?_
      intro x hx
      rcases List.mem_append.mp hx with hx | hx
      · exact hw x hx
      · rw [List.mem_singleton.mp hx]; exact hr
  · exact State.runSmp_holds h _ hr

theorem State.serveNext_holds : ∀ n {s : State}, Holds q s → Holds q (State.serveNext n s) := by
  intro n
  induction n with
  | zero => intro s h; exact h
  | succ n ih =>
    intro s h
    unfold State.serveNext
    split
    · rename_i r rs hw
      split
      · exact h
      · have h1 : Holds q { s with waiting := rs } :=
          { h with waits := h.waits.imp_right fun hx x hm => hx x (by rw [hw]; exact List.mem_cons_of_mem _ hm) }
        exact ih (State.runSmp_holds h1 _ (h.waits.imp_right fun hx => hx r (by rw [hw]; exact List.mem_cons_self ..)))
    · exact h

theorem State.serveWaiting_holds (h : Holds q s) : Holds q (State.serveWaiting s) := State.serveNext_holds _ h

end Sys2Proof.Machine
end

