-- ==== Sys2Proof/Laws/KeptTick.lean ====
section
/-! SUPPORT. What the operations of Machine/Tick.lean keep. -/

namespace Sys2Proof.Machine

variable {q : Bounds} {s : State}

theorem Expiry.run_holds (h : Holds q s) : ∀ e, Holds q (Expiry.run e s) := by
  intro e
  cases e <;> unfold Expiry.run <;> first
    | with_reducible exact State.harvestEnd_holds h
    | with_reducible exact State.windowEnd_holds h
    | with_reducible exact State.rioSyncTimeout_holds h _
    | with_reducible exact State.rioHoldExpire_holds h _
    | with_reducible exact State.uslExpire_holds h _
    | with_reducible exact State.uslAckTimeout_holds h _
    | with_reducible exact State.olcDrain_holds h
    | with_reducible exact State.olcIdle_holds h
    | with_reducible exact State.domTimeout_holds h _
    | with_reducible exact State.closeSilent_holds h _
    | with_reducible exact State.laneDown_holds h _
    | with_reducible exact State.partnerSilent_holds h
    | with_reducible exact State.refereeAbsent_holds h
    | with_reducible exact State.ownerStuck_holds h
    | with_reducible exact State.selfElect_holds h
    | with_reducible exact State.loadTimeout_holds h
    | with_reducible exact State.ejectTimeout_holds h
    | with_reducible exact State.hartTimeout_holds h _
    | with_reducible exact State.hartStale_holds h _
    | with_reducible exact State.aoFrameTimeout_holds h _
    | with_reducible exact State.aoHoldExpire_holds h _
    | with_reducible exact State.announceTimeout_holds h _
    | with_reducible exact State.sessionIdle_holds h _
    | with_reducible exact State.gateExpire_holds h _
    | with_reducible exact State.unlockExpire_holds h _

theorem State.expire_holds (h : Holds q s) : ∀ x0, Holds q (State.expire x0 s) := by
  intro x0; unfold State.expire
  repeat' first
    | with_reducible assumption | with_reducible apply Expiry.run_holds | intro _
    | with_reducible refine Holds.step ?_ ?_
    | fail_if_no_progress with_reducible refine Holds.mk' ?_ rfl rfl rfl rfl rfl rfl rfl rfl rfl rfl

theorem State.runExpiring_holds (h : Holds q s) : Holds q (State.runExpiring s) := by
  unfold State.runExpiring
  repeat' first
    | with_reducible assumption | with_reducible apply finish_holds | with_reducible apply Expiry.run_holds
    | with_reducible apply Holds.foldl | intro _ | with_reducible refine Holds.step ?_ ?_
    | fail_if_no_progress with_reducible refine Holds.mk' ?_ rfl rfl rfl rfl rfl rfl rfl rfl rfl rfl

theorem State.loopParity_holds (h : Holds q s) : Holds q (State.loopParity s) := by
  unfold State.loopParity
  repeat' first
    | with_reducible assumption | with_reducible apply finish_holds
    | with_reducible apply State.checkParity_holds | intro _ | with_reducible refine Holds.step ?_ ?_

theorem State.endTick_holds (h : Holds q s) : Holds q (State.endTick s) := by
  unfold State.endTick
  repeat' first
    | with_reducible assumption | with_reducible apply State.runExpiring_holds
    | with_reducible apply State.loopRelatch_holds | with_reducible apply State.loopParity_holds
    | with_reducible apply State.fixViews_holds

theorem State.serveRest_holds (h : Holds q s) : Holds q (State.serveRest s) := by
  unfold State.serveRest
  repeat' first
    | with_reducible assumption | with_reducible apply finish_holds
    | with_reducible apply State.serveWaiting_holds | intro _ | with_reducible refine Holds.step ?_ ?_

theorem State.advance_holds (h : Holds q s) : ∀ dt, Holds { q with clock := q.clock + dt } (s.advance dt) := by
  intro dt
  have h1 : Holds q (({ s with out := [] } : State).serveRest) :=
    State.serveRest_holds (h.of_eq rfl rfl rfl rfl rfl rfl rfl rfl rfl rfl)
  unfold State.advance
  dsimp only
  split
  · rename_i h0; subst h0; exact h1
  · exact State.tickD7_holds (State.prpForget_holds (State.elapse_holds (State.endTick_holds h1) dt))

end Sys2Proof.Machine
end

