-- ==== Sys2Proof/Laws/KeptExec0.lean ====
section
/-! SUPPORT. Each command of this part answers a next state that keeps the bounds, its time added to the clock. -/

namespace Sys2Proof.Machine

variable {q : Bounds} {s : State}

theorem execBrakeOn_holds (h : Holds q s) : ∀ x0 x1 x2,
    ∃ t, execBrakeOn x0 x1 x2 s = .next t ∧ Holds { q with clock := q.clock + x0 } t := by
  intro x0 x1 x2
  have h1 := State.advance_holds h x0
  refine ⟨_, rfl, finish_holds ?_⟩
  repeat' first
    | with_reducible assumption | with_reducible apply State.setFsSq_holds
    | with_reducible apply State.brakeOn_holds

theorem execBrakeDemand_holds (h : Holds q s) : ∀ x0 x1 x2,
    ∃ t, execBrakeDemand x0 x1 x2 s = .next t ∧ Holds { q with clock := q.clock + x0 } t := by
  intro x0 x1 x2
  have h1 := State.advance_holds h x0
  refine ⟨_, rfl, finish_holds ?_⟩
  repeat' first | with_reducible assumption | with_reducible apply State.brakeDemandIn_holds

theorem execTestPulseStart_holds (h : Holds q s) : ∀ x0 x1,
    ∃ t, execTestPulseStart x0 x1 s = .next t ∧ Holds { q with clock := q.clock + x0 } t := by
  intro x0 x1
  have h1 := State.advance_holds h x0
  refine ⟨_, rfl, finish_holds ?_⟩
  repeat' first | with_reducible assumption | with_reducible apply State.brakePulseStart_holds

theorem execTestPulseCheck_holds (h : Holds q s) : ∀ x0 x1 x2,
    ∃ t, execTestPulseCheck x0 x1 x2 s = .next t ∧ Holds { q with clock := q.clock + x0 } t := by
  intro x0 x1 x2
  have h1 := State.advance_holds h x0
  refine ⟨_, rfl, finish_holds ?_⟩
  repeat' first
    | with_reducible assumption | with_reducible apply State.soFaultSwap_holds
    | with_reducible apply State.brakePulseCheck_holds | intro _

theorem execTestPulseEnd_holds (h : Holds q s) : ∀ x0 x1,
    ∃ t, execTestPulseEnd x0 x1 s = .next t ∧ Holds { q with clock := q.clock + x0 } t := by
  intro x0 x1
  have h1 := State.advance_holds h x0
  refine ⟨_, rfl, finish_holds ?_⟩
  repeat' first
    | with_reducible assumption | with_reducible apply State.soFaultSwap_holds
    | with_reducible apply State.brakePulseEnd_holds | intro _

theorem execTestPulseOverdue_holds (h : Holds q s) : ∀ x0 x1,
    ∃ t, execTestPulseOverdue x0 x1 s = .next t ∧ Holds { q with clock := q.clock + x0 } t := by
  intro x0 x1
  have h1 := State.advance_holds h x0
  refine ⟨_, rfl, finish_holds ?_⟩
  repeat' first
    | with_reducible assumption | with_reducible apply State.soFaultSwap_holds
    | with_reducible apply State.brakePulseOverdue_holds | intro _

theorem execBrakeChannelFault_holds (h : Holds q s) : ∀ x0 x1 x2 x3 x4 x5,
    ∃ t, execBrakeChannelFault x0 x1 x2 x3 x4 x5 s = .next t ∧ Holds { q with clock := q.clock + x0 } t := by
  intro x0 x1 x2 x3 x4 x5
  have h1 := State.advance_holds h x0
  refine ⟨_, rfl, finish_holds ?_⟩
  repeat' first
    | with_reducible assumption | with_reducible apply State.soFaultSwap_holds
    | with_reducible apply State.brakeMeasure_holds | intro _

theorem execBrakeTestPhaseEnd_holds (h : Holds q s) : ∀ x0 x1 x2,
    ∃ t, execBrakeTestPhaseEnd x0 x1 x2 s = .next t ∧ Holds { q with clock := q.clock + x0 } t := by
  intro x0 x1 x2
  have h1 := State.advance_holds h x0
  refine ⟨_, rfl, finish_holds ?_⟩
  repeat' first
    | with_reducible assumption | with_reducible apply State.soFaultSwap_holds
    | with_reducible apply State.testPhase_holds | with_reducible apply ok_holds | intro _

theorem execTestDue_holds (h : Holds q s) : ∀ x0 x1,
    ∃ t, execTestDue x0 x1 s = .next t ∧ Holds { q with clock := q.clock + x0 } t := by
  intro x0 x1
  have h1 := State.advance_holds h x0
  refine ⟨_, rfl, finish_holds ?_⟩
  repeat' first | with_reducible assumption | with_reducible apply State.testDue_holds

theorem execSafetyUnlockExpire_holds (h : Holds q s) : ∀ x0 x1,
    ∃ t, execSafetyUnlockExpire x0 x1 s = .next t ∧ Holds { q with clock := q.clock + x0 } t := by
  intro x0 x1
  exact ⟨_, rfl, finish_holds (State.expire_holds (State.advance_holds h x0) _)⟩

theorem execSafetyPwdLockoutEnd_holds (h : Holds q s) : ∀ x0,
    ∃ t, execSafetyPwdLockoutEnd x0 s = .next t ∧ Holds { q with clock := q.clock + x0 } t := by
  intro x0
  have h1 := State.advance_holds h x0
  refine ⟨_, rfl, finish_holds ?_⟩
  repeat' first | with_reducible assumption | with_reducible apply State.pwdLockEnd_holds

theorem execCanIntegrated_holds (h : Holds q s) : ∀ x0 x1,
    ∃ t, execCanIntegrated x0 x1 s = .next t ∧ Holds { q with clock := q.clock + x0 } t := by
  intro x0 x1
  have h1 := State.advance_holds h x0
  refine ⟨_, rfl, finish_holds ?_⟩
  repeat' first | with_reducible assumption | with_reducible apply State.canIntegrated_holds

theorem execCanArbitration_holds (h : Holds q s) : ∀ x0 x1,
    ∃ t, execCanArbitration x0 x1 s = .next t ∧ Holds { q with clock := q.clock + x0 } t := by
  intro x0 x1
  have h1 := State.advance_holds h x0
  refine ⟨_, rfl, finish_holds ?_⟩
  repeat' first | with_reducible assumption | with_reducible apply State.canArbitrate_holds

theorem execCanTxAttemptEnd_holds (h : Holds q s) : ∀ x0 x1 x2 x3 x4,
    ∃ t, execCanTxAttemptEnd x0 x1 x2 x3 x4 s = .next t ∧ Holds { q with clock := q.clock + x0 } t := by
  intro x0 x1 x2 x3 x4
  have h1 := State.advance_holds h x0
  refine ⟨_, rfl, finish_holds ?_⟩
  repeat' first | with_reducible assumption | with_reducible apply State.canAttemptEnd_holds

theorem execCanBusoffRecovered_holds (h : Holds q s) : ∀ x0 x1,
    ∃ t, execCanBusoffRecovered x0 x1 s = .next t ∧ Holds { q with clock := q.clock + x0 } t := by
  intro x0 x1
  have h1 := State.advance_holds h x0
  refine ⟨_, rfl, finish_holds ?_⟩
  repeat' first | with_reducible assumption | with_reducible apply State.canBack_holds

theorem execCanFrameReceived_holds (h : Holds q s) : ∀ x0 x1 x2,
    ∃ t, execCanFrameReceived x0 x1 x2 s = .next t ∧ Holds { q with clock := q.clock + x0 } t := by
  intro x0 x1 x2
  have h1 := State.advance_holds h x0
  refine ⟨_, rfl, finish_holds ?_⟩
  repeat' first | with_reducible assumption | with_reducible apply State.canReceive_holds

theorem execCanRioInputFrame_holds (h : Holds q s) : ∀ x0 x1 x2,
    ∃ t, execCanRioInputFrame x0 x1 x2 s = .next t ∧ Holds { q with clock := q.clock + x0 } t := by
  intro x0 x1 x2
  have h1 := State.advance_holds h x0
  refine ⟨_, rfl, finish_holds ?_⟩
  repeat' first | with_reducible assumption | with_reducible apply State.canReceive_holds

theorem execCanRioSyncReceived_holds (h : Holds q s) : ∀ x0 x1 x2,
    ∃ t, execCanRioSyncReceived x0 x1 x2 s = .next t ∧ Holds { q with clock := q.clock + x0 } t := by
  intro x0 x1 x2
  have h1 := State.advance_holds h x0
  refine ⟨_, rfl, finish_holds ?_⟩
  repeat' first | with_reducible assumption | with_reducible apply State.canReceive_holds

theorem execCanRioOutputReceived_holds (h : Holds q s) : ∀ x0 x1 x2,
    ∃ t, execCanRioOutputReceived x0 x1 x2 s = .next t ∧ Holds { q with clock := q.clock + x0 } t := by
  intro x0 x1 x2
  have h1 := State.advance_holds h x0
  refine ⟨_, rfl, finish_holds ?_⟩
  repeat' first | with_reducible assumption | with_reducible apply State.canReceive_holds

theorem execStationSyncTimeout_holds (h : Holds q s) : ∀ x0 x1,
    ∃ t, execStationSyncTimeout x0 x1 s = .next t ∧ Holds { q with clock := q.clock + x0 } t := by
  intro x0 x1
  exact ⟨_, rfl, finish_holds (State.expire_holds (State.advance_holds h x0) _)⟩

theorem execStationHoldExpire_holds (h : Holds q s) : ∀ x0 x1,
    ∃ t, execStationHoldExpire x0 x1 s = .next t ∧ Holds { q with clock := q.clock + x0 } t := by
  intro x0 x1
  exact ⟨_, rfl, finish_holds (State.expire_holds (State.advance_holds h x0) _)⟩

theorem execCanReceiveError_holds (h : Holds q s) : ∀ x0 x1 x2 x3,
    ∃ t, execCanReceiveError x0 x1 x2 x3 s = .next t ∧ Holds { q with clock := q.clock + x0 } t := by
  intro x0 x1 x2 x3
  have h1 := State.advance_holds h x0
  refine ⟨_, rfl, finish_holds ?_⟩
  repeat' first | with_reducible assumption | with_reducible apply State.canRecvError_holds

theorem execHarvest_holds (h : Holds q s) : ∀ x0,
    ∃ t, execHarvest x0 s = .next t ∧ Holds { q with clock := q.clock + x0 } t := by
  intro x0
  have h1 := State.advance_holds h x0
  refine ⟨_, rfl, finish_holds ?_⟩
  repeat' first | with_reducible assumption | with_reducible apply State.harvest_holds

theorem execEvaluationBegin_holds (h : Holds q s) : ∀ x0,
    ∃ t, execEvaluationBegin x0 s = .next t ∧ Holds { q with clock := q.clock + x0 } t := by
  intro x0
  have h1 := State.advance_holds h x0
  refine ⟨_, rfl, finish_holds ?_⟩
  repeat' first | with_reducible assumption | with_reducible apply State.evalBegin_holds

theorem execBlockEvaluate_holds (h : Holds q s) : ∀ x0 x1,
    ∃ t, execBlockEvaluate x0 x1 s = .next t ∧ Holds { q with clock := q.clock + x0 } t := by
  intro x0 x1
  have h1 := State.advance_holds h x0
  refine ⟨_, rfl, finish_holds ?_⟩
  repeat' first | with_reducible assumption | with_reducible apply State.blockEvaluate_holds

theorem execWindowEnd_holds (h : Holds q s) : ∀ x0,
    ∃ t, execWindowEnd x0 s = .next t ∧ Holds { q with clock := q.clock + x0 } t := by
  intro x0
  exact ⟨_, rfl, finish_holds (State.expire_holds (State.advance_holds h x0) _)⟩

theorem execDeliver_holds (h : Holds q s) : ∀ x0 x1,
    ∃ t, execDeliver x0 x1 s = .next t ∧ Holds { q with clock := q.clock + x0 } t := by
  intro x0 x1
  have h1 := State.advance_holds h x0
  refine ⟨_, rfl, finish_holds ?_⟩
  repeat' first | with_reducible assumption | with_reducible apply State.deliverNow_holds

theorem execCheckpointDeferEnd_holds (h : Holds q s) : ∀ x0,
    ∃ t, execCheckpointDeferEnd x0 s = .next t ∧ Holds { q with clock := q.clock + x0 } t := by
  intro x0
  have h1 := State.advance_holds h x0
  refine ⟨_, rfl, finish_holds ?_⟩
  repeat' first | with_reducible assumption | with_reducible apply State.checkpointDue_holds

theorem execBarnSaveDone_holds (h : Holds q s) : ∀ x0,
    ∃ t, execBarnSaveDone x0 s = .next t ∧ Holds { q with clock := q.clock + x0 } t := by
  intro x0
  have h1 := State.advance_holds h x0
  refine ⟨_, rfl, finish_holds ?_⟩
  repeat' first | with_reducible assumption | with_reducible apply State.saveDone_holds

theorem execSyncSend_holds (h : Holds q s) : ∀ x0 x1,
    ∃ t, execSyncSend x0 x1 s = .next t ∧ Holds { q with clock := q.clock + x0 } t := by
  intro x0 x1
  have h1 := State.advance_holds h x0
  refine ⟨_, rfl, finish_holds ?_⟩
  repeat' first
    | with_reducible assumption | with_reducible apply State.canSync_holds
    | with_reducible apply State.ethSync_holds | split

theorem execSignatureCompare_holds (h : Holds q s) : ∀ x0 x1,
    ∃ t, execSignatureCompare x0 x1 s = .next t ∧ Holds { q with clock := q.clock + x0 } t := by
  intro x0 x1
  have h1 := State.advance_holds h x0
  refine ⟨_, rfl, finish_holds ?_⟩
  repeat' first | with_reducible assumption | with_reducible apply State.seqFault_holds | split

theorem execOlcPrepared_holds (h : Holds q s) : ∀ x0,
    ∃ t, execOlcPrepared x0 s = .next t ∧ Holds { q with clock := q.clock + x0 } t := by
  intro x0
  have h1 := State.advance_holds h x0
  refine ⟨_, rfl, finish_holds ?_⟩
  repeat' first | with_reducible assumption | with_reducible apply State.olcLoaded_holds

theorem execOlcDrainLimit_holds (h : Holds q s) : ∀ x0,
    ∃ t, execOlcDrainLimit x0 s = .next t ∧ Holds { q with clock := q.clock + x0 } t := by
  intro x0
  exact ⟨_, rfl, finish_holds (State.expire_holds (State.advance_holds h x0) _)⟩

theorem execOlcPrepareTimeout_holds (h : Holds q s) : ∀ x0,
    ∃ t, execOlcPrepareTimeout x0 s = .next t ∧ Holds { q with clock := q.clock + x0 } t := by
  intro x0
  exact ⟨_, rfl, finish_holds (State.expire_holds (State.advance_holds h x0) _)⟩

theorem execSwitchNotice_holds (h : Holds q s) : ∀ x0 x1 x2,
    ∃ t, execSwitchNotice x0 x1 x2 s = .next t ∧ Holds { q with clock := q.clock + x0 } t := by
  intro x0 x1 x2
  have h1 := State.advance_holds h x0
  refine ⟨_, rfl, finish_holds ?_⟩
  repeat' first
    | with_reducible assumption | with_reducible apply State.linkIn_holds
    | with_reducible apply State.switchNotice_holds

theorem execClockCheck_holds (h : Holds q s) : ∀ x0 x1 x2,
    ∃ t, execClockCheck x0 x1 x2 s = .next t ∧ Holds { q with clock := q.clock + x0 } t := by
  intro x0 x1 x2
  have h1 := State.advance_holds h x0
  refine ⟨_, rfl, finish_holds ?_⟩
  repeat' first | with_reducible assumption | with_reducible apply State.clockCheck_holds

theorem execMgmtWatchdogExpire_holds (h : Holds q s) : ∀ x0,
    ∃ t, execMgmtWatchdogExpire x0 s = .next t ∧ Holds { q with clock := q.clock + x0 } t := by
  intro x0
  have h1 := State.advance_holds h x0
  refine ⟨_, rfl, finish_holds ?_⟩
  repeat' first | with_reducible assumption | with_reducible apply State.mgmtStall_holds

theorem execSafetySelftest_holds (h : Holds q s) : ∀ x0 x1,
    ∃ t, execSafetySelftest x0 x1 s = .next t ∧ Holds { q with clock := q.clock + x0 } t := by
  intro x0 x1
  have h1 := State.advance_holds h x0
  refine ⟨_, rfl, finish_holds ?_⟩
  repeat' first
    | with_reducible assumption | with_reducible apply ok_holds | with_reducible apply State.moduleFault_holds
    | split

theorem execCheckerTest_holds (h : Holds q s) : ∀ x0 x1,
    ∃ t, execCheckerTest x0 x1 s = .next t ∧ Holds { q with clock := q.clock + x0 } t := by
  intro x0 x1
  have h1 := State.advance_holds h x0
  refine ⟨_, rfl, finish_holds ?_⟩
  repeat' first
    | with_reducible assumption | with_reducible apply State.checkerTest_holds

theorem execScrubWord_holds (h : Holds q s) : ∀ x0 x1 x2 x3 x4,
    ∃ t, execScrubWord x0 x1 x2 x3 x4 s = .next t ∧ Holds { q with clock := q.clock + x0 } t := by
  intro x0 x1 x2 x3 x4
  have h1 := State.advance_holds h x0
  refine ⟨_, rfl, finish_holds ?_⟩
  repeat' first | with_reducible assumption | with_reducible apply State.scrubWord_holds

theorem execFunctionRung_holds (h : Holds q s) : ∀ x0 x1 x2,
    ∃ t, execFunctionRung x0 x1 x2 s = .next t ∧ Holds { q with clock := q.clock + x0 } t := by
  intro x0 x1 x2
  have h1 := State.advance_holds h x0
  refine ⟨_, rfl, finish_holds ?_⟩
  repeat' first | with_reducible assumption | with_reducible apply State.takeRung_holds

theorem execModuleRung_holds (h : Holds q s) : ∀ x0,
    ∃ t, execModuleRung x0 s = .next t ∧ Holds { q with clock := q.clock + x0 } t := by
  intro x0
  have h1 := State.advance_holds h x0
  refine ⟨_, rfl, finish_holds ?_⟩
  repeat' first | with_reducible assumption | with_reducible apply State.takeModuleRung_holds

theorem execLadderWindowExpire_holds (h : Holds q s) : ∀ x0 x1 x2,
    ∃ t, execLadderWindowExpire x0 x1 x2 s = .next t ∧ Holds { q with clock := q.clock + x0 } t := by
  intro x0 x1 x2
  have h1 := State.advance_holds h x0
  refine ⟨_, rfl, finish_holds ?_⟩
  repeat' first | with_reducible assumption | with_reducible apply State.ladderWindow_holds

theorem execResetRelease_holds (h : Holds q s) : ∀ x0 x1 x2 x3,
    ∃ t, execResetRelease x0 x1 x2 x3 s = .next t ∧ Holds { q with clock := q.clock + x0 } t := by
  intro x0 x1 x2 x3
  have h1 := State.advance_holds h x0
  refine ⟨_, rfl, finish_holds ?_⟩
  repeat' first | with_reducible assumption | with_reducible apply State.resetRelease_holds

theorem execPcycReqEnd_holds (h : Holds q s) : ∀ x0,
    ∃ t, execPcycReqEnd x0 s = .next t ∧ Holds { q with clock := q.clock + x0 } t := by
  intro x0
  have h1 := State.advance_holds h x0
  refine ⟨_, rfl, finish_holds ?_⟩
  repeat' first | with_reducible assumption | with_reducible apply State.pcycEnd_holds

theorem execPcycIgnored_holds (h : Holds q s) : ∀ x0,
    ∃ t, execPcycIgnored x0 s = .next t ∧ Holds { q with clock := q.clock + x0 } t := by
  intro x0
  have h1 := State.advance_holds h x0
  refine ⟨_, rfl, finish_holds ?_⟩
  repeat' first | with_reducible assumption | with_reducible apply State.pcycIgnored_holds

theorem execRecordWriteDone_holds (h : Holds q s) : ∀ x0,
    ∃ t, execRecordWriteDone x0 s = .next t ∧ Holds { q with clock := q.clock + x0 } t := by
  intro x0
  have h1 := State.advance_holds h x0
  refine ⟨_, rfl, finish_holds ?_⟩
  repeat' first | with_reducible assumption | with_reducible apply State.writeDone_holds

theorem execEthLinkChange_holds (h : Holds q s) : ∀ x0 x1 x2,
    ∃ t, execEthLinkChange x0 x1 x2 s = .next t ∧ Holds { q with clock := q.clock + x0 } t := by
  intro x0 x1 x2
  have h1 := State.advance_holds h x0
  refine ⟨_, rfl, finish_holds ?_⟩
  repeat' first | with_reducible assumption | with_reducible apply State.ethLink_holds

theorem execPrpSupervisionSend_holds (h : Holds q s) : ∀ x0,
    ∃ t, execPrpSupervisionSend x0 s = .next t ∧ Holds { q with clock := q.clock + x0 } t := by
  intro x0
  have h1 := State.advance_holds h x0
  refine ⟨_, rfl, finish_holds ?_⟩
  repeat' first | with_reducible assumption | with_reducible apply State.prpSupervise_holds

theorem execEthRioInputFrame_holds (h : Holds q s) : ∀ x0 x1 x2 x3,
    ∃ t, execEthRioInputFrame x0 x1 x2 x3 s = .next t ∧ Holds { q with clock := q.clock + x0 } t := by
  intro x0 x1 x2 x3
  have h1 := State.advance_holds h x0
  refine ⟨_, rfl, finish_holds ?_⟩
  repeat' first
    | with_reducible assumption | with_reducible apply State.ethIn_holds
    | with_reducible apply State.ethRioInput_holds | intro _

theorem execEthRioSyncReceived_holds (h : Holds q s) : ∀ x0 x1 x2 x3,
    ∃ t, execEthRioSyncReceived x0 x1 x2 x3 s = .next t ∧ Holds { q with clock := q.clock + x0 } t := by
  intro x0 x1 x2 x3
  have h1 := State.advance_holds h x0
  refine ⟨_, rfl, finish_holds ?_⟩
  repeat' first
    | with_reducible assumption | with_reducible apply State.ethIn_holds
    | with_reducible apply State.ethRioSync_holds | intro _

theorem execEthRioOutputReceived_holds (h : Holds q s) : ∀ x0 x1 x2 x3,
    ∃ t, execEthRioOutputReceived x0 x1 x2 x3 s = .next t ∧ Holds { q with clock := q.clock + x0 } t := by
  intro x0 x1 x2 x3
  have h1 := State.advance_holds h x0
  refine ⟨_, rfl, finish_holds ?_⟩
  repeat' first
    | with_reducible assumption | with_reducible apply State.ethIn_holds
    | with_reducible apply State.ethRioOutput_holds | intro _

theorem execEthStopReceived_holds (h : Holds q s) : ∀ x0 x1 x2 x3,
    ∃ t, execEthStopReceived x0 x1 x2 x3 s = .next t ∧ Holds { q with clock := q.clock + x0 } t := by
  intro x0 x1 x2 x3
  have h1 := State.advance_holds h x0
  refine ⟨_, rfl, finish_holds ?_⟩
  repeat' first
    | with_reducible assumption | with_reducible apply State.ethIn_holds
    | with_reducible apply State.ethStop_holds | intro _

theorem execPtpOffsetMeasured_holds (h : Holds q s) : ∀ x0 x1 x2 x3,
    ∃ t, execPtpOffsetMeasured x0 x1 x2 x3 s = .next t ∧ Holds { q with clock := q.clock + x0 } t := by
  intro x0 x1 x2 x3
  have h1 := State.advance_holds h x0
  refine ⟨_, rfl, finish_holds ?_⟩
  repeat' first | with_reducible assumption | with_reducible apply State.offsetMeasured_holds

theorem execPtpAnnounceTimeout_holds (h : Holds q s) : ∀ x0 x1,
    ∃ t, execPtpAnnounceTimeout x0 x1 s = .next t ∧ Holds { q with clock := q.clock + x0 } t := by
  intro x0 x1
  exact ⟨_, rfl, finish_holds (State.expire_holds (State.advance_holds h x0) _)⟩

theorem execPtpAnnounceReceived_holds (h : Holds q s) : ∀ x0 x1 x2,
    ∃ t, execPtpAnnounceReceived x0 x1 x2 s = .next t ∧ Holds { q with clock := q.clock + x0 } t := by
  intro x0 x1 x2
  have h1 := State.advance_holds h x0
  refine ⟨_, rfl, finish_holds ?_⟩
  repeat' first | with_reducible assumption | with_reducible apply State.announce_holds

theorem execRtcDiscipline_holds (h : Holds q s) : ∀ x0 x1,
    ∃ t, execRtcDiscipline x0 x1 s = .next t ∧ Holds { q with clock := q.clock + x0 } t := by
  intro x0 x1
  have h1 := State.advance_holds h x0
  refine ⟨_, rfl, finish_holds ?_⟩
  repeat' first | with_reducible assumption | with_reducible apply State.rtcDiscipline_holds

theorem execRtcWrite_holds (h : Holds q s) : ∀ x0,
    ∃ t, execRtcWrite x0 s = .next t ∧ Holds { q with clock := q.clock + x0 } t := by
  intro x0
  have h1 := State.advance_holds h x0
  refine ⟨_, rfl, finish_holds ?_⟩
  repeat' first | with_reducible assumption | with_reducible apply State.rtcWrite_holds

theorem execArpRequest_holds (h : Holds q s) : ∀ x0 x1 x2,
    ∃ t, execArpRequest x0 x1 x2 s = .next t ∧ Holds { q with clock := q.clock + x0 } t := by
  intro x0 x1 x2
  have h1 := State.advance_holds h x0
  refine ⟨_, rfl, finish_holds ?_⟩
  repeat' first | with_reducible assumption | with_reducible apply State.arpAnswer_holds

theorem execIcmpEchoRequest_holds (h : Holds q s) : ∀ x0 x1 x2,
    ∃ t, execIcmpEchoRequest x0 x1 x2 s = .next t ∧ Holds { q with clock := q.clock + x0 } t := by
  intro x0 x1 x2
  have h1 := State.advance_holds h x0
  refine ⟨_, rfl, finish_holds ?_⟩
  repeat' first | with_reducible assumption | with_reducible apply State.icmpAnswer_holds

theorem execAiScan_holds (h : Holds q s) : ∀ x0 x1 x2,
    ∃ t, execAiScan x0 x1 x2 s = .next t ∧ Holds { q with clock := q.clock + x0 } t := by
  intro x0 x1 x2
  have h1 := State.advance_holds h x0
  refine ⟨_, rfl, finish_holds ?_⟩
  repeat' first | with_reducible assumption | with_reducible apply State.aiScan_holds

end Sys2Proof.Machine
end

