-- ==== Sys2Proof/Laws/KeptExec1.lean ====
section
/-! SUPPORT. Each command of this part answers a next state that keeps the bounds, its time added to the clock. -/

namespace Sys2Proof.Machine

variable {q : Bounds} {s : State}

theorem execAiSampleCommit_holds (h : Holds q s) : ∀ x0 x1 x2 x3,
    ∃ t, execAiSampleCommit x0 x1 x2 x3 s = .next t ∧ Holds { q with clock := q.clock + x0 } t := by
  intro x0 x1 x2 x3
  have h1 := State.advance_holds h x0
  refine ⟨_, rfl, finish_holds ?_⟩
  repeat' first | with_reducible assumption | with_reducible apply State.aiCommit_holds

theorem execAiRefCheck_holds (h : Holds q s) : ∀ x0 x1 x2,
    ∃ t, execAiRefCheck x0 x1 x2 s = .next t ∧ Holds { q with clock := q.clock + x0 } t := by
  intro x0 x1 x2
  have h1 := State.advance_holds h x0
  refine ⟨_, rfl, finish_holds ?_⟩
  repeat' first | with_reducible assumption | with_reducible apply State.aiRefCheck_holds

theorem execHartTransactionStart_holds (h : Holds q s) : ∀ x0 x1,
    ∃ t, execHartTransactionStart x0 x1 s = .next t ∧ Holds { q with clock := q.clock + x0 } t := by
  intro x0 x1
  have h1 := State.advance_holds h x0
  refine ⟨_, rfl, finish_holds ?_⟩
  repeat' first | with_reducible assumption | with_reducible apply State.hartStart_holds

theorem execHartResponse_holds (h : Holds q s) : ∀ x0 x1 x2 x3 x4 x5,
    ∃ t, execHartResponse x0 x1 x2 x3 x4 x5 s = .next t ∧ Holds { q with clock := q.clock + x0 } t := by
  intro x0 x1 x2 x3 x4 x5
  have h1 := State.advance_holds h x0
  refine ⟨_, rfl, finish_holds ?_⟩
  repeat' first | with_reducible assumption | with_reducible apply State.hartResponse_holds

theorem execHartAttemptTimeout_holds (h : Holds q s) : ∀ x0 x1,
    ∃ t, execHartAttemptTimeout x0 x1 s = .next t ∧ Holds { q with clock := q.clock + x0 } t := by
  intro x0 x1
  exact ⟨_, rfl, finish_holds (State.expire_holds (State.advance_holds h x0) _)⟩

theorem execHartStale_holds (h : Holds q s) : ∀ x0 x1,
    ∃ t, execHartStale x0 x1 s = .next t ∧ Holds { q with clock := q.clock + x0 } t := by
  intro x0 x1
  exact ⟨_, rfl, finish_holds (State.expire_holds (State.advance_holds h x0) _)⟩

theorem execAoFrame_holds (h : Holds q s) : ∀ x0 x1,
    ∃ t, execAoFrame x0 x1 s = .next t ∧ Holds { q with clock := q.clock + x0 } t := by
  intro x0 x1
  have h1 := State.advance_holds h x0
  refine ⟨_, rfl, finish_holds ?_⟩
  repeat' first | with_reducible assumption | with_reducible apply State.aoFrame_holds

theorem execAoFrameTimeout_holds (h : Holds q s) : ∀ x0 x1,
    ∃ t, execAoFrameTimeout x0 x1 s = .next t ∧ Holds { q with clock := q.clock + x0 } t := by
  intro x0 x1
  exact ⟨_, rfl, finish_holds (State.expire_holds (State.advance_holds h x0) _)⟩

theorem execAoHoldExpire_holds (h : Holds q s) : ∀ x0 x1,
    ∃ t, execAoHoldExpire x0 x1 s = .next t ∧ Holds { q with clock := q.clock + x0 } t := by
  intro x0 x1
  exact ⟨_, rfl, finish_holds (State.expire_holds (State.advance_holds h x0) _)⟩

theorem execAoLoopPower_holds (h : Holds q s) : ∀ x0 x1,
    ∃ t, execAoLoopPower x0 x1 s = .next t ∧ Holds { q with clock := q.clock + x0 } t := by
  intro x0 x1
  have h1 := State.advance_holds h x0
  refine ⟨_, rfl, finish_holds ?_⟩
  repeat' first | with_reducible assumption | with_reducible apply State.aoPower_holds

theorem execAoMeasure_holds (h : Holds q s) : ∀ x0 x1 x2 x3 x4,
    ∃ t, execAoMeasure x0 x1 x2 x3 x4 s = .next t ∧ Holds { q with clock := q.clock + x0 } t := by
  intro x0 x1 x2 x3 x4
  have h1 := State.advance_holds h x0
  refine ⟨_, rfl, finish_holds ?_⟩
  repeat' first | with_reducible assumption | with_reducible apply State.aoMeasure_holds

theorem execAoCompliance_holds (h : Holds q s) : ∀ x0 x1 x2 x3,
    ∃ t, execAoCompliance x0 x1 x2 x3 s = .next t ∧ Holds { q with clock := q.clock + x0 } t := by
  intro x0 x1 x2 x3
  have h1 := State.advance_holds h x0
  refine ⟨_, rfl, finish_holds ?_⟩
  repeat' first | with_reducible assumption | with_reducible apply State.aoCompliance_holds

theorem execAoComplianceClear_holds (h : Holds q s) : ∀ x0 x1,
    ∃ t, execAoComplianceClear x0 x1 s = .next t ∧ Holds { q with clock := q.clock + x0 } t := by
  intro x0 x1
  have h1 := State.advance_holds h x0
  refine ⟨_, rfl, finish_holds ?_⟩
  repeat' first | with_reducible assumption | with_reducible apply State.aoComplianceClear_holds

theorem execAoDeviation_holds (h : Holds q s) : ∀ x0 x1,
    ∃ t, execAoDeviation x0 x1 s = .next t ∧ Holds { q with clock := q.clock + x0 } t := by
  intro x0 x1
  have h1 := State.advance_holds h x0
  refine ⟨_, rfl, finish_holds ?_⟩
  repeat' first | with_reducible assumption | with_reducible apply State.aoDeviation_holds

theorem execAoChannelNoFrame_holds (h : Holds q s) : ∀ x0 x1,
    ∃ t, execAoChannelNoFrame x0 x1 s = .next t ∧ Holds { q with clock := q.clock + x0 } t := by
  intro x0 x1
  have h1 := State.advance_holds h x0
  refine ⟨_, rfl, finish_holds ?_⟩
  repeat' first | with_reducible assumption | with_reducible apply State.aoNoFrame_holds

theorem execAoClockStep_holds (h : Holds q s) : ∀ x0 x1 x2,
    ∃ t, execAoClockStep x0 x1 x2 s = .next t ∧ Holds { q with clock := q.clock + x0 } t := by
  intro x0 x1 x2
  have h1 := State.advance_holds h x0
  refine ⟨_, rfl, finish_holds ?_⟩
  repeat' first | with_reducible assumption | with_reducible apply State.aoClockStep_holds

theorem execAoTestWorkDone_holds (h : Holds q s) : ∀ x0 x1 x2,
    ∃ t, execAoTestWorkDone x0 x1 x2 s = .next t ∧ Holds { q with clock := q.clock + x0 } t := by
  intro x0 x1 x2
  have h1 := State.advance_holds h x0
  refine ⟨_, rfl, finish_holds ?_⟩
  repeat' first
    | with_reducible assumption | with_reducible apply State.aoTestDone_holds

theorem execDioInputAccept_holds (h : Holds q s) : ∀ x0 x1 x2 x3,
    ∃ t, execDioInputAccept x0 x1 x2 x3 s = .next t ∧ Holds { q with clock := q.clock + x0 } t := by
  intro x0 x1 x2 x3
  have h1 := State.advance_holds h x0
  refine ⟨_, rfl, finish_holds ?_⟩
  repeat' first | with_reducible assumption | with_reducible apply State.dioAccept_holds

theorem execDioSupplyLoss_holds (h : Holds q s) : ∀ x0 x1,
    ∃ t, execDioSupplyLoss x0 x1 s = .next t ∧ Holds { q with clock := q.clock + x0 } t := by
  intro x0 x1
  have h1 := State.advance_holds h x0
  refine ⟨_, rfl, finish_holds ?_⟩
  repeat' first | with_reducible assumption | with_reducible apply State.dioSupply_holds

theorem execDioSupplyReturn_holds (h : Holds q s) : ∀ x0 x1,
    ∃ t, execDioSupplyReturn x0 x1 s = .next t ∧ Holds { q with clock := q.clock + x0 } t := by
  intro x0 x1
  have h1 := State.advance_holds h x0
  refine ⟨_, rfl, finish_holds ?_⟩
  repeat' first | with_reducible assumption | with_reducible apply State.dioSupply_holds

theorem execDioOverload_holds (h : Holds q s) : ∀ x0 x1,
    ∃ t, execDioOverload x0 x1 s = .next t ∧ Holds { q with clock := q.clock + x0 } t := by
  intro x0 x1
  have h1 := State.advance_holds h x0
  refine ⟨_, rfl, finish_holds ?_⟩
  repeat' first | with_reducible assumption | with_reducible apply State.dioFail_holds

theorem execDioMismatch_holds (h : Holds q s) : ∀ x0 x1,
    ∃ t, execDioMismatch x0 x1 s = .next t ∧ Holds { q with clock := q.clock + x0 } t := by
  intro x0 x1
  have h1 := State.advance_holds h x0
  refine ⟨_, rfl, finish_holds ?_⟩
  repeat' first | with_reducible assumption | with_reducible apply State.dioFail_holds

theorem execDioOpenload_holds (h : Holds q s) : ∀ x0 x1,
    ∃ t, execDioOpenload x0 x1 s = .next t ∧ Holds { q with clock := q.clock + x0 } t := by
  intro x0 x1
  have h1 := State.advance_holds h x0
  refine ⟨_, rfl, finish_holds ?_⟩
  repeat' first | with_reducible assumption | with_reducible apply State.dioFail_holds

theorem execLoopTimeTrigger_holds (h : Holds q s) : ∀ x0 x1,
    ∃ t, execLoopTimeTrigger x0 x1 s = .next t ∧ Holds { q with clock := q.clock + x0 } t := by
  intro x0 x1
  have h1 := State.advance_holds h x0
  refine ⟨_, rfl, finish_holds ?_⟩
  repeat' first | with_reducible assumption | with_reducible apply State.loopTime_holds

theorem execLoopSampleBegin_holds (h : Holds q s) : ∀ x0,
    ∃ t, execLoopSampleBegin x0 s = .next t ∧ Holds { q with clock := q.clock + x0 } t := by
  intro x0
  have h1 := State.advance_holds h x0
  refine ⟨_, rfl, finish_holds ?_⟩
  repeat' first | with_reducible assumption | with_reducible apply State.loopBegin_holds

theorem execLoopSampleCommit_holds (h : Holds q s) : ∀ x0 x1,
    ∃ t, execLoopSampleCommit x0 x1 s = .next t ∧ Holds { q with clock := q.clock + x0 } t := by
  intro x0 x1
  have h1 := State.advance_holds h x0
  refine ⟨_, rfl, finish_holds ?_⟩
  repeat' first | with_reducible assumption | with_reducible apply State.loopEnd_holds

theorem execLoopSampleMissed_holds (h : Holds q s) : ∀ x0 x1,
    ∃ t, execLoopSampleMissed x0 x1 s = .next t ∧ Holds { q with clock := q.clock + x0 } t := by
  intro x0 x1
  have h1 := State.advance_holds h x0
  refine ⟨_, rfl, finish_holds ?_⟩
  repeat' first | with_reducible assumption | with_reducible apply State.loopMissed_holds

theorem execToothEdge_holds (h : Holds q s) : ∀ x0 x1 x2 x3,
    ∃ t, execToothEdge x0 x1 x2 x3 s = .next t ∧ Holds { q with clock := q.clock + x0 } t := by
  intro x0 x1 x2 x3
  have h1 := State.advance_holds h x0
  refine ⟨_, rfl, finish_holds ?_⟩
  repeat' first | with_reducible assumption | with_reducible apply State.toothEdge_holds

theorem execCamMarkerEdge_holds (h : Holds q s) : ∀ x0 x1,
    ∃ t, execCamMarkerEdge x0 x1 s = .next t ∧ Holds { q with clock := q.clock + x0 } t := by
  intro x0 x1
  have h1 := State.advance_holds h x0
  refine ⟨_, rfl, finish_holds ?_⟩
  repeat' first | with_reducible assumption | with_reducible apply State.camEdge_holds

theorem execQuadRefEdge_holds (h : Holds q s) : ∀ x0 x1,
    ∃ t, execQuadRefEdge x0 x1 s = .next t ∧ Holds { q with clock := q.clock + x0 } t := by
  intro x0 x1
  have h1 := State.advance_holds h x0
  refine ⟨_, rfl, finish_holds ?_⟩
  repeat' first | with_reducible assumption | with_reducible apply State.quadRef_holds

theorem execBvPhaseUpdate_holds (h : Holds q s) : ∀ x0 x1 x2 x3 x4 x5 x6,
    ∃ t, execBvPhaseUpdate x0 x1 x2 x3 x4 x5 x6 s = .next t ∧ Holds { q with clock := q.clock + x0 } t := by
  intro x0 x1 x2 x3 x4 x5 x6
  have h1 := State.advance_holds h x0
  refine ⟨_, rfl, finish_holds ?_⟩
  repeat' first | with_reducible assumption | with_reducible apply State.phaseUpdate_holds

theorem execDomainTimeout_holds (h : Holds q s) : ∀ x0 x1,
    ∃ t, execDomainTimeout x0 x1 s = .next t ∧ Holds { q with clock := q.clock + x0 } t := by
  intro x0 x1
  exact ⟨_, rfl, finish_holds (State.expire_holds (State.advance_holds h x0) _)⟩

theorem execDirRefChange_holds (h : Holds q s) : ∀ x0 x1,
    ∃ t, execDirRefChange x0 x1 s = .next t ∧ Holds { q with clock := q.clock + x0 } t := by
  intro x0 x1
  have h1 := State.advance_holds h x0
  refine ⟨_, rfl, finish_holds ?_⟩
  repeat' first | with_reducible assumption | with_reducible apply State.dirChange_holds

theorem execMilestoneFire_holds (h : Holds q s) : ∀ x0 x1,
    ∃ t, execMilestoneFire x0 x1 s = .next t ∧ Holds { q with clock := q.clock + x0 } t := by
  intro x0 x1
  have h1 := State.advance_holds h x0
  refine ⟨_, rfl, finish_holds ?_⟩
  repeat' first | with_reducible assumption | with_reducible apply State.msCrossing_holds

theorem execPulseEnd_holds (h : Holds q s) : ∀ x0 x1,
    ∃ t, execPulseEnd x0 x1 s = .next t ∧ Holds { q with clock := q.clock + x0 } t := by
  intro x0 x1
  have h1 := State.advance_holds h x0
  refine ⟨_, rfl, finish_holds ?_⟩
  repeat' first | with_reducible assumption | with_reducible apply State.pulseEnd_holds

theorem execSyncCloseFeedback_holds (h : Holds q s) : ∀ x0 x1,
    ∃ t, execSyncCloseFeedback x0 x1 s = .next t ∧ Holds { q with clock := q.clock + x0 } t := by
  intro x0 x1
  have h1 := State.advance_holds h x0
  refine ⟨_, rfl, finish_holds ?_⟩
  repeat' first | with_reducible assumption | with_reducible apply State.closeFeedback_holds

theorem execSyncNoFeedback_holds (h : Holds q s) : ∀ x0 x1,
    ∃ t, execSyncNoFeedback x0 x1 s = .next t ∧ Holds { q with clock := q.clock + x0 } t := by
  intro x0 x1
  exact ⟨_, rfl, finish_holds (State.expire_holds (State.advance_holds h x0) _)⟩

theorem execTrackerCompare_holds (h : Holds q s) : ∀ x0 x1,
    ∃ t, execTrackerCompare x0 x1 s = .next t ∧ Holds { q with clock := q.clock + x0 } t := by
  intro x0 x1
  have h1 := State.advance_holds h x0
  refine ⟨_, rfl, finish_holds ?_⟩
  repeat' first | with_reducible assumption | with_reducible apply State.trackers_holds

theorem execHelloSend_holds (h : Holds q s) : ∀ x0,
    ∃ t, execHelloSend x0 s = .next t ∧ Holds { q with clock := q.clock + x0 } t := by
  intro x0
  have h1 := State.advance_holds h x0
  refine ⟨_, rfl, finish_holds ?_⟩
  repeat' first | with_reducible assumption | with_reducible apply State.sendHello_holds

theorem execHelloReceived_holds (h : Holds q s) : ∀ x0 x1 x2,
    ∃ t, execHelloReceived x0 x1 x2 s = .next t ∧ Holds { q with clock := q.clock + x0 } t := by
  intro x0 x1 x2
  have h1 := State.advance_holds h x0
  refine ⟨_, rfl, finish_holds ?_⟩
  repeat' first | with_reducible assumption | with_reducible apply State.helloIn_holds

theorem execLaneDown_holds (h : Holds q s) : ∀ x0 x1,
    ∃ t, execLaneDown x0 x1 s = .next t ∧ Holds { q with clock := q.clock + x0 } t := by
  intro x0 x1
  exact ⟨_, rfl, finish_holds (State.expire_holds (State.advance_holds h x0) _)⟩

theorem execPartnerSilent_holds (h : Holds q s) : ∀ x0,
    ∃ t, execPartnerSilent x0 s = .next t ∧ Holds { q with clock := q.clock + x0 } t := by
  intro x0
  exact ⟨_, rfl, finish_holds (State.expire_holds (State.advance_holds h x0) _)⟩

theorem execPairFormed_holds (h : Holds q s) : ∀ x0,
    ∃ t, execPairFormed x0 s = .next t ∧ Holds { q with clock := q.clock + x0 } t := by
  intro x0
  have h1 := State.advance_holds h x0
  refine ⟨_, rfl, finish_holds ?_⟩
  repeat' first | with_reducible assumption | with_reducible apply State.pairFormed_holds

theorem execTakeover_holds (h : Holds q s) : ∀ x0,
    ∃ t, execTakeover x0 s = .next t ∧ Holds { q with clock := q.clock + x0 } t := by
  intro x0
  have h1 := State.advance_holds h x0
  refine ⟨_, rfl, finish_holds ?_⟩
  repeat' first | with_reducible assumption | with_reducible apply State.takeOver_holds

theorem execSingleActivate_holds (h : Holds q s) : ∀ x0,
    ∃ t, execSingleActivate x0 s = .next t ∧ Holds { q with clock := q.clock + x0 } t := by
  intro x0
  have h1 := State.advance_holds h x0
  refine ⟨_, rfl, finish_holds ?_⟩
  repeat' first | with_reducible assumption | with_reducible apply State.singleActivate_holds

theorem execOwnerStuck_holds (h : Holds q s) : ∀ x0,
    ∃ t, execOwnerStuck x0 s = .next t ∧ Holds { q with clock := q.clock + x0 } t := by
  intro x0
  exact ⟨_, rfl, finish_holds (State.expire_holds (State.advance_holds h x0) _)⟩

theorem execOwnerMismatch_holds (h : Holds q s) : ∀ x0,
    ∃ t, execOwnerMismatch x0 s = .next t ∧ Holds { q with clock := q.clock + x0 } t := by
  intro x0
  have h1 := State.advance_holds h x0
  refine ⟨_, rfl, finish_holds ?_⟩
  repeat' first | with_reducible assumption | with_reducible apply State.ownerMismatch_holds

theorem execPairSelfElect_holds (h : Holds q s) : ∀ x0,
    ∃ t, execPairSelfElect x0 s = .next t ∧ Holds { q with clock := q.clock + x0 } t := by
  intro x0
  exact ⟨_, rfl, finish_holds (State.expire_holds (State.advance_holds h x0) _)⟩

theorem execMirrorFrameReceived_holds (h : Holds q s) : ∀ x0 x1 x2,
    ∃ t, execMirrorFrameReceived x0 x1 x2 s = .next t ∧ Holds { q with clock := q.clock + x0 } t := by
  intro x0 x1 x2
  have h1 := State.advance_holds h x0
  refine ⟨_, rfl, finish_holds ?_⟩
  repeat' first | with_reducible assumption | with_reducible apply State.mirrorIn_holds

theorem execShadowSend_holds (h : Holds q s) : ∀ x0,
    ∃ t, execShadowSend x0 s = .next t ∧ Holds { q with clock := q.clock + x0 } t := by
  intro x0
  have h1 := State.advance_holds h x0
  refine ⟨_, rfl, finish_holds ?_⟩
  repeat' first | with_reducible assumption | with_reducible apply State.sendShadows_holds

theorem execShadowReceived_holds (h : Holds q s) : ∀ x0 x1 x2 x3,
    ∃ t, execShadowReceived x0 x1 x2 x3 s = .next t ∧ Holds { q with clock := q.clock + x0 } t := by
  intro x0 x1 x2 x3
  have h1 := State.advance_holds h x0
  refine ⟨_, rfl, finish_holds ?_⟩
  repeat' first
    | with_reducible assumption | with_reducible apply State.shadowIn_holds

theorem execMirrorSnapshot_holds (h : Holds q s) : ∀ x0,
    ∃ t, execMirrorSnapshot x0 s = .next t ∧ Holds { q with clock := q.clock + x0 } t := by
  intro x0
  have h1 := State.advance_holds h x0
  refine ⟨_, rfl, finish_holds ?_⟩
  repeat' first | with_reducible assumption | with_reducible apply State.mirrorSnapshot_holds

theorem execOfferNotice_holds (h : Holds q s) : ∀ x0 x1 x2 x3,
    ∃ t, execOfferNotice x0 x1 x2 x3 s = .next t ∧ Holds { q with clock := q.clock + x0 } t := by
  intro x0 x1 x2 x3
  have h1 := State.advance_holds h x0
  refine ⟨_, rfl, finish_holds ?_⟩
  repeat' first
    | with_reducible assumption | with_reducible apply State.linkIn_holds
    | with_reducible apply State.offer_holds

theorem execAcceptNotice_holds (h : Holds q s) : ∀ x0 x1,
    ∃ t, execAcceptNotice x0 x1 s = .next t ∧ Holds { q with clock := q.clock + x0 } t := by
  intro x0 x1
  have h1 := State.advance_holds h x0
  refine ⟨_, rfl, finish_holds ?_⟩
  repeat' first
    | with_reducible assumption | with_reducible apply State.linkIn_holds
    | with_reducible apply State.accept_holds

theorem execDeclineNotice_holds (h : Holds q s) : ∀ x0 x1,
    ∃ t, execDeclineNotice x0 x1 s = .next t ∧ Holds { q with clock := q.clock + x0 } t := by
  intro x0 x1
  have h1 := State.advance_holds h x0
  refine ⟨_, rfl, finish_holds ?_⟩
  repeat' first
    | with_reducible assumption | with_reducible apply State.linkIn_holds
    | with_reducible apply State.decline_holds

theorem execRelinquishNotice_holds (h : Holds q s) : ∀ x0 x1 x2,
    ∃ t, execRelinquishNotice x0 x1 x2 s = .next t ∧ Holds { q with clock := q.clock + x0 } t := by
  intro x0 x1 x2
  have h1 := State.advance_holds h x0
  refine ⟨_, rfl, finish_holds ?_⟩
  repeat' first
    | with_reducible assumption | with_reducible apply State.linkIn_holds
    | with_reducible apply State.relinquished_holds

theorem execSafeNotice_holds (h : Holds q s) : ∀ x0 x1,
    ∃ t, execSafeNotice x0 x1 s = .next t ∧ Holds { q with clock := q.clock + x0 } t := by
  intro x0 x1
  have h1 := State.advance_holds h x0
  refine ⟨_, rfl, finish_holds ?_⟩
  repeat' first
    | with_reducible assumption | with_reducible apply State.linkIn_holds
    | with_reducible apply State.safeNotice_holds

theorem execHandoverTx_holds (h : Holds q s) : ∀ x0,
    ∃ t, execHandoverTx x0 s = .next t ∧ Holds { q with clock := q.clock + x0 } t := by
  intro x0
  have h1 := State.advance_holds h x0
  refine ⟨_, rfl, finish_holds ?_⟩
  repeat' first | with_reducible assumption | with_reducible apply State.handoverTx_holds

theorem execRevertStart_holds (h : Holds q s) : ∀ x0,
    ∃ t, execRevertStart x0 s = .next t ∧ Holds { q with clock := q.clock + x0 } t := by
  intro x0
  have h1 := State.advance_holds h x0
  refine ⟨_, rfl, finish_holds ?_⟩
  repeat' first | with_reducible assumption | with_reducible apply State.revertStart_holds

theorem execSwapTestStart_holds (h : Holds q s) : ∀ x0,
    ∃ t, execSwapTestStart x0 s = .next t ∧ Holds { q with clock := q.clock + x0 } t := by
  intro x0
  have h1 := State.advance_holds h x0
  refine ⟨_, rfl, finish_holds ?_⟩
  repeat' first | with_reducible assumption | with_reducible apply State.swapTimer_holds

theorem execSwapDwellEnd_holds (h : Holds q s) : ∀ x0,
    ∃ t, execSwapDwellEnd x0 s = .next t ∧ Holds { q with clock := q.clock + x0 } t := by
  intro x0
  have h1 := State.advance_holds h x0
  refine ⟨_, rfl, finish_holds ?_⟩
  repeat' first | with_reducible assumption | with_reducible apply State.swapDwellEnd_holds

end Sys2Proof.Machine
end

