-- ==== Sys2Proof/Laws/KeptExec2.lean ====
section
/-! SUPPORT. Each command of this part answers a next state that keeps the bounds, its time added to the clock. -/

namespace Sys2Proof.Machine

variable {q : Bounds} {s : State}

theorem execImgreq_holds (h : Holds q s) : ∀ x0 x1,
    ∃ t, execImgreq x0 x1 s = .next t ∧ Holds { q with clock := q.clock + x0 } t := by
  intro x0 x1
  have h1 := State.advance_holds h x0
  refine ⟨_, rfl, finish_holds ?_⟩
  repeat' first
    | with_reducible assumption | with_reducible apply State.linkIn_holds
    | with_reducible apply State.imgReq_holds

theorem execImgdata_holds (h : Holds q s) : ∀ x0 x1 x2 x3,
    ∃ t, execImgdata x0 x1 x2 x3 s = .next t ∧ Holds { q with clock := q.clock + x0 } t := by
  intro x0 x1 x2 x3
  have h1 := State.advance_holds h x0
  refine ⟨_, rfl, finish_holds ?_⟩
  repeat' first
    | with_reducible assumption | with_reducible apply State.linkIn_holds
    | with_reducible apply State.imgData_holds

theorem execRoundStart_holds (h : Holds q s) : ∀ x0,
    ∃ t, execRoundStart x0 s = .next t ∧ Holds { q with clock := q.clock + x0 } t := by
  intro x0
  have h1 := State.advance_holds h x0
  refine ⟨_, rfl, finish_holds ?_⟩
  repeat' first | with_reducible assumption | with_reducible apply State.roundStart_holds

theorem execStatusSend_holds (h : Holds q s) : ∀ x0,
    ∃ t, execStatusSend x0 s = .next t ∧ Holds { q with clock := q.clock + x0 } t := by
  intro x0
  have h1 := State.advance_holds h x0
  refine ⟨_, rfl, finish_holds ?_⟩
  repeat' first | with_reducible assumption | with_reducible apply State.sendStatus_holds

theorem execStatusReceived_holds (h : Holds q s) : ∀ x0 x1 x2,
    ∃ t, execStatusReceived x0 x1 x2 s = .next t ∧ Holds { q with clock := q.clock + x0 } t := by
  intro x0 x1 x2
  have h1 := State.advance_holds h x0
  refine ⟨_, rfl, finish_holds ?_⟩
  repeat' first | with_reducible assumption | with_reducible apply State.statusIn_holds

theorem execRoundReceived_holds (h : Holds q s) : ∀ x0 x1,
    ∃ t, execRoundReceived x0 x1 s = .next t ∧ Holds { q with clock := q.clock + x0 } t := by
  intro x0 x1
  have h1 := State.advance_holds h x0
  refine ⟨_, rfl, finish_holds ?_⟩
  repeat' first | with_reducible assumption | with_reducible apply State.roundIn_holds

theorem execRefereeAbsent_holds (h : Holds q s) : ∀ x0,
    ∃ t, execRefereeAbsent x0 s = .next t ∧ Holds { q with clock := q.clock + x0 } t := by
  intro x0
  exact ⟨_, rfl, finish_holds (State.expire_holds (State.advance_holds h x0) _)⟩

theorem execMateClose_holds (h : Holds q s) : ∀ x0,
    ∃ t, execMateClose x0 s = .next t ∧ Holds { q with clock := q.clock + x0 } t := by
  intro x0
  have h1 := State.advance_holds h x0
  refine ⟨_, rfl, finish_holds ?_⟩
  repeat' first | with_reducible assumption | with_reducible apply State.mateClose_holds

theorem execMateContactOpen_holds (h : Holds q s) : ∀ x0 x1,
    ∃ t, execMateContactOpen x0 x1 s = .next t ∧ Holds { q with clock := q.clock + x0 } t := by
  intro x0 x1
  have h1 := State.advance_holds h x0
  refine ⟨_, rfl, finish_holds ?_⟩
  repeat' first | with_reducible assumption | with_reducible apply State.mateOpen_holds

theorem execPresenceAccepted_holds (h : Holds q s) : ∀ x0,
    ∃ t, execPresenceAccepted x0 s = .next t ∧ Holds { q with clock := q.clock + x0 } t := by
  intro x0
  have h1 := State.advance_holds h x0
  refine ⟨_, rfl, finish_holds ?_⟩
  repeat' first | with_reducible assumption | with_reducible apply State.presence_holds

theorem execPorRelease_holds (h : Holds q s) : ∀ x0 x1 x2 x3,
    ∃ t, execPorRelease x0 x1 x2 x3 s = .next t ∧ Holds { q with clock := q.clock + x0 } t := by
  intro x0 x1 x2 x3
  have h1 := State.advance_holds h x0
  refine ⟨_, rfl, finish_holds ?_⟩
  repeat' first | with_reducible assumption | with_reducible apply State.porRelease_holds

theorem execLampTestEnd_holds (h : Holds q s) : ∀ x0,
    ∃ t, execLampTestEnd x0 s = .next t ∧ Holds { q with clock := q.clock + x0 } t := by
  intro x0
  have h1 := State.advance_holds h x0
  refine ⟨_, rfl, finish_holds ?_⟩
  repeat' first | with_reducible assumption | with_reducible apply State.lampEnd_holds

theorem execFeedOkChange_holds (h : Holds q s) : ∀ x0 x1 x2,
    ∃ t, execFeedOkChange x0 x1 x2 s = .next t ∧ Holds { q with clock := q.clock + x0 } t := by
  intro x0 x1 x2
  have h1 := State.advance_holds h x0
  refine ⟨_, rfl, finish_holds ?_⟩
  repeat' first | with_reducible assumption | with_reducible apply State.feedOk_holds

theorem execFeedLost_holds (h : Holds q s) : ∀ x0 x1,
    ∃ t, execFeedLost x0 x1 s = .next t ∧ Holds { q with clock := q.clock + x0 } t := by
  intro x0 x1
  have h1 := State.advance_holds h x0
  refine ⟨_, rfl, finish_holds ?_⟩
  repeat' first | with_reducible assumption | with_reducible apply State.feedLost_holds

theorem execPowerFail_holds (h : Holds q s) : ∀ x0 x1,
    ∃ t, execPowerFail x0 x1 s = .next t ∧ Holds { q with clock := q.clock + x0 } t := by
  intro x0 x1
  have h1 := State.advance_holds h x0
  refine ⟨_, rfl, finish_holds ?_⟩
  repeat' first | with_reducible assumption | with_reducible apply State.powerFail_holds

theorem execPowerFailReset_holds (h : Holds q s) : ∀ x0,
    ∃ t, execPowerFailReset x0 s = .next t ∧ Holds { q with clock := q.clock + x0 } t := by
  intro x0
  have h1 := State.advance_holds h x0
  refine ⟨_, rfl, finish_holds ?_⟩
  repeat' first | with_reducible assumption | with_reducible apply State.powerFailReset_holds

theorem execPowerReturn_holds (h : Holds q s) : ∀ x0,
    ∃ t, execPowerReturn x0 s = .next t ∧ Holds { q with clock := q.clock + x0 } t := by
  intro x0
  have h1 := State.advance_holds h x0
  refine ⟨_, rfl, finish_holds ?_⟩
  repeat' first | with_reducible assumption | with_reducible apply State.powerReturn_holds

theorem execBackupBrownout_holds (h : Holds q s) : ∀ x0,
    ∃ t, execBackupBrownout x0 s = .next t ∧ Holds { q with clock := q.clock + x0 } t := by
  intro x0
  have h1 := State.advance_holds h x0
  refine ⟨_, rfl, finish_holds ?_⟩
  repeat' first | with_reducible assumption | with_reducible apply State.brownout_holds

theorem execKeyAccept_holds (h : Holds q s) : ∀ x0 x1 x2,
    ∃ t, execKeyAccept x0 x1 x2 s = .next t ∧ Holds { q with clock := q.clock + x0 } t := by
  intro x0 x1 x2
  have h1 := State.advance_holds h x0
  refine ⟨_, rfl, finish_holds ?_⟩
  repeat' first | with_reducible assumption | with_reducible apply State.keyAccept_holds

theorem execKeyFault_holds (h : Holds q s) : ∀ x0 x1,
    ∃ t, execKeyFault x0 x1 s = .next t ∧ Holds { q with clock := q.clock + x0 } t := by
  intro x0 x1
  have h1 := State.advance_holds h x0
  refine ⟨_, rfl, finish_holds ?_⟩
  repeat' first | with_reducible assumption | with_reducible apply State.keyFail_holds

theorem execEjectButton_holds (h : Holds q s) : ∀ x0 x1,
    ∃ t, execEjectButton x0 x1 s = .next t ∧ Holds { q with clock := q.clock + x0 } t := by
  intro x0 x1
  have h1 := State.advance_holds h x0
  refine ⟨_, rfl, finish_holds ?_⟩
  repeat' first | with_reducible assumption | with_reducible apply State.ejectRequest_holds | split

theorem execEjectPrepared_holds (h : Holds q s) : ∀ x0,
    ∃ t, execEjectPrepared x0 s = .next t ∧ Holds { q with clock := q.clock + x0 } t := by
  intro x0
  have h1 := State.advance_holds h x0
  refine ⟨_, rfl, finish_holds ?_⟩
  repeat' first | with_reducible assumption | with_reducible apply State.ejectPrepared_holds

theorem execEjectTimeout_holds (h : Holds q s) : ∀ x0,
    ∃ t, execEjectTimeout x0 s = .next t ∧ Holds { q with clock := q.clock + x0 } t := by
  intro x0
  exact ⟨_, rfl, finish_holds (State.expire_holds (State.advance_holds h x0) _)⟩

theorem execRegisterWrite_holds (h : Holds q s) : ∀ x0 x1 x2 x3 x4,
    ∃ t, execRegisterWrite x0 x1 x2 x3 x4 s = .next t ∧ Holds { q with clock := q.clock + x0 } t := by
  intro x0 x1 x2 x3 x4
  have h1 := State.advance_holds h x0
  refine ⟨_, rfl, finish_holds ?_⟩
  repeat' first | with_reducible assumption | with_reducible apply State.regWriteBy_holds

theorem execReg64LowRead_holds (h : Holds q s) : ∀ x0 x1 x2,
    ∃ t, execReg64LowRead x0 x1 x2 s = .next t ∧ Holds { q with clock := q.clock + x0 } t := by
  intro x0 x1 x2
  have h1 := State.advance_holds h x0
  refine ⟨_, rfl, finish_holds ?_⟩
  repeat' first | with_reducible assumption | with_reducible apply State.regReadBy_holds

theorem execReg64LowWrite_holds (h : Holds q s) : ∀ x0 x1 x2 x3,
    ∃ t, execReg64LowWrite x0 x1 x2 x3 s = .next t ∧ Holds { q with clock := q.clock + x0 } t := by
  intro x0 x1 x2 x3
  have h1 := State.advance_holds h x0
  refine ⟨_, rfl, finish_holds ?_⟩
  repeat' first | with_reducible assumption | with_reducible apply State.regWriteBy_holds

theorem execReg64HighWrite_holds (h : Holds q s) : ∀ x0 x1 x2 x3,
    ∃ t, execReg64HighWrite x0 x1 x2 x3 s = .next t ∧ Holds { q with clock := q.clock + x0 } t := by
  intro x0 x1 x2 x3
  have h1 := State.advance_holds h x0
  refine ⟨_, rfl, finish_holds ?_⟩
  repeat' first | with_reducible assumption | with_reducible apply State.regWriteBy_holds

theorem execTollgateWrite_holds (h : Holds q s) : ∀ x0 x1 x2,
    ∃ t, execTollgateWrite x0 x1 x2 s = .next t ∧ Holds { q with clock := q.clock + x0 } t := by
  intro x0 x1 x2
  have h1 := State.advance_holds h x0
  refine ⟨_, rfl, finish_holds ?_⟩
  repeat' first | with_reducible assumption | with_reducible apply State.regWriteBy_holds

theorem execTollgateExpire_holds (h : Holds q s) : ∀ x0 x1,
    ∃ t, execTollgateExpire x0 x1 s = .next t ∧ Holds { q with clock := q.clock + x0 } t := by
  intro x0 x1
  exact ⟨_, rfl, finish_holds (State.expire_holds (State.advance_holds h x0) _)⟩

theorem execTollgateLockoutEnd_holds (h : Holds q s) : ∀ x0 x1,
    ∃ t, execTollgateLockoutEnd x0 x1 s = .next t ∧ Holds { q with clock := q.clock + x0 } t := by
  intro x0 x1
  have h1 := State.advance_holds h x0
  refine ⟨_, rfl, finish_holds ?_⟩
  repeat' first | with_reducible assumption | with_reducible apply State.lockoutEnd_holds

theorem execAccerrClrcnt_holds (h : Holds q s) : ∀ x0 x1 x2,
    ∃ t, execAccerrClrcnt x0 x1 x2 s = .next t ∧ Holds { q with clock := q.clock + x0 } t := by
  intro x0 x1 x2
  have h1 := State.advance_holds h x0
  refine ⟨_, rfl, finish_holds ?_⟩
  repeat' first | with_reducible assumption | with_reducible apply State.regWriteBy_holds

theorem execCfgParityFail_holds (h : Holds q s) : ∀ x0 x1,
    ∃ t, execCfgParityFail x0 x1 s = .next t ∧ Holds { q with clock := q.clock + x0 } t := by
  intro x0 x1
  have h1 := State.advance_holds h x0
  refine ⟨_, rfl, finish_holds ?_⟩
  repeat' first | with_reducible assumption | with_reducible apply State.parityFail_holds

theorem execLogLostClr_holds (h : Holds q s) : ∀ x0 x1,
    ∃ t, execLogLostClr x0 x1 s = .next t ∧ Holds { q with clock := q.clock + x0 } t := by
  intro x0 x1
  have h1 := State.advance_holds h x0
  refine ⟨_, rfl, finish_holds ?_⟩
  repeat' first | with_reducible assumption | with_reducible apply State.regWriteBy_holds

theorem execLogPeakClr_holds (h : Holds q s) : ∀ x0 x1,
    ∃ t, execLogPeakClr x0 x1 s = .next t ∧ Holds { q with clock := q.clock + x0 } t := by
  intro x0 x1
  have h1 := State.advance_holds h x0
  refine ⟨_, rfl, finish_holds ?_⟩
  repeat' first | with_reducible assumption | with_reducible apply State.regWriteBy_holds

theorem execLogRdNum_holds (h : Holds q s) : ∀ x0 x1 x2,
    ∃ t, execLogRdNum x0 x1 x2 s = .next t ∧ Holds { q with clock := q.clock + x0 } t := by
  intro x0 x1 x2
  have h1 := State.advance_holds h x0
  refine ⟨_, rfl, finish_holds ?_⟩
  repeat' first | with_reducible assumption | with_reducible apply State.regWriteBy_holds

theorem execPairMcntClr_holds (h : Holds q s) : ∀ x0 x1,
    ∃ t, execPairMcntClr x0 x1 s = .next t ∧ Holds { q with clock := q.clock + x0 } t := by
  intro x0 x1
  have h1 := State.advance_holds h x0
  refine ⟨_, rfl, finish_holds ?_⟩
  repeat' first | with_reducible assumption | with_reducible apply State.regWriteBy_holds

theorem execSeqLstatClr_holds (h : Holds q s) : ∀ x0 x1 x2,
    ∃ t, execSeqLstatClr x0 x1 x2 s = .next t ∧ Holds { q with clock := q.clock + x0 } t := by
  intro x0 x1 x2
  have h1 := State.advance_holds h x0
  refine ⟨_, rfl, finish_holds ?_⟩
  repeat' first | with_reducible assumption | with_reducible apply State.fieldWrite_holds

theorem execImgSlotIdx_holds (h : Holds q s) : ∀ x0 x1 x2,
    ∃ t, execImgSlotIdx x0 x1 x2 s = .next t ∧ Holds { q with clock := q.clock + x0 } t := by
  intro x0 x1 x2
  have h1 := State.advance_holds h x0
  refine ⟨_, rfl, finish_holds ?_⟩
  repeat' first | with_reducible assumption | with_reducible apply State.regWriteBy_holds

theorem execImgInstIdx_holds (h : Holds q s) : ∀ x0 x1 x2,
    ∃ t, execImgInstIdx x0 x1 x2 s = .next t ∧ Holds { q with clock := q.clock + x0 } t := by
  intro x0 x1 x2
  have h1 := State.advance_holds h x0
  refine ⟨_, rfl, finish_holds ?_⟩
  repeat' first | with_reducible assumption | with_reducible apply State.regWriteBy_holds

theorem execImgFindId_holds (h : Holds q s) : ∀ x0 x1 x2,
    ∃ t, execImgFindId x0 x1 x2 s = .next t ∧ Holds { q with clock := q.clock + x0 } t := by
  intro x0 x1 x2
  have h1 := State.advance_holds h x0
  refine ⟨_, rfl, finish_holds ?_⟩
  repeat' first | with_reducible assumption | with_reducible apply State.regWriteBy_holds

theorem execMsSlotIdx_holds (h : Holds q s) : ∀ x0 x1 x2,
    ∃ t, execMsSlotIdx x0 x1 x2 s = .next t ∧ Holds { q with clock := q.clock + x0 } t := by
  intro x0 x1 x2
  have h1 := State.advance_holds h x0
  refine ⟨_, rfl, finish_holds ?_⟩
  repeat' first | with_reducible assumption | with_reducible apply State.regWriteBy_holds

theorem execMsSlotCommit_holds (h : Holds q s) : ∀ x0 x1 x2,
    ∃ t, execMsSlotCommit x0 x1 x2 s = .next t ∧ Holds { q with clock := q.clock + x0 } t := by
  intro x0 x1 x2
  have h1 := State.advance_holds h x0
  refine ⟨_, rfl, finish_holds ?_⟩
  repeat' first | with_reducible assumption | with_reducible apply State.regWriteBy_holds

theorem execLoopCoefA_holds (h : Holds q s) : ∀ x0 x1 x2 x3,
    ∃ t, execLoopCoefA x0 x1 x2 x3 s = .next t ∧ Holds { q with clock := q.clock + x0 } t := by
  intro x0 x1 x2 x3
  have h1 := State.advance_holds h x0
  refine ⟨_, rfl, finish_holds ?_⟩
  repeat' first | with_reducible assumption | with_reducible apply State.fieldWrite_holds

theorem execLoopSwap_holds (h : Holds q s) : ∀ x0 x1 x2 x3,
    ∃ t, execLoopSwap x0 x1 x2 x3 s = .next t ∧ Holds { q with clock := q.clock + x0 } t := by
  intro x0 x1 x2 x3
  have h1 := State.advance_holds h x0
  refine ⟨_, rfl, finish_holds ?_⟩
  repeat' first | with_reducible assumption | with_reducible apply State.fieldWrite_holds

theorem execLoopSupack_holds (h : Holds q s) : ∀ x0 x1 x2 x3,
    ∃ t, execLoopSupack x0 x1 x2 x3 s = .next t ∧ Holds { q with clock := q.clock + x0 } t := by
  intro x0 x1 x2 x3
  have h1 := State.advance_holds h x0
  refine ⟨_, rfl, finish_holds ?_⟩
  repeat' first | with_reducible assumption | with_reducible apply State.fieldWrite_holds

theorem execLoopCntClr_holds (h : Holds q s) : ∀ x0 x1 x2,
    ∃ t, execLoopCntClr x0 x1 x2 s = .next t ∧ Holds { q with clock := q.clock + x0 } t := by
  intro x0 x1 x2
  have h1 := State.advance_holds h x0
  refine ⟨_, rfl, finish_holds ?_⟩
  repeat' first | with_reducible assumption | with_reducible apply State.fieldWrite_holds

theorem execSlvWinSel_holds (h : Holds q s) : ∀ x0 x1 x2,
    ∃ t, execSlvWinSel x0 x1 x2 s = .next t ∧ Holds { q with clock := q.clock + x0 } t := by
  intro x0 x1 x2
  have h1 := State.advance_holds h x0
  refine ⟨_, rfl, finish_holds ?_⟩
  repeat' first | with_reducible assumption | with_reducible apply State.regWriteBy_holds

theorem execSlvPcntClr_holds (h : Holds q s) : ∀ x0 x1 x2,
    ∃ t, execSlvPcntClr x0 x1 x2 s = .next t ∧ Holds { q with clock := q.clock + x0 } t := by
  intro x0 x1 x2
  have h1 := State.advance_holds h x0
  refine ⟨_, rfl, finish_holds ?_⟩
  repeat' first | with_reducible assumption | with_reducible apply State.fieldWrite_holds

theorem execCanRxPop_holds (h : Holds q s) : ∀ x0 x1 x2 x3,
    ∃ t, execCanRxPop x0 x1 x2 x3 s = .next t ∧ Holds { q with clock := q.clock + x0 } t := by
  intro x0 x1 x2 x3
  have h1 := State.advance_holds h x0
  refine ⟨_, rfl, finish_holds ?_⟩
  repeat' first | with_reducible assumption | with_reducible apply State.fieldWrite_holds

theorem execCanTxReq_holds (h : Holds q s) : ∀ x0 x1 x2,
    ∃ t, execCanTxReq x0 x1 x2 s = .next t ∧ Holds { q with clock := q.clock + x0 } t := by
  intro x0 x1 x2
  have h1 := State.advance_holds h x0
  refine ⟨_, rfl, finish_holds ?_⟩
  repeat' first | with_reducible assumption | with_reducible apply State.fieldWrite_holds

theorem execCanTxCancel_holds (h : Holds q s) : ∀ x0 x1 x2,
    ∃ t, execCanTxCancel x0 x1 x2 s = .next t ∧ Holds { q with clock := q.clock + x0 } t := by
  intro x0 x1 x2
  have h1 := State.advance_holds h x0
  refine ⟨_, rfl, finish_holds ?_⟩
  repeat' first | with_reducible assumption | with_reducible apply State.fieldWrite_holds

theorem execCanCntClr_holds (h : Holds q s) : ∀ x0 x1 x2,
    ∃ t, execCanCntClr x0 x1 x2 s = .next t ∧ Holds { q with clock := q.clock + x0 } t := by
  intro x0 x1 x2
  have h1 := State.advance_holds h x0
  refine ⟨_, rfl, finish_holds ?_⟩
  repeat' first | with_reducible assumption | with_reducible apply State.fieldWrite_holds

theorem execCanCnt2Clr_holds (h : Holds q s) : ∀ x0 x1 x2,
    ∃ t, execCanCnt2Clr x0 x1 x2 s = .next t ∧ Holds { q with clock := q.clock + x0 } t := by
  intro x0 x1 x2
  have h1 := State.advance_holds h x0
  refine ⟨_, rfl, finish_holds ?_⟩
  repeat' first | with_reducible assumption | with_reducible apply State.fieldWrite_holds

theorem execAiChCntClr_holds (h : Holds q s) : ∀ x0 x1 x2,
    ∃ t, execAiChCntClr x0 x1 x2 s = .next t ∧ Holds { q with clock := q.clock + x0 } t := by
  intro x0 x1 x2
  have h1 := State.advance_holds h x0
  refine ⟨_, rfl, finish_holds ?_⟩
  repeat' first | with_reducible assumption | with_reducible apply State.fieldWrite_holds

theorem execAoTest_holds (h : Holds q s) : ∀ x0 x1 x2,
    ∃ t, execAoTest x0 x1 x2 s = .next t ∧ Holds { q with clock := q.clock + x0 } t := by
  intro x0 x1 x2
  have h1 := State.advance_holds h x0
  refine ⟨_, rfl, finish_holds ?_⟩
  repeat' first | with_reducible assumption | with_reducible apply State.fieldWrite_holds

theorem execSoBcntClr_holds (h : Holds q s) : ∀ x0 x1 x2,
    ∃ t, execSoBcntClr x0 x1 x2 s = .next t ∧ Holds { q with clock := q.clock + x0 } t := by
  intro x0 x1 x2
  have h1 := State.advance_holds h x0
  refine ⟨_, rfl, finish_holds ?_⟩
  repeat' first | with_reducible assumption | with_reducible apply State.fieldWrite_holds

theorem execSoLogIdx_holds (h : Holds q s) : ∀ x0 x1 x2,
    ∃ t, execSoLogIdx x0 x1 x2 s = .next t ∧ Holds { q with clock := q.clock + x0 } t := by
  intro x0 x1 x2
  have h1 := State.advance_holds h x0
  refine ⟨_, rfl, finish_holds ?_⟩
  repeat' first | with_reducible assumption | with_reducible apply State.regWriteBy_holds

theorem execEthRioClr_holds (h : Holds q s) : ∀ x0 x1,
    ∃ t, execEthRioClr x0 x1 s = .next t ∧ Holds { q with clock := q.clock + x0 } t := by
  intro x0 x1
  have h1 := State.advance_holds h x0
  refine ⟨_, rfl, finish_holds ?_⟩
  repeat' first | with_reducible assumption | with_reducible apply State.regWriteBy_holds

theorem execUslCctlAck_holds (h : Holds q s) : ∀ x0 x1 x2,
    ∃ t, execUslCctlAck x0 x1 x2 s = .next t ∧ Holds { q with clock := q.clock + x0 } t := by
  intro x0 x1 x2
  have h1 := State.advance_holds h x0
  refine ⟨_, rfl, finish_holds ?_⟩
  repeat' first | with_reducible assumption | with_reducible apply State.fieldWrite_holds

theorem execUslCcntClr_holds (h : Holds q s) : ∀ x0 x1 x2,
    ∃ t, execUslCcntClr x0 x1 x2 s = .next t ∧ Holds { q with clock := q.clock + x0 } t := by
  intro x0 x1 x2
  have h1 := State.advance_holds h x0
  refine ⟨_, rfl, finish_holds ?_⟩
  repeat' first | with_reducible assumption | with_reducible apply State.fieldWrite_holds

theorem execDiagRecoverUnit_holds (h : Holds q s) : ∀ x0 x1 x2 x3,
    ∃ t, execDiagRecoverUnit x0 x1 x2 x3 s = .next t ∧ Holds { q with clock := q.clock + x0 } t := by
  intro x0 x1 x2 x3
  have h1 := State.advance_holds h x0
  refine ⟨_, rfl, finish_holds ?_⟩
  repeat' first | with_reducible assumption | with_reducible apply State.regWriteBy_holds

end Sys2Proof.Machine
end

