-- ==== Sys2Proof/Laws/KeptExec3.lean ====
section
/-! SUPPORT. Each command of this part answers a next state that keeps the bounds, its time added to the clock. -/

namespace Sys2Proof.Machine

variable {q : Bounds} {s : State}

theorem execDiagRecoverModule_holds (h : Holds q s) : ∀ x0 x1,
    ∃ t, execDiagRecoverModule x0 x1 s = .next t ∧ Holds { q with clock := q.clock + x0 } t := by
  intro x0 x1
  have h1 := State.advance_holds h x0
  refine ⟨_, rfl, finish_holds ?_⟩
  repeat' first | with_reducible assumption | with_reducible apply State.regWriteBy_holds

theorem execDiagFcntClr_holds (h : Holds q s) : ∀ x0 x1 x2,
    ∃ t, execDiagFcntClr x0 x1 x2 s = .next t ∧ Holds { q with clock := q.clock + x0 } t := by
  intro x0 x1 x2
  have h1 := State.advance_holds h x0
  refine ⟨_, rfl, finish_holds ?_⟩
  repeat' first | with_reducible assumption | with_reducible apply State.fieldWrite_holds

theorem execDiagMemClr_holds (h : Holds q s) : ∀ x0 x1,
    ∃ t, execDiagMemClr x0 x1 s = .next t ∧ Holds { q with clock := q.clock + x0 } t := by
  intro x0 x1
  have h1 := State.advance_holds h x0
  refine ⟨_, rfl, finish_holds ?_⟩
  repeat' first | with_reducible assumption | with_reducible apply State.regWriteBy_holds

theorem execAssemblyBegin_holds (h : Holds q s) : ∀ x0,
    ∃ t, execAssemblyBegin x0 s = .next t ∧ Holds { q with clock := q.clock + x0 } t := by
  intro x0
  have h1 := State.advance_holds h x0
  refine ⟨_, rfl, finish_holds ?_⟩
  repeat' first | with_reducible assumption | with_reducible apply State.asmBegin_holds

theorem execAssemblyEnd_holds (h : Holds q s) : ∀ x0,
    ∃ t, execAssemblyEnd x0 s = .next t ∧ Holds { q with clock := q.clock + x0 } t := by
  intro x0
  have h1 := State.advance_holds h x0
  refine ⟨_, rfl, finish_holds ?_⟩
  repeat' first | with_reducible assumption | with_reducible apply State.asmEnd_holds

theorem execSolveBegin_holds (h : Holds q s) : ∀ x0,
    ∃ t, execSolveBegin x0 s = .next t ∧ Holds { q with clock := q.clock + x0 } t := by
  intro x0
  have h1 := State.advance_holds h x0
  refine ⟨_, rfl, finish_holds ?_⟩
  repeat' first | with_reducible assumption | with_reducible apply State.solveBegin_holds

theorem execSolveHandover_holds (h : Holds q s) : ∀ x0 x1,
    ∃ t, execSolveHandover x0 x1 s = .next t ∧ Holds { q with clock := q.clock + x0 } t := by
  intro x0 x1
  have h1 := State.advance_holds h x0
  refine ⟨_, rfl, finish_holds ?_⟩
  repeat' first | with_reducible assumption | with_reducible apply State.solveEnd_holds

theorem execResidualCheck_holds (h : Holds q s) : ∀ x0,
    ∃ t, execResidualCheck x0 s = .next t ∧ Holds { q with clock := q.clock + x0 } t := by
  intro x0
  have h1 := State.advance_holds h x0
  refine ⟨_, rfl, finish_holds ?_⟩
  repeat' first
    | with_reducible assumption | with_reducible apply State.residualCheck_holds
    | with_reducible apply State.slvAccepted_holds

theorem execSmpHandshake_holds (h : Holds q s) : ∀ x0 x1 x2 x3 x4 x5 x6 x7 x8,
    ∃ t, execSmpHandshake x0 x1 x2 x3 x4 x5 x6 x7 x8 s = .next t ∧ Holds { q with clock := q.clock + x0 } t := by
  intro x0 x1 x2 x3 x4 x5 x6 x7 x8
  have h1 := State.advance_holds h x0
  refine ⟨_, rfl, finish_holds ?_⟩
  repeat' first | with_reducible assumption | with_reducible apply State.handshake_holds

theorem execSessionIdleTimeout_holds (h : Holds q s) : ∀ x0 x1,
    ∃ t, execSessionIdleTimeout x0 x1 s = .next t ∧ Holds { q with clock := q.clock + x0 } t := by
  intro x0 x1
  exact ⟨_, rfl, finish_holds (State.expire_holds (State.advance_holds h x0) _)⟩

theorem execDtlsClose_holds (h : Holds q s) : ∀ x0 x1,
    ∃ t, execDtlsClose x0 x1 s = .next t ∧ Holds { q with clock := q.clock + x0 } t := by
  intro x0 x1
  have h1 := State.advance_holds h x0
  refine ⟨_, rfl, finish_holds ?_⟩
  repeat' first | with_reducible assumption | with_reducible apply State.closeSession_holds | split

theorem execUnknownCmd_holds (h : Holds q s) : ∀ x0 x1 x2 x3 x4, (q.release = true ∨ x3 ≠ 0x11) →
    ∃ t, execUnknownCmd x0 x1 x2 x3 x4 s = .next t ∧ Holds { q with clock := q.clock + x0 } t := by
  intro x0 x1 x2 x3 x4 hr
  exact ⟨_, rfl, finish_holds (State.serve_holds (State.advance_holds h x0) _ hr)⟩

theorem execIdentChallenge_holds (h : Holds q s) : ∀ x0 x1 x2 x3,
    ∃ t, execIdentChallenge x0 x1 x2 x3 s = .next t ∧ Holds { q with clock := q.clock + x0 } t := by
  intro x0 x1 x2 x3
  exact ⟨_, rfl, finish_holds (State.serve_holds (State.advance_holds h x0) _ (.inr (by simp)))⟩

theorem execStatusRead_holds (h : Holds q s) : ∀ x0 x1 x2 x3,
    ∃ t, execStatusRead x0 x1 x2 x3 s = .next t ∧ Holds { q with clock := q.clock + x0 } t := by
  intro x0 x1 x2 x3
  exact ⟨_, rfl, finish_holds (State.serve_holds (State.advance_holds h x0) _ (.inr (by simp)))⟩

theorem execLogRead_holds (h : Holds q s) : ∀ x0 x1 x2 x3,
    ∃ t, execLogRead x0 x1 x2 x3 s = .next t ∧ Holds { q with clock := q.clock + x0 } t := by
  intro x0 x1 x2 x3
  exact ⟨_, rfl, finish_holds (State.serve_holds (State.advance_holds h x0) _ (.inr (by simp)))⟩

theorem execRegRead_holds (h : Holds q s) : ∀ x0 x1 x2 x3,
    ∃ t, execRegRead x0 x1 x2 x3 s = .next t ∧ Holds { q with clock := q.clock + x0 } t := by
  intro x0 x1 x2 x3
  exact ⟨_, rfl, finish_holds (State.serve_holds (State.advance_holds h x0) _ (.inr (by simp)))⟩

theorem execRegWrite_holds (h : Holds q s) : ∀ x0 x1 x2 x3,
    ∃ t, execRegWrite x0 x1 x2 x3 s = .next t ∧ Holds { q with clock := q.clock + x0 } t := by
  intro x0 x1 x2 x3
  exact ⟨_, rfl, finish_holds (State.serve_holds (State.advance_holds h x0) _ (.inr (by simp)))⟩

theorem execSlotRead_holds (h : Holds q s) : ∀ x0 x1 x2 x3,
    ∃ t, execSlotRead x0 x1 x2 x3 s = .next t ∧ Holds { q with clock := q.clock + x0 } t := by
  intro x0 x1 x2 x3
  exact ⟨_, rfl, finish_holds (State.serve_holds (State.advance_holds h x0) _ (.inr (by simp)))⟩

theorem execLogAck_holds (h : Holds q s) : ∀ x0 x1 x2 x3,
    ∃ t, execLogAck x0 x1 x2 x3 s = .next t ∧ Holds { q with clock := q.clock + x0 } t := by
  intro x0 x1 x2 x3
  exact ⟨_, rfl, finish_holds (State.serve_holds (State.advance_holds h x0) _ (.inr (by simp)))⟩

theorem execLogClear_holds (h : Holds q s) : ∀ x0 x1 x2 x3,
    ∃ t, execLogClear x0 x1 x2 x3 s = .next t ∧ Holds { q with clock := q.clock + x0 } t := by
  intro x0 x1 x2 x3
  exact ⟨_, rfl, finish_holds (State.serve_holds (State.advance_holds h x0) _ (.inr (by simp)))⟩

theorem execOwnerEnrol_holds (h : Holds q s) : ∀ x0 x1 x2 x3,
    ∃ t, execOwnerEnrol x0 x1 x2 x3 s = .next t ∧ Holds { q with clock := q.clock + x0 } t := by
  intro x0 x1 x2 x3
  exact ⟨_, rfl, finish_holds (State.serve_holds (State.advance_holds h x0) _ (.inr (by simp)))⟩

theorem execOwnerRelease_holds (hr : q.release = true) (h : Holds q s) : ∀ x0 x1 x2 x3,
    ∃ t, execOwnerRelease x0 x1 x2 x3 s = .next t ∧ Holds { q with clock := q.clock + x0 } t := by
  intro x0 x1 x2 x3
  exact ⟨_, rfl, finish_holds (State.serve_holds (State.advance_holds h x0) _ (.inl hr))⟩

theorem execImageLoadBegin_holds (h : Holds q s) : ∀ x0 x1 x2 x3,
    ∃ t, execImageLoadBegin x0 x1 x2 x3 s = .next t ∧ Holds { q with clock := q.clock + x0 } t := by
  intro x0 x1 x2 x3
  exact ⟨_, rfl, finish_holds (State.serve_holds (State.advance_holds h x0) _ (.inr (by simp)))⟩

theorem execImageData_holds (h : Holds q s) : ∀ x0 x1 x2 x3,
    ∃ t, execImageData x0 x1 x2 x3 s = .next t ∧ Holds { q with clock := q.clock + x0 } t := by
  intro x0 x1 x2 x3
  exact ⟨_, rfl, finish_holds (State.serve_holds (State.advance_holds h x0) _ (.inr (by simp)))⟩

theorem execImageLoadEnd_holds (h : Holds q s) : ∀ x0 x1 x2 x3,
    ∃ t, execImageLoadEnd x0 x1 x2 x3 s = .next t ∧ Holds { q with clock := q.clock + x0 } t := by
  intro x0 x1 x2 x3
  exact ⟨_, rfl, finish_holds (State.serve_holds (State.advance_holds h x0) _ (.inr (by simp)))⟩

theorem execImageVerify_holds (h : Holds q s) : ∀ x0 x1 x2 x3,
    ∃ t, execImageVerify x0 x1 x2 x3 s = .next t ∧ Holds { q with clock := q.clock + x0 } t := by
  intro x0 x1 x2 x3
  exact ⟨_, rfl, finish_holds (State.serve_holds (State.advance_holds h x0) _ (.inr (by simp)))⟩

theorem execImageAbort_holds (h : Holds q s) : ∀ x0 x1 x2 x3,
    ∃ t, execImageAbort x0 x1 x2 x3 s = .next t ∧ Holds { q with clock := q.clock + x0 } t := by
  intro x0 x1 x2 x3
  exact ⟨_, rfl, finish_holds (State.serve_holds (State.advance_holds h x0) _ (.inr (by simp)))⟩

theorem execImageAdopt_holds (h : Holds q s) : ∀ x0 x1 x2 x3 x4 x5 x6,
    ∃ t, execImageAdopt x0 x1 x2 x3 x4 x5 x6 s = .next t ∧ Holds { q with clock := q.clock + x0 } t := by
  intro x0 x1 x2 x3 x4 x5 x6
  exact ⟨_, rfl, finish_holds (State.serve_holds (State.advance_holds h x0) _ (.inr (by simp)))⟩

theorem execImageCommit_holds (h : Holds q s) : ∀ x0 x1 x2 x3,
    ∃ t, execImageCommit x0 x1 x2 x3 s = .next t ∧ Holds { q with clock := q.clock + x0 } t := by
  intro x0 x1 x2 x3
  exact ⟨_, rfl, finish_holds (State.serve_holds (State.advance_holds h x0) _ (.inr (by simp)))⟩

theorem execOlcPrepare_holds (h : Holds q s) : ∀ x0 x1 x2 x3,
    ∃ t, execOlcPrepare x0 x1 x2 x3 s = .next t ∧ Holds { q with clock := q.clock + x0 } t := by
  intro x0 x1 x2 x3
  exact ⟨_, rfl, finish_holds (State.serve_holds (State.advance_holds h x0) _ (.inr (by simp)))⟩

theorem execOlcSwitch_holds (h : Holds q s) : ∀ x0 x1 x2 x3,
    ∃ t, execOlcSwitch x0 x1 x2 x3 s = .next t ∧ Holds { q with clock := q.clock + x0 } t := by
  intro x0 x1 x2 x3
  exact ⟨_, rfl, finish_holds (State.serve_holds (State.advance_holds h x0) _ (.inr (by simp)))⟩

theorem execOlcAbort_holds (h : Holds q s) : ∀ x0 x1 x2 x3,
    ∃ t, execOlcAbort x0 x1 x2 x3 s = .next t ∧ Holds { q with clock := q.clock + x0 } t := by
  intro x0 x1 x2 x3
  exact ⟨_, rfl, finish_holds (State.serve_holds (State.advance_holds h x0) _ (.inr (by simp)))⟩

theorem execForceSet_holds (h : Holds q s) : ∀ x0 x1 x2 x3,
    ∃ t, execForceSet x0 x1 x2 x3 s = .next t ∧ Holds { q with clock := q.clock + x0 } t := by
  intro x0 x1 x2 x3
  exact ⟨_, rfl, finish_holds (State.serve_holds (State.advance_holds h x0) _ (.inr (by simp)))⟩

theorem execForceRelease_holds (h : Holds q s) : ∀ x0 x1 x2 x3,
    ∃ t, execForceRelease x0 x1 x2 x3 s = .next t ∧ Holds { q with clock := q.clock + x0 } t := by
  intro x0 x1 x2 x3
  exact ⟨_, rfl, finish_holds (State.serve_holds (State.advance_holds h x0) _ (.inr (by simp)))⟩

theorem execBarnCheckpoint_holds (h : Holds q s) : ∀ x0 x1 x2 x3,
    ∃ t, execBarnCheckpoint x0 x1 x2 x3 s = .next t ∧ Holds { q with clock := q.clock + x0 } t := by
  intro x0 x1 x2 x3
  exact ⟨_, rfl, finish_holds (State.serve_holds (State.advance_holds h x0) _ (.inr (by simp)))⟩

theorem execSafeEnter_holds (h : Holds q s) : ∀ x0 x1 x2 x3,
    ∃ t, execSafeEnter x0 x1 x2 x3 s = .next t ∧ Holds { q with clock := q.clock + x0 } t := by
  intro x0 x1 x2 x3
  exact ⟨_, rfl, finish_holds (State.serve_holds (State.advance_holds h x0) _ (.inr (by simp)))⟩

theorem execSafeClear_holds (h : Holds q s) : ∀ x0 x1 x2 x3,
    ∃ t, execSafeClear x0 x1 x2 x3 s = .next t ∧ Holds { q with clock := q.clock + x0 } t := by
  intro x0 x1 x2 x3
  exact ⟨_, rfl, finish_holds (State.serve_holds (State.advance_holds h x0) _ (.inr (by simp)))⟩

theorem execEject_holds (h : Holds q s) : ∀ x0 x1 x2 x3,
    ∃ t, execEject x0 x1 x2 x3 s = .next t ∧ Holds { q with clock := q.clock + x0 } t := by
  intro x0 x1 x2 x3
  exact ⟨_, rfl, finish_holds (State.serve_holds (State.advance_holds h x0) _ (.inr (by simp)))⟩

theorem execTimeSet_holds (h : Holds q s) : ∀ x0 x1 x2 x3,
    ∃ t, execTimeSet x0 x1 x2 x3 s = .next t ∧ Holds { q with clock := q.clock + x0 } t := by
  intro x0 x1 x2 x3
  exact ⟨_, rfl, finish_holds (State.serve_holds (State.advance_holds h x0) _ (.inr (by simp)))⟩

theorem execHartPass_holds (h : Holds q s) : ∀ x0 x1 x2 x3,
    ∃ t, execHartPass x0 x1 x2 x3 s = .next t ∧ Holds { q with clock := q.clock + x0 } t := by
  intro x0 x1 x2 x3
  exact ⟨_, rfl, finish_holds (State.serve_holds (State.advance_holds h x0) _ (.inr (by simp)))⟩

theorem execUslAck_holds (h : Holds q s) : ∀ x0 x1 x2 x3,
    ∃ t, execUslAck x0 x1 x2 x3 s = .next t ∧ Holds { q with clock := q.clock + x0 } t := by
  intro x0 x1 x2 x3
  exact ⟨_, rfl, finish_holds (State.serve_holds (State.advance_holds h x0) _ (.inr (by simp)))⟩

theorem execPairHandover_holds (h : Holds q s) : ∀ x0 x1 x2 x3,
    ∃ t, execPairHandover x0 x1 x2 x3 s = .next t ∧ Holds { q with clock := q.clock + x0 } t := by
  intro x0 x1 x2 x3
  exact ⟨_, rfl, finish_holds (State.serve_holds (State.advance_holds h x0) _ (.inr (by simp)))⟩

theorem execPairSwaptest_holds (h : Holds q s) : ∀ x0 x1 x2 x3,
    ∃ t, execPairSwaptest x0 x1 x2 x3 s = .next t ∧ Holds { q with clock := q.clock + x0 } t := by
  intro x0 x1 x2 x3
  exact ⟨_, rfl, finish_holds (State.serve_holds (State.advance_holds h x0) _ (.inr (by simp)))⟩

theorem execPairClear_holds (h : Holds q s) : ∀ x0 x1 x2 x3,
    ∃ t, execPairClear x0 x1 x2 x3 s = .next t ∧ Holds { q with clock := q.clock + x0 } t := by
  intro x0 x1 x2 x3
  exact ⟨_, rfl, finish_holds (State.serve_holds (State.advance_holds h x0) _ (.inr (by simp)))⟩

theorem execPairSolo_holds (h : Holds q s) : ∀ x0 x1 x2 x3,
    ∃ t, execPairSolo x0 x1 x2 x3 s = .next t ∧ Holds { q with clock := q.clock + x0 } t := by
  intro x0 x1 x2 x3
  exact ⟨_, rfl, finish_holds (State.serve_holds (State.advance_holds h x0) _ (.inr (by simp)))⟩

theorem execBrakeTest_holds (h : Holds q s) : ∀ x0 x1 x2 x3,
    ∃ t, execBrakeTest x0 x1 x2 x3 s = .next t ∧ Holds { q with clock := q.clock + x0 } t := by
  intro x0 x1 x2 x3
  exact ⟨_, rfl, finish_holds (State.serve_holds (State.advance_holds h x0) _ (.inr (by simp)))⟩

theorem execSafetyUnlock_holds (h : Holds q s) : ∀ x0 x1 x2 x3,
    ∃ t, execSafetyUnlock x0 x1 x2 x3 s = .next t ∧ Holds { q with clock := q.clock + x0 } t := by
  intro x0 x1 x2 x3
  exact ⟨_, rfl, finish_holds (State.serve_holds (State.advance_holds h x0) _ (.inr (by simp)))⟩

theorem execSoClear_holds (h : Holds q s) : ∀ x0 x1 x2 x3 x4,
    ∃ t, execSoClear x0 x1 x2 x3 x4 s = .next t ∧ Holds { q with clock := q.clock + x0 } t := by
  intro x0 x1 x2 x3 x4
  exact ⟨_, rfl, finish_holds (State.serve_holds (State.advance_holds h x0) _ (.inr (by simp)))⟩

theorem execLogCleared_holds (h : Holds q s) : ∀ x0,
    ∃ t, execLogCleared x0 s = .next t ∧ Holds { q with clock := q.clock + x0 } t := by
  intro x0
  have h1 := State.advance_holds h x0
  refine ⟨_, rfl, finish_holds ?_⟩
  repeat' first | with_reducible assumption | with_reducible apply State.logCleared_holds | split

theorem execFirmwareVerified_holds (h : Holds q s) : ∀ x0 x1,
    ∃ t, execFirmwareVerified x0 x1 s = .next t ∧ Holds { q with clock := q.clock + x0 } t := by
  intro x0 x1
  have h1 := State.advance_holds h x0
  refine ⟨_, rfl, finish_holds ?_⟩
  repeat' first
    | with_reducible assumption | with_reducible apply State.firmware_holds

theorem execSelftestComplete_holds (h : Holds q s) : ∀ x0 x1 x2,
    ∃ t, execSelftestComplete x0 x1 x2 s = .next t ∧ Holds { q with clock := q.clock + x0 } t := by
  intro x0 x1 x2
  have h1 := State.advance_holds h x0
  refine ⟨_, rfl, finish_holds ?_⟩
  repeat' first
    | with_reducible assumption | with_reducible apply State.selftestEnd_holds

theorem execCopySelection_holds (h : Holds q s) : ∀ x0,
    ∃ t, execCopySelection x0 s = .next t ∧ Holds { q with clock := q.clock + x0 } t := by
  intro x0
  have h1 := State.advance_holds h x0
  refine ⟨_, rfl, finish_holds ?_⟩
  repeat' first | with_reducible assumption | with_reducible apply State.copySelection_holds

theorem execStartupEnd_holds (h : Holds q s) : ∀ x0,
    ∃ t, execStartupEnd x0 s = .next t ∧ Holds { q with clock := q.clock + x0 } t := by
  intro x0
  have h1 := State.advance_holds h x0
  refine ⟨_, rfl, finish_holds ?_⟩
  repeat' first | with_reducible assumption | with_reducible apply State.startupEnd_holds

theorem execLoadTimeout_holds (h : Holds q s) : ∀ x0,
    ∃ t, execLoadTimeout x0 s = .next t ∧ Holds { q with clock := q.clock + x0 } t := by
  intro x0
  exact ⟨_, rfl, finish_holds (State.expire_holds (State.advance_holds h x0) _)⟩

theorem execAdoptTransferComplete_holds (h : Holds q s) : ∀ x0,
    ∃ t, execAdoptTransferComplete x0 s = .next t ∧ Holds { q with clock := q.clock + x0 } t := by
  intro x0
  have h1 := State.advance_holds h x0
  refine ⟨_, rfl, finish_holds ?_⟩
  repeat' first | with_reducible assumption | with_reducible apply State.adoptDone_holds

theorem execCommitMarkDone_holds (h : Holds q s) : ∀ x0,
    ∃ t, execCommitMarkDone x0 s = .next t ∧ Holds { q with clock := q.clock + x0 } t := by
  intro x0
  have h1 := State.advance_holds h x0
  refine ⟨_, rfl, finish_holds ?_⟩
  repeat' first | with_reducible assumption | with_reducible apply State.commitMark_holds

theorem execDuplicationComplete_holds (h : Holds q s) : ∀ x0,
    ∃ t, execDuplicationComplete x0 s = .next t ∧ Holds { q with clock := q.clock + x0 } t := by
  intro x0
  have h1 := State.advance_holds h x0
  refine ⟨_, rfl, finish_holds ?_⟩
  repeat' first | with_reducible assumption | with_reducible apply State.dupDone_holds

theorem execUslDataReceived_holds (h : Holds q s) : ∀ x0 x1 x2 x3,
    ∃ t, execUslDataReceived x0 x1 x2 x3 s = .next t ∧ Holds { q with clock := q.clock + x0 } t := by
  intro x0 x1 x2 x3
  have h1 := State.advance_holds h x0
  refine ⟨_, rfl, finish_holds ?_⟩
  repeat' first | with_reducible assumption | with_reducible apply State.uslDataIn_holds

theorem execUslAckReceived_holds (h : Holds q s) : ∀ x0 x1 x2 x3,
    ∃ t, execUslAckReceived x0 x1 x2 x3 s = .next t ∧ Holds { q with clock := q.clock + x0 } t := by
  intro x0 x1 x2 x3
  have h1 := State.advance_holds h x0
  refine ⟨_, rfl, finish_holds ?_⟩
  repeat' first | with_reducible assumption | with_reducible apply State.uslAckIn_holds

theorem execUslWatchdogExpire_holds (h : Holds q s) : ∀ x0 x1,
    ∃ t, execUslWatchdogExpire x0 x1 s = .next t ∧ Holds { q with clock := q.clock + x0 } t := by
  intro x0 x1
  exact ⟨_, rfl, finish_holds (State.expire_holds (State.advance_holds h x0) _)⟩

theorem execUslAckTimeout_holds (h : Holds q s) : ∀ x0 x1,
    ∃ t, execUslAckTimeout x0 x1 s = .next t ∧ Holds { q with clock := q.clock + x0 } t := by
  intro x0 x1
  exact ⟨_, rfl, finish_holds (State.expire_holds (State.advance_holds h x0) _)⟩

end Sys2Proof.Machine
end

