-- ==== Sys2Proof/Laws/PerInstr.lean ====
section
/-! SUPPORT. A law of every command as it is written: the ticks that pass before it (log 1) bear neither on its form nor
on any other operand. -/

namespace Sys2Proof.Laws.Timed

/-- The same command, `k` ticks after the one before it. -/
def after (k : Nat) (i : Instr) : Instr :=
  match i with
  | .mateClose _ => .mateClose k
  | .presenceAccepted _ => .presenceAccepted k
  | .porRelease _ x1 x2 x3 => .porRelease k x1 x2 x3
  | .lampTestEnd _ => .lampTestEnd k
  | .firmwareVerified _ x1 => .firmwareVerified k x1
  | .selftestComplete _ x1 x2 => .selftestComplete k x1 x2
  | .copySelection _ => .copySelection k
  | .startupEnd _ => .startupEnd k
  | .feedLost _ x1 => .feedLost k x1
  | .powerFail _ x1 => .powerFail k x1
  | .powerFailReset _ => .powerFailReset k
  | .backupBrownout _ => .backupBrownout k
  | .keyAccept _ x1 x2 => .keyAccept k x1 x2
  | .keyFault _ x1 => .keyFault k x1
  | .ejectButton _ x1 => .ejectButton k x1
  | .ejectPrepared _ => .ejectPrepared k
  | .ejectTimeout _ => .ejectTimeout k
  | .loadTimeout _ => .loadTimeout k
  | .adoptTransferComplete _ => .adoptTransferComplete k
  | .commitMarkDone _ => .commitMarkDone k
  | .duplicationComplete _ => .duplicationComplete k
  | .registerWrite _ x1 x2 x3 x4 => .registerWrite k x1 x2 x3 x4
  | .reg64LowRead _ x1 x2 => .reg64LowRead k x1 x2
  | .reg64LowWrite _ x1 x2 x3 => .reg64LowWrite k x1 x2 x3
  | .reg64HighWrite _ x1 x2 x3 => .reg64HighWrite k x1 x2 x3
  | .tollgateWrite _ x1 x2 => .tollgateWrite k x1 x2
  | .tollgateExpire _ x1 => .tollgateExpire k x1
  | .tollgateLockoutEnd _ x1 => .tollgateLockoutEnd k x1
  | .accerrClrcnt _ x1 x2 => .accerrClrcnt k x1 x2
  | .cfgParityFail _ x1 => .cfgParityFail k x1
  | .harvest _ => .harvest k
  | .evaluationBegin _ => .evaluationBegin k
  | .blockEvaluate _ x1 => .blockEvaluate k x1
  | .windowEnd _ => .windowEnd k
  | .deliver _ x1 => .deliver k x1
  | .checkpointDeferEnd _ => .checkpointDeferEnd k
  | .barnSaveDone _ => .barnSaveDone k
  | .mirrorSnapshot _ => .mirrorSnapshot k
  | .syncSend _ x1 => .syncSend k x1
  | .olcPrepared _ => .olcPrepared k
  | .olcDrainLimit _ => .olcDrainLimit k
  | .olcPrepareTimeout _ => .olcPrepareTimeout k
  | .toothEdge _ x1 x2 x3 => .toothEdge k x1 x2 x3
  | .camMarkerEdge _ x1 => .camMarkerEdge k x1
  | .quadRefEdge _ x1 => .quadRefEdge k x1
  | .bvPhaseUpdate _ x1 x2 x3 x4 x5 x6 => .bvPhaseUpdate k x1 x2 x3 x4 x5 x6
  | .domainTimeout _ x1 => .domainTimeout k x1
  | .dirRefChange _ x1 => .dirRefChange k x1
  | .milestoneFire _ x1 => .milestoneFire k x1
  | .pulseEnd _ x1 => .pulseEnd k x1
  | .syncCloseFeedback _ x1 => .syncCloseFeedback k x1
  | .syncNoFeedback _ x1 => .syncNoFeedback k x1
  | .trackerCompare _ x1 => .trackerCompare k x1
  | .loopTimeTrigger _ x1 => .loopTimeTrigger k x1
  | .loopSampleBegin _ => .loopSampleBegin k
  | .loopSampleCommit _ x1 => .loopSampleCommit k x1
  | .loopSampleMissed _ x1 => .loopSampleMissed k x1
  | .assemblyBegin _ => .assemblyBegin k
  | .assemblyEnd _ => .assemblyEnd k
  | .solveBegin _ => .solveBegin k
  | .solveHandover _ x1 => .solveHandover k x1
  | .residualCheck _ => .residualCheck k
  | .aiScan _ x1 x2 => .aiScan k x1 x2
  | .aiSampleCommit _ x1 x2 x3 => .aiSampleCommit k x1 x2 x3
  | .aiRefCheck _ x1 x2 => .aiRefCheck k x1 x2
  | .hartTransactionStart _ x1 => .hartTransactionStart k x1
  | .hartResponse _ x1 x2 x3 x4 x5 => .hartResponse k x1 x2 x3 x4 x5
  | .hartAttemptTimeout _ x1 => .hartAttemptTimeout k x1
  | .hartStale _ x1 => .hartStale k x1
  | .aoFrame _ x1 => .aoFrame k x1
  | .aoFrameTimeout _ x1 => .aoFrameTimeout k x1
  | .aoHoldExpire _ x1 => .aoHoldExpire k x1
  | .aoLoopPower _ x1 => .aoLoopPower k x1
  | .aoMeasure _ x1 x2 x3 x4 => .aoMeasure k x1 x2 x3 x4
  | .aoCompliance _ x1 x2 x3 => .aoCompliance k x1 x2 x3
  | .aoComplianceClear _ x1 => .aoComplianceClear k x1
  | .aoDeviation _ x1 => .aoDeviation k x1
  | .aoClockStep _ x1 x2 => .aoClockStep k x1 x2
  | .aoTestWorkDone _ x1 x2 => .aoTestWorkDone k x1 x2
  | .aoTest _ x1 x2 => .aoTest k x1 x2
  | .dioInputAccept _ x1 x2 x3 => .dioInputAccept k x1 x2 x3
  | .dioSupplyLoss _ x1 => .dioSupplyLoss k x1
  | .dioOverload _ x1 => .dioOverload k x1
  | .dioMismatch _ x1 => .dioMismatch k x1
  | .dioOpenload _ x1 => .dioOpenload k x1
  | .canIntegrated _ x1 => .canIntegrated k x1
  | .canArbitration _ x1 => .canArbitration k x1
  | .canTxAttemptEnd _ x1 x2 x3 x4 => .canTxAttemptEnd k x1 x2 x3 x4
  | .canBusoffRecovered _ x1 => .canBusoffRecovered k x1
  | .canFrameReceived _ x1 x2 => .canFrameReceived k x1 x2
  | .canRioInputFrame _ x1 x2 => .canRioInputFrame k x1 x2
  | .canRioSyncReceived _ x1 x2 => .canRioSyncReceived k x1 x2
  | .canRioOutputReceived _ x1 x2 => .canRioOutputReceived k x1 x2
  | .stationSyncTimeout _ x1 => .stationSyncTimeout k x1
  | .stationHoldExpire _ x1 => .stationHoldExpire k x1
  | .canRxPop _ x1 x2 x3 => .canRxPop k x1 x2 x3
  | .canTxReq _ x1 x2 => .canTxReq k x1 x2
  | .canTxCancel _ x1 x2 => .canTxCancel k x1 x2
  | .canCntClr _ x1 x2 => .canCntClr k x1 x2
  | .canCnt2Clr _ x1 x2 => .canCnt2Clr k x1 x2
  | .ethLinkChange _ x1 x2 => .ethLinkChange k x1 x2
  | .prpSupervisionSend _ => .prpSupervisionSend k
  | .ethRioInputFrame _ x1 x2 x3 => .ethRioInputFrame k x1 x2 x3
  | .ethRioSyncReceived _ x1 x2 x3 => .ethRioSyncReceived k x1 x2 x3
  | .ethRioOutputReceived _ x1 x2 x3 => .ethRioOutputReceived k x1 x2 x3
  | .ethStopReceived _ x1 x2 x3 => .ethStopReceived k x1 x2 x3
  | .ethRioClr _ x1 => .ethRioClr k x1
  | .ptpOffsetMeasured _ x1 x2 x3 => .ptpOffsetMeasured k x1 x2 x3
  | .ptpAnnounceTimeout _ x1 => .ptpAnnounceTimeout k x1
  | .rtcDiscipline _ x1 => .rtcDiscipline k x1
  | .rtcWrite _ => .rtcWrite k
  | .smpHandshake _ x1 x2 x3 x4 x5 x6 x7 x8 => .smpHandshake k x1 x2 x3 x4 x5 x6 x7 x8
  | .sessionIdleTimeout _ x1 => .sessionIdleTimeout k x1
  | .dtlsClose _ x1 => .dtlsClose k x1
  | .unknownCmd _ x1 x2 x3 x4 => .unknownCmd k x1 x2 x3 x4
  | .identChallenge _ x1 x2 x3 => .identChallenge k x1 x2 x3
  | .statusRead _ x1 x2 x3 => .statusRead k x1 x2 x3
  | .logRead _ x1 x2 x3 => .logRead k x1 x2 x3
  | .regRead _ x1 x2 x3 => .regRead k x1 x2 x3
  | .regWrite _ x1 x2 x3 => .regWrite k x1 x2 x3
  | .slotRead _ x1 x2 x3 => .slotRead k x1 x2 x3
  | .logAck _ x1 x2 x3 => .logAck k x1 x2 x3
  | .logClear _ x1 x2 x3 => .logClear k x1 x2 x3
  | .logCleared _ => .logCleared k
  | .ownerEnrol _ x1 x2 x3 => .ownerEnrol k x1 x2 x3
  | .ownerRelease _ x1 x2 x3 => .ownerRelease k x1 x2 x3
  | .imageLoadBegin _ x1 x2 x3 => .imageLoadBegin k x1 x2 x3
  | .imageData _ x1 x2 x3 => .imageData k x1 x2 x3
  | .imageLoadEnd _ x1 x2 x3 => .imageLoadEnd k x1 x2 x3
  | .imageVerify _ x1 x2 x3 => .imageVerify k x1 x2 x3
  | .imageAbort _ x1 x2 x3 => .imageAbort k x1 x2 x3
  | .imageAdopt _ x1 x2 x3 x4 x5 x6 => .imageAdopt k x1 x2 x3 x4 x5 x6
  | .imageCommit _ x1 x2 x3 => .imageCommit k x1 x2 x3
  | .olcPrepare _ x1 x2 x3 => .olcPrepare k x1 x2 x3
  | .olcSwitch _ x1 x2 x3 => .olcSwitch k x1 x2 x3
  | .olcAbort _ x1 x2 x3 => .olcAbort k x1 x2 x3
  | .forceSet _ x1 x2 x3 => .forceSet k x1 x2 x3
  | .forceRelease _ x1 x2 x3 => .forceRelease k x1 x2 x3
  | .barnCheckpoint _ x1 x2 x3 => .barnCheckpoint k x1 x2 x3
  | .safeEnter _ x1 x2 x3 => .safeEnter k x1 x2 x3
  | .safeClear _ x1 x2 x3 => .safeClear k x1 x2 x3
  | .eject _ x1 x2 x3 => .eject k x1 x2 x3
  | .timeSet _ x1 x2 x3 => .timeSet k x1 x2 x3
  | .hartPass _ x1 x2 x3 => .hartPass k x1 x2 x3
  | .uslAck _ x1 x2 x3 => .uslAck k x1 x2 x3
  | .pairHandover _ x1 x2 x3 => .pairHandover k x1 x2 x3
  | .pairSwaptest _ x1 x2 x3 => .pairSwaptest k x1 x2 x3
  | .pairClear _ x1 x2 x3 => .pairClear k x1 x2 x3
  | .pairSolo _ x1 x2 x3 => .pairSolo k x1 x2 x3
  | .brakeTest _ x1 x2 x3 => .brakeTest k x1 x2 x3
  | .safetyUnlock _ x1 x2 x3 => .safetyUnlock k x1 x2 x3
  | .soClear _ x1 x2 x3 x4 => .soClear k x1 x2 x3 x4
  | .uslDataReceived _ x1 x2 x3 => .uslDataReceived k x1 x2 x3
  | .uslAckReceived _ x1 x2 x3 => .uslAckReceived k x1 x2 x3
  | .uslWatchdogExpire _ x1 => .uslWatchdogExpire k x1
  | .uslAckTimeout _ x1 => .uslAckTimeout k x1
  | .uslCctlAck _ x1 x2 => .uslCctlAck k x1 x2
  | .uslCcntClr _ x1 x2 => .uslCcntClr k x1 x2
  | .brakeOn _ x1 x2 => .brakeOn k x1 x2
  | .brakeDemand _ x1 x2 => .brakeDemand k x1 x2
  | .testPulseStart _ x1 => .testPulseStart k x1
  | .testPulseCheck _ x1 x2 => .testPulseCheck k x1 x2
  | .testPulseEnd _ x1 => .testPulseEnd k x1
  | .testPulseOverdue _ x1 => .testPulseOverdue k x1
  | .brakeChannelFault _ x1 x2 x3 x4 x5 => .brakeChannelFault k x1 x2 x3 x4 x5
  | .brakeTestPhaseEnd _ x1 x2 => .brakeTestPhaseEnd k x1 x2
  | .testDue _ x1 => .testDue k x1
  | .safetyUnlockExpire _ x1 => .safetyUnlockExpire k x1
  | .safetyPwdLockoutEnd _ => .safetyPwdLockoutEnd k
  | .soBcntClr _ x1 x2 => .soBcntClr k x1 x2
  | .soLogIdx _ x1 x2 => .soLogIdx k x1 x2
  | .helloSend _ => .helloSend k
  | .helloReceived _ x1 x2 => .helloReceived k x1 x2
  | .laneDown _ x1 => .laneDown k x1
  | .partnerSilent _ => .partnerSilent k
  | .pairFormed _ => .pairFormed k
  | .pairSelfElect _ => .pairSelfElect k
  | .singleActivate _ => .singleActivate k
  | .mirrorFrameReceived _ x1 x2 => .mirrorFrameReceived k x1 x2
  | .shadowSend _ => .shadowSend k
  | .shadowReceived _ x1 x2 x3 => .shadowReceived k x1 x2 x3
  | .offerNotice _ x1 x2 x3 => .offerNotice k x1 x2 x3
  | .acceptNotice _ x1 => .acceptNotice k x1
  | .declineNotice _ x1 => .declineNotice k x1
  | .relinquishNotice _ x1 x2 => .relinquishNotice k x1 x2
  | .switchNotice _ x1 x2 => .switchNotice k x1 x2
  | .safeNotice _ x1 => .safeNotice k x1
  | .imgreq _ x1 => .imgreq k x1
  | .imgdata _ x1 x2 x3 => .imgdata k x1 x2 x3
  | .roundStart _ => .roundStart k
  | .statusSend _ => .statusSend k
  | .statusReceived _ x1 x2 => .statusReceived k x1 x2
  | .roundReceived _ x1 => .roundReceived k x1
  | .refereeAbsent _ => .refereeAbsent k
  | .takeover _ => .takeover k
  | .ownerStuck _ => .ownerStuck k
  | .ownerMismatch _ => .ownerMismatch k
  | .handoverTx _ => .handoverTx k
  | .revertStart _ => .revertStart k
  | .swapTestStart _ => .swapTestStart k
  | .swapDwellEnd _ => .swapDwellEnd k
  | .pairMcntClr _ x1 => .pairMcntClr k x1
  | .clockCheck _ x1 x2 => .clockCheck k x1 x2
  | .mgmtWatchdogExpire _ => .mgmtWatchdogExpire k
  | .safetySelftest _ x1 => .safetySelftest k x1
  | .signatureCompare _ x1 => .signatureCompare k x1
  | .checkerTest _ x1 => .checkerTest k x1
  | .scrubWord _ x1 x2 x3 x4 => .scrubWord k x1 x2 x3 x4
  | .functionRung _ x1 x2 => .functionRung k x1 x2
  | .moduleRung _ => .moduleRung k
  | .resetRelease _ x1 x2 x3 => .resetRelease k x1 x2 x3
  | .pcycIgnored _ => .pcycIgnored k
  | .ladderWindowExpire _ x1 x2 => .ladderWindowExpire k x1 x2
  | .diagRecoverUnit _ x1 x2 x3 => .diagRecoverUnit k x1 x2 x3
  | .diagRecoverModule _ x1 => .diagRecoverModule k x1
  | .diagFcntClr _ x1 x2 => .diagFcntClr k x1 x2
  | .diagMemClr _ x1 => .diagMemClr k x1
  | .recordWriteDone _ => .recordWriteDone k
  | .logLostClr _ x1 => .logLostClr k x1
  | .logPeakClr _ x1 => .logPeakClr k x1
  | .logRdNum _ x1 x2 => .logRdNum k x1 x2
  | .seqLstatClr _ x1 x2 => .seqLstatClr k x1 x2
  | .imgSlotIdx _ x1 x2 => .imgSlotIdx k x1 x2
  | .imgInstIdx _ x1 x2 => .imgInstIdx k x1 x2
  | .imgFindId _ x1 x2 => .imgFindId k x1 x2
  | .msSlotIdx _ x1 x2 => .msSlotIdx k x1 x2
  | .msSlotCommit _ x1 x2 => .msSlotCommit k x1 x2
  | .loopCoefA _ x1 x2 x3 => .loopCoefA k x1 x2 x3
  | .loopSwap _ x1 x2 x3 => .loopSwap k x1 x2 x3
  | .loopSupack _ x1 x2 x3 => .loopSupack k x1 x2 x3
  | .loopCntClr _ x1 x2 => .loopCntClr k x1 x2
  | .slvWinSel _ x1 x2 => .slvWinSel k x1 x2
  | .slvPcntClr _ x1 x2 => .slvPcntClr k x1 x2
  | .aiChCntClr _ x1 x2 => .aiChCntClr k x1 x2
  | .mateContactOpen _ x1 => .mateContactOpen k x1
  | .powerReturn _ => .powerReturn k
  | .feedOkChange _ x1 x2 => .feedOkChange k x1 x2
  | .dioSupplyReturn _ x1 => .dioSupplyReturn k x1
  | .aoChannelNoFrame _ x1 => .aoChannelNoFrame k x1
  | .canReceiveError _ x1 x2 x3 => .canReceiveError k x1 x2 x3
  | .arpRequest _ x1 x2 => .arpRequest k x1 x2
  | .icmpEchoRequest _ x1 x2 => .icmpEchoRequest k x1 x2
  | .ptpAnnounceReceived _ x1 x2 => .ptpAnnounceReceived k x1 x2
  | .pcycReqEnd _ => .pcycReqEnd k

/-- Setting the elapsed ticks keeps a command's form, and the later setting stands. -/
def Statement (i : Instr) : Prop := ∀ j k : Nat, (after k i).wf = i.wf ∧ after k (after j i) = after k i

theorem mateClose (dt : Nat) : Statement (.mateClose dt) := fun _ _ => ⟨rfl, rfl⟩
theorem presenceAccepted (dt : Nat) : Statement (.presenceAccepted dt) := fun _ _ => ⟨rfl, rfl⟩
theorem porRelease (dt : Nat) (r1 : Nat) (r2 : Nat) (r3 : Nat) : Statement (.porRelease dt r1 r2 r3) := fun _ _ => ⟨rfl, rfl⟩
theorem lampTestEnd (dt : Nat) : Statement (.lampTestEnd dt) := fun _ _ => ⟨rfl, rfl⟩
theorem firmwareVerified (dt : Nat) (ok : Bool) : Statement (.firmwareVerified dt ok) := fun _ _ => ⟨rfl, rfl⟩
theorem selftestComplete (dt : Nat) (ok : Bool) (seOk : Bool) : Statement (.selftestComplete dt ok seOk) := fun _ _ => ⟨rfl, rfl⟩
theorem copySelection (dt : Nat) : Statement (.copySelection dt) := fun _ _ => ⟨rfl, rfl⟩
theorem startupEnd (dt : Nat) : Statement (.startupEnd dt) := fun _ _ => ⟨rfl, rfl⟩
theorem feedLost (dt : Nat) (feedB : Bool) : Statement (.feedLost dt feedB) := fun _ _ => ⟨rfl, rfl⟩
theorem powerFail (dt : Nat) (cause : Nat) : Statement (.powerFail dt cause) := fun _ _ => ⟨rfl, rfl⟩
theorem powerFailReset (dt : Nat) : Statement (.powerFailReset dt) := fun _ _ => ⟨rfl, rfl⟩
theorem backupBrownout (dt : Nat) : Statement (.backupBrownout dt) := fun _ _ => ⟨rfl, rfl⟩
theorem keyAccept (dt : Nat) (k1 : Bool) (k2 : Bool) : Statement (.keyAccept dt k1 k2) := fun _ _ => ⟨rfl, rfl⟩
theorem keyFault (dt : Nat) (disagree : Bool) : Statement (.keyFault dt disagree) := fun _ _ => ⟨rfl, rfl⟩
theorem ejectButton (dt : Nat) (heldMs : Nat) : Statement (.ejectButton dt heldMs) := fun _ _ => ⟨rfl, rfl⟩
theorem ejectPrepared (dt : Nat) : Statement (.ejectPrepared dt) := fun _ _ => ⟨rfl, rfl⟩
theorem ejectTimeout (dt : Nat) : Statement (.ejectTimeout dt) := fun _ _ => ⟨rfl, rfl⟩
theorem loadTimeout (dt : Nat) : Statement (.loadTimeout dt) := fun _ _ => ⟨rfl, rfl⟩
theorem adoptTransferComplete (dt : Nat) : Statement (.adoptTransferComplete dt) := fun _ _ => ⟨rfl, rfl⟩
theorem commitMarkDone (dt : Nat) : Statement (.commitMarkDone dt) := fun _ _ => ⟨rfl, rfl⟩
theorem duplicationComplete (dt : Nat) : Statement (.duplicationComplete dt) := fun _ _ => ⟨rfl, rfl⟩
theorem registerWrite (dt : Nat) (m : Master) (addr : Nat) (width : Nat) (value : W64) : Statement (.registerWrite dt m addr width value) := fun _ _ => ⟨rfl, rfl⟩
theorem reg64LowRead (dt : Nat) (m : Master) (addr : Nat) : Statement (.reg64LowRead dt m addr) := fun _ _ => ⟨rfl, rfl⟩
theorem reg64LowWrite (dt : Nat) (m : Master) (addr : Nat) (value : W32) : Statement (.reg64LowWrite dt m addr value) := fun _ _ => ⟨rfl, rfl⟩
theorem reg64HighWrite (dt : Nat) (m : Master) (addr : Nat) (value : W32) : Statement (.reg64HighWrite dt m addr value) := fun _ _ => ⟨rfl, rfl⟩
theorem tollgateWrite (dt : Nat) (m : Master) (value : W32) : Statement (.tollgateWrite dt m value) := fun _ _ => ⟨rfl, rfl⟩
theorem tollgateExpire (dt : Nat) (m : Master) : Statement (.tollgateExpire dt m) := fun _ _ => ⟨rfl, rfl⟩
theorem tollgateLockoutEnd (dt : Nat) (m : Master) : Statement (.tollgateLockoutEnd dt m) := fun _ _ => ⟨rfl, rfl⟩
theorem accerrClrcnt (dt : Nat) (m : Master) (value : W32) : Statement (.accerrClrcnt dt m value) := fun _ _ => ⟨rfl, rfl⟩
theorem cfgParityFail (dt : Nat) (addr : Nat) : Statement (.cfgParityFail dt addr) := fun _ _ => ⟨rfl, rfl⟩
theorem harvest (dt : Nat) : Statement (.harvest dt) := fun _ _ => ⟨rfl, rfl⟩
theorem evaluationBegin (dt : Nat) : Statement (.evaluationBegin dt) := fun _ _ => ⟨rfl, rfl⟩
theorem blockEvaluate (dt : Nat) (agree : Bool) : Statement (.blockEvaluate dt agree) := fun _ _ => ⟨rfl, rfl⟩
theorem windowEnd (dt : Nat) : Statement (.windowEnd dt) := fun _ _ => ⟨rfl, rfl⟩
theorem deliver (dt : Nat) (disagree : List Nat) : Statement (.deliver dt disagree) := fun _ _ => ⟨rfl, rfl⟩
theorem checkpointDeferEnd (dt : Nat) : Statement (.checkpointDeferEnd dt) := fun _ _ => ⟨rfl, rfl⟩
theorem barnSaveDone (dt : Nat) : Statement (.barnSaveDone dt) := fun _ _ => ⟨rfl, rfl⟩
theorem mirrorSnapshot (dt : Nat) : Statement (.mirrorSnapshot dt) := fun _ _ => ⟨rfl, rfl⟩
theorem syncSend (dt : Nat) (ch : Nat) : Statement (.syncSend dt ch) := fun _ _ => ⟨rfl, rfl⟩
theorem olcPrepared (dt : Nat) : Statement (.olcPrepared dt) := fun _ _ => ⟨rfl, rfl⟩
theorem olcDrainLimit (dt : Nat) : Statement (.olcDrainLimit dt) := fun _ _ => ⟨rfl, rfl⟩
theorem olcPrepareTimeout (dt : Nat) : Statement (.olcPrepareTimeout dt) := fun _ _ => ⟨rfl, rfl⟩
theorem toothEdge (dt : Nat) (d : Nat) (frac : Nat) (bHigh : Bool) : Statement (.toothEdge dt d frac bHigh) := fun _ _ => ⟨rfl, rfl⟩
theorem camMarkerEdge (dt : Nat) (d : Nat) : Statement (.camMarkerEdge dt d) := fun _ _ => ⟨rfl, rfl⟩
theorem quadRefEdge (dt : Nat) (d : Nat) : Statement (.quadRefEdge dt d) := fun _ _ => ⟨rfl, rfl⟩
theorem bvPhaseUpdate (dt : Nat) (ph4 : Nat) (ph5 : Nat) (f4 : Nat) (f5 : Nat) (u0 : F64) (u1 : F64) : Statement (.bvPhaseUpdate dt ph4 ph5 f4 f5 u0 u1) := fun _ _ => ⟨rfl, rfl⟩
theorem domainTimeout (dt : Nat) (d : Nat) : Statement (.domainTimeout dt d) := fun _ _ => ⟨rfl, rfl⟩
theorem dirRefChange (dt : Nat) (d : Nat) : Statement (.dirRefChange dt d) := fun _ _ => ⟨rfl, rfl⟩
theorem milestoneFire (dt : Nat) (slot : Nat) : Statement (.milestoneFire dt slot) := fun _ _ => ⟨rfl, rfl⟩
theorem pulseEnd (dt : Nat) (slot : Nat) : Statement (.pulseEnd dt slot) := fun _ _ => ⟨rfl, rfl⟩
theorem syncCloseFeedback (dt : Nat) (slot : Nat) : Statement (.syncCloseFeedback dt slot) := fun _ _ => ⟨rfl, rfl⟩
theorem syncNoFeedback (dt : Nat) (slot : Nat) : Statement (.syncNoFeedback dt slot) := fun _ _ => ⟨rfl, rfl⟩
theorem trackerCompare (dt : Nat) (agree : Bool) : Statement (.trackerCompare dt agree) := fun _ _ => ⟨rfl, rfl⟩
theorem loopTimeTrigger (dt : Nat) (ctx : Nat) : Statement (.loopTimeTrigger dt ctx) := fun _ _ => ⟨rfl, rfl⟩
theorem loopSampleBegin (dt : Nat) : Statement (.loopSampleBegin dt) := fun _ _ => ⟨rfl, rfl⟩
theorem loopSampleCommit (dt : Nat) (agree : Bool) : Statement (.loopSampleCommit dt agree) := fun _ _ => ⟨rfl, rfl⟩
theorem loopSampleMissed (dt : Nat) (ctx : Nat) : Statement (.loopSampleMissed dt ctx) := fun _ _ => ⟨rfl, rfl⟩
theorem assemblyBegin (dt : Nat) : Statement (.assemblyBegin dt) := fun _ _ => ⟨rfl, rfl⟩
theorem assemblyEnd (dt : Nat) : Statement (.assemblyEnd dt) := fun _ _ => ⟨rfl, rfl⟩
theorem solveBegin (dt : Nat) : Statement (.solveBegin dt) := fun _ _ => ⟨rfl, rfl⟩
theorem solveHandover (dt : Nat) (cycles : Nat) : Statement (.solveHandover dt cycles) := fun _ _ => ⟨rfl, rfl⟩
theorem residualCheck (dt : Nat) : Statement (.residualCheck dt) := fun _ _ => ⟨rfl, rfl⟩
theorem aiScan (dt : Nat) (fsOk : Bool) (xs : List (Nat × Int)) : Statement (.aiScan dt fsOk xs) := fun _ _ => ⟨rfl, rfl⟩
theorem aiSampleCommit (dt : Nat) (ch : Nat) (fsOk : Bool) (x : Int) : Statement (.aiSampleCommit dt ch fsOk x) := fun _ _ => ⟨rfl, rfl⟩
theorem aiRefCheck (dt : Nat) (ch : Nat) (bad : Bool) : Statement (.aiRefCheck dt ch bad) := fun _ _ => ⟨rfl, rfl⟩
theorem hartTransactionStart (dt : Nat) (modem : Modem) : Statement (.hartTransactionStart dt modem) := fun _ _ => ⟨rfl, rfl⟩
theorem hartResponse (dt : Nat) (modem : Modem) (commErr : Bool) (devStatus : Byte) (vars : List F32) (bytes : List Byte) : Statement (.hartResponse dt modem commErr devStatus vars bytes) := fun _ _ => ⟨rfl, rfl⟩
theorem hartAttemptTimeout (dt : Nat) (modem : Modem) : Statement (.hartAttemptTimeout dt modem) := fun _ _ => ⟨rfl, rfl⟩
theorem hartStale (dt : Nat) (entry : Nat) : Statement (.hartStale dt entry) := fun _ _ => ⟨rfl, rfl⟩
theorem aoFrame (dt : Nat) (ch : Nat) : Statement (.aoFrame dt ch) := fun _ _ => ⟨rfl, rfl⟩
theorem aoFrameTimeout (dt : Nat) (ch : Nat) : Statement (.aoFrameTimeout dt ch) := fun _ _ => ⟨rfl, rfl⟩
theorem aoHoldExpire (dt : Nat) (ch : Nat) : Statement (.aoHoldExpire dt ch) := fun _ _ => ⟨rfl, rfl⟩
theorem aoLoopPower (dt : Nat) (ch : Nat) : Statement (.aoLoopPower dt ch) := fun _ _ => ⟨rfl, rfl⟩
theorem aoMeasure (dt : Nat) (ch : Nat) (fsOk : Bool) (uA : Nat) (v10mV : Nat) : Statement (.aoMeasure dt ch fsOk uA v10mV) := fun _ _ => ⟨rfl, rfl⟩
theorem aoCompliance (dt : Nat) (ch : Nat) (uA : Nat) (v10mV : Nat) : Statement (.aoCompliance dt ch uA v10mV) := fun _ _ => ⟨rfl, rfl⟩
theorem aoComplianceClear (dt : Nat) (ch : Nat) : Statement (.aoComplianceClear dt ch) := fun _ _ => ⟨rfl, rfl⟩
theorem aoDeviation (dt : Nat) (ch : Nat) : Statement (.aoDeviation dt ch) := fun _ _ => ⟨rfl, rfl⟩
theorem aoClockStep (dt : Nat) (ch : Nat) (uA : Nat) : Statement (.aoClockStep dt ch uA) := fun _ _ => ⟨rfl, rfl⟩
theorem aoTestWorkDone (dt : Nat) (ch : Nat) (ok : Bool) : Statement (.aoTestWorkDone dt ch ok) := fun _ _ => ⟨rfl, rfl⟩
theorem aoTest (dt : Nat) (m : Master) (ch : Nat) : Statement (.aoTest dt m ch) := fun _ _ => ⟨rfl, rfl⟩
theorem dioInputAccept (dt : Nat) (ch : Nat) (level : Bool) (ago : Nat) : Statement (.dioInputAccept dt ch level ago) := fun _ _ => ⟨rfl, rfl⟩
theorem dioSupplyLoss (dt : Nat) (groupB : Bool) : Statement (.dioSupplyLoss dt groupB) := fun _ _ => ⟨rfl, rfl⟩
theorem dioOverload (dt : Nat) (ch : Nat) : Statement (.dioOverload dt ch) := fun _ _ => ⟨rfl, rfl⟩
theorem dioMismatch (dt : Nat) (ch : Nat) : Statement (.dioMismatch dt ch) := fun _ _ => ⟨rfl, rfl⟩
theorem dioOpenload (dt : Nat) (ch : Nat) : Statement (.dioOpenload dt ch) := fun _ _ => ⟨rfl, rfl⟩
theorem canIntegrated (dt : Nat) (ch : Nat) : Statement (.canIntegrated dt ch) := fun _ _ => ⟨rfl, rfl⟩
theorem canArbitration (dt : Nat) (ch : Nat) : Statement (.canArbitration dt ch) := fun _ _ => ⟨rfl, rfl⟩
theorem canTxAttemptEnd (dt : Nat) (ch : Nat) (res : TxEnd) (more : Nat) (tdcv : Nat) : Statement (.canTxAttemptEnd dt ch res more tdcv) := fun _ _ => ⟨rfl, rfl⟩
theorem canBusoffRecovered (dt : Nat) (ch : Nat) : Statement (.canBusoffRecovered dt ch) := fun _ _ => ⟨rfl, rfl⟩
theorem canFrameReceived (dt : Nat) (ch : Nat) (frame : CanFrame) : Statement (.canFrameReceived dt ch frame) := fun _ _ => ⟨rfl, rfl⟩
theorem canRioInputFrame (dt : Nat) (ch : Nat) (frame : CanFrame) : Statement (.canRioInputFrame dt ch frame) := fun _ _ => ⟨rfl, rfl⟩
theorem canRioSyncReceived (dt : Nat) (ch : Nat) (frame : CanFrame) : Statement (.canRioSyncReceived dt ch frame) := fun _ _ => ⟨rfl, rfl⟩
theorem canRioOutputReceived (dt : Nat) (ch : Nat) (frame : CanFrame) : Statement (.canRioOutputReceived dt ch frame) := fun _ _ => ⟨rfl, rfl⟩
theorem stationSyncTimeout (dt : Nat) (ch : Nat) : Statement (.stationSyncTimeout dt ch) := fun _ _ => ⟨rfl, rfl⟩
theorem stationHoldExpire (dt : Nat) (ch : Nat) : Statement (.stationHoldExpire dt ch) := fun _ _ => ⟨rfl, rfl⟩
theorem canRxPop (dt : Nat) (m : Master) (ch : Nat) (seq : Nat) : Statement (.canRxPop dt m ch seq) := fun _ _ => ⟨rfl, rfl⟩
theorem canTxReq (dt : Nat) (m : Master) (ch : Nat) : Statement (.canTxReq dt m ch) := fun _ _ => ⟨rfl, rfl⟩
theorem canTxCancel (dt : Nat) (m : Master) (ch : Nat) : Statement (.canTxCancel dt m ch) := fun _ _ => ⟨rfl, rfl⟩
theorem canCntClr (dt : Nat) (m : Master) (ch : Nat) : Statement (.canCntClr dt m ch) := fun _ _ => ⟨rfl, rfl⟩
theorem canCnt2Clr (dt : Nat) (m : Master) (ch : Nat) : Statement (.canCnt2Clr dt m ch) := fun _ _ => ⟨rfl, rfl⟩
theorem ethLinkChange (dt : Nat) (e2 : Bool) (speed : Nat) : Statement (.ethLinkChange dt e2 speed) := fun _ _ => ⟨rfl, rfl⟩
theorem prpSupervisionSend (dt : Nat) : Statement (.prpSupervisionSend dt) := fun _ _ => ⟨rfl, rfl⟩
theorem ethRioInputFrame (dt : Nat) (rx : EthRx) (src : W32) (bytes : List Byte) : Statement (.ethRioInputFrame dt rx src bytes) := fun _ _ => ⟨rfl, rfl⟩
theorem ethRioSyncReceived (dt : Nat) (rx : EthRx) (src : W32) (bytes : List Byte) : Statement (.ethRioSyncReceived dt rx src bytes) := fun _ _ => ⟨rfl, rfl⟩
theorem ethRioOutputReceived (dt : Nat) (rx : EthRx) (src : W32) (bytes : List Byte) : Statement (.ethRioOutputReceived dt rx src bytes) := fun _ _ => ⟨rfl, rfl⟩
theorem ethStopReceived (dt : Nat) (rx : EthRx) (src : W32) (addr : Nat) : Statement (.ethStopReceived dt rx src addr) := fun _ _ => ⟨rfl, rfl⟩
theorem ethRioClr (dt : Nat) (m : Master) : Statement (.ethRioClr dt m) := fun _ _ => ⟨rfl, rfl⟩
theorem ptpOffsetMeasured (dt : Nat) (origin : Int) (delay : Nat) (ago : Nat) : Statement (.ptpOffsetMeasured dt origin delay ago) := fun _ _ => ⟨rfl, rfl⟩
theorem ptpAnnounceTimeout (dt : Nat) (e2 : Bool) : Statement (.ptpAnnounceTimeout dt e2) := fun _ _ => ⟨rfl, rfl⟩
theorem rtcDiscipline (dt : Nat) (rtc : Nat) : Statement (.rtcDiscipline dt rtc) := fun _ _ => ⟨rfl, rfl⟩
theorem rtcWrite (dt : Nat) : Statement (.rtcWrite dt) := fun _ _ => ⟨rfl, rfl⟩
theorem smpHandshake (dt : Nat) (sid : Nat) (suite : Nat) (group : Nat) (scheme : Nat) (resumed : Bool) (early : Bool) (proof : Bool) (chain : List (List Byte)) : Statement (.smpHandshake dt sid suite group scheme resumed early proof chain) := fun _ _ => ⟨rfl, rfl⟩
theorem sessionIdleTimeout (dt : Nat) (sid : Nat) : Statement (.sessionIdleTimeout dt sid) := fun _ _ => ⟨rfl, rfl⟩
theorem dtlsClose (dt : Nat) (sid : Nat) : Statement (.dtlsClose dt sid) := fun _ _ => ⟨rfl, rfl⟩
theorem unknownCmd (dt : Nat) (sid : Nat) (req : Nat) (cmd : Nat) (p : List Byte) : Statement (.unknownCmd dt sid req cmd p) := fun _ _ => ⟨rfl, rfl⟩
theorem identChallenge (dt : Nat) (sid : Nat) (req : Nat) (p : List Byte) : Statement (.identChallenge dt sid req p) := fun _ _ => ⟨rfl, rfl⟩
theorem statusRead (dt : Nat) (sid : Nat) (req : Nat) (p : List Byte) : Statement (.statusRead dt sid req p) := fun _ _ => ⟨rfl, rfl⟩
theorem logRead (dt : Nat) (sid : Nat) (req : Nat) (p : List Byte) : Statement (.logRead dt sid req p) := fun _ _ => ⟨rfl, rfl⟩
theorem regRead (dt : Nat) (sid : Nat) (req : Nat) (p : List Byte) : Statement (.regRead dt sid req p) := fun _ _ => ⟨rfl, rfl⟩
theorem regWrite (dt : Nat) (sid : Nat) (req : Nat) (p : List Byte) : Statement (.regWrite dt sid req p) := fun _ _ => ⟨rfl, rfl⟩
theorem slotRead (dt : Nat) (sid : Nat) (req : Nat) (p : List Byte) : Statement (.slotRead dt sid req p) := fun _ _ => ⟨rfl, rfl⟩
theorem logAck (dt : Nat) (sid : Nat) (req : Nat) (p : List Byte) : Statement (.logAck dt sid req p) := fun _ _ => ⟨rfl, rfl⟩
theorem logClear (dt : Nat) (sid : Nat) (req : Nat) (p : List Byte) : Statement (.logClear dt sid req p) := fun _ _ => ⟨rfl, rfl⟩
theorem logCleared (dt : Nat) : Statement (.logCleared dt) := fun _ _ => ⟨rfl, rfl⟩
theorem ownerEnrol (dt : Nat) (sid : Nat) (req : Nat) (p : List Byte) : Statement (.ownerEnrol dt sid req p) := fun _ _ => ⟨rfl, rfl⟩
theorem ownerRelease (dt : Nat) (sid : Nat) (req : Nat) (p : List Byte) : Statement (.ownerRelease dt sid req p) := fun _ _ => ⟨rfl, rfl⟩
theorem imageLoadBegin (dt : Nat) (sid : Nat) (req : Nat) (p : List Byte) : Statement (.imageLoadBegin dt sid req p) := fun _ _ => ⟨rfl, rfl⟩
theorem imageData (dt : Nat) (sid : Nat) (req : Nat) (p : List Byte) : Statement (.imageData dt sid req p) := fun _ _ => ⟨rfl, rfl⟩
theorem imageLoadEnd (dt : Nat) (sid : Nat) (req : Nat) (p : List Byte) : Statement (.imageLoadEnd dt sid req p) := fun _ _ => ⟨rfl, rfl⟩
theorem imageVerify (dt : Nat) (sid : Nat) (req : Nat) (p : List Byte) : Statement (.imageVerify dt sid req p) := fun _ _ => ⟨rfl, rfl⟩
theorem imageAbort (dt : Nat) (sid : Nat) (req : Nat) (p : List Byte) : Statement (.imageAbort dt sid req p) := fun _ _ => ⟨rfl, rfl⟩
theorem imageAdopt (dt : Nat) (sid : Nat) (req : Nat) (p : List Byte) (partnerHasImage : Bool) (partnerSlotRef : Nat) (len : Nat) : Statement (.imageAdopt dt sid req p partnerHasImage partnerSlotRef len) := fun _ _ => ⟨rfl, rfl⟩
theorem imageCommit (dt : Nat) (sid : Nat) (req : Nat) (p : List Byte) : Statement (.imageCommit dt sid req p) := fun _ _ => ⟨rfl, rfl⟩
theorem olcPrepare (dt : Nat) (sid : Nat) (req : Nat) (p : List Byte) : Statement (.olcPrepare dt sid req p) := fun _ _ => ⟨rfl, rfl⟩
theorem olcSwitch (dt : Nat) (sid : Nat) (req : Nat) (p : List Byte) : Statement (.olcSwitch dt sid req p) := fun _ _ => ⟨rfl, rfl⟩
theorem olcAbort (dt : Nat) (sid : Nat) (req : Nat) (p : List Byte) : Statement (.olcAbort dt sid req p) := fun _ _ => ⟨rfl, rfl⟩
theorem forceSet (dt : Nat) (sid : Nat) (req : Nat) (p : List Byte) : Statement (.forceSet dt sid req p) := fun _ _ => ⟨rfl, rfl⟩
theorem forceRelease (dt : Nat) (sid : Nat) (req : Nat) (p : List Byte) : Statement (.forceRelease dt sid req p) := fun _ _ => ⟨rfl, rfl⟩
theorem barnCheckpoint (dt : Nat) (sid : Nat) (req : Nat) (p : List Byte) : Statement (.barnCheckpoint dt sid req p) := fun _ _ => ⟨rfl, rfl⟩
theorem safeEnter (dt : Nat) (sid : Nat) (req : Nat) (p : List Byte) : Statement (.safeEnter dt sid req p) := fun _ _ => ⟨rfl, rfl⟩
theorem safeClear (dt : Nat) (sid : Nat) (req : Nat) (p : List Byte) : Statement (.safeClear dt sid req p) := fun _ _ => ⟨rfl, rfl⟩
theorem eject (dt : Nat) (sid : Nat) (req : Nat) (p : List Byte) : Statement (.eject dt sid req p) := fun _ _ => ⟨rfl, rfl⟩
theorem timeSet (dt : Nat) (sid : Nat) (req : Nat) (p : List Byte) : Statement (.timeSet dt sid req p) := fun _ _ => ⟨rfl, rfl⟩
theorem hartPass (dt : Nat) (sid : Nat) (req : Nat) (p : List Byte) : Statement (.hartPass dt sid req p) := fun _ _ => ⟨rfl, rfl⟩
theorem uslAck (dt : Nat) (sid : Nat) (req : Nat) (p : List Byte) : Statement (.uslAck dt sid req p) := fun _ _ => ⟨rfl, rfl⟩
theorem pairHandover (dt : Nat) (sid : Nat) (req : Nat) (p : List Byte) : Statement (.pairHandover dt sid req p) := fun _ _ => ⟨rfl, rfl⟩
theorem pairSwaptest (dt : Nat) (sid : Nat) (req : Nat) (p : List Byte) : Statement (.pairSwaptest dt sid req p) := fun _ _ => ⟨rfl, rfl⟩
theorem pairClear (dt : Nat) (sid : Nat) (req : Nat) (p : List Byte) : Statement (.pairClear dt sid req p) := fun _ _ => ⟨rfl, rfl⟩
theorem pairSolo (dt : Nat) (sid : Nat) (req : Nat) (p : List Byte) : Statement (.pairSolo dt sid req p) := fun _ _ => ⟨rfl, rfl⟩
theorem brakeTest (dt : Nat) (sid : Nat) (req : Nat) (p : List Byte) : Statement (.brakeTest dt sid req p) := fun _ _ => ⟨rfl, rfl⟩
theorem safetyUnlock (dt : Nat) (sid : Nat) (req : Nat) (p : List Byte) : Statement (.safetyUnlock dt sid req p) := fun _ _ => ⟨rfl, rfl⟩
theorem soClear (dt : Nat) (sid : Nat) (req : Nat) (p : List Byte) (faultStands : Bool) : Statement (.soClear dt sid req p faultStands) := fun _ _ => ⟨rfl, rfl⟩
theorem uslDataReceived (dt : Nat) (rx : Option EthRx) (conn : Nat) (pdu : List Byte) : Statement (.uslDataReceived dt rx conn pdu) := fun _ _ => ⟨rfl, rfl⟩
theorem uslAckReceived (dt : Nat) (rx : Option EthRx) (conn : Nat) (pdu : List Byte) : Statement (.uslAckReceived dt rx conn pdu) := fun _ _ => ⟨rfl, rfl⟩
theorem uslWatchdogExpire (dt : Nat) (conn : Nat) : Statement (.uslWatchdogExpire dt conn) := fun _ _ => ⟨rfl, rfl⟩
theorem uslAckTimeout (dt : Nat) (conn : Nat) : Statement (.uslAckTimeout dt conn) := fun _ _ => ⟨rfl, rfl⟩
theorem uslCctlAck (dt : Nat) (m : Master) (conn : Nat) : Statement (.uslCctlAck dt m conn) := fun _ _ => ⟨rfl, rfl⟩
theorem uslCcntClr (dt : Nat) (m : Master) (conn : Nat) : Statement (.uslCcntClr dt m conn) := fun _ _ => ⟨rfl, rfl⟩
theorem brakeOn (dt : Nat) (ch : Nat) (fsOk : Bool) : Statement (.brakeOn dt ch fsOk) := fun _ _ => ⟨rfl, rfl⟩
theorem brakeDemand (dt : Nat) (ch : Nat) (fsOk : Bool) : Statement (.brakeDemand dt ch fsOk) := fun _ _ => ⟨rfl, rfl⟩
theorem testPulseStart (dt : Nat) (ch : Nat) : Statement (.testPulseStart dt ch) := fun _ _ => ⟨rfl, rfl⟩
theorem testPulseCheck (dt : Nat) (ch : Nat) (off : Bool) : Statement (.testPulseCheck dt ch off) := fun _ _ => ⟨rfl, rfl⟩
theorem testPulseEnd (dt : Nat) (ch : Nat) : Statement (.testPulseEnd dt ch) := fun _ _ => ⟨rfl, rfl⟩
theorem testPulseOverdue (dt : Nat) (ch : Nat) : Statement (.testPulseOverdue dt ch) := fun _ _ => ⟨rfl, rfl⟩
theorem brakeChannelFault (dt : Nat) (ch : Nat) (cause : Nat) (mA : Nat) (vhs : Nat) (vls : Nat) : Statement (.brakeChannelFault dt ch cause mA vhs vls) := fun _ _ => ⟨rfl, rfl⟩
theorem brakeTestPhaseEnd (dt : Nat) (ch : Nat) (ok : Bool) : Statement (.brakeTestPhaseEnd dt ch ok) := fun _ _ => ⟨rfl, rfl⟩
theorem testDue (dt : Nat) (ch : Nat) : Statement (.testDue dt ch) := fun _ _ => ⟨rfl, rfl⟩
theorem safetyUnlockExpire (dt : Nat) (sid : Nat) : Statement (.safetyUnlockExpire dt sid) := fun _ _ => ⟨rfl, rfl⟩
theorem safetyPwdLockoutEnd (dt : Nat) : Statement (.safetyPwdLockoutEnd dt) := fun _ _ => ⟨rfl, rfl⟩
theorem soBcntClr (dt : Nat) (m : Master) (k : Nat) : Statement (.soBcntClr dt m k) := fun _ _ => ⟨rfl, rfl⟩
theorem soLogIdx (dt : Nat) (m : Master) (value : W32) : Statement (.soLogIdx dt m value) := fun _ _ => ⟨rfl, rfl⟩
theorem helloSend (dt : Nat) : Statement (.helloSend dt) := fun _ _ => ⟨rfl, rfl⟩
theorem helloReceived (dt : Nat) (lane : Nat) (hello : Hello) : Statement (.helloReceived dt lane hello) := fun _ _ => ⟨rfl, rfl⟩
theorem laneDown (dt : Nat) (lane : Nat) : Statement (.laneDown dt lane) := fun _ _ => ⟨rfl, rfl⟩
theorem partnerSilent (dt : Nat) : Statement (.partnerSilent dt) := fun _ _ => ⟨rfl, rfl⟩
theorem pairFormed (dt : Nat) : Statement (.pairFormed dt) := fun _ _ => ⟨rfl, rfl⟩
theorem pairSelfElect (dt : Nat) : Statement (.pairSelfElect dt) := fun _ _ => ⟨rfl, rfl⟩
theorem singleActivate (dt : Nat) : Statement (.singleActivate dt) := fun _ _ => ⟨rfl, rfl⟩
theorem mirrorFrameReceived (dt : Nat) (lane : Nat) (msg : MirrorMsg) : Statement (.mirrorFrameReceived dt lane msg) := fun _ _ => ⟨rfl, rfl⟩
theorem shadowSend (dt : Nat) : Statement (.shadowSend dt) := fun _ _ => ⟨rfl, rfl⟩
theorem shadowReceived (dt : Nat) (lane : Nat) (ok : Bool) (sh : Shadow) : Statement (.shadowReceived dt lane ok sh) := fun _ _ => ⟨rfl, rfl⟩
theorem offerNotice (dt : Nat) (lane : Nat) (hx : Nat) (swap : Bool) : Statement (.offerNotice dt lane hx swap) := fun _ _ => ⟨rfl, rfl⟩
theorem acceptNotice (dt : Nat) (lane : Nat) : Statement (.acceptNotice dt lane) := fun _ _ => ⟨rfl, rfl⟩
theorem declineNotice (dt : Nat) (lane : Nat) : Statement (.declineNotice dt lane) := fun _ _ => ⟨rfl, rfl⟩
theorem relinquishNotice (dt : Nat) (lane : Nat) (cause : Nat) : Statement (.relinquishNotice dt lane cause) := fun _ _ => ⟨rfl, rfl⟩
theorem switchNotice (dt : Nat) (lane : Nat) (ts : Nat) : Statement (.switchNotice dt lane ts) := fun _ _ => ⟨rfl, rfl⟩
theorem safeNotice (dt : Nat) (lane : Nat) : Statement (.safeNotice dt lane) := fun _ _ => ⟨rfl, rfl⟩
theorem imgreq (dt : Nat) (lane : Nat) : Statement (.imgreq dt lane) := fun _ _ => ⟨rfl, rfl⟩
theorem imgdata (dt : Nat) (lane : Nat) (ofs : Nat) (data : List Byte) : Statement (.imgdata dt lane ofs data) := fun _ _ => ⟨rfl, rfl⟩
theorem roundStart (dt : Nat) : Statement (.roundStart dt) := fun _ _ => ⟨rfl, rfl⟩
theorem statusSend (dt : Nat) : Statement (.statusSend dt) := fun _ _ => ⟨rfl, rfl⟩
theorem statusReceived (dt : Nat) (msg : StatusMsg) (us : Nat) : Statement (.statusReceived dt msg us) := fun _ _ => ⟨rfl, rfl⟩
theorem roundReceived (dt : Nat) (msg : RoundMsg) : Statement (.roundReceived dt msg) := fun _ _ => ⟨rfl, rfl⟩
theorem refereeAbsent (dt : Nat) : Statement (.refereeAbsent dt) := fun _ _ => ⟨rfl, rfl⟩
theorem takeover (dt : Nat) : Statement (.takeover dt) := fun _ _ => ⟨rfl, rfl⟩
theorem ownerStuck (dt : Nat) : Statement (.ownerStuck dt) := fun _ _ => ⟨rfl, rfl⟩
theorem ownerMismatch (dt : Nat) : Statement (.ownerMismatch dt) := fun _ _ => ⟨rfl, rfl⟩
theorem handoverTx (dt : Nat) : Statement (.handoverTx dt) := fun _ _ => ⟨rfl, rfl⟩
theorem revertStart (dt : Nat) : Statement (.revertStart dt) := fun _ _ => ⟨rfl, rfl⟩
theorem swapTestStart (dt : Nat) : Statement (.swapTestStart dt) := fun _ _ => ⟨rfl, rfl⟩
theorem swapDwellEnd (dt : Nat) : Statement (.swapDwellEnd dt) := fun _ _ => ⟨rfl, rfl⟩
theorem pairMcntClr (dt : Nat) (m : Master) : Statement (.pairMcntClr dt m) := fun _ _ => ⟨rfl, rfl⟩
theorem clockCheck (dt : Nat) (ofSafety : Bool) (count : Nat) : Statement (.clockCheck dt ofSafety count) := fun _ _ => ⟨rfl, rfl⟩
theorem mgmtWatchdogExpire (dt : Nat) : Statement (.mgmtWatchdogExpire dt) := fun _ _ => ⟨rfl, rfl⟩
theorem safetySelftest (dt : Nat) (ok : Bool) : Statement (.safetySelftest dt ok) := fun _ _ => ⟨rfl, rfl⟩
theorem signatureCompare (dt : Nat) (agree : Bool) : Statement (.signatureCompare dt agree) := fun _ _ => ⟨rfl, rfl⟩
theorem checkerTest (dt : Nat) (ok : Bool) : Statement (.checkerTest dt ok) := fun _ _ => ⟨rfl, rfl⟩
theorem scrubWord (dt : Nat) (loc : MemLoc) (p1 : Bool) (p2 : Bool) (same : Bool) : Statement (.scrubWord dt loc p1 p2 same) := fun _ _ => ⟨rfl, rfl⟩
theorem functionRung (dt : Nat) (f : Nat) (unit : Option Nat) : Statement (.functionRung dt f unit) := fun _ _ => ⟨rfl, rfl⟩
theorem moduleRung (dt : Nat) : Statement (.moduleRung dt) := fun _ _ => ⟨rfl, rfl⟩
theorem resetRelease (dt : Nat) (r1 : Nat) (r2 : Nat) (r3 : Nat) : Statement (.resetRelease dt r1 r2 r3) := fun _ _ => ⟨rfl, rfl⟩
theorem pcycIgnored (dt : Nat) : Statement (.pcycIgnored dt) := fun _ _ => ⟨rfl, rfl⟩
theorem ladderWindowExpire (dt : Nat) (f : Option Nat) (unit : Option Nat) : Statement (.ladderWindowExpire dt f unit) := fun _ _ => ⟨rfl, rfl⟩
theorem diagRecoverUnit (dt : Nat) (m : Master) (f : Nat) (unit : Nat) : Statement (.diagRecoverUnit dt m f unit) := fun _ _ => ⟨rfl, rfl⟩
theorem diagRecoverModule (dt : Nat) (m : Master) : Statement (.diagRecoverModule dt m) := fun _ _ => ⟨rfl, rfl⟩
theorem diagFcntClr (dt : Nat) (m : Master) (f : Nat) : Statement (.diagFcntClr dt m f) := fun _ _ => ⟨rfl, rfl⟩
theorem diagMemClr (dt : Nat) (m : Master) : Statement (.diagMemClr dt m) := fun _ _ => ⟨rfl, rfl⟩
theorem recordWriteDone (dt : Nat) : Statement (.recordWriteDone dt) := fun _ _ => ⟨rfl, rfl⟩
theorem logLostClr (dt : Nat) (m : Master) : Statement (.logLostClr dt m) := fun _ _ => ⟨rfl, rfl⟩
theorem logPeakClr (dt : Nat) (m : Master) : Statement (.logPeakClr dt m) := fun _ _ => ⟨rfl, rfl⟩
theorem logRdNum (dt : Nat) (m : Master) (value : W32) : Statement (.logRdNum dt m value) := fun _ _ => ⟨rfl, rfl⟩
theorem seqLstatClr (dt : Nat) (m : Master) (k : Nat) : Statement (.seqLstatClr dt m k) := fun _ _ => ⟨rfl, rfl⟩
theorem imgSlotIdx (dt : Nat) (m : Master) (value : W32) : Statement (.imgSlotIdx dt m value) := fun _ _ => ⟨rfl, rfl⟩
theorem imgInstIdx (dt : Nat) (m : Master) (value : W32) : Statement (.imgInstIdx dt m value) := fun _ _ => ⟨rfl, rfl⟩
theorem imgFindId (dt : Nat) (m : Master) (value : W32) : Statement (.imgFindId dt m value) := fun _ _ => ⟨rfl, rfl⟩
theorem msSlotIdx (dt : Nat) (m : Master) (value : W32) : Statement (.msSlotIdx dt m value) := fun _ _ => ⟨rfl, rfl⟩
theorem msSlotCommit (dt : Nat) (m : Master) (value : W32) : Statement (.msSlotCommit dt m value) := fun _ _ => ⟨rfl, rfl⟩
theorem loopCoefA (dt : Nat) (m : Master) (n : Nat) (value : W32) : Statement (.loopCoefA dt m n value) := fun _ _ => ⟨rfl, rfl⟩
theorem loopSwap (dt : Nat) (m : Master) (n : Nat) (modeReq : Nat) : Statement (.loopSwap dt m n modeReq) := fun _ _ => ⟨rfl, rfl⟩
theorem loopSupack (dt : Nat) (m : Master) (n : Nat) (modeReq : Nat) : Statement (.loopSupack dt m n modeReq) := fun _ _ => ⟨rfl, rfl⟩
theorem loopCntClr (dt : Nat) (m : Master) (n : Nat) : Statement (.loopCntClr dt m n) := fun _ _ => ⟨rfl, rfl⟩
theorem slvWinSel (dt : Nat) (m : Master) (value : W32) : Statement (.slvWinSel dt m value) := fun _ _ => ⟨rfl, rfl⟩
theorem slvPcntClr (dt : Nat) (m : Master) (p : Nat) : Statement (.slvPcntClr dt m p) := fun _ _ => ⟨rfl, rfl⟩
theorem aiChCntClr (dt : Nat) (m : Master) (n : Nat) : Statement (.aiChCntClr dt m n) := fun _ _ => ⟨rfl, rfl⟩
theorem mateContactOpen (dt : Nat) (mate2 : Bool) : Statement (.mateContactOpen dt mate2) := fun _ _ => ⟨rfl, rfl⟩
theorem powerReturn (dt : Nat) : Statement (.powerReturn dt) := fun _ _ => ⟨rfl, rfl⟩
theorem feedOkChange (dt : Nat) (feedB : Bool) (mV : Nat) : Statement (.feedOkChange dt feedB mV) := fun _ _ => ⟨rfl, rfl⟩
theorem dioSupplyReturn (dt : Nat) (groupB : Bool) : Statement (.dioSupplyReturn dt groupB) := fun _ _ => ⟨rfl, rfl⟩
theorem aoChannelNoFrame (dt : Nat) (ch : Nat) : Statement (.aoChannelNoFrame dt ch) := fun _ _ => ⟨rfl, rfl⟩
theorem canReceiveError (dt : Nat) (ch : Nat) (primary : Bool) (more : Nat) : Statement (.canReceiveError dt ch primary more) := fun _ _ => ⟨rfl, rfl⟩
theorem arpRequest (dt : Nat) (rx : EthRx) (ip : W32) : Statement (.arpRequest dt rx ip) := fun _ _ => ⟨rfl, rfl⟩
theorem icmpEchoRequest (dt : Nat) (rx : EthRx) (ip : W32) : Statement (.icmpEchoRequest dt rx ip) := fun _ _ => ⟨rfl, rfl⟩
theorem ptpAnnounceReceived (dt : Nat) (e2 : Bool) (msg : Announce) : Statement (.ptpAnnounceReceived dt e2 msg) := fun _ _ => ⟨rfl, rfl⟩
theorem pcycReqEnd (dt : Nat) : Statement (.pcycReqEnd dt) := fun _ _ => ⟨rfl, rfl⟩

end Sys2Proof.Laws.Timed
end

