-- ==== Sys2Proof/Laws/State.lean ====
section
/-! SUPPORT. What the shared operations leave unchanged, one lemma for each field of State, and the little that they
change: no later proof unfolds a record update. -/

namespace Sys2Proof.Machine

variable (s : State)

@[simp] theorem State.writeSlot_clock (i : Nat) (v : W32) (q : Byte) : (s.writeSlot i v q).clock = s.clock := by
  unfold State.writeSlot; split <;> rfl
@[simp] theorem State.writeSlot_tickOrigin (i : Nat) (v : W32) (q : Byte) : (s.writeSlot i v q).tickOrigin = s.tickOrigin := by
  unfold State.writeSlot; split <;> rfl
@[simp] theorem State.writeSlot_sysTime (i : Nat) (v : W32) (q : Byte) : (s.writeSlot i v q).sysTime = s.sysTime := by
  unfold State.writeSlot; split <;> rfl
@[simp] theorem State.writeSlot_rate (i : Nat) (v : W32) (q : Byte) : (s.writeSlot i v q).rate = s.rate := by
  unfold State.writeSlot; split <;> rfl
@[simp] theorem State.writeSlot_rateInt (i : Nat) (v : W32) (q : Byte) : (s.writeSlot i v q).rateInt = s.rateInt := by
  unfold State.writeSlot; split <;> rfl
@[simp] theorem State.writeSlot_mode (i : Nat) (v : W32) (q : Byte) : (s.writeSlot i v q).mode = s.mode := by
  unfold State.writeSlot; split <;> rfl
@[simp] theorem State.writeSlot_power (i : Nat) (v : W32) (q : Byte) : (s.writeSlot i v q).power = s.power := by
  unfold State.writeSlot; split <;> rfl
@[simp] theorem State.writeSlot_boot (i : Nat) (v : W32) (q : Byte) : (s.writeSlot i v q).boot = s.boot := by
  unfold State.writeSlot; split <;> rfl
@[simp] theorem State.writeSlot_panel (i : Nat) (v : W32) (q : Byte) : (s.writeSlot i v q).panel = s.panel := by
  unfold State.writeSlot; split <;> rfl
@[simp] theorem State.writeSlot_store (i : Nat) (v : W32) (q : Byte) : (s.writeSlot i v q).store = s.store := by
  unfold State.writeSlot; split <;> rfl
@[simp] theorem State.writeSlot_bus (i : Nat) (v : W32) (q : Byte) : (s.writeSlot i v q).bus = s.bus := by
  unfold State.writeSlot; split <;> rfl
@[simp] theorem State.writeSlot_mgmt (i : Nat) (v : W32) (q : Byte) : (s.writeSlot i v q).mgmt = s.mgmt := by
  unfold State.writeSlot; split <;> rfl
@[simp] theorem State.writeSlot_seqm (i : Nat) (v : W32) (q : Byte) : (s.writeSlot i v q).seqm = s.seqm := by
  unfold State.writeSlot; split <;> rfl
@[simp] theorem State.writeSlot_sessions (i : Nat) (v : W32) (q : Byte) : (s.writeSlot i v q).sessions = s.sessions := by
  unfold State.writeSlot; split <;> rfl
@[simp] theorem State.writeSlot_waiting (i : Nat) (v : W32) (q : Byte) : (s.writeSlot i v q).waiting = s.waiting := by
  unfold State.writeSlot; split <;> rfl
@[simp] theorem State.writeSlot_forces (i : Nat) (v : W32) (q : Byte) : (s.writeSlot i v q).forces = s.forces := by
  unfold State.writeSlot; split <;> rfl
@[simp] theorem State.writeSlot_statLast (i : Nat) (v : W32) (q : Byte) : (s.writeSlot i v q).statLast = s.statLast := by
  unfold State.writeSlot; split <;> rfl
@[simp] theorem State.writeSlot_seq (i : Nat) (v : W32) (q : Byte) : (s.writeSlot i v q).seq = s.seq := by
  unfold State.writeSlot; split <;> rfl
@[simp] theorem State.writeSlot_barn (i : Nat) (v : W32) (q : Byte) : (s.writeSlot i v q).barn = s.barn := by
  unfold State.writeSlot; split <;> rfl
@[simp] theorem State.writeSlot_olc (i : Nat) (v : W32) (q : Byte) : (s.writeSlot i v q).olc = s.olc := by
  unfold State.writeSlot; split <;> rfl
@[simp] theorem State.writeSlot_ms (i : Nat) (v : W32) (q : Byte) : (s.writeSlot i v q).ms = s.ms := by
  unfold State.writeSlot; split <;> rfl
@[simp] theorem State.writeSlot_loop (i : Nat) (v : W32) (q : Byte) : (s.writeSlot i v q).loop = s.loop := by
  unfold State.writeSlot; split <;> rfl
@[simp] theorem State.writeSlot_slv (i : Nat) (v : W32) (q : Byte) : (s.writeSlot i v q).slv = s.slv := by
  unfold State.writeSlot; split <;> rfl
@[simp] theorem State.writeSlot_fld (i : Nat) (v : W32) (q : Byte) : (s.writeSlot i v q).fld = s.fld := by
  unfold State.writeSlot; split <;> rfl
@[simp] theorem State.writeSlot_can (i : Nat) (v : W32) (q : Byte) : (s.writeSlot i v q).can = s.can := by
  unfold State.writeSlot; split <;> rfl
@[simp] theorem State.writeSlot_eth (i : Nat) (v : W32) (q : Byte) : (s.writeSlot i v q).eth = s.eth := by
  unfold State.writeSlot; split <;> rfl
@[simp] theorem State.writeSlot_usl (i : Nat) (v : W32) (q : Byte) : (s.writeSlot i v q).usl = s.usl := by
  unfold State.writeSlot; split <;> rfl
@[simp] theorem State.writeSlot_so (i : Nat) (v : W32) (q : Byte) : (s.writeSlot i v q).so = s.so := by
  unfold State.writeSlot; split <;> rfl
@[simp] theorem State.writeSlot_pair (i : Nat) (v : W32) (q : Byte) : (s.writeSlot i v q).pair = s.pair := by
  unfold State.writeSlot; split <;> rfl
@[simp] theorem State.writeSlot_diag (i : Nat) (v : W32) (q : Byte) : (s.writeSlot i v q).diag = s.diag := by
  unfold State.writeSlot; split <;> rfl
@[simp] theorem State.writeSlot_snap (i : Nat) (v : W32) (q : Byte) : (s.writeSlot i v q).snap = s.snap := by
  unfold State.writeSlot; split <;> rfl
@[simp] theorem State.writeSlot_log (i : Nat) (v : W32) (q : Byte) : (s.writeSlot i v q).log = s.log := by
  unfold State.writeSlot; split <;> rfl
@[simp] theorem State.writeSlot_out (i : Nat) (v : W32) (q : Byte) : (s.writeSlot i v q).out = s.out := by
  unfold State.writeSlot; split <;> rfl
@[simp] theorem State.writeSlot_freeCtr (i : Nat) (v : W32) (q : Byte) : (s.writeSlot i v q).freeCtr = s.freeCtr := by
  unfold State.writeSlot; split <;> rfl
@[simp] theorem State.writeSlot_expiring (i : Nat) (v : W32) (q : Byte) : (s.writeSlot i v q).expiring = s.expiring := by
  unfold State.writeSlot; split <;> rfl
@[simp] theorem State.writeSlot_pending (i : Nat) (v : W32) (q : Byte) : (s.writeSlot i v q).pending = s.pending := by
  unfold State.writeSlot; split <;> rfl

@[simp] theorem State.fixViews_clock : (s.fixViews).clock = s.clock := rfl
@[simp] theorem State.fixViews_tickOrigin : (s.fixViews).tickOrigin = s.tickOrigin := rfl
@[simp] theorem State.fixViews_sysTime : (s.fixViews).sysTime = s.sysTime := rfl
@[simp] theorem State.fixViews_rate : (s.fixViews).rate = s.rate := rfl
@[simp] theorem State.fixViews_rateInt : (s.fixViews).rateInt = s.rateInt := rfl
@[simp] theorem State.fixViews_mode : (s.fixViews).mode = s.mode := rfl
@[simp] theorem State.fixViews_power : (s.fixViews).power = s.power := rfl
@[simp] theorem State.fixViews_boot : (s.fixViews).boot = s.boot := rfl
@[simp] theorem State.fixViews_panel : (s.fixViews).panel = s.panel := rfl
@[simp] theorem State.fixViews_store : (s.fixViews).store = s.store := rfl
@[simp] theorem State.fixViews_bus : (s.fixViews).bus = s.bus := rfl
@[simp] theorem State.fixViews_mgmt : (s.fixViews).mgmt = s.mgmt := rfl
@[simp] theorem State.fixViews_seqm : (s.fixViews).seqm = s.seqm := rfl
@[simp] theorem State.fixViews_sessions : (s.fixViews).sessions = s.sessions := rfl
@[simp] theorem State.fixViews_waiting : (s.fixViews).waiting = s.waiting := rfl
@[simp] theorem State.fixViews_slots : (s.fixViews).slots = s.slots := rfl
@[simp] theorem State.fixViews_forces : (s.fixViews).forces = s.forces := rfl
@[simp] theorem State.fixViews_statLast : (s.fixViews).statLast = s.statLast := rfl
@[simp] theorem State.fixViews_barn : (s.fixViews).barn = s.barn := rfl
@[simp] theorem State.fixViews_olc : (s.fixViews).olc = s.olc := rfl
@[simp] theorem State.fixViews_ms : (s.fixViews).ms = s.ms := rfl
@[simp] theorem State.fixViews_loop : (s.fixViews).loop = s.loop := rfl
@[simp] theorem State.fixViews_fld : (s.fixViews).fld = s.fld := rfl
@[simp] theorem State.fixViews_can : (s.fixViews).can = s.can := rfl
@[simp] theorem State.fixViews_eth : (s.fixViews).eth = s.eth := rfl
@[simp] theorem State.fixViews_usl : (s.fixViews).usl = s.usl := rfl
@[simp] theorem State.fixViews_so : (s.fixViews).so = s.so := rfl
@[simp] theorem State.fixViews_pair : (s.fixViews).pair = s.pair := rfl
@[simp] theorem State.fixViews_diag : (s.fixViews).diag = s.diag := rfl
@[simp] theorem State.fixViews_snap : (s.fixViews).snap = s.snap := rfl
@[simp] theorem State.fixViews_log : (s.fixViews).log = s.log := rfl
@[simp] theorem State.fixViews_out : (s.fixViews).out = s.out := rfl
@[simp] theorem State.fixViews_freeCtr : (s.fixViews).freeCtr = s.freeCtr := rfl
@[simp] theorem State.fixViews_expiring : (s.fixViews).expiring = s.expiring := rfl
@[simp] theorem State.fixViews_pending : (s.fixViews).pending = s.pending := rfl

@[simp] theorem State.elapse_tickOrigin (dt : Nat) : (s.elapse dt).tickOrigin = s.tickOrigin := by
  unfold State.elapse; split <;> rfl
@[simp] theorem State.elapse_rate (dt : Nat) : (s.elapse dt).rate = s.rate := by
  unfold State.elapse; split <;> rfl
@[simp] theorem State.elapse_rateInt (dt : Nat) : (s.elapse dt).rateInt = s.rateInt := by
  unfold State.elapse; split <;> rfl
@[simp] theorem State.elapse_mode (dt : Nat) : (s.elapse dt).mode = s.mode := by
  unfold State.elapse; split <;> rfl
@[simp] theorem State.elapse_power (dt : Nat) : (s.elapse dt).power = s.power := by
  unfold State.elapse; split <;> rfl
@[simp] theorem State.elapse_panel (dt : Nat) : (s.elapse dt).panel = s.panel := by
  unfold State.elapse; split <;> rfl
@[simp] theorem State.elapse_store (dt : Nat) : (s.elapse dt).store = s.store := by
  unfold State.elapse; split <;> rfl
@[simp] theorem State.elapse_mgmt (dt : Nat) : (s.elapse dt).mgmt = s.mgmt := by
  unfold State.elapse; split <;> rfl
@[simp] theorem State.elapse_seqm (dt : Nat) : (s.elapse dt).seqm = s.seqm := by
  unfold State.elapse; split <;> rfl
@[simp] theorem State.elapse_sessions (dt : Nat) : (s.elapse dt).sessions = s.sessions := by
  unfold State.elapse; split <;> rfl
@[simp] theorem State.elapse_waiting (dt : Nat) : (s.elapse dt).waiting = s.waiting := by
  unfold State.elapse; split <;> rfl
@[simp] theorem State.elapse_slots (dt : Nat) : (s.elapse dt).slots = s.slots := by
  unfold State.elapse; split <;> rfl
@[simp] theorem State.elapse_forces (dt : Nat) : (s.elapse dt).forces = s.forces := by
  unfold State.elapse; split <;> rfl
@[simp] theorem State.elapse_statLast (dt : Nat) : (s.elapse dt).statLast = s.statLast := by
  unfold State.elapse; split <;> rfl
@[simp] theorem State.elapse_seq (dt : Nat) : (s.elapse dt).seq = s.seq := by
  unfold State.elapse; split <;> rfl
@[simp] theorem State.elapse_barn (dt : Nat) : (s.elapse dt).barn = s.barn := by
  unfold State.elapse; split <;> rfl
@[simp] theorem State.elapse_olc (dt : Nat) : (s.elapse dt).olc = s.olc := by
  unfold State.elapse; split <;> rfl
@[simp] theorem State.elapse_loop (dt : Nat) : (s.elapse dt).loop = s.loop := by
  unfold State.elapse; split <;> rfl
@[simp] theorem State.elapse_slv (dt : Nat) : (s.elapse dt).slv = s.slv := by
  unfold State.elapse; split <;> rfl
@[simp] theorem State.elapse_fld (dt : Nat) : (s.elapse dt).fld = s.fld := by
  unfold State.elapse; split <;> rfl
@[simp] theorem State.elapse_can (dt : Nat) : (s.elapse dt).can = s.can := by
  unfold State.elapse; split <;> rfl
@[simp] theorem State.elapse_eth (dt : Nat) : (s.elapse dt).eth = s.eth := by
  unfold State.elapse; split <;> rfl
@[simp] theorem State.elapse_usl (dt : Nat) : (s.elapse dt).usl = s.usl := by
  unfold State.elapse; split <;> rfl
@[simp] theorem State.elapse_so (dt : Nat) : (s.elapse dt).so = s.so := by
  unfold State.elapse; split <;> rfl
@[simp] theorem State.elapse_pair (dt : Nat) : (s.elapse dt).pair = s.pair := by
  unfold State.elapse; split <;> rfl
@[simp] theorem State.elapse_diag (dt : Nat) : (s.elapse dt).diag = s.diag := by
  unfold State.elapse; split <;> rfl
@[simp] theorem State.elapse_snap (dt : Nat) : (s.elapse dt).snap = s.snap := by
  unfold State.elapse; split <;> rfl
@[simp] theorem State.elapse_out (dt : Nat) : (s.elapse dt).out = s.out := by
  unfold State.elapse; split <;> rfl
@[simp] theorem State.elapse_freeCtr (dt : Nat) : (s.elapse dt).freeCtr = s.freeCtr := by
  unfold State.elapse; split <;> rfl
@[simp] theorem State.elapse_expiring (dt : Nat) : (s.elapse dt).expiring = s.expiring := by
  unfold State.elapse; split <;> rfl
@[simp] theorem State.elapse_pending (dt : Nat) : (s.elapse dt).pending = s.pending := by
  unfold State.elapse; split <;> rfl

@[simp] theorem State.latchSet_clock (addr bits : Nat) : (s.latchSet addr bits).clock = s.clock := rfl
@[simp] theorem State.latchSet_tickOrigin (addr bits : Nat) : (s.latchSet addr bits).tickOrigin = s.tickOrigin := rfl
@[simp] theorem State.latchSet_sysTime (addr bits : Nat) : (s.latchSet addr bits).sysTime = s.sysTime := rfl
@[simp] theorem State.latchSet_rate (addr bits : Nat) : (s.latchSet addr bits).rate = s.rate := rfl
@[simp] theorem State.latchSet_rateInt (addr bits : Nat) : (s.latchSet addr bits).rateInt = s.rateInt := rfl
@[simp] theorem State.latchSet_mode (addr bits : Nat) : (s.latchSet addr bits).mode = s.mode := rfl
@[simp] theorem State.latchSet_power (addr bits : Nat) : (s.latchSet addr bits).power = s.power := rfl
@[simp] theorem State.latchSet_boot (addr bits : Nat) : (s.latchSet addr bits).boot = s.boot := rfl
@[simp] theorem State.latchSet_panel (addr bits : Nat) : (s.latchSet addr bits).panel = s.panel := rfl
@[simp] theorem State.latchSet_store (addr bits : Nat) : (s.latchSet addr bits).store = s.store := rfl
@[simp] theorem State.latchSet_mgmt (addr bits : Nat) : (s.latchSet addr bits).mgmt = s.mgmt := rfl
@[simp] theorem State.latchSet_seqm (addr bits : Nat) : (s.latchSet addr bits).seqm = s.seqm := rfl
@[simp] theorem State.latchSet_sessions (addr bits : Nat) : (s.latchSet addr bits).sessions = s.sessions := rfl
@[simp] theorem State.latchSet_waiting (addr bits : Nat) : (s.latchSet addr bits).waiting = s.waiting := rfl
@[simp] theorem State.latchSet_slots (addr bits : Nat) : (s.latchSet addr bits).slots = s.slots := rfl
@[simp] theorem State.latchSet_forces (addr bits : Nat) : (s.latchSet addr bits).forces = s.forces := rfl
@[simp] theorem State.latchSet_statLast (addr bits : Nat) : (s.latchSet addr bits).statLast = s.statLast := rfl
@[simp] theorem State.latchSet_seq (addr bits : Nat) : (s.latchSet addr bits).seq = s.seq := rfl
@[simp] theorem State.latchSet_barn (addr bits : Nat) : (s.latchSet addr bits).barn = s.barn := rfl
@[simp] theorem State.latchSet_olc (addr bits : Nat) : (s.latchSet addr bits).olc = s.olc := rfl
@[simp] theorem State.latchSet_ms (addr bits : Nat) : (s.latchSet addr bits).ms = s.ms := rfl
@[simp] theorem State.latchSet_loop (addr bits : Nat) : (s.latchSet addr bits).loop = s.loop := rfl
@[simp] theorem State.latchSet_slv (addr bits : Nat) : (s.latchSet addr bits).slv = s.slv := rfl
@[simp] theorem State.latchSet_fld (addr bits : Nat) : (s.latchSet addr bits).fld = s.fld := rfl
@[simp] theorem State.latchSet_can (addr bits : Nat) : (s.latchSet addr bits).can = s.can := rfl
@[simp] theorem State.latchSet_eth (addr bits : Nat) : (s.latchSet addr bits).eth = s.eth := rfl
@[simp] theorem State.latchSet_usl (addr bits : Nat) : (s.latchSet addr bits).usl = s.usl := rfl
@[simp] theorem State.latchSet_so (addr bits : Nat) : (s.latchSet addr bits).so = s.so := rfl
@[simp] theorem State.latchSet_pair (addr bits : Nat) : (s.latchSet addr bits).pair = s.pair := rfl
@[simp] theorem State.latchSet_diag (addr bits : Nat) : (s.latchSet addr bits).diag = s.diag := rfl
@[simp] theorem State.latchSet_snap (addr bits : Nat) : (s.latchSet addr bits).snap = s.snap := rfl
@[simp] theorem State.latchSet_log (addr bits : Nat) : (s.latchSet addr bits).log = s.log := rfl
@[simp] theorem State.latchSet_out (addr bits : Nat) : (s.latchSet addr bits).out = s.out := rfl
@[simp] theorem State.latchSet_freeCtr (addr bits : Nat) : (s.latchSet addr bits).freeCtr = s.freeCtr := rfl
@[simp] theorem State.latchSet_expiring (addr bits : Nat) : (s.latchSet addr bits).expiring = s.expiring := rfl
@[simp] theorem State.latchSet_pending (addr bits : Nat) : (s.latchSet addr bits).pending = s.pending := rfl

@[simp] theorem State.parityFresh_clock (k : Nat) : (s.parityFresh k).clock = s.clock := rfl
@[simp] theorem State.parityFresh_tickOrigin (k : Nat) : (s.parityFresh k).tickOrigin = s.tickOrigin := rfl
@[simp] theorem State.parityFresh_sysTime (k : Nat) : (s.parityFresh k).sysTime = s.sysTime := rfl
@[simp] theorem State.parityFresh_rate (k : Nat) : (s.parityFresh k).rate = s.rate := rfl
@[simp] theorem State.parityFresh_rateInt (k : Nat) : (s.parityFresh k).rateInt = s.rateInt := rfl
@[simp] theorem State.parityFresh_mode (k : Nat) : (s.parityFresh k).mode = s.mode := rfl
@[simp] theorem State.parityFresh_power (k : Nat) : (s.parityFresh k).power = s.power := rfl
@[simp] theorem State.parityFresh_boot (k : Nat) : (s.parityFresh k).boot = s.boot := rfl
@[simp] theorem State.parityFresh_panel (k : Nat) : (s.parityFresh k).panel = s.panel := rfl
@[simp] theorem State.parityFresh_store (k : Nat) : (s.parityFresh k).store = s.store := rfl
@[simp] theorem State.parityFresh_mgmt (k : Nat) : (s.parityFresh k).mgmt = s.mgmt := rfl
@[simp] theorem State.parityFresh_seqm (k : Nat) : (s.parityFresh k).seqm = s.seqm := rfl
@[simp] theorem State.parityFresh_sessions (k : Nat) : (s.parityFresh k).sessions = s.sessions := rfl
@[simp] theorem State.parityFresh_waiting (k : Nat) : (s.parityFresh k).waiting = s.waiting := rfl
@[simp] theorem State.parityFresh_slots (k : Nat) : (s.parityFresh k).slots = s.slots := rfl
@[simp] theorem State.parityFresh_forces (k : Nat) : (s.parityFresh k).forces = s.forces := rfl
@[simp] theorem State.parityFresh_statLast (k : Nat) : (s.parityFresh k).statLast = s.statLast := rfl
@[simp] theorem State.parityFresh_seq (k : Nat) : (s.parityFresh k).seq = s.seq := rfl
@[simp] theorem State.parityFresh_barn (k : Nat) : (s.parityFresh k).barn = s.barn := rfl
@[simp] theorem State.parityFresh_olc (k : Nat) : (s.parityFresh k).olc = s.olc := rfl
@[simp] theorem State.parityFresh_ms (k : Nat) : (s.parityFresh k).ms = s.ms := rfl
@[simp] theorem State.parityFresh_loop (k : Nat) : (s.parityFresh k).loop = s.loop := rfl
@[simp] theorem State.parityFresh_slv (k : Nat) : (s.parityFresh k).slv = s.slv := rfl
@[simp] theorem State.parityFresh_fld (k : Nat) : (s.parityFresh k).fld = s.fld := rfl
@[simp] theorem State.parityFresh_can (k : Nat) : (s.parityFresh k).can = s.can := rfl
@[simp] theorem State.parityFresh_eth (k : Nat) : (s.parityFresh k).eth = s.eth := rfl
@[simp] theorem State.parityFresh_usl (k : Nat) : (s.parityFresh k).usl = s.usl := rfl
@[simp] theorem State.parityFresh_so (k : Nat) : (s.parityFresh k).so = s.so := rfl
@[simp] theorem State.parityFresh_pair (k : Nat) : (s.parityFresh k).pair = s.pair := rfl
@[simp] theorem State.parityFresh_diag (k : Nat) : (s.parityFresh k).diag = s.diag := rfl
@[simp] theorem State.parityFresh_snap (k : Nat) : (s.parityFresh k).snap = s.snap := rfl
@[simp] theorem State.parityFresh_log (k : Nat) : (s.parityFresh k).log = s.log := rfl
@[simp] theorem State.parityFresh_out (k : Nat) : (s.parityFresh k).out = s.out := rfl
@[simp] theorem State.parityFresh_freeCtr (k : Nat) : (s.parityFresh k).freeCtr = s.freeCtr := rfl
@[simp] theorem State.parityFresh_expiring (k : Nat) : (s.parityFresh k).expiring = s.expiring := rfl
@[simp] theorem State.parityFresh_pending (k : Nat) : (s.parityFresh k).pending = s.pending := rfl

@[simp] theorem State.modSession_clock (sid : Nat) (f : Session → Session) : (s.modSession sid f).clock = s.clock := rfl
@[simp] theorem State.modSession_tickOrigin (sid : Nat) (f : Session → Session) : (s.modSession sid f).tickOrigin = s.tickOrigin := rfl
@[simp] theorem State.modSession_sysTime (sid : Nat) (f : Session → Session) : (s.modSession sid f).sysTime = s.sysTime := rfl
@[simp] theorem State.modSession_rate (sid : Nat) (f : Session → Session) : (s.modSession sid f).rate = s.rate := rfl
@[simp] theorem State.modSession_rateInt (sid : Nat) (f : Session → Session) : (s.modSession sid f).rateInt = s.rateInt := rfl
@[simp] theorem State.modSession_mode (sid : Nat) (f : Session → Session) : (s.modSession sid f).mode = s.mode := rfl
@[simp] theorem State.modSession_power (sid : Nat) (f : Session → Session) : (s.modSession sid f).power = s.power := rfl
@[simp] theorem State.modSession_boot (sid : Nat) (f : Session → Session) : (s.modSession sid f).boot = s.boot := rfl
@[simp] theorem State.modSession_panel (sid : Nat) (f : Session → Session) : (s.modSession sid f).panel = s.panel := rfl
@[simp] theorem State.modSession_store (sid : Nat) (f : Session → Session) : (s.modSession sid f).store = s.store := rfl
@[simp] theorem State.modSession_bus (sid : Nat) (f : Session → Session) : (s.modSession sid f).bus = s.bus := rfl
@[simp] theorem State.modSession_mgmt (sid : Nat) (f : Session → Session) : (s.modSession sid f).mgmt = s.mgmt := rfl
@[simp] theorem State.modSession_seqm (sid : Nat) (f : Session → Session) : (s.modSession sid f).seqm = s.seqm := rfl
@[simp] theorem State.modSession_waiting (sid : Nat) (f : Session → Session) : (s.modSession sid f).waiting = s.waiting := rfl
@[simp] theorem State.modSession_slots (sid : Nat) (f : Session → Session) : (s.modSession sid f).slots = s.slots := rfl
@[simp] theorem State.modSession_forces (sid : Nat) (f : Session → Session) : (s.modSession sid f).forces = s.forces := rfl
@[simp] theorem State.modSession_statLast (sid : Nat) (f : Session → Session) : (s.modSession sid f).statLast = s.statLast := rfl
@[simp] theorem State.modSession_seq (sid : Nat) (f : Session → Session) : (s.modSession sid f).seq = s.seq := rfl
@[simp] theorem State.modSession_barn (sid : Nat) (f : Session → Session) : (s.modSession sid f).barn = s.barn := rfl
@[simp] theorem State.modSession_olc (sid : Nat) (f : Session → Session) : (s.modSession sid f).olc = s.olc := rfl
@[simp] theorem State.modSession_ms (sid : Nat) (f : Session → Session) : (s.modSession sid f).ms = s.ms := rfl
@[simp] theorem State.modSession_loop (sid : Nat) (f : Session → Session) : (s.modSession sid f).loop = s.loop := rfl
@[simp] theorem State.modSession_slv (sid : Nat) (f : Session → Session) : (s.modSession sid f).slv = s.slv := rfl
@[simp] theorem State.modSession_fld (sid : Nat) (f : Session → Session) : (s.modSession sid f).fld = s.fld := rfl
@[simp] theorem State.modSession_can (sid : Nat) (f : Session → Session) : (s.modSession sid f).can = s.can := rfl
@[simp] theorem State.modSession_eth (sid : Nat) (f : Session → Session) : (s.modSession sid f).eth = s.eth := rfl
@[simp] theorem State.modSession_usl (sid : Nat) (f : Session → Session) : (s.modSession sid f).usl = s.usl := rfl
@[simp] theorem State.modSession_so (sid : Nat) (f : Session → Session) : (s.modSession sid f).so = s.so := rfl
@[simp] theorem State.modSession_pair (sid : Nat) (f : Session → Session) : (s.modSession sid f).pair = s.pair := rfl
@[simp] theorem State.modSession_diag (sid : Nat) (f : Session → Session) : (s.modSession sid f).diag = s.diag := rfl
@[simp] theorem State.modSession_snap (sid : Nat) (f : Session → Session) : (s.modSession sid f).snap = s.snap := rfl
@[simp] theorem State.modSession_log (sid : Nat) (f : Session → Session) : (s.modSession sid f).log = s.log := rfl
@[simp] theorem State.modSession_out (sid : Nat) (f : Session → Session) : (s.modSession sid f).out = s.out := rfl
@[simp] theorem State.modSession_freeCtr (sid : Nat) (f : Session → Session) : (s.modSession sid f).freeCtr = s.freeCtr := rfl
@[simp] theorem State.modSession_expiring (sid : Nat) (f : Session → Session) : (s.modSession sid f).expiring = s.expiring := rfl
@[simp] theorem State.modSession_pending (sid : Nat) (f : Session → Session) : (s.modSession sid f).pending = s.pending := rfl

@[simp] theorem State.heard_clock (sid : Nat) : (s.heard sid).clock = s.clock := rfl
@[simp] theorem State.heard_tickOrigin (sid : Nat) : (s.heard sid).tickOrigin = s.tickOrigin := rfl
@[simp] theorem State.heard_sysTime (sid : Nat) : (s.heard sid).sysTime = s.sysTime := rfl
@[simp] theorem State.heard_rate (sid : Nat) : (s.heard sid).rate = s.rate := rfl
@[simp] theorem State.heard_rateInt (sid : Nat) : (s.heard sid).rateInt = s.rateInt := rfl
@[simp] theorem State.heard_mode (sid : Nat) : (s.heard sid).mode = s.mode := rfl
@[simp] theorem State.heard_power (sid : Nat) : (s.heard sid).power = s.power := rfl
@[simp] theorem State.heard_boot (sid : Nat) : (s.heard sid).boot = s.boot := rfl
@[simp] theorem State.heard_panel (sid : Nat) : (s.heard sid).panel = s.panel := rfl
@[simp] theorem State.heard_store (sid : Nat) : (s.heard sid).store = s.store := rfl
@[simp] theorem State.heard_bus (sid : Nat) : (s.heard sid).bus = s.bus := rfl
@[simp] theorem State.heard_mgmt (sid : Nat) : (s.heard sid).mgmt = s.mgmt := rfl
@[simp] theorem State.heard_seqm (sid : Nat) : (s.heard sid).seqm = s.seqm := rfl
@[simp] theorem State.heard_waiting (sid : Nat) : (s.heard sid).waiting = s.waiting := rfl
@[simp] theorem State.heard_slots (sid : Nat) : (s.heard sid).slots = s.slots := rfl
@[simp] theorem State.heard_forces (sid : Nat) : (s.heard sid).forces = s.forces := rfl
@[simp] theorem State.heard_statLast (sid : Nat) : (s.heard sid).statLast = s.statLast := rfl
@[simp] theorem State.heard_seq (sid : Nat) : (s.heard sid).seq = s.seq := rfl
@[simp] theorem State.heard_barn (sid : Nat) : (s.heard sid).barn = s.barn := rfl
@[simp] theorem State.heard_olc (sid : Nat) : (s.heard sid).olc = s.olc := rfl
@[simp] theorem State.heard_ms (sid : Nat) : (s.heard sid).ms = s.ms := rfl
@[simp] theorem State.heard_loop (sid : Nat) : (s.heard sid).loop = s.loop := rfl
@[simp] theorem State.heard_slv (sid : Nat) : (s.heard sid).slv = s.slv := rfl
@[simp] theorem State.heard_fld (sid : Nat) : (s.heard sid).fld = s.fld := rfl
@[simp] theorem State.heard_can (sid : Nat) : (s.heard sid).can = s.can := rfl
@[simp] theorem State.heard_eth (sid : Nat) : (s.heard sid).eth = s.eth := rfl
@[simp] theorem State.heard_usl (sid : Nat) : (s.heard sid).usl = s.usl := rfl
@[simp] theorem State.heard_so (sid : Nat) : (s.heard sid).so = s.so := rfl
@[simp] theorem State.heard_pair (sid : Nat) : (s.heard sid).pair = s.pair := rfl
@[simp] theorem State.heard_diag (sid : Nat) : (s.heard sid).diag = s.diag := rfl
@[simp] theorem State.heard_snap (sid : Nat) : (s.heard sid).snap = s.snap := rfl
@[simp] theorem State.heard_log (sid : Nat) : (s.heard sid).log = s.log := rfl
@[simp] theorem State.heard_out (sid : Nat) : (s.heard sid).out = s.out := rfl
@[simp] theorem State.heard_freeCtr (sid : Nat) : (s.heard sid).freeCtr = s.freeCtr := rfl
@[simp] theorem State.heard_expiring (sid : Nat) : (s.heard sid).expiring = s.expiring := rfl
@[simp] theorem State.heard_pending (sid : Nat) : (s.heard sid).pending = s.pending := rfl

@[simp] theorem State.taken_clock (sid req cmd : Nat) : (s.taken sid req cmd).clock = s.clock := rfl
@[simp] theorem State.taken_tickOrigin (sid req cmd : Nat) : (s.taken sid req cmd).tickOrigin = s.tickOrigin := rfl
@[simp] theorem State.taken_sysTime (sid req cmd : Nat) : (s.taken sid req cmd).sysTime = s.sysTime := rfl
@[simp] theorem State.taken_rate (sid req cmd : Nat) : (s.taken sid req cmd).rate = s.rate := rfl
@[simp] theorem State.taken_rateInt (sid req cmd : Nat) : (s.taken sid req cmd).rateInt = s.rateInt := rfl
@[simp] theorem State.taken_mode (sid req cmd : Nat) : (s.taken sid req cmd).mode = s.mode := rfl
@[simp] theorem State.taken_power (sid req cmd : Nat) : (s.taken sid req cmd).power = s.power := rfl
@[simp] theorem State.taken_boot (sid req cmd : Nat) : (s.taken sid req cmd).boot = s.boot := rfl
@[simp] theorem State.taken_panel (sid req cmd : Nat) : (s.taken sid req cmd).panel = s.panel := rfl
@[simp] theorem State.taken_store (sid req cmd : Nat) : (s.taken sid req cmd).store = s.store := rfl
@[simp] theorem State.taken_bus (sid req cmd : Nat) : (s.taken sid req cmd).bus = s.bus := rfl
@[simp] theorem State.taken_mgmt (sid req cmd : Nat) : (s.taken sid req cmd).mgmt = s.mgmt := rfl
@[simp] theorem State.taken_seqm (sid req cmd : Nat) : (s.taken sid req cmd).seqm = s.seqm := rfl
@[simp] theorem State.taken_waiting (sid req cmd : Nat) : (s.taken sid req cmd).waiting = s.waiting := rfl
@[simp] theorem State.taken_slots (sid req cmd : Nat) : (s.taken sid req cmd).slots = s.slots := rfl
@[simp] theorem State.taken_forces (sid req cmd : Nat) : (s.taken sid req cmd).forces = s.forces := rfl
@[simp] theorem State.taken_statLast (sid req cmd : Nat) : (s.taken sid req cmd).statLast = s.statLast := rfl
@[simp] theorem State.taken_seq (sid req cmd : Nat) : (s.taken sid req cmd).seq = s.seq := rfl
@[simp] theorem State.taken_barn (sid req cmd : Nat) : (s.taken sid req cmd).barn = s.barn := rfl
@[simp] theorem State.taken_olc (sid req cmd : Nat) : (s.taken sid req cmd).olc = s.olc := rfl
@[simp] theorem State.taken_ms (sid req cmd : Nat) : (s.taken sid req cmd).ms = s.ms := rfl
@[simp] theorem State.taken_loop (sid req cmd : Nat) : (s.taken sid req cmd).loop = s.loop := rfl
@[simp] theorem State.taken_slv (sid req cmd : Nat) : (s.taken sid req cmd).slv = s.slv := rfl
@[simp] theorem State.taken_fld (sid req cmd : Nat) : (s.taken sid req cmd).fld = s.fld := rfl
@[simp] theorem State.taken_can (sid req cmd : Nat) : (s.taken sid req cmd).can = s.can := rfl
@[simp] theorem State.taken_eth (sid req cmd : Nat) : (s.taken sid req cmd).eth = s.eth := rfl
@[simp] theorem State.taken_usl (sid req cmd : Nat) : (s.taken sid req cmd).usl = s.usl := rfl
@[simp] theorem State.taken_so (sid req cmd : Nat) : (s.taken sid req cmd).so = s.so := rfl
@[simp] theorem State.taken_pair (sid req cmd : Nat) : (s.taken sid req cmd).pair = s.pair := rfl
@[simp] theorem State.taken_diag (sid req cmd : Nat) : (s.taken sid req cmd).diag = s.diag := rfl
@[simp] theorem State.taken_snap (sid req cmd : Nat) : (s.taken sid req cmd).snap = s.snap := rfl
@[simp] theorem State.taken_log (sid req cmd : Nat) : (s.taken sid req cmd).log = s.log := rfl
@[simp] theorem State.taken_out (sid req cmd : Nat) : (s.taken sid req cmd).out = s.out := rfl
@[simp] theorem State.taken_freeCtr (sid req cmd : Nat) : (s.taken sid req cmd).freeCtr = s.freeCtr := rfl
@[simp] theorem State.taken_expiring (sid req cmd : Nat) : (s.taken sid req cmd).expiring = s.expiring := rfl
@[simp] theorem State.taken_pending (sid req cmd : Nat) : (s.taken sid req cmd).pending = s.pending := rfl

@[simp] theorem State.record_clock (code unit item : Nat) (d : List Byte) : (s.record code unit item d).clock = s.clock := rfl
@[simp] theorem State.record_tickOrigin (code unit item : Nat) (d : List Byte) : (s.record code unit item d).tickOrigin = s.tickOrigin := rfl
@[simp] theorem State.record_sysTime (code unit item : Nat) (d : List Byte) : (s.record code unit item d).sysTime = s.sysTime := rfl
@[simp] theorem State.record_rate (code unit item : Nat) (d : List Byte) : (s.record code unit item d).rate = s.rate := rfl
@[simp] theorem State.record_rateInt (code unit item : Nat) (d : List Byte) : (s.record code unit item d).rateInt = s.rateInt := rfl
@[simp] theorem State.record_mode (code unit item : Nat) (d : List Byte) : (s.record code unit item d).mode = s.mode := rfl
@[simp] theorem State.record_power (code unit item : Nat) (d : List Byte) : (s.record code unit item d).power = s.power := rfl
@[simp] theorem State.record_boot (code unit item : Nat) (d : List Byte) : (s.record code unit item d).boot = s.boot := rfl
@[simp] theorem State.record_panel (code unit item : Nat) (d : List Byte) : (s.record code unit item d).panel = s.panel := rfl
@[simp] theorem State.record_store (code unit item : Nat) (d : List Byte) : (s.record code unit item d).store = s.store := rfl
@[simp] theorem State.record_bus (code unit item : Nat) (d : List Byte) : (s.record code unit item d).bus = s.bus := rfl
@[simp] theorem State.record_mgmt (code unit item : Nat) (d : List Byte) : (s.record code unit item d).mgmt = s.mgmt := rfl
@[simp] theorem State.record_seqm (code unit item : Nat) (d : List Byte) : (s.record code unit item d).seqm = s.seqm := rfl
@[simp] theorem State.record_sessions (code unit item : Nat) (d : List Byte) : (s.record code unit item d).sessions = s.sessions := rfl
@[simp] theorem State.record_waiting (code unit item : Nat) (d : List Byte) : (s.record code unit item d).waiting = s.waiting := rfl
@[simp] theorem State.record_slots (code unit item : Nat) (d : List Byte) : (s.record code unit item d).slots = s.slots := rfl
@[simp] theorem State.record_forces (code unit item : Nat) (d : List Byte) : (s.record code unit item d).forces = s.forces := rfl
@[simp] theorem State.record_statLast (code unit item : Nat) (d : List Byte) : (s.record code unit item d).statLast = s.statLast := rfl
@[simp] theorem State.record_seq (code unit item : Nat) (d : List Byte) : (s.record code unit item d).seq = s.seq := rfl
@[simp] theorem State.record_barn (code unit item : Nat) (d : List Byte) : (s.record code unit item d).barn = s.barn := rfl
@[simp] theorem State.record_olc (code unit item : Nat) (d : List Byte) : (s.record code unit item d).olc = s.olc := rfl
@[simp] theorem State.record_ms (code unit item : Nat) (d : List Byte) : (s.record code unit item d).ms = s.ms := rfl
@[simp] theorem State.record_loop (code unit item : Nat) (d : List Byte) : (s.record code unit item d).loop = s.loop := rfl
@[simp] theorem State.record_slv (code unit item : Nat) (d : List Byte) : (s.record code unit item d).slv = s.slv := rfl
@[simp] theorem State.record_fld (code unit item : Nat) (d : List Byte) : (s.record code unit item d).fld = s.fld := rfl
@[simp] theorem State.record_can (code unit item : Nat) (d : List Byte) : (s.record code unit item d).can = s.can := rfl
@[simp] theorem State.record_eth (code unit item : Nat) (d : List Byte) : (s.record code unit item d).eth = s.eth := rfl
@[simp] theorem State.record_usl (code unit item : Nat) (d : List Byte) : (s.record code unit item d).usl = s.usl := rfl
@[simp] theorem State.record_so (code unit item : Nat) (d : List Byte) : (s.record code unit item d).so = s.so := rfl
@[simp] theorem State.record_pair (code unit item : Nat) (d : List Byte) : (s.record code unit item d).pair = s.pair := rfl
@[simp] theorem State.record_diag (code unit item : Nat) (d : List Byte) : (s.record code unit item d).diag = s.diag := rfl
@[simp] theorem State.record_snap (code unit item : Nat) (d : List Byte) : (s.record code unit item d).snap = s.snap := rfl
@[simp] theorem State.record_out (code unit item : Nat) (d : List Byte) : (s.record code unit item d).out = s.out := rfl
@[simp] theorem State.record_freeCtr (code unit item : Nat) (d : List Byte) : (s.record code unit item d).freeCtr = s.freeCtr := rfl
@[simp] theorem State.record_expiring (code unit item : Nat) (d : List Byte) : (s.record code unit item d).expiring = s.expiring := rfl
@[simp] theorem State.record_pending (code unit item : Nat) (d : List Byte) : (s.record code unit item d).pending = s.pending := rfl

@[simp] theorem State.emit_clock (m : OutMsg) : (s.emit m).clock = s.clock := rfl
@[simp] theorem State.emit_tickOrigin (m : OutMsg) : (s.emit m).tickOrigin = s.tickOrigin := rfl
@[simp] theorem State.emit_sysTime (m : OutMsg) : (s.emit m).sysTime = s.sysTime := rfl
@[simp] theorem State.emit_rate (m : OutMsg) : (s.emit m).rate = s.rate := rfl
@[simp] theorem State.emit_rateInt (m : OutMsg) : (s.emit m).rateInt = s.rateInt := rfl
@[simp] theorem State.emit_mode (m : OutMsg) : (s.emit m).mode = s.mode := rfl
@[simp] theorem State.emit_power (m : OutMsg) : (s.emit m).power = s.power := rfl
@[simp] theorem State.emit_boot (m : OutMsg) : (s.emit m).boot = s.boot := rfl
@[simp] theorem State.emit_panel (m : OutMsg) : (s.emit m).panel = s.panel := rfl
@[simp] theorem State.emit_store (m : OutMsg) : (s.emit m).store = s.store := rfl
@[simp] theorem State.emit_bus (m : OutMsg) : (s.emit m).bus = s.bus := rfl
@[simp] theorem State.emit_mgmt (m : OutMsg) : (s.emit m).mgmt = s.mgmt := rfl
@[simp] theorem State.emit_seqm (m : OutMsg) : (s.emit m).seqm = s.seqm := rfl
@[simp] theorem State.emit_sessions (m : OutMsg) : (s.emit m).sessions = s.sessions := rfl
@[simp] theorem State.emit_waiting (m : OutMsg) : (s.emit m).waiting = s.waiting := rfl
@[simp] theorem State.emit_slots (m : OutMsg) : (s.emit m).slots = s.slots := rfl
@[simp] theorem State.emit_forces (m : OutMsg) : (s.emit m).forces = s.forces := rfl
@[simp] theorem State.emit_statLast (m : OutMsg) : (s.emit m).statLast = s.statLast := rfl
@[simp] theorem State.emit_seq (m : OutMsg) : (s.emit m).seq = s.seq := rfl
@[simp] theorem State.emit_barn (m : OutMsg) : (s.emit m).barn = s.barn := rfl
@[simp] theorem State.emit_olc (m : OutMsg) : (s.emit m).olc = s.olc := rfl
@[simp] theorem State.emit_ms (m : OutMsg) : (s.emit m).ms = s.ms := rfl
@[simp] theorem State.emit_loop (m : OutMsg) : (s.emit m).loop = s.loop := rfl
@[simp] theorem State.emit_slv (m : OutMsg) : (s.emit m).slv = s.slv := rfl
@[simp] theorem State.emit_fld (m : OutMsg) : (s.emit m).fld = s.fld := rfl
@[simp] theorem State.emit_can (m : OutMsg) : (s.emit m).can = s.can := rfl
@[simp] theorem State.emit_eth (m : OutMsg) : (s.emit m).eth = s.eth := rfl
@[simp] theorem State.emit_usl (m : OutMsg) : (s.emit m).usl = s.usl := rfl
@[simp] theorem State.emit_so (m : OutMsg) : (s.emit m).so = s.so := rfl
@[simp] theorem State.emit_pair (m : OutMsg) : (s.emit m).pair = s.pair := rfl
@[simp] theorem State.emit_diag (m : OutMsg) : (s.emit m).diag = s.diag := rfl
@[simp] theorem State.emit_snap (m : OutMsg) : (s.emit m).snap = s.snap := rfl
@[simp] theorem State.emit_log (m : OutMsg) : (s.emit m).log = s.log := rfl
@[simp] theorem State.emit_freeCtr (m : OutMsg) : (s.emit m).freeCtr = s.freeCtr := rfl
@[simp] theorem State.emit_expiring (m : OutMsg) : (s.emit m).expiring = s.expiring := rfl
@[simp] theorem State.emit_pending (m : OutMsg) : (s.emit m).pending = s.pending := rfl

@[simp] theorem State.sendLink_clock (lane : Nat) (m : LinkMsg) : (s.sendLink lane m).clock = s.clock := by
  unfold State.sendLink; split <;> rfl
@[simp] theorem State.sendLink_tickOrigin (lane : Nat) (m : LinkMsg) : (s.sendLink lane m).tickOrigin = s.tickOrigin := by
  unfold State.sendLink; split <;> rfl
@[simp] theorem State.sendLink_sysTime (lane : Nat) (m : LinkMsg) : (s.sendLink lane m).sysTime = s.sysTime := by
  unfold State.sendLink; split <;> rfl
@[simp] theorem State.sendLink_rate (lane : Nat) (m : LinkMsg) : (s.sendLink lane m).rate = s.rate := by
  unfold State.sendLink; split <;> rfl
@[simp] theorem State.sendLink_rateInt (lane : Nat) (m : LinkMsg) : (s.sendLink lane m).rateInt = s.rateInt := by
  unfold State.sendLink; split <;> rfl
@[simp] theorem State.sendLink_mode (lane : Nat) (m : LinkMsg) : (s.sendLink lane m).mode = s.mode := by
  unfold State.sendLink; split <;> rfl
@[simp] theorem State.sendLink_power (lane : Nat) (m : LinkMsg) : (s.sendLink lane m).power = s.power := by
  unfold State.sendLink; split <;> rfl
@[simp] theorem State.sendLink_boot (lane : Nat) (m : LinkMsg) : (s.sendLink lane m).boot = s.boot := by
  unfold State.sendLink; split <;> rfl
@[simp] theorem State.sendLink_panel (lane : Nat) (m : LinkMsg) : (s.sendLink lane m).panel = s.panel := by
  unfold State.sendLink; split <;> rfl
@[simp] theorem State.sendLink_store (lane : Nat) (m : LinkMsg) : (s.sendLink lane m).store = s.store := by
  unfold State.sendLink; split <;> rfl
@[simp] theorem State.sendLink_bus (lane : Nat) (m : LinkMsg) : (s.sendLink lane m).bus = s.bus := by
  unfold State.sendLink; split <;> rfl
@[simp] theorem State.sendLink_mgmt (lane : Nat) (m : LinkMsg) : (s.sendLink lane m).mgmt = s.mgmt := by
  unfold State.sendLink; split <;> rfl
@[simp] theorem State.sendLink_seqm (lane : Nat) (m : LinkMsg) : (s.sendLink lane m).seqm = s.seqm := by
  unfold State.sendLink; split <;> rfl
@[simp] theorem State.sendLink_sessions (lane : Nat) (m : LinkMsg) : (s.sendLink lane m).sessions = s.sessions := by
  unfold State.sendLink; split <;> rfl
@[simp] theorem State.sendLink_waiting (lane : Nat) (m : LinkMsg) : (s.sendLink lane m).waiting = s.waiting := by
  unfold State.sendLink; split <;> rfl
@[simp] theorem State.sendLink_slots (lane : Nat) (m : LinkMsg) : (s.sendLink lane m).slots = s.slots := by
  unfold State.sendLink; split <;> rfl
@[simp] theorem State.sendLink_forces (lane : Nat) (m : LinkMsg) : (s.sendLink lane m).forces = s.forces := by
  unfold State.sendLink; split <;> rfl
@[simp] theorem State.sendLink_statLast (lane : Nat) (m : LinkMsg) : (s.sendLink lane m).statLast = s.statLast := by
  unfold State.sendLink; split <;> rfl
@[simp] theorem State.sendLink_seq (lane : Nat) (m : LinkMsg) : (s.sendLink lane m).seq = s.seq := by
  unfold State.sendLink; split <;> rfl
@[simp] theorem State.sendLink_barn (lane : Nat) (m : LinkMsg) : (s.sendLink lane m).barn = s.barn := by
  unfold State.sendLink; split <;> rfl
@[simp] theorem State.sendLink_olc (lane : Nat) (m : LinkMsg) : (s.sendLink lane m).olc = s.olc := by
  unfold State.sendLink; split <;> rfl
@[simp] theorem State.sendLink_ms (lane : Nat) (m : LinkMsg) : (s.sendLink lane m).ms = s.ms := by
  unfold State.sendLink; split <;> rfl
@[simp] theorem State.sendLink_loop (lane : Nat) (m : LinkMsg) : (s.sendLink lane m).loop = s.loop := by
  unfold State.sendLink; split <;> rfl
@[simp] theorem State.sendLink_slv (lane : Nat) (m : LinkMsg) : (s.sendLink lane m).slv = s.slv := by
  unfold State.sendLink; split <;> rfl
@[simp] theorem State.sendLink_fld (lane : Nat) (m : LinkMsg) : (s.sendLink lane m).fld = s.fld := by
  unfold State.sendLink; split <;> rfl
@[simp] theorem State.sendLink_can (lane : Nat) (m : LinkMsg) : (s.sendLink lane m).can = s.can := by
  unfold State.sendLink; split <;> rfl
@[simp] theorem State.sendLink_eth (lane : Nat) (m : LinkMsg) : (s.sendLink lane m).eth = s.eth := by
  unfold State.sendLink; split <;> rfl
@[simp] theorem State.sendLink_usl (lane : Nat) (m : LinkMsg) : (s.sendLink lane m).usl = s.usl := by
  unfold State.sendLink; split <;> rfl
@[simp] theorem State.sendLink_so (lane : Nat) (m : LinkMsg) : (s.sendLink lane m).so = s.so := by
  unfold State.sendLink; split <;> rfl
@[simp] theorem State.sendLink_diag (lane : Nat) (m : LinkMsg) : (s.sendLink lane m).diag = s.diag := by
  unfold State.sendLink; split <;> rfl
@[simp] theorem State.sendLink_snap (lane : Nat) (m : LinkMsg) : (s.sendLink lane m).snap = s.snap := by
  unfold State.sendLink; split <;> rfl
@[simp] theorem State.sendLink_log (lane : Nat) (m : LinkMsg) : (s.sendLink lane m).log = s.log := by
  unfold State.sendLink; split <;> rfl
@[simp] theorem State.sendLink_freeCtr (lane : Nat) (m : LinkMsg) : (s.sendLink lane m).freeCtr = s.freeCtr := by
  unfold State.sendLink; split <;> rfl
@[simp] theorem State.sendLink_expiring (lane : Nat) (m : LinkMsg) : (s.sendLink lane m).expiring = s.expiring := by
  unfold State.sendLink; split <;> rfl
@[simp] theorem State.sendLink_pending (lane : Nat) (m : LinkMsg) : (s.sendLink lane m).pending = s.pending := by
  unfold State.sendLink; split <;> rfl

@[simp] theorem State.answer_clock (sid req code : Nat) (p : List Byte) : (s.answer sid req code p).clock = s.clock := by
  unfold State.answer; dsimp only; split <;> rfl
@[simp] theorem State.answer_tickOrigin (sid req code : Nat) (p : List Byte) : (s.answer sid req code p).tickOrigin = s.tickOrigin := by
  unfold State.answer; dsimp only; split <;> rfl
@[simp] theorem State.answer_sysTime (sid req code : Nat) (p : List Byte) : (s.answer sid req code p).sysTime = s.sysTime := by
  unfold State.answer; dsimp only; split <;> rfl
@[simp] theorem State.answer_rate (sid req code : Nat) (p : List Byte) : (s.answer sid req code p).rate = s.rate := by
  unfold State.answer; dsimp only; split <;> rfl
@[simp] theorem State.answer_rateInt (sid req code : Nat) (p : List Byte) : (s.answer sid req code p).rateInt = s.rateInt := by
  unfold State.answer; dsimp only; split <;> rfl
@[simp] theorem State.answer_mode (sid req code : Nat) (p : List Byte) : (s.answer sid req code p).mode = s.mode := by
  unfold State.answer; dsimp only; split <;> rfl
@[simp] theorem State.answer_power (sid req code : Nat) (p : List Byte) : (s.answer sid req code p).power = s.power := by
  unfold State.answer; dsimp only; split <;> rfl
@[simp] theorem State.answer_boot (sid req code : Nat) (p : List Byte) : (s.answer sid req code p).boot = s.boot := by
  unfold State.answer; dsimp only; split <;> rfl
@[simp] theorem State.answer_panel (sid req code : Nat) (p : List Byte) : (s.answer sid req code p).panel = s.panel := by
  unfold State.answer; dsimp only; split <;> rfl
@[simp] theorem State.answer_store (sid req code : Nat) (p : List Byte) : (s.answer sid req code p).store = s.store := by
  unfold State.answer; dsimp only; split <;> rfl
@[simp] theorem State.answer_bus (sid req code : Nat) (p : List Byte) : (s.answer sid req code p).bus = s.bus := by
  unfold State.answer; dsimp only; split <;> rfl
@[simp] theorem State.answer_mgmt (sid req code : Nat) (p : List Byte) : (s.answer sid req code p).mgmt = s.mgmt := by
  unfold State.answer; dsimp only; split <;> rfl
@[simp] theorem State.answer_seqm (sid req code : Nat) (p : List Byte) : (s.answer sid req code p).seqm = s.seqm := by
  unfold State.answer; dsimp only; split <;> rfl
@[simp] theorem State.answer_waiting (sid req code : Nat) (p : List Byte) : (s.answer sid req code p).waiting = s.waiting := by
  unfold State.answer; dsimp only; split <;> rfl
@[simp] theorem State.answer_slots (sid req code : Nat) (p : List Byte) : (s.answer sid req code p).slots = s.slots := by
  unfold State.answer; dsimp only; split <;> rfl
@[simp] theorem State.answer_forces (sid req code : Nat) (p : List Byte) : (s.answer sid req code p).forces = s.forces := by
  unfold State.answer; dsimp only; split <;> rfl
@[simp] theorem State.answer_statLast (sid req code : Nat) (p : List Byte) : (s.answer sid req code p).statLast = s.statLast := by
  unfold State.answer; dsimp only; split <;> rfl
@[simp] theorem State.answer_seq (sid req code : Nat) (p : List Byte) : (s.answer sid req code p).seq = s.seq := by
  unfold State.answer; dsimp only; split <;> rfl
@[simp] theorem State.answer_barn (sid req code : Nat) (p : List Byte) : (s.answer sid req code p).barn = s.barn := by
  unfold State.answer; dsimp only; split <;> rfl
@[simp] theorem State.answer_olc (sid req code : Nat) (p : List Byte) : (s.answer sid req code p).olc = s.olc := by
  unfold State.answer; dsimp only; split <;> rfl
@[simp] theorem State.answer_ms (sid req code : Nat) (p : List Byte) : (s.answer sid req code p).ms = s.ms := by
  unfold State.answer; dsimp only; split <;> rfl
@[simp] theorem State.answer_loop (sid req code : Nat) (p : List Byte) : (s.answer sid req code p).loop = s.loop := by
  unfold State.answer; dsimp only; split <;> rfl
@[simp] theorem State.answer_slv (sid req code : Nat) (p : List Byte) : (s.answer sid req code p).slv = s.slv := by
  unfold State.answer; dsimp only; split <;> rfl
@[simp] theorem State.answer_fld (sid req code : Nat) (p : List Byte) : (s.answer sid req code p).fld = s.fld := by
  unfold State.answer; dsimp only; split <;> rfl
@[simp] theorem State.answer_can (sid req code : Nat) (p : List Byte) : (s.answer sid req code p).can = s.can := by
  unfold State.answer; dsimp only; split <;> rfl
@[simp] theorem State.answer_eth (sid req code : Nat) (p : List Byte) : (s.answer sid req code p).eth = s.eth := by
  unfold State.answer; dsimp only; split <;> rfl
@[simp] theorem State.answer_usl (sid req code : Nat) (p : List Byte) : (s.answer sid req code p).usl = s.usl := by
  unfold State.answer; dsimp only; split <;> rfl
@[simp] theorem State.answer_so (sid req code : Nat) (p : List Byte) : (s.answer sid req code p).so = s.so := by
  unfold State.answer; dsimp only; split <;> rfl
@[simp] theorem State.answer_pair (sid req code : Nat) (p : List Byte) : (s.answer sid req code p).pair = s.pair := by
  unfold State.answer; dsimp only; split <;> rfl
@[simp] theorem State.answer_diag (sid req code : Nat) (p : List Byte) : (s.answer sid req code p).diag = s.diag := by
  unfold State.answer; dsimp only; split <;> rfl
@[simp] theorem State.answer_snap (sid req code : Nat) (p : List Byte) : (s.answer sid req code p).snap = s.snap := by
  unfold State.answer; dsimp only; split <;> rfl
@[simp] theorem State.answer_log (sid req code : Nat) (p : List Byte) : (s.answer sid req code p).log = s.log := by
  unfold State.answer; dsimp only; split <;> rfl
@[simp] theorem State.answer_freeCtr (sid req code : Nat) (p : List Byte) : (s.answer sid req code p).freeCtr = s.freeCtr := by
  unfold State.answer; dsimp only; split <;> rfl
@[simp] theorem State.answer_expiring (sid req code : Nat) (p : List Byte) : (s.answer sid req code p).expiring = s.expiring := by
  unfold State.answer; dsimp only; split <;> rfl
@[simp] theorem State.answer_pending (sid req code : Nat) (p : List Byte) : (s.answer sid req code p).pending = s.pending := by
  unfold State.answer; dsimp only; split <;> rfl

@[simp] theorem State.setPhase_clock (p : Phase) : (s.setPhase p).clock = s.clock := rfl
@[simp] theorem State.setPhase_tickOrigin (p : Phase) : (s.setPhase p).tickOrigin = s.tickOrigin := rfl
@[simp] theorem State.setPhase_sysTime (p : Phase) : (s.setPhase p).sysTime = s.sysTime := rfl
@[simp] theorem State.setPhase_rate (p : Phase) : (s.setPhase p).rate = s.rate := rfl
@[simp] theorem State.setPhase_rateInt (p : Phase) : (s.setPhase p).rateInt = s.rateInt := rfl
@[simp] theorem State.setPhase_mode (p : Phase) : (s.setPhase p).mode = s.mode := rfl
@[simp] theorem State.setPhase_boot (p : Phase) : (s.setPhase p).boot = s.boot := rfl
@[simp] theorem State.setPhase_panel (p : Phase) : (s.setPhase p).panel = s.panel := rfl
@[simp] theorem State.setPhase_store (p : Phase) : (s.setPhase p).store = s.store := rfl
@[simp] theorem State.setPhase_bus (p : Phase) : (s.setPhase p).bus = s.bus := rfl
@[simp] theorem State.setPhase_mgmt (p : Phase) : (s.setPhase p).mgmt = s.mgmt := rfl
@[simp] theorem State.setPhase_seqm (p : Phase) : (s.setPhase p).seqm = s.seqm := rfl
@[simp] theorem State.setPhase_sessions (p : Phase) : (s.setPhase p).sessions = s.sessions := rfl
@[simp] theorem State.setPhase_waiting (p : Phase) : (s.setPhase p).waiting = s.waiting := rfl
@[simp] theorem State.setPhase_slots (p : Phase) : (s.setPhase p).slots = s.slots := rfl
@[simp] theorem State.setPhase_forces (p : Phase) : (s.setPhase p).forces = s.forces := rfl
@[simp] theorem State.setPhase_statLast (p : Phase) : (s.setPhase p).statLast = s.statLast := rfl
@[simp] theorem State.setPhase_seq (p : Phase) : (s.setPhase p).seq = s.seq := rfl
@[simp] theorem State.setPhase_barn (p : Phase) : (s.setPhase p).barn = s.barn := rfl
@[simp] theorem State.setPhase_olc (p : Phase) : (s.setPhase p).olc = s.olc := rfl
@[simp] theorem State.setPhase_ms (p : Phase) : (s.setPhase p).ms = s.ms := rfl
@[simp] theorem State.setPhase_loop (p : Phase) : (s.setPhase p).loop = s.loop := rfl
@[simp] theorem State.setPhase_slv (p : Phase) : (s.setPhase p).slv = s.slv := rfl
@[simp] theorem State.setPhase_fld (p : Phase) : (s.setPhase p).fld = s.fld := rfl
@[simp] theorem State.setPhase_can (p : Phase) : (s.setPhase p).can = s.can := rfl
@[simp] theorem State.setPhase_eth (p : Phase) : (s.setPhase p).eth = s.eth := rfl
@[simp] theorem State.setPhase_usl (p : Phase) : (s.setPhase p).usl = s.usl := rfl
@[simp] theorem State.setPhase_so (p : Phase) : (s.setPhase p).so = s.so := rfl
@[simp] theorem State.setPhase_pair (p : Phase) : (s.setPhase p).pair = s.pair := rfl
@[simp] theorem State.setPhase_diag (p : Phase) : (s.setPhase p).diag = s.diag := rfl
@[simp] theorem State.setPhase_snap (p : Phase) : (s.setPhase p).snap = s.snap := rfl
@[simp] theorem State.setPhase_log (p : Phase) : (s.setPhase p).log = s.log := rfl
@[simp] theorem State.setPhase_out (p : Phase) : (s.setPhase p).out = s.out := rfl
@[simp] theorem State.setPhase_freeCtr (p : Phase) : (s.setPhase p).freeCtr = s.freeCtr := rfl
@[simp] theorem State.setPhase_expiring (p : Phase) : (s.setPhase p).expiring = s.expiring := rfl
@[simp] theorem State.setPhase_pending (p : Phase) : (s.setPhase p).pending = s.pending := rfl

@[simp] theorem State.elapse_clock (dt : Nat) : (s.elapse dt).clock = s.clock + dt := by
  unfold State.elapse; split <;> simp_all

/-- Within a tick nothing passes. -/
@[simp] theorem State.elapse_zero : s.elapse 0 = s := rfl

@[simp] theorem State.emit_out (m : OutMsg) : (s.emit m).out = s.out ++ [m] := rfl

@[simp] theorem State.setPhase_power (p : Phase) : (s.setPhase p).power = { s.power with phase := p } := rfl

@[simp] theorem State.taken_tick (sid req cmd : Nat) : (s.taken sid req cmd).tick = s.tick := rfl

@[simp] theorem State.taken_ns (sid req cmd : Nat) : (s.taken sid req cmd).ns = s.ns := rfl

@[simp] theorem State.taken_img (sid req cmd : Nat) : (s.taken sid req cmd).img = s.img := rfl

@[simp] theorem State.taken_roleOk (sid req cmd : Nat) (min : Role) (b : Bool) (x : Session) :
    (s.taken sid req cmd).roleOk min b x = s.roleOk min b x := rfl

/-- Sessions are numbered by their SID (R430): a change that keeps the number finds the changed session again. -/
theorem findKey_modifyKey (sid : Nat) (f : Session → Session) (hf : ∀ x, (f x).sid = x.sid) (l : List Session) :
    findKey (·.sid) sid (modifyKey (·.sid) sid f l) = (findKey (·.sid) sid l).map f := by
  induction l with
  | nil => rfl
  | cons y r ih =>
    by_cases h : y.sid = sid
    · simp [findKey, modifyKey, h, hf]
    · simp_all [findKey, modifyKey]

@[simp] theorem State.taken_session (sid req cmd : Nat) : (s.taken sid req cmd).session sid = (s.session sid).map fun y =>
    { y with lastRec := s.clock, high := some req, stored := (({ req := req, cmd := cmd } : Resp) :: y.stored).take 16 } := by
  simp only [State.session, State.taken, State.heard, State.modSession]
  rw [findKey_modifyKey, findKey_modifyKey]
  · cases findKey (·.sid) sid s.sessions <;> rfl
  · exact fun _ => rfl
  · exact fun _ => rfl

/-- A request that has just been taken is answered: its session's response store holds the answer, and it is sent (R432). -/
theorem State.taken_answer (sid req cmd code : Nat) (p : List Byte) (x : Session) (h : s.session sid = some x) :
    ((s.taken sid req cmd).answer sid req code p).out =
      s.out ++ [.smp sid ({ req := req, cmd := cmd, code := code, payload := p, ready := true } : Resp).bytes] := by
  have hs := State.taken_session s sid req cmd
  rw [h] at hs
  have hm : ((s.taken sid req cmd).modSession sid fun x => { x with stored := x.stored.map fun r =>
      if r.req = req then { r with code := code, payload := p, ready := true } else r }).session sid =
      (((s.taken sid req cmd).session sid).map fun x => { x with stored := x.stored.map fun r =>
        if r.req = req then { r with code := code, payload := p, ready := true } else r }) := by
    simp only [State.session, State.modSession]
    rw [findKey_modifyKey]
    exact fun _ => rfl
  unfold State.answer
  dsimp only
  rw [hm, hs]
  simp

end Sys2Proof.Machine
end

