-- ==== Sys2Proof/Tests/Slice0.lean ====
section
/-! SUPPORT. The author's own tests of the model: a small image with one unit of each kind, the well-formedness smoke test,
values that the spec works out, and for every statement with hypotheses a named witness that meets them. -/

namespace Sys2Proof.Tests

set_option maxRecDepth 100000
set_option linter.unusedVariables false
set_option Elab.async false

open Sys2Proof Sys2Proof.Machine

/-! ### A small image that configures one unit of each kind, and states in which it is in force -/

def wholeRef (i : Nat) : SlotRef := { slot := i, bitpos := 0, widthM1 := 31, wide := false }

def aLoop : LoopCfg :=
  { ctx := 3, law := 0, trig := 0, period := 400, offset := 0, deadline := 400, profile := false, initMode := 0, regions := 1
    missLimit := 3, supvAct := 0, olo := 0, ohi := 0, orate := 0, hrate := 0, hys := 0, vmax := 0, amax := 0, jmax := 0
    feLim := 0, feTime := 1, satTime := 1, manv0 := 0, pvRef := none, spRef := none, cspRef := none, ffRef := none
    trkRef := none, manRef := none, modeRef := none, schedRef := none, outBind := some (wholeRef 70), statBind := none
    pspBind := none, banks := List.replicate 64 0 }

def aProblem : SlvCfg :=
  { num := 1, warm := false, n := 1, nvs := 0, nvf := 1, nes := 0, nef := 0, nis := 0, nif := 0, pmult := 1, poffset := 0
    dlmult := 1, statBind := none, sig := [], iterMax := 8, shiftMax := 4, tolp := 1, told := 1, piv := 1, dep := 1
    reg := 1, resfail := 1, ops := [], terms := [], pubs := [] }

def aCan (ch role : Nat) : CanCfg :=
  { ch := ch, role := role, brs := false, listen := false, tdcEn := false, addr := 1, nbrp := 1, ntseg1 := 1, ntseg2 := 1
    nsjw := 1, dtseg1 := 1, dtseg2 := 1, dsjw := 1, tdco := 1, idBase := 0, lead := 1, busoffHold := 1, statBind := none
    stations := [], filters := [] }

def anAi : AiCfg :=
  { ch := 5, mode := 0, trig := 0, hart := 1, filt := 0, engLo := 0, engHi := 0, valBind := some (wholeRef 80)
    statBind := none, hstale := 1 }

def anAo : AoCfg :=
  { ch := 2, mode := 0, hart := 0, badact := 0, lossHigh := false, holdMs := 100, hstale := 1, engLo := 0, engHi := 0
    src := wholeRef 81, rbBind := none, statBind := none, safeval := 0 }

def aDio : DioCfg :=
  { ch := 7, kind := 1, filt := 1, inv := false, safeOn := false, badact := 0, oldet := false, src := some (wholeRef 82)
    bind := none }

def aConn : UslCfg :=
  { conn := 9, sink := true, medium := 0, reint := false, timechk := false, connId := 1, peer := 0, wd := 400000, len := 4
    seqwin := 4, statSlot := 90, maps := [] }

def aBrake (k : Nat) : BrakeCfg :=
  { ch := k, tpWidth := 100, tpPeriod := 4000, minOff := 100, iMin := 10, testHold := 100, testInterval := 1
    relRef := wholeRef 83, permRef := none, torqRef := none, statBind := none }

def aSlotCfg : MsSlotCfg :=
  { num := 11, ctl := 0, tgt := 0, endv := 0, win := 0, out := 0, tgtRef := none, endRef := none, armRef := none
    resRef := none, maxPulse := 400 }

def anInst : Inst :=
  { ident := 77, btype := 1, dtype := 1, rinit := false, lane := 0, ins := [], binds := [], params := [] }

def anImage : Image :=
  { own := [(10, 0x15#32), (11, 0x14#32)]
    cycle := { base := 400000, lanes := [{ enable := true }, {}, {}, {}] }
    net := { insts := [anInst] }
    loops := { ctxs := [aLoop] }, slv := { probs := [aProblem] }
    ms := { doms := [{ enable := true, teeth := 60 }, {}, {}, {}, {}, {}, {}, { enable := true, zero := 4000 }], slots := [aSlotCfg] }
    can := { chans := [aCan 0 0, aCan 2 1] }
    fld := { ai := [anAi], ao := [anAo], dio := [aDio] }
    usl := { conns := [aConn] }, brake := { chans := [aBrake 0] } }

/-- Start-up has ended with no image. -/
def idle : State := { State.reset with power := { phase := .operating }, boot := { fwRun := true, selftest := some true } }

/-- The image is in force on a STANDBY module with every unit at its start. -/
def ready : State :=
  { idle with
    mode := .standby
    store := { owner := some ([], []), image := some anImage, selected := some false }
    boot := { fwRun := true, selftest := some true, slot := some 0 }
    seq := { insts := [{ outs := [(0, 3#8)] }] }
    ms := { slots := [{ num := 11 }] }
    loop := { ctxs := [{ n := 3 }] }
    slv := { probs := [{ p := 1 }] }
    fld := { ai := [{ n := 5 }], modems := [{ modem := .ai 5 }] }
    usl := { conns := [{ c := 9 }] }
    so := { chans := [{ k := 0 }, { k := 1 }, { k := 2 }, { k := 3 }] } }

/-- The same module ACTIVE. -/
def running : State := { ready with mode := .active, pair := { drive := true } }

/-- An open session of role `r`. -/
def aSession (r : Role) : Session := { sid := 1, role := r, fp := [], lastRec := 0 }

def withSession (r : Role) (s : State) : State := { s with sessions := [aSession r] }

/-- `s` with the image `i` in force. -/
def withImage (i : Image) (s : State) : State := { s with store := { s.store with image := some i } }

/-- A partner on STANDBY that is eligible and in step. -/
def aHello : Hello :=
  { member := 2, state := 1, key := 3, flevel := 1, inStep := true, eligible := true, owning := false, olc := 0
    swapFail := false, refOk := false, staged := false, h := 0, hofs := 0, dwell := 0, txTick := 0, echo := 0
    digest := [], stageDigest := [] }

def aMirror : MirrorEntry := { src := 5, dst := 0xE000, count := 1 }

def pairImage : Image := { anImage with pair := { revert := true, swapInterval := 1 } }

/-- Member A of a pair, ACTIVE, with a partner that may take over. -/
def pairActive : State :=
  { withImage pairImage running with pair := { drive := true, partner := some aHello, silent := false, lane0 := true } }

/-- Member A of a pair, STANDBY and eligible, with an ACTIVE partner. -/
def pairStandby : State :=
  { withImage pairImage ready with
    pair := { partner := some { aHello with state := 2, eligible := false }, silent := false, lane0 := true
              mirH := some 0, safetyH := some 0, stationH := some 0, grid := some (0, 0)
              gotReg := true, gotSlv := true, digEq := true } }

def aStatus : StatusMsg :=
  { member := 1, state := 2, key := 3, healthy := true, eligible := false, inStep := true, linkOk := true, req := false
    relinq := false, safe := false, h := 0, digest8 := [], round := 0 }

/-- The safety-relevant password is eight bytes 01h. -/
def withPassword : State := { ready with so := { verifier := sha256 (List.replicate 8 1) } }

/-- The tollgate's key with its complement. -/
def keyWord : W32 := BitVec.ofNat 32 (1 + 65536 * 65534)

def hit (ad : Nat) : RegHit := (regAt ad).getD { row := { id := .sysScratch, base := 0, func := 0 }, i := 0, j := 0, high := false }

/-- A pass of lane 0 that began at tick 0. -/
def aPass : Pass := { h := 0, htick := 0, htime := 0, view := some [], pubs := [{ outs := [(0, 3#8)] }], cur := [{ outs := [(0, 3#8)] }] }

/-- Evaluation runs, with a pass of lane 0. -/
def passing : State :=
  { running with seq := { running.seq with begun := true, eval := true, lanes := [{ pass := some aPass }, {}, {}, {}] } }

/-- One retentive slot. -/
def retaining : State := withImage { anImage with cycle := { anImage.cycle with ret := [(10, 0)] } } running

/-- Domain 0 with the record `c` in the state `x`. -/
def onDom (c : DomCfg) (x : DomSt) : State :=
  { withImage { anImage with ms := { anImage.ms with doms := c :: anImage.ms.doms.drop 1 } } running with
    ms := { running.ms with doms := x :: List.replicate 7 {} } }

def aDom : DomCfg := { enable := true, teeth := 60, limit := 1 }

/-- The milestone slot 11 with the record `c` in the state `m`. -/
def onSlot (c : MsSlotCfg) (m : MsSlotSt) : State :=
  { withImage { anImage with ms := { anImage.ms with slots := [c] } } running with
    ms := { running.ms with doms := List.replicate 7 {} ++ [{ st := 4 }], slots := [m] } }

/-- The CAN channel 0 with the record `g` in the state `c`. -/
def onCan (g : CanCfg) (c : CanSt) : State :=
  { withImage { anImage with can := { chans := [g] }, usl := {} } running with can := [c, { n := 1 }, { n := 2 }, { n := 3 }] }

def aStation (maps : List RioMap) : StationCfg :=
  { addr := 4, ip := 0x0A000004#32, missLimit := 3, rxLen := 4, txLen := 4, hold := 10, statSlot := 91, maps := maps }

def aMap : RioMap := { tx := false, substUncertain := false, bitofs := 0, ref := wholeRef 85, subst := 6 }

/-- A remote-I/O frame with a data field of four bytes. -/
def aRioFrame (ident : Nat) : CanFrame :=
  { ide := false, ident := ident, rtr := false, fdf := true, brs := false, esi := false, dlc := 8, data := [7, 0, 4, 3, 1, 2, 3, 4] }

/-- Ethernet remote I/O with the role `r` and one station in the state `x`. -/
def onEth (r : Nat) (x : StationSt) (h : Option Nat) (maps : List RioMap := []) : State :=
  { withImage { anImage with eth := { e1En := true, prp := false, role := r, addr := 4, lead := 10, stepNs := 1000, stations := [aStation maps], ptpEn := true } } running with
    eth := { e1link := true, syncH := h, stations := [x] } }

/-- The safety connection 9 with the record `c` in the state `x`. -/
def onUsl (c : UslCfg) (x : UslSt) : State :=
  { withImage { anImage with usl := { conns := [c] } } running with usl := { conns := [x] } }

/-- A USL PDU of the type `ty` with its check value. -/
def aPdu (ty : Nat) (data : List Byte) : List Byte :=
  let p := leBytes 1 ty ++ [0] ++ leBytes 1 data.length ++ [0] ++ leBytes 4 7 ++ leBytes 8 0 ++ data
  p ++ leBytes 4 (uslCrc 1 p).toNat

/-- The brake channel 0 in the state `x`, its release slot GOOD and TRUE. -/
def onBrake (x : BrakeSt) : State := { running with so := { chans := [x, { k := 1 }, { k := 2 }, { k := 3 }], fsSq := true }, slots := [(83, 1, 3)] }

/-! ### Two certificates: an owner root, and an Engineer's leaf below it (R99, R100) -/

/-- The certificate's contents with issuer, subject and key. -/
def aTbs (iss sub : List Byte) (key : Nat × Nat) : List Byte :=
  der 0x30 ([0xA0, 0x03, 0x02, 0x01, 0x02] ++ derNat 5 ++ der 0x30 oidEcdsaSha256 ++ iss ++
    der 0x30 (der 0x17 (ascii "260101000000Z") ++ der 0x18 (ascii "99991231235959Z")) ++ sub ++
    der 0x30 (der 0x30 oidEcKeyP256 ++ der 3 ([0x00, 0x04] ++ beBytes 32 key.1 ++ beBytes 32 key.2)))

def aCert (tbs : List Byte) (r s : Nat) : List Byte :=
  der 0x30 (tbs ++ der 0x30 oidEcdsaSha256 ++ der 3 (0 :: der 0x30 (derNat r ++ derNat s)))

def rootName : List Byte := der 0x30 (nameAttr 10 (ascii "Owner"))

def leafName : List Byte := der 0x30 (nameAttr 11 (ascii "SXROLE-ENGINEER"))

def rootKey : Nat × Nat :=
  (2885368488727114372441732371417799892228460849346806124022969218851605295127,
   32412073604092312120592164532479670341313779225265142240203646536597235493479)

def leafKey : Nat × Nat :=
  (14454453675287029822172469140408536138165102621361770344341583796021000251521,
   19517678265649165737953645028027787713505293595388579166431796735702159130704)

def rootCert : List Byte :=
  aCert (aTbs rootName rootName rootKey) 8521852416929986778176944164102810356002203388161258655466037645150357504335
    70914196959922636252203301351103571902167536588369658562189358781282260536671

def leafCert : List Byte :=
  aCert (aTbs rootName leafName leafKey) 11515942805318927080988405486965389324155761098646814776109704499426586119952
    68183023959039785960618466391937567725003045544987898504939825799768364716719

def leafParsed : Cert :=
  { tbs := aTbs rootName leafName leafKey, issuer := rootName, subject := leafName, ous := [ascii "SXROLE-ENGINEER"]
    notBefore := { tag := 0x17, body := ascii "260101000000Z", raw := der 0x17 (ascii "260101000000Z") }
    notAfter := { tag := 0x18, body := ascii "99991231235959Z", raw := der 0x18 (ascii "99991231235959Z") }
    key := leafKey
    sigR := 11515942805318927080988405486965389324155761098646814776109704499426586119952
    sigS := 68183023959039785960618466391937567725003045544987898504939825799768364716719 }

/-- A frame on port E1 without a redundancy trailer. -/
def anRx : EthRx := { e2 := false, mac := 1, seq := none }

def anAnnounce : Announce :=
  { domain := 0, udp := false, prio1 := 1, clkClass := 6, accuracy := 0x20, variance := 0, prio2 := 1, gm := 5, steps := 0
    sender := 7, every := 400000000 }

/-! ### Values that the spec works out, and the check values of the algorithms that it names -/

/-- No row of the table has bits, so no word spells a command. -/
theorem test_no_word_decodes : decodeTableWord 16 0x1234 = none ∧ State.reset.withFetchWord 16 0x1234 = State.reset := by
  decide +kernel

/-- CRC-16 of R524: the published check value of this polynomial over the digits 1 to 9. -/
theorem test_crc16 : crc16 [0x31, 0x32, 0x33, 0x34, 0x35, 0x36, 0x37, 0x38, 0x39] = 0x29B1#16 := by decide +kernel

/-- SHA-256 of the letters abc: the example of FIPS 180-4. -/
theorem test_sha256 : sha256 [0x61, 0x62, 0x63] = [
    0xBA, 0x78, 0x16, 0xBF, 0x8F, 0x01, 0xCF, 0xEA, 0x41, 0x41, 0x40, 0xDE, 0x5D, 0xAE, 0x22, 0x23,
    0xB0, 0x03, 0x61, 0xA3, 0x96, 0x17, 0x7A, 0x9C, 0xB4, 0x10, 0xFF, 0x61, 0xF2, 0x00, 0x15, 0xAD] := by decide +kernel

/-- Milestone Scheduler, Corran Gate: one pitch of 64 teeth, and tooth 20. -/
theorem test_tooth_angle : pitchAt { teeth := 64 } 1 = 262144 ∧ toothPos { teeth := 64, missing := 2, periodRev := 2 } 20 0 + 98304 = 5341184 := by
  decide +kernel

def f32 (q : Rat) : F32 := F32.ofRat q

/-- Context 21 of Loop Engine, Harlow Tern, with its bank 0. -/
def ternLoop : LoopCfg :=
  { aLoop with ctx := 21, period := 200000, offset := 30000, olo := 0, ohi := f32 100, orate := f32 20, hrate := f32 5 }

def ternBank : List F32 := [f32 2, f32 (8 / 10), 0, f32 1, f32 (4 / 10), f32 1, 0, 0] ++ List.replicate 56 0

def ternLatch (pv : Rat) : LoopLatch :=
  { trig := 0, pv := (f32 pv, 3), sp := some (f32 42, 3), modeReq := 1, banks := ternBank }

/-- Sample k: the hand-over from MAN is bumpless at 40.00 and i goes to 32.005. -/
theorem test_loop_handover :
    let s := loopSampleOf ternLoop { n := 21, y1 := f32 40, lastMr := some 0, lastMode := some 0 } (ternLatch 38) (f32 (5 / 10000))
    s.x.y1 = f32 40 ∧ s.x.handover = false ∧ ((F32.toRat s.x.i) - 32005 / 1000).abs < 1 / 100000 := by decide +kernel

/-- Sample k + 1: the output moves by one rate step to 39.99, marked RATELIM, and i to 32.0100. -/
theorem test_loop_rate_limit :
    let s := loopSampleOf ternLoop { n := 21, y1 := f32 40, i := f32 (32005 / 1000), g1 := f32 4, lastMr := some 1, lastMode := some 1,
                                     mode := 1, lastCoef := some (0, ternBank.take 8) } (ternLatch (3802 / 100)) (f32 (5 / 10000))
    s.x.rateLim = true ∧ ((F32.toRat s.x.y1) - 3999 / 100).abs < 1 / 100000 ∧ ((F32.toRat s.x.i) - 320100 / 10000).abs < 1 / 10000 := by
  decide +kernel

/-- CAN FD, Tessaly Fold: the identifiers of SYNC, an output and an input frame, and a 12-byte field's DLC. -/
theorem test_rio_identifiers :
    let g := { aCan 1 1 with idBase := 0x200 }
    (rioFrame g 0 0 5 0 3 0).ident = 0x200 ∧ (rioFrame g 2 1 5 8 3 0).ident = 0x301 ∧ (rioFrame g 3 4 5 12 3 0).ident = 0x384 ∧
    (rioFrame g 3 4 5 12 3 0).dlc = 10 := by decide +kernel

/-- The state that a command's effect leaves, for these tests. -/
def after (c : Instr) (s : State) : State := match exec c s with | .next t => t | _ => s

/-- Register Interface, Tarrow Bight: group 12 takes TG, and two Operator sessions are open, `open1` telling whether the
first one's tollgate is. -/
def bight (open1 : Bool) : State :=
  { withImage { anImage with reginit := { guardSel := 0x1000, tgKey := 0x3C5A } } ready with
    sessions := [{ aSession .operator with m := { tgOpen := if open1 then some 0 else none } }, { aSession .operator with sid := 2 }] }

/-- The key with its complement opens the writer's tollgate only. -/
theorem test_tollgate_opens :
    ((after (.tollgateWrite 7 (.host 1) 0xC3A53C5A) (bight false)).win (.host 1)).tgOpen = some 7 ∧
    ((after (.tollgateWrite 7 (.host 1) 0xC3A53C5A) (bight false)).win (.host 2)).tgOpen = none := by decide +kernel

/-- The other session's write of 30C8h is refused with GUARD; the opener's is accepted and closes its tollgate. -/
theorem test_tollgate_guards :
    (after (.registerWrite 80000 (.host 2) 0x30C8 4 1) (bight true)).bus.firstCause = 0 ∧
    ((after (.registerWrite 120000 (.host 1) 0x30C8 4 1) (bight true)).ctx 3).map (·.bank) = some 1 ∧
    ((after (.registerWrite 120000 (.host 1) 0x30C8 4 1) (bight true)).win (.host 1)).tgOpen = none := by decide +kernel

/-- Ethernet, Ansel Morrow: SEQ 7,003 arrives in the watchdog's expiry tick and is accepted (R447). -/
theorem test_usl_expiry_tick :
    let p := [1, 0, 4, 0] ++ leBytes 4 7003 ++ leBytes 8 0 ++ [0, 0, 0, 1]
    let s := { onUsl { aConn with wd := 1200000 } { c := 9, st := 1, lastSeq := some 7000, wd := some 1200000 } with clock := 1200000 }
    ((after (.uslDataReceived 0 none 9 (p ++ leBytes 4 (uslCrc 1 p).toNat)) s).usl1 9).map (fun x => (x.lastSeq, x.wd)) =
      some (some 7003, some 2400000) := by decide +kernel

/-- The same where the expiry comes first in that tick: the PDU is still on time (R17). -/
theorem test_usl_expiry_first :
    let p := [1, 0, 4, 0] ++ leBytes 4 7003 ++ leBytes 8 0 ++ [0, 0, 0, 1]
    let s := { onUsl { aConn with wd := 1200000 } { c := 9, st := 1, lastSeq := some 7000, wd := some 1200000 } with clock := 1200000 }
    let t := after (.uslDataReceived 0 none 9 (p ++ leBytes 4 (uslCrc 1 p).toNat)) (after (.uslWatchdogExpire 0 9) s)
    (t.runExpiring.usl1 9).map (fun x => (x.st, x.wd)) = some (1, some 2400000) := by decide +kernel

/-- The owner's certificate is its own issuer, and the leaf below it names the Engineer (R99, R100). -/
theorem test_root_certificate : rootOk rootCert = true := by decide +kernel

theorem test_leaf_certificate :
    chainLeaf rootCert [leafCert] = some leafParsed ∧ leafRole leafParsed = some .engineer := by decide +kernel

/-- Safe Brake Control, Garron Vale: with TP_PERIOD 2,000 ms a pulse starts each second. -/
theorem test_pulse_period : halfPeriod { aBrake 0 with tpPeriod := 2000 } = 400000000 := by decide +kernel

/-- Program Cycle, Fennick Hale: an L0 pass that has not ended at the window end is overrun 1, and the next harvest is skipped. -/
theorem test_overrun :
    let s := State.runExpiring <| after (.windowEnd 0) { withImage { anImage with cycle := { anImage.cycle with ovrLimit := 3 } } passing with clock := 392000 }
    (s.lane 0).ovrCons = 1 ∧ s.seq.skip = true ∧ s.mode = .active := by decide +kernel

/-- Field Inputs and Outputs, Tolbrin Moor: at 12 mA the test work steps its clock up. -/
theorem test_ao_clock_step :
    let s := { running with clock := 400000, fld := { running.fld with ao := (List.range 16).map fun k => { n := k, sink := true, testing := true, clk := 0 } } }
    ((after (.aoClockStep 0 2 12000) s).ao 2).clk = 1 := by decide +kernel

/-- Diagnostics, Merrow Quay: with 64 entries staged the next is lost and counted. -/
theorem test_log_overflow :
    let e : Entry := { num := 1, tick := 0, code := 1, sev := 0, tunsure := false, unit := 0, item := 0, time := 0, data := [] }
    ((State.record 0x0904 0 0 [] { ready with log := { fifo := List.replicate 64 e } }).log.loss.map (·.1)) = some 1 := by decide +kernel

def goodHello : Hello := { aHello with digest := List.replicate 32 0, stageDigest := List.replicate 32 0 }

def goodStatus : StatusMsg := { aStatus with digest8 := List.replicate 8 0 }

/-- Terms that are out of a range, each in one operand only: every one is refused. -/
theorem test_ill_formed_0 : ([
    .porRelease 0 128 0 0,
    .porRelease 0 0 128 0,
    .porRelease 0 0 0 128,
    .powerFail 0 4,
    .registerWrite 0 .seq 65536 4 0,
    .registerWrite 0 .seq 0 3 0,
    .deliver 0 [65536],
    .syncSend 0 5,
    .toothEdge 0 8 0 true,
    .toothEdge 0 0 16 true,
    .bvPhaseUpdate 0 4294967296 0 0 0 0 0,
    .bvPhaseUpdate 0 0 4294967296 0 0 0 0,
    .bvPhaseUpdate 0 0 0 16 0 0 0,
    .bvPhaseUpdate 0 0 0 0 16 0 0,
    .milestoneFire 0 1024,
    .loopTimeTrigger 0 160,
    .aiScan 0 true [(24, 0)],
    .aiSampleCommit 0 24 true 0,
    .hartTransactionStart 0 (.ai 8),
    .hartTransactionStart 0 (.ao 16),
    .hartResponse 0 (.ai 0) true 0 (List.replicate 10 0) [],
    .hartResponse 0 (.ai 0) true 0 [] (List.replicate 256 0),
    .hartStale 0 1536,
    .aoFrame 0 16] : List Instr).all (fun i => !i.wf) = true := by decide +kernel

/-- Terms that are out of a range, each in one operand only: every one is refused. -/
theorem test_ill_formed_1 : ([
    .aoMeasure 0 0 true 65536 0,
    .aoMeasure 0 0 true 0 65536,
    .dioInputAccept 0 32 true 0,
    .canIntegrated 0 4,
    .canTxAttemptEnd 0 0 .sent 32 0,
    .canTxAttemptEnd 0 0 .sent 0 128,
    .canFrameReceived 0 0 { aRioFrame 5 with ident := 2048 },
    .canFrameReceived 0 0 { aRioFrame 5 with ide := true, ident := 536870912 },
    .canFrameReceived 0 0 { aRioFrame 5 with dlc := 16 },
    .canFrameReceived 0 0 { aRioFrame 5 with data := List.replicate 65 0 },
    .canRxPop 0 .seq 0 256,
    .ethLinkChange 0 true 4,
    .ethRioInputFrame 0 { anRx with mac := 281474976710656 } 0 [],
    .ethRioInputFrame 0 { anRx with seq := some 65536 } 0 [],
    .ethRioInputFrame 0 anRx 0 (List.replicate 1501 0),
    .smpHandshake 0 4294967296 0 0 0 true true true [],
    .smpHandshake 0 0 65536 0 0 true true true [],
    .smpHandshake 0 0 0 65536 0 true true true [],
    .smpHandshake 0 0 0 0 65536 true true true [],
    .unknownCmd 0 0 4294967296 0x99 [],
    .unknownCmd 0 0 0 65536 [],
    .unknownCmd 0 0 0 0x50 [],
    .unknownCmd 0 0 0 0x99 (List.replicate 65536 0),
    .imageAdopt 0 0 0 [] true 64 0] : List Instr).all (fun i => !i.wf) = true := by decide +kernel

/-- Terms that are out of a range, each in one operand only: every one is refused. -/
theorem test_ill_formed_2 : ([
    .imageAdopt 0 0 0 [] true 0 4294967296,
    .uslDataReceived 0 (some { anRx with mac := 281474976710656 }) 0 [],
    .uslDataReceived 0 none 64 [],
    .uslDataReceived 0 none 0 (List.replicate 1501 0),
    .brakeChannelFault 0 0 0 0 0 0,
    .brakeChannelFault 0 0 16 0 0 0,
    .brakeChannelFault 0 0 1 65536 0 0,
    .brakeChannelFault 0 0 1 0 256 0,
    .brakeChannelFault 0 0 1 0 0 256,
    .soBcntClr 0 .seq 4,
    .helloReceived 0 2 goodHello,
    .helloReceived 0 0 { goodHello with member := 4 },
    .helloReceived 0 0 { goodHello with state := 8 },
    .helloReceived 0 0 { goodHello with key := 4 },
    .helloReceived 0 0 { goodHello with olc := 4 },
    .helloReceived 0 0 { goodHello with digest := [] },
    .helloReceived 0 0 { goodHello with stageDigest := [] },
    .mirrorFrameReceived 0 0 { h := 9, first := 8193, values := [], states := [] },
    .mirrorFrameReceived 0 0 { h := 9, first := 0, values := [5], states := [] },
    .mirrorFrameReceived 0 0 { h := 9, first := 0, values := [5], states := [4] },
    .relinquishNotice 0 3 0,
    .relinquishNotice 0 0 3,
    .imgdata 0 0 4294967296 [],
    .imgdata 0 0 0 (List.replicate 4097 0)] : List Instr).all (fun i => !i.wf) = true := by decide +kernel

/-- Terms that are out of a range, each in one operand only: every one is refused. -/
theorem test_ill_formed_3 : ([
    .statusReceived 0 { goodStatus with member := 4 } 0,
    .statusReceived 0 { goodStatus with state := 8 } 0,
    .statusReceived 0 { goodStatus with key := 4 } 0,
    .statusReceived 0 { goodStatus with digest8 := [] } 0,
    .statusReceived 0 goodStatus 65536,
    .roundReceived 0 { round := 4, owner := 4, verdictA := 1, verdictB := 2 },
    .roundReceived 0 { round := 4, owner := 1, verdictA := 4, verdictB := 2 },
    .roundReceived 0 { round := 4, owner := 1, verdictA := 1, verdictB := 4 },
    .clockCheck 0 true 4294967296,
    .scrubWord 0 (.slot 65536) true true true,
    .scrubWord 0 (.quality 65536) true true true,
    .scrubWord 0 (.func 16 0) true true true,
    .scrubWord 0 (.record 1280) true true true,
    .functionRung 0 16 none,
    .functionRung 0 0 (some 1032),
    .ladderWindowExpire 0 (some 16) none,
    .diagRecoverUnit 0 .seq 0 1032,
    .loopCoefA 0 .seq 160 0,
    .loopSwap 0 .seq 0 4,
    .slvPcntClr 0 .seq 4,
    .aiChCntClr 0 .seq 24,
    .feedOkChange 0 true 65536,
    .ptpAnnounceReceived 0 true { anAnnounce with domain := 256 },
    .ptpAnnounceReceived 0 true { anAnnounce with prio1 := 256 }] : List Instr).all (fun i => !i.wf) = true := by decide +kernel

/-- Terms that are out of a range, each in one operand only: every one is refused. -/
theorem test_ill_formed_4 : ([
    .ptpAnnounceReceived 0 true { anAnnounce with clkClass := 256 },
    .ptpAnnounceReceived 0 true { anAnnounce with accuracy := 256 },
    .ptpAnnounceReceived 0 true { anAnnounce with variance := 65536 },
    .ptpAnnounceReceived 0 true { anAnnounce with prio2 := 256 },
    .ptpAnnounceReceived 0 true { anAnnounce with steps := 65536 },
    .ptpAnnounceReceived 0 true { anAnnounce with sender := 2 ^ 80 }] : List Instr).all (fun i => !i.wf) = true := by decide +kernel

/-- Commands whose every operand lies in its range are well-formed. -/
theorem test_well_formed : ([
    .porRelease 0 0 0 0,
    .reg64HighWrite 0 .seq 0 0,
    .camMarkerEdge 0 0,
    .milestoneFire 0 0,
    .loopSampleMissed 0 0,
    .hartResponse 0 (.ai 0) true 0 [] [],
    .aoHoldExpire 0 0,
    .aoDeviation 0 0,
    .dioOverload 0 0,
    .canTxAttemptEnd 0 0 .sent 0 0,
    .canRioOutputReceived 0 0 (aRioFrame 5),
    .canTxCancel 0 .seq 0,
    .ethRioSyncReceived 0 anRx 0 [],
    .dtlsClose 0 0,
    .regRead 0 0 0 [],
    .ownerEnrol 0 0 0 [],
    .imageVerify 0 0 0 [],
    .olcSwitch 0 0 0 [],
    .safeEnter 0 0 0 [],
    .uslAck 0 0 0 [],
    .brakeTest 0 0 0 [],
    .uslWatchdogExpire 0 0,
    .brakeDemand 0 0 true,
    .brakeChannelFault 0 0 1 0 0 0] : List Instr).all Instr.wf = true := by decide +kernel

/-! ### For every statement with premises, a state and operands that meet them all -/

theorem test_witness_InsertionRuns :
    (∃ (s : State) (a : State) (dt : Nat), s.advance dt = a ∧ (a.power.phase = .unpowered ∨ a.power.phase = .dead) ∧ a.feedGood = true) ∧
    (∃ (s : State) (a : State) (dt : Nat) (tm : Nat), s.advance dt = a ∧ a.power.phase = .mating tm ∧ tm + 4000000 ≤ a.clock ∧ a.mayStart = true) ∧
    (∃ (s : State) (a : State) (dt : Nat) (tm : Nat) (r1 : Nat) (r2 : Nat) (r3 : Nat), s.advance dt = a ∧ a.power.phase = .present tm ∧ tm + 30000000 ≤ a.clock ∧ a.mayStart = true) ∧
    (∃ (s : State) (a : State) (dt : Nat) (tm : Nat) (m2 : Bool), s.advance dt = a ∧ (a.power.phase = .mating tm ∨ a.power.phase = .present tm)) ∧
    (∃ (s : State) (a : State) (dt : Nat) (v : Nat) (b : Bool), s.advance dt = a ∧ a.power.phase = .operating) ∧
    (∃ (s : State) (a : State) (dt : Nat) (tm : Nat) (v : Nat), s.advance dt = a ∧ (a.power.phase = .mating tm ∨ a.power.phase = .present tm) ∧ a.power.feedBStart = false ∧ v < 17000) ∧
    (∃ (s : State) (a : State) (dt : Nat), s.advance dt = a ∧ (a.power.phase = .unpowered ∨ a.power.phase = .dead) ∧ a.power.mate1 = true ∧ a.power.mate2 = true ∧ a.power.feedAStart = true) :=
  ⟨⟨{ State.reset with power := { phase := .dead } }, _, 0, rfl, by decide +kernel, by decide +kernel⟩,
   ⟨{ State.reset with clock := 4000000, power := { phase := .mating 0 } }, _, 0, 0, rfl, by decide +kernel, by decide +kernel, by decide +kernel⟩,
   ⟨{ State.reset with clock := 30000000, power := { phase := .present 0 } }, _, 0, 0, 1, 2, 3, rfl, by decide +kernel, by decide +kernel, by decide +kernel⟩,
   ⟨{ State.reset with power := { phase := .mating 0 } }, _, 0, 0, true, rfl, by decide +kernel⟩,
   ⟨idle, _, 0, 20000, true, rfl, by decide +kernel⟩,
   ⟨{ State.reset with power := { phase := .mating 0, feedBStart := false } }, _, 0, 0, 100, rfl, by decide +kernel, by decide +kernel, by decide +kernel⟩,
   ⟨{ State.reset with power := { phase := .dead, mate1 := true, mate2 := true, feedAStart := true } }, _, 0, rfl, by decide +kernel, by decide +kernel, by decide +kernel, by decide +kernel⟩⟩

theorem test_witness_StartupRuns :
    (∃ (s : State) (a : State) (dt : Nat), s.advance dt = a ∧ a.power.phase = .startup ∧ a.boot.fwRun = false) ∧
    (∃ (s : State) (a : State) (dt : Nat), s.advance dt = a ∧ a.power.phase = .startup ∧ a.boot.fwRun = false) ∧
    (∃ (s : State) (a : State) (dt : Nat) (ok : Bool) (se : Bool), s.advance dt = a ∧ a.power.phase = .startup ∧ a.boot.fwRun = true ∧ a.boot.selftest = none) ∧
    (∃ (s : State) (a : State) (dt : Nat), s.advance dt = a ∧ a.boot.lampTest = true ∧ a.boot.tr + 400000000 ≤ a.clock) ∧
    (∃ (s : State) (a : State) (dt : Nat), s.advance dt = a ∧ a.power.phase = .startup ∧ a.boot.selftest = some true ∧ a.boot.copyDone = false ∧ a.store.copyA.marked = false ∧ a.store.copyB.marked = false) ∧
    (∃ (s : State) (a : State) (dt : Nat), s.advance dt = a ∧ a.power.phase = .startup ∧ a.boot.fwRun = true ∧ a.boot.selftest = some false) ∧
    (∃ (s : State) (a : State) (dt : Nat), s.advance dt = a ∧ a.power.phase = .startup ∧ a.boot.fwRun = true ∧ a.boot.selftest = some true ∧ a.boot.copyDone = true ∧ a.store.loaded = none) :=
  ⟨⟨State.reset, _, 0, rfl, by decide +kernel, by decide +kernel⟩,
   ⟨State.reset, _, 0, rfl, by decide +kernel, by decide +kernel⟩,
   ⟨{ State.reset with boot := { fwRun := true } }, _, 0, true, true, rfl, by decide +kernel, by decide +kernel, by decide +kernel⟩,
   ⟨{ State.reset with clock := 400000000 }, _, 0, rfl, by decide +kernel, by decide +kernel⟩,
   ⟨{ State.reset with boot := { fwRun := true, selftest := some true } }, _, 0, rfl, by decide +kernel, by decide +kernel, by decide +kernel, by decide +kernel, by decide +kernel⟩,
   ⟨{ State.reset with boot := { fwRun := true, selftest := some false } }, _, 0, rfl, by decide +kernel, by decide +kernel, by decide +kernel⟩,
   ⟨{ State.reset with boot := { fwRun := true, selftest := some true, copyDone := true } }, _, 0, rfl, by decide +kernel, by decide +kernel, by decide +kernel, by decide +kernel, by decide +kernel⟩⟩

theorem test_witness_PowerFailRuns :
    (∃ (s : State) (a : State) (dt : Nat) (b : Bool), s.advance dt = a ∧ a.power.phase = .operating) ∧
    (∃ (s : State) (a : State) (dt : Nat) (c : Nat), s.advance dt = a ∧ (a.power.phase = .startup ∨ a.power.phase = .operating ∨ a.power.phase = .inert)) ∧
    (∃ (s : State) (a : State) (dt : Nat) (tp : Nat), s.advance dt = a ∧ a.power.phase = .powerFail tp ∧ tp + 7200000 ≤ a.clock) ∧
    (∃ (s : State) (a : State) (dt : Nat), s.advance dt = a ∧ (a.power.phase = .unpowered ∨ a.power.phase = .dead)) :=
  ⟨⟨idle, _, 0, true, rfl, by decide +kernel⟩,
   ⟨idle, _, 0, 2, rfl, by decide +kernel⟩,
   ⟨{ State.reset with clock := 7200000, power := { phase := .powerFail 0 } }, _, 0, 0, rfl, by decide +kernel, by decide +kernel⟩,
   ⟨{ State.reset with power := { phase := .unpowered } }, _, 0, rfl, by decide +kernel⟩⟩

theorem test_witness_PanelRuns :
    (∃ (s : State) (a : State) (dt : Nat) (k1 : Bool) (k2 : Bool) (k : Key), s.advance dt = a ∧ a.power.phase = .operating ∧ keyOf k1 k2 = some k ∧ k ≠ a.panel.key) ∧
    (∃ (s : State) (a : State) (dt : Nat) (k1 : Bool) (k2 : Bool) (k : Key), s.advance dt = a ∧ a.power.phase = .operating ∧ keyOf k1 k2 = some k ∧ k ≠ a.panel.key ∧ a.olc.st = .none ∧ ¬ (k = .stop ∧ a.mode = .active)) ∧
    (∃ (s : State) (a : State) (dt : Nat), s.advance dt = a ∧ a.power.phase = .operating ∧ a.panel.key ≠ .stop ∧ a.olc.st = .none ∧ a.mode = .active) ∧
    (∃ (s : State) (a : State) (dt : Nat) (d : Bool), s.advance dt = a ∧ a.power.phase = .operating) ∧
    (∃ (s : State) (a : State) (dt : Nat) (hm : Nat), s.advance dt = a ∧ 500 ≤ hm ∧ a.power.phase = .operating ∧ a.panel.eject = .none ∧ a.pair.drive = false ∧ a.olc.st = .none) ∧
    (∃ (s : State) (a : State) (dt : Nat) (hm : Nat), s.advance dt = a ∧ 500 ≤ hm ∧ a.power.phase = .operating ∧ a.panel.eject = .prepared) ∧
    (∃ (s : State) (a : State) (dt : Nat) (t : Nat) (m : ModState) (b : Bool), s.advance dt = a ∧ a.panel.eject = .preparing t m b ∧ a.mode ≠ .active ∧ a.barn.save = none) ∧
    (∃ (s : State) (a : State) (dt : Nat) (t : Nat) (m : ModState) (b : Bool), s.advance dt = a ∧ a.panel.eject = .preparing t m b ∧ t + 800000000 < a.clock) :=
  ⟨⟨running, _, 0, true, true, .prog, rfl, by decide +kernel, by decide +kernel, by decide +kernel⟩,
   ⟨idle, _, 0, false, true, .run, rfl, by decide +kernel, by decide +kernel, by decide +kernel, by decide +kernel, by decide +kernel⟩,
   ⟨running, _, 0, rfl, by decide +kernel, by decide +kernel, by decide +kernel, by decide +kernel⟩,
   ⟨running, _, 0, true, rfl, by decide +kernel⟩,
   ⟨ready, _, 0, 500, rfl, by decide +kernel, by decide +kernel, by decide +kernel, by decide +kernel, by decide +kernel⟩,
   ⟨{ ready with panel := { eject := .prepared } }, _, 0, 500, rfl, by decide +kernel, by decide +kernel, by decide +kernel⟩,
   ⟨{ ready with panel := { eject := .preparing 0 .standby true } }, _, 0, 0, .standby, true, rfl, by decide +kernel, by decide +kernel, by decide +kernel⟩,
   ⟨{ ready with clock := 800000001, panel := { eject := .preparing 0 .standby true } }, _, 0, 0, .standby, true, rfl, by decide +kernel, by decide +kernel⟩⟩

theorem test_witness_SmpReads :
    (∃ (s : State) (a : State) (dt : Nat) (sid : Nat) (req : Nat) (p : List Byte) (x : Session) (cmd : Nat), s.advance dt = a ∧ a.Asks sid req x ∧ cmd ∉ smpCodes) ∧
    (∃ (s : State) (a : State) (dt : Nat) (sid : Nat) (req : Nat) (p : List Byte) (x : Session), s.advance dt = a ∧ a.Asks sid req x ∧ a.roleOk .viewer true x = true ∧ p.length = 32) ∧
    (∃ (s : State) (a : State) (dt : Nat) (sid : Nat) (req : Nat) (p : List Byte) (x : Session), s.advance dt = a ∧ a.Asks sid req x ∧ a.roleOk .viewer true x = true ∧ p = []) ∧
    (∃ (s : State) (a : State) (dt : Nat) (sid : Nat) (req : Nat) (p : List Byte) (x : Session), s.advance dt = a ∧ a.Asks sid req x ∧ a.roleOk .viewer true x = true ∧ p.length = 5 ∧ 1 ≤ getN p 4 1 ∧ getN p 4 1 ≤ 32) ∧
    (∃ (s : State) (a : State) (dt : Nat) (sid : Nat) (req : Nat) (p : List Byte) (x : Session), s.advance dt = a ∧ a.Asks sid req x ∧ a.roleOk .viewer false x = true ∧ p.length = 4 ∧ 1 ≤ getN p 2 2 ∧ getN p 2 2 ≤ 128 ∧ getN p 0 2 + getN p 2 2 ≤ 65536) ∧
    (∃ (s : State) (a : State) (dt : Nat) (sid : Nat) (req : Nat) (p : List Byte) (x : Session), s.advance dt = a ∧ a.Asks sid req x ∧ a.roleOk .viewer false x = true ∧ p.length ≠ 4) ∧
    (∃ (s : State) (a : State) (dt : Nat) (sid : Nat) (req : Nat) (p : List Byte) (x : Session), s.advance dt = a ∧ a.Asks sid req x ∧ a.roleOk .viewer true x = true ∧ p.length ≠ 32) :=
  ⟨⟨withSession .viewer idle, _, 0, 1, 1, [], aSession .viewer, 9, rfl, ⟨by decide +kernel, by decide +kernel, by decide +kernel, by decide +kernel, by decide +kernel⟩, by decide +kernel⟩,
   ⟨withSession .viewer idle, _, 0, 1, 1, List.replicate 32 0, aSession .viewer, rfl, ⟨by decide +kernel, by decide +kernel, by decide +kernel, by decide +kernel, by decide +kernel⟩, by decide +kernel, by decide +kernel⟩,
   ⟨withSession .viewer ready, _, 0, 1, 1, [], aSession .viewer, rfl, ⟨by decide +kernel, by decide +kernel, by decide +kernel, by decide +kernel, by decide +kernel⟩, by decide +kernel, by decide +kernel⟩,
   ⟨withSession .viewer ready, _, 0, 1, 1, [0, 0, 0, 0, 32], aSession .viewer, rfl, ⟨by decide +kernel, by decide +kernel, by decide +kernel, by decide +kernel, by decide +kernel⟩, by decide +kernel, by decide +kernel, by decide +kernel, by decide +kernel⟩,
   ⟨withSession .viewer running, _, 0, 1, 1, [128, 255, 128, 0], aSession .viewer, rfl, ⟨by decide +kernel, by decide +kernel, by decide +kernel, by decide +kernel, by decide +kernel⟩, by decide +kernel, by decide +kernel, by decide +kernel, by decide +kernel, by decide +kernel⟩,
   ⟨withSession .viewer running, _, 0, 1, 1, [], aSession .viewer, rfl, ⟨by decide +kernel, by decide +kernel, by decide +kernel, by decide +kernel, by decide +kernel⟩, by decide +kernel, by decide +kernel⟩,
   ⟨withSession .viewer running, _, 0, 1, 1, [], aSession .viewer, rfl, ⟨by decide +kernel, by decide +kernel, by decide +kernel, by decide +kernel, by decide +kernel⟩, by decide +kernel, by decide +kernel⟩⟩

theorem test_witness_SmpSessions :
    (∃ (s : State) (a : State) (dt : Nat) (sid : Nat) (pr : Bool), s.advance dt = a ∧ a.smpOn = true ∧ a.session sid = none ∧ a.sessions.length < 8 ∧ a.store.owner = none) ∧
    (∃ (s : State) (a : State) (dt : Nat) (sid : Nat) (root : List Byte) (rf : List Byte) (chain : List (List Byte)) (c : Cert) (r : Role), s.advance dt = a ∧ a.smpOn = true ∧ a.session sid = none ∧ a.sessions.length < 8 ∧ a.store.owner = some (root, rf) ∧ chainLeaf root chain = some c ∧ leafRole c = some r ∧ (datesOk a.ns chain = true ∨ a.datesChecked = false)) ∧
    (∃ (s : State) (a : State) (dt : Nat) (sid : Nat) (n : Nat) (g : Nat) (k : Nat) (rs : Bool) (ea : Bool) (pr : Bool) (chain : List (List Byte)), s.advance dt = a ∧ (offerOk n g k rs ea = false ∨ 8 ≤ a.sessions.length)) ∧
    (∃ (s : State) (a : State) (dt : Nat) (sid : Nat) (x : Session), s.advance dt = a ∧ a.smpOn = true ∧ a.session sid = some x ∧ x.lastRec + 12000000000 < a.clock) ∧
    (∃ (s : State) (a : State) (dt : Nat) (sid : Nat) (x : Session), s.advance dt = a ∧ a.smpOn = true ∧ a.session sid = some x) :=
  ⟨⟨idle, _, 0, 1, true, rfl, by decide +kernel, by decide +kernel, by decide +kernel, by decide +kernel⟩,
   ⟨{ ready with store := { ready.store with owner := some (rootCert, [9]) } }, _, 0, 1, rootCert, [9], [leafCert], leafParsed, .engineer, rfl, by decide +kernel, by decide +kernel, by decide +kernel, by decide +kernel, by decide +kernel, by decide +kernel, by decide +kernel⟩,
   ⟨ready, _, 0, 1, 0x1302, 0x0017, 0x0403, false, false, true, [], rfl, by decide +kernel⟩,
   ⟨{ withSession .viewer ready with clock := 12000000001 }, _, 0, 1, aSession .viewer, rfl, by decide +kernel, by decide +kernel, by decide +kernel⟩,
   ⟨withSession .viewer ready, _, 0, 1, aSession .viewer, rfl, by decide +kernel, by decide +kernel⟩⟩

theorem test_witness_SmpRefusals :
    (∃ (s : State) (a : State) (dt : Nat) (sid : Nat) (req : Nat) (p : List Byte) (x : Session), s.advance dt = a ∧ a.Asks sid req x ∧ a.roleOk .owner false x = false) ∧
    (∃ (s : State) (a : State) (dt : Nat) (sid : Nat) (req : Nat) (p : List Byte) (x : Session), s.advance dt = a ∧ a.Asks sid req x ∧ a.roleOk .engineer false x = true ∧ (a.panel.key ≠ .prog ∨ a.mode ≠ .active)) ∧
    (∃ (s : State) (a : State) (dt : Nat) (sid : Nat) (req : Nat) (p : List Byte) (x : Session) (r : Resp), s.advance dt = a ∧ a.smpOn = true ∧ a.smpBusy = false ∧ a.waiting = [] ∧ a.session sid = some x ∧ x.fresh req = false ∧ (x.stored.find? fun r => decide (r.req = req)) = some r ∧ r.ready = true) ∧
    (∃ (s : State) (a : State) (dt : Nat) (sid : Nat) (req : Nat) (p : List Byte), s.advance dt = a ∧ a.smpOn = true ∧ (a.smpBusy = true ∨ a.waiting ≠ [])) ∧
    (∃ (s : State) (r : SmpReq), s.waiting = [r] ∧ s.smpBusy = false) :=
  ⟨⟨withSession .engineer ready, _, 0, 1, 1, [], aSession .engineer, rfl, ⟨by decide +kernel, by decide +kernel, by decide +kernel, by decide +kernel, by decide +kernel⟩, by decide +kernel⟩,
   ⟨withSession .engineer ready, _, 0, 1, 1, [], aSession .engineer, rfl, ⟨by decide +kernel, by decide +kernel, by decide +kernel, by decide +kernel, by decide +kernel⟩, by decide +kernel, by decide +kernel⟩,
   ⟨{ running with sessions := [{ aSession .engineer with high := some 1, stored := [{ req := 1, cmd := 0x40, code := 0, payload := [], ready := true }] }] }, _, 0, 1, 1, [], { aSession .engineer with high := some 1, stored := [{ req := 1, cmd := 0x40, code := 0, payload := [], ready := true }] }, { req := 1, cmd := 0x40, code := 0, payload := [], ready := true }, rfl, by decide +kernel, by decide +kernel, by decide +kernel, by decide +kernel, by decide +kernel, by decide +kernel, by decide +kernel⟩,
   ⟨{ ready with log := { clear := some (1, 1) } }, _, 0, 1, 1, [], rfl, by decide +kernel, by decide +kernel⟩,
   ⟨{ ready with waiting := [{ sid := 1, req := 1, cmd := 2, p := [] }] }, { sid := 1, req := 1, cmd := 2, p := [] }, by decide +kernel, by decide +kernel⟩⟩

theorem test_witness_SmpImages :
    (∃ (s : State) (a : State) (dt : Nat) (sid : Nat) (req : Nat) (p : List Byte) (x : Session), s.advance dt = a ∧ a.Asks sid req x ∧ a.roleOk .engineer false x = true ∧ p.length = 4 ∧ a.tested = true ∧ a.store.secFault = false ∧ a.store.stage.st = .empty ∧ a.store.commit = none ∧ a.store.owner.isSome = true ∧ lenInRange (getN p 0 4) = true ∧ a.store.dup = none) ∧
    (∃ (s : State) (a : State) (dt : Nat) (sid : Nat) (req : Nat) (p : List Byte) (x : Session) (d : List Byte), s.advance dt = a ∧ a.Asks sid req x ∧ a.roleOk .engineer false x = true ∧ a.tested = true ∧ d.length ≤ 1024 ∧ a.store.stage.st = .receiving ∧ a.store.stage.sid = some sid ∧ a.store.stage.data.length + d.length ≤ a.store.stage.len ∧ 4 ≤ p.length ∧ p.drop 4 = d ∧ getN p 0 4 = a.store.stage.data.length) ∧
    (∃ (s : State) (a : State) (dt : Nat) (sid : Nat) (req : Nat) (p : List Byte) (x : Session), s.advance dt = a ∧ a.Asks sid req x ∧ a.roleOk .engineer false x = true ∧ p = [] ∧ a.tested = true ∧ a.store.stage.st = .receiving ∧ a.store.stage.data.length = a.store.stage.len) ∧
    (∃ (s : State) (a : State) (dt : Nat) (sid : Nat) (req : Nat) (p : List Byte) (x : Session), s.advance dt = a ∧ a.Asks sid req x ∧ a.roleOk .engineer false x = true ∧ p = [] ∧ a.tested = true ∧ a.store.secFault = false ∧ a.store.stage.st = .received) ∧
    (∃ (s : State) (a : State) (dt : Nat) (sid : Nat) (req : Nat) (p : List Byte) (x : Session), s.advance dt = a ∧ a.Asks sid req x ∧ a.roleOk .engineer false x = true ∧ p = [] ∧ a.tested = true ∧ a.store.stage.st ≠ .empty) ∧
    (∃ (s : State) (a : State) (dt : Nat) (sid : Nat) (req : Nat) (p : List Byte) (x : Session) (r : Nat) (n : Nat), s.advance dt = a ∧ a.Asks sid req x ∧ a.roleOk .engineer false x = true ∧ p = [] ∧ a.panel.key = .prog ∧ a.mode = .unconfigured ∧ a.tested = true ∧ a.store.secFault = false ∧ a.store.stage.st = .empty ∧ a.store.commit = none ∧ a.store.dup = none ∧ a.store.owner.isSome = true ∧ a.boot.slot ≠ some r) ∧
    (∃ (s : State) (a : State) (dt : Nat) (sid : Nat) (req : Nat) (p : List Byte) (x : Session) (i : Image), s.advance dt = a ∧ a.Asks sid req x ∧ a.roleOk .engineer false x = true ∧ p = [] ∧ a.commitTable = true ∧ a.store.secFault = false ∧ a.store.stage.st = .verified ∧ a.store.stage.img = some i ∧ (a.so.safeDigest = none ∨ a.so.safeDigest = some (safeDigestOf i))) :=
  ⟨⟨withSession .engineer ready, _, 0, 1, 1, [0, 16, 0, 0], aSession .engineer, rfl, ⟨by decide +kernel, by decide +kernel, by decide +kernel, by decide +kernel, by decide +kernel⟩, by decide +kernel, by decide +kernel, by decide +kernel, by decide +kernel, by decide +kernel, by decide +kernel, by decide +kernel, by decide +kernel, by decide +kernel⟩,
   ⟨withSession .engineer { ready with store := { ready.store with stage := { st := .receiving, len := 4096, sid := some 1 } } }, _, 0, 1, 1, [0, 0, 0, 0, 7], aSession .engineer, [7], rfl, ⟨by decide +kernel, by decide +kernel, by decide +kernel, by decide +kernel, by decide +kernel⟩, by decide +kernel, by decide +kernel, by decide +kernel, by decide +kernel, by decide +kernel, by decide +kernel, by decide +kernel, by decide +kernel, by decide +kernel⟩,
   ⟨withSession .engineer { ready with store := { ready.store with stage := { st := .receiving, len := 2, data := [1, 2], sid := some 1 } } }, _, 0, 1, 1, [], aSession .engineer, rfl, ⟨by decide +kernel, by decide +kernel, by decide +kernel, by decide +kernel, by decide +kernel⟩, by decide +kernel, by decide +kernel, by decide +kernel, by decide +kernel, by decide +kernel⟩,
   ⟨withSession .engineer { ready with store := { ready.store with stage := { st := .received, len := 0, data := [], sid := some 1 } } }, _, 0, 1, 1, [], aSession .engineer, rfl, ⟨by decide +kernel, by decide +kernel, by decide +kernel, by decide +kernel, by decide +kernel⟩, by decide +kernel, by decide +kernel, by decide +kernel, by decide +kernel, by decide +kernel⟩,
   ⟨withSession .engineer { ready with store := { ready.store with stage := { st := .receiving, len := 2, data := [1, 2], sid := some 1 } } }, _, 0, 1, 1, [], aSession .engineer, rfl, ⟨by decide +kernel, by decide +kernel, by decide +kernel, by decide +kernel, by decide +kernel⟩, by decide +kernel, by decide +kernel, by decide +kernel, by decide +kernel⟩,
   ⟨withSession .engineer { idle with panel := { key := .prog }, boot := { idle.boot with slot := some 0 }, store := { owner := some ([], []) } }, _, 0, 1, 1, [], aSession .engineer, 1, 4096, rfl, ⟨by decide +kernel, by decide +kernel, by decide +kernel, by decide +kernel, by decide +kernel⟩, by decide +kernel, by decide +kernel, by decide +kernel, by decide +kernel, by decide +kernel, by decide +kernel, by decide +kernel, by decide +kernel, by decide +kernel, by decide +kernel, by decide +kernel⟩,
   ⟨withSession .engineer { idle with panel := { key := .prog }, store := { owner := some ([], []), stage := { st := .verified, img := some anImage } } }, _, 0, 1, 1, [], aSession .engineer, anImage, rfl, ⟨by decide +kernel, by decide +kernel, by decide +kernel, by decide +kernel, by decide +kernel⟩, by decide +kernel, by decide +kernel, by decide +kernel, by decide +kernel, by decide +kernel, by decide +kernel, by decide +kernel⟩⟩

theorem test_witness_ImageEvents :
    (∃ (s : State) (a : State) (dt : Nat), s.advance dt = a ∧ a.power.phase = .operating ∧ a.store.stage.st = .receiving ∧ a.store.stage.lastData + 24000000000 < a.clock) ∧
    (∃ (s : State) (a : State) (dt : Nat), s.advance dt = a ∧ a.store.stage.st = .receiving ∧ a.store.stage.sid = none ∧ a.store.stage.data.length = a.store.stage.len) ∧
    (∃ (s : State) (a : State) (dt : Nat) (b : Bool), s.advance dt = a ∧ a.power.phase = .operating ∧ a.store.commit = some (false, b)) ∧
    (∃ (s : State) (a : State) (dt : Nat) (b : Bool), s.advance dt = a ∧ a.power.phase = .operating ∧ a.store.commit = some (true, b)) ∧
    (∃ (s : State) (a : State) (dt : Nat) (b : Bool), s.advance dt = a ∧ a.power.phase = .operating ∧ a.store.dup = some b) :=
  ⟨⟨{ { ready with store := { ready.store with stage := { st := .receiving, len := 2, data := [1, 2], sid := some 1 } } } with clock := 24000000001 }, _, 0, rfl, by decide +kernel, by decide +kernel, by decide +kernel⟩,
   ⟨{ ready with store := { ready.store with stage := { st := .receiving, len := 2, data := [1, 2] } } }, _, 0, rfl, by decide +kernel, by decide +kernel, by decide +kernel⟩,
   ⟨{ ready with store := { ready.store with commit := some (false, true) } }, _, 0, true, rfl, by decide +kernel, by decide +kernel⟩,
   ⟨{ ready with store := { ready.store with commit := some (true, true) } }, _, 0, true, rfl, by decide +kernel, by decide +kernel⟩,
   ⟨{ ready with store := { ready.store with dup := some true } }, _, 0, true, rfl, by decide +kernel, by decide +kernel⟩⟩

theorem test_witness_SmpRecorder :
    (∃ (s : State) (a : State) (dt : Nat) (sid : Nat) (req : Nat) (p : List Byte) (x : Session), s.advance dt = a ∧ a.Asks sid req x ∧ a.roleOk .operator false x = true ∧ p.length = 4) ∧
    (∃ (s : State) (a : State) (dt : Nat) (sid : Nat) (req : Nat) (p : List Byte) (x : Session), s.advance dt = a ∧ a.Asks sid req x ∧ a.roleOk .owner false x = true ∧ p = []) ∧
    (∃ (s : State) (a : State) (dt : Nat) (sid : Nat) (req : Nat), s.advance dt = a ∧ a.power.phase = .operating ∧ a.log.clear = some (sid, req)) :=
  ⟨⟨withSession .operator ready, _, 0, 1, 1, [3, 0, 0, 0], aSession .operator, rfl, ⟨by decide +kernel, by decide +kernel, by decide +kernel, by decide +kernel, by decide +kernel⟩, by decide +kernel, by decide +kernel⟩,
   ⟨withSession .owner ready, _, 0, 1, 1, [], aSession .owner, rfl, ⟨by decide +kernel, by decide +kernel, by decide +kernel, by decide +kernel, by decide +kernel⟩, by decide +kernel, by decide +kernel⟩,
   ⟨{ ready with log := { clear := some (1, 1) } }, _, 0, 1, 1, rfl, by decide +kernel, by decide +kernel⟩⟩

theorem test_witness_SmpOwnership :
    (∃ (s : State) (a : State) (dt : Nat) (sid : Nat) (req : Nat) (p : List Byte) (x : Session), s.advance dt = a ∧ a.Asks sid req x ∧ a.store.owner = none ∧ rootOk p = true ∧ a.panel.key = .prog ∧ a.mode = .unconfigured ∧ a.store.secFault = false) ∧
    (∃ (s : State) (a : State) (dt : Nat) (sid : Nat) (req : Nat) (p : List Byte) (x : Session), s.advance dt = a ∧ a.Asks sid req x ∧ p = [] ∧ a.store.owner.isSome = true ∧ a.roleOk .owner false x = true ∧ a.panel.key = .prog ∧ a.mode = .unconfigured ∧ a.store.secFault = false) :=
  ⟨⟨withSession .anon { idle with panel := { key := .prog } }, _, 0, 1, 1, rootCert, aSession .anon, rfl, ⟨by decide +kernel, by decide +kernel, by decide +kernel, by decide +kernel, by decide +kernel⟩, by decide +kernel, by decide +kernel, by decide +kernel, by decide +kernel, by decide +kernel⟩,
   ⟨withSession .owner { idle with panel := { key := .prog }, store := { owner := some ([], []), floor := 4 } }, _, 0, 1, 1, [], aSession .owner, rfl, ⟨by decide +kernel, by decide +kernel, by decide +kernel, by decide +kernel, by decide +kernel⟩, by decide +kernel, by decide +kernel, by decide +kernel, by decide +kernel, by decide +kernel, by decide +kernel⟩⟩

theorem test_witness_SmpOnlineChange :
    (∃ (s : State) (a : State) (dt : Nat) (sid : Nat) (req : Nat) (p : List Byte) (x : Session), s.advance dt = a ∧ a.Asks sid req x ∧ a.roleOk .engineer false x = true ∧ p = [] ∧ a.panel.key = .prog ∧ a.mode = .active ∧ a.olc.st = .none ∧ a.olcRefusal = none) ∧
    (∃ (s : State) (a : State) (dt : Nat) (sid : Nat) (req : Nat) (p : List Byte) (x : Session), s.advance dt = a ∧ a.Asks sid req x ∧ a.roleOk .engineer false x = true ∧ p = [] ∧ a.panel.key = .prog ∧ a.mode = .active ∧ a.olc.st = .prepared) ∧
    (∃ (s : State) (a : State) (dt : Nat) (sid : Nat) (req : Nat) (p : List Byte) (x : Session), s.advance dt = a ∧ a.Asks sid req x ∧ a.roleOk .engineer false x = true ∧ p = [] ∧ a.mode = .active ∧ (a.olc.st = .prepared ∨ a.olc.st = .draining)) ∧
    (∃ (s : State) (a : State) (dt : Nat), s.advance dt = a ∧ a.olc.st = .loading) ∧
    (∃ (s : State) (a : State) (dt : Nat), s.advance dt = a ∧ a.olc.st = .draining ∧ a.olc.t0 + drainLimit a.img < a.clock) ∧
    (∃ (s : State) (a : State) (dt : Nat), s.advance dt = a ∧ a.olc.st = .prepared ∧ a.olc.t0 + 240000000000 < a.clock) :=
  ⟨⟨withSession .engineer { running with panel := { key := .prog }, store := { running.store with stage := { st := .verified, img := some anImage } } }, _, 0, 1, 1, [], aSession .engineer, rfl, ⟨by decide +kernel, by decide +kernel, by decide +kernel, by decide +kernel, by decide +kernel⟩, by decide +kernel, by decide +kernel, by decide +kernel, by decide +kernel, by decide +kernel, by decide +kernel⟩,
   ⟨withSession .engineer { running with panel := { key := .prog }, olc := { st := .prepared }, store := { running.store with stage := { st := .verified, img := some anImage } } }, _, 0, 1, 1, [], aSession .engineer, rfl, ⟨by decide +kernel, by decide +kernel, by decide +kernel, by decide +kernel, by decide +kernel⟩, by decide +kernel, by decide +kernel, by decide +kernel, by decide +kernel, by decide +kernel⟩,
   ⟨withSession .engineer { running with panel := { key := .prog }, olc := { st := .prepared }, store := { running.store with stage := { st := .verified, img := some anImage } } }, _, 0, 1, 1, [], aSession .engineer, rfl, ⟨by decide +kernel, by decide +kernel, by decide +kernel, by decide +kernel, by decide +kernel⟩, by decide +kernel, by decide +kernel, by decide +kernel, by decide +kernel⟩,
   ⟨{ running with panel := { key := .prog }, olc := { st := .loading, img := some anImage }, store := { running.store with stage := { st := .verified, img := some anImage } } }, _, 0, rfl, by decide +kernel⟩,
   ⟨{ { running with panel := { key := .prog }, olc := { st := .draining }, store := { running.store with stage := { st := .verified, img := some anImage } } } with clock := 240000000000 }, _, 0, rfl, by decide +kernel, by decide +kernel⟩,
   ⟨{ { running with panel := { key := .prog }, olc := { st := .prepared }, store := { running.store with stage := { st := .verified, img := some anImage } } } with clock := 240000000001 }, _, 0, rfl, by decide +kernel, by decide +kernel⟩⟩

theorem test_witness_SmpForces :
    (∃ (s : State) (a : State) (dt : Nat) (sid : Nat) (req : Nat) (p : List Byte) (x : Session) (i : Nat) (st : Nat) (v : W32), s.advance dt = a ∧ a.Asks sid req x ∧ a.roleOk .engineer false x = true ∧ a.panel.key = .prog ∧ a.mode = .active ∧ p.length = 8 ∧ getN p 0 2 = i ∧ getN p 2 1 = st ∧ getN p 3 1 = 0 ∧ BitVec.ofNat 32 (getN p 4 4) = v ∧ (st = 0 ∨ st = 1 ∨ st = 3) ∧ a.forceable i = true ∧ (a.forced i = true ∨ a.forces.length < 256)) ∧
    (∃ (s : State) (a : State) (dt : Nat) (sid : Nat) (req : Nat) (p : List Byte) (x : Session) (i : Nat), s.advance dt = a ∧ a.Asks sid req x ∧ a.roleOk .operator false x = true ∧ a.mode = .active ∧ p.length = 3 ∧ getN p 0 2 = i ∧ getN p 2 1 = 0 ∧ a.forced i = true) ∧
    (∃ (s : State) (a : State) (dt : Nat) (sid : Nat) (req : Nat) (p : List Byte) (x : Session) (i : Nat), s.advance dt = a ∧ a.Asks sid req x ∧ a.roleOk .operator false x = true ∧ a.mode = .active ∧ p.length = 3 ∧ getN p 0 2 = i ∧ getN p 2 1 = 1 ∧ a.forces ≠ []) :=
  ⟨⟨withSession .engineer { running with panel := { key := .prog } }, _, 0, 1, 1, [10, 0, 3, 0, 7, 0, 0, 0], aSession .engineer, 10, 3, 7, rfl, ⟨by decide +kernel, by decide +kernel, by decide +kernel, by decide +kernel, by decide +kernel⟩, by decide +kernel, by decide +kernel, by decide +kernel, by decide +kernel, by decide +kernel, by decide +kernel, by decide +kernel, by decide +kernel, by decide +kernel, by decide +kernel, by decide +kernel⟩,
   ⟨withSession .operator { running with panel := { key := .prog }, forces := [(10, 7, 0x43)] }, _, 0, 1, 1, [10, 0, 0], aSession .operator, 10, rfl, ⟨by decide +kernel, by decide +kernel, by decide +kernel, by decide +kernel, by decide +kernel⟩, by decide +kernel, by decide +kernel, by decide +kernel, by decide +kernel, by decide +kernel, by decide +kernel⟩,
   ⟨withSession .operator { running with panel := { key := .prog }, forces := [(10, 7, 0x43)] }, _, 0, 1, 1, [10, 0, 1], aSession .operator, 10, rfl, ⟨by decide +kernel, by decide +kernel, by decide +kernel, by decide +kernel, by decide +kernel⟩, by decide +kernel, by decide +kernel, by decide +kernel, by decide +kernel, by decide +kernel, by decide +kernel⟩⟩

theorem test_witness_SmpModes :
    (∃ (s : State) (a : State) (dt : Nat) (sid : Nat) (req : Nat) (p : List Byte) (x : Session), s.advance dt = a ∧ a.Asks sid req x ∧ a.roleOk .operator false x = true ∧ p = [] ∧ (a.mode = .active ∨ a.mode = .standby ∨ a.mode = .isolated ∨ a.mode = .safe)) ∧
    (∃ (s : State) (a : State) (dt : Nat) (sid : Nat) (req : Nat) (p : List Byte) (x : Session), s.advance dt = a ∧ a.Asks sid req x ∧ a.roleOk .operator false x = true ∧ p = [] ∧ (a.mode = .active ∨ a.mode = .standby ∨ a.mode = .isolated)) ∧
    (∃ (s : State) (a : State) (dt : Nat) (sid : Nat) (req : Nat) (p : List Byte) (x : Session), s.advance dt = a ∧ a.Asks sid req x ∧ a.roleOk .engineer false x = true ∧ p = [] ∧ a.panel.key = .prog ∧ a.mode = .safe) ∧
    (∃ (s : State) (a : State) (dt : Nat) (sid : Nat) (req : Nat) (p : List Byte) (x : Session), s.advance dt = a ∧ a.Asks sid req x ∧ a.roleOk .engineer false x = true ∧ p = [] ∧ a.panel.eject = .none ∧ a.pair.drive = false ∧ a.olc.st = .none) ∧
    (∃ (s : State) (a : State) (dt : Nat) (sid : Nat) (req : Nat) (p : List Byte) (x : Session), s.advance dt = a ∧ a.Asks sid req x ∧ a.roleOk .engineer false x = true ∧ p.length = 8 ∧ a.eth.ptp.st ≠ 1 ∧ a.eth.ptp.st ≠ 2) :=
  ⟨⟨withSession .operator running, _, 0, 1, 1, [], aSession .operator, rfl, ⟨by decide +kernel, by decide +kernel, by decide +kernel, by decide +kernel, by decide +kernel⟩, by decide +kernel, by decide +kernel, by decide +kernel⟩,
   ⟨withSession .operator running, _, 0, 1, 1, [], aSession .operator, rfl, ⟨by decide +kernel, by decide +kernel, by decide +kernel, by decide +kernel, by decide +kernel⟩, by decide +kernel, by decide +kernel, by decide +kernel⟩,
   ⟨withSession .engineer { ready with mode := .safe, panel := { key := .prog } }, _, 0, 1, 1, [], aSession .engineer, rfl, ⟨by decide +kernel, by decide +kernel, by decide +kernel, by decide +kernel, by decide +kernel⟩, by decide +kernel, by decide +kernel, by decide +kernel, by decide +kernel⟩,
   ⟨withSession .engineer ready, _, 0, 1, 1, [], aSession .engineer, rfl, ⟨by decide +kernel, by decide +kernel, by decide +kernel, by decide +kernel, by decide +kernel⟩, by decide +kernel, by decide +kernel, by decide +kernel, by decide +kernel, by decide +kernel⟩,
   ⟨withSession .engineer ready, _, 0, 1, 1, List.replicate 8 1, aSession .engineer, rfl, ⟨by decide +kernel, by decide +kernel, by decide +kernel, by decide +kernel, by decide +kernel⟩, by decide +kernel, by decide +kernel, by decide +kernel, by decide +kernel⟩⟩

theorem test_witness_SmpField :
    (∃ (s : State) (a : State) (dt : Nat) (sid : Nat) (req : Nat) (p : List Byte) (x : Session) (kind : Nat) (ch : Nat) (ad : Nat) (hc : Nat) (d : List Byte) (y : ModemSt), s.advance dt = a ∧ a.Asks sid req x ∧ a.roleOk .engineer false x = true ∧ 4 ≤ p.length ∧ p.drop 4 = d ∧ getN p 0 1 = kind ∧ getN p 1 1 = ch ∧ getN p 2 1 = ad ∧ getN p 3 1 = hc ∧ kind ≤ 1 ∧ d.length ≤ 251 ∧ ad ≤ 63 ∧ a.committed = true ∧ hartGiven a.img kind ch = true ∧ a.modem (modemOf (kind = 1) ch) = some y ∧ y.queued = none) ∧
    (∃ (s : State) (a : State) (dt : Nat) (sid : Nat) (req : Nat) (p : List Byte) (x : Session), s.advance dt = a ∧ a.Asks sid req x ∧ a.roleOk .engineer false x = true ∧ p = [] ∧ a.mode = .active ∧ a.mayHandOver = true ∧ a.pair.ho = none) ∧
    (∃ (s : State) (a : State) (dt : Nat) (sid : Nat) (req : Nat) (p : List Byte) (x : Session), s.advance dt = a ∧ a.Asks sid req x ∧ a.roleOk .engineer false x = true ∧ p = [] ∧ a.mode = .active ∧ a.inPair = true ∧ 0 < a.img.pair.swapInterval) ∧
    (∃ (s : State) (a : State) (dt : Nat) (sid : Nat) (req : Nat) (p : List Byte) (x : Session), s.advance dt = a ∧ a.Asks sid req x ∧ a.roleOk .engineer false x = true ∧ p = [] ∧ a.pair.swapFail = true) ∧
    (∃ (s : State) (a : State) (dt : Nat) (sid : Nat) (req : Nat) (p : List Byte) (x : Session), s.advance dt = a ∧ a.Asks sid req x ∧ a.roleOk .owner false x = true ∧ p = [] ∧ (a.mode = .standby ∨ a.mode = .isolated) ∧ a.mayOwn = true ∧ a.pair.silent = true ∧ a.pair.refLost = true) ∧
    (∃ (s : State) (a : State) (dt : Nat) (sid : Nat) (req : Nat) (p : List Byte) (x : Session) (ch : Nat), s.advance dt = a ∧ a.Asks sid req x ∧ a.roleOk .engineer false x = true ∧ p.length = 1 ∧ getN p 0 1 = ch ∧ ch < 4 ∧ a.mayTest ch = true) ∧
    (∃ (s : State) (a : State) (dt : Nat) (sid : Nat) (req : Nat) (p : List Byte) (x : Session), s.advance dt = a ∧ a.Asks sid req x ∧ a.roleOk .engineer false x = true ∧ 8 ≤ p.length ∧ p.length ≤ 32 ∧ a.pwdLocked = false ∧ a.pwdOk p = true) ∧
    (∃ (s : State) (a : State) (dt : Nat) (sid : Nat) (req : Nat) (p : List Byte) (x : Session) (ch : Nat), s.advance dt = a ∧ a.Asks sid req x ∧ a.roleOk .engineer false x = true ∧ p.length = 1 ∧ getN p 0 1 = ch ∧ ch < 4 ∧ a.panel.key = .prog ∧ (a.brake ch).st = .faulted) :=
  ⟨⟨withSession .engineer { ready with fld := { ready.fld with modems := [{ modem := .ai 5, queued := none }] } }, _, 0, 1, 1, [0, 5, 63, 255], aSession .engineer, 0, 5, 63, 255, [], { modem := .ai 5 }, rfl, ⟨by decide +kernel, by decide +kernel, by decide +kernel, by decide +kernel, by decide +kernel⟩, by decide +kernel, by decide +kernel, by decide +kernel, by decide +kernel, by decide +kernel, by decide +kernel, by decide +kernel, by decide +kernel, by decide +kernel, by decide +kernel, by decide +kernel, by decide +kernel, by decide +kernel, by decide +kernel⟩,
   ⟨withSession .engineer pairActive, _, 0, 1, 1, [], aSession .engineer, rfl, ⟨by decide +kernel, by decide +kernel, by decide +kernel, by decide +kernel, by decide +kernel⟩, by decide +kernel, by decide +kernel, by decide +kernel, by decide +kernel, by decide +kernel⟩,
   ⟨withSession .engineer pairActive, _, 0, 1, 1, [], aSession .engineer, rfl, ⟨by decide +kernel, by decide +kernel, by decide +kernel, by decide +kernel, by decide +kernel⟩, by decide +kernel, by decide +kernel, by decide +kernel, by decide +kernel, by decide +kernel⟩,
   ⟨withSession .engineer { ready with pair := { swapFail := true } }, _, 0, 1, 1, [], aSession .engineer, rfl, ⟨by decide +kernel, by decide +kernel, by decide +kernel, by decide +kernel, by decide +kernel⟩, by decide +kernel, by decide +kernel, by decide +kernel⟩,
   ⟨withSession .owner { ready with pair := { refLost := true } }, _, 0, 1, 1, [], aSession .owner, rfl, ⟨by decide +kernel, by decide +kernel, by decide +kernel, by decide +kernel, by decide +kernel⟩, by decide +kernel, by decide +kernel, by decide +kernel, by decide +kernel, by decide +kernel, by decide +kernel⟩,
   ⟨withSession .engineer { running with so := { running.so with fsSq := true } }, _, 0, 1, 1, [0], aSession .engineer, 0, rfl, ⟨by decide +kernel, by decide +kernel, by decide +kernel, by decide +kernel, by decide +kernel⟩, by decide +kernel, by decide +kernel, by decide +kernel, by decide +kernel, by decide +kernel⟩,
   ⟨withSession .engineer withPassword, _, 0, 1, 1, List.replicate 8 1, aSession .engineer, rfl, ⟨by decide +kernel, by decide +kernel, by decide +kernel, by decide +kernel, by decide +kernel⟩, by decide +kernel, by decide +kernel, by decide +kernel, by decide +kernel, by decide +kernel⟩,
   ⟨withSession .engineer { ready with panel := { key := .prog }, so := { chans := [{ k := 0, st := .faulted, fcause := 1 }] } }, _, 0, 1, 1, [0], aSession .engineer, 0, rfl, ⟨by decide +kernel, by decide +kernel, by decide +kernel, by decide +kernel, by decide +kernel⟩, by decide +kernel, by decide +kernel, by decide +kernel, by decide +kernel, by decide +kernel, by decide +kernel⟩⟩

theorem test_witness_CounterClears :
    (∃ (s : State) (a : State) (dt : Nat) (m : Master), s.advance dt = a ∧ a.Admits m (0x080C)) ∧
    (∃ (s : State) (a : State) (dt : Nat) (m : Master), s.advance dt = a ∧ a.Admits m (0x0810)) ∧
    (∃ (s : State) (a : State) (dt : Nat) (m : Master), s.advance dt = a ∧ a.Admits m (0x0C18)) ∧
    (∃ (s : State) (a : State) (dt : Nat) (m : Master) (k : Nat), s.advance dt = a ∧ k < 4 ∧ a.Admits m (0x1020 + 0x20 * k)) ∧
    (∃ (s : State) (a : State) (dt : Nat) (m : Master) (n : Nat), s.advance dt = a ∧ n < 160 ∧ a.Admits m (0x301C + 0x40 * n)) ∧
    (∃ (s : State) (a : State) (dt : Nat) (m : Master) (p : Nat), s.advance dt = a ∧ p < 4 ∧ a.Admits m (0x6110 + 0x40 * p)) ∧
    (∃ (s : State) (a : State) (dt : Nat) (m : Master) (c : Nat), s.advance dt = a ∧ c < 4 ∧ a.Admits m (0x7014 + 0x400 * c)) ∧
    (∃ (s : State) (a : State) (dt : Nat) (m : Master) (c : Nat), s.advance dt = a ∧ c < 4 ∧ a.Admits m (0x7018 + 0x400 * c)) ∧
    (∃ (s : State) (a : State) (dt : Nat) (m : Master) (n : Nat), s.advance dt = a ∧ n < 24 ∧ a.Admits m (0x810C + 0x10 * n)) ∧
    (∃ (s : State) (a : State) (dt : Nat) (m : Master) (k : Nat), s.advance dt = a ∧ k < 4 ∧ a.Admits m (0x8C54 + 0x20 * k)) ∧
    (∃ (s : State) (a : State) (dt : Nat) (m : Master), s.advance dt = a ∧ a.Admits m (0x900C)) ∧
    (∃ (s : State) (a : State) (dt : Nat) (m : Master) (c : Nat), s.advance dt = a ∧ c < 64 ∧ a.Admits m (0x9700 + 4 * c)) ∧
    (∃ (s : State) (a : State) (dt : Nat) (m : Master) (f : Nat), s.advance dt = a ∧ f < 16 ∧ a.Admits m (0x9840 + 4 * f)) ∧
    (∃ (s : State) (a : State) (dt : Nat) (m : Master), s.advance dt = a ∧ a.Admits m (0x9880)) :=
  ⟨⟨(withSession .owner ready), _, 0, .host 1, rfl, ⟨by decide +kernel, ⟨_, by rfl, by decide +kernel, by decide +kernel⟩, by decide +kernel, by decide +kernel, by decide +kernel⟩⟩,
   ⟨(withSession .owner ready), _, 0, .host 1, rfl, ⟨by decide +kernel, ⟨_, by rfl, by decide +kernel, by decide +kernel⟩, by decide +kernel, by decide +kernel, by decide +kernel⟩⟩,
   ⟨(withSession .owner ready), _, 0, .host 1, rfl, ⟨by decide +kernel, ⟨_, by rfl, by decide +kernel, by decide +kernel⟩, by decide +kernel, by decide +kernel, by decide +kernel⟩⟩,
   ⟨(withSession .owner ready), _, 0, .host 1, 0, rfl, by decide +kernel, ⟨by decide +kernel, ⟨_, by rfl, by decide +kernel, by decide +kernel⟩, by decide +kernel, by decide +kernel, by decide +kernel⟩⟩,
   ⟨(withSession .owner ready), _, 0, .host 1, 3, rfl, by decide +kernel, ⟨by decide +kernel, ⟨_, by rfl, by decide +kernel, by decide +kernel⟩, by decide +kernel, by decide +kernel, by decide +kernel⟩⟩,
   ⟨(withSession .owner ready), _, 0, .host 1, 1, rfl, by decide +kernel, ⟨by decide +kernel, ⟨_, by rfl, by decide +kernel, by decide +kernel⟩, by decide +kernel, by decide +kernel, by decide +kernel⟩⟩,
   ⟨(withSession .owner ready), _, 0, .host 1, 0, rfl, by decide +kernel, ⟨by decide +kernel, ⟨_, by rfl, by decide +kernel, by decide +kernel⟩, by decide +kernel, by decide +kernel, by decide +kernel⟩⟩,
   ⟨(withSession .owner ready), _, 0, .host 1, 2, rfl, by decide +kernel, ⟨by decide +kernel, ⟨_, by rfl, by decide +kernel, by decide +kernel⟩, by decide +kernel, by decide +kernel, by decide +kernel⟩⟩,
   ⟨(withSession .owner ready), _, 0, .host 1, 5, rfl, by decide +kernel, ⟨by decide +kernel, ⟨_, by rfl, by decide +kernel, by decide +kernel⟩, by decide +kernel, by decide +kernel, by decide +kernel⟩⟩,
   ⟨(withSession .owner ready), _, 0, .host 1, 0, rfl, by decide +kernel, ⟨by decide +kernel, ⟨_, by rfl, by decide +kernel, by decide +kernel⟩, by decide +kernel, by decide +kernel, by decide +kernel⟩⟩,
   ⟨(withSession .owner ready), _, 0, .host 1, rfl, ⟨by decide +kernel, ⟨_, by rfl, by decide +kernel, by decide +kernel⟩, by decide +kernel, by decide +kernel, by decide +kernel⟩⟩,
   ⟨(withSession .owner ready), _, 0, .host 1, 9, rfl, by decide +kernel, ⟨by decide +kernel, ⟨_, by rfl, by decide +kernel, by decide +kernel⟩, by decide +kernel, by decide +kernel, by decide +kernel⟩⟩,
   ⟨(withSession .owner ready), _, 0, .host 1, 15, rfl, by decide +kernel, ⟨by decide +kernel, ⟨_, by rfl, by decide +kernel, by decide +kernel⟩, by decide +kernel, by decide +kernel, by decide +kernel⟩⟩,
   ⟨(withSession .owner ready), _, 0, .host 1, rfl, ⟨by decide +kernel, ⟨_, by rfl, by decide +kernel, by decide +kernel⟩, by decide +kernel, by decide +kernel, by decide +kernel⟩⟩⟩

theorem test_witness_WindowCaptures :
    (∃ (s : State) (a : State) (dt : Nat) (m : Master) (v : W32), s.advance dt = a ∧ a.Admits m (0x1440)) ∧
    (∃ (s : State) (a : State) (dt : Nat) (m : Master) (v : W32) (i : Inst) (k : InstSt), s.advance dt = a ∧ a.img.net.insts[v.toNat % 65536]? = some i ∧ a.seq.insts[v.toNat % 65536]? = some k ∧ a.Admits m (0x1480)) ∧
    (∃ (s : State) (a : State) (dt : Nat) (m : Master) (v : W32), s.advance dt = a ∧ (a.img.net.insts.findIdx? fun i => decide (i.ident = v.toNat)) = none ∧ a.Admits m (0x14C0)) ∧
    (∃ (s : State) (a : State) (dt : Nat) (m : Master) (v : W32) (n : Nat) (i : Nat) (e : Entry), s.advance dt = a ∧ (a.log.recs.find? fun p => decide (p.2.num = v.toNat)) = some (i, e) ∧ a.Admits m (0x0820)) ∧
    (∃ (s : State) (a : State) (dt : Nat) (m : Master) (v : W32) (x : MsSlotSt), s.advance dt = a ∧ a.msSlot (v.toNat % 1024) = some x ∧ a.Admits m (0x2800)) ∧
    (∃ (s : State) (a : State) (dt : Nat) (m : Master) (v : W32), s.advance dt = a ∧ a.Admits m (0x2804)) ∧
    (∃ (s : State) (a : State) (dt : Nat) (m : Master) (n : Nat) (v : W32) (x : CtxSt), s.advance dt = a ∧ n < 160 ∧ a.ctx n = some x ∧ ¬ (x.bank / 4 = x.aset ∧ (x.mode = 1 ∨ x.mode = 2)) ∧ a.Admits m (0x300C + 0x40 * n)) ∧
    (∃ (s : State) (a : State) (dt : Nat) (m : Master) (n : Nat) (md : Nat), s.advance dt = a ∧ n < 160 ∧ a.Admits m (0x3000 + 0x40 * n)) ∧
    (∃ (s : State) (a : State) (dt : Nat) (m : Master) (v : W32), s.advance dt = a ∧ a.Admits m (0x6800)) ∧
    (∃ (s : State) (a : State) (dt : Nat) (m : Master) (v : W32), s.advance dt = a ∧ a.Admits m (0x8D00)) :=
  ⟨⟨ready, _, 0, .seq, 65535, rfl, ⟨by decide +kernel, ⟨_, by rfl, by decide +kernel, by decide +kernel⟩, by decide +kernel, by decide +kernel, by decide +kernel⟩⟩,
   ⟨ready, _, 0, .seq, 0, anInst, { outs := [(0, 3#8)] }, rfl, by decide +kernel, by decide +kernel, ⟨by decide +kernel, ⟨_, by rfl, by decide +kernel, by decide +kernel⟩, by decide +kernel, by decide +kernel, by decide +kernel⟩⟩,
   ⟨ready, _, 0, .seq, 5, rfl, by decide +kernel, ⟨by decide +kernel, ⟨_, by rfl, by decide +kernel, by decide +kernel⟩, by decide +kernel, by decide +kernel, by decide +kernel⟩⟩,
   ⟨{ ready with log := { recs := [(4, { num := 7, tick := 0, code := 1, sev := 0, tunsure := false, unit := 0, item := 0, time := 0, data := [] })] } }, _, 0, .seq, 7, 7, 4, { num := 7, tick := 0, code := 1, sev := 0, tunsure := false, unit := 0, item := 0, time := 0, data := [] }, rfl, by decide +kernel, ⟨by decide +kernel, ⟨_, by rfl, by decide +kernel, by decide +kernel⟩, by decide +kernel, by decide +kernel, by decide +kernel⟩⟩,
   ⟨ready, _, 0, .seq, 11, { num := 11 }, rfl, by decide +kernel, ⟨by decide +kernel, ⟨_, by rfl, by decide +kernel, by decide +kernel⟩, by decide +kernel, by decide +kernel, by decide +kernel⟩⟩,
   ⟨{ ready with sessions := [{ aSession .owner with m := { ms := { index := 11 } } }] }, _, 0, .host 1, 1, rfl, ⟨by decide +kernel, ⟨_, by rfl, by decide +kernel, by decide +kernel⟩, by decide +kernel, by decide +kernel, by decide +kernel⟩⟩,
   ⟨(withSession .owner ready), _, 0, .host 1, 3, 7, { n := 3 }, rfl, by decide +kernel, by decide +kernel, by decide +kernel, ⟨by decide +kernel, ⟨_, by rfl, by decide +kernel, by decide +kernel⟩, by decide +kernel, by decide +kernel, by decide +kernel⟩⟩,
   ⟨(withSession .owner ready), _, 0, .host 1, 3, 2, rfl, by decide +kernel, ⟨by decide +kernel, ⟨_, by rfl, by decide +kernel, by decide +kernel⟩, by decide +kernel, by decide +kernel, by decide +kernel⟩⟩,
   ⟨ready, _, 0, .seq, 1, rfl, ⟨by decide +kernel, ⟨_, by rfl, by decide +kernel, by decide +kernel⟩, by decide +kernel, by decide +kernel, by decide +kernel⟩⟩,
   ⟨ready, _, 0, .seq, 63, rfl, ⟨by decide +kernel, ⟨_, by rfl, by decide +kernel, by decide +kernel⟩, by decide +kernel, by decide +kernel, by decide +kernel⟩⟩⟩

theorem test_witness_SupervisionAcknowledged :
    (∃ (s : State) (a : State) (dt : Nat) (m : Master) (n : Nat) (md : Nat) (x : CtxSt), s.advance dt = a ∧ n < 160 ∧ a.ctx n = some x ∧ x.supv = 2 ∧ x.exceeded = true ∧ a.Admits m (0x3000 + 0x40 * n)) ∧
    (∃ (s : State) (a : State) (dt : Nat) (m : Master) (n : Nat) (md : Nat) (x : CtxSt), s.advance dt = a ∧ n < 160 ∧ a.ctx n = some x ∧ x.supv = 2 ∧ x.exceeded = false ∧ a.Admits m (0x3000 + 0x40 * n)) :=
  ⟨⟨(withSession .owner { ready with loop := { ctxs := [{ n := 3, supv := 2, exceeded := true }] } }), _, 0, .host 1, 3, 0, { n := 3, supv := 2, exceeded := true }, rfl, by decide +kernel, by decide +kernel, by decide +kernel, by decide +kernel, ⟨by decide +kernel, ⟨_, by rfl, by decide +kernel, by decide +kernel⟩, by decide +kernel, by decide +kernel, by decide +kernel⟩⟩,
   ⟨(withSession .owner { ready with loop := { ctxs := [{ n := 3, supv := 2, exceeded := false }] } }), _, 0, .host 1, 3, 0, { n := 3, supv := 2, exceeded := false }, rfl, by decide +kernel, by decide +kernel, by decide +kernel, by decide +kernel, ⟨by decide +kernel, ⟨_, by rfl, by decide +kernel, by decide +kernel⟩, by decide +kernel, by decide +kernel, by decide +kernel⟩⟩⟩

theorem test_witness_BusAccesses :
    (∃ (s : State) (a : State) (dt : Nat) (sid : Nat) (req : Nat) (ad : Nat) (p : List Byte) (x : Session) (h : RegHit), s.advance dt = a ∧ a.Asks sid req x ∧ a.roleOk .viewer false x = true ∧ p.length = 4 ∧ getN p 0 2 = ad ∧ getN p 2 1 = 4 ∧ getN p 3 1 = 1 ∧ a.panel.mgmtStopped = false ∧ ad % 4 = 0 ∧ regAt ad = some h ∧ h.row.wide = false ∧ h.high = false ∧ a.regDisabled h.row.id h.i = false ∧ a.parityKey h ad ∉ a.bus.parity) ∧
    (∃ (s : State) (a : State) (dt : Nat) (m : Master) (v : W64), s.advance dt = a ∧ a.Admits m 0x0034) ∧
    (∃ (s : State) (a : State) (dt : Nat) (ad : Nat) (m : Master) (v : W64), s.advance dt = a ∧ a.canAccess m = true ∧ ad % 4 = 0 ∧ regAt ad = none) ∧
    (∃ (s : State) (a : State) (dt : Nat) (ad : Nat) (v : W64), s.advance dt = a ∧ a.canAccess .mgmt = true ∧ ad % 4 ≠ 0) ∧
    (∃ (s : State) (a : State) (dt : Nat) (v : W64), s.advance dt = a ∧ a.canAccess .seq = true ∧ a.committed = false) ∧
    (∃ (s : State) (a : State) (dt : Nat) (m : Master) (h : RegHit), s.advance dt = a ∧ a.canAccess m = true ∧ regAt 0x0010 = some h ∧ a.bus.parity = []) ∧
    (∃ (s : State) (a : State) (dt : Nat) (m : Master) (v : W32), s.advance dt = a ∧ a.canAccess m = true) ∧
    (∃ (s : State) (a : State) (dt : Nat) (m : Master) (v : W32), s.advance dt = a ∧ a.canAccess m = true) ∧
    (∃ (s : State) (a : State) (dt : Nat) (m : Master) (v : W32), s.advance dt = a ∧ a.Admits m 0x0028) ∧
    (∃ (s : State) (a : State) (dt : Nat) (sid : Nat) (req : Nat) (ad : Nat) (p : List Byte) (x : Session), s.advance dt = a ∧ a.Asks sid req x ∧ a.roleOk .operator false x = true ∧ p.length = 8 ∧ getN p 0 2 = ad ∧ getN p 2 1 = 4 ∧ getN p 3 1 = 1 ∧ a.panel.mgmtStopped = false ∧ ad % 4 = 0 ∧ regAt ad = none) ∧
    (∃ (s : State) (a : State) (dt : Nat) (sid : Nat) (req : Nat) (c : Nat) (p : List Byte) (x : Session), s.advance dt = a ∧ a.Asks sid req x ∧ a.roleOk .operator false x = true ∧ p.length = 1 ∧ getN p 0 1 = c ∧ c < 64 ∧ a.regDisabled .uslCctl c = false ∧ 0 < dt) ∧
    (∃ (s : State) (a : State) (dt : Nat) (m : Master) (c : Nat), s.advance dt = a ∧ c < 64 ∧ a.Admits m (0x9600 + 4 * c)) ∧
    (∃ (s : State) (a : State) (dt : Nat) (n : Nat) (h : RegHit), s.advance dt = a ∧ a.running = true ∧ regAt n = some h ∧ h.row.img ≠ 0 ∧ n < 65536 ∧ a.parityKey h n = n ∧ n ∉ a.bus.parityUp ∧ (parityScope n).isSome = true) ∧
    (∃ (s : State) (a : State) (dt : Nat) (r : Nat) (m : Master), s.advance dt = a ∧ a.canAccess m = true ∧ (∀ h, regAt 0x0004 = some h → a.guardOk m h.row 0x0004 h.row.wr = true) ∧ a.bus.undo = [(0x0004, 64, [])] ∧ a.bus.wrote = [(0x0004, r)] ∧ r < m.rank ∧ 0x0004 ∉ a.bus.fnSet) :=
  ⟨⟨withSession .viewer ready, _, 0, 1, 1, 0, [0, 0, 4, 1], aSession .viewer, hit 0, rfl, ⟨by decide +kernel, by decide +kernel, by decide +kernel, by decide +kernel, by decide +kernel⟩, by decide +kernel, by decide +kernel, by decide +kernel, by decide +kernel, by decide +kernel, by decide +kernel, by decide +kernel, by decide +kernel, by decide +kernel, by decide +kernel, by decide +kernel, by decide +kernel⟩,
   ⟨ready, _, 0, .seq, 0, rfl, ⟨by decide +kernel, ⟨_, by rfl, by decide +kernel, by decide +kernel⟩, by decide +kernel, by decide +kernel, by decide +kernel⟩⟩,
   ⟨ready, _, 0, 0xFFFC, .seq, 0, rfl, by decide +kernel, by decide +kernel, by decide +kernel⟩,
   ⟨ready, _, 0, 2, 0, rfl, by decide +kernel, by decide +kernel⟩,
   ⟨idle, _, 0, 0, rfl, by decide +kernel, by decide +kernel⟩,
   ⟨ready, _, 0, .seq, hit 0x10, rfl, by decide +kernel, by decide +kernel, by decide +kernel⟩,
   ⟨ready, _, 0, .seq, 5, rfl, by decide +kernel⟩,
   ⟨ready, _, 0, .seq, 5, rfl, by decide +kernel⟩,
   ⟨(withSession .owner ready), _, 0, .host 1, 0x7F, rfl, ⟨by decide +kernel, ⟨_, by rfl, by decide +kernel, by decide +kernel⟩, by decide +kernel, by decide +kernel, by decide +kernel⟩⟩,
   ⟨withSession .operator ready, _, 0, 1, 1, 0xFFFC, [0xFC, 0xFF, 4, 1, 0, 0, 0, 0], aSession .operator, rfl, ⟨by decide +kernel, by decide +kernel, by decide +kernel, by decide +kernel, by decide +kernel⟩, by decide +kernel, by decide +kernel, by decide +kernel, by decide +kernel, by decide +kernel, by decide +kernel, by decide +kernel, by decide +kernel⟩,
   ⟨withSession .operator ready, _, 1, 1, 1, 9, [9], aSession .operator, rfl, ⟨by decide +kernel, by decide +kernel, by decide +kernel, by decide +kernel, by decide +kernel⟩, by decide +kernel, by decide +kernel, by decide +kernel, by decide +kernel, by decide +kernel, by decide +kernel⟩,
   ⟨(withSession .owner ready), _, 0, .host 1, 9, rfl, by decide +kernel, ⟨by decide +kernel, ⟨_, by rfl, by decide +kernel, by decide +kernel⟩, by decide +kernel, by decide +kernel, by decide +kernel⟩⟩,
   ⟨ready, _, 0, 0x3000, hit 0x3000, rfl, by decide +kernel, by decide +kernel, by decide +kernel, by decide +kernel, by decide +kernel, by decide +kernel, by decide +kernel⟩,
   ⟨{ ready with bus := { undo := [(4, 64, [])], wrote := [(4, 0)] } }, _, 0, 0, .mgmt, rfl, by decide +kernel, by decide +kernel, by decide +kernel, by decide +kernel, by decide +kernel, by decide +kernel⟩⟩

theorem test_witness_TollgateRuns :
    (∃ (s : State) (a : State) (dt : Nat) (m : Master) (v : W32), s.advance dt = a ∧ a.canAccess m = true ∧ m ≠ .mgmt ∧ a.committed = true ∧ (a.win m).gateLocked a.clock = false ∧ v.toNat % 65536 = a.img.reginit.tgKey ∧ v.toNat / 65536 = 65535 - a.img.reginit.tgKey) ∧
    (∃ (s : State) (a : State) (dt : Nat) (v : W32), s.advance dt = a ∧ a.canAccess .seq = true ∧ a.committed = true ∧ a.seqm.gateLocked a.clock = false ∧ a.seqm.tgLock = none ∧ v.toNat % 65536 ≠ a.img.reginit.tgKey ∧ a.seqm.tgFails < 3) ∧
    (∃ (s : State) (a : State) (dt : Nat) (v : W32), s.advance dt = a ∧ a.canAccess .seq = true ∧ a.committed = true ∧ a.seqm.gateLocked a.clock = false ∧ a.seqm.tgLock = none ∧ v.toNat % 65536 ≠ a.img.reginit.tgKey ∧ a.seqm.tgFails = 3) ∧
    (∃ (s : State) (a : State) (dt : Nat) (t : Nat) (m : Master), s.advance dt = a ∧ m ≠ .mgmt ∧ (∀ sid, m = .host sid → (a.session sid).isSome = true) ∧ (a.win m).tgOpen = some t ∧ t + 400000 < a.clock) ∧
    (∃ (s : State) (a : State) (dt : Nat) (t : Nat) (m : Master), s.advance dt = a ∧ m ≠ .mgmt ∧ (∀ sid, m = .host sid → (a.session sid).isSome = true) ∧ (a.win m).tgLock = some t ∧ t + 400000000 ≤ a.clock) :=
  ⟨⟨ready, _, 0, .seq, keyWord, rfl, by decide +kernel, by decide +kernel, by decide +kernel, by decide +kernel, by decide +kernel, by decide +kernel⟩,
   ⟨{ ready with seqm := { tgFails := 2 } }, _, 0, 2, rfl, by decide +kernel, by decide +kernel, by decide +kernel, by decide +kernel, by decide +kernel, by decide +kernel⟩,
   ⟨{ ready with seqm := { tgFails := 3 } }, _, 0, 2, rfl, by decide +kernel, by decide +kernel, by decide +kernel, by decide +kernel, by decide +kernel, by decide +kernel⟩,
   ⟨{ ready with clock := 400001, seqm := { tgOpen := some 0 } }, _, 0, 0, .seq, rfl, by decide +kernel, (by intro _ h; cases h), by decide +kernel, by decide +kernel⟩,
   ⟨{ ready with clock := 400000000, seqm := { tgLock := some 0 } }, _, 0, 0, .seq, rfl, by decide +kernel, (by intro _ h; cases h), by decide +kernel, by decide +kernel⟩⟩

theorem test_witness_SupervisionRuns :
    (∃ (s : State) (a : State) (dt : Nat) (n : Nat), s.advance dt = a ∧ a.power.phase = .operating ∧ clockBad true n = false) ∧
    (∃ (s : State) (a : State) (dt : Nat) (n : Nat), s.advance dt = a ∧ a.power.phase = .operating ∧ a.diag.badSc = 0 ∧ clockBad true n = true) ∧
    (∃ (s : State) (a : State) (dt : Nat) (n : Nat), s.advance dt = a ∧ a.power.phase = .operating ∧ a.diag.badTb = 1 ∧ clockBad false n = true ∧ a.diag.mf = none) ∧
    (∃ (s : State) (a : State) (dt : Nat), s.advance dt = a ∧ a.power.phase = .operating ∧ a.panel.mgmtStopped = false ∧ a.diag.mf = none) ∧
    (∃ (s : State) (a : State) (dt : Nat), s.advance dt = a ∧ a.power.phase = .operating ∧ a.diag.mf = none) ∧
    (∃ (s : State) (a : State) (dt : Nat), s.advance dt = a ∧ a.power.phase = .operating ∧ a.committed = true ∧ a.img.diagprof = 0 ∧ a.diag.mf = none) ∧
    (∃ (s : State) (a : State) (dt : Nat) (i : Nat) (p : Bool), s.advance dt = a ∧ a.power.phase = .operating ∧ (∀ x ∈ a.diag.corrAt, x.1 ≠ .slot i)) :=
  ⟨⟨ready, _, 0, 100000, rfl, by decide +kernel, by decide +kernel⟩,
   ⟨ready, _, 0, 0, rfl, by decide +kernel, by decide +kernel, by decide +kernel⟩,
   ⟨{ ready with diag := { badTb := 1 } }, _, 0, 0, rfl, by decide +kernel, by decide +kernel, by decide +kernel, by decide +kernel⟩,
   ⟨ready, _, 0, rfl, by decide +kernel, by decide +kernel, by decide +kernel⟩,
   ⟨ready, _, 0, rfl, by decide +kernel, by decide +kernel⟩,
   ⟨ready, _, 0, rfl, by decide +kernel, by decide +kernel, by decide +kernel, by decide +kernel⟩,
   ⟨ready, _, 0, 65535, true, rfl, by decide +kernel, by decide +kernel⟩⟩

theorem test_witness_LadderRuns :
    (∃ (s : State) (a : State) (dt : Nat) (f : Nat) (w : Option Nat) (x : Scope), s.advance dt = a ∧ a.scope f w = some x ∧ x.standing = true ∧ x.latched = false ∧ x.ladder = true ∧ a.panel.eject ≠ .prepared ∧ a.mode ≠ .fault ∧ a.panel.mgmtStopped = false ∧ x.tf + 400000 * a.img.diag.retryDelay ≤ a.clock ∧ x.cr < a.img.diag.retryMax) ∧
    (∃ (s : State) (a : State) (dt : Nat) (f : Nat) (c : Nat) (tf : Nat), s.advance dt = a ∧ a.diag.mf = some (c, f, tf) ∧ a.snap.lstop = false ∧ a.panel.eject ≠ .prepared ∧ a.panel.pcycReq = none ∧ a.diag.pcycEnd = none ∧ tf + 400000 * a.img.diag.retryDelay ≤ a.clock ∧ a.snap.cs < a.img.diag.resetMax) ∧
    (∃ (s : State) (a : State) (dt : Nat) (t : Nat) (r1 : Nat) (r2 : Nat) (r3 : Nat), s.advance dt = a ∧ a.power.phase = .resetHold t ∧ t + 4000000 ≤ a.clock) ∧
    (∃ (s : State) (a : State) (dt : Nat) (t : Nat), s.advance dt = a ∧ a.panel.pcycReq = some t ∧ t + 8000000 ≤ a.clock) ∧
    (∃ (s : State) (a : State) (dt : Nat) (t : Nat), s.advance dt = a ∧ a.diag.pcycEnd = some t ∧ t + 800000000 ≤ a.clock) ∧
    (∃ (s : State) (a : State) (dt : Nat) (u : Option Nat), s.advance dt = a ∧ a.power.phase = .operating ∧ a.mode ≠ .fault ∧ a.boot.endTick + 400000000 * a.img.diag.ladderWindow ≤ a.clock) ∧
    (∃ (s : State) (a : State) (dt : Nat) (m : Master), s.advance dt = a ∧ a.Admits m 0x98C0 ∧ a.snap.lstop = true ∧ a.mode = .fault) ∧
    (∃ (s : State) (a : State) (dt : Nat) (f : Nat) (n : Nat) (m : Master) (x : Scope), s.advance dt = a ∧ a.Admits m 0x98C0 ∧ f < 16 ∧ n < 2048 ∧ a.scope f (some n) = some x ∧ x.latched = true) ∧
    (∃ (s : State) (a : State) (dt : Nat) (t : Nat) (e : Entry), s.advance dt = a ∧ a.log.writing = some (e, t) ∧ t + 800 ≤ a.clock) :=
  ⟨⟨{ ready with clock := 4000000000, diag := { scopes := [{ f := 4, unit := none, standing := true }] } }, _, 0, 4, none, { f := 4, unit := none, standing := true }, rfl, by decide +kernel, by decide +kernel, by decide +kernel, by decide +kernel, by decide +kernel, by decide +kernel, by decide +kernel, by decide +kernel, by decide +kernel⟩,
   ⟨{ ready with clock := 4000000000, mode := .fault, diag := { mf := some (1, 4, 0) } }, _, 0, 4, 1, 0, rfl, by decide +kernel, by decide +kernel, by decide +kernel, by decide +kernel, by decide +kernel, by decide +kernel, by decide +kernel⟩,
   ⟨{ State.reset with clock := 4000000, power := { phase := .resetHold 0 } }, _, 0, 0, 1, 2, 3, rfl, by decide +kernel, by decide +kernel⟩,
   ⟨{ ready with clock := 8000000, panel := { pcycReq := some 0 } }, _, 0, 0, rfl, by decide +kernel, by decide +kernel⟩,
   ⟨{ ready with clock := 800000000, diag := { pcycEnd := some 0 } }, _, 0, 0, rfl, by decide +kernel, by decide +kernel⟩,
   ⟨{ ready with clock := 400000000000 }, _, 0, none, rfl, by decide +kernel, by decide +kernel, by decide +kernel⟩,
   ⟨(withSession .owner { ready with mode := .fault, snap := { lstop := true } }), _, 0, .host 1, rfl, ⟨by decide +kernel, ⟨_, by rfl, by decide +kernel, by decide +kernel⟩, by decide +kernel, by decide +kernel, by decide +kernel⟩, by decide +kernel, by decide +kernel⟩,
   ⟨(withSession .owner { ready with diag := { scopes := [{ f := 11, unit := some 2, latched := true, standing := true }] } }), _, 0, 11, 2, .host 1, { f := 11, unit := some 2, latched := true, standing := true }, rfl, ⟨by decide +kernel, ⟨_, by rfl, by decide +kernel, by decide +kernel⟩, by decide +kernel, by decide +kernel, by decide +kernel⟩, by decide +kernel, by decide +kernel, by decide +kernel, by decide +kernel⟩,
   ⟨{ ready with clock := 800, log := { writing := some ({ num := 7, tick := 0, code := 1, sev := 0, tunsure := false, unit := 0, item := 0, time := 0, data := [] }, 0) } }, _, 0, 0, { num := 7, tick := 0, code := 1, sev := 0, tunsure := false, unit := 0, item := 0, time := 0, data := [] }, rfl, by decide +kernel, by decide +kernel⟩⟩

theorem test_witness_CycleRuns :
    (∃ (s : State) (a : State) (dt : Nat), s.advance dt = a ∧ a.harvestDue = true) ∧
    (∃ (a : State), a.inHarvest = true ∧ a.seq.skipped = false ∧ a.seq.hold = false ∧ a.olc.st = .none ∧ a.seq.lanes.length = 4 ∧ (∀ l ∈ a.seq.lanes, l.pass = none) ∧ (laneCfg a.img 0).enable = true ∧ a.seq.h % (laneCfg a.img 0).mult = (laneCfg a.img 0).offset) ∧
    (∃ (s : State) (a : State) (dt : Nat), s.advance dt = a ∧ a.mode = .active ∧ a.seq.due = true ∧ a.seq.hold = false ∧ a.seq.htick + 200 ≤ a.tick) ∧
    (∃ (s : State) (a : State) (dt : Nat) (k : Nat) (p : Pass) (i : Inst) (x : InstSt), s.advance dt = a ∧ a.mode = .active ∧ a.seq.eval = true ∧ a.seq.hold = false ∧ a.curLane = some k ∧ (k = 0 ∨ a.onlyL0 = false) ∧ (a.lane k).pass = some p ∧ (laneInsts a.img k)[p.next]? = some i ∧ p.cur[p.next]? = some x ∧ i.btype < 0x70) ∧
    (∃ (s : State) (a : State) (dt : Nat), s.advance dt = a ∧ a.mode = .active ∧ a.seq.eval = true ∧ a.seq.hold = false ∧ a.scopeOn 4 none = false) ∧
    (∃ (s : State) (a : State) (dt : Nat), s.advance dt = a ∧ a.mode = .active ∧ a.seq.begun = true ∧ a.seq.skip = false ∧ a.seq.hold = false ∧ a.seq.tg ≤ a.clock ∧ (a.clock + 8000 - a.seq.tg) % a.img.cycle.base = 0 ∧ (a.lane 0).unfinished = false ∧ a.seq.eval = true) ∧
    (∃ (s : State) (a : State) (dt : Nat), s.advance dt = a ∧ a.mode = .active ∧ a.seq.begun = true ∧ a.seq.skip = false ∧ a.seq.hold = false ∧ a.seq.tg ≤ a.clock ∧ (a.clock + 8000 - a.seq.tg) % a.img.cycle.base = 0 ∧ (a.lane 0).unfinished = true ∧ (a.lane 0).ovrCons + 1 < a.img.cycle.ovrLimit) ∧
    (∃ (s : State) (a : State) (dt : Nat) (te : Nat) (ds : List Nat), s.advance dt = a ∧ a.mode = .active ∧ a.seq.deliver = some te ∧ te < a.clock) ∧
    (∃ (s : State) (a : State) (dt : Nat), s.advance dt = a ∧ a.mode = .active ∧ a.scopeOn 4 none = false) :=
  ⟨⟨running, _, 0, rfl, by decide +kernel⟩,
   ⟨{ running with seq := { running.seq with begun := true, lanes := [{}, {}, {}, {}] } }, by decide +kernel, by decide +kernel, by decide +kernel, by decide +kernel, by decide +kernel, by decide +kernel, by decide +kernel, by decide +kernel⟩,
   ⟨{ running with clock := 200, seq := { running.seq with due := true } }, _, 0, rfl, by decide +kernel, by decide +kernel, by decide +kernel, by decide +kernel⟩,
   ⟨passing, _, 0, 0, aPass, anInst, { outs := [(0, 3#8)] }, rfl, by decide +kernel, by decide +kernel, by decide +kernel, by decide +kernel, by decide +kernel, by decide +kernel, by decide +kernel, by decide +kernel, by decide +kernel⟩,
   ⟨passing, _, 0, rfl, by decide +kernel, by decide +kernel, by decide +kernel, by decide +kernel⟩,
   ⟨{ running with clock := 392000, seq := { running.seq with begun := true, eval := true } }, _, 0, rfl, by decide +kernel, by decide +kernel, by decide +kernel, by decide +kernel, by decide +kernel, by decide +kernel, by decide +kernel, by decide +kernel⟩,
   ⟨withImage { anImage with cycle := { anImage.cycle with ovrLimit := 3 } } { passing with clock := 392000 }, _, 0, rfl, by decide +kernel, by decide +kernel, by decide +kernel, by decide +kernel, by decide +kernel, by decide +kernel, by decide +kernel, by decide +kernel⟩,
   ⟨{ running with clock := 400, seq := { running.seq with deliver := some 0 } }, _, 0, 0, [], rfl, by decide +kernel, by decide +kernel, by decide +kernel⟩,
   ⟨running, _, 0, rfl, by decide +kernel, by decide +kernel⟩⟩

theorem test_witness_BarnRuns :
    (∃ (s : State) (a : State) (dt : Nat) (t : Nat), s.advance dt = a ∧ a.barn.req = .deferred t ∧ t ≤ a.clock ∧ a.barn.save = none ∧ a.mode = .active) ∧
    (∃ (s : State) (a : State) (dt : Nat) (v : Save), s.advance dt = a ∧ a.barn.save = some v ∧ a.barn.next = none ∧ a.barn.req = .none) ∧
    (∃ (s : State) (t : Nat), s.maySave = true ∧ s.barn.req = .none ∧ s.barn.lastSnap = some t ∧ s.clock < t + 400000000) ∧
    (∃ (s : State) (t : Nat), s.maySave = true ∧ s.mode = .active ∧ s.barn.req = .none ∧ s.barn.save = none ∧ s.barn.lastSnap = some t ∧ t + 400000000 ≤ s.clock) :=
  ⟨⟨{ running with barn := { req := .deferred 0 } }, _, 0, 0, rfl, by decide +kernel, by decide +kernel, by decide +kernel, by decide +kernel⟩,
   ⟨{ running with barn := { save := some { bank := 0, start := 0, content := {} } } }, _, 0, { bank := 0, start := 0, content := {} }, rfl, by decide +kernel, by decide +kernel, by decide +kernel⟩,
   ⟨{ retaining with barn := { lastSnap := some 0 } }, 0, by decide +kernel, by decide +kernel, by decide +kernel, by decide +kernel⟩,
   ⟨{ retaining with clock := 400000000, barn := { lastSnap := some 0 } }, 0, by decide +kernel, by decide +kernel, by decide +kernel, by decide +kernel, by decide +kernel, by decide +kernel⟩⟩

theorem test_witness_PairLinkRuns :
    (∃ (s : State) (a : State) (dt : Nat), s.advance dt = a ∧ a.participates = true ∧ (a.member = 1 ∨ a.member = 2)) ∧
    (∃ (s : State) (a : State) (dt : Nat) (h : Hello), s.advance dt = a ∧ a.power.phase = .operating) ∧
    (∃ (s : State) (a : State) (dt : Nat), s.advance dt = a ∧ a.power.phase = .operating ∧ (a.member = 1 ∨ a.member = 2) ∧ a.pair.lane1 = true ∧ max a.pair.rx1 a.boot.endTick + 80000 < a.clock) ∧
    (∃ (s : State) (a : State) (dt : Nat), s.advance dt = a ∧ a.power.phase = .operating ∧ a.inPair = true ∧ a.pair.silent = false ∧ max a.pair.rxTick a.boot.endTick + a.img.pair.plTimeout < a.clock) ∧
    (∃ (s : State) (a : State) (dt : Nat) (t : Nat), s.advance dt = a ∧ a.pair.formed = some t ∧ a.mode = .isolated ∧ a.inPair = true ∧ a.pairEnded = false ∧ t + 40000000 ≤ a.clock ∧ (a.pstate = 1 ∨ a.pstate = 2)) :=
  ⟨⟨pairActive, _, 0, rfl, by decide +kernel, by decide +kernel⟩,
   ⟨pairStandby, _, 0, aHello, rfl, by decide +kernel⟩,
   ⟨{ pairActive with clock := 400000, pair := { pairActive.pair with lane1 := true } }, _, 0, rfl, by decide +kernel, by decide +kernel, by decide +kernel, by decide +kernel⟩,
   ⟨{ pairStandby with clock := 400000, pair := { pairStandby.pair with silent := false } }, _, 0, rfl, by decide +kernel, by decide +kernel, by decide +kernel, by decide +kernel⟩,
   ⟨{ pairStandby with clock := 80000000, mode := .isolated, pair := { pairStandby.pair with formed := some 0 } }, _, 0, 0, rfl, by decide +kernel, by decide +kernel, by decide +kernel, by decide +kernel, by decide +kernel, by decide +kernel⟩⟩

theorem test_witness_OwnershipMoves :
    (∃ (s : State) (a : State) (dt : Nat) (g : Takeover), s.advance dt = a ∧ a.pair.takeover = some g ∧ a.mode = .standby ∧ a.mayOwn = true ∧ a.ownerGot g.granted = true ∧ a.pair.grid = none) ∧
    (∃ (s : State) (a : State) (dt : Nat) (g : Takeover) (t : Nat) (h : Nat), s.advance dt = a ∧ a.pair.takeover = some g ∧ a.mode = .standby ∧ a.mayOwn = true ∧ a.ownerGot g.granted = true ∧ a.pair.grid = some (t, h) ∧ t ≤ a.clock ∧ (a.clock - t) % a.img.cycle.base = 0) ∧
    (∃ (s : State) (a : State) (dt : Nat), s.advance dt = a ∧ a.power.phase = .operating ∧ a.committed = true ∧ a.img.pair.single = true ∧ a.member = 1 ∧ a.mode = .standby ∧ a.mayOwn = true ∧ a.ownerHigh = true) ∧
    (∃ (s : State) (a : State) (dt : Nat) (t : Nat), s.advance dt = a ∧ a.pair.electSince = some t ∧ a.noOwner = true ∧ a.mayOwn = true ∧ t + 40000000 < a.clock ∧ a.eligible = true ∧ (a.partnerEligible = false ∨ a.preferred = true)) ∧
    (∃ (s : State) (a : State) (dt : Nat) (g : Takeover), s.advance dt = a ∧ a.pair.takeover = some g ∧ g.granted + 8000000 < a.clock ∧ (∀ t, a.ownerFree = some t → g.granted + 8000000 < t)) ∧
    (∃ (s : State) (a : State) (dt : Nat), s.advance dt = a ∧ a.power.phase = .operating ∧ a.mode = .active ∧ a.pair.drive = true) ∧
    (∃ (s : State) (a : State) (dt : Nat) (l : Nat) (c : Nat), s.advance dt = a ∧ a.power.phase = .operating ∧ a.inPair = true ∧ a.mode = .standby ∧ (a.linkIn l).eligible = true ∧ a.pairEnded = false ∧ (∃ h, a.pair.partner = some h ∧ h.state = 2)) ∧
    (∃ (s : State) (a : State) (dt : Nat) (l : Nat), s.advance dt = a ∧ a.power.phase = .operating ∧ a.inPair = true ∧ (a.mode = .active ∨ a.mode = .standby ∨ a.mode = .isolated)) :=
  ⟨⟨{ pairStandby with clock := 800, pair := { pairStandby.pair with takeover := some { cause := 1, granted := 0 }, grid := none, highAt := some 0 } }, _, 0, { cause := 1, granted := 0 }, rfl, by decide +kernel, by decide +kernel, by decide +kernel, by decide +kernel, by decide +kernel⟩,
   ⟨{ pairStandby with clock := 800000, pair := { pairStandby.pair with takeover := some { cause := 1, granted := 0 }, grid := some (0, 7), highAt := some 0 } }, _, 0, { cause := 1, granted := 0 }, 0, 7, rfl, by decide +kernel, by decide +kernel, by decide +kernel, by decide +kernel, by decide +kernel, by decide +kernel, by decide +kernel⟩,
   ⟨{ withImage { anImage with pair := { single := true } } ready with clock := 800, pair := { highAt := some 0 } }, _, 0, rfl, by decide +kernel, by decide +kernel, by decide +kernel, by decide +kernel, by decide +kernel, by decide +kernel, by decide +kernel⟩,
   ⟨{ pairStandby with clock := 80000000, pair := { pairStandby.pair with partner := some { aHello with eligible := false }, refLost := true, electSince := some 0 } }, _, 0, 0, rfl, by decide +kernel, by decide +kernel, by decide +kernel, by decide +kernel, by decide +kernel, by decide +kernel⟩,
   ⟨{ pairStandby with clock := 16000000, pair := { pairStandby.pair with takeover := some { cause := 1, granted := 0 }, highAt := none } }, _, 0, { cause := 1, granted := 0 }, rfl, by decide +kernel, by decide +kernel, (fun _ h => nomatch h)⟩,
   ⟨running, _, 0, rfl, by decide +kernel, by decide +kernel, by decide +kernel⟩,
   ⟨pairStandby, _, 0, 0, 3, rfl, by decide +kernel, by decide +kernel, by decide +kernel, by decide +kernel, by decide +kernel, ⟨_, rfl, by decide +kernel⟩⟩,
   ⟨pairStandby, _, 0, 1, rfl, by decide +kernel, by decide +kernel, by decide +kernel⟩⟩

theorem test_witness_PlannedHandOver :
    (∃ (s : State) (a : State) (dt : Nat) (l : Nat) (hx : Nat) (w : Bool), s.advance dt = a ∧ a.power.phase = .operating ∧ a.inPair = true ∧ a.mode = .standby ∧ a.pairEnded = false ∧ (a.linkIn l).eligible = true) ∧
    (∃ (s : State) (a : State) (dt : Nat) (l : Nat) (hx : Nat) (w : Bool), s.advance dt = a ∧ a.power.phase = .operating ∧ a.inPair = true ∧ a.mode = .standby ∧ a.pairEnded = false ∧ (a.linkIn l).eligible = false) ∧
    (∃ (s : State) (a : State) (dt : Nat) (l : Nat) (o : Handover), s.advance dt = a ∧ a.pair.ho = some o ∧ a.mode = .active) ∧
    (∃ (s : State) (a : State) (dt : Nat) (l : Nat) (o : Handover), s.advance dt = a ∧ a.pair.ho = some o ∧ a.mode = .active) ∧
    (∃ (s : State) (a : State) (dt : Nat) (o : Handover) (m : Nat), s.advance dt = a ∧ a.pair.ho = some o ∧ a.mode = .active ∧ o.accepted = true ∧ a.hTick o.hx ≤ a.clock + 1000 ∧ a.pair.mirH = some m ∧ o.hx ≤ m + 1 ∧ a.seq.skip = false ∧ a.mayHandOver = true) ∧
    (∃ (s : State) (a : State) (dt : Nat) (t : Nat), s.advance dt = a ∧ a.pair.revertSince = some t ∧ a.mode = .active ∧ a.img.pair.revert = true ∧ a.pair.swapRun = none ∧ t + 400000000 * a.img.pair.revertDelay ≤ a.clock ∧ a.mayHandOver = true ∧ a.pair.ho = none) ∧
    (∃ (s : State) (a : State) (dt : Nat), s.advance dt = a ∧ a.mode = .active ∧ a.inPair = true ∧ 0 < a.img.pair.swapInterval ∧ a.pair.swapDue ≤ a.clock ∧ a.mayHandOver = true ∧ a.pair.ho = none ∧ a.pair.swapRun = none) ∧
    (∃ (s : State) (a : State) (dt : Nat), s.advance dt = a ∧ a.mode = .active ∧ a.inPair = true ∧ 0 < a.img.pair.swapInterval ∧ a.pair.swapDue ≤ a.clock ∧ a.mayHandOver = false ∧ a.pair.swapPost = true) ∧
    (∃ (s : State) (a : State) (dt : Nat) (t : Nat), s.advance dt = a ∧ a.pair.swapRun = some t ∧ t + 400000000 * a.img.pair.swapDwell ≤ a.clock ∧ a.mode = .active ∧ a.mayHandOver = true ∧ a.pair.ho = none) :=
  ⟨⟨pairStandby, _, 0, 0, 5, true, rfl, by decide +kernel, by decide +kernel, by decide +kernel, by decide +kernel, by decide +kernel⟩,
   ⟨{ pairStandby with panel := { key := .stop } }, _, 0, 0, 5, false, rfl, by decide +kernel, by decide +kernel, by decide +kernel, by decide +kernel, by decide +kernel⟩,
   ⟨{ pairActive with clock := 0, pair := { pairActive.pair with ho := some { hx := 5 } } }, _, 0, 1, { hx := 5 }, rfl, by decide +kernel, by decide +kernel⟩,
   ⟨{ pairActive with clock := 0, pair := { pairActive.pair with ho := some { hx := 5 } } }, _, 0, 1, { hx := 5 }, rfl, by decide +kernel, by decide +kernel⟩,
   ⟨{ pairActive with clock := 2000000, pair := { pairActive.pair with ho := some { hx := 5, accepted := true }, mirH := some 4 } }, _, 0, { hx := 5, accepted := true }, 4, rfl, by decide +kernel, by decide +kernel, by decide +kernel, by decide +kernel, by decide +kernel, by decide +kernel, by decide +kernel, by decide +kernel⟩,
   ⟨{ pairActive with clock := 0, pair := { pairActive.pair with revertSince := some 0 } }, _, 0, 0, rfl, by decide +kernel, by decide +kernel, by decide +kernel, by decide +kernel, by decide +kernel, by decide +kernel, by decide +kernel⟩,
   ⟨pairActive, _, 0, rfl, by decide +kernel, by decide +kernel, by decide +kernel, by decide +kernel, by decide +kernel, by decide +kernel, by decide +kernel⟩,
   ⟨{ pairActive with clock := 0, pair := { pairActive.pair with silent := true, swapPost := true } }, _, 0, rfl, by decide +kernel, by decide +kernel, by decide +kernel, by decide +kernel, by decide +kernel, by decide +kernel⟩,
   ⟨{ pairActive with clock := 0, pair := { pairActive.pair with swapRun := some 0 } }, _, 0, 0, rfl, by decide +kernel, by decide +kernel, by decide +kernel, by decide +kernel, by decide +kernel⟩⟩

theorem test_witness_MirrorAndShadows :
    (∃ (s : State) (a : State) (dt : Nat), s.advance dt = a ∧ a.mode = .active ∧ a.seq.mirror = true ∧ a.pair.fault = false ∧ a.img.pair.entries = [] ∧ a.inPair = true ∧ a.participates = true) ∧
    (∃ (s : State) (a : State) (dt : Nat) (e : MirrorEntry), s.advance dt = a ∧ a.mode = .active ∧ a.seq.mirror = true ∧ a.pair.fault = false ∧ a.img.pair.entries = [e] ∧ e.count = 1 ∧ e.src < 65536 ∧ e.dst < 65536) ∧
    (∃ (s : State) (a : State) (dt : Nat) (l : Nat) (m : MirrorMsg), s.advance dt = a ∧ a.power.phase = .operating ∧ a.mode = .standby ∧ a.inPair = true ∧ a.pair.rx = [] ∧ a.img.pair.entries = [] ∧ l < 2 ∧ (if l = 0 then a.pair.lane1 else a.pair.lane0) = false ∧ a.pair.mirH ≠ some m.h) ∧
    (∃ (s : State) (a : State) (dt : Nat) (l : Nat) (h : Nat) (e : MirrorEntry) (v : W32) (q : Nat), s.advance dt = a ∧ a.power.phase = .operating ∧ a.mode = .standby ∧ a.inPair = true ∧ a.pair.rx = [] ∧ a.img.pair.entries = [e] ∧ e.count = 1 ∧ e.dst = 0xE000 ∧ e.src < 65536 ∧ l < 2 ∧ (if l = 0 then a.pair.lane1 else a.pair.lane0) = false ∧ a.pair.mirH ≠ some h) ∧
    (∃ (s : State) (a : State) (dt : Nat), s.advance dt = a ∧ a.mode = .active ∧ a.inPair = true ∧ a.participates = true ∧ a.pair.fault = false) ∧
    (∃ (s : State) (a : State) (dt : Nat) (n : Nat) (l : List LoopShadow) (m : List MsShadow), s.advance dt = a ∧ a.power.phase = .operating ∧ a.inPair = true ∧ (a.mode = .standby ∨ a.mode = .isolated)) ∧
    (∃ (s : State) (a : State) (dt : Nat) (n : Nat) (l : List LoopShadow) (m : List MsShadow), s.advance dt = a ∧ a.power.phase = .operating) ∧
    (∃ (s : State) (a : State) (dt : Nat) (l : Nat) (m : MirrorMsg) (m0 : MirrorMsg), s.advance dt = a ∧ a.power.phase = .operating ∧ a.mode = .standby ∧ a.inPair = true ∧ a.pair.rx = [(0, m0)] ∧ m0.h = m.h ∧ a.img.pair.entries = [] ∧ a.pair.mirH ≠ some m.h) ∧
    (∃ (s : State) (a : State) (dt : Nat) (l : Nat), s.advance dt = a ∧ a.power.phase = .operating ∧ a.committed = false) ∧
    (∃ (s : State) (a : State) (dt : Nat) (l : Nat), s.advance dt = a ∧ a.power.phase = .operating ∧ a.committed = true ∧ a.store.selected = some false ∧ a.store.copyA.bytes.length = 4096) ∧
    (∃ (s : State) (a : State) (dt : Nat) (l : Nat) (d : List Byte), s.advance dt = a ∧ a.store.stage.st = .receiving ∧ a.store.stage.sid = none ∧ a.store.stage.data.length + d.length ≤ a.store.stage.len ∧ d.length ≤ 4096) ∧
    (∃ (s : State) (a : State) (dt : Nat) (l : Nat) (ts : Nat) (n : Image), s.advance dt = a ∧ a.mode = .standby ∧ a.store.stage.st = .verified ∧ a.store.stage.img = some n ∧ n.prevDigest = a.img.digest) :=
  ⟨⟨{ pairActive with seq := { pairActive.seq with mirror := true } }, _, 0, rfl, by decide +kernel, by decide +kernel, by decide +kernel, by decide +kernel, by decide +kernel, by decide +kernel⟩,
   ⟨{ withImage { pairImage with pair := { entries := [aMirror] } } pairActive with seq := { pairActive.seq with mirror := true }, slots := [(5, 9, 3)] }, _, 0, aMirror, rfl, by decide +kernel, by decide +kernel, by decide +kernel, by decide +kernel, by decide +kernel, by decide +kernel, by decide +kernel⟩,
   ⟨{ pairStandby with pair := { pairStandby.pair with lane1 := false } }, _, 0, 0, { h := 9, first := 0, values := [], states := [] }, rfl, by decide +kernel, by decide +kernel, by decide +kernel, by decide +kernel, by decide +kernel, by decide +kernel, by decide +kernel, by decide +kernel⟩,
   ⟨withImage { pairImage with pair := { entries := [aMirror] } } { pairStandby with pair := { pairStandby.pair with lane1 := false } }, _, 0, 0, 9, aMirror, 5, 3, rfl, by decide +kernel, by decide +kernel, by decide +kernel, by decide +kernel, by decide +kernel, by decide +kernel, by decide +kernel, by decide +kernel, by decide +kernel, by decide +kernel, by decide +kernel⟩,
   ⟨pairActive, _, 0, rfl, by decide +kernel, by decide +kernel, by decide +kernel, by decide +kernel⟩,
   ⟨pairStandby, _, 0, 3, [], [], rfl, by decide +kernel, by decide +kernel, by decide +kernel⟩,
   ⟨pairStandby, _, 0, 3, [], [], rfl, by decide +kernel⟩,
   ⟨{ pairStandby with pair := { pairStandby.pair with lane1 := true, rx := [(0, { h := 9, first := 0, values := [], states := [] })] } }, _, 0, 1, { h := 9, first := 0, values := [], states := [] }, { h := 9, first := 0, values := [], states := [] }, rfl, by decide +kernel, by decide +kernel, by decide +kernel, by decide +kernel, by decide +kernel, by decide +kernel, by decide +kernel⟩,
   ⟨idle, _, 0, 0, rfl, by decide +kernel, by decide +kernel⟩,
   ⟨{ ready with store := { ready.store with copyA := { bytes := List.replicate 4096 0 } } }, _, 0, 0, rfl, by decide +kernel, by decide +kernel, by decide +kernel, List.length_replicate⟩,
   ⟨{ ready with store := { ready.store with stage := { st := .receiving, len := 2 } } }, _, 0, 0, [1], rfl, by decide +kernel, by decide +kernel, by decide +kernel, by decide +kernel⟩,
   ⟨{ ready with store := { ready.store with stage := { st := .verified, img := some anImage } } }, _, 0, 0, 7, anImage, rfl, by decide +kernel, by decide +kernel, by decide +kernel, by decide +kernel⟩⟩

theorem test_witness_CrossroadsRuns :
    (∃ (s : State) (a : State) (dt : Nat), s.advance dt = a ∧ a.power.phase = .operating ∧ a.mode = .referee ∧ a.img.pair.single = false) ∧
    (∃ (p : Pair) (b : Bool) (d : List Byte) (m : StatusMsg), p.refO = 1 ∧ p.statA = some m ∧ p.aMiss < 2 ∧ m.state = 2 ∧ m.healthy = true ∧ m.relinq = false) ∧
    (∃ (s : State) (a : State) (dt : Nat) (m : StatusMsg) (us : Nat), s.advance dt = a ∧ a.power.phase = .operating ∧ a.mode = .referee ∧ m.member = 1 ∧ 45 ≤ us ∧ us ≤ 55) ∧
    (∃ (s : State) (a : State) (dt : Nat) (m : StatusMsg) (us : Nat), s.advance dt = a ∧ a.power.phase = .operating ∧ a.mode = .referee ∧ m.member = 2 ∧ 145 ≤ us ∧ us ≤ 155) ∧
    (∃ (s : State) (a : State) (dt : Nat), s.advance dt = a ∧ a.participates = true ∧ a.inPair = true) ∧
    (∃ (s : State) (a : State) (dt : Nat) (m : RoundMsg), s.advance dt = a ∧ a.participates = true ∧ a.inPair = true ∧ a.member = 1 ∧ a.mode = .standby ∧ m.verdictA = 1 ∧ m.owner = 1 ∧ a.eligible = true ∧ a.pair.takeover = none) ∧
    (∃ (s : State) (a : State) (dt : Nat) (m : RoundMsg), s.advance dt = a ∧ a.participates = true ∧ a.inPair = true ∧ a.member = 1 ∧ a.mode = .active ∧ m.owner = 2) ∧
    (∃ (s : State) (a : State) (dt : Nat), s.advance dt = a ∧ a.power.phase = .operating ∧ (a.member = 1 ∨ a.member = 2) ∧ a.pair.refLost = false ∧ max a.pair.refTick a.boot.endTick + 600000 < a.clock) :=
  ⟨⟨{ ready with mode := .referee }, _, 0, rfl, by decide +kernel, by decide +kernel, by decide +kernel⟩,
   ⟨{ refO := 1, statA := some aStatus }, false, [], aStatus, by decide +kernel, by decide +kernel, by decide +kernel, by decide +kernel, by decide +kernel, by decide +kernel⟩,
   ⟨{ ready with mode := .referee }, _, 0, aStatus, 50, rfl, by decide +kernel, by decide +kernel, by decide +kernel, by decide +kernel, by decide +kernel⟩,
   ⟨{ ready with mode := .referee }, _, 0, { aStatus with member := 2 }, 150, rfl, by decide +kernel, by decide +kernel, by decide +kernel, by decide +kernel, by decide +kernel⟩,
   ⟨pairActive, _, 0, rfl, by decide +kernel, by decide +kernel⟩,
   ⟨pairStandby, _, 0, { round := 4, owner := 1, verdictA := 1, verdictB := 2 }, rfl, by decide +kernel, by decide +kernel, by decide +kernel, by decide +kernel, by decide +kernel, by decide +kernel, by decide +kernel, by decide +kernel⟩,
   ⟨pairActive, _, 0, { round := 4, owner := 2, verdictA := 2, verdictB := 1 }, rfl, by decide +kernel, by decide +kernel, by decide +kernel, by decide +kernel, by decide +kernel⟩,
   ⟨{ pairStandby with clock := 800000 }, _, 0, rfl, by decide +kernel, by decide +kernel, by decide +kernel, by decide +kernel⟩⟩

theorem test_witness_DomainsRun :
    (∃ (s : State) (a : State) (dt : Nat) (d : Nat) (f : Nat) (b : Bool), s.advance dt = a ∧ a.msTracks = true ∧ a.ms.doms.length = 8 ∧ d < 4 ∧ (domCfg a.img d).enable = true ∧ ((a.dom d).st = 1 ∨ (a.dom d).st = 5)) ∧
    (∃ (s : State) (a : State) (dt : Nat) (d : Nat) (f : Nat) (l : Nat) (b : Bool), s.advance dt = a ∧ a.msTracks = true ∧ a.ms.doms.length = 8 ∧ d < 4 ∧ (domCfg a.img d).enable = true ∧ ((a.dom d).st = 2 ∨ (a.dom d).st = 3 ∨ (a.dom d).st = 4) ∧ (a.dom d).last16 = some l ∧ a.stamp f - l < 12800) ∧
    (∃ (s : State) (a : State) (dt : Nat) (d : Nat), s.advance dt = a ∧ a.msTracks = true ∧ a.ms.doms.length = 8 ∧ d < 4 ∧ (domCfg a.img d).enable = true ∧ (domCfg a.img d).mode ≠ 2 ∧ (domCfg a.img d).periodRev = 2 ∧ (a.dom d).st = 3) ∧
    (∃ (s : State) (a : State) (dt : Nat) (d : Nat), s.advance dt = a ∧ a.msTracks = true ∧ a.ms.doms.length = 8 ∧ d < 4 ∧ (domCfg a.img d).enable = true ∧ (domCfg a.img d).mode = 2 ∧ (a.dom d).st = 2 ∧ (a.dio (domCfg a.img d).refDio).pin = true ∧ (∀ p ∈ (a.dom d).lines, p.1 ≤ 16 * (a.dio (domCfg a.img d).refDio).cap)) ∧
    (∃ (s : State) (a : State) (dt : Nat) (d : Nat) (e : Int), s.advance dt = a ∧ a.msTracks = true ∧ a.ms.doms.length = 8 ∧ d < 4 ∧ (domCfg a.img d).enable = true ∧ ((a.dom d).st = 2 ∨ (a.dom d).st = 3 ∨ (a.dom d).st = 4) ∧ a.domExpiry d = some e ∧ e.toNat < a.clock ∧ (a.dom d).up ≠ a.clock ∧ 16 * (domCfg a.img d).limit ≤ (a.dom d).int16) ∧
    (∃ (s : State) (a : State) (dt : Nat) (d : Nat) (e : Int), s.advance dt = a ∧ a.msTracks = true ∧ a.ms.doms.length = 8 ∧ d < 4 ∧ (domCfg a.img d).enable = true ∧ ((a.dom d).st = 2 ∨ (a.dom d).st = 3 ∨ (a.dom d).st = 4) ∧ a.domExpiry d = some e ∧ e.toNat < a.clock ∧ (a.dom d).up ≠ a.clock ∧ (a.dom d).int16 < 16 * (domCfg a.img d).limit) ∧
    (∃ (s : State) (a : State) (dt : Nat) (d : Nat), s.advance dt = a ∧ a.msTracks = true ∧ a.ms.doms.length = 8 ∧ d < 4 ∧ (domCfg a.img d).enable = true ∧ (domCfg a.img d).mode ≠ 2 ∧ a.dirLevel d ≠ (a.dom d).dirSeen ∧ (a.dom d).st = 1) ∧
    (∃ (s : State) (a : State) (dt : Nat) (d : Nat), s.advance dt = a ∧ a.msTracks = true ∧ a.ms.doms.length = 8 ∧ d < 4 ∧ (domCfg a.img d).enable = true ∧ (domCfg a.img d).mode ≠ 2 ∧ a.dirLevel d ≠ (a.dom d).dirSeen ∧ (a.dom d).st = 4) ∧
    (∃ (s : State) (a : State) (dt : Nat) (p4 : Nat) (p5 : Nat) (f4 : Nat) (f5 : Nat) (u0 : F64) (u1 : F64), s.advance dt = a ∧ a.msTracks = true ∧ a.ms.doms.length = 8) ∧
    (∃ (s : State) (a : State) (dt : Nat), s.advance dt = a ∧ a.msTracks = true ∧ a.scopeOn 6 none = false) :=
  ⟨⟨onDom aDom { st := 1 }, _, 0, 0, 0, true, rfl, by decide +kernel, by decide +kernel, by decide +kernel, by decide +kernel, by decide +kernel⟩,
   ⟨{ onDom aDom { st := 3, last16 := some 0, int16 := 16000 } with clock := 100 }, _, 0, 0, 0, 0, true, rfl, by decide +kernel, by decide +kernel, by decide +kernel, by decide +kernel, by decide +kernel, by decide +kernel, by decide +kernel⟩,
   ⟨onDom { aDom with periodRev := 2 } { st := 3 }, _, 0, 0, rfl, by decide +kernel, by decide +kernel, by decide +kernel, by decide +kernel, by decide +kernel, by decide +kernel, by decide +kernel⟩,
   ⟨{ onDom { aDom with mode := 2, refDio := 7 } { st := 2 } with fld := { running.fld with dio := (List.range 32).map fun k => if k = 7 then { n := 7, pin := true } else { n := k } } }, _, 0, 0, rfl, by decide +kernel, by decide +kernel, by decide +kernel, by decide +kernel, by decide +kernel, by decide +kernel, by decide +kernel, by decide +kernel⟩,
   ⟨{ onDom aDom { st := 2, last16 := some 0, int16 := 160000, ivals := 1 } with clock := 4000000 }, _, 0, 0, 12500, rfl, by decide +kernel, by decide +kernel, by decide +kernel, by decide +kernel, by decide +kernel, by decide +kernel, by decide +kernel, by decide +kernel, by decide +kernel⟩,
   ⟨{ onDom { aDom with limit := 1000000 } { st := 2, last16 := some 0, int16 := 160000, ivals := 1 } with clock := 4000000 }, _, 0, 0, 12500, rfl, by decide +kernel, by decide +kernel, by decide +kernel, by decide +kernel, by decide +kernel, by decide +kernel, by decide +kernel, by decide +kernel, by decide +kernel⟩,
   ⟨onDom aDom { st := 1, dirSeen := true }, _, 0, 0, rfl, by decide +kernel, by decide +kernel, by decide +kernel, by decide +kernel, by decide +kernel, by decide +kernel, by decide +kernel⟩,
   ⟨onDom aDom { st := 4, dirSeen := true }, _, 0, 0, rfl, by decide +kernel, by decide +kernel, by decide +kernel, by decide +kernel, by decide +kernel, by decide +kernel, by decide +kernel⟩,
   ⟨running, _, 0, 0, 0, 1600, 1600, 0, 0, rfl, by decide +kernel, by decide +kernel⟩,
   ⟨running, _, 0, rfl, by decide +kernel, by decide +kernel⟩⟩

theorem test_witness_MilestonesRun :
    (∃ (s : State) (a : State) (dt : Nat) (n : Nat) (m : MsSlotSt) (c : MsSlotCfg) (cy : Int), s.advance dt = a ∧ a.msSlot n = some m ∧ msCfg a.img n = some c ∧ a.msReady c m = true ∧ a.msCross c m = some cy ∧ m.fired ≠ some cy ∧ m.skipped ≠ some cy ∧ m.pulse = none ∧ msAct c = 1) ∧
    (∃ (s : State) (a : State) (dt : Nat) (n : Nat) (m : MsSlotSt) (c : MsSlotCfg) (cy : Int), s.advance dt = a ∧ a.msSlot n = some m ∧ msCfg a.img n = some c ∧ a.msReady c m = true ∧ a.msCross c m = some cy ∧ m.fired ≠ some cy ∧ m.skipped ≠ some cy ∧ m.pulse.isSome = true) ∧
    (∃ (s : State) (a : State) (dt : Nat) (n : Nat) (m : MsSlotSt) (c : MsSlotCfg) (p : MsPulse), s.advance dt = a ∧ a.msSlot n = some m ∧ msCfg a.img n = some c ∧ a.msPulseDue c m = true ∧ m.pulse = some p) ∧
    (∃ (s : State) (a : State) (dt : Nat) (n : Nat) (f : Nat) (m : MsSlotSt) (c : MsSlotCfg), s.advance dt = a ∧ a.msSlot n = some m ∧ msCfg a.img n = some c ∧ a.msRun = true ∧ m.wait = some f ∧ (a.dio (syncOf a.img c).fbDio).pin ≠ (syncOf a.img c).fbFalling ∧ f + (syncOf a.img c).auxDelay + (syncOf a.img c).ctMin ≤ (a.dio (syncOf a.img c).fbDio).cap ∧ (a.dio (syncOf a.img c).fbDio).cap ≤ f + (syncOf a.img c).auxDelay + (syncOf a.img c).ctMax ∧ (a.dio (syncOf a.img c).fbDio).cap ≤ f + (syncOf a.img c).ctMax + 400000) ∧
    (∃ (s : State) (a : State) (dt : Nat) (n : Nat) (f : Nat) (m : MsSlotSt) (c : MsSlotCfg), s.advance dt = a ∧ a.msSlot n = some m ∧ msCfg a.img n = some c ∧ a.msRun = true ∧ m.wait = some f ∧ f + (syncOf a.img c).ctMax + 400000 < a.clock) :=
  ⟨⟨{ onSlot { aSlotCfg with ctl := 0x1700#32, out := 7, tgt := 100 } { num := 11, arm := true, tgt := 100, seenTgt := some 100, seenArm := true } with clock := 100 }, _, 0, 11, { num := 11, arm := true, tgt := 100, seenTgt := some 100, seenArm := true }, { aSlotCfg with ctl := 0x1700#32, out := 7, tgt := 100 }, 0, rfl, by decide +kernel, by decide +kernel, by decide +kernel, by decide +kernel, by decide +kernel, by decide +kernel, by decide +kernel, by decide +kernel⟩,
   ⟨{ onSlot { aSlotCfg with ctl := 0x1700#32, out := 7, tgt := 100 } { num := 11, arm := true, tgt := 100, seenTgt := some 100, seenArm := true, pulse := some { start := 0, pos := 0, dio := 7 } } with clock := 100 }, _, 0, 11, { num := 11, arm := true, tgt := 100, seenTgt := some 100, seenArm := true, pulse := some { start := 0, pos := 0, dio := 7 } }, { aSlotCfg with ctl := 0x1700#32, out := 7, tgt := 100 }, 0, rfl, by decide +kernel, by decide +kernel, by decide +kernel, by decide +kernel, by decide +kernel, by decide +kernel, by decide +kernel⟩,
   ⟨{ onSlot { aSlotCfg with ctl := 0x1700#32, out := 7, tgt := 100 } { num := 11, arm := true, tgt := 100, seenTgt := some 100, seenArm := true, pulse := some { start := 0, pos := 0, dio := 7 } } with clock := 4000 }, _, 0, 11, { num := 11, arm := true, tgt := 100, seenTgt := some 100, seenArm := true, pulse := some { start := 0, pos := 0, dio := 7 } }, { aSlotCfg with ctl := 0x1700#32, out := 7, tgt := 100 }, { start := 0, pos := 0, dio := 7 }, rfl, by decide +kernel, by decide +kernel, by decide +kernel, by decide +kernel⟩,
   ⟨{ { onSlot { aSlotCfg with ctl := 0x1600#32 } { num := 11, wait := some 0 } with clock := 0 } with fld := { running.fld with dio := (List.range 32).map fun k => if k = 0 then { n := 0, pin := true } else { n := k } } }, _, 0, 11, 0, { num := 11, wait := some 0 }, { aSlotCfg with ctl := 0x1600#32 }, rfl, by decide +kernel, by decide +kernel, by decide +kernel, by decide +kernel, by decide +kernel, by decide +kernel, by decide +kernel, by decide +kernel⟩,
   ⟨{ onSlot { aSlotCfg with ctl := 0x1600#32 } { num := 11, wait := some 0 } with clock := 800001 }, _, 0, 11, 0, { num := 11, wait := some 0 }, { aSlotCfg with ctl := 0x1600#32 }, rfl, by decide +kernel, by decide +kernel, by decide +kernel, by decide +kernel, by decide +kernel⟩⟩

theorem test_witness_LoopSamplesRun :
    (∃ (s : State) (a : State) (dt : Nat) (n : Nat) (x : CtxSt) (c : LoopCfg), s.advance dt = a ∧ a.ctx n = some x ∧ loopCfg a.img n = some c ∧ a.loopRuns = true ∧ c.trig = 0 ∧ a.loopInstant c = true ∧ x.lastTrig ≠ some a.clock ∧ x.latch = none) ∧
    (∃ (s : State) (a : State) (dt : Nat) (x : CtxSt) (c : LoopCfg) (l : LoopLatch), s.advance dt = a ∧ a.loop.ctxs = [x] ∧ x.latch = some l ∧ loopCfg a.img x.n = some c ∧ a.loopRuns = true ∧ a.loop.run = [] ∧ l.trig + 1 ≤ a.clock ∧ a.clock + 66 ≤ l.trig + c.deadline) ∧
    (∃ (s : State) (a : State) (dt : Nat) (n : Nat) (t : Nat) (x : CtxSt) (c : LoopCfg) (l : LoopLatch) (r : SlotRef), s.advance dt = a ∧ a.loop.run = [(n, t, l)] ∧ a.loopRuns = true ∧ t + 66 ≤ a.clock ∧ a.ctx n = some x ∧ loopCfg a.img n = some c ∧ c.outBind = some r ∧ c.statBind = none ∧ c.pspBind = none ∧ r.slot < 65536) ∧
    (∃ (s : State) (a : State) (dt : Nat) (n : Nat) (t : Nat) (l : LoopLatch), s.advance dt = a ∧ a.loop.run = [(n, t, l)] ∧ a.loopRuns = true ∧ t + 66 ≤ a.clock) ∧
    (∃ (s : State) (a : State) (dt : Nat) (n : Nat) (x : CtxSt) (c : LoopCfg) (l : LoopLatch), s.advance dt = a ∧ a.ctx n = some x ∧ loopCfg a.img n = some c ∧ x.latch = some l ∧ a.loopRuns = true ∧ l.trig + c.deadline < a.clock + 66 ∧ x.missCons + 1 ≠ c.missLimit) ∧
    (∃ (s : State) (a : State) (dt : Nat) (n : Nat) (x : CtxSt) (c : LoopCfg) (l : LoopLatch) (r : SlotRef), s.advance dt = a ∧ a.ctx n = some x ∧ loopCfg a.img n = some c ∧ x.latch = some l ∧ a.loopRuns = true ∧ l.trig + c.deadline < a.clock + 66 ∧ x.missCons + 1 = c.missLimit ∧ c.outBind = some r ∧ r.slot < 65536) :=
  ⟨⟨{ running with loop := { ctxs := [{ n := 3, lastTrig := none }] } }, _, 0, 3, { n := 3 }, aLoop, rfl, by decide +kernel, by decide +kernel, by decide +kernel, by decide +kernel, by decide +kernel, by decide +kernel, by decide +kernel⟩,
   ⟨{ running with clock := 100, loop := { ctxs := [{ n := 3, latch := some { trig := 0, pv := (0, 3), sp := none } }] } }, _, 0, { n := 3, latch := some { trig := 0, pv := (0, 3), sp := none } }, aLoop, { trig := 0, pv := (0, 3), sp := none }, rfl, by decide +kernel, by decide +kernel, by decide +kernel, by decide +kernel, by decide +kernel, by decide +kernel, by decide +kernel⟩,
   ⟨{ running with clock := 100, loop := { ctxs := [{ n := 3,  }], run := [(3, 0, { trig := 0, pv := (0, 3), sp := none })] } }, _, 0, 3, 0, { n := 3 }, aLoop, { trig := 0, pv := (0, 3), sp := none }, wholeRef 70, rfl, by decide +kernel, by decide +kernel, by decide +kernel, by decide +kernel, by decide +kernel, by decide +kernel, by decide +kernel, by decide +kernel, by decide +kernel⟩,
   ⟨{ running with clock := 100, loop := { ctxs := [{ n := 3,  }], run := [(3, 0, { trig := 0, pv := (0, 3), sp := none })] } }, _, 0, 3, 0, { trig := 0, pv := (0, 3), sp := none }, rfl, by decide +kernel, by decide +kernel, by decide +kernel⟩,
   ⟨{ running with clock := 4000, loop := { ctxs := [{ n := 3, latch := some { trig := 0, pv := (0, 3), sp := none } }] } }, _, 0, 3, { n := 3, latch := some { trig := 0, pv := (0, 3), sp := none } }, aLoop, { trig := 0, pv := (0, 3), sp := none }, rfl, by decide +kernel, by decide +kernel, by decide +kernel, by decide +kernel, by decide +kernel, by decide +kernel⟩,
   ⟨{ running with clock := 4000, loop := { ctxs := [{ n := 3, missCons := 2, latch := some { trig := 0, pv := (0, 3), sp := none } }] } }, _, 0, 3, { n := 3, missCons := 2, latch := some { trig := 0, pv := (0, 3), sp := none } }, aLoop, { trig := 0, pv := (0, 3), sp := none }, wholeRef 70, rfl, by decide +kernel, by decide +kernel, by decide +kernel, by decide +kernel, by decide +kernel, by decide +kernel, by decide +kernel, by decide +kernel⟩⟩

theorem test_witness_SolverPeriodsRun :
    (∃ (s : State) (a : State) (dt : Nat) (p : Nat), s.advance dt = a ∧ a.slvRun = true ∧ a.slv.asm = none ∧ a.slv.asmFree ≤ a.clock ∧ a.slvNext .queued = some p) ∧
    (∃ (s : State) (a : State) (dt : Nat) (p : Nat) (t : Nat) (c : SlvCfg) (x : ProbSt) (y : Period) (f : List (List Fetched)), s.advance dt = a ∧ a.slv.asm = some (p, t) ∧ slvCfg a.img p = some c ∧ a.prob p = some x ∧ x.per = some y ∧ y.stage = .assembling ∧ f = fetchAll c x.lasts (y.view.getD a.visible) ∧ t + cyclesTicks (asmCycles c (f.any fun l => l.any (·.refuse))) ≤ a.clock) ∧
    (∃ (s : State) (a : State) (dt : Nat) (p : Nat) (c : SlvCfg) (x : ProbSt) (y : Period), s.advance dt = a ∧ a.slvRun = true ∧ a.slv.eng = none ∧ a.slv.engFree ≤ a.clock ∧ a.slvNext .assembled = some p ∧ slvCfg a.img p = some c ∧ a.prob p = some x ∧ x.per = some y) ∧
    (∃ (s : State) (a : State) (dt : Nat) (p : Nat) (t : Nat) (k : Nat) (x : ProbSt) (y : Period), s.advance dt = a ∧ a.slv.eng = some (p, t) ∧ t + cyclesTicks k ≤ a.clock ∧ a.prob p = some x ∧ x.per = some y) ∧
    (∃ (s : State) (a : State) (dt : Nat) (p : Nat) (q : List Nat) (c : SlvCfg) (x : ProbSt) (y : Period), s.advance dt = a ∧ a.slv.resq = p :: q ∧ slvCfg a.img p = some c ∧ a.prob p = some x ∧ x.per = some y ∧ (residual c (x.mats.getD {}) y.res.x y.res.lam).ok = true) ∧
    (∃ (s : State) (a : State) (dt : Nat) (p : Nat) (q : List Nat) (c : SlvCfg) (x : ProbSt) (y : Period), s.advance dt = a ∧ a.slv.resq = p :: q ∧ slvCfg a.img p = some c ∧ a.prob p = some x ∧ x.per = some y ∧ (residual c (x.mats.getD {}) y.res.x y.res.lam).ok = false ∧ x.rescons + 1 < c.resfail) :=
  ⟨⟨{ running with clock := 0, slv := { probs := [{ p := 1, per := some { h := 0, deadline := 400000, view := some [], stage := .queued } }] } }, _, 0, 1, rfl, by decide +kernel, by decide +kernel, by decide +kernel, by decide +kernel⟩,
   ⟨{ running with clock := 400000, slv := { probs := [{ p := 1, per := some { h := 0, deadline := 400000, view := some [], stage := .assembling } }], asm := some (1, 0) } }, _, 0, 1, 0, aProblem, { p := 1, per := some { h := 0, deadline := 400000, view := some [], stage := .assembling } }, { h := 0, deadline := 400000, view := some [], stage := .assembling }, _, rfl, by decide +kernel, by decide +kernel, by decide +kernel, by decide +kernel, by decide +kernel, rfl, by decide +kernel⟩,
   ⟨{ running with clock := 0, slv := { probs := [{ p := 1, per := some { h := 0, deadline := 400000, view := some [], stage := .assembled } }] } }, _, 0, 1, aProblem, { p := 1, per := some { h := 0, deadline := 400000, view := some [], stage := .assembled } }, { h := 0, deadline := 400000, view := some [], stage := .assembled }, rfl, by decide +kernel, by decide +kernel, by decide +kernel, by decide +kernel, by decide +kernel, by decide +kernel, by decide +kernel⟩,
   ⟨{ running with clock := 400000, slv := { probs := [{ p := 1, per := some { h := 0, deadline := 400000, view := some [], stage := .solving } }], eng := some (1, 0) } }, _, 0, 1, 0, 10, { p := 1, per := some { h := 0, deadline := 400000, view := some [], stage := .solving } }, { h := 0, deadline := 400000, view := some [], stage := .solving }, rfl, by decide +kernel, by decide +kernel, by decide +kernel, by decide +kernel⟩,
   ⟨{ running with clock := 0, slv := { probs := [{ p := 1, per := some { h := 0, deadline := 400000, view := some [], stage := .checking, res := { x := [0] } }, mats := some { hm := [[0x3FF0000000000000#64]], g := [0] } }], resq := [1] } }, _, 0, 1, [], aProblem, { p := 1, per := some { h := 0, deadline := 400000, view := some [], stage := .checking, res := { x := [0] } }, mats := some { hm := [[0x3FF0000000000000#64]], g := [0] } }, { h := 0, deadline := 400000, view := some [], stage := .checking, res := { x := [0] } }, rfl, by decide +kernel, by decide +kernel, by decide +kernel, by decide +kernel, by decide +kernel⟩,
   ⟨{ withImage { anImage with slv := { probs := [{ aProblem with resfail := 3 }] } } ({ running with clock := 0, slv := { probs := [{ p := 1, per := some { h := 0, deadline := 400000, view := some [], stage := .checking, res := { x := [0x4340000000000000#64] } }, mats := some { hm := [[0x3FF0000000000000#64]], g := [0] } }], resq := [1] } }) with clock := 0 }, _, 0, 1, [], { aProblem with resfail := 3 }, { p := 1, per := some { h := 0, deadline := 400000, view := some [], stage := .checking, res := { x := [0x4340000000000000#64] } }, mats := some { hm := [[0x3FF0000000000000#64]], g := [0] } }, { h := 0, deadline := 400000, view := some [], stage := .checking, res := { x := [0x4340000000000000#64] } }, rfl, by decide +kernel, by decide +kernel, by decide +kernel, by decide +kernel, by decide +kernel, by decide +kernel⟩⟩

theorem test_witness_AnalogInputsRun :
    (∃ (s : State) (a : State) (dt : Nat) (ok : Bool) (v : Int) (c : AiCfg) (x : AiSt) (r : SlotRef), s.advance dt = a ∧ a.fieldRuns = true ∧ a.tick % 400000 = a.img.fld.scanPhase ∧ a.img.fld.ai = [c] ∧ c.trig = 0 ∧ a.ai c.ch = some x ∧ x.faulted a = false ∧ c.valBind = some r ∧ r.slot < 65536 ∧ r = { slot := r.slot, bitpos := 0, widthM1 := 31, wide := false } ∧ c.statBind = none ∧ c.filt = 0) ∧
    (∃ (s : State) (a : State) (dt : Nat) (n : Nat) (t : Nat) (ok : Bool) (v : Int) (c : AiCfg) (x : AiSt), s.advance dt = a ∧ aiCfg a.img n = some c ∧ a.ai n = some x ∧ x.conv = some t ∧ a.mode = .active ∧ t + 3200 ≤ a.clock ∧ x.faulted a = false) ∧
    (∃ (s : State) (a : State) (dt : Nat) (n : Nat) (x : AiSt), s.advance dt = a ∧ a.ai n = some x ∧ a.fieldRuns = true ∧ x.faulted a = false) ∧
    (∃ (s : State) (a : State) (dt : Nat) (n : Nat) (ad : Nat) (m : Modem) (x : ModemSt), s.advance dt = a ∧ a.modem m = some x ∧ a.fieldRuns = true ∧ x.run = none ∧ x.queued = none ∧ a.hartAddrs m = [(n, ad)] ∧ (n, ad) ∉ x.known) ∧
    (∃ (s : State) (a : State) (dt : Nat) (ad : Nat) (k : Nat) (t : Nat) (n : Nat) (x : ModemSt) (z : AiSt) (dev : Byte) (vs : List F32) (bs : List Byte), s.advance dt = a ∧ a.modem (.ai n) = some x ∧ a.fieldRuns = true ∧ x.run = some (ad, 0, k, t) ∧ x.passRun = none ∧ a.ai x.ch = some z) ∧
    (∃ (s : State) (a : State) (dt : Nat) (ad : Nat) (cmd : Nat) (t : Nat) (n : Nat) (x : ModemSt) (z : AiSt), s.advance dt = a ∧ a.modem (.ai n) = some x ∧ a.fieldRuns = true ∧ x.run = some (ad, cmd, 1, t) ∧ t + msTicks 500 < a.clock ∧ a.ai x.ch = some z) ∧
    (∃ (s : State) (a : State) (dt : Nat) (k : Nat) (t : Nat) (e : HartEntry), s.advance dt = a ∧ a.img.fld.hart[k]? = some e ∧ a.fld.hlast[k]? = some (some t, false) ∧ a.fieldRuns = true ∧ a.unitWorks e.ao e.ch = true ∧ t + msTicks (hstaleOf a.img e) < a.clock ∧ e.ref.slot < 65536 ∧ e.ref = { slot := e.ref.slot, bitpos := 0, widthM1 := 31, wide := false }) :=
  ⟨⟨ready, _, 0, true, 12000000, anAi, { n := 5 }, wholeRef 80, rfl, by decide +kernel, by decide +kernel, by decide +kernel, by decide +kernel, by decide +kernel, by decide +kernel, by decide +kernel, by decide +kernel, by decide +kernel, by decide +kernel, by decide +kernel⟩,
   ⟨{ running with clock := 4000, fld := { ai := [{ n := 5, conv := some 0 }] } }, _, 0, 5, 0, true, 12000000, anAi, { n := 5, conv := some 0 }, rfl, by decide +kernel, by decide +kernel, by decide +kernel, by decide +kernel, by decide +kernel, by decide +kernel⟩,
   ⟨ready, _, 0, 5, { n := 5 }, rfl, by decide +kernel, by decide +kernel, by decide +kernel⟩,
   ⟨withImage { anImage with fld := { anImage.fld with hart := [{ ao := false, ch := 5, addr := 0, var := 0, ref := wholeRef 86 }] } } ready, _, 0, 5, 0, .ai 5, { modem := .ai 5 }, rfl, by decide +kernel, by decide +kernel, by decide +kernel, by decide +kernel, by decide +kernel, by decide +kernel⟩,
   ⟨{ ready with fld := { ready.fld with modems := [{ modem := .ai 5, run := some (0, 0, 1, 0), ch := 5 }] } }, _, 0, 0, 1, 0, 5, { modem := .ai 5, run := some (0, 0, 1, 0), ch := 5 }, { n := 5 }, 0, [], [], rfl, by decide +kernel, by decide +kernel, by decide +kernel, by decide +kernel, by decide +kernel⟩,
   ⟨{ { ready with fld := { ready.fld with modems := [{ modem := .ai 5, run := some (0, 0, 1, 0), ch := 5 }] } } with clock := 400000000 }, _, 0, 0, 0, 0, 5, { modem := .ai 5, run := some (0, 0, 1, 0), ch := 5 }, { n := 5 }, rfl, by decide +kernel, by decide +kernel, by decide +kernel, by decide +kernel, by decide +kernel⟩,
   ⟨{ withImage { anImage with fld := { anImage.fld with hart := [{ ao := false, ch := 5, addr := 0, var := 0, ref := wholeRef 86 }] } } ({ ready with fld := { ready.fld with hlast := [(some 0, false)] } }) with clock := 4000000000 }, _, 0, 0, 0, { ao := false, ch := 5, addr := 0, var := 0, ref := wholeRef 86 }, rfl, by decide +kernel, by decide +kernel, by decide +kernel, by decide +kernel, by decide +kernel, by decide +kernel, by decide +kernel⟩⟩

theorem test_witness_AnalogOutputsRun :
    (∃ (s : State) (a : State) (dt : Nat) (n : Nat) (c : AoCfg), s.advance dt = a ∧ a.power.phase = .operating ∧ a.mode ≠ .fault ∧ a.fld.aoFault = false ∧ n < 16 ∧ aoCfg a.img n = some c ∧ (a.ao n).cfault = false ∧ (a.ao n).sink = false) ∧
    (∃ (s : State) (a : State) (dt : Nat) (n : Nat) (c : AoCfg), s.advance dt = a ∧ a.power.phase = .operating ∧ a.mode = .safe ∧ a.fld.aoFault = false ∧ n < 16 ∧ aoCfg a.img n = some c ∧ (a.ao n).cfault = false ∧ (a.ao n).sink = false) ∧
    (∃ (s : State) (a : State) (dt : Nat) (n : Nat) (t : Nat) (x : AoSt) (l : F32), s.advance dt = a ∧ findKey (·.n) n a.fld.ao = some x ∧ x.lastFrame = some t ∧ t + 40000 < a.clock ∧ x.drv = some l ∧ x.cfault = false) ∧
    (∃ (s : State) (a : State) (dt : Nat) (n : Nat) (t : Nat) (x : AoSt), s.advance dt = a ∧ findKey (·.n) n a.fld.ao = some x ∧ x.lastFrame = some t ∧ x.hold = true ∧ t + 400000 * x.holdMs < a.clock) ∧
    (∃ (s : State) (a : State) (dt : Nat) (n : Nat) (x : AoSt), s.advance dt = a ∧ findKey (·.n) n a.fld.ao = some x ∧ x.sink = true) ∧
    (∃ (s : State) (a : State) (dt : Nat) (n : Nat) (i : Nat) (v : Nat) (ok : Bool) (c : AoCfg) (x : AoSt), s.advance dt = a ∧ aoCfg a.img n = some c ∧ a.fieldRuns = true ∧ (a.ao n).cfault = false ∧ a.fld.aoFault = false ∧ findKey (·.n) n a.fld.ao = some x ∧ x.sink = true) ∧
    (∃ (s : State) (a : State) (dt : Nat) (n : Nat) (i : Nat) (v : Nat) (c : AoCfg), s.advance dt = a ∧ aoCfg a.img n = some c ∧ a.fieldRuns = true ∧ (a.ao n).cfault = false ∧ a.fld.aoFault = false ∧ (a.ao n).compl = false ∧ (a.mode = .active ∨ a.mode = .safe)) ∧
    (∃ (s : State) (a : State) (dt : Nat) (n : Nat), s.advance dt = a ∧ a.fieldRuns = true) ∧
    (∃ (s : State) (a : State) (dt : Nat) (n : Nat) (c : AoCfg), s.advance dt = a ∧ aoCfg a.img n = some c ∧ a.fieldRuns = true ∧ (a.ao n).dev = false ∧ (a.ao n).compl = false ∧ (a.ao n).openL = false ∧ (a.ao n).testing = false ∧ (a.mode = .active ∨ a.mode = .safe)) ∧
    (∃ (s : State) (a : State) (dt : Nat) (n : Nat) (i : Nat) (x : AoSt), s.advance dt = a ∧ findKey (·.n) n a.fld.ao = some x ∧ x.sink = true ∧ x.testing = true ∧ x.clk = 3 ∧ 5100 ≤ i ∧ x.stepAt + 400000 ≤ a.clock) ∧
    (∃ (s : State) (a : State) (dt : Nat) (n : Nat) (i : Nat) (x : AoSt), s.advance dt = a ∧ findKey (·.n) n a.fld.ao = some x ∧ x.sink = true ∧ x.testing = true ∧ x.clk = 4 ∧ i < 2300) ∧
    (∃ (s : State) (a : State) (dt : Nat) (n : Nat), s.advance dt = a ∧ (a.ao n).testing = true ∧ (a.ao n).sink = false) ∧
    (∃ (s : State) (a : State) (dt : Nat) (m : Master) (n : Nat) (c : AoCfg), s.advance dt = a ∧ n < 16 ∧ a.Admits m (0x850C + 0x10 * n) ∧ aoCfg a.img n = some c ∧ a.fieldRuns = true) ∧
    (∃ (s : State) (a : State) (dt : Nat) (n : Nat) (c : AoCfg), s.advance dt = a ∧ aoCfg a.img n = some c ∧ a.fieldRuns = true ∧ (a.ao n).noFrame = false ∧ (a.ao n).sink = false) :=
  ⟨⟨running, _, 0, 2, anAo, rfl, by decide +kernel, by decide +kernel, by decide +kernel, by decide +kernel, by decide +kernel, by decide +kernel, by decide +kernel⟩,
   ⟨{ ready with mode := .safe }, _, 0, 2, anAo, rfl, by decide +kernel, by decide +kernel, by decide +kernel, by decide +kernel, by decide +kernel, by decide +kernel, by decide +kernel⟩,
   ⟨{ running with clock := 50000, fld := { running.fld with ao := (List.range 16).map fun k => if k = 2 then { n := 2, lastFrame := some 0, drv := some 0 } else { n := k } } }, _, 0, 2, 0, { n := 2, lastFrame := some 0, drv := some 0 }, 0, rfl, by decide +kernel, by decide +kernel, by decide +kernel, by decide +kernel, by decide +kernel⟩,
   ⟨{ running with clock := 40000001, fld := { running.fld with ao := (List.range 16).map fun k => if k = 2 then { n := 2, lastFrame := some 0, hold := true } else { n := k } } }, _, 0, 2, 0, { n := 2, lastFrame := some 0, hold := true }, rfl, by decide +kernel, by decide +kernel, by decide +kernel, by decide +kernel⟩,
   ⟨{ running with clock := 0, fld := { running.fld with ao := (List.range 16).map fun k => if k = 2 then { n := 2, sink := true } else { n := k } } }, _, 0, 2, { n := 2, sink := true }, rfl, by decide +kernel, by decide +kernel⟩,
   ⟨{ running with clock := 0, fld := { running.fld with ao := (List.range 16).map fun k => if k = 2 then { n := 2, sink := true } else { n := k } } }, _, 0, 2, 4000, 12000, true, anAo, { n := 2, sink := true }, rfl, by decide +kernel, by decide +kernel, by decide +kernel, by decide +kernel, by decide +kernel, by decide +kernel⟩,
   ⟨running, _, 0, 2, 4000, 12000, anAo, rfl, by decide +kernel, by decide +kernel, by decide +kernel, by decide +kernel, by decide +kernel, by decide +kernel⟩,
   ⟨running, _, 0, 2, rfl, by decide +kernel⟩,
   ⟨running, _, 0, 2, anAo, rfl, by decide +kernel, by decide +kernel, by decide +kernel, by decide +kernel, by decide +kernel, by decide +kernel, by decide +kernel⟩,
   ⟨{ running with clock := 400000, fld := { running.fld with ao := (List.range 16).map fun k => if k = 2 then { n := 2, sink := true, testing := true, clk := 3 } else { n := k } } }, _, 0, 2, 5200, { n := 2, sink := true, testing := true, clk := 3 }, rfl, by decide +kernel, by decide +kernel, by decide +kernel, by decide +kernel, by decide +kernel, by decide +kernel⟩,
   ⟨{ running with clock := 0, fld := { running.fld with ao := (List.range 16).map fun k => if k = 2 then { n := 2, sink := true, testing := true, clk := 4 } else { n := k } } }, _, 0, 2, 2000, { n := 2, sink := true, testing := true, clk := 4 }, rfl, by decide +kernel, by decide +kernel, by decide +kernel, by decide +kernel, by decide +kernel⟩,
   ⟨{ running with clock := 0, fld := { running.fld with ao := (List.range 16).map fun k => if k = 2 then { n := 2, testing := true } else { n := k } } }, _, 0, 2, rfl, by decide +kernel, by decide +kernel⟩,
   ⟨(withSession .owner running), _, 0, .host 1, 2, anAo, rfl, by decide +kernel, ⟨by decide +kernel, ⟨_, by rfl, by decide +kernel, by decide +kernel⟩, by decide +kernel, by decide +kernel, by decide +kernel⟩, by decide +kernel, by decide +kernel⟩,
   ⟨running, _, 0, 2, anAo, rfl, by decide +kernel, by decide +kernel, by decide +kernel, by decide +kernel⟩⟩

theorem test_witness_DigitalChannelsRun :
    (∃ (s : State) (a : State) (dt : Nat) (n : Nat) (ago : Nat) (v : Bool) (c : DioCfg) (f : Nat → DioSt) (r : SlotRef), s.advance dt = a ∧ dioCfg a.img n = some c ∧ a.fieldRuns = true ∧ a.dioFaulted n = false ∧ c.ch = n ∧ c.kind = 0 ∧ c.bind = some r ∧ n < 16 ∧ a.fld.fsDioA = true ∧ usTicks c.filt ≤ ago ∧ r.slot < 65536 ∧ r = { slot := r.slot, bitpos := 0, widthM1 := 31, wide := false } ∧ (∀ k, (f k).n = k) ∧ a.fld.dio = (List.range 32).map f) ∧
    (∃ (s : State) (a : State) (dt : Nat) (n : Nat) (ago : Nat) (v : Bool) (c : DioCfg) (f : Nat → DioSt) (r : SlotRef), s.advance dt = a ∧ dioCfg a.img n = some c ∧ a.fieldRuns = true ∧ a.fld.dioFault = true ∧ c.ch = n ∧ c.kind = 1 ∧ c.bind = some r ∧ usTicks c.filt ≤ ago ∧ r.slot < 65536 ∧ r = { slot := r.slot, bitpos := 0, widthM1 := 31, wide := false } ∧ n < 32 ∧ (∀ k, (f k).n = k) ∧ a.fld.dio = (List.range 32).map f) ∧
    (∃ (s : State) (a : State) (dt : Nat) (b : Bool) (c : DioCfg) (r : SlotRef), s.advance dt = a ∧ a.fieldRuns = true ∧ a.img.fld.dio = [c] ∧ decide (16 ≤ c.ch) = b ∧ a.dioFaulted c.ch = false ∧ c.bind = some r ∧ r.slot < 65536 ∧ r = { slot := r.slot, bitpos := 0, widthM1 := 31, wide := false }) ∧
    (∃ (s : State) (a : State) (dt : Nat) (b : Bool) (c : DioCfg) (r : SlotRef), s.advance dt = a ∧ a.fieldRuns = true ∧ a.img.fld.dio = [c] ∧ decide (16 ≤ c.ch) = b ∧ a.dioFaulted c.ch = false ∧ c.kind = 0 ∧ c.bind = some r ∧ r.slot < 65536 ∧ r = { slot := r.slot, bitpos := 0, widthM1 := 31, wide := false }) ∧
    (∃ (s : State) (a : State) (dt : Nat) (n : Nat) (c : DioCfg), s.advance dt = a ∧ dioCfg a.img n = some c ∧ a.fieldRuns = true ∧ a.dioFaulted n = false ∧ a.dioNoSupply n = false ∧ c.kind ≠ 0 ∧ (a.dio n).drv = true) ∧
    (∃ (s : State) (a : State) (dt : Nat) (n : Nat) (c : DioCfg), s.advance dt = a ∧ dioCfg a.img n = some c ∧ a.fieldRuns = true ∧ a.dioFaulted n = false ∧ a.dioNoSupply n = false ∧ c.kind ≠ 0) ∧
    (∃ (s : State) (a : State) (dt : Nat) (n : Nat) (c : DioCfg), s.advance dt = a ∧ dioCfg a.img n = some c ∧ a.fieldRuns = true ∧ a.dioFaulted n = false ∧ a.dioNoSupply n = false ∧ c.kind ≠ 0 ∧ c.oldet = true ∧ (a.dio n).drv = true) :=
  ⟨⟨{ withImage { anImage with fld := { anImage.fld with dio := [{ ch := 7, kind := 0, filt := 1, inv := false, safeOn := false, badact := 0, oldet := false, src := none, bind := some (wholeRef 82) }] } } ready with fld := { ready.fld with fsDioA := true, dio := (List.range 32).map fun k => { n := k } } }, _, 0, 7, 400, true, { ch := 7, kind := 0, filt := 1, inv := false, safeOn := false, badact := 0, oldet := false, src := none, bind := some (wholeRef 82) }, (fun k => { n := k }), wholeRef 82, rfl, by decide +kernel, by decide +kernel, by decide +kernel, by decide +kernel, by decide +kernel, by decide +kernel, by decide +kernel, by decide +kernel, by decide +kernel, by decide +kernel, by decide +kernel, fun _ => rfl, rfl⟩,
   ⟨{ withImage { anImage with fld := { anImage.fld with dio := [{ ch := 7, kind := 1, filt := 1, inv := false, safeOn := false, badact := 0, oldet := true, src := some (wholeRef 82), bind := some (wholeRef 82) }] } } ready with fld := { ready.fld with dioFault := true, dio := (List.range 32).map fun k => { n := k } } }, _, 0, 7, 400, true, { ch := 7, kind := 1, filt := 1, inv := false, safeOn := false, badact := 0, oldet := true, src := some (wholeRef 82), bind := some (wholeRef 82) }, (fun k => { n := k }), wholeRef 82, rfl, by decide +kernel, by decide +kernel, by decide +kernel, by decide +kernel, by decide +kernel, by decide +kernel, by decide +kernel, by decide +kernel, by decide +kernel, by decide +kernel, fun _ => rfl, rfl⟩,
   ⟨{ withImage { anImage with fld := { anImage.fld with dio := [{ ch := 7, kind := 0, filt := 1, inv := false, safeOn := false, badact := 0, oldet := false, src := none, bind := some (wholeRef 82) }] } } ready with fld := { ready.fld with fsDioA := true, dio := (List.range 32).map fun k => if k = 7 then { n := 7, drv := true } else { n := k } } }, _, 0, false, { ch := 7, kind := 0, filt := 1, inv := false, safeOn := false, badact := 0, oldet := false, src := none, bind := some (wholeRef 82) }, wholeRef 82, rfl, by decide +kernel, by decide +kernel, by decide +kernel, by decide +kernel, by decide +kernel, by decide +kernel, by decide +kernel⟩,
   ⟨{ withImage { anImage with fld := { anImage.fld with dio := [{ ch := 7, kind := 0, filt := 1, inv := false, safeOn := false, badact := 0, oldet := false, src := none, bind := some (wholeRef 82) }] } } ready with fld := { ready.fld with fsDioA := true, dio := (List.range 32).map fun k => if k = 7 then { n := 7, drv := true } else { n := k } } }, _, 0, false, { ch := 7, kind := 0, filt := 1, inv := false, safeOn := false, badact := 0, oldet := false, src := none, bind := some (wholeRef 82) }, wholeRef 82, rfl, by decide +kernel, by decide +kernel, by decide +kernel, by decide +kernel, by decide +kernel, by decide +kernel, by decide +kernel, by decide +kernel⟩,
   ⟨{ withImage { anImage with fld := { anImage.fld with dio := [{ ch := 7, kind := 1, filt := 1, inv := false, safeOn := false, badact := 0, oldet := true, src := some (wholeRef 82), bind := none }] } } ready with fld := { ready.fld with fsDioA := true, dio := (List.range 32).map fun k => if k = 7 then { n := 7, drv := true } else { n := k } } }, _, 0, 7, { ch := 7, kind := 1, filt := 1, inv := false, safeOn := false, badact := 0, oldet := true, src := some (wholeRef 82), bind := none }, rfl, by decide +kernel, by decide +kernel, by decide +kernel, by decide +kernel, by decide +kernel, by decide +kernel⟩,
   ⟨{ withImage { anImage with fld := { anImage.fld with dio := [{ ch := 7, kind := 1, filt := 1, inv := false, safeOn := false, badact := 0, oldet := true, src := some (wholeRef 82), bind := none }] } } ready with fld := { ready.fld with fsDioA := true, dio := (List.range 32).map fun k => if k = 7 then { n := 7, drv := true } else { n := k } } }, _, 0, 7, { ch := 7, kind := 1, filt := 1, inv := false, safeOn := false, badact := 0, oldet := true, src := some (wholeRef 82), bind := none }, rfl, by decide +kernel, by decide +kernel, by decide +kernel, by decide +kernel, by decide +kernel⟩,
   ⟨{ withImage { anImage with fld := { anImage.fld with dio := [{ ch := 7, kind := 1, filt := 1, inv := false, safeOn := false, badact := 0, oldet := true, src := some (wholeRef 82), bind := none }] } } ready with fld := { ready.fld with fsDioA := true, dio := (List.range 32).map fun k => if k = 7 then { n := 7, drv := true } else { n := k } } }, _, 0, 7, { ch := 7, kind := 1, filt := 1, inv := false, safeOn := false, badact := 0, oldet := true, src := some (wholeRef 82), bind := none }, rfl, by decide +kernel, by decide +kernel, by decide +kernel, by decide +kernel, by decide +kernel, by decide +kernel, by decide +kernel⟩⟩

theorem test_witness_CanChannelsRun :
    (∃ (s : State) (a : State) (dt : Nat) (n : Nat), s.advance dt = a ∧ a.canRuns n = true ∧ (a.can1 n).st = 1) ∧
    (∃ (s : State) (a : State) (dt : Nat) (n : Nat) (q : QFrame) (g : CanCfg), s.advance dt = a ∧ a.canRuns n = true ∧ a.mode = .active ∧ canCfg a.img n = some g ∧ g.listen = false ∧ (a.can1 n).active = none ∧ (a.can1 n).st ∈ [2, 3, 4] ∧ (a.can1 n).offers = [(frameKey q.frame, .queue q, q.frame)]) ∧
    (∃ (s : State) (a : State) (dt : Nat) (n : Nat) (i : Nat) (t : Nat) (g : CanCfg) (c : CanSt) (b : TxBuf), s.advance dt = a ∧ a.canRuns n = true ∧ findKey (·.n) n a.can = some c ∧ a.can1 n = c ∧ canCfg a.img n = some g ∧ c.active = some (.buf i) ∧ c.bufs[i]? = some b ∧ c.st = 2 ∧ c.tec ≤ 127 ∧ c.recv ≤ 127) ∧
    (∃ (s : State) (a : State) (dt : Nat) (n : Nat) (i : Nat) (t : Nat) (g : CanCfg) (c : CanSt) (b : TxBuf), s.advance dt = a ∧ a.canRuns n = true ∧ findKey (·.n) n a.can = some c ∧ a.can1 n = c ∧ canCfg a.img n = some g ∧ c.active = some (.buf i) ∧ c.bufs[i]? = some b ∧ b.cancel = false ∧ c.st = 2 ∧ c.tec ≤ 127 ∧ c.recv ≤ 127) ∧
    (∃ (s : State) (a : State) (dt : Nat) (n : Nat) (i : Nat) (t : Nat) (g : CanCfg) (c : CanSt) (b : TxBuf), s.advance dt = a ∧ a.canRuns n = true ∧ findKey (·.n) n a.can = some c ∧ a.can1 n = c ∧ canCfg a.img n = some g ∧ c.active = some (.buf i) ∧ c.bufs[i]? = some b ∧ b.clash = 2 ∧ c.st = 2 ∧ c.tec ≤ 119 ∧ c.recv ≤ 127) ∧
    (∃ (s : State) (a : State) (dt : Nat) (n : Nat) (g : CanCfg), s.advance dt = a ∧ a.canRuns n = true ∧ canCfg a.img n = some g ∧ (a.can1 n).st = 5 ∧ (a.can1 n).busoffAt + 400000 * g.busoffHold ≤ a.clock) ∧
    (∃ (s : State) (a : State) (dt : Nat) (n : Nat) (k : Nat) (c : CanSt) (p : Bool), s.advance dt = a ∧ a.canRuns n = true ∧ findKey (·.n) n a.can = some c ∧ a.can1 n = c ∧ c.st = 2 ∧ c.tec ≤ 127 ∧ c.recv + 8 * k ≤ 118) :=
  ⟨⟨onCan (aCan 0 0) { n := 0, st := 1 }, _, 0, 0, rfl, by decide +kernel, by decide +kernel⟩,
   ⟨onCan (aCan 0 0) { n := 0, st := 2, queue := [{ frame := aRioFrame 5 }] }, _, 0, 0, { frame := aRioFrame 5 }, aCan 0 0, rfl, by decide +kernel, by decide +kernel, by decide +kernel, by decide +kernel, by decide +kernel, by decide +kernel, by decide +kernel⟩,
   ⟨onCan (aCan 0 0) { n := 0, st := 2, active := some (.buf 0), bufs := [{ st := .active }] }, _, 0, 0, 0, 9, aCan 0 0, { n := 0, st := 2, active := some (.buf 0), bufs := [{ st := .active }] }, { st := .active }, rfl, by decide +kernel, by decide +kernel, by decide +kernel, by decide +kernel, by decide +kernel, by decide +kernel, by decide +kernel, by decide +kernel, by decide +kernel⟩,
   ⟨onCan (aCan 0 0) { n := 0, st := 2, active := some (.buf 0), bufs := [{ st := .active }] }, _, 0, 0, 0, 9, aCan 0 0, { n := 0, st := 2, active := some (.buf 0), bufs := [{ st := .active }] }, { st := .active }, rfl, by decide +kernel, by decide +kernel, by decide +kernel, by decide +kernel, by decide +kernel, by decide +kernel, by decide +kernel, by decide +kernel, by decide +kernel, by decide +kernel⟩,
   ⟨onCan (aCan 0 0) { n := 0, st := 2, active := some (.buf 0), bufs := [{ st := .active, clash := 2 }] }, _, 0, 0, 0, 9, aCan 0 0, { n := 0, st := 2, active := some (.buf 0), bufs := [{ st := .active, clash := 2 }] }, { st := .active, clash := 2 }, rfl, by decide +kernel, by decide +kernel, by decide +kernel, by decide +kernel, by decide +kernel, by decide +kernel, by decide +kernel, by decide +kernel, by decide +kernel, by decide +kernel⟩,
   ⟨{ onCan (aCan 0 0) { n := 0, st := 5 } with clock := 4000000 }, _, 0, 0, aCan 0 0, rfl, by decide +kernel, by decide +kernel, by decide +kernel, by decide +kernel⟩,
   ⟨onCan (aCan 0 0) { n := 0, st := 2 }, _, 0, 0, 1, { n := 0, st := 2 }, true, rfl, by decide +kernel, by decide +kernel, by decide +kernel, by decide +kernel, by decide +kernel, by decide +kernel⟩⟩

theorem test_witness_CanFramesArrive :
    (∃ (s : State) (a : State) (dt : Nat) (n : Nat) (f : CanFrame) (g : CanCfg) (c : CanSt) (x : CanFilter) (k : Nat), s.advance dt = a ∧ a.canRuns n = true ∧ findKey (·.n) n a.can = some c ∧ a.can1 n = c ∧ c.st ∈ [2, 3, 4] ∧ c.tec ≤ 255 ∧ canCfg a.img n = some g ∧ (g.role = 0 ∨ f.ide = true ∨ f.fdf = false ∨ f.rtr = true ∨ f.ident < g.idBase ∨ g.idBase + 0x200 ≤ f.ident) ∧ uslIdent a.img n f = false ∧ g.filters.findIdx? (filterHits f) = some k ∧ g.filters[k]? = some x ∧ x.dest = 0 ∧ c.fifo0.length < 16) ∧
    (∃ (s : State) (a : State) (dt : Nat) (n : Nat) (f : CanFrame) (g : CanCfg) (c : CanSt) (x : CanFilter) (k : Nat), s.advance dt = a ∧ a.canRuns n = true ∧ findKey (·.n) n a.can = some c ∧ a.can1 n = c ∧ c.st ∈ [2, 3, 4] ∧ c.tec ≤ 255 ∧ canCfg a.img n = some g ∧ (g.role = 0 ∨ f.ide = true ∨ f.fdf = false ∨ f.rtr = true ∨ f.ident < g.idBase ∨ g.idBase + 0x200 ≤ f.ident) ∧ uslIdent a.img n f = false ∧ g.filters.findIdx? (filterHits f) = some k ∧ g.filters[k]? = some x ∧ x.dest = 1 ∧ c.fifo1.length < 16) ∧
    (∃ (s : State) (a : State) (dt : Nat) (n : Nat) (f : CanFrame) (g : CanCfg) (c : CanSt), s.advance dt = a ∧ a.canRuns n = true ∧ findKey (·.n) n a.can = some c ∧ a.can1 n = c ∧ c.st ∈ [2, 3, 4] ∧ c.tec ≤ 255 ∧ canCfg a.img n = some g ∧ (g.role = 0 ∨ f.ide = true ∨ f.fdf = false ∨ f.rtr = true ∨ f.ident < g.idBase ∨ g.idBase + 0x200 ≤ f.ident) ∧ uslIdent a.img n f = false ∧ g.filters.findIdx? (filterHits f) = none) ∧
    (∃ (s : State) (a : State) (dt : Nat) (n : Nat) (f : CanFrame) (g : CanCfg) (c : CanSt) (t : StationCfg) (x : StationSt) (m : RioMap), s.advance dt = a ∧ n < 4 ∧ a.rioRuns n = true ∧ a.canRuns n = true ∧ findKey (·.n) n a.can = some c ∧ a.can1 n = c ∧ c.st ∈ [2, 3, 4] ∧ c.tec ≤ 255 ∧ canCfg a.img n = some g ∧ g.role = 1 ∧ g.stations = [t] ∧ t.addr < 128 ∧ a.station n t.addr = some x ∧ x.addr = t.addr ∧ x.seen = false ∧ c.syncH = some (getN f.data 0 2) ∧ f.ide = false ∧ f.fdf = true ∧ f.rtr = false ∧ f.ident = g.idBase + 0x180 + t.addr ∧ rioBadLen f t.rxLen = false ∧ t.maps = [m] ∧ m.tx = false ∧ m.ref.slot < 65536) ∧
    (∃ (s : State) (a : State) (dt : Nat) (n : Nat) (f : CanFrame) (g : CanCfg) (c : CanSt) (t : StationCfg) (x : StationSt), s.advance dt = a ∧ n < 4 ∧ a.rioRuns n = true ∧ a.canRuns n = true ∧ findKey (·.n) n a.can = some c ∧ a.can1 n = c ∧ c.st ∈ [2, 3, 4] ∧ c.tec ≤ 255 ∧ canCfg a.img n = some g ∧ g.role = 1 ∧ g.stations = [t] ∧ t.addr < 128 ∧ a.station n t.addr = some x ∧ x.addr = t.addr ∧ (x.seen = true ∨ c.syncH ≠ some (getN f.data 0 2) ∨ rioBadLen f t.rxLen = true) ∧ f.ide = false ∧ f.fdf = true ∧ f.rtr = false ∧ f.ident = g.idBase + 0x180 + t.addr) ∧
    (∃ (s : State) (a : State) (dt : Nat) (n : Nat) (f : CanFrame) (g : CanCfg) (c : CanSt) (t : StationCfg) (x : StationSt), s.advance dt = a ∧ n < 4 ∧ a.rioRuns n = true ∧ a.canRuns n = true ∧ findKey (·.n) n a.can = some c ∧ a.can1 n = c ∧ c.st ∈ [2, 3, 4] ∧ c.tec ≤ 255 ∧ canCfg a.img n = some g ∧ g.role = 2 ∧ g.stations = [t] ∧ a.station n t.addr = some x ∧ x.addr = t.addr ∧ x.link ≠ 1 ∧ (c.syncH = none ∨ x.seen = true) ∧ f.ide = false ∧ f.fdf = true ∧ f.rtr = false ∧ f.ident = g.idBase) ∧
    (∃ (s : State) (a : State) (dt : Nat) (n : Nat) (f : CanFrame) (g : CanCfg) (c : CanSt) (t : StationCfg) (x : StationSt) (m : RioMap), s.advance dt = a ∧ n < 4 ∧ a.rioRuns n = true ∧ a.canRuns n = true ∧ findKey (·.n) n a.can = some c ∧ a.can1 n = c ∧ c.st ∈ [2, 3, 4] ∧ c.tec ≤ 255 ∧ canCfg a.img n = some g ∧ g.role = 2 ∧ g.stations = [t] ∧ g.addr = t.addr ∧ g.addr < 128 ∧ a.station n t.addr = some x ∧ x.addr = t.addr ∧ f.ide = false ∧ f.fdf = true ∧ f.rtr = false ∧ f.ident = g.idBase + 0x100 + g.addr ∧ rioBadLen f t.rxLen = false ∧ t.maps = [m] ∧ m.tx = false ∧ m.ref.slot < 65536) ∧
    (∃ (s : State) (a : State) (dt : Nat) (n : Nat) (g : CanCfg) (c : CanSt) (t : StationCfg) (x : StationSt) (m : RioMap), s.advance dt = a ∧ n < 4 ∧ a.rioRuns n = true ∧ a.can1 n = c ∧ findKey (·.n) n a.can = some c ∧ canCfg a.img n = some g ∧ g.role = 2 ∧ g.stations = [t] ∧ c.stations = [x] ∧ x.addr = t.addr ∧ x.link ≠ 1 ∧ t.maps = [m] ∧ m.tx = false ∧ m.ref.slot < 65536 ∧ c.syncAt + g.lead < a.clock) ∧
    (∃ (s : State) (a : State) (dt : Nat) (n : Nat) (g : CanCfg) (c : CanSt) (t : StationCfg) (x : StationSt) (h : Nat) (m : RioMap), s.advance dt = a ∧ n < 4 ∧ a.rioRuns n = true ∧ a.can1 n = c ∧ findKey (·.n) n a.can = some c ∧ canCfg a.img n = some g ∧ g.role = 2 ∧ g.stations = [t] ∧ c.stations = [x] ∧ x.addr = t.addr ∧ x.subst = false ∧ x.stale = some h ∧ h + t.hold < a.clock ∧ t.maps = [m] ∧ m.tx = false ∧ m.ref.slot < 65536) :=
  ⟨⟨onCan ({ aCan 0 0 with filters := [{ ide := false, ident := 5, mask := 0x7FF, dest := 0 }] }) { n := 0, st := 2 }, _, 0, 0, aRioFrame 5, { aCan 0 0 with filters := [{ ide := false, ident := 5, mask := 0x7FF, dest := 0 }] }, { n := 0, st := 2 }, { ide := false, ident := 5, mask := 0x7FF, dest := 0 }, 0, rfl, by decide +kernel, by decide +kernel, by decide +kernel, by decide +kernel, by decide +kernel, by decide +kernel, by decide +kernel, by decide +kernel, by decide +kernel, by decide +kernel, by decide +kernel, by decide +kernel⟩,
   ⟨onCan ({ aCan 0 0 with filters := [{ ide := false, ident := 5, mask := 0x7FF, dest := 1 }] }) { n := 0, st := 2 }, _, 0, 0, aRioFrame 5, { aCan 0 0 with filters := [{ ide := false, ident := 5, mask := 0x7FF, dest := 1 }] }, { n := 0, st := 2 }, { ide := false, ident := 5, mask := 0x7FF, dest := 1 }, 0, rfl, by decide +kernel, by decide +kernel, by decide +kernel, by decide +kernel, by decide +kernel, by decide +kernel, by decide +kernel, by decide +kernel, by decide +kernel, by decide +kernel, by decide +kernel, by decide +kernel⟩,
   ⟨onCan (aCan 0 0) { n := 0, st := 2 }, _, 0, 0, aRioFrame 5, aCan 0 0, { n := 0, st := 2 }, rfl, by decide +kernel, by decide +kernel, by decide +kernel, by decide +kernel, by decide +kernel, by decide +kernel, by decide +kernel, by decide +kernel, by decide +kernel⟩,
   ⟨onCan ({ aCan 0 1 with stations := [aStation [aMap]] }) { n := 0, st := 2, syncH := some 7, stations := [{ addr := 4, link := 3 }] }, _, 0, 0, aRioFrame 0x184, { aCan 0 1 with stations := [aStation [aMap]] }, { n := 0, st := 2, syncH := some 7, stations := [{ addr := 4, link := 3 }] }, aStation [aMap], { addr := 4, link := 3 }, aMap, rfl, by decide +kernel, by decide +kernel, by decide +kernel, by decide +kernel, by decide +kernel, by decide +kernel, by decide +kernel, by decide +kernel, by decide +kernel, by decide +kernel, by decide +kernel, by decide +kernel, by decide +kernel, by decide +kernel, by decide +kernel, by decide +kernel, by decide +kernel, by decide +kernel, by decide +kernel, by decide +kernel, by decide +kernel, by decide +kernel, by decide +kernel⟩,
   ⟨onCan ({ aCan 0 1 with stations := [aStation [aMap]] }) { n := 0, st := 2, stations := [{ addr := 4, link := 3 }] }, _, 0, 0, aRioFrame 0x184, { aCan 0 1 with stations := [aStation [aMap]] }, { n := 0, st := 2, stations := [{ addr := 4, link := 3 }] }, aStation [aMap], { addr := 4, link := 3 }, rfl, by decide +kernel, by decide +kernel, by decide +kernel, by decide +kernel, by decide +kernel, by decide +kernel, by decide +kernel, by decide +kernel, by decide +kernel, by decide +kernel, by decide +kernel, by decide +kernel, by decide +kernel, by decide +kernel, by decide +kernel, by decide +kernel, by decide +kernel, by decide +kernel⟩,
   ⟨onCan ({ aCan 0 2 with addr := 4, stations := [aStation []] }) { n := 0, st := 2, stations := [{ addr := 4, link := 3 }] }, _, 0, 0, aRioFrame 0, { aCan 0 2 with addr := 4, stations := [aStation []] }, { n := 0, st := 2, stations := [{ addr := 4, link := 3 }] }, aStation [], { addr := 4, link := 3 }, rfl, by decide +kernel, by decide +kernel, by decide +kernel, by decide +kernel, by decide +kernel, by decide +kernel, by decide +kernel, by decide +kernel, by decide +kernel, by decide +kernel, by decide +kernel, by decide +kernel, by decide +kernel, by decide +kernel, by decide +kernel, by decide +kernel, by decide +kernel, by decide +kernel⟩,
   ⟨onCan ({ aCan 0 2 with addr := 4, stations := [aStation [aMap]] }) { n := 0, st := 2, stations := [{ addr := 4, link := 3 }] }, _, 0, 0, aRioFrame 0x104, { aCan 0 2 with addr := 4, stations := [aStation [aMap]] }, { n := 0, st := 2, stations := [{ addr := 4, link := 3 }] }, aStation [aMap], { addr := 4, link := 3 }, aMap, rfl, by decide +kernel, by decide +kernel, by decide +kernel, by decide +kernel, by decide +kernel, by decide +kernel, by decide +kernel, by decide +kernel, by decide +kernel, by decide +kernel, by decide +kernel, by decide +kernel, by decide +kernel, by decide +kernel, by decide +kernel, by decide +kernel, by decide +kernel, by decide +kernel, by decide +kernel, by decide +kernel, by decide +kernel, by decide +kernel⟩,
   ⟨{ onCan ({ aCan 0 2 with addr := 4, stations := [aStation [aMap]] }) { n := 0, st := 2, stations := [{ addr := 4, link := 3 }] } with clock := 100 }, _, 0, 0, { aCan 0 2 with addr := 4, stations := [aStation [aMap]] }, { n := 0, st := 2, stations := [{ addr := 4, link := 3 }] }, aStation [aMap], { addr := 4, link := 3 }, aMap, rfl, by decide +kernel, by decide +kernel, by decide +kernel, by decide +kernel, by decide +kernel, by decide +kernel, by decide +kernel, by decide +kernel, by decide +kernel, by decide +kernel, by decide +kernel, by decide +kernel, by decide +kernel, by decide +kernel⟩,
   ⟨{ onCan ({ aCan 0 2 with addr := 4, stations := [aStation [aMap]] }) { n := 0, st := 2, stations := [{ addr := 4, link := 1, stale := some 0 }] } with clock := 100 }, _, 0, 0, { aCan 0 2 with addr := 4, stations := [aStation [aMap]] }, { n := 0, st := 2, stations := [{ addr := 4, link := 1, stale := some 0 }] }, aStation [aMap], { addr := 4, link := 1, stale := some 0 }, 0, aMap, rfl, by decide +kernel, by decide +kernel, by decide +kernel, by decide +kernel, by decide +kernel, by decide +kernel, by decide +kernel, by decide +kernel, by decide +kernel, by decide +kernel, by decide +kernel, by decide +kernel, by decide +kernel, by decide +kernel, by decide +kernel⟩⟩

theorem test_witness_CanRegistersCommand :
    (∃ (s : State) (a : State) (dt : Nat) (n : Nat) (m : Master) (c : CanSt) (e : RxFrame) (r : List RxFrame), s.advance dt = a ∧ n < 4 ∧ a.Admits m (0x7060 + 0x400 * n) ∧ a.can1 n = c ∧ findKey (·.n) n a.can = some c ∧ c.fifo0 = e :: r ∧ (a.win m).canSel.getD n 0 = 0 ∧ e.seqn < 256) ∧
    (∃ (s : State) (a : State) (dt : Nat) (n : Nat) (m : Master) (c : CanSt) (e : RxFrame) (r : List RxFrame), s.advance dt = a ∧ n < 4 ∧ a.Admits m (0x7060 + 0x400 * n) ∧ a.can1 n = c ∧ findKey (·.n) n a.can = some c ∧ c.fifo1 = e :: r ∧ (a.win m).canSel.getD n 0 = 1 ∧ e.seqn < 256) ∧
    (∃ (s : State) (a : State) (dt : Nat) (n : Nat) (m : Master) (k : Nat) (c : CanSt) (e : RxFrame) (r : List RxFrame), s.advance dt = a ∧ n < 4 ∧ a.Admits m (0x7060 + 0x400 * n) ∧ a.can1 n = c ∧ findKey (·.n) n a.can = some c ∧ c.fifo0 = e :: r ∧ (a.win m).canSel.getD n 0 = 0 ∧ k < 256 ∧ k ≠ e.seqn) ∧
    (∃ (s : State) (a : State) (dt : Nat) (n : Nat) (m : Master) (i : Nat) (c : CanSt) (g : CanCfg) (b : TxBuf), s.advance dt = a ∧ n < 4 ∧ a.Admits m (0x710C + 0x400 * n) ∧ a.can1 n = c ∧ findKey (·.n) n a.can = some c ∧ canCfg a.img n = some g ∧ g.listen = false ∧ (a.win m).canTx.getD n 0 = i ∧ c.bufs[i]? = some b ∧ b.st ≠ .pending ∧ b.st ≠ .active ∧ a.mode = .active ∧ c.st ≠ 0 ∧ c.st ≠ 5 ∧ (b.brs = true → b.fdf = true) ∧ (b.rtr = true → b.fdf = false) ∧ (b.fdf = false → b.dlc ≤ 8) ∧ (b.ide = false → b.ident < 2048)) ∧
    (∃ (s : State) (a : State) (dt : Nat) (n : Nat) (m : Master) (i : Nat) (c : CanSt) (b : TxBuf), s.advance dt = a ∧ n < 4 ∧ a.Admits m (0x710C + 0x400 * n) ∧ a.can1 n = c ∧ findKey (·.n) n a.can = some c ∧ (a.win m).canTx.getD n 0 = i ∧ c.bufs[i]? = some b ∧ (b.st = .pending ∨ b.st = .active)) :=
  ⟨⟨(withSession .owner (onCan (aCan 0 0) { n := 0, st := 2, fifo0 := [{ frame := aRioFrame 5, filter := 0, tick := 0, seqn := 1 }] })), _, 0, 0, .host 1, { n := 0, st := 2, fifo0 := [{ frame := aRioFrame 5, filter := 0, tick := 0, seqn := 1 }] }, { frame := aRioFrame 5, filter := 0, tick := 0, seqn := 1 }, [], rfl, by decide +kernel, ⟨by decide +kernel, ⟨_, by rfl, by decide +kernel, by decide +kernel⟩, by decide +kernel, by decide +kernel, by decide +kernel⟩, by decide +kernel, by decide +kernel, by decide +kernel, by decide +kernel, by decide +kernel⟩,
   ⟨{ onCan (aCan 0 0) { n := 0, st := 2, fifo1 := [{ frame := aRioFrame 5, filter := 0, tick := 0, seqn := 1 }] } with sessions := [{ aSession .owner with m := { canSel := [1, 0, 0, 0] } }] }, _, 0, 0, .host 1, { n := 0, st := 2, fifo1 := [{ frame := aRioFrame 5, filter := 0, tick := 0, seqn := 1 }] }, { frame := aRioFrame 5, filter := 0, tick := 0, seqn := 1 }, [], rfl, by decide +kernel, ⟨by decide +kernel, ⟨_, by rfl, by decide +kernel, by decide +kernel⟩, by decide +kernel, by decide +kernel, by decide +kernel⟩, by decide +kernel, by decide +kernel, by decide +kernel, by decide +kernel, by decide +kernel⟩,
   ⟨(withSession .owner (onCan (aCan 0 0) { n := 0, st := 2, fifo0 := [{ frame := aRioFrame 5, filter := 0, tick := 0, seqn := 1 }] })), _, 0, 0, .host 1, 9, { n := 0, st := 2, fifo0 := [{ frame := aRioFrame 5, filter := 0, tick := 0, seqn := 1 }] }, { frame := aRioFrame 5, filter := 0, tick := 0, seqn := 1 }, [], rfl, by decide +kernel, ⟨by decide +kernel, ⟨_, by rfl, by decide +kernel, by decide +kernel⟩, by decide +kernel, by decide +kernel, by decide +kernel⟩, by decide +kernel, by decide +kernel, by decide +kernel, by decide +kernel, by decide +kernel, by decide +kernel⟩,
   ⟨(withSession .owner (onCan (aCan 0 0) { n := 0, st := 2, bufs := [{}] })), _, 0, 0, .host 1, 0, { n := 0, st := 2, bufs := [{}] }, aCan 0 0, {}, rfl, by decide +kernel, ⟨by decide +kernel, ⟨_, by rfl, by decide +kernel, by decide +kernel⟩, by decide +kernel, by decide +kernel, by decide +kernel⟩, by decide +kernel, by decide +kernel, by decide +kernel, by decide +kernel, by decide +kernel, by decide +kernel, by decide +kernel, by decide +kernel, by decide +kernel, by decide +kernel, by decide +kernel, by decide +kernel, by decide +kernel, by decide +kernel, by decide +kernel⟩,
   ⟨(withSession .owner (onCan (aCan 0 0) { n := 0, st := 2, bufs := [{ st := .pending }] })), _, 0, 0, .host 1, 0, { n := 0, st := 2, bufs := [{ st := .pending }] }, { st := .pending }, rfl, by decide +kernel, ⟨by decide +kernel, ⟨_, by rfl, by decide +kernel, by decide +kernel⟩, by decide +kernel, by decide +kernel, by decide +kernel⟩, by decide +kernel, by decide +kernel, by decide +kernel, by decide +kernel, by decide +kernel⟩⟩

theorem test_witness_EthernetRuns :
    (∃ (s : State) (a : State) (dt : Nat) (e2 : Bool) (v : Nat), s.advance dt = a ∧ a.portsLive = true ∧ a.portOn e2 = true ∧ v < 3 ∧ a.rioRuns 4 = false) ∧
    (∃ (s : State) (a : State) (dt : Nat) (k : Nat), s.advance dt = a ∧ a.portsLive = true ∧ a.img.eth.prp = true ∧ (a.eth.supAt = none ∨ ∃ t, a.eth.supAt = some t ∧ t + secTicks 2 ≤ a.clock) ∧ k = (a.eth.rctSeq + 1) % 65536) ∧
    (∃ (s : State) (a : State) (dt : Nat) (rx : EthRx) (ip : W32), s.advance dt = a ∧ a.portsLive = true ∧ a.portOn rx.e2 = true ∧ frameFits rx.seq.isSome 0 = true ∧ (∀ k, a.img.eth.prp = true → rx.seq = some k → a.eth.prpSeen.any (PrpSeen.same rx.mac k a.clock) = false) ∧ rx.seq = none ∧ a.img.eth.prp = false ∧ a.answers ip = true) ∧
    (∃ (s : State) (a : State) (dt : Nat) (rx : EthRx) (ip : W32), s.advance dt = a ∧ a.portsLive = true ∧ a.portOn rx.e2 = true ∧ frameFits rx.seq.isSome 0 = true ∧ (∀ k, a.img.eth.prp = true → rx.seq = some k → a.eth.prpSeen.any (PrpSeen.same rx.mac k a.clock) = false) ∧ rx.seq = none ∧ a.img.eth.prp = false ∧ a.answers ip = true) ∧
    (∃ (s : State) (a : State) (dt : Nat) (h : Nat), s.advance dt = a ∧ a.syncDue 4 = some h ∧ a.img.eth.prp = false) ∧
    (∃ (s : State) (a : State) (dt : Nat) (h : Nat) (n : Nat) (g : CanCfg) (c : CanSt), s.advance dt = a ∧ n < 4 ∧ a.syncDue n = some h ∧ canCfg a.img n = some g ∧ a.can1 n = c ∧ findKey (·.n) n a.can = some c ∧ a.canRuns n = true ∧ c.st ∈ [1, 2, 3, 4]) ∧
    (∃ (s : State) (a : State) (dt : Nat) (rx : EthRx) (ds : List Byte) (t : StationCfg) (x : StationSt) (m : RioMap), s.advance dt = a ∧ a.portsLive = true ∧ a.portOn rx.e2 = true ∧ frameFits rx.seq.isSome ds.length = true ∧ (∀ k, a.img.eth.prp = true → rx.seq = some k → a.eth.prpSeen.any (PrpSeen.same rx.mac k a.clock) = false) ∧ a.rioRuns 4 = true ∧ a.img.eth.role = 1 ∧ getN ds 0 1 = 3 ∧ getN ds 1 1 = t.addr ∧ a.img.eth.stations = [t] ∧ a.eth.stations = [x] ∧ x.addr = t.addr ∧ x.seen = false ∧ a.eth.syncH = some (getN ds 2 2) ∧ getN ds 4 2 = t.rxLen ∧ ds.length = 8 + t.rxLen ∧ t.maps = [m] ∧ m.tx = false ∧ m.ref.slot < 65536) ∧
    (∃ (s : State) (a : State) (dt : Nat) (rx : EthRx) (ds : List Byte) (t : StationCfg) (x : StationSt), s.advance dt = a ∧ a.portsLive = true ∧ a.portOn rx.e2 = true ∧ frameFits rx.seq.isSome ds.length = true ∧ (∀ k, a.img.eth.prp = true → rx.seq = some k → a.eth.prpSeen.any (PrpSeen.same rx.mac k a.clock) = false) ∧ a.rioRuns 4 = true ∧ a.img.eth.role = 1 ∧ getN ds 0 1 = 3 ∧ getN ds 1 1 = t.addr ∧ a.img.eth.stations = [t] ∧ a.eth.stations = [x] ∧ x.addr = t.addr ∧ a.eth.syncH ≠ some (getN ds 2 2)) ∧
    (∃ (s : State) (a : State) (dt : Nat) (rx : EthRx) (ds : List Byte) (t : StationCfg) (x : StationSt), s.advance dt = a ∧ a.portsLive = true ∧ a.portOn rx.e2 = true ∧ frameFits rx.seq.isSome ds.length = true ∧ (∀ k, a.img.eth.prp = true → rx.seq = some k → a.eth.prpSeen.any (PrpSeen.same rx.mac k a.clock) = false) ∧ a.rioRuns 4 = true ∧ a.img.eth.role = 2 ∧ getN ds 0 1 = 0 ∧ a.img.eth.stations = [t] ∧ a.eth.stations = [x] ∧ x.addr = t.addr ∧ x.link ≠ 1 ∧ (a.eth.syncH = none ∨ x.seen = true) ∧ a.img.eth.prp = false) ∧
    (∃ (s : State) (a : State) (dt : Nat) (rx : EthRx) (ds : List Byte) (t : StationCfg) (x : StationSt) (m : RioMap), s.advance dt = a ∧ a.portsLive = true ∧ a.portOn rx.e2 = true ∧ frameFits rx.seq.isSome ds.length = true ∧ (∀ k, a.img.eth.prp = true → rx.seq = some k → a.eth.prpSeen.any (PrpSeen.same rx.mac k a.clock) = false) ∧ a.rioRuns 4 = true ∧ a.img.eth.role = 2 ∧ getN ds 0 1 = 2 ∧ getN ds 1 1 = a.img.eth.addr ∧ a.img.eth.stations = [t] ∧ a.eth.stations = [x] ∧ x.addr = t.addr ∧ getN ds 4 2 = t.rxLen ∧ ds.length = 8 + t.rxLen ∧ t.maps = [m] ∧ m.tx = false ∧ m.ref.slot < 65536) ∧
    (∃ (s : State) (a : State) (dt : Nat) (rx : EthRx) (t : StationCfg) (x : StationSt) (m : RioMap), s.advance dt = a ∧ a.portsLive = true ∧ a.portOn rx.e2 = true ∧ frameFits rx.seq.isSome 8 = true ∧ (∀ k, a.img.eth.prp = true → rx.seq = some k → a.eth.prpSeen.any (PrpSeen.same rx.mac k a.clock) = false) ∧ a.rioRuns 4 = true ∧ a.img.eth.stations = [t] ∧ a.eth.stations = [x] ∧ x.addr = t.addr ∧ x.link ≠ 1 ∧ t.maps = [m] ∧ m.tx = false ∧ m.ref.slot < 65536) ∧
    (∃ (s : State) (a : State) (dt : Nat) (rx : EthRx) (ip : W32) (ds : List Byte) (k : Nat), s.advance dt = a ∧ a.portsLive = true ∧ a.portOn rx.e2 = true ∧ frameFits true ds.length = true ∧ a.img.eth.prp = true ∧ rx.seq = some k ∧ a.eth.prpSeen.any (PrpSeen.same rx.mac k a.clock) = true) :=
  ⟨⟨{ withImage { anImage with eth := { e1En := true, prp := false, ptpEn := false } } ready with eth := { e1link := true } }, _, 0, false, 2, rfl, by decide +kernel, by decide +kernel, by decide +kernel, by decide +kernel⟩,
   ⟨{ withImage { anImage with eth := { e1En := true, prp := true } } ready with eth := { e1link := true } }, _, 0, 1, rfl, by decide +kernel, by decide +kernel, (Or.inl rfl), by decide +kernel⟩,
   ⟨{ withImage { anImage with eth := { e1En := true, prp := false, ptpEn := false } } ready with eth := { e1link := true } }, _, 0, anRx, ready.ownIp, rfl, by decide +kernel, by decide +kernel, by decide +kernel, (fun _ h _ => absurd h (by decide +kernel)), by decide +kernel, by decide +kernel, by decide +kernel⟩,
   ⟨{ withImage { anImage with eth := { e1En := true, prp := false, ptpEn := false } } ready with eth := { e1link := true } }, _, 0, anRx, ready.ownIp, rfl, by decide +kernel, by decide +kernel, by decide +kernel, (fun _ h _ => absurd h (by decide +kernel)), by decide +kernel, by decide +kernel, by decide +kernel⟩,
   ⟨{ onEth 1 { addr := 4, link := 3 } (none) with clock := 399995 }, _, 0, 1, rfl, by decide +kernel, by decide +kernel⟩,
   ⟨{ onCan { aCan 0 1 with lead := 10 } { n := 0, st := 2 } with clock := 399995 }, _, 0, 1, 0, { aCan 0 1 with lead := 10 }, { n := 0, st := 2 }, rfl, by decide +kernel, by decide +kernel, by decide +kernel, by decide +kernel, by decide +kernel, by decide +kernel, by decide +kernel⟩,
   ⟨onEth 1 { addr := 4, link := 3 } (some 7) [aMap], _, 0, anRx, [3, 4, 7, 0, 4, 0, 0, 0, 1, 2, 3, 4], aStation [aMap], { addr := 4, link := 3 }, aMap, rfl, by decide +kernel, by decide +kernel, by decide +kernel, (fun _ h _ => absurd h (by decide +kernel)), by decide +kernel, by decide +kernel, by decide +kernel, by decide +kernel, by decide +kernel, by decide +kernel, by decide +kernel, by decide +kernel, by decide +kernel, by decide +kernel, by decide +kernel, by decide +kernel, by decide +kernel, by decide +kernel⟩,
   ⟨onEth 1 { addr := 4, link := 3 } (some 6), _, 0, anRx, [3, 4, 7, 0, 4, 0, 0, 0, 1, 2, 3, 4], aStation [], { addr := 4, link := 3 }, rfl, by decide +kernel, by decide +kernel, by decide +kernel, (fun _ h _ => absurd h (by decide +kernel)), by decide +kernel, by decide +kernel, by decide +kernel, by decide +kernel, by decide +kernel, by decide +kernel, by decide +kernel, by decide +kernel⟩,
   ⟨onEth 2 { addr := 4, link := 3 } (none), _, 0, anRx, [0, 4, 7, 0, 4, 0, 0, 0, 1, 2, 3, 4], aStation [], { addr := 4, link := 3 }, rfl, by decide +kernel, by decide +kernel, by decide +kernel, (fun _ h _ => absurd h (by decide +kernel)), by decide +kernel, by decide +kernel, by decide +kernel, by decide +kernel, by decide +kernel, by decide +kernel, by decide +kernel, by decide +kernel, by decide +kernel⟩,
   ⟨onEth 2 { addr := 4, link := 3 } (none) [aMap], _, 0, anRx, [2, 4, 7, 0, 4, 0, 0, 0, 1, 2, 3, 4], aStation [aMap], { addr := 4, link := 3 }, aMap, rfl, by decide +kernel, by decide +kernel, by decide +kernel, (fun _ h _ => absurd h (by decide +kernel)), by decide +kernel, by decide +kernel, by decide +kernel, by decide +kernel, by decide +kernel, by decide +kernel, by decide +kernel, by decide +kernel, by decide +kernel, by decide +kernel, by decide +kernel, by decide +kernel⟩,
   ⟨onEth 2 { addr := 4, link := 3 } (none) [aMap], _, 0, anRx, aStation [aMap], { addr := 4, link := 3 }, aMap, rfl, by decide +kernel, by decide +kernel, by decide +kernel, (fun _ h _ => absurd h (by decide +kernel)), by decide +kernel, by decide +kernel, by decide +kernel, by decide +kernel, by decide +kernel, by decide +kernel, by decide +kernel, by decide +kernel⟩,
   ⟨{ withImage { anImage with eth := { e1En := true, prp := true } } ready with eth := { e1link := true, prpSeen := [{ mac := 1, seq := 9, e2 := true, tick := 0 }] } }, _, 0, { e2 := false, mac := 1, seq := some 9 }, ready.ownIp, [1, 2], 9, rfl, by decide +kernel, by decide +kernel, by decide +kernel, by decide +kernel, by decide +kernel, by decide +kernel⟩⟩

theorem test_witness_ClocksRun :
    (∃ (s : State) (a : State) (dt : Nat) (e2 : Bool) (g : Announce), s.advance dt = a ∧ a.ptpOn = true ∧ a.portOn e2 = true ∧ g.domain = a.img.eth.ptpDomain ∧ g.udp = decide (a.img.eth.ptpTransport = 1) ∧ a.eth.ptp.a1 = none ∧ a.eth.ptp.a2 = none) ∧
    (∃ (s : State) (a : State) (dt : Nat) (g : Announce) (t : Nat), s.advance dt = a ∧ a.ptpOn = true ∧ a.eth.ptp.st = 2 ∧ a.eth.ptp.a1 = some (g, t) ∧ a.eth.ptp.a2 = none ∧ t + 3 * g.every < a.clock) ∧
    (∃ (s : State) (a : State) (dt : Nat) (e2 : Bool) (g : Announce) (b : Announce) (t : Nat), s.advance dt = a ∧ a.ptpOn = true ∧ a.portOn e2 = true ∧ g.domain = a.img.eth.ptpDomain ∧ g.udp = decide (a.img.eth.ptpTransport = 1) ∧ a.eth.ptp.best e2 = some (b, t) ∧ (g.sender = b.sender ∨ announceBetter g b = true) ∧ a.eth.ptp.hasMaster = true) ∧
    (∃ (s : State) (a : State) (dt : Nat) (o : Int) (th : Int) (d : Nat) (g : Nat), s.advance dt = a ∧ th = (a.sysAt g : Int) - (o + (d : Int)) ∧ a.ptpOn = true ∧ a.eth.ptp.hasMaster = true ∧ (a.eth.ptp.st = 0 ∨ a.eth.ptp.st = 3)) ∧
    (∃ (s : State) (a : State) (dt : Nat) (o : Int) (th : Int) (d : Nat) (g : Nat), s.advance dt = a ∧ th = (a.sysAt g : Int) - (o + (d : Int)) ∧ a.ptpOn = true ∧ a.eth.ptp.hasMaster = true ∧ a.img.eth.stepNs < th.natAbs) ∧
    (∃ (s : State) (a : State) (dt : Nat) (o : Int) (th : Int) (d : Nat) (g : Nat), s.advance dt = a ∧ th = (a.sysAt g : Int) - (o + (d : Int)) ∧ a.ptpOn = true ∧ a.eth.ptp.hasMaster = true ∧ a.eth.ptp.st = 2 ∧ 10000 < th.natAbs) ∧
    (∃ (s : State) (a : State) (dt : Nat) (o : Int) (th : Int) (d : Nat) (g : Nat) (t : Nat) (ts : Rat), s.advance dt = a ∧ th = (a.sysAt g : Int) - (o + (d : Int)) ∧ a.eth.ptp.syncAt = some t ∧ ts = ((a.clock - g - t : Nat) : Rat) * tickNs ∧ 0 < ts ∧ a.ptpOn = true ∧ a.eth.ptp.hasMaster = true ∧ a.eth.ptp.st = 1 ∧ a.eth.ptp.good = 15 ∧ th.natAbs ≤ a.img.eth.stepNs ∧ th.natAbs ≤ 1000) ∧
    (∃ (s : State) (a : State) (dt : Nat) (r : Nat), s.advance dt = a ∧ a.eth.ptp.st = 0 ∧ a.boot.rtcValid = true ∧ a.power.phase = .operating ∧ a.eth.ptp.discAt + secTicks 1 ≤ a.clock) ∧
    (∃ (s : State) (a : State) (dt : Nat), s.advance dt = a ∧ a.eth.ptp.st = 2 ∧ a.power.phase = .operating ∧ a.eth.ptp.wrAt + secTicks 10 ≤ a.clock) :=
  ⟨⟨{ onEth 1 { addr := 4, link := 3 } none with clock := 0, eth := { ptp := { st := 0 } } }, _, 0, false, anAnnounce, rfl, by decide +kernel, by decide +kernel, by decide +kernel, by decide +kernel, by decide +kernel, by decide +kernel⟩,
   ⟨{ onEth 1 { addr := 4, link := 3 } none with clock := 1200000001, eth := { ptp := { st := 2, a1 := some (anAnnounce, 0) } } }, _, 0, anAnnounce, 0, rfl, by decide +kernel, by decide +kernel, by decide +kernel, by decide +kernel, by decide +kernel⟩,
   ⟨{ onEth 1 { addr := 4, link := 3 } none with clock := 0, eth := { ptp := { st := 0, a1 := some (anAnnounce, 0) } } }, _, 0, false, anAnnounce, anAnnounce, 0, rfl, by decide +kernel, by decide +kernel, by decide +kernel, by decide +kernel, by decide +kernel, by decide +kernel, by decide +kernel⟩,
   ⟨{ onEth 1 { addr := 4, link := 3 } none with clock := 0, eth := { ptp := { st := 0, a1 := some (anAnnounce, 0) } } }, _, 0, -5000, 5000, 0, 0, rfl, by decide +kernel, by decide +kernel, by decide +kernel, by decide +kernel⟩,
   ⟨{ onEth 1 { addr := 4, link := 3 } none with clock := 0, eth := { ptp := { st := 1, a1 := some (anAnnounce, 0) } } }, _, 0, -5000, 5000, 0, 0, rfl, by decide +kernel, by decide +kernel, by decide +kernel, by decide +kernel⟩,
   ⟨{ onEth 1 { addr := 4, link := 3 } none with clock := 0, eth := { ptp := { st := 2, a1 := some (anAnnounce, 0) } } }, _, 0, -15000, 15000, 0, 0, rfl, by decide +kernel, by decide +kernel, by decide +kernel, by decide +kernel, by decide +kernel⟩,
   ⟨{ onEth 1 { addr := 4, link := 3 } none with clock := 400, eth := { ptp := { st := 1, good := 15, syncAt := some 0, a1 := some (anAnnounce, 0) } } }, _, 0, 0, 0, 0, 0, 0, 1000, rfl, by decide +kernel, by decide +kernel, by decide +kernel, by decide +kernel, by decide +kernel, by decide +kernel, by decide +kernel, by decide +kernel, by decide +kernel, by decide +kernel⟩,
   ⟨{ ready with clock := 400000000, boot := { ready.boot with rtcValid := true } }, _, 0, 5, rfl, by decide +kernel, by decide +kernel, by decide +kernel, by decide +kernel⟩,
   ⟨{ onEth 1 { addr := 4, link := 3 } none with clock := 4000000000, eth := { ptp := { st := 2 } } }, _, 0, rfl, by decide +kernel, by decide +kernel, by decide +kernel⟩⟩

theorem test_witness_SafetyLayerRuns :
    (∃ (s : State) (a : State) (dt : Nat) (n : Nat) (c : UslCfg) (x : UslSt) (rx : Option EthRx) (p : List Byte) (m : RioMap), s.advance dt = a ∧ (∀ r, rx = some r → a.portsLive = true ∧ a.portOn r.e2 = true ∧ frameFits r.seq.isSome p.length = true ∧ ∀ k, a.img.eth.prp = true → r.seq = some k → a.eth.prpSeen.any (PrpSeen.same r.mac k a.clock) = false) ∧ uslCfg a.img n = some c ∧ a.usl1 n = some x ∧ a.uslRuns = true ∧ c.sink = true ∧ pduOk c.connId p = true ∧ getN p 0 1 = 1 ∧ getN p 2 1 = c.len ∧ a.uslOld c (getN p 8 8) = false ∧ x.st = 1 ∧ getN p 4 4 ≠ 0 ∧ (∀ l, x.lastSeq = some l → 1 ≤ seqDist l (getN p 4 4) ∧ seqDist l (getN p 4 4) ≤ c.seqwin) ∧ c.maps = [m] ∧ m.tx = false ∧ m.ref.slot < 65536) ∧
    (∃ (s : State) (a : State) (dt : Nat) (n : Nat) (c : UslCfg) (x : UslSt) (rx : Option EthRx) (p : List Byte), s.advance dt = a ∧ (∀ r, rx = some r → a.portsLive = true ∧ a.portOn r.e2 = true ∧ frameFits r.seq.isSome p.length = true ∧ ∀ k, a.img.eth.prp = true → r.seq = some k → a.eth.prpSeen.any (PrpSeen.same r.mac k a.clock) = false) ∧ uslCfg a.img n = some c ∧ a.usl1 n = some x ∧ a.uslRuns = true ∧ c.sink = true ∧ pduOk c.connId p = true ∧ getN p 0 1 = 1 ∧ getN p 2 1 = c.len ∧ a.uslOld c (getN p 8 8) = false ∧ x.st = 1 ∧ getN p 4 4 ≠ 0 ∧ (∀ l, x.lastSeq = some l → 1 ≤ seqDist l (getN p 4 4) ∧ seqDist l (getN p 4 4) ≤ c.seqwin) ∧ c.medium = 0 ∧ a.img.eth.prp = false) ∧
    (∃ (s : State) (a : State) (dt : Nat) (n : Nat) (c : UslCfg) (x : UslSt) (rx : Option EthRx) (p : List Byte), s.advance dt = a ∧ (∀ r, rx = some r → a.portsLive = true ∧ a.portOn r.e2 = true ∧ frameFits r.seq.isSome p.length = true ∧ ∀ k, a.img.eth.prp = true → r.seq = some k → a.eth.prpSeen.any (PrpSeen.same r.mac k a.clock) = false) ∧ uslCfg a.img n = some c ∧ a.usl1 n = some x ∧ a.uslRuns = true ∧ c.sink = true ∧ pduOk c.connId p = true ∧ getN p 0 1 = 1 ∧ getN p 2 1 = c.len ∧ a.uslOld c (getN p 8 8) = false ∧ c.conn = n ∧ x.c = n ∧ x.st = 2 ∧ c.reint = true ∧ x.good = 7) ∧
    (∃ (s : State) (a : State) (dt : Nat) (n : Nat) (c : UslCfg) (x : UslSt) (rx : Option EthRx) (p : List Byte), s.advance dt = a ∧ (∀ r, rx = some r → a.portsLive = true ∧ a.portOn r.e2 = true ∧ frameFits r.seq.isSome p.length = true ∧ ∀ k, a.img.eth.prp = true → r.seq = some k → a.eth.prpSeen.any (PrpSeen.same r.mac k a.clock) = false) ∧ uslCfg a.img n = some c ∧ a.usl1 n = some x ∧ a.uslRuns = true ∧ c.sink = true ∧ pduOk c.connId p = false ∧ x.lastCrc = none) ∧
    (∃ (s : State) (a : State) (dt : Nat) (n : Nat) (c : UslCfg) (x : UslSt) (rx : Option EthRx) (p : List Byte) (t : Nat), s.advance dt = a ∧ (∀ r, rx = some r → a.portsLive = true ∧ a.portOn r.e2 = true ∧ frameFits r.seq.isSome p.length = true ∧ ∀ k, a.img.eth.prp = true → r.seq = some k → a.eth.prpSeen.any (PrpSeen.same r.mac k a.clock) = false) ∧ uslCfg a.img n = some c ∧ a.usl1 n = some x ∧ a.uslRuns = true ∧ c.sink = false ∧ c.conn = n ∧ pduOk c.connId p = true ∧ getN p 0 1 = 2 ∧ getN p 2 1 = 0 ∧ (getN p 4 4, t) ∈ x.sent ∧ a.clock ≤ t + c.wd ∧ (x.st = 0 ∨ x.st = 1)) ∧
    (∃ (s : State) (a : State) (dt : Nat) (n : Nat) (c : UslCfg) (x : UslSt) (t : Nat) (m : RioMap), s.advance dt = a ∧ uslCfg a.img n = some c ∧ a.usl1 n = some x ∧ a.uslRuns = true ∧ c.sink = true ∧ c.conn = n ∧ x.wd = some t ∧ t < a.clock ∧ x.st = 1 ∧ c.maps = [m] ∧ m.tx = false ∧ m.ref.slot < 65536) ∧
    (∃ (s : State) (a : State) (dt : Nat) (n : Nat) (c : UslCfg) (x : UslSt) (t : Nat), s.advance dt = a ∧ uslCfg a.img n = some c ∧ a.usl1 n = some x ∧ a.uslRuns = true ∧ c.sink = true ∧ x.wd = some t ∧ t < a.clock ∧ x.st = 2) ∧
    (∃ (s : State) (a : State) (dt : Nat) (n : Nat) (c : UslCfg) (x : UslSt) (t : Nat) (m : RioMap), s.advance dt = a ∧ uslCfg a.img n = some c ∧ a.usl1 n = some x ∧ a.uslRuns = true ∧ c.sink = false ∧ c.conn = n ∧ x.wd = some t ∧ t < a.clock ∧ x.st ≠ 2 ∧ c.maps = [m] ∧ m.tx = true) :=
  ⟨⟨{ onUsl { aConn with maps := [aMap] } { c := 9, st := 1 } with clock := 0 }, _, 0, 9, { aConn with maps := [aMap] }, { c := 9, st := 1 }, none, aPdu 1 [1, 2, 3, 4], aMap, rfl, (fun _ h => nomatch h), by decide +kernel, by decide +kernel, by decide +kernel, by decide +kernel, by decide +kernel, by decide +kernel, by decide +kernel, by decide +kernel, by decide +kernel, by decide +kernel, (fun _ h => nomatch h), by decide +kernel, by decide +kernel, by decide +kernel⟩,
   ⟨{ withImage { anImage with eth := { prp := false }, usl := { conns := [aConn] } } running with usl := { conns := [{ c := 9, st := 1 }] } }, _, 0, 9, aConn, { c := 9, st := 1 }, none, aPdu 1 [1, 2, 3, 4], rfl, (fun _ h => nomatch h), by decide +kernel, by decide +kernel, by decide +kernel, by decide +kernel, by decide +kernel, by decide +kernel, by decide +kernel, by decide +kernel, by decide +kernel, by decide +kernel, (fun _ h => nomatch h), by decide +kernel, by decide +kernel⟩,
   ⟨{ onUsl { aConn with reint := true } { c := 9, st := 2, good := 7 } with clock := 0 }, _, 0, 9, { aConn with reint := true }, { c := 9, st := 2, good := 7 }, none, aPdu 1 [1, 2, 3, 4], rfl, (fun _ h => nomatch h), by decide +kernel, by decide +kernel, by decide +kernel, by decide +kernel, by decide +kernel, by decide +kernel, by decide +kernel, by decide +kernel, by decide +kernel, by decide +kernel, by decide +kernel, by decide +kernel, by decide +kernel⟩,
   ⟨{ onUsl aConn { c := 9, st := 1 } with clock := 0 }, _, 0, 9, aConn, { c := 9, st := 1 }, none, [], rfl, (fun _ h => nomatch h), by decide +kernel, by decide +kernel, by decide +kernel, by decide +kernel, by decide +kernel, by decide +kernel⟩,
   ⟨{ onUsl { aConn with sink := false } { c := 9, sent := [(7, 0)] } with clock := 0 }, _, 0, 9, { aConn with sink := false }, { c := 9, sent := [(7, 0)] }, none, aPdu 2 [], 0, rfl, (fun _ h => nomatch h), by decide +kernel, by decide +kernel, by decide +kernel, by decide +kernel, by decide +kernel, by decide +kernel, by decide +kernel, by decide +kernel, by decide +kernel, by decide +kernel, by decide +kernel⟩,
   ⟨{ onUsl { aConn with maps := [aMap] } { c := 9, st := 1, wd := some 5 } with clock := 9 }, _, 0, 9, { aConn with maps := [aMap] }, { c := 9, st := 1, wd := some 5 }, 5, aMap, rfl, by decide +kernel, by decide +kernel, by decide +kernel, by decide +kernel, by decide +kernel, by decide +kernel, by decide +kernel, by decide +kernel, by decide +kernel, by decide +kernel, by decide +kernel⟩,
   ⟨{ onUsl aConn { c := 9, st := 2, wd := some 5 } with clock := 9 }, _, 0, 9, aConn, { c := 9, st := 2, wd := some 5 }, 5, rfl, by decide +kernel, by decide +kernel, by decide +kernel, by decide +kernel, by decide +kernel, by decide +kernel, by decide +kernel⟩,
   ⟨{ onUsl { aConn with sink := false, maps := [{ aMap with tx := true }] } { c := 9, st := 1, wd := some 5 } with clock := 9 }, _, 0, 9, { aConn with sink := false, maps := [{ aMap with tx := true }] }, { c := 9, st := 1, wd := some 5 }, 5, { aMap with tx := true }, rfl, by decide +kernel, by decide +kernel, by decide +kernel, by decide +kernel, by decide +kernel, by decide +kernel, by decide +kernel, by decide +kernel, by decide +kernel, by decide +kernel⟩⟩

theorem test_witness_BrakesRun :
    (∃ (s : State) (a : State) (dt : Nat) (n : Nat) (c : BrakeCfg) (x : BrakeSt) (ok : Bool), s.advance dt = a ∧ brakeCfg a.img n = some c ∧ c.ch = n ∧ a.so.chans[n]? = some x ∧ x.st = .off ∧ (a.setFsSq ok).brakeHolds c = true ∧ x.lastOff = none) ∧
    (∃ (s : State) (a : State) (dt : Nat) (n : Nat) (c : BrakeCfg) (x : BrakeSt) (ok : Bool), s.advance dt = a ∧ brakeCfg a.img n = some c ∧ c.ch = n ∧ a.so.chans[n]? = some x ∧ x.st = .on ∧ x.pulse = none ∧ x.nextAt ≠ a.clock ∧ x.endAt = none ∧ (a.setFsSq ok).brakeHolds c = false) ∧
    (∃ (s : State) (a : State) (dt : Nat) (n : Nat) (c : BrakeCfg) (x : BrakeSt), s.advance dt = a ∧ brakeCfg a.img n = some c ∧ c.ch = n ∧ a.so.chans[n]? = some x ∧ x.st = .on ∧ x.pulse = none ∧ x.nextAt ≤ a.clock) ∧
    (∃ (s : State) (a : State) (dt : Nat) (n : Nat) (c : BrakeCfg) (x : BrakeSt) (t : Nat), s.advance dt = a ∧ brakeCfg a.img n = some c ∧ c.ch = n ∧ a.so.chans[n]? = some x ∧ x.st = .on ∧ x.pulse = some t ∧ x.passed = false ∧ a.clock ≤ t + 20000 ∧ x.lowNext = false) ∧
    (∃ (s : State) (a : State) (dt : Nat) (n : Nat) (c : BrakeCfg) (x : BrakeSt) (t : Nat), s.advance dt = a ∧ brakeCfg a.img n = some c ∧ c.ch = n ∧ a.so.chans[n]? = some x ∧ x.st = .on ∧ x.pulse = some t ∧ x.passed = false ∧ t + 20000 ≤ a.clock) ∧
    (∃ (s : State) (a : State) (dt : Nat) (n : Nat) (c : BrakeCfg) (x : BrakeSt) (t : Nat), s.advance dt = a ∧ brakeCfg a.img n = some c ∧ c.ch = n ∧ a.so.chans[n]? = some x ∧ x.st = .on ∧ x.pulse = some t ∧ x.passed = true ∧ t + 400 * c.tpWidth ≤ a.clock) ∧
    (∃ (s : State) (a : State) (dt : Nat) (n : Nat) (c : BrakeCfg) (x : BrakeSt), s.advance dt = a ∧ brakeCfg a.img n = some c ∧ c.ch = n ∧ a.so.chans[n]? = some x ∧ x.st = .on ∧ min x.hsSince x.lsSince + 2 * halfPeriod c + 20000 < a.clock) ∧
    (∃ (s : State) (a : State) (dt : Nat) (n : Nat) (c : BrakeCfg) (x : BrakeSt) (k : Nat) (i : Nat) (v : Nat) (w : Nat), s.advance dt = a ∧ brakeCfg a.img n = some c ∧ c.ch = n ∧ a.so.chans[n]? = some x ∧ x.st = .on ∧ faultFits c { x with mA := min i 65535, vhs := min v 255, vls := min w 255 } k i = true) ∧
    (∃ (s : State) (a : State) (dt : Nat) (n : Nat) (c : BrakeCfg) (x : BrakeSt), s.advance dt = a ∧ brakeCfg a.img n = some c ∧ c.ch = n ∧ a.so.chans[n]? = some x ∧ x.st = .testing ∧ x.phase = 1 ∧ x.phaseAt + 8000000 ≤ a.clock) ∧
    (∃ (s : State) (a : State) (dt : Nat) (n : Nat) (c : BrakeCfg) (x : BrakeSt), s.advance dt = a ∧ brakeCfg a.img n = some c ∧ c.ch = n ∧ a.so.chans[n]? = some x ∧ x.st = .testing ∧ x.phase = 2 ∧ x.phaseAt + 8000000 ≤ a.clock) ∧
    (∃ (s : State) (a : State) (dt : Nat) (n : Nat) (c : BrakeCfg) (x : BrakeSt) (ok : Bool), s.advance dt = a ∧ brakeCfg a.img n = some c ∧ c.ch = n ∧ a.so.chans[n]? = some x ∧ x.st = .testing ∧ x.phase = 3 ∧ x.phaseAt + 40000000 * c.testHold ≤ a.clock ∧ c.torqRef = none) ∧
    (∃ (s : State) (a : State) (dt : Nat) (n : Nat) (c : BrakeCfg) (x : BrakeSt) (t : Nat), s.advance dt = a ∧ brakeCfg a.img n = some c ∧ c.ch = n ∧ a.so.chans[n]? = some x ∧ x.testAt = some t ∧ x.due = false ∧ t + 1440000000000 * c.testInterval < a.clock) ∧
    (∃ (s : State) (a : State) (dt : Nat) (n : Nat) (t : Nat) (x : Session), s.advance dt = a ∧ a.session n = some x ∧ x.unlock = some t ∧ t + 240000000000 < a.clock) ∧
    (∃ (s : State) (a : State) (dt : Nat) (t : Nat), s.advance dt = a ∧ a.so.pwdLock = some t ∧ t + 120000000000 ≤ a.clock) :=
  ⟨⟨{ onBrake { k := 0, st := .off } with clock := 0 }, _, 0, 0, aBrake 0, { k := 0, st := .off }, true, rfl, by decide +kernel, by decide +kernel, by decide +kernel, by decide +kernel, by decide +kernel, by decide +kernel⟩,
   ⟨{ onBrake { k := 0, st := .on, hs := true, ls := true } with clock := 5 }, _, 0, 0, aBrake 0, { k := 0, st := .on, hs := true, ls := true }, false, rfl, by decide +kernel, by decide +kernel, by decide +kernel, by decide +kernel, by decide +kernel, by decide +kernel, by decide +kernel, by decide +kernel⟩,
   ⟨{ onBrake { k := 0, st := .on, hs := true, ls := true } with clock := 5 }, _, 0, 0, aBrake 0, { k := 0, st := .on, hs := true, ls := true }, rfl, by decide +kernel, by decide +kernel, by decide +kernel, by decide +kernel, by decide +kernel, by decide +kernel⟩,
   ⟨{ onBrake { k := 0, st := .on, hs := true, ls := true, pulse := some 0 } with clock := 5 }, _, 0, 0, aBrake 0, { k := 0, st := .on, hs := true, ls := true, pulse := some 0 }, 0, rfl, by decide +kernel, by decide +kernel, by decide +kernel, by decide +kernel, by decide +kernel, by decide +kernel, by decide +kernel, by decide +kernel⟩,
   ⟨{ onBrake { k := 0, st := .on, hs := true, ls := true, pulse := some 0 } with clock := 20000 }, _, 0, 0, aBrake 0, { k := 0, st := .on, hs := true, ls := true, pulse := some 0 }, 0, rfl, by decide +kernel, by decide +kernel, by decide +kernel, by decide +kernel, by decide +kernel, by decide +kernel, by decide +kernel⟩,
   ⟨{ onBrake { k := 0, st := .on, hs := true, ls := true, pulse := some 0, passed := true } with clock := 50000 }, _, 0, 0, aBrake 0, { k := 0, st := .on, hs := true, ls := true, pulse := some 0, passed := true }, 0, rfl, by decide +kernel, by decide +kernel, by decide +kernel, by decide +kernel, by decide +kernel, by decide +kernel, by decide +kernel⟩,
   ⟨{ onBrake { k := 0, st := .on, hs := true, ls := true } with clock := 4000000000 }, _, 0, 0, aBrake 0, { k := 0, st := .on, hs := true, ls := true }, rfl, by decide +kernel, by decide +kernel, by decide +kernel, by decide +kernel, by decide +kernel⟩,
   ⟨{ onBrake { k := 0, st := .on, hs := true, ls := true } with clock := 5 }, _, 0, 0, aBrake 0, { k := 0, st := .on, hs := true, ls := true }, 3, 5, 20, 20, rfl, by decide +kernel, by decide +kernel, by decide +kernel, by decide +kernel, by decide +kernel⟩,
   ⟨{ onBrake { k := 0, st := .testing, phase := 1 } with clock := 8000000 }, _, 0, 0, aBrake 0, { k := 0, st := .testing, phase := 1 }, rfl, by decide +kernel, by decide +kernel, by decide +kernel, by decide +kernel, by decide +kernel, by decide +kernel⟩,
   ⟨{ onBrake { k := 0, st := .testing, phase := 2 } with clock := 8000000 }, _, 0, 0, aBrake 0, { k := 0, st := .testing, phase := 2 }, rfl, by decide +kernel, by decide +kernel, by decide +kernel, by decide +kernel, by decide +kernel, by decide +kernel⟩,
   ⟨{ onBrake { k := 0, st := .testing, phase := 3 } with clock := 4000000000 }, _, 0, 0, aBrake 0, { k := 0, st := .testing, phase := 3 }, true, rfl, by decide +kernel, by decide +kernel, by decide +kernel, by decide +kernel, by decide +kernel, by decide +kernel, by decide +kernel⟩,
   ⟨{ onBrake { k := 0, testAt := some 0 } with clock := 1440000000001 }, _, 0, 0, aBrake 0, { k := 0, testAt := some 0 }, 0, rfl, by decide +kernel, by decide +kernel, by decide +kernel, by decide +kernel, by decide +kernel, by decide +kernel⟩,
   ⟨{ ready with clock := 240000000001, sessions := [{ aSession .engineer with unlock := some 0 }] }, _, 0, 1, 0, { aSession .engineer with unlock := some 0 }, rfl, by decide +kernel, by decide +kernel, by decide +kernel⟩,
   ⟨{ ready with clock := 120000000000, so := { pwdLock := some 0 } }, _, 0, 0, rfl, by decide +kernel, by decide +kernel⟩⟩

theorem test_witness_StepRunsFront :
    (∃ (s : State) (c : Instr) (r : List Instr), s.pending = c :: r) ∧
    (∃ (s : State), s.pending = []) :=
  ⟨⟨{ State.reset with pending := [.mateClose 0] }, .mateClose 0, [], by decide +kernel⟩,
   ⟨State.reset, by decide +kernel⟩⟩

theorem test_witness_TimeAdvances :
    (∃ (s : State) (dt : Nat), s.Sound) ∧
    (∃ (s : State) (a : State) (dt : Nat), s.advance dt = a ∧ s.waiting = [] ∧ s.expiring = [] ∧ s.bus.parity = [] ∧ 0 < dt) ∧
    (∃ (s : State), s.waiting = []) ∧
    (∃ (s : State) (dt : Nat) (j : Nat), s.Sound ∧ s.waiting = [] ∧ s.expiring = [] ∧ s.bus.parity = [] ∧ 0 < dt ∧ (∀ b, (s.img.ms.doms.getD 7 {}).statBase = some b → j < b ∨ b + 4 < j)) ∧
    (∃ (s : State) (dt : Nat) (b : Nat), s.Sound ∧ s.waiting = [] ∧ s.expiring = [] ∧ s.bus.parity = [] ∧ 0 < dt ∧ (s.img.ms.doms.getD 7 {}).statBase = some b ∧ b + 4 < 65536 ∧ (s.img.ms.doms.getD 7 {}).enable = true ∧ s.mode = .active ∧ s.ms.fault = false) ∧
    (∃ (s : State) (e : Expiry), s.expiring = [e]) :=
  ⟨⟨running, 0, ⟨by decide +kernel, by decide +kernel, by decide +kernel, by decide +kernel, by decide +kernel, by decide +kernel⟩⟩,
   ⟨running, _, 1, rfl, by decide +kernel, by decide +kernel, by decide +kernel, by decide +kernel⟩,
   ⟨running, by decide +kernel⟩,
   ⟨{ withImage { anImage with ms := { doms := List.replicate 7 {} ++ [{ enable := true, zero := 4000, statBase := some 60 }] } } running with clock := 7 }, 1, 59, ⟨by decide +kernel, by decide +kernel, by decide +kernel, by decide +kernel, by decide +kernel, by decide +kernel⟩, by decide +kernel, by decide +kernel, by decide +kernel, by decide +kernel, (by intro b h; cases h; decide)⟩,
   ⟨{ withImage { anImage with ms := { doms := List.replicate 7 {} ++ [{ enable := true, zero := 4000, statBase := some 60 }] } } running with clock := 7 }, 1, 60, ⟨by decide +kernel, by decide +kernel, by decide +kernel, by decide +kernel, by decide +kernel, by decide +kernel⟩, by decide +kernel, by decide +kernel, by decide +kernel, by decide +kernel, by decide +kernel, by decide +kernel, by decide +kernel, by decide +kernel, by decide +kernel⟩,
   ⟨{ running with expiring := [.windowEnd] }, .windowEnd, by decide +kernel⟩⟩

theorem test_witness_EveryStepKeepsSound :
    ∃ (s : State) (t : State), s.Sound ∧ step s = .next t :=
  ⟨State.reset, _, ⟨by decide +kernel, by decide +kernel, by decide +kernel, by decide +kernel, by decide +kernel, by decide +kernel⟩, rfl⟩

theorem test_witness_EveryCommandCompletes :
    ∃ (c : Instr) (s : State), s.Sound :=
  ⟨.mateClose 0, State.reset, ⟨by decide +kernel, by decide +kernel, by decide +kernel, by decide +kernel, by decide +kernel, by decide +kernel⟩⟩

theorem test_witness_FloorNeverFalls :
    ∃ (c : Instr) (s : State) (t : State), s.Sound ∧ (∀ dt sid req p, c ≠ .ownerRelease dt sid req p) ∧ (∀ dt sid req p, c ≠ .unknownCmd dt sid req 0x11 p) ∧ (∀ r ∈ s.waiting, r.cmd ≠ 0x11) ∧ exec c s = .next t :=
  ⟨.mateClose 0, State.reset, _, ⟨by decide +kernel, by decide +kernel, by decide +kernel, by decide +kernel, by decide +kernel, by decide +kernel⟩, (by intro _ _ _ _ h; cases h), (by intro _ _ _ _ h; cases h), by decide +kernel, rfl⟩

theorem test_witness_ProcessImage :
    (∃ (s : State) (i : Nat) (j : Nat) (v : W32) (q : Byte), SlotMap.wf s.slots = true ∧ i < 65536) ∧
    (∃ (s : State) (i : Nat) (v : W32) (q : Byte) (c : Cell), SlotMap.wf s.slots = true ∧ i < 65536 ∧ (i, c) ∈ s.forces ∧ ascending s.forces = true) ∧
    (∃ (s : State) (i : Nat), (∀ c, (i, c) ∉ s.forces)) ∧
    (∃ (m : SlotMap) (n : SlotMap), SlotMap.wf m = true ∧ SlotMap.wf n = true ∧ (∀ i, SlotMap.get m i = SlotMap.get n i)) :=
  ⟨⟨State.reset, 5, 6, 7, 3, by decide +kernel, by decide +kernel⟩,
   ⟨{ ready with forces := [(10, 7, 0x43)] }, 10, 7, 3, (7, 0x43), by decide +kernel, by decide +kernel, by decide +kernel, by decide +kernel⟩,
   ⟨ready, 5, (fun _ h => nomatch h)⟩,
   ⟨[(5, 1, 3)], [(5, 1, 3)], by decide +kernel, by decide +kernel, fun _ => rfl⟩⟩

theorem test_witness_PrivilegedWrites :
    (∃ (s : State) (r : RegRow) (ad : Nat) (k : Nat), k &&& r.prv ≠ 0) ∧
    (∃ (s : State) (sid : Nat) (r : RegRow) (ad : Nat) (k : Nat), k &&& r.prv ≠ 0 ∧ (k &&& s.tgFields r ad = 0 ∨ (s.win (.host sid)).gateOpen s.clock = true)) :=
  ⟨⟨ready, { id := .sysScratch, base := 0, func := 0, prv := 1 }, 0, 1, by decide +kernel⟩,
   ⟨ready, 1, { id := .sysScratch, base := 0, func := 0, prv := 1 }, 0, 1, by decide +kernel, by decide +kernel⟩⟩

theorem test_witness_FirstBadAccessHeld :
    (∃ (s : State) (m : Master) (c : Nat) (ad : Nat) (v : Nat), s.bus.accFlags = 0) ∧
    (∃ (s : State) (m : Master) (c : Nat) (ad : Nat) (v : Nat), s.bus.accFlags ≠ 0) :=
  ⟨⟨ready, .seq, 0x21, 4, 0, by decide +kernel⟩,
   ⟨{ ready with bus := { accFlags := 1 } }, .seq, 0x21, 4, 0, by decide +kernel⟩⟩

theorem test_witness_OwnerMismatchOnlyWarns :
    (∃ (s : State) (a : State) (dt : Nat), s.advance dt = a ∧ a.operating = true ∧ a.mode = .standby ∧ a.pstate = 2) ∧
    (∃ (s : State) (a : State) (dt : Nat), s.advance dt = a ∧ a.operating = true ∧ a.mode = .active ∧ a.pair.drive = true) :=
  ⟨⟨pairStandby, _, 0, rfl, by decide +kernel, by decide +kernel, by decide +kernel⟩,
   ⟨running, _, 0, rfl, by decide +kernel, by decide +kernel, by decide +kernel⟩⟩

theorem test_witness_PassThroughQueues :
    (∃ (s : State) (a : State) (dt : Nat) (sid : Nat) (req : Nat) (p : List Byte) (x : Session) (y : ModemSt), s.advance dt = a ∧ a.Asks sid req x ∧ a.roleOk .engineer false x = true ∧ 4 ≤ p.length ∧ p.length ≤ 255 ∧ getN p 0 1 ≤ 1 ∧ getN p 2 1 ≤ 63 ∧ a.committed = true ∧ hartGiven a.img (getN p 0 1) (getN p 1 1) = true ∧ a.modem (modemOf (getN p 0 1 = 1) (getN p 1 1)) = some y ∧ y.queued = none) ∧
    (∃ (s : State) (a : State) (dt : Nat) (sid : Nat) (req : Nat) (p : List Byte) (x : Session) (y : ModemSt) (z : HartReq), s.advance dt = a ∧ a.Asks sid req x ∧ a.roleOk .engineer false x = true ∧ 4 ≤ p.length ∧ p.length ≤ 255 ∧ getN p 0 1 ≤ 1 ∧ getN p 2 1 ≤ 63 ∧ a.committed = true ∧ hartGiven a.img (getN p 0 1) (getN p 1 1) = true ∧ a.modem (modemOf (getN p 0 1 = 1) (getN p 1 1)) = some y ∧ y.queued = some z) ∧
    (∃ (s : State) (a : State) (dt : Nat) (m : Modem) (y : ModemSt) (z : HartReq), s.advance dt = a ∧ a.modem m = some y ∧ a.fieldRuns = true ∧ y.run = none ∧ y.queued = some z) :=
  ⟨⟨withSession .engineer { ready with fld := { ready.fld with modems := [{ modem := .ai 5 }] } }, _, 0, 1, 1, [0, 5, 63, 255], aSession .engineer, { modem := .ai 5 }, rfl, ⟨by decide +kernel, by decide +kernel, by decide +kernel, by decide +kernel, by decide +kernel⟩, by decide +kernel, by decide +kernel, by decide +kernel, by decide +kernel, by decide +kernel, by decide +kernel, by decide +kernel, by decide +kernel, by decide +kernel⟩,
   ⟨withSession .engineer { ready with fld := { ready.fld with modems := [{ modem := .ai 5, queued := some { sid := 1, req := 1, ch := 5, addr := 0, cmd := 0, data := [] } }] } }, _, 0, 1, 1, [0, 5, 63, 255], aSession .engineer, { modem := .ai 5, queued := some { sid := 1, req := 1, ch := 5, addr := 0, cmd := 0, data := [] } }, { sid := 1, req := 1, ch := 5, addr := 0, cmd := 0, data := [] }, rfl, ⟨by decide +kernel, by decide +kernel, by decide +kernel, by decide +kernel, by decide +kernel⟩, by decide +kernel, by decide +kernel, by decide +kernel, by decide +kernel, by decide +kernel, by decide +kernel, by decide +kernel, by decide +kernel, by decide +kernel⟩,
   ⟨{ ready with fld := { ready.fld with modems := [{ modem := .ai 5, queued := some { sid := 1, req := 1, ch := 5, addr := 0, cmd := 0, data := [] } }] } }, _, 0, .ai 5, { modem := .ai 5, queued := some { sid := 1, req := 1, ch := 5, addr := 0, cmd := 0, data := [] } }, { sid := 1, req := 1, ch := 5, addr := 0, cmd := 0, data := [] }, rfl, by decide +kernel, by decide +kernel, by decide +kernel, by decide +kernel⟩⟩

theorem test_witness_LoopAndSolverFrames :
    ∃ (s : State) (dt : Nat), (s.advance dt).Sound :=
  ⟨running, 0, ⟨by decide +kernel, by decide +kernel, by decide +kernel, by decide +kernel, by decide +kernel, by decide +kernel⟩⟩

theorem test_witness_FieldFrames :
    ∃ (s : State) (dt : Nat), (s.advance dt).Sound :=
  ⟨running, 0, ⟨by decide +kernel, by decide +kernel, by decide +kernel, by decide +kernel, by decide +kernel, by decide +kernel⟩⟩

theorem test_witness_NetworkFrames :
    (∃ (s : State) (dt : Nat) (n : Nat), (s.advance dt).Sound ∧ n < 4) ∧
    (∃ (s : State) (dt : Nat), (s.advance dt).Sound) :=
  ⟨⟨running, 0, 3, ⟨by decide +kernel, by decide +kernel, by decide +kernel, by decide +kernel, by decide +kernel, by decide +kernel⟩, by decide +kernel⟩,
   ⟨running, 0, ⟨by decide +kernel, by decide +kernel, by decide +kernel, by decide +kernel, by decide +kernel, by decide +kernel⟩⟩⟩

end Sys2Proof.Tests
end

section
/-! PROOFS. The process image: what a slot reads after a write, with and without a force (R11, R31, R40). -/

namespace Sys2Proof.Machine

variable {α : Type}

/-! ### Keyed lists: a key's first entry, and what it says of the list's members -/

/-- Searching an association list for a key finds what looking it up finds. -/
theorem find?_key_elim (d : α) (k : Nat) (xs : List (Nat × α)) :
    (xs.find? fun p => p.1 = k).elim d (·.2) = lookupD d k xs := by
  induction xs with
  | nil => rfl
  | cons x r ih =>
    by_cases h : x.1 = k
    · simp [lookupD, h]
    · simp [lookupD, h, Ne.symm h, ih]

/-- In an ascending list each listed key has one entry, and looking the key up finds it. -/
theorem lookupD_of_mem {d v : α} {k : Nat} {xs : List (Nat × α)} (ha : ascending xs = true) (h : (k, v) ∈ xs) :
    lookupD d k xs = v := by
  rw [ascending_iff] at ha
  induction xs with
  | nil => simp at h
  | cons x r ih =>
    rw [List.pairwise_cons] at ha
    rcases List.mem_cons.mp h with rfl | h
    · simp [lookupD]
    · have hk : x.1 < k := ha.1 _ h
      simp [lookupD, Nat.ne_of_gt hk, ih ha.2 h]

theorem mem_of_lookupD_ne {d : α} {k : Nat} {xs : List (Nat × α)} (h : lookupD d k xs ≠ d) :
    (k, lookupD d k xs) ∈ xs := by
  induction xs with
  | nil => exact absurd rfl h
  | cons x r ih =>
    by_cases hk : k = x.1
    · simp [lookupD, hk]
    · simp only [lookupD, if_neg hk] at h ⊢
      exact List.mem_cons_of_mem _ (ih h)

theorem lookupD_of_not_mem {d : α} {k : Nat} {xs : List (Nat × α)} (h : ∀ v, (k, v) ∉ xs) : lookupD d k xs = d :=
  Classical.byContradiction fun hd => h _ (mem_of_lookupD_ne hd)

/-- The canonical form lists exactly the slots that do not read as (0, 00h). -/
theorem SlotMap.mem_iff {m : SlotMap} (h : SlotMap.wf m = true) (i : Nat) (c : Cell) :
    (i, c) ∈ m ↔ SlotMap.get m i = c ∧ c ≠ (0, 0) := by
  obtain ⟨ha, hm⟩ := (SlotMap.wf_iff m).mp h
  constructor
  · exact fun hc => ⟨lookupD_of_mem ha hc, (hm _ hc).1⟩
  · rintro ⟨rfl, hc⟩
    exact mem_of_lookupD_ne hc

/-- Canonical process images that read alike are equal (R31). -/
theorem SlotMap.ext_get {m n : SlotMap} (hm : SlotMap.wf m = true) (hn : SlotMap.wf n = true)
    (h : ∀ i, SlotMap.get m i = SlotMap.get n i) : m = n := by
  have ham := (ascending_iff m).mp ((SlotMap.wf_iff m).mp hm).1
  have han := (ascending_iff n).mp ((SlotMap.wf_iff n).mp hn).1
  have irrefl : Std.Irrefl fun a b : Nat × Cell => a.1 < b.1 := ⟨fun a => Nat.lt_irrefl a.1⟩
  have antisymm : Std.Antisymm fun a b : Nat × Cell => a.1 < b.1 := ⟨fun _ _ hab hba => absurd hab (Nat.lt_asymm hba)⟩
  refine List.Pairwise.eq_of_mem_iff ham han fun ⟨i, c⟩ => ?_
  rw [SlotMap.mem_iff hm, SlotMap.mem_iff hn, h]

/-! ### Writes and reads of a slot -/

section
variable {s : State}

/-- A write keeps the canonical form, whatever slot it names. -/
theorem State.writeSlot_wf (h : SlotMap.wf s.slots = true) (i : Nat) (v : W32) (q : Byte) :
    SlotMap.wf (s.writeSlot i v q).slots = true := by
  unfold State.writeSlot
  split
  · exact SlotMap.wf_set _ ‹_› h
  · exact h

/-- After a write the slot holds the value and quality written, every other slot what it held. -/
theorem State.ownSlot_writeSlot (h : SlotMap.wf s.slots = true) {i : Nat} (hi : i < 65536) (j : Nat) (v : W32) (q : Byte) :
    (s.writeSlot i v q).ownSlot j = if j = i then (v, q) else s.ownSlot j := by
  unfold State.writeSlot State.ownSlot
  rw [if_pos hi]
  exact SlotMap.get_set _ h

theorem State.ownSlot_writeSlot_self (h : SlotMap.wf s.slots = true) {i : Nat} (hi : i < 65536) (v : W32) (q : Byte) :
    (s.writeSlot i v q).ownSlot i = (v, q) := by
  rw [State.ownSlot_writeSlot h hi, if_pos rfl]

/-- A write leaves every other slot, in range or not. -/
theorem State.ownSlot_writeSlot_of_ne (h : SlotMap.wf s.slots = true) {i j : Nat} (hj : j ≠ i) (v : W32) (q : Byte) :
    (s.writeSlot i v q).ownSlot j = s.ownSlot j := by
  by_cases hi : i < 65536
  · rw [State.ownSlot_writeSlot h hi, if_neg hj]
  · unfold State.writeSlot
    rw [if_neg hi]

/-- Readers look a slot up among the forces first, and read the writer's value where it is not forced (R40). -/
theorem State.readSlot_eq (s : State) (i : Nat) : s.readSlot i = lookupD (s.ownSlot i) i s.forces :=
  find?_key_elim _ _ _

end

/-- Settles O51: the laws of a write, of a read through the forces, and the canonical image's extensionality. -/
theorem processImage : Obligations.ProcessImage := by
  unfold Obligations.ProcessImage
  refine ⟨fun s i j v q h hi => ⟨State.ownSlot_writeSlot h hi j v q, State.writeSlot_wf h i v q, by simp, by simp, by simp⟩,
    fun s i v q c h hi hf ha => ⟨?forced, State.ownSlot_writeSlot_self h hi v q⟩, fun s i hf => ?free,
    fun _ _ hm hn h => SlotMap.ext_get hm hn h⟩
  case forced => rw [State.readSlot_eq, State.writeSlot_forces, lookupD_of_mem ha hf]
  case free => rw [State.readSlot_eq, lookupD_of_not_mem hf]

end Sys2Proof.Machine
end

section
/-! PROOFS. Every command is carried out: it answers a next state that keeps the bounds, with its own ticks added to the
clock (R16, R49). -/

namespace Sys2Proof

/-- The commands that may run OWNER_RELEASE (command code 11h), the one that may lower a sequence floor (R101). -/
def Instr.mayRelease : Instr → Bool
  | .ownerRelease .. => true
  | .unknownCmd _ _ _ cmd _ => cmd == 0x11
  | _ => false

end Sys2Proof

namespace Sys2Proof.Machine

variable {q : Bounds} {s : State}

/-- Whatever the command, exec answers a next state that keeps the bounds, some ticks later; a command that may release the
module needs bounds that let it. -/
theorem exec_holds (h : Holds q s) (c : Instr) (hc : q.release = true ∨ c.mayRelease = false) :
    ∃ dt t, exec c s = .next t ∧ Holds { q with clock := q.clock + dt } t :=
  match c with
  | .mateClose .. => ⟨_, execMateClose_holds h _⟩
  | .presenceAccepted .. => ⟨_, execPresenceAccepted_holds h _⟩
  | .porRelease .. => ⟨_, execPorRelease_holds h _ _ _ _⟩
  | .lampTestEnd .. => ⟨_, execLampTestEnd_holds h _⟩
  | .firmwareVerified .. => ⟨_, execFirmwareVerified_holds h _ _⟩
  | .selftestComplete .. => ⟨_, execSelftestComplete_holds h _ _ _⟩
  | .copySelection .. => ⟨_, execCopySelection_holds h _⟩
  | .startupEnd .. => ⟨_, execStartupEnd_holds h _⟩
  | .feedLost .. => ⟨_, execFeedLost_holds h _ _⟩
  | .powerFail .. => ⟨_, execPowerFail_holds h _ _⟩
  | .powerFailReset .. => ⟨_, execPowerFailReset_holds h _⟩
  | .backupBrownout .. => ⟨_, execBackupBrownout_holds h _⟩
  | .keyAccept .. => ⟨_, execKeyAccept_holds h _ _ _⟩
  | .keyFault .. => ⟨_, execKeyFault_holds h _ _⟩
  | .ejectButton .. => ⟨_, execEjectButton_holds h _ _⟩
  | .ejectPrepared .. => ⟨_, execEjectPrepared_holds h _⟩
  | .ejectTimeout .. => ⟨_, execEjectTimeout_holds h _⟩
  | .loadTimeout .. => ⟨_, execLoadTimeout_holds h _⟩
  | .adoptTransferComplete .. => ⟨_, execAdoptTransferComplete_holds h _⟩
  | .commitMarkDone .. => ⟨_, execCommitMarkDone_holds h _⟩
  | .duplicationComplete .. => ⟨_, execDuplicationComplete_holds h _⟩
  | .registerWrite .. => ⟨_, execRegisterWrite_holds h _ _ _ _ _⟩
  | .reg64LowRead .. => ⟨_, execReg64LowRead_holds h _ _ _⟩
  | .reg64LowWrite .. => ⟨_, execReg64LowWrite_holds h _ _ _ _⟩
  | .reg64HighWrite .. => ⟨_, execReg64HighWrite_holds h _ _ _ _⟩
  | .tollgateWrite .. => ⟨_, execTollgateWrite_holds h _ _ _⟩
  | .tollgateExpire .. => ⟨_, execTollgateExpire_holds h _ _⟩
  | .tollgateLockoutEnd .. => ⟨_, execTollgateLockoutEnd_holds h _ _⟩
  | .accerrClrcnt .. => ⟨_, execAccerrClrcnt_holds h _ _ _⟩
  | .cfgParityFail .. => ⟨_, execCfgParityFail_holds h _ _⟩
  | .harvest .. => ⟨_, execHarvest_holds h _⟩
  | .evaluationBegin .. => ⟨_, execEvaluationBegin_holds h _⟩
  | .blockEvaluate .. => ⟨_, execBlockEvaluate_holds h _ _⟩
  | .windowEnd .. => ⟨_, execWindowEnd_holds h _⟩
  | .deliver .. => ⟨_, execDeliver_holds h _ _⟩
  | .checkpointDeferEnd .. => ⟨_, execCheckpointDeferEnd_holds h _⟩
  | .barnSaveDone .. => ⟨_, execBarnSaveDone_holds h _⟩
  | .mirrorSnapshot .. => ⟨_, execMirrorSnapshot_holds h _⟩
  | .syncSend .. => ⟨_, execSyncSend_holds h _ _⟩
  | .olcPrepared .. => ⟨_, execOlcPrepared_holds h _⟩
  | .olcDrainLimit .. => ⟨_, execOlcDrainLimit_holds h _⟩
  | .olcPrepareTimeout .. => ⟨_, execOlcPrepareTimeout_holds h _⟩
  | .toothEdge .. => ⟨_, execToothEdge_holds h _ _ _ _⟩
  | .camMarkerEdge .. => ⟨_, execCamMarkerEdge_holds h _ _⟩
  | .quadRefEdge .. => ⟨_, execQuadRefEdge_holds h _ _⟩
  | .bvPhaseUpdate .. => ⟨_, execBvPhaseUpdate_holds h _ _ _ _ _ _ _⟩
  | .domainTimeout .. => ⟨_, execDomainTimeout_holds h _ _⟩
  | .dirRefChange .. => ⟨_, execDirRefChange_holds h _ _⟩
  | .milestoneFire .. => ⟨_, execMilestoneFire_holds h _ _⟩
  | .pulseEnd .. => ⟨_, execPulseEnd_holds h _ _⟩
  | .syncCloseFeedback .. => ⟨_, execSyncCloseFeedback_holds h _ _⟩
  | .syncNoFeedback .. => ⟨_, execSyncNoFeedback_holds h _ _⟩
  | .trackerCompare .. => ⟨_, execTrackerCompare_holds h _ _⟩
  | .loopTimeTrigger .. => ⟨_, execLoopTimeTrigger_holds h _ _⟩
  | .loopSampleBegin .. => ⟨_, execLoopSampleBegin_holds h _⟩
  | .loopSampleCommit .. => ⟨_, execLoopSampleCommit_holds h _ _⟩
  | .loopSampleMissed .. => ⟨_, execLoopSampleMissed_holds h _ _⟩
  | .assemblyBegin .. => ⟨_, execAssemblyBegin_holds h _⟩
  | .assemblyEnd .. => ⟨_, execAssemblyEnd_holds h _⟩
  | .solveBegin .. => ⟨_, execSolveBegin_holds h _⟩
  | .solveHandover .. => ⟨_, execSolveHandover_holds h _ _⟩
  | .residualCheck .. => ⟨_, execResidualCheck_holds h _⟩
  | .aiScan .. => ⟨_, execAiScan_holds h _ _ _⟩
  | .aiSampleCommit .. => ⟨_, execAiSampleCommit_holds h _ _ _ _⟩
  | .aiRefCheck .. => ⟨_, execAiRefCheck_holds h _ _ _⟩
  | .hartTransactionStart .. => ⟨_, execHartTransactionStart_holds h _ _⟩
  | .hartResponse .. => ⟨_, execHartResponse_holds h _ _ _ _ _ _⟩
  | .hartAttemptTimeout .. => ⟨_, execHartAttemptTimeout_holds h _ _⟩
  | .hartStale .. => ⟨_, execHartStale_holds h _ _⟩
  | .aoFrame .. => ⟨_, execAoFrame_holds h _ _⟩
  | .aoFrameTimeout .. => ⟨_, execAoFrameTimeout_holds h _ _⟩
  | .aoHoldExpire .. => ⟨_, execAoHoldExpire_holds h _ _⟩
  | .aoLoopPower .. => ⟨_, execAoLoopPower_holds h _ _⟩
  | .aoMeasure .. => ⟨_, execAoMeasure_holds h _ _ _ _ _⟩
  | .aoCompliance .. => ⟨_, execAoCompliance_holds h _ _ _ _⟩
  | .aoComplianceClear .. => ⟨_, execAoComplianceClear_holds h _ _⟩
  | .aoDeviation .. => ⟨_, execAoDeviation_holds h _ _⟩
  | .aoClockStep .. => ⟨_, execAoClockStep_holds h _ _ _⟩
  | .aoTestWorkDone .. => ⟨_, execAoTestWorkDone_holds h _ _ _⟩
  | .aoTest .. => ⟨_, execAoTest_holds h _ _ _⟩
  | .dioInputAccept .. => ⟨_, execDioInputAccept_holds h _ _ _ _⟩
  | .dioSupplyLoss .. => ⟨_, execDioSupplyLoss_holds h _ _⟩
  | .dioOverload .. => ⟨_, execDioOverload_holds h _ _⟩
  | .dioMismatch .. => ⟨_, execDioMismatch_holds h _ _⟩
  | .dioOpenload .. => ⟨_, execDioOpenload_holds h _ _⟩
  | .canIntegrated .. => ⟨_, execCanIntegrated_holds h _ _⟩
  | .canArbitration .. => ⟨_, execCanArbitration_holds h _ _⟩
  | .canTxAttemptEnd .. => ⟨_, execCanTxAttemptEnd_holds h _ _ _ _ _⟩
  | .canBusoffRecovered .. => ⟨_, execCanBusoffRecovered_holds h _ _⟩
  | .canFrameReceived .. => ⟨_, execCanFrameReceived_holds h _ _ _⟩
  | .canRioInputFrame .. => ⟨_, execCanRioInputFrame_holds h _ _ _⟩
  | .canRioSyncReceived .. => ⟨_, execCanRioSyncReceived_holds h _ _ _⟩
  | .canRioOutputReceived .. => ⟨_, execCanRioOutputReceived_holds h _ _ _⟩
  | .stationSyncTimeout .. => ⟨_, execStationSyncTimeout_holds h _ _⟩
  | .stationHoldExpire .. => ⟨_, execStationHoldExpire_holds h _ _⟩
  | .canRxPop .. => ⟨_, execCanRxPop_holds h _ _ _ _⟩
  | .canTxReq .. => ⟨_, execCanTxReq_holds h _ _ _⟩
  | .canTxCancel .. => ⟨_, execCanTxCancel_holds h _ _ _⟩
  | .canCntClr .. => ⟨_, execCanCntClr_holds h _ _ _⟩
  | .canCnt2Clr .. => ⟨_, execCanCnt2Clr_holds h _ _ _⟩
  | .ethLinkChange .. => ⟨_, execEthLinkChange_holds h _ _ _⟩
  | .prpSupervisionSend .. => ⟨_, execPrpSupervisionSend_holds h _⟩
  | .ethRioInputFrame .. => ⟨_, execEthRioInputFrame_holds h _ _ _ _⟩
  | .ethRioSyncReceived .. => ⟨_, execEthRioSyncReceived_holds h _ _ _ _⟩
  | .ethRioOutputReceived .. => ⟨_, execEthRioOutputReceived_holds h _ _ _ _⟩
  | .ethStopReceived .. => ⟨_, execEthStopReceived_holds h _ _ _ _⟩
  | .ethRioClr .. => ⟨_, execEthRioClr_holds h _ _⟩
  | .ptpOffsetMeasured .. => ⟨_, execPtpOffsetMeasured_holds h _ _ _ _⟩
  | .ptpAnnounceTimeout .. => ⟨_, execPtpAnnounceTimeout_holds h _ _⟩
  | .rtcDiscipline .. => ⟨_, execRtcDiscipline_holds h _ _⟩
  | .rtcWrite .. => ⟨_, execRtcWrite_holds h _⟩
  | .smpHandshake .. => ⟨_, execSmpHandshake_holds h _ _ _ _ _ _ _ _ _⟩
  | .sessionIdleTimeout .. => ⟨_, execSessionIdleTimeout_holds h _ _⟩
  | .dtlsClose .. => ⟨_, execDtlsClose_holds h _ _⟩
  | .unknownCmd .. => ⟨_, execUnknownCmd_holds h _ _ _ _ _ (hc.imp_right (by simp [Instr.mayRelease]))⟩
  | .identChallenge .. => ⟨_, execIdentChallenge_holds h _ _ _ _⟩
  | .statusRead .. => ⟨_, execStatusRead_holds h _ _ _ _⟩
  | .logRead .. => ⟨_, execLogRead_holds h _ _ _ _⟩
  | .regRead .. => ⟨_, execRegRead_holds h _ _ _ _⟩
  | .regWrite .. => ⟨_, execRegWrite_holds h _ _ _ _⟩
  | .slotRead .. => ⟨_, execSlotRead_holds h _ _ _ _⟩
  | .logAck .. => ⟨_, execLogAck_holds h _ _ _ _⟩
  | .logClear .. => ⟨_, execLogClear_holds h _ _ _ _⟩
  | .logCleared .. => ⟨_, execLogCleared_holds h _⟩
  | .ownerEnrol .. => ⟨_, execOwnerEnrol_holds h _ _ _ _⟩
  | .ownerRelease .. => ⟨_, execOwnerRelease_holds (hc.resolve_right (by simp [Instr.mayRelease])) h _ _ _ _⟩
  | .imageLoadBegin .. => ⟨_, execImageLoadBegin_holds h _ _ _ _⟩
  | .imageData .. => ⟨_, execImageData_holds h _ _ _ _⟩
  | .imageLoadEnd .. => ⟨_, execImageLoadEnd_holds h _ _ _ _⟩
  | .imageVerify .. => ⟨_, execImageVerify_holds h _ _ _ _⟩
  | .imageAbort .. => ⟨_, execImageAbort_holds h _ _ _ _⟩
  | .imageAdopt .. => ⟨_, execImageAdopt_holds h _ _ _ _ _ _ _⟩
  | .imageCommit .. => ⟨_, execImageCommit_holds h _ _ _ _⟩
  | .olcPrepare .. => ⟨_, execOlcPrepare_holds h _ _ _ _⟩
  | .olcSwitch .. => ⟨_, execOlcSwitch_holds h _ _ _ _⟩
  | .olcAbort .. => ⟨_, execOlcAbort_holds h _ _ _ _⟩
  | .forceSet .. => ⟨_, execForceSet_holds h _ _ _ _⟩
  | .forceRelease .. => ⟨_, execForceRelease_holds h _ _ _ _⟩
  | .barnCheckpoint .. => ⟨_, execBarnCheckpoint_holds h _ _ _ _⟩
  | .safeEnter .. => ⟨_, execSafeEnter_holds h _ _ _ _⟩
  | .safeClear .. => ⟨_, execSafeClear_holds h _ _ _ _⟩
  | .eject .. => ⟨_, execEject_holds h _ _ _ _⟩
  | .timeSet .. => ⟨_, execTimeSet_holds h _ _ _ _⟩
  | .hartPass .. => ⟨_, execHartPass_holds h _ _ _ _⟩
  | .uslAck .. => ⟨_, execUslAck_holds h _ _ _ _⟩
  | .pairHandover .. => ⟨_, execPairHandover_holds h _ _ _ _⟩
  | .pairSwaptest .. => ⟨_, execPairSwaptest_holds h _ _ _ _⟩
  | .pairClear .. => ⟨_, execPairClear_holds h _ _ _ _⟩
  | .pairSolo .. => ⟨_, execPairSolo_holds h _ _ _ _⟩
  | .brakeTest .. => ⟨_, execBrakeTest_holds h _ _ _ _⟩
  | .safetyUnlock .. => ⟨_, execSafetyUnlock_holds h _ _ _ _⟩
  | .soClear .. => ⟨_, execSoClear_holds h _ _ _ _ _⟩
  | .uslDataReceived .. => ⟨_, execUslDataReceived_holds h _ _ _ _⟩
  | .uslAckReceived .. => ⟨_, execUslAckReceived_holds h _ _ _ _⟩
  | .uslWatchdogExpire .. => ⟨_, execUslWatchdogExpire_holds h _ _⟩
  | .uslAckTimeout .. => ⟨_, execUslAckTimeout_holds h _ _⟩
  | .uslCctlAck .. => ⟨_, execUslCctlAck_holds h _ _ _⟩
  | .uslCcntClr .. => ⟨_, execUslCcntClr_holds h _ _ _⟩
  | .brakeOn .. => ⟨_, execBrakeOn_holds h _ _ _⟩
  | .brakeDemand .. => ⟨_, execBrakeDemand_holds h _ _ _⟩
  | .testPulseStart .. => ⟨_, execTestPulseStart_holds h _ _⟩
  | .testPulseCheck .. => ⟨_, execTestPulseCheck_holds h _ _ _⟩
  | .testPulseEnd .. => ⟨_, execTestPulseEnd_holds h _ _⟩
  | .testPulseOverdue .. => ⟨_, execTestPulseOverdue_holds h _ _⟩
  | .brakeChannelFault .. => ⟨_, execBrakeChannelFault_holds h _ _ _ _ _ _⟩
  | .brakeTestPhaseEnd .. => ⟨_, execBrakeTestPhaseEnd_holds h _ _ _⟩
  | .testDue .. => ⟨_, execTestDue_holds h _ _⟩
  | .safetyUnlockExpire .. => ⟨_, execSafetyUnlockExpire_holds h _ _⟩
  | .safetyPwdLockoutEnd .. => ⟨_, execSafetyPwdLockoutEnd_holds h _⟩
  | .soBcntClr .. => ⟨_, execSoBcntClr_holds h _ _ _⟩
  | .soLogIdx .. => ⟨_, execSoLogIdx_holds h _ _ _⟩
  | .helloSend .. => ⟨_, execHelloSend_holds h _⟩
  | .helloReceived .. => ⟨_, execHelloReceived_holds h _ _ _⟩
  | .laneDown .. => ⟨_, execLaneDown_holds h _ _⟩
  | .partnerSilent .. => ⟨_, execPartnerSilent_holds h _⟩
  | .pairFormed .. => ⟨_, execPairFormed_holds h _⟩
  | .pairSelfElect .. => ⟨_, execPairSelfElect_holds h _⟩
  | .singleActivate .. => ⟨_, execSingleActivate_holds h _⟩
  | .mirrorFrameReceived .. => ⟨_, execMirrorFrameReceived_holds h _ _ _⟩
  | .shadowSend .. => ⟨_, execShadowSend_holds h _⟩
  | .shadowReceived .. => ⟨_, execShadowReceived_holds h _ _ _ _⟩
  | .offerNotice .. => ⟨_, execOfferNotice_holds h _ _ _ _⟩
  | .acceptNotice .. => ⟨_, execAcceptNotice_holds h _ _⟩
  | .declineNotice .. => ⟨_, execDeclineNotice_holds h _ _⟩
  | .relinquishNotice .. => ⟨_, execRelinquishNotice_holds h _ _ _⟩
  | .switchNotice .. => ⟨_, execSwitchNotice_holds h _ _ _⟩
  | .safeNotice .. => ⟨_, execSafeNotice_holds h _ _⟩
  | .imgreq .. => ⟨_, execImgreq_holds h _ _⟩
  | .imgdata .. => ⟨_, execImgdata_holds h _ _ _ _⟩
  | .roundStart .. => ⟨_, execRoundStart_holds h _⟩
  | .statusSend .. => ⟨_, execStatusSend_holds h _⟩
  | .statusReceived .. => ⟨_, execStatusReceived_holds h _ _ _⟩
  | .roundReceived .. => ⟨_, execRoundReceived_holds h _ _⟩
  | .refereeAbsent .. => ⟨_, execRefereeAbsent_holds h _⟩
  | .takeover .. => ⟨_, execTakeover_holds h _⟩
  | .ownerStuck .. => ⟨_, execOwnerStuck_holds h _⟩
  | .ownerMismatch .. => ⟨_, execOwnerMismatch_holds h _⟩
  | .handoverTx .. => ⟨_, execHandoverTx_holds h _⟩
  | .revertStart .. => ⟨_, execRevertStart_holds h _⟩
  | .swapTestStart .. => ⟨_, execSwapTestStart_holds h _⟩
  | .swapDwellEnd .. => ⟨_, execSwapDwellEnd_holds h _⟩
  | .pairMcntClr .. => ⟨_, execPairMcntClr_holds h _ _⟩
  | .clockCheck .. => ⟨_, execClockCheck_holds h _ _ _⟩
  | .mgmtWatchdogExpire .. => ⟨_, execMgmtWatchdogExpire_holds h _⟩
  | .safetySelftest .. => ⟨_, execSafetySelftest_holds h _ _⟩
  | .signatureCompare .. => ⟨_, execSignatureCompare_holds h _ _⟩
  | .checkerTest .. => ⟨_, execCheckerTest_holds h _ _⟩
  | .scrubWord .. => ⟨_, execScrubWord_holds h _ _ _ _ _⟩
  | .functionRung .. => ⟨_, execFunctionRung_holds h _ _ _⟩
  | .moduleRung .. => ⟨_, execModuleRung_holds h _⟩
  | .resetRelease .. => ⟨_, execResetRelease_holds h _ _ _ _⟩
  | .pcycIgnored .. => ⟨_, execPcycIgnored_holds h _⟩
  | .ladderWindowExpire .. => ⟨_, execLadderWindowExpire_holds h _ _ _⟩
  | .diagRecoverUnit .. => ⟨_, execDiagRecoverUnit_holds h _ _ _ _⟩
  | .diagRecoverModule .. => ⟨_, execDiagRecoverModule_holds h _ _⟩
  | .diagFcntClr .. => ⟨_, execDiagFcntClr_holds h _ _ _⟩
  | .diagMemClr .. => ⟨_, execDiagMemClr_holds h _ _⟩
  | .recordWriteDone .. => ⟨_, execRecordWriteDone_holds h _⟩
  | .logLostClr .. => ⟨_, execLogLostClr_holds h _ _⟩
  | .logPeakClr .. => ⟨_, execLogPeakClr_holds h _ _⟩
  | .logRdNum .. => ⟨_, execLogRdNum_holds h _ _ _⟩
  | .seqLstatClr .. => ⟨_, execSeqLstatClr_holds h _ _ _⟩
  | .imgSlotIdx .. => ⟨_, execImgSlotIdx_holds h _ _ _⟩
  | .imgInstIdx .. => ⟨_, execImgInstIdx_holds h _ _ _⟩
  | .imgFindId .. => ⟨_, execImgFindId_holds h _ _ _⟩
  | .msSlotIdx .. => ⟨_, execMsSlotIdx_holds h _ _ _⟩
  | .msSlotCommit .. => ⟨_, execMsSlotCommit_holds h _ _ _⟩
  | .loopCoefA .. => ⟨_, execLoopCoefA_holds h _ _ _ _⟩
  | .loopSwap .. => ⟨_, execLoopSwap_holds h _ _ _ _⟩
  | .loopSupack .. => ⟨_, execLoopSupack_holds h _ _ _ _⟩
  | .loopCntClr .. => ⟨_, execLoopCntClr_holds h _ _ _⟩
  | .slvWinSel .. => ⟨_, execSlvWinSel_holds h _ _ _⟩
  | .slvPcntClr .. => ⟨_, execSlvPcntClr_holds h _ _ _⟩
  | .aiChCntClr .. => ⟨_, execAiChCntClr_holds h _ _ _⟩
  | .mateContactOpen .. => ⟨_, execMateContactOpen_holds h _ _⟩
  | .powerReturn .. => ⟨_, execPowerReturn_holds h _⟩
  | .feedOkChange .. => ⟨_, execFeedOkChange_holds h _ _ _⟩
  | .dioSupplyReturn .. => ⟨_, execDioSupplyReturn_holds h _ _⟩
  | .aoChannelNoFrame .. => ⟨_, execAoChannelNoFrame_holds h _ _⟩
  | .canReceiveError .. => ⟨_, execCanReceiveError_holds h _ _ _ _⟩
  | .arpRequest .. => ⟨_, execArpRequest_holds h _ _ _⟩
  | .icmpEchoRequest .. => ⟨_, execIcmpEchoRequest_holds h _ _ _⟩
  | .ptpAnnounceReceived .. => ⟨_, execPtpAnnounceReceived_holds h _ _ _⟩
  | .pcycReqEnd .. => ⟨_, execPcycReqEnd_holds h _⟩

/-- The bounds that a sound state sets itself, with a release allowed. -/
def State.bounds (s : State) : Bounds where
  clock := s.clock
  queue := s.pending
  floor := s.store.floor
  release := true

theorem State.Sound.holds (h : s.Sound) : Holds s.bounds s where
  toSound := h
  clock := rfl
  queue := rfl
  floor := .inl rfl
  waits := .inl rfl

/-- Settles O49: every command keeps the bounds of the state that it meets, and its ticks only add to the clock. -/
theorem everyCommandCompletes : Obligations.EveryCommandCompletes := by
  unfold Obligations.EveryCommandCompletes
  intro c s h
  obtain ⟨dt, t, hx, ht⟩ := exec_holds h.holds c (.inl rfl)
  exact ⟨t, hx, ht.queue, Nat.le.intro ht.clock.symm⟩

end Sys2Proof.Machine
end

section
/-! PROOFS. The passing of time: what a quiet stretch changes, D7's slots, and the deadlines of the present tick (R16, R17,
R45, R49, R50, R239, R268). -/

namespace Sys2Proof.Machine

variable {s : State}

/-! ### What the parts of `State.advance` leave unchanged -/

/-- A write changes the process image alone; so do writes one after another. -/
theorem State.writeSlot_slotsOnly {t : State} (h : ∃ m, t = { s with slots := m }) (i : Nat) (v : W32) (q : Byte) :
    ∃ m, t.writeSlot i v q = { s with slots := m } := by
  obtain ⟨m, rfl⟩ := h
  unfold State.writeSlot
  split
  · exact ⟨_, rfl⟩
  · exact ⟨m, rfl⟩

theorem State.msDomWrite_slotsOnly (s : State) (d : Nat) : ∃ m, s.msDomWrite d = { s with slots := m } := by
  have same : ∃ m, s = { s with slots := m } := ⟨s.slots, rfl⟩
  unfold State.msDomWrite
  dsimp only
  split
  · exact same
  · split
    · exact same
    · iterate 5 apply State.writeSlot_slotsOnly
      exact same

theorem State.tickD7_slotsOnly (s : State) : ∃ m, s.tickD7 = { s with slots := m } := by
  unfold State.tickD7
  split
  · exact State.msDomWrite_slotsOnly s 7
  · exact ⟨s.slots, rfl⟩

theorem State.parityFresh_of_nil (k : Nat) (hp : s.bus.parity = []) : s.parityFresh k = s := by
  unfold State.parityFresh
  rw [hp, List.filter_nil, ← hp]

/-- Latching a SWAP request changes the loop engine and its register's parity; parity that is whole stays whole. -/
theorem State.swapLatched_loopOnly (n : Nat) (hp : s.bus.parity = []) : ∃ l, s.swapLatched n = { s with loop := l } := by
  unfold State.swapLatched
  split
  · split
    · exact ⟨_, State.parityFresh_of_nil _ hp⟩
    · exact ⟨s.loop, rfl⟩
  · exact ⟨s.loop, rfl⟩

theorem State.loopRelatch_loopOnly (hp : s.bus.parity = []) : ∃ l, s.loopRelatch = { s with loop := l } := by
  unfold State.loopRelatch
  refine List.foldlRecOn (motive := fun t => ∃ l, t = { s with loop := l }) _ _ ⟨s.loop, rfl⟩ ?_
  rintro _ ⟨l, rfl⟩ x -
  split
  · split
    · exact State.swapLatched_loopOnly _ hp
    · exact ⟨l, rfl⟩
  · exact ⟨l, rfl⟩

theorem State.elapse_sysTime {dt : Nat} (hdt : 0 < dt) :
    (s.elapse dt).sysTime = (s.sysTime + dt * sysStep s.rate) % 2 ^ 96 := by
  unfold State.elapse
  rw [if_neg (Nat.ne_of_gt hdt)]

/-- Time arms milestones; domains and the scheduler's fault are not its to change. -/
theorem State.elapse_ms (dt : Nat) : ∃ sl, (s.elapse dt).ms = { s.ms with slots := sl } := by
  unfold State.elapse
  split
  · exact ⟨s.ms.slots, rfl⟩
  · exact ⟨_, rfl⟩

/-! ### A quiet stretch: no request waits, no deadline stands queued, no configuration word fails its parity -/

/-- `s` after `dt` ticks in which nothing was left to settle but the harvest views, as the loop engine stands at `l`. -/
def State.quiet (l : Loop) (dt : Nat) (s : State) : State :=
  ((({ s with out := [], loop := l } : State).fixViews).elapse dt).prpForget

theorem State.serveRest_of_idle (h : s.waiting = []) : s.serveRest = s := by simp [State.serveRest, h]

theorem State.runExpiring_of_nil (h : s.expiring = []) : s.runExpiring = s := by simp [State.runExpiring, h]

theorem State.loopParity_of_nil (h : s.bus.parity = []) : s.loopParity = s := by simp [State.loopParity, h]

theorem State.endTick_quiet (he : s.expiring = []) (hp : s.bus.parity = []) :
    ∃ l, s.endTick = ({ s with loop := l } : State).fixViews := by
  obtain ⟨l, hl⟩ := State.loopRelatch_loopOnly hp
  refine ⟨l, ?_⟩
  unfold State.endTick
  rw [State.runExpiring_of_nil he, hl, State.loopParity_of_nil (by exact hp)]

theorem State.advance_zero (hw : s.waiting = []) : s.advance 0 = { s with out := [] } :=
  State.serveRest_of_idle (s := { s with out := [] }) hw

theorem State.advance_quiet {dt : Nat} (hw : s.waiting = []) (he : s.expiring = []) (hp : s.bus.parity = []) (hdt : 0 < dt) :
    ∃ l, s.advance dt = (s.quiet l dt).tickD7 := by
  obtain ⟨l, hl⟩ := State.endTick_quiet (s := { s with out := [] }) he hp
  refine ⟨l, ?_⟩
  unfold State.advance State.quiet
  rw [State.serveRest_of_idle (s := { s with out := [] }) hw]
  dsimp only
  rw [if_neg (Nat.ne_of_gt hdt), hl]

section
variable (l : Loop) (dt : Nat)

@[simp] theorem State.quiet_clock : (s.quiet l dt).clock = s.clock + dt := by simp [State.quiet, State.prpForget]
@[simp] theorem State.quiet_rate : (s.quiet l dt).rate = s.rate := by simp [State.quiet, State.prpForget]
@[simp] theorem State.quiet_tickOrigin : (s.quiet l dt).tickOrigin = s.tickOrigin := by simp [State.quiet, State.prpForget]
@[simp] theorem State.quiet_mode : (s.quiet l dt).mode = s.mode := by simp [State.quiet, State.prpForget]
@[simp] theorem State.quiet_store : (s.quiet l dt).store = s.store := by simp [State.quiet, State.prpForget]
@[simp] theorem State.quiet_forces : (s.quiet l dt).forces = s.forces := by simp [State.quiet, State.prpForget]
@[simp] theorem State.quiet_sessions : (s.quiet l dt).sessions = s.sessions := by simp [State.quiet, State.prpForget]
@[simp] theorem State.quiet_panel : (s.quiet l dt).panel = s.panel := by simp [State.quiet, State.prpForget]
@[simp] theorem State.quiet_power : (s.quiet l dt).power = s.power := by simp [State.quiet, State.prpForget]
@[simp] theorem State.quiet_pair : (s.quiet l dt).pair = s.pair := by simp [State.quiet, State.prpForget]
@[simp] theorem State.quiet_fld : (s.quiet l dt).fld = s.fld := by simp [State.quiet, State.prpForget]
@[simp] theorem State.quiet_can : (s.quiet l dt).can = s.can := by simp [State.quiet, State.prpForget]
@[simp] theorem State.quiet_so : (s.quiet l dt).so = s.so := by simp [State.quiet, State.prpForget]
@[simp] theorem State.quiet_out : (s.quiet l dt).out = [] := by simp [State.quiet, State.prpForget]
@[simp] theorem State.quiet_slots : (s.quiet l dt).slots = s.slots := by simp [State.quiet, State.prpForget]
@[simp] theorem State.quiet_img : (s.quiet l dt).img = s.img := by simp [State.img]
@[simp] theorem State.quiet_ownSlot (j : Nat) : (s.quiet l dt).ownSlot j = s.ownSlot j := by simp [State.ownSlot]

/-- The module's grid (R154, R487) does not move with time. -/
@[simp] theorem State.quiet_origin : (s.quiet l dt).origin = s.origin := by
  simp [State.origin, State.quiet, State.prpForget, State.fixViews, State.img]

theorem State.quiet_ms : ∃ sl, (s.quiet l dt).ms = { s.ms with slots := sl } := State.elapse_ms dt

@[simp] theorem State.quiet_dom (d : Nat) : (s.quiet l dt).dom d = s.dom d := by
  obtain ⟨sl, h⟩ := State.quiet_ms (s := s) l dt
  simp [State.dom, h]

@[simp] theorem State.quiet_msFault : (s.quiet l dt).ms.fault = s.ms.fault := by
  obtain ⟨sl, h⟩ := State.quiet_ms (s := s) l dt
  rw [h]

theorem State.quiet_sysTime {dt : Nat} (hdt : 0 < dt) :
    (s.quiet l dt).sysTime = (s.sysTime + dt * sysStep s.rate) % 2 ^ 96 := State.elapse_sysTime hdt

end

/-! ### D7's five slots (R239, R268) -/

/-- A write of another slot leaves what slot `j` holds, and the canonical form with it. -/
theorem State.writeSlot_keeps {i j : Nat} {c : Cell} {v : W32} {q : Byte} (hj : j ≠ i)
    (h : SlotMap.wf s.slots = true ∧ s.ownSlot j = c) :
    SlotMap.wf (s.writeSlot i v q).slots = true ∧ (s.writeSlot i v q).ownSlot j = c :=
  ⟨State.writeSlot_wf h.1 i v q, (State.ownSlot_writeSlot_of_ne h.1 hj v q).trans h.2⟩

/-- A domain's status words stand in its own five slots: every other slot is left. -/
theorem State.ownSlot_msDomWrite_of_ne {d j : Nat} (h : SlotMap.wf s.slots = true)
    (hj : ∀ b, (domCfg s.img d).statBase = some b → j < b ∨ b + 4 < j) : (s.msDomWrite d).ownSlot j = s.ownSlot j := by
  unfold State.msDomWrite
  dsimp only
  split
  · rfl
  · rename_i b hb
    have hb := hj b hb
    split
    · rfl
    · exact (State.writeSlot_keeps (by omega) (State.writeSlot_keeps (by omega) (State.writeSlot_keeps (by omega)
        (State.writeSlot_keeps (by omega) (State.writeSlot_keeps (by omega) ⟨h, rfl⟩))))).2

/-- The first of a domain's slots is its position, with the quality of its state. -/
theorem State.ownSlot_msDomWrite_base {d b : Nat} (h : SlotMap.wf s.slots = true) (hb : (domCfg s.img d).statBase = some b)
    (hlt : b < 65536) (hen : (domCfg s.img d).enable = true) (hmode : s.mode = .active) (hf : s.ms.fault = false) :
    (s.msDomWrite d).ownSlot b = (BitVec.ofNat 32 (s.domPos d), domQ (s.dom d).st) := by
  unfold State.msDomWrite
  simp only [hb]
  rw [if_neg (by simp [hen, hmode, hf])]
  have first := And.intro (State.writeSlot_wf h b (BitVec.ofNat 32 (s.domPos d)) (domQ (s.dom d).st))
    (State.ownSlot_writeSlot_self h hlt (BitVec.ofNat 32 (s.domPos d)) (domQ (s.dom d).st))
  exact (State.writeSlot_keeps (by omega) (State.writeSlot_keeps (by omega) (State.writeSlot_keeps (by omega)
    (State.writeSlot_keeps (by omega) first)))).2

/-- While the module is ACTIVE, D7 stands where the tick stands on the module's grid (R239). -/
theorem State.domPos_seven (hmode : s.mode = .active) :
    s.domPos 7 = (((s.clock : Int) - s.origin) % ((domCfg s.img 7).zero : Int)).toNat := by
  have hw : s.whole 7 s.clock 0 false = some ((((s.dom 7).cycles * (domCfg s.img 7).zero + (s.clock - s.origin) : Int)) : Rat) := by
    simp [State.whole, hmode, cycLen]
  unfold State.domPos
  simp only [hw, if_true, Rat.floor_intCast]
  simp [cycLen]

theorem State.ownSlot_tickD7_of_ne {j : Nat} (h : SlotMap.wf s.slots = true)
    (hj : ∀ b, (domCfg s.img 7).statBase = some b → j < b ∨ b + 4 < j) : s.tickD7.ownSlot j = s.ownSlot j := by
  unfold State.tickD7
  split
  · exact State.ownSlot_msDomWrite_of_ne h hj
  · rfl

/-- While the module is ACTIVE, each tick gives D7's first slot the module's place on the grid (R239, R268). -/
theorem State.ownSlot_tickD7_base {b : Nat} (h : SlotMap.wf s.slots = true) (hb : (domCfg s.img 7).statBase = some b)
    (hlt : b < 65536) (hen : (domCfg s.img 7).enable = true) (hmode : s.mode = .active) (hf : s.ms.fault = false) :
    s.tickD7.ownSlot b = (BitVec.ofNat 32 (((s.clock : Int) - s.origin) % ((domCfg s.img 7).zero : Int)).toNat,
      domQ (s.dom 7).st) := by
  unfold State.tickD7
  rw [if_pos hmode, State.ownSlot_msDomWrite_base h hb hlt hen hmode hf, State.domPos_seven hmode]

/-! ### Deadlines (R17) -/

/-- A deadline of the present tick waits for the tick's end: its command only queues it. -/
theorem exec_expire {c : Instr} {e : Expiry} {a : State} (hx : exec c s = done (a.expire e))
    (hd : a.deadline e = some a.clock) : exec c s = .next (finish { a with expiring := a.expiring ++ [e] }) := by
  rw [hx, done, State.expire, if_pos hd]

theorem State.runExpiring_singleton {e : Expiry} (h : s.expiring = [e]) :
    s.runExpiring = finish (e.run { s with expiring := [] }) := by
  simp [State.runExpiring, h]

/-! ### The statement -/

theorem State.Sound.advance_clock_pending (h : s.Sound) (dt : Nat) :
    (s.advance dt).clock = s.clock + dt ∧ (s.advance dt).pending = s.pending :=
  have ha := State.advance_holds h.holds dt
  ⟨ha.clock, ha.queue⟩

/-- Settles O46: a quiet stretch is the passing of time on a state whose loop engine alone was settled, and D7's update
point; a deadline of the present tick only joins the queue. -/
theorem timeAdvances : Obligations.TimeAdvances := by
  unfold Obligations.TimeAdvances
  refine ⟨fun s dt h => h.advance_clock_pending dt, ?quiet, fun s hw => State.advance_zero hw, ?otherSlots, ?position,
    fun s e h => State.runExpiring_singleton h, ?deadlines⟩
  case quiet =>
    rintro s _ dt rfl hw he hp hdt
    obtain ⟨l, hl⟩ := State.advance_quiet hw he hp hdt
    obtain ⟨m, hm⟩ := State.tickD7_slotsOnly (s.quiet l dt)
    rw [hl, hm]
    exact ⟨State.quiet_sysTime l hdt, by simp⟩
  case otherSlots =>
    intro s dt j h hw he hp hdt hj
    obtain ⟨l, hl⟩ := State.advance_quiet hw he hp hdt
    rw [hl, State.ownSlot_tickD7_of_ne, State.quiet_ownSlot]
    · simpa using h.image
    · simpa [domCfg] using hj
  case position =>
    intro s dt b h hw he hp hdt hb hlt hen hmode hf
    obtain ⟨l, hl⟩ := State.advance_quiet hw he hp hdt
    rw [hl]
    simpa [domCfg] using State.ownSlot_tickD7_base (s := s.quiet l dt) (by simpa using h.image) (by simpa [domCfg] using hb)
      (by omega) (by simpa [domCfg] using hen) (by simpa using hmode) (by simpa using hf)
  case deadlines =>
    rintro s a dt n m k b rfl
    and_intros <;> exact exec_expire rfl

end Sys2Proof.Machine
end

section
/-! PROOFS. Soundness: the state after reset has it, and every step keeps it (R40, R49, R79, R93, R111, R431, R436, R480,
R526). -/

namespace Sys2Proof.Machine

/-- What stands in the queue is no part of soundness. -/
theorem State.Sound.withPending {s : State} (h : s.Sound) (q : List Instr) : ({ s with pending := q } : State).Sound :=
  ⟨h.image, h.forced, h.forceCap, h.owner, h.sessions, h.staging⟩

/-- A command carried out on a sound state leaves a sound state. -/
theorem State.Sound.exec {s t : State} (h : s.Sound) {c : Instr} (hx : exec c s = .next t) : t.Sound := by
  obtain ⟨dt, u, hu, hk⟩ := exec_holds h.holds c (.inl rfl)
  obtain rfl : u = t := Host.Outcome.next.inj (hu.symm.trans hx)
  exact hk.toSound

theorem State.step_nil {s : State} (h : s.pending = []) : step s = .next s := by
  unfold step; rw [h]

theorem State.step_cons {s : State} {c : Instr} {r : List Instr} (h : s.pending = c :: r) :
    step s = Sys2Proof.Machine.exec c { s with pending := r } := by
  unfold step; rw [h]

/-- Settles O48: on an empty queue the module idles, and otherwise the front command keeps the bounds of soundness. -/
theorem everyStepKeepsSound : Obligations.EveryStepKeepsSound := by
  unfold Obligations.EveryStepKeepsSound
  intro s t h hx
  cases hq : s.pending with
  | nil =>
    rw [State.step_nil hq] at hx
    exact Host.Outcome.next.inj hx ▸ h
  | cons c r =>
    rw [State.step_cons hq] at hx
    exact (h.withPending r).exec hx

/-- Nothing stands in the process image, the forces, the sessions or the recorder, and an UNCONFIGURED module drives no
line. -/
theorem State.reset_sound : State.reset.Sound where
  image := SlotMap.wf_nil
  forced := rfl
  forceCap := Nat.zero_le _
  owner := rfl
  sessions := Nat.zero_le _
  staging := Nat.zero_le _

/-- Settles O45: every field that the statement names has its default in `State.reset`. -/
theorem resetIsSound : Obligations.ResetIsSound := by
  unfold Obligations.ResetIsSound
  exact ⟨State.reset_sound, rfl, rfl, rfl, rfl, rfl, rfl, rfl, rfl, rfl, rfl, rfl⟩

end Sys2Proof.Machine
end

section
/-! PROOFS. Frames: which parts of the state an operation may change, and which slots it may write (R29). -/

namespace Sys2Proof

/-- A reference reaches its own slot. -/
theorem SlotRef.covers_slot (r : SlotRef) : r.covers r.slot = true := by simp [SlotRef.covers]

/-- A WIDE reference reaches the second slot of its pair (R32). -/
theorem SlotRef.covers_next {r : SlotRef} (h : r.wide = true) : r.covers (r.slot + 1) = true := by simp [SlotRef.covers, h]

end Sys2Proof

namespace Sys2Proof.Machine

-- a membership that `by decide` fills in waits for the declarations before it: they are elaborated in order
set_option Elab.async false

/-- The parts of the state that the frames of the functions speak of. -/
inductive Part
  | ms | loop | slv | fld | can | eth | usl | log | slots | statLast | bus | lat0 | parity | highAt | soChans | leds
  | out | sessions | freeCtr | expiring
  deriving DecidableEq

/-- What part `p` holds after an operation that may change the parts `P`. -/
def pick {α : Type} (P : List Part) (p : Part) (new old : α) : α := if p ∈ P then new else old

@[simp] theorem pick_self {α : Type} (P : List Part) (p : Part) (a : α) : pick P p a a = a := ite_self a

@[simp] theorem pick_pick {α : Type} (P : List Part) (p : Part) (c b a : α) :
    pick P p c (pick P p b a) = pick P p c a := by
  unfold pick; split <;> rfl

theorem pick_of_mem {α : Type} {P : List Part} {p : Part} (h : p ∈ P) (a b : α) : pick P p a b = a := if_pos h

theorem pick_of_not_mem {α : Type} {P : List Part} {p : Part} (h : p ∉ P) (a b : α) : pick P p a b = b := if_neg h

/-- `s` with the parts `P` taken from `u`. -/
def State.patch (P : List Part) (s u : State) : State := { s with
  ms := pick P .ms u.ms s.ms, loop := pick P .loop u.loop s.loop, slv := pick P .slv u.slv s.slv
  fld := pick P .fld u.fld s.fld, can := pick P .can u.can s.can, eth := pick P .eth u.eth s.eth
  usl := pick P .usl u.usl s.usl, log := pick P .log u.log s.log, slots := pick P .slots u.slots s.slots
  statLast := pick P .statLast u.statLast s.statLast
  bus := pick P .bus u.bus { s.bus with
    lat0 := pick P .lat0 u.bus.lat0 s.bus.lat0, parity := pick P .parity u.bus.parity s.bus.parity }
  pair := { s.pair with highAt := pick P .highAt u.pair.highAt s.pair.highAt }
  so := { s.so with chans := pick P .soChans u.so.chans s.so.chans }
  panel := { s.panel with leds := pick P .leds u.panel.leds s.panel.leds }
  out := pick P .out u.out s.out, sessions := pick P .sessions u.sessions s.sessions
  freeCtr := pick P .freeCtr u.freeCtr s.freeCtr, expiring := pick P .expiring u.expiring s.expiring }

theorem State.patch_self (P : List Part) (s : State) : s.patch P s = s := by simp [State.patch]

theorem State.patch_patch (P : List Part) (s t u : State) : (s.patch P t).patch P u = s.patch P u := by
  by_cases hb : Part.bus ∈ P
  · simp [State.patch, pick_of_mem hb]
  · simp [State.patch, pick_of_not_mem hb]

/-- What is taken as one of fewer parts is taken as one of more. -/
theorem pick_wider {α : Type} {P Q : List Part} (h : P ⊆ Q) (p : Part) (a b : α) : pick Q p (pick P p a b) b = pick P p a b := by
  by_cases hp : p ∈ P
  · rw [pick_of_mem hp, pick_of_mem (h hp)]
  · rw [pick_of_not_mem hp, pick_self]

theorem State.patch_wider {P Q : List Part} (h : P ⊆ Q) (s u : State) : s.patch Q (s.patch P u) = s.patch P u := by
  by_cases hb : Part.bus ∈ P
  · simp [State.patch, pick_wider h, pick_of_mem hb, pick_of_mem (h hb)]
  · simp [State.patch, pick_wider h, pick_of_not_mem hb]

/-- `u` differs from `s` in the parts `P` alone, and in no slot outside `W`; the canonical form of the process image is
kept. -/
structure Touches (P : List Part) (W : Set Nat) (s u : State) : Prop where
  eq : u = s.patch P u
  wf : SlotMap.wf s.slots = true → SlotMap.wf u.slots = true
  slot : SlotMap.wf s.slots = true → ∀ j ∉ W, u.ownSlot j = s.ownSlot j

variable {P : List Part} {W : Set Nat} {s a u : State}

namespace Touches

theorem refl : Touches P W s s := ⟨(State.patch_self P s).symm, id, fun _ _ _ => rfl⟩

theorem trans (h : Touches P W s a) (k : Touches P W a u) : Touches P W s u where
  eq := k.eq.trans ((congrArg (State.patch P · u) h.eq).trans (State.patch_patch P s a u))
  wf hs := k.wf (h.wf hs)
  slot hs j hj := (k.slot (h.wf hs) j hj).trans (h.slot hs j hj)

/-- A change of other parts than the process image. -/
theorem step (h : Touches P W s a) (hs : u.slots = a.slots) (hu : u = a.patch P u) : Touches P W s u :=
  h.trans ⟨hu, fun hw => hs ▸ hw, fun _ j _ => by unfold State.ownSlot; rw [hs]⟩

/-- More parts and more slots may be touched than are. -/
theorem mono {Q : List Part} {V : Set Nat} (h : Touches P W s a) (hP : P ⊆ Q := by decide) (hW : W ⊆ V := by exact subset_rfl) :
    Touches Q V s a where
  eq := h.eq.trans ((State.patch_wider hP s a).symm.trans (congrArg (State.patch Q s) h.eq.symm))
  wf := h.wf
  slot hs j hj := h.slot hs j fun hw => hj (hW hw)

/-- A conditional step touches what the step touches. -/
theorem ite {c : Prop} [Decidable c] {b : State} (ha : Touches P W s a) (hb : Touches P W s b) :
    Touches P W s (if c then a else b) := by split <;> assumption

/-- A fold touches what each of its steps touches. -/
theorem foldl {α : Type} {l : List α} {f : State → α → State} (h : Touches P W s a)
    (hf : ∀ b, ∀ x ∈ l, Touches P W s b → Touches P W s (f b x)) : Touches P W s (l.foldl f a) :=
  List.foldlRecOn l f h fun b hb x hx => hf b x hx hb

/-! ### What is no part stays -/

section
variable (h : Touches P W s a)
include h

theorem store : a.store = s.store := (congrArg State.store h.eq :)
theorem clock : a.clock = s.clock := (congrArg State.clock h.eq :)
theorem mode : a.mode = s.mode := (congrArg State.mode h.eq :)
theorem power : a.power = s.power := (congrArg State.power h.eq :)
theorem img : a.img = s.img := by unfold State.img; rw [h.store]

/-! ### Writing one part -/

theorem setMs (hP : .ms ∈ P := by decide) {x : Ms} : Touches P W s { a with ms := x } :=
  h.step rfl (by simp [State.patch, pick_of_mem hP])
theorem setLoop (hP : .loop ∈ P := by decide) {x : Loop} : Touches P W s { a with loop := x } :=
  h.step rfl (by simp [State.patch, pick_of_mem hP])
theorem setSlv (hP : .slv ∈ P := by decide) {x : Slv} : Touches P W s { a with slv := x } :=
  h.step rfl (by simp [State.patch, pick_of_mem hP])
theorem setFld (hP : .fld ∈ P := by decide) {x : Field} : Touches P W s { a with fld := x } :=
  h.step rfl (by simp [State.patch, pick_of_mem hP])
theorem setCan (hP : .can ∈ P := by decide) {x : List CanSt} : Touches P W s { a with can := x } :=
  h.step rfl (by simp [State.patch, pick_of_mem hP])
theorem setEth (hP : .eth ∈ P := by decide) {x : Eth} : Touches P W s { a with eth := x } :=
  h.step rfl (by simp [State.patch, pick_of_mem hP])
theorem setUsl (hP : .usl ∈ P := by decide) {x : Usl} : Touches P W s { a with usl := x } :=
  h.step rfl (by simp [State.patch, pick_of_mem hP])
theorem setLog (hP : .log ∈ P := by decide) {x : Log} : Touches P W s { a with log := x } :=
  h.step rfl (by simp [State.patch, pick_of_mem hP])
theorem setStatLast (hP : .statLast ∈ P := by decide) {x : List (Nat × W32)} : Touches P W s { a with statLast := x } :=
  h.step rfl (by simp [State.patch, pick_of_mem hP])
theorem setBus (hP : .bus ∈ P := by decide) {x : Bus} : Touches P W s { a with bus := x } :=
  h.step rfl (by simp [State.patch, pick_of_mem hP])
theorem setLat0 (hP : .lat0 ∈ P := by decide) {x : List (Nat × Nat)} :
    Touches P W s { a with bus := { a.bus with lat0 := x } } :=
  h.step rfl (by simp [State.patch, pick_of_mem hP])
theorem setParity (hP : .parity ∈ P := by decide) {x : List Nat} :
    Touches P W s { a with bus := { a.bus with parity := x } } :=
  h.step rfl (by simp [State.patch, pick_of_mem hP])
theorem setHighAt (hP : .highAt ∈ P := by decide) {x : Option Nat} :
    Touches P W s { a with pair := { a.pair with highAt := x } } :=
  h.step rfl (by simp [State.patch, pick_of_mem hP])
theorem setSoChans (hP : .soChans ∈ P := by decide) {x : List BrakeSt} :
    Touches P W s { a with so := { a.so with chans := x } } :=
  h.step rfl (by simp [State.patch, pick_of_mem hP])
theorem setLeds (hP : .leds ∈ P := by decide) {x : Leds} :
    Touches P W s { a with panel := { a.panel with leds := x } } :=
  h.step rfl (by simp [State.patch, pick_of_mem hP])
theorem setOut (hP : .out ∈ P := by decide) {x : List OutMsg} : Touches P W s { a with out := x } :=
  h.step rfl (by simp [State.patch, pick_of_mem hP])
theorem setSessions (hP : .sessions ∈ P := by decide) {x : List Session} : Touches P W s { a with sessions := x } :=
  h.step rfl (by simp [State.patch, pick_of_mem hP])
theorem setFreeCtr (hP : .freeCtr ∈ P := by decide) {x : Nat} : Touches P W s { a with freeCtr := x } :=
  h.step rfl (by simp [State.patch, pick_of_mem hP])
theorem setExpiring (hP : .expiring ∈ P := by decide) {x : List Expiry} : Touches P W s { a with expiring := x } :=
  h.step rfl (by simp [State.patch, pick_of_mem hP])

/-! ### The shared operations -/

theorem recordSev (hP : .log ∈ P := by decide) {sev code unit item : Nat} {d : List Byte} :
    Touches P W s (a.recordSev sev code unit item d) := h.setLog hP

theorem record (hP : .log ∈ P := by decide) {code unit item : Nat} {d : List Byte} :
    Touches P W s (a.record code unit item d) := h.setLog hP

theorem emit (hP : .out ∈ P := by decide) {m : OutMsg} : Touches P W s (a.emit m) := h.setOut hP

theorem freeW32 (hP : .freeCtr ∈ P := by decide) : Touches P W s a.freeW32.2 := h.setFreeCtr hP

theorem latchSet (hP : .lat0 ∈ P := by decide) {addr bits : Nat} : Touches P W s (a.latchSet addr bits) := h.setLat0 hP

theorem parityFresh (hP : .parity ∈ P := by decide) {k : Nat} : Touches P W s (a.parityFresh k) := h.setParity hP

theorem answer (hP : .sessions ∈ P := by decide) (hQ : .out ∈ P := by decide) {sid req code : Nat} {p : List Byte} :
    Touches P W s (a.answer sid req code p) := by
  unfold State.answer
  dsimp only
  split
  · exact (h.setSessions hP).emit hQ
  · exact h.setSessions hP

/-- A deadline's row touches what the deadline touches, and the queue of the tick's deadlines. -/
theorem expire {e : Expiry} (he : Touches P W s (e.run a)) (hP : .expiring ∈ P := by decide) : Touches P W s (a.expire e) := by
  unfold State.expire
  split
  · exact h.setExpiring hP
  · exact he

/-! ### Writes of slots -/

theorem writeSlot {i : Nat} {v : W32} {q : Byte} (hW : i ∈ W) (hP : .slots ∈ P := by decide) :
    Touches P W s (a.writeSlot i v q) :=
  h.trans {
    eq := by unfold State.writeSlot; split <;> simp [State.patch, pick_of_mem hP]
    wf := fun hw => State.writeSlot_wf hw i v q
    slot := fun hw j hj => State.ownSlot_writeSlot_of_ne hw (ne_of_mem_of_not_mem hW hj).symm v q }

theorem writeRef {r : SlotRef} {v : Nat} {q : Byte} (hW : ∀ j, r.covers j = true → j ∈ W) (hP : .slots ∈ P := by decide) :
    Touches P W s (a.writeRef r v q) := by
  have hslot := hW _ r.covers_slot
  unfold State.writeRef
  split
  · rename_i hw
    exact (h.writeSlot hslot hP).writeSlot (hW _ (SlotRef.covers_next hw)) hP
  · exact h.writeSlot hslot hP

theorem writeOpt {r : Option SlotRef} {v : Nat} {q : Byte} (hW : ∀ x, r = some x → ∀ j, x.covers j = true → j ∈ W)
    (hP : .slots ∈ P := by decide) : Touches P W s (a.writeOpt r v q) := by
  unfold State.writeOpt
  split
  · exact h.writeRef (hW _ rfl) hP
  · exact h

end

end Touches

/-- The slots of a unit's record, none where the image holds no such unit. -/
def cfgSlots {α : Type} (slots : α → Set Nat) (c : Option α) : Set Nat := { j | ∃ x, c = some x ∧ j ∈ slots x }

theorem subset_cfgSlots {α : Type} {slots : α → Set Nat} {c : Option α} (x : α) (h : c = some x) : slots x ⊆ cfgSlots slots c :=
  fun _ hj => ⟨x, h, hj⟩

/-- What a look-up by a key finds is a member with that key. -/
theorem mem_of_findKey {α : Type} {key : α → Nat} {k : Nat} {l : List α} {x : α} (h : findKey key k l = some x) :
    x ∈ l ∧ key x = k :=
  ⟨List.mem_of_find?_eq_some h, of_decide_eq_true (List.find?_some (p := fun x => decide (key x = k)) h)⟩

end Sys2Proof.Machine
end

section
/-! PROOFS. What the loop engine and the solver leave unchanged (R29, R276, R278, R281, R307, R316, R337). -/

namespace Sys2Proof.Machine

-- a membership that `by decide` fills in waits for the declarations before it: they are elaborated in order
set_option Elab.async false

variable {s : State} {W : Set Nat}

/-! ### The loop engine's samples up to their commit -/

/-- The parts that triggers and misses of the loop engine touch. -/
def loopParts : List Part := [.loop, .lat0, .parity, .log, .slots]

/-- The slots that the output reference of a loop context reaches. -/
def loopOutSlots (i : Image) (n : Nat) : Set Nat :=
  { j | ∃ c r, loopCfg i n = some c ∧ c.outBind = some r ∧ r.covers j = true }

theorem slot_mem_loopOutSlots {i : Image} {n : Nat} {c : LoopCfg} {r : SlotRef} (hc : loopCfg i n = some c)
    (hr : c.outBind = some r) : r.slot ∈ loopOutSlots i n := ⟨c, r, hc, hr, r.covers_slot⟩

theorem State.loopMiss_touches (n : Nat) : Touches loopParts (loopOutSlots s.img n) s (s.loopMiss n) := by
  unfold State.loopMiss
  split
  · rename_i x c hx hc
    have marked {b : Nat} {f : CtxSt → CtxSt} :
        Touches loopParts (loopOutSlots s.img n) s ((s.latchSet (0x3004 + 0x40 * n) b).modCtx n f) :=
      Touches.refl.latchSet.setLoop
    dsimp only
    split
    · split
      · rename_i r hr
        exact (marked.writeSlot (slot_mem_loopOutSlots hc hr)).record
      · exact marked
    · exact marked
  · exact .refl

theorem State.swapLatched_touches (n : Nat) : Touches loopParts W s (s.swapLatched n) := by
  unfold State.swapLatched
  split
  · exact .ite (Touches.refl.setLoop).parityFresh .refl
  · exact .refl

theorem State.loopSample_touches (n : Nat) (c : LoopCfg) :
    Touches loopParts (loopOutSlots s.img n) s (s.loopSample n c) := by
  unfold State.loopSample
  extract_lets s1
  have h1 : Touches loopParts (loopOutSlots s.img n) s s1 := by
    unfold s1
    split
    · exact .ite (s.loopMiss_touches n) .refl
    · exact .refl
  split
  · exact h1.setLoop.trans (State.swapLatched_touches n)
  · exact h1

theorem State.loopTime_touches (n : Nat) : Touches loopParts (loopOutSlots s.img n) s (s.loopTime n) := by
  unfold State.loopTime
  split
  · exact .ite (s.loopSample_touches n _) .refl
  · exact .refl

theorem State.loopMissed_touches (n : Nat) : Touches loopParts (loopOutSlots s.img n) s (s.loopMissed n) := by
  unfold State.loopMissed
  split
  · split
    · exact .ite (s.loopMiss_touches n) .refl
    · exact .refl
  · exact .refl

theorem State.loopBegin_touches : Touches [.loop] ∅ s s.loopBegin := by
  unfold State.loopBegin
  split
  · exact .refl
  · split
    · exact Touches.refl.setLoop.setLoop
    · exact .refl

/-- A LOOP_TRIG touches what a sample touches (R274). -/
theorem State.loopTrigger_touches (n : Nat) : Touches loopParts (loopOutSlots s.img n) s (s.loopTrigger n) := by
  unfold State.loopTrigger
  split
  · exact .ite .refl (.ite Touches.refl.latchSet.setLoop (s.loopSample_touches n _))
  · exact .refl

/-! ### The commit of a sample (R281, R307) -/

/-- The slots that a context's three references reach. -/
def loopSlots (i : Image) (n : Nat) : Set Nat :=
  { j | ∃ c, loopCfg i n = some c ∧ ∃ r, (c.outBind = some r ∨ c.statBind = some r ∨ c.pspBind = some r) ∧ r.covers j = true }

/-- What a commit touches: a manual value that it takes over is the function's own write of a register too (R125). -/
def loopCommitParts : List Part := [.loop, .bus, .lat0, .parity, .log, .slots]

theorem State.loopCommit_touches (n : Nat) (l : LoopLatch) :
    Touches loopCommitParts (loopSlots s.img n) s (s.loopCommit n l) := by
  unfold State.loopCommit
  split
  · rename_i x0 c hx hc
    extract_lets _ _ _ _ _ _ _ _ _ _ _ _ _ s0 _ s1 s2 s3 s4 s5 s6 s7
    have h0 : Touches loopCommitParts (loopSlots s.img n) s s0 := Touches.refl.setLoop
    have h1 : Touches loopCommitParts (loopSlots s.img n) s s1 := .ite h0.setBus.parityFresh h0
    have h2 : Touches loopCommitParts (loopSlots s.img n) s s2 := .ite h1.latchSet.record h1
    have h3 : Touches loopCommitParts (loopSlots s.img n) s s3 := .ite h2.record (.ite h2.record h2)
    have h4 : Touches loopCommitParts (loopSlots s.img n) s s4 := .ite h3.record h3
    have h5 : Touches loopCommitParts (loopSlots s.img n) s s5 := .ite h4.record h4
    have h6 : Touches loopCommitParts (loopSlots s.img n) s s6 := by
      unfold s6
      split
      · rename_i r hr
        exact h5.writeSlot ⟨c, hc, r, .inl hr, r.covers_slot⟩
      · exact h5
    have h7 : Touches loopCommitParts (loopSlots s.img n) s s7 := by
      unfold s7
      split
      · rename_i r hr
        exact h6.writeSlot ⟨c, hc, r, .inr (.inl hr), r.covers_slot⟩
      · exact h6
    split
    · rename_i r hr
      exact h7.writeSlot ⟨c, hc, r, .inr (.inr hr), r.covers_slot⟩
    · exact h7
  · exact .refl

/-- The slots of the context whose sample is the oldest in the engine. -/
def loopRunSlots (s : State) : Set Nat := { j | ∃ n t l q, s.loop.run = (n, t, l) :: q ∧ j ∈ loopSlots s.img n }

theorem State.loopEnd_touches : Touches loopCommitParts (loopRunSlots s) s (s.loopEnd true) := by
  unfold State.loopEnd
  split
  · rename_i n t l q hr
    have hw : loopSlots s.img n ⊆ loopRunSlots s := fun j hj => ⟨n, t, l, q, hr, hj⟩
    have h0 : Touches loopCommitParts (loopSlots s.img n) s { s with loop := { s.loop with run := q } } := Touches.refl.setLoop
    rw [if_pos rfl]
    exact .ite .refl ((h0.trans (State.loopCommit_touches (s := { s with loop := { s.loop with run := q } }) n l)).mono (hW := hw))
  · exact .refl

/-! ### Assembly and engine (R316, R337) -/

theorem State.asmBegin_touches : Touches [.slv] ∅ s s.asmBegin := by
  unfold State.asmBegin
  split
  · exact .refl
  · split
    · exact Touches.refl.setSlv.setSlv
    · exact .refl

theorem State.asmEnd_touches : Touches [.slv] ∅ s s.asmEnd := by
  unfold State.asmEnd
  split
  · exact .refl
  · dsimp only
    split
    · exact .ite .refl (.ite Touches.refl.setSlv (.ite Touches.refl.setSlv.setSlv Touches.refl.setSlv.setSlv))
    · exact Touches.refl.setSlv

theorem State.solveBegin_touches : Touches [.slv] ∅ s s.solveBegin := by
  unfold State.solveBegin
  split
  · exact .refl
  · split
    · exact .refl
    · split
      · exact Touches.refl.setSlv.setSlv
      · exact .refl

theorem State.solveEnd_touches (k : Nat) : Touches [.slv] ∅ s (s.solveEnd k) := by
  unfold State.solveEnd
  split
  · exact .refl
  · split
    · exact .refl
    · dsimp only
      split
      · split
        · exact .ite Touches.refl.setSlv.setSlv.setSlv Touches.refl.setSlv.setSlv
        · exact Touches.refl.setSlv
      · exact Touches.refl.setSlv

/-- Settles O57: each event is one operation, whose frame names the parts and the slots that it may change. -/
theorem loopAndSolverFrames : Obligations.LoopAndSolverFrames := by
  unfold Obligations.LoopAndSolverFrames
  refine ⟨fun s dt n h => ⟨_, rfl, ?trigger⟩, fun s dt => ⟨_, rfl, State.loopBegin_touches.eq⟩, fun s dt n h => ⟨_, rfl, ?missed⟩,
    fun s dt h => ⟨_, rfl, ?commit⟩, fun s dt => ⟨_, rfl, State.asmBegin_touches.eq⟩,
    fun s dt => ⟨_, rfl, State.asmEnd_touches.eq⟩, fun s dt => ⟨_, rfl, State.solveBegin_touches.eq⟩,
    fun s dt k => ⟨_, rfl, (State.solveEnd_touches k).eq⟩⟩
  case trigger =>
    have ht := (State.loopTime_touches (s := s.advance dt) n).mono (Q := loopCommitParts)
    exact ⟨ht.eq, fun j hj => ht.slot h.image j fun ⟨c, r, hc, hr, hr'⟩ => by simp [hj c hc r hr] at hr'⟩
  case missed =>
    have ht := (State.loopMissed_touches (s := s.advance dt) n).mono (Q := loopCommitParts)
    exact ⟨ht.eq, fun j hj => ht.slot h.image j fun ⟨c, r, hc, hr, hr'⟩ => by simp [hj c hc r hr] at hr'⟩
  case commit =>
    have ht := State.loopEnd_touches (s := s.advance dt)
    refine ⟨ht.eq, fun j hj => ht.slot h.image j ?_⟩
    rintro ⟨n, t, l, q, hr, c, hc, r, hb, hr'⟩
    obtain ⟨ho, hs, hp⟩ := hj n t l q c hr hc
    rcases hb with hb | hb | hb
    · simp [ho r hb] at hr'
    · simp [hs r hb] at hr'
    · simp [hp r hb] at hr'

end Sys2Proof.Machine
end

section
/-! PROOFS. What the field channels leave unchanged (R29, R360 to R379). -/

namespace Sys2Proof

/-- The slots that the value and status references of an analog input reach. -/
def AiCfg.slots (c : AiCfg) : Set Nat := { j | ∃ r, (c.valBind = some r ∨ c.statBind = some r) ∧ r.covers j = true }

theorem AiCfg.not_mem_slots {c : AiCfg} {j : Nat}
    (h : (∀ r, c.valBind = some r → r.covers j = false) ∧ ∀ r, c.statBind = some r → r.covers j = false) : j ∉ c.slots := by
  rintro ⟨r, hr | hr, hj⟩
  · exact Bool.false_ne_true ((h.1 r hr).symm.trans hj)
  · exact Bool.false_ne_true ((h.2 r hr).symm.trans hj)

/-- The slots that the readback and status references of an analog output reach. -/
def AoCfg.slots (c : AoCfg) : Set Nat := { j | ∃ r, (c.rbBind = some r ∨ c.statBind = some r) ∧ r.covers j = true }

theorem AoCfg.not_mem_slots {c : AoCfg} {j : Nat}
    (h : (∀ r, c.rbBind = some r → r.covers j = false) ∧ ∀ r, c.statBind = some r → r.covers j = false) : j ∉ c.slots := by
  rintro ⟨r, hr | hr, hj⟩
  · exact Bool.false_ne_true ((h.1 r hr).symm.trans hj)
  · exact Bool.false_ne_true ((h.2 r hr).symm.trans hj)

/-- The slots that the reference of a digital channel reaches. -/
def DioCfg.slots (c : DioCfg) : Set Nat := { j | ∃ r, c.bind = some r ∧ r.covers j = true }

theorem DioCfg.not_mem_slots {c : DioCfg} {j : Nat} (h : ∀ r, c.bind = some r → r.covers j = false) : j ∉ c.slots :=
  fun ⟨r, hr, hj⟩ => Bool.false_ne_true ((h r hr).symm.trans hj)

end Sys2Proof

namespace Sys2Proof.Machine

-- a membership that `by decide` fills in waits for the declarations before it: they are elaborated in order
set_option Elab.async false

variable {s : State} {W : Set Nat}

/-! ### Analog inputs (R360, R361, R364) -/

/-- The parts that results of analog inputs touch. -/
def aiParts : List Part := [.fld, .slots, .lat0]

theorem State.aiStatus_touches (n : Nat) (hW : ∀ c, aiCfg s.img n = some c → c.slots ⊆ W) :
    Touches aiParts W s (s.aiStatus n) := by
  unfold State.aiStatus
  split
  · rename_i c x hc hx
    exact Touches.refl.writeOpt fun r hr j hj => hW c hc ⟨r, .inr hr, hj⟩
  · exact .refl

theorem State.aiResult_touches (c : AiCfg) (ok : Bool) (x : Int) (hc : c.slots ⊆ W)
    (hW : ∀ c', aiCfg s.img c.ch = some c' → c'.slots ⊆ W) : Touches aiParts W s (s.aiResult c ok x) := by
  unfold State.aiResult
  split
  · exact .refl
  · refine .ite .refl ?_
    have h1 {k b : Nat} {f : AiSt → AiSt} {v : Nat} {q : Byte} :
        Touches aiParts W s (((s.latchSet k b).modAi c.ch f).writeOpt c.valBind v q) :=
      (Touches.refl.latchSet.setFld).writeOpt fun r hr j hj => hc ⟨r, .inl hr, hj⟩
    exact h1.trans (State.aiStatus_touches _ (h1.img ▸ hW))

/-- The slots of every analog input. -/
def aiSlots (i : Image) : Set Nat := { j | ∃ c ∈ i.fld.ai, j ∈ c.slots }

theorem AiCfg.slots_subset {i : Image} {c : AiCfg} (h : c ∈ i.fld.ai) : c.slots ⊆ aiSlots i := fun _ hj => ⟨c, h, hj⟩

theorem aiCfg_slots_subset {i : Image} {n : Nat} {c : AiCfg} (h : aiCfg i n = some c) : c.slots ⊆ aiSlots i :=
  AiCfg.slots_subset (mem_of_findKey h).1

theorem State.aiScan_touches (ok : Bool) (xs : List (Nat × Int)) : Touches aiParts (aiSlots s.img) s (s.aiScan ok xs) := by
  unfold State.aiScan
  refine .ite .refl (Touches.refl.setFld.foldl fun b c hc hb => hb.trans (State.aiResult_touches c ok _ ?_ fun c' hc' => ?_))
  · exact AiCfg.slots_subset (List.mem_filter.mp hc).1
  · exact aiCfg_slots_subset (hb.img ▸ hc')

theorem State.aiCommit_touches (n : Nat) (ok : Bool) (x : Int) (hW : ∀ c, aiCfg s.img n = some c → c.slots ⊆ W) :
    Touches aiParts W s (s.aiCommit n ok x) := by
  unfold State.aiCommit
  split
  · rename_i c a hc ha
    split
    · have hn : c.ch = n := (mem_of_findKey hc).2
      have h1 {f : Field} {g : AiSt → AiSt} : Touches aiParts W s (({ s with fld := f } : State).modAi n g) :=
        Touches.refl.setFld.setFld
      exact .ite (h1.trans (State.aiResult_touches c ok x (hW c hc) fun c' hc' => hW c' (hn ▸ hc'))) .refl
    · exact .refl
  · exact .refl

/-! ### HART (R365, R366) -/

/-- The parts that a failed or answered transaction touches: its modem, and the answer to a pass-through. -/
def hartParts : List Part := [.fld, .lat0, .sessions, .out]

/-- The slots of the HART entries. -/
def hartSlots (i : Image) : Set Nat := { j | ∃ e ∈ i.fld.hart, e.ref.covers j = true }

theorem not_mem_hartSlots {i : Image} {j : Nat} (h : ∀ e ∈ i.fld.hart, e.ref.covers j = false) : j ∉ hartSlots i :=
  fun ⟨e, he, hj⟩ => Bool.false_ne_true ((h e he).symm.trans hj)

theorem State.hartStart_touches (m : Modem) : Touches [.fld] ∅ s (s.hartStart m) := by
  unfold State.hartStart
  split
  · exact .refl
  · refine .ite .refl ?_
    split
    · exact Touches.refl.setFld
    · dsimp only
      split
      · exact .refl
      · exact Touches.refl.setFld

theorem State.hartMark_touches (ao : Bool) (ch : Nat) (ok : Bool) (st : Option Byte) :
    Touches [.fld] ∅ s (s.hartMark ao ch ok st) := .ite Touches.refl.setFld Touches.refl.setFld

theorem State.hartFail_touches (m : Modem) (b : Byte) : Touches hartParts ∅ s (s.hartFail m b) := by
  unfold State.hartFail
  split
  · exact .refl
  · split
    · exact .refl
    · extract_lets s1 s2 s3
      have h1 : Touches hartParts ∅ s s1 := .ite Touches.refl.setFld Touches.refl.latchSet.setFld
      have h2 : Touches hartParts ∅ s s2 := h1.setFld
      refine .ite h2.setFld ?_
      have h3 : Touches hartParts ∅ s s3 := h2.setFld.trans (State.hartMark_touches _ _ _ _).mono
      split
      · exact h3.answer
      · exact h3

theorem State.hartWrite_touches (m : Modem) (ch k : Nat) (dev : Byte) (vs : List F32) (hW : hartSlots s.img ⊆ W) :
    Touches [.fld, .slots] W s (s.hartWrite m ch k dev vs) := by
  unfold State.hartWrite
  refine Touches.refl.foldl fun b p hp hb => ?_
  have he : p.1 ∈ s.img.fld.hart := (List.of_mem_zip (List.mem_filter.mp hp).1).1
  have hw {v : Nat} {q : Byte} : Touches [.fld, .slots] W s (b.writeRef p.1.ref v q) :=
    hb.writeRef fun j hj => hW ⟨p.1, he, hj⟩
  exact .ite hw hw.setFld

theorem State.hartResponse_touches (m : Modem) (e : Bool) (b : Byte) (v : List F32) (l : List Byte) :
    Touches (.slots :: hartParts) (hartSlots s.img) s (s.hartResponse m e b v l) := by
  unfold State.hartResponse
  split
  · exact .refl
  · rename_i x hx
    split
    · exact .refl
    · rename_i a cmd k t hr
      refine .ite .refl (.ite ((State.hartFail_touches m b).mono (hW := Set.empty_subset _)) ?_)
      extract_lets s1
      have h1 : Touches (.slots :: hartParts) (hartSlots s.img) s s1 :=
        Touches.refl.setFld.trans ((State.hartMark_touches _ _ _ _).mono (hW := Set.empty_subset _))
      split
      · exact h1.answer
      · refine .ite h1.setFld ?_
        have h2 {f : ModemSt → ModemSt} : Touches (.slots :: hartParts) (hartSlots s.img) s (s1.modModem m f) := h1.setFld
        exact h2.trans (State.hartWrite_touches m x.ch a b v (by rw [h2.img])).mono

theorem State.hartTimeout_touches (m : Modem) : Touches (.freeCtr :: hartParts) ∅ s (s.hartTimeout m) := by
  unfold State.hartTimeout
  split
  · exact .refl
  · split
    · exact .ite (Touches.refl.freeW32.trans (State.hartFail_touches m _).mono) .refl
    · exact .refl

theorem State.hartStale_touches (k : Nat) : Touches [.fld, .slots] (hartSlots s.img) s (s.hartStale k) := by
  unfold State.hartStale
  split
  · rename_i e t he hl
    refine .ite (Touches.setFld (.writeRef .refl ?_)) .refl
    exact fun j hj => ⟨e, List.mem_of_getElem? he, hj⟩
  · exact .refl

/-! ### Analog outputs (R371 to R376) -/

theorem State.aoFrame_touches (n : Nat) : Touches [.fld] ∅ s (s.aoFrame n) :=
  .ite .refl (.ite .refl Touches.refl.setFld)

theorem State.aoComplianceClear_touches (n : Nat) : Touches [.fld] ∅ s (s.aoComplianceClear n) := .ite .refl Touches.refl.setFld

theorem State.aoCompliance_touches (n i v : Nat) : Touches [.fld, .lat0, .log] ∅ s (s.aoCompliance n i v) := by
  unfold State.aoCompliance
  split
  · exact .refl
  · exact .ite .refl Touches.refl.latchSet.setFld.record

theorem State.aoMeasure_touches (n : Nat) (ok : Bool) (i v : Nat) (hW : ∀ c, aoCfg s.img n = some c → c.slots ⊆ W) :
    Touches [.fld, .slots] W s (s.aoMeasure n ok i v) := by
  unfold State.aoMeasure
  split
  · exact .refl
  · rename_i c hc
    refine .ite .refl (.ite Touches.refl.setFld.setFld (Touches.writeOpt (Touches.writeOpt Touches.refl.setFld.setFld ?_) ?_))
    · exact fun r hr j hj => hW c hc ⟨r, .inl hr, hj⟩
    · exact fun r hr j hj => hW c hc ⟨r, .inr hr, hj⟩

/-! ### Digital channels (R378, R379) -/

theorem State.dioWrite_touches (c : DioCfg) (hW : c.slots ⊆ W) : Touches [.fld, .slots] W s (s.dioWrite c) :=
  Touches.refl.writeOpt fun r hr _ hj => hW ⟨r, hr, hj⟩

theorem State.dioAccept_touches (n : Nat) (v : Bool) (ago : Nat) (hW : ∀ c, dioCfg s.img n = some c → c.slots ⊆ W) :
    Touches [.fld, .slots] W s (s.dioAccept n v ago) := by
  unfold State.dioAccept
  split
  · exact .refl
  · rename_i c hc
    exact .ite .refl (.ite Touches.refl.setFld (Touches.refl.setFld.trans (State.dioWrite_touches c (hW c hc))))

/-- The slots of every digital channel. -/
def dioSlots (i : Image) : Set Nat := { j | ∃ c ∈ i.fld.dio, j ∈ c.slots }

theorem State.dioSupply_touches (b ok : Bool) :
    Touches [.fld, .slots] (dioSlots s.img) s (s.dioSupply b ok) := by
  unfold State.dioSupply
  extract_lets _ s1
  have h1 : Touches [.fld, .slots] (dioSlots s.img) s s1 := .ite Touches.refl.setFld Touches.refl.setFld
  refine .ite h1 (h1.foldl fun t c hc ht => ?_)
  have hc' : c.slots ⊆ dioSlots s.img := fun _ hj => ⟨c, h1.img ▸ (List.mem_filter.mp hc).1, hj⟩
  exact .ite (ht.trans (State.dioWrite_touches c hc')) (ht.writeOpt fun r hr j hj => hc' ⟨r, hr, hj⟩)

/-! ### The statement -/

/-- Settles O58: each event is one operation, whose frame names the parts and the slots that it may change. -/
theorem fieldFrames : Obligations.FieldFrames := by
  unfold Obligations.FieldFrames
  refine ⟨fun s dt ok l h => ⟨_, rfl, ?scan⟩, fun s dt n ok v h => ⟨_, rfl, ?sample⟩,
    fun s dt m => ⟨_, rfl, (State.hartStart_touches m).eq⟩, fun s dt m e b v l h => ⟨_, rfl, ?response⟩,
    fun s dt m => ⟨_, rfl, ?attempt⟩, fun s dt k h => ⟨_, rfl, ?stale⟩,
    fun s dt n => ⟨_, rfl, (State.aoFrame_touches n).eq⟩, fun s dt n => ⟨_, rfl, ?frameTimeout⟩,
    fun s dt n => ⟨_, rfl, ?hold⟩, fun s dt n => ⟨_, rfl, (Touches.setFld .refl (P := [.fld]) (W := ∅)).eq⟩,
    fun s dt n i => ⟨_, rfl, (Touches.setFld .refl (P := [.fld]) (W := ∅)).eq⟩,
    fun s dt n => ⟨_, rfl, (State.aoComplianceClear_touches n).eq⟩, fun s dt n i v => ⟨_, rfl, ?compliance⟩,
    fun s dt n i v ok h => ⟨_, rfl, ?measure⟩, fun s dt n ago v h => ⟨_, rfl, ?accept⟩,
    fun s dt b h => ⟨_, rfl, ?loss⟩, fun s dt b h => ⟨_, rfl, ?back⟩⟩
  case scan =>
    have ht := (State.aiScan_touches (s := s.advance dt) ok l).mono (Q := .bus :: aiParts)
    exact ⟨ht.eq, fun j hj => ht.slot h.image j fun ⟨c, hc, hm⟩ => AiCfg.not_mem_slots (hj c hc) hm⟩
  case sample =>
    have ht := (State.aiCommit_touches (s := s.advance dt) n ok v subset_cfgSlots).mono (Q := .bus :: aiParts)
    exact ⟨ht.eq, fun j hj => ht.slot h.image j fun ⟨c, hc, hm⟩ => AiCfg.not_mem_slots (hj c hc) hm⟩
  case response =>
    have ht := (State.hartResponse_touches (s := s.advance dt) m e b v l).mono (Q := .bus :: .slots :: hartParts)
    exact ⟨ht.eq, fun j hj => ht.slot h.image j (not_mem_hartSlots hj)⟩
  case attempt =>
    have hr := (State.hartTimeout_touches (s := s.advance dt) m).mono (Q := .bus :: .expiring :: .freeCtr :: hartParts)
    exact (Touches.refl.expire (e := .hartAttempt m) hr).eq
  case stale =>
    have hr := (State.hartStale_touches (s := s.advance dt) k).mono (Q := [.fld, .slots, .expiring])
    have ht := Touches.refl.expire (e := .hartStale k) hr
    exact ⟨ht.eq, fun j hj => ht.slot h.image j (not_mem_hartSlots hj)⟩
  case frameTimeout =>
    exact (Touches.refl.expire (P := [.fld, .expiring]) (W := ∅) (Touches.setFld .refl)).eq
  case hold =>
    exact (Touches.refl.expire (P := [.fld, .expiring]) (W := ∅) (Touches.setFld .refl)).eq
  case compliance =>
    exact ((State.aoCompliance_touches n i v).mono (Q := [.bus, .fld, .lat0, .log])).eq
  case measure =>
    have ht := State.aoMeasure_touches (s := s.advance dt) n ok i v subset_cfgSlots
    exact ⟨ht.eq, fun j hj => ht.slot h.image j fun ⟨c, hc, hm⟩ => AoCfg.not_mem_slots (hj c hc) hm⟩
  case accept =>
    have ht := State.dioAccept_touches (s := s.advance dt) n v ago subset_cfgSlots
    exact ⟨ht.eq, fun j hj => ht.slot h.image j fun ⟨c, hc, hm⟩ => DioCfg.not_mem_slots (hj c hc) hm⟩
  case loss =>
    have ht := State.dioSupply_touches (s := s.advance dt) b false
    exact ⟨ht.eq, fun j hj => ht.slot h.image j fun ⟨c, hc, hm⟩ => DioCfg.not_mem_slots (hj c hc) hm⟩
  case back =>
    have ht := State.dioSupply_touches (s := s.advance dt) b true
    exact ⟨ht.eq, fun j hj => ht.slot h.image j fun ⟨c, hc, hm⟩ => DioCfg.not_mem_slots (hj c hc) hm⟩

end Sys2Proof.Machine
end

section
/-! PROOFS. What CAN, Ethernet and the safety layer leave unchanged (R29, R167 to R173, R401, R405, R411, R439 to R446). -/

namespace Sys2Proof.Machine

-- a membership that `by decide` fills in waits for the declarations before it: they are elaborated in order
set_option Elab.async false

variable {P : List Part} {s a : State} {W : Set Nat}

/-! ### Stations (R168 to R172) -/

/-- The part that holds a channel's stations: CAN's for C0 to C3, ETH's for channel 4. -/
def rioPart (ch : Nat) : Part := if ch < 4 then .can else .eth

/-- The parts that a station's miss or loss touches; the frames that wait for it stand with CAN. -/
def rioParts (ch : Nat) : List Part := [rioPart ch, .can, .log, .slots]

theorem rioPart_mem (ch : Nat) : rioPart ch ∈ rioParts ch := by simp [rioParts]
theorem can_mem_rioParts (ch : Nat) : .can ∈ rioParts ch := by simp [rioParts]
theorem log_mem_rioParts (ch : Nat) : .log ∈ rioParts ch := by simp [rioParts]
theorem slots_mem_rioParts (ch : Nat) : .slots ∈ rioParts ch := by simp [rioParts]

theorem rioParts_subset (n : Nat) : rioParts n ⊆ [.can, .eth, .log, .slots] := by
  unfold rioParts rioPart
  split <;> decide

/-- The slots that the RX mappings of a channel's stations write. -/
def rioSlots (i : Image) (ch : Nat) : Set Nat := { j | ∃ c ∈ rioCfgs i ch, j ∈ rxSlots c.maps }

/-- The slots that some mappings write lie in `W`. -/
def RxWithin (ms : List RioMap) (W : Set Nat) : Prop := ∀ j ∈ rxSlots ms, j ∈ W

theorem rxWithin_of_mem {i : Image} {ch : Nat} {c : StationCfg} (h : c ∈ rioCfgs i ch) : RxWithin c.maps (rioSlots i ch) :=
  fun _ hj => ⟨c, h, hj⟩

theorem rxWithin_of_rioCfg {i : Image} {ch k : Nat} {c : StationCfg} (h : rioCfg i ch k = some c) :
    RxWithin c.maps (rioSlots i ch) := rxWithin_of_mem (mem_of_findKey h).1

theorem not_mem_rioSlots {i : Image} {ch j : Nat} (h : ∀ c ∈ rioCfgs i ch, j ∉ rxSlots c.maps) : j ∉ rioSlots i ch :=
  fun ⟨c, hc, hj⟩ => h c hc hj

namespace Touches

variable (h : Touches P W s a)
include h

theorem modCan (hP : .can ∈ P := by decide) {n : Nat} {f : CanSt → CanSt} : Touches P W s (a.modCan n f) := h.setCan hP

theorem modStations {ch : Nat} (hP : rioPart ch ∈ P) {f : StationSt → StationSt} : Touches P W s (a.modStations ch f) := by
  unfold State.modStations
  unfold rioPart at hP
  split
  · exact h.modCan (by simpa [*] using hP)
  · exact h.setEth (by simpa [*] using hP)

theorem modStation {ch k : Nat} (hP : rioPart ch ∈ P) {f : StationSt → StationSt} : Touches P W s (a.modStation ch k f) :=
  h.modStations hP

theorem setSync {ch : Nat} (hP : rioPart ch ∈ P) {x : Option Nat} : Touches P W s (a.setSync ch x) := by
  unfold State.setSync
  unfold rioPart at hP
  split
  · exact h.modCan (by simpa [*] using hP)
  · exact h.setEth (by simpa [*] using hP)

theorem putMaps {ms : List RioMap} {val : RioMap → Nat} {q : Nat → Byte} (hW : RxWithin ms W) (hP : .slots ∈ P := by decide) :
    Touches P W s (a.putMaps ms val q) :=
  h.foldl fun _ i hi hb => hb.writeSlot (hW i hi) hP

end Touches

section
variable (ch : Nat) (c : StationCfg)

theorem State.rioStale_touches (hW : RxWithin c.maps W) : Touches (rioParts ch) W s (s.rioStale ch c) :=
  Touches.modStation (.foldl .refl fun _ i hi hb => hb.writeSlot (hW i hi) (slots_mem_rioParts ch)) (rioPart_mem ch)

theorem State.rioCancel_touches (k : Nat) : Touches (rioParts ch) W s (s.rioCancel ch k) :=
  Touches.modCan (.ite (Touches.refl.modStation (rioPart_mem ch)) .refl) (can_mem_rioParts ch)

theorem State.rioLose_touches (hW : RxWithin c.maps W) : Touches (rioParts ch) W s (s.rioLose ch c) := by
  unfold State.rioLose
  split
  · exact .refl
  · extract_lets s1 s2
    have h2 : Touches (rioParts ch) W s s2 := ((Touches.refl.modStation (rioPart_mem ch)).trans
      (State.rioStale_touches ch c hW)).trans (State.rioCancel_touches ch c.addr)
    exact .ite .refl (.ite (h2.record (log_mem_rioParts ch)) (h2.record (log_mem_rioParts ch)))

theorem State.rioUnreachable_touches : Touches (rioParts ch) (rioSlots s.img ch) s (s.rioUnreachable ch) :=
  Touches.refl.foldl fun _ c hc hb => hb.trans (State.rioLose_touches ch c (rxWithin_of_mem hc))

theorem State.rioMiss_touches (hW : RxWithin c.maps W) : Touches (rioParts ch) W s (s.rioMiss ch c) := by
  unfold State.rioMiss
  extract_lets s1 s2
  have h2 : Touches (rioParts ch) W s s2 :=
    (Touches.refl.modStation (rioPart_mem ch)).trans (State.rioStale_touches ch c hW)
  split
  · exact .ite (h2.trans (State.rioLose_touches ch c hW)) h2
  · exact h2

theorem State.rioSubst_touches (hW : RxWithin c.maps W) : Touches (rioParts ch) W s (s.rioSubst ch c) :=
  (Touches.refl.putMaps hW (slots_mem_rioParts ch)).modStation (rioPart_mem ch)

/-- What an arriving frame of a station touches. -/
def arriveParts : List Part := [rioPart ch, .log, .slots]

theorem State.rioArrive_touches (data qs : Nat) (hW : RxWithin c.maps W) :
    Touches (arriveParts ch) W s (s.rioArrive ch c data qs) := by
  unfold State.rioArrive
  split
  · exact .refl
  · extract_lets s1 s2 d
    have h2 : Touches (arriveParts ch) W s s2 :=
      (Touches.refl.putMaps hW (by simp [arriveParts])).modStation (by simp [arriveParts])
    exact .ite (.ite (h2.record (by simp [arriveParts])) (h2.record (by simp [arriveParts]))) h2

theorem State.rioSyncIn_touches (hl : Nat) : Touches (rioParts ch) (rioSlots s.img ch) s (s.rioSyncIn ch hl).2 := by
  unfold State.rioSyncIn
  split
  · rename_i c cs hc
    have hW : RxWithin c.maps (rioSlots s.img ch) := rxWithin_of_mem (by simp [hc])
    split
    · exact .refl
    · extract_lets s1 s2
      have h1 : Touches (rioParts ch) (rioSlots s.img ch) s s1 := .ite (State.rioMiss_touches ch c hW) .refl
      have h2 : Touches (rioParts ch) (rioSlots s.img ch) s s2 :=
        (h1.setSync (rioPart_mem ch)).modStation (rioPart_mem ch)
      split
      · split
        · exact h2.modStation (rioPart_mem ch)
        · exact h2
      · exact h2
  · exact .refl

theorem State.rioSyncTimeout_touches : Touches (rioParts ch) (rioSlots s.img ch) s (s.rioSyncTimeout ch) :=
  .ite (State.rioUnreachable_touches ch) .refl

theorem State.rioHoldExpire_touches : Touches (rioParts ch) (rioSlots s.img ch) s (s.rioHoldExpire ch) := by
  refine .ite (Touches.refl.foldl fun b c hc hb => ?_) .refl
  split
  · exact .ite (hb.trans (State.rioSubst_touches ch c (rxWithin_of_mem hc))) hb
  · exact hb

end

/-! ### CAN FD (R396 to R413) -/

/-- The parts that the frames of a CAN channel touch, its latches among them. -/
def canParts : List Part := [.can, .log, .slots, .bus, .lat0]

theorem rioParts_subset_canParts {n : Nat} (h : n < 4) : rioParts n ⊆ canParts := by simp [rioParts, rioPart, h, canParts]

theorem arriveParts_subset_canParts {n : Nat} (h : n < 4) : arriveParts n ⊆ canParts := by simp [arriveParts, rioPart, h, canParts]

section
variable {n : Nat}

theorem Touches.canEvt (h : Touches P W s a) (hP : .can ∈ P := by decide) (hQ : .lat0 ∈ P := by decide) {b : Nat}
    {f : CanSt → CanSt} : Touches P W s (a.canEvt n b f) := (h.latchSet hQ).modCan hP

theorem Touches.canQueue (h : Touches P W s a) (hP : .can ∈ P := by decide) {f : CanFrame} {k : Option Nat} :
    Touches P W s (a.canQueue n f k) := .ite (h.modCan hP) h

theorem State.canHeard_touches : Touches canParts W s (s.canHeard n) :=
  .ite Touches.refl.modCan.canEvt.record Touches.refl.modCan

theorem State.canIntegrated_touches : Touches [.can] ∅ s (s.canIntegrated n) := .ite Touches.refl.modCan .refl

theorem State.canBack_touches : Touches [.can, .log] ∅ s (s.canBack n) := .ite Touches.refl.modCan.record .refl

theorem State.canArbitrate_touches : Touches [.can, .out] ∅ s (s.canArbitrate n) := by
  unfold State.canArbitrate
  dsimp only
  split
  · exact .refl
  · split
    · exact .refl
    · split
      · exact Touches.refl.modCan.modCan.emit
      · exact Touches.refl.modCan.emit

variable (hn : n < 4)
include hn

theorem State.rioUnreachable_touches_can : Touches canParts (rioSlots s.img n) s (s.rioUnreachable n) :=
  (State.rioUnreachable_touches n).mono (rioParts_subset_canParts hn)

theorem State.canJudge_touches : Touches canParts (rioSlots s.img n) s (s.canJudge n) := by
  have off {b code : Nat} {f : CanSt → CanSt} : Touches canParts (rioSlots s.img n) s ((s.canEvt n b f).record code n 0 []) :=
    Touches.refl.canEvt.record
  exact .ite .refl (.ite (off.trans (off.img ▸ State.rioUnreachable_touches_can hn)) (.ite off (.ite Touches.refl.modCan .refl)))

theorem State.canAlone_touches : Touches canParts (rioSlots s.img n) s (s.canAlone n) := by
  have off {b code : Nat} {f : CanSt → CanSt} : Touches canParts (rioSlots s.img n) s ((s.canEvt n b f).record code n 0 []) :=
    Touches.refl.canEvt.record
  exact .ite (off.trans (off.img ▸ State.rioUnreachable_touches_can hn)) .refl

theorem State.canRecvError_touches (p : Bool) (k : Nat) : Touches canParts (rioSlots s.img n) s (s.canRecvError n p k) := by
  have h1 {f : CanSt → CanSt} : Touches canParts (rioSlots s.img n) s (s.modCan n f) := Touches.refl.modCan
  exact .ite .refl (h1.trans (h1.img ▸ State.canJudge_touches hn))

/-- A frame's attempt leaves its buffer or its queue, before a third clash is judged. -/
theorem State.canAttemptEnd_touches (r : TxEnd) (k t : Nat) :
    Touches canParts (rioSlots s.img n) s (s.canAttemptEnd n r k t) := by
  unfold State.canAttemptEnd
  extract_lets c
  split
  · rename_i r0 g hr hg
    refine .ite .refl ?_
    extract_lets _ _ _ _ fate s1 s2 _ s3 s4
    clear_value fate
    have h1 : Touches canParts (rioSlots s.img n) s s1 := Touches.refl.modCan
    have h2 : Touches canParts (rioSlots s.img n) s s2 := by
      unfold s2
      split
      · exact h1.modCan
      · exact h1.modCan
      · exact h1
      · exact h1.modCan
    have h3 : Touches canParts (rioSlots s.img n) s s3 := .ite (.ite h2.canEvt h2.canEvt.modCan.record) h2
    have h4 : Touches canParts (rioSlots s.img n) s s4 := .ite (h3.trans State.canHeard_touches) h3
    have h5 : Touches canParts (rioSlots s.img n) s (s4.canJudge n) := h4.trans (h4.img ▸ State.canJudge_touches hn)
    exact h5.trans (h5.img ▸ State.canAlone_touches hn)
  · exact .refl

/-! #### Reception (R405 to R413) -/

omit hn in
theorem State.recDown_touches : Touches [.can, .freeCtr] ∅ s (s.recDown n) :=
  .ite Touches.refl.freeW32.modCan Touches.refl.modCan

omit hn in
theorem State.canFilter_touches (f : CanFrame) : Touches canParts W s (s.canFilter n f) := by
  have enter (one : Bool) (k : Nat) : Touches canParts W s (s.canFifo n one k f) :=
    .ite (.ite Touches.refl.canEvt Touches.refl.canEvt.modCan.record) Touches.refl.modCan
  unfold State.canFilter
  extract_lets fs
  split
  · split
    · exact .ite .refl (enter _ _)
    · exact .refl
  · exact .refl

theorem State.canRioInput_touches (c : StationCfg) (f : CanFrame) (hW : RxWithin c.maps W) :
    Touches canParts W s (s.canRioInput n c f) := by
  unfold State.canRioInput
  split
  · exact .refl
  · exact .ite Touches.refl.canEvt ((State.rioArrive_touches n c _ _ hW).mono (arriveParts_subset_canParts hn))

theorem State.canRioOutput_touches (c : StationCfg) (f : CanFrame) (hW : RxWithin c.maps W) :
    Touches canParts W s (s.canRioOutput n c f) :=
  .ite Touches.refl.canEvt ((State.rioArrive_touches n c _ _ hW).mono (arriveParts_subset_canParts hn))

theorem State.canRioSync_touches (g : CanCfg) (f : CanFrame) :
    Touches canParts (rioSlots s.img n) s (s.canRioSync n g f) := by
  have hs := (State.rioSyncIn_touches (s := s) n (rioHead f).1).mono (rioParts_subset_canParts hn)
  unfold State.canRioSync
  dsimp only
  split
  all_goals
    rename_i heq
    rw [heq] at hs
  · exact hs.canQueue
  · exact hs

/-- What the exchange does with a frame that it consumes. -/
theorem State.canConsume_touches {f : CanFrame} {u : State} (hu : s.canConsume n f = some u) :
    Touches canParts (rioSlots s.img n) s u := by
  unfold State.canConsume at hu
  split at hu
  · contradiction
  · rename_i g hg
    dsimp only at hu
    split at hu
    · contradiction
    · split at hu
      · split at hu
        · obtain ⟨c, hc, rfl⟩ := Option.map_eq_some_iff.mp hu
          exact State.canRioInput_touches hn c f (rxWithin_of_rioCfg hc)
        · contradiction
      · split at hu
        · exact Option.some.inj hu ▸ State.canRioSync_touches hn g f
        · split at hu
          · obtain ⟨c, hc, rfl⟩ := Option.map_eq_some_iff.mp hu
            exact State.canRioOutput_touches hn c f (rxWithin_of_rioCfg hc)
          · contradiction

/-- What a received frame touches: the counters too, one of which may take a free value. -/
theorem State.canReceive_touches (f : CanFrame) :
    Touches (.freeCtr :: canParts) (rioSlots s.img n) s (s.canReceive n f) := by
  refine .ite .refl ?_
  extract_lets s1
  have hd : Touches (.freeCtr :: canParts) (rioSlots s.img n) s (s.recDown n) :=
    State.recDown_touches.mono (hW := Set.empty_subset _)
  have hh : Touches (.freeCtr :: canParts) (rioSlots s.img n) s ((s.recDown n).canHeard n) :=
    hd.trans State.canHeard_touches.mono
  have h1 : Touches (.freeCtr :: canParts) (rioSlots s.img n) s s1 := hh.trans (hh.img ▸ (State.canJudge_touches hn).mono)
  split
  · rename_i s2 hs
    exact h1.trans (h1.img ▸ (State.canConsume_touches hn hs).mono)
  · exact .ite h1 (h1.trans (State.canFilter_touches f).mono)

end

/-! ### Ethernet (R422 to R440) -/

/-- A frame that arrives on a port touches ETH's own lists, and what an accepted one does (R423). -/
theorem Touches.ethIn {r : EthRx} {len : Nat} {f : State → State} (hf : ∀ b, Touches P W s b → Touches P W s (f b))
    (hP : .eth ∈ P := by decide) : Touches P W s (s.ethIn r len f) := by
  refine .ite .refl ?_
  split
  · exact .ite (Touches.refl.setEth hP) (hf _ (Touches.refl.setEth hP))
  · exact hf _ .refl

theorem Touches.ethSend (h : Touches P W s a) (hP : .eth ∈ P := by decide) (hQ : .out ∈ P := by decide) {m : EthMsg} :
    Touches P W s (a.ethSend m) := .ite (((h.setEth hP).emit hQ).emit hQ) (h.emit hQ)

theorem State.ethLink_touches (e2 : Bool) (v : Nat) :
    Touches [.can, .eth, .log, .slots] (rioSlots s.img 4) s (s.ethLink e2 v) := by
  refine .ite .refl ?_
  extract_lets v was _ s1
  have h1 : Touches [.can, .eth, .log, .slots] (rioSlots s.img 4) s s1 := .ite Touches.refl.setEth Touches.refl.setEth
  exact .ite (h1.trans (h1.img ▸ (State.rioUnreachable_touches 4).mono)) h1

/-- What a remote-I/O datagram with inputs or outputs touches. -/
def ethParts : List Part := [.eth, .log, .slots, .bus, .lat0]

theorem Touches.ethRioErr (h : Touches P W s a) (hP : .eth ∈ P := by decide) (hQ : .lat0 ∈ P := by decide) {x y z : Bool} :
    Touches P W s (a.ethRioErr x y z) := (h.latchSet hQ).setEth hP

theorem State.ethRioInput_touches (ip : W32) (d : List Byte) :
    Touches ethParts (rioSlots s.img 4) s (s.ethRioInput ip d) := by
  unfold State.ethRioInput
  dsimp only
  refine .ite .refl ?_
  split
  · exact .refl
  · rename_i c hc
    split
    · exact .refl
    · exact .ite .refl (.ite Touches.refl.ethRioErr ((State.rioArrive_touches 4 c _ _ (rxWithin_of_rioCfg hc)).mono))

/-- The master's entry is one of ETH's stations. -/
theorem State.mem_of_ethMaster {ip : W32} {c : StationCfg} (h : s.ethMaster ip = some c) : c ∈ rioCfgs s.img 4 := by
  unfold State.ethMaster at h
  split at h
  · exact List.mem_of_find?_eq_some h
  · contradiction

theorem State.ethRioOutput_touches (ip : W32) (d : List Byte) :
    Touches ethParts (rioSlots s.img 4) s (s.ethRioOutput ip d) := by
  unfold State.ethRioOutput
  dsimp only
  split
  · rename_i c hc
    exact .ite .refl (.ite Touches.refl.ethRioErr
      ((State.rioArrive_touches 4 c _ _ (rxWithin_of_mem (State.mem_of_ethMaster hc))).mono))
  · exact .refl

theorem State.ethRioSync_touches (ip : W32) (d : List Byte) :
    Touches [.can, .eth, .log, .slots, .out] (rioSlots s.img 4) s (s.ethRioSync ip d) := by
  have hs := (State.rioSyncIn_touches (s := s) 4 (rioParse d).hlow).mono (Q := [.can, .eth, .log, .slots, .out])
  unfold State.ethRioSync
  dsimp only
  split
  · refine .ite .refl ?_
    split
    all_goals
      rename_i heq
      rw [heq] at hs
    · exact hs.ethSend
    · exact hs
  · exact .refl

theorem State.ethStop_touches (ip : W32) (k : Nat) :
    Touches [.can, .eth, .log, .slots] (rioSlots s.img 4) s (s.ethStop ip k) := by
  refine .ite .refl ?_
  split
  · rename_i c hc
    exact (State.rioLose_touches 4 c (rxWithin_of_mem (List.mem_of_find?_eq_some hc))).mono
  · exact .refl

/-! ### The safety layer (R441 to R447) -/

/-- What a connection touches that goes PASSIVE or takes a PDU's data. -/
def uslParts : List Part := [.usl, .log, .slots, .bus, .lat0]

/-- The slots that a connection's RX mappings write. -/
def uslSlots (c : UslCfg) : Set Nat := { j | j ∈ rxSlots c.maps }

section
variable {n : Nat} {c : UslCfg}

theorem Touches.modUsl (h : Touches P W s a) (hP : .usl ∈ P := by decide) {f : UslSt → UslSt} : Touches P W s (a.modUsl n f) :=
  h.setUsl hP

theorem Touches.uslPassivate (h : Touches uslParts W s a) (hW : uslSlots c ⊆ W) {k : Nat} :
    Touches uslParts W s (a.uslPassivate c k) := (h.latchSet.modUsl.putMaps hW).record

theorem Touches.uslAccept (h : Touches P W s a) {put : State → State}
    (hput : ∀ b, Touches P W s b → Touches P W s (put b)) (hP : .usl ∈ P := by decide) (hQ : .log ∈ P := by decide) : Touches P W s (a.uslAccept c put) := by
  unfold State.uslAccept
  split
  · exact h
  · dsimp only
    split
    · exact hput _ (h.modUsl hP)
    · exact hput _ h
    · have back {f : UslSt → UslSt} : Touches P W s ((put (a.modUsl c.conn f)).record 0x0F02 c.conn 0 []) :=
        (hput _ (h.modUsl hP)).record hQ
      exact .ite (.ite back (h.modUsl hP)) (.ite back (h.modUsl hP))

theorem Touches.uslSend (h : Touches P W s a) (hE : .eth ∈ P := by decide) (hO : .out ∈ P := by decide) (hC : .can ∈ P := by decide)
    {ack : Bool} {p : List Byte} : Touches P W s (a.uslSend c ack p) := .ite (h.ethSend hE hO) (h.canQueue hC)

theorem State.uslAckTake_touches (p : List Byte) : Touches [.usl, .log] ∅ s (s.uslAckTake n p) := by
  unfold State.uslAckTake
  split
  · exact .ite .refl (Touches.refl.modUsl.uslAccept fun _ hb => hb)
  · exact .refl

theorem State.uslAckTimeout_touches : Touches uslParts (cfgSlots uslSlots (uslCfg s.img n)) s (s.uslAckTimeout n) := by
  unfold State.uslAckTimeout
  split
  · rename_i c x hc hx
    split
    · exact .ite .refl (.ite Touches.refl.modUsl (Touches.refl.modUsl.uslPassivate (subset_cfgSlots c hc)))
    · exact .refl
  · exact .refl

theorem State.uslExpire_touches : Touches uslParts (cfgSlots uslSlots (uslCfg s.img n)) s (s.uslExpire n) := by
  unfold State.uslExpire
  split
  · rename_i c x hc hx
    split
    · exact .ite .refl (.ite (Touches.refl.modUsl.uslPassivate (subset_cfgSlots c hc)) Touches.refl.modUsl)
    · exact .refl
  · exact .refl

/-- What a sink's PDU touches: its ACK goes out on Ethernet or on CAN. -/
def uslDataParts : List Part := [.can, .eth, .out] ++ uslParts

theorem State.uslDataTake_touches (p : List Byte) (hW : ∀ c, uslCfg s.img n = some c → uslSlots c ⊆ W) :
    Touches uslDataParts W s (s.uslDataTake n p) := by
  unfold State.uslDataTake
  split
  · rename_i c x hc hx
    have reject {f : UslSt → UslSt} : Touches uslDataParts W s (s.uslReject n f) := Touches.refl.modUsl
    refine .ite .refl (.ite ?_ (.ite reject (.ite reject (.ite reject (Touches.uslSend ?_)))))
    · exact .ite (reject.trans (Touches.refl.uslPassivate (hW c hc)).mono) reject
    · refine Touches.refl.modUsl.uslAccept fun b hb => ?_
      exact .ite (hb.putMaps (hW c hc)) (hb.putMaps (hW c hc))
  · exact .refl

theorem Touches.uslVia {r : Option EthRx} {len : Nat} {f : State → State} (hf : ∀ b, Touches P W s b → Touches P W s (f b))
    (hP : .eth ∈ P := by decide) : Touches P W s (s.uslVia r len f) := by
  unfold State.uslVia
  split
  · exact .ethIn hf hP
  · exact hf _ .refl

end

/-! ### The statement -/

/-- Settles O59: each event is one operation, whose frame names the parts and the slots that it may change. -/
theorem networkFrames : Obligations.NetworkFrames := by
  unfold Obligations.NetworkFrames
  have received (s : State) (dt n : Nat) (f : CanFrame) (hn : n < 4) :=
    State.canReceive_touches (s := s.advance dt) hn f
  refine ⟨fun s dt n => ⟨_, rfl, State.canIntegrated_touches.eq⟩, fun s dt n => ⟨_, rfl, State.canArbitrate_touches.eq⟩,
    fun s dt n => ⟨_, rfl, State.canBack_touches.eq⟩, fun s dt n k t r h hn => ⟨_, rfl, ?attemptEnd⟩,
    fun s dt n k p h hn => ⟨_, rfl, ?receiveError⟩,
    fun s dt n f h hn => ⟨_, rfl, (received s dt n f hn).eq, fun j hj => (received s dt n f hn).slot h.image j (not_mem_rioSlots hj)⟩,
    fun s dt n f h hn => ⟨_, rfl, (received s dt n f hn).eq, fun j hj => (received s dt n f hn).slot h.image j (not_mem_rioSlots hj)⟩,
    fun s dt n f h hn => ⟨_, rfl, (received s dt n f hn).eq, fun j hj => (received s dt n f hn).slot h.image j (not_mem_rioSlots hj)⟩,
    fun s dt n f h hn => ⟨_, rfl, (received s dt n f hn).eq, fun j hj => (received s dt n f hn).slot h.image j (not_mem_rioSlots hj)⟩,
    fun s dt n h => ⟨_, rfl, ?syncTimeout⟩, fun s dt n h => ⟨_, rfl, ?holdExpire⟩, fun s dt e v h => ⟨_, rfl, ?link⟩,
    fun s dt rx ip l h => ⟨_, rfl, ?input⟩, fun s dt rx ip l h => ⟨_, rfl, ?sync⟩, fun s dt rx ip l h => ⟨_, rfl, ?output⟩,
    fun s dt rx ip k h => ⟨_, rfl, ?stop⟩, fun s dt rx n l h => ⟨_, rfl, ?data⟩, fun s dt rx n l => ⟨_, rfl, ?ack⟩,
    fun s dt n h => ⟨_, rfl, ?watchdog⟩, fun s dt n h => ⟨_, rfl, ?ackTimeout⟩⟩
  case attemptEnd =>
    have ht := State.canAttemptEnd_touches (s := s.advance dt) hn r k t
    exact ⟨ht.eq, fun j hj => ht.slot h.image j (not_mem_rioSlots hj)⟩
  case receiveError =>
    have ht := State.canRecvError_touches (s := s.advance dt) hn p k
    exact ⟨ht.eq, fun j hj => ht.slot h.image j (not_mem_rioSlots hj)⟩
  case syncTimeout =>
    have hr := ((State.rioSyncTimeout_touches (s := s.advance dt) n).mono (rioParts_subset n)).mono (Q := .expiring :: [.can, .eth, .log, .slots])
    have ht := Touches.refl.expire (e := .stationSync n) hr
    exact ⟨ht.eq, fun j hj => ht.slot h.image j (not_mem_rioSlots hj)⟩
  case holdExpire =>
    have hr := ((State.rioHoldExpire_touches (s := s.advance dt) n).mono (rioParts_subset n)).mono (Q := .expiring :: [.can, .eth, .log, .slots])
    have ht := Touches.refl.expire (e := .stationHold n) hr
    exact ⟨ht.eq, fun j hj => ht.slot h.image j (not_mem_rioSlots hj)⟩
  case link =>
    have ht := State.ethLink_touches (s := s.advance dt) e v
    exact ⟨ht.eq, fun j hj => ht.slot h.image j (not_mem_rioSlots hj)⟩
  case input =>
    have ht : Touches ethParts (rioSlots (s.advance dt).img 4) (s.advance dt)
        ((s.advance dt).ethIn rx l.length (State.ethRioInput ip l)) := .ethIn fun b hb => hb.trans (hb.img ▸ State.ethRioInput_touches ip l)
    exact ⟨ht.eq, fun j hj => ht.slot h.image j (not_mem_rioSlots hj)⟩
  case sync =>
    have ht : Touches [.can, .eth, .log, .slots, .out] (rioSlots (s.advance dt).img 4) (s.advance dt)
        ((s.advance dt).ethIn rx l.length (State.ethRioSync ip l)) := .ethIn fun b hb => hb.trans (hb.img ▸ State.ethRioSync_touches ip l)
    exact ⟨ht.eq, fun j hj => ht.slot h.image j (not_mem_rioSlots hj)⟩
  case output =>
    have ht : Touches ethParts (rioSlots (s.advance dt).img 4) (s.advance dt)
        ((s.advance dt).ethIn rx l.length (State.ethRioOutput ip l)) := .ethIn fun b hb => hb.trans (hb.img ▸ State.ethRioOutput_touches ip l)
    exact ⟨ht.eq, fun j hj => ht.slot h.image j (not_mem_rioSlots hj)⟩
  case stop =>
    have ht : Touches [.can, .eth, .log, .slots] (rioSlots (s.advance dt).img 4) (s.advance dt)
        ((s.advance dt).ethIn rx 8 (State.ethStop ip k)) := .ethIn fun b hb => hb.trans (hb.img ▸ State.ethStop_touches ip k)
    exact ⟨ht.eq, fun j hj => ht.slot h.image j (not_mem_rioSlots hj)⟩
  case data =>
    have ht : Touches uslDataParts (cfgSlots uslSlots (uslCfg (s.advance dt).img n)) (s.advance dt)
        ((s.advance dt).uslDataIn rx n l) :=
      .uslVia fun b hb => hb.trans (State.uslDataTake_touches l (hb.img ▸ subset_cfgSlots))
    exact ⟨ht.eq, fun j hj => ht.slot h.image j fun ⟨c, hc, hm⟩ => hj c hc hm⟩
  case ack =>
    have ht : Touches [.usl, .log, .eth] ∅ (s.advance dt) ((s.advance dt).uslAckIn rx n l) :=
      .uslVia fun b hb => hb.trans (State.uslAckTake_touches l).mono
    exact ht.eq
  case watchdog =>
    have hr := (State.uslExpire_touches (s := s.advance dt) (n := n)).mono (Q := .expiring :: uslParts)
    have ht := Touches.refl.expire (e := .uslWatchdog n) hr
    exact ⟨ht.eq, fun j hj => ht.slot h.image j fun ⟨c, hc, hm⟩ => hj c hc hm⟩
  case ackTimeout =>
    have hr := (State.uslAckTimeout_touches (s := s.advance dt) (n := n)).mono (Q := .expiring :: uslParts)
    have ht := Touches.refl.expire (e := .uslAck n) hr
    exact ⟨ht.eq, fun j hj => ht.slot h.image j fun ⟨c, hc, hm⟩ => hj c hc hm⟩

end Sys2Proof.Machine
end

section
/-! PROOFS. What the end of every command leaves alone (R45, R150, R253, R380, R454). -/

namespace Sys2Proof.Machine

-- a membership that `by decide` fills in waits for the declarations before it: they are elaborated in order
set_option Elab.async false

/-- The parts that the end of a command may change. -/
def finishParts : List Part :=
  [.ms, .loop, .fld, .slots, .statLast, .lat0, .parity, .highAt, .log, .soChans, .leds]

/-- `u` differs from `s` only where the end of a command may change it; status words may stand in any slot. -/
abbrev FinishTouches (s u : State) : Prop := Touches finishParts Set.univ s u

variable {s a : State}

theorem Touches.writeAnywhere (h : FinishTouches s a) {r : SlotRef} {v : Nat} {q : Byte} : FinishTouches s (a.writeRef r v q) :=
  h.writeRef fun _ _ => Set.mem_univ _

/-! ### Milestones (R250 to R255, R260) -/

theorem Touches.modMs (h : FinishTouches s a) {n : Nat} {f : MsSlotSt → MsSlotSt} : FinishTouches s (a.modMs n f) := h.setMs

theorem Touches.dioMs (h : FinishTouches s a) {ch : Nat} {v : Bool} : FinishTouches s (a.dioMs ch v) := h.setFld

theorem Touches.msPulseStart (h : FinishTouches s a) (n ch : Nat) (c : MsSlotCfg) : FinishTouches s (a.msPulseStart n ch c) :=
  .ite h.modMs h.modMs.dioMs

/-- An AI_SAMPLE touches its channel (R361). -/
theorem State.aiTrigger_touches (n : Nat) : Touches [.fld, .lat0] ∅ s (s.aiTrigger n) := by
  unfold State.aiTrigger
  split
  · exact .ite .refl (.ite Touches.refl.latchSet.setFld Touches.refl.setFld)
  · exact .refl

theorem State.msAction_touches (n : Nat) (c : MsSlotCfg) : FinishTouches s (s.msAction n c) := by
  unfold State.msAction
  dsimp only
  split
  · exact .ite .refl Touches.refl.dioMs
  · exact Touches.refl.dioMs.setMs
  · exact Touches.refl.msPulseStart _ _ _
  · exact (s.loopTrigger_touches _).mono (hW := Set.subset_univ _)
  · exact (State.aiTrigger_touches _).mono (hW := Set.subset_univ _)
  · exact Touches.refl.writeAnywhere
  · exact Touches.refl.modMs
  · exact Touches.refl.modMs
  · exact Touches.msPulseStart Touches.refl.modMs.setMs _ _ _
  · exact .refl

theorem Touches.msFire (h : FinishTouches s a) (n : Nat) (c : MsSlotCfg) (k : Nat) (cy : Int) : FinishTouches s (a.msFire n c k cy) :=
  h.modMs.trans (State.msAction_touches n c)

theorem Touches.msPassed (h : FinishTouches s a) (n : Nat) (c : MsSlotCfg) (m : MsSlotSt) : FinishTouches s (a.msPassed n c m) := by
  unfold State.msPassed
  dsimp only
  split
  · exact h
  · exact .ite h (.ite (.ite h.modMs (.ite h.modMs (h.msFire _ _ _ _))) h.modMs)

theorem State.msLookSlot_touches (n : Nat) : FinishTouches s (s.msLookSlot n) := by
  unfold State.msLookSlot
  split
  · rename_i m c hm hc
    extract_lets bad armed tg cy s2 s3 s4
    have h2 : FinishTouches s s2 := Touches.refl.modMs
    have h3 : FinishTouches s s3 := .ite (h2.msPassed _ _ _) h2
    have h4 : FinishTouches s s4 := .ite (h3.msFire _ _ _ _) h3
    split
    · exact .ite h4 h4.writeAnywhere.modMs
    · exact h4
  · exact .refl

theorem State.msLook_touches : FinishTouches s s.msLook :=
  .ite .refl (Touches.refl.foldl fun _ m _ hb => hb.trans (State.msLookSlot_touches m.num))

/-- Without a milestone in the image nothing is looked for (R250). -/
theorem State.msLook_of_no_slots (h : s.img.ms.slots = []) : s.msLook = s := by
  have hstep (n : Nat) : s.msLookSlot n = s := by
    simp [State.msLookSlot, msCfg, h, findKey]
  have hall (l : List MsSlotSt) : l.foldl (fun s m => s.msLookSlot m.num) s = s := by
    induction l with
    | nil => rfl
    | cons m r ih => simpa [hstep] using ih
  unfold State.msLook
  split
  · rfl
  · exact hall _

/-! ### Demands, status words, outputs and indicators (R87, R150, R380, R454, R482) -/

/-- The parts that the demands and the status words may change. -/
def wordParts : List Part := [.slots, .statLast, .lat0, .soChans]

/-- The parts that the end of a command may change once its milestones are done. -/
def lookParts : List Part := [.fld, .highAt, .leds] ++ wordParts

theorem State.soLook_touches : Touches wordParts Set.univ s s.soLook :=
  Touches.refl.foldl fun _ _ _ hb => .ite (.ite hb.latchSet.setSoChans hb) hb

theorem State.putStatus_touches (p : SlotRef × Nat) : Touches wordParts Set.univ s (s.putStatus p) := by
  have put {r : SlotRef} {v : Nat} {q : Byte} : Touches wordParts Set.univ s (s.writeRef r v q) :=
    Touches.refl.writeRef fun _ _ => Set.mem_univ _
  unfold State.putStatus
  dsimp only
  split
  · exact .ite .refl put.setStatLast
  · exact put.setStatLast

theorem State.syncStatus_touches : Touches wordParts Set.univ s s.syncStatus :=
  .ite (Touches.refl.foldl fun _ p _ hb => hb.trans (State.putStatus_touches p)) .refl

theorem State.dioLook_touches : Touches lookParts Set.univ s s.dioLook := Touches.refl.setFld

theorem State.senseOwner_touches : Touches lookParts Set.univ s s.senseOwner := Touches.refl.setHighAt

theorem State.setLeds_touches : Touches lookParts Set.univ s s.setLeds := Touches.refl.setLeds

/-- The demands and the status words that follow the milestones. -/
theorem syncStatus_touches_after_msLook (s : State) : Touches wordParts Set.univ s.msLook s.msLook.soLook.syncStatus :=
  State.soLook_touches.trans State.syncStatus_touches

/-- What the end of a command touches once its milestones are done (R45). -/
theorem finish_touches_after_msLook (s : State) : Touches lookParts Set.univ s.msLook (finish s) :=
  (((syncStatus_touches_after_msLook s).mono.trans State.dioLook_touches).trans State.senseOwner_touches).trans
    State.setLeds_touches

/-- What the end of a command may touch (R45). -/
theorem finish_touches (s : State) : FinishTouches s (finish s) :=
  State.msLook_touches.trans (finish_touches_after_msLook s).mono

theorem finish_img (s : State) : (finish s).img = s.img := (finish_touches s).img

/-- Where no milestone stands in the image, the end of a command leaves the loop engine as it is. -/
theorem finish_loop_of_no_slots (h : s.img.ms.slots = []) : (finish s).loop = s.loop := by
  have hk := congrArg State.loop (finish_touches_after_msLook s).eq
  rwa [State.msLook_of_no_slots h] at hk

/-- Nor the analog outputs: of the field only the digital channels are looked at (R380). -/
theorem finish_ao_of_no_slots (h : s.img.ms.slots = []) : (finish s).fld.ao = s.fld.ao := by
  have hk : (finish s).fld.ao = s.msLook.fld.ao := congrArg (·.fld.ao) (syncStatus_touches_after_msLook s).eq
  rwa [State.msLook_of_no_slots h] at hk

/-- Settles O47: the steps of `finish` one after another, each with its own parts. -/
theorem commandEndKeeps : Obligations.CommandEndKeeps := fun s => (finish_touches s).eq

end Sys2Proof.Machine
end

section
/-! PROOFS. Requests that a session has not sent before: what is answered, by the stages of R175, and from it the reads
and the forces (R40, R43, R98, R175, R432 to R437). -/

namespace Sys2Proof.Machine

variable {a : State} {sid req : Nat} {x : Session}

/-! ### One new request -/

theorem State.Asks.serve (h : a.Asks sid req x) (r : SmpReq) : a.serve r = a.runSmp r := by
  simp [State.serve, h.idle, h.empty]

theorem State.Asks.request (h : a.Asks sid req x) {cmd code : Nat} {run : Session → State → Answer} {s : State}
    {p : List Byte} (hrun : run x (a.taken sid req cmd) = (s, some (code, p))) :
    a.request sid req cmd run = s.answer sid req code p := by
  simp [State.request, h.served, h.session, h.fresh, hrun]

/-- A request that passes the role, the table and the layout is its command's own to answer. -/
theorem State.Asks.command {r : SmpReq} (h : a.Asks r.sid r.req x) {fits : Bool} {min : Role} {anyU : Bool}
    {table : State → Bool} {own : Session → State → Answer} {s : State} {code : Nat} {p : List Byte}
    (hrole : a.roleOk min anyU x = true) (htable : table (a.taken r.sid r.req r.cmd) = true) (hfits : fits = true)
    (hlen : r.p.length ≤ 1100) (hown : own x (a.taken r.sid r.req r.cmd) = (s, some (code, p))) :
    a.command r fits min anyU table own = s.answer r.sid r.req code p := by
  unfold State.command
  exact h.request (by simp [State.checked, hrole, htable, hfits, hlen, hown])

/-- A payload that has not its command's layout is MALFORMED. -/
theorem State.Asks.malformed {r : SmpReq} (h : a.Asks r.sid r.req x) {fits : Bool} {min : Role} {anyU : Bool}
    {table : State → Bool} {own : Session → State → Answer} (hrole : a.roleOk min anyU x = true)
    (htable : table (a.taken r.sid r.req r.cmd) = true) (hfits : fits = false) :
    a.command r fits min anyU table own = (a.taken r.sid r.req r.cmd).answer r.sid r.req 0x42 [] := by
  unfold State.command
  exact h.request (by simp [State.checked, hrole, htable, hfits, refuse])

/-! ### Reads -/

theorem State.runSmp_unknown (s : State) {r : SmpReq} (h : r.cmd ∉ smpCodes) :
    s.runSmp r = s.request r.sid r.req r.cmd fun _ s => refuse 0x41 s := by
  unfold State.runSmp
  split
  case h_37 => rfl
  all_goals next hc => exact absurd (by rw [hc]; decide) h

theorem exec_unknownCmd (dt cmd : Nat) (p : List Byte) (s : State) (h : (s.advance dt).Asks sid req x)
    (hc : cmd ∉ smpCodes) :
    exec (.unknownCmd dt sid req cmd p) s =
      .next (finish (((s.advance dt).taken sid req cmd).answer sid req 0x41 [])) := by
  change done ((s.advance dt).serve _) = _
  rw [h.serve, State.runSmp_unknown _ hc, h.request rfl]
  rfl

/-- Settles O5: each read passes the stages of R175 with a well-formed payload and answers with its own payload; a code
outside R433 falls to the table's last line. -/
theorem smpReads : Obligations.SmpReads := by
  refine ⟨?_, ?_, ?_, ?_, ?_, ?_, ?_⟩
  · rintro s a dt sid req p x cmd rfl h hc
    exact exec_unknownCmd dt cmd p s h hc
  · rintro s a dt sid req p x rfl h hrole hp
    refine congrArg done ((h.serve _).trans ?_)
    exact h.command (r := { sid := sid, req := req, cmd := 0x01, p := p }) hrole rfl (by simp [SmpReq.len, hp])
      (by simp [hp]) rfl
  · rintro s a dt sid req p x rfl h hrole hp
    refine congrArg done ((h.serve _).trans ?_)
    exact h.command (r := { sid := sid, req := req, cmd := 0x02, p := p }) hrole rfl (by simp [SmpReq.len, hp])
      (by simp [hp]) rfl
  · rintro s a dt sid req p x rfl h hrole hp h1 h32
    refine congrArg done ((h.serve _).trans ?_)
    exact h.command (r := { sid := sid, req := req, cmd := 0x03, p := p }) hrole rfl (by simp [SmpReq.len, SmpReq.num, hp, h1, h32])
      (by simp [hp]) rfl
  · rintro s a dt sid req p x rfl h hrole hp h1 h128 htop
    refine congrArg done ((h.serve _).trans ?_)
    exact h.command (r := { sid := sid, req := req, cmd := 0x06, p := p }) hrole rfl
      (by simp [SmpReq.len, SmpReq.num, hp, h1, h128, htop]) (by simp [hp]) rfl
  · rintro s a dt sid req p x rfl h hrole hp
    refine congrArg done ((h.serve _).trans ?_)
    exact h.malformed (r := { sid := sid, req := req, cmd := 0x06, p := p }) hrole rfl (by simp [SmpReq.len, hp])
  · rintro s a dt sid req p x rfl h hrole hp
    refine congrArg done ((h.serve _).trans ?_)
    exact h.malformed (r := { sid := sid, req := req, cmd := 0x01, p := p }) hrole rfl (by simp [SmpReq.len, hp])

/-! ### Forces -/

/-- Settles O13: FORCE_SET and FORCE_RELEASE pass the stages of R175, and each own condition picks the branch that lists
or removes the force. -/
theorem smpForces : Obligations.SmpForces := by
  refine ⟨?_, ?_, ?_⟩
  · rintro s a dt sid req p x i st v rfl h hrole hkey hmode hp rfl rfl h0 rfl hst hforce hroom
    refine congrArg done ((h.serve _).trans ?_)
    change State.forceSet _ _ = _
    refine h.command (r := { sid := sid, req := req, cmd := 0x40, p := p }) (min := .engineer) (anyU := false)
      (table := fun s => s.inProg && s.isActive) hrole (by simp [State.inProg, State.isActive, hkey, hmode])
      (by simp [SmpReq.len, SmpReq.num, hp, h0, hst]) (by simp [hp]) ?_
    have hopen : ((s.advance dt).taken sid req 0x40).forceable (getN p 0 2) = true := hforce
    have hfit : (!((s.advance dt).taken sid req 0x40).forced (getN p 0 2) &&
        decide (256 ≤ ((s.advance dt).taken sid req 0x40).forces.length)) = false := by
      rcases hroom with hr | hr
      · have hr' : ((s.advance dt).taken sid req 0x40).forced (getN p 0 2) = true := hr
        simp [hr']
      · simp [Nat.not_le.2 hr]
    simp only [SmpReq.num, hopen, hfit]
    rfl
  · rintro s a dt sid req p x i rfl h hrole hmode hp rfl h0 hforced
    refine congrArg done ((h.serve _).trans ?_)
    refine h.command (r := { sid := sid, req := req, cmd := 0x41, p := p }) hrole
      (by simp [State.isActive, hmode])
      (by simp [SmpReq.len, SmpReq.num, hp, h0]) (by simp [hp]) ?_
    have hon : ((s.advance dt).taken sid req 0x41).forced (getN p 0 2) = true := hforced
    simp [ok, State.releaseForces, SmpReq.num, h0, hon]
  · rintro s a dt sid req p x i rfl h hrole hmode hp rfl h1 hany
    refine congrArg done ((h.serve _).trans ?_)
    refine h.command (r := { sid := sid, req := req, cmd := 0x41, p := p }) hrole
      (by simp [State.isActive, hmode])
      (by simp [SmpReq.len, SmpReq.num, hp, h1]) (by simp [hp]) ?_
    simp [ok, State.releaseForces, SmpReq.num, h1, hany]

end Sys2Proof.Machine
end

section
/-! PROOFS. A sample that is not finite: its output slot holds its own value, not the law's (R287). -/

namespace Sys2Proof.Machine

/-- A context in MAN whose output starts at 1.0, its manual value read from a slot. -/
def notFiniteCfg : LoopCfg :=
  { ctx := 0, law := 0, trig := 0, period := 400, offset := 0, deadline := 400, profile := false, initMode := 0
    regions := 1, missLimit := 3, supvAct := 0, olo := 0, ohi := 0x42C80000, orate := 0, hrate := 0, hys := 0, vmax := 0
    amax := 0, jmax := 0, feLim := 0, feTime := 1, satTime := 1, manv0 := 0x3F800000, pvRef := none, spRef := none
    cspRef := none, ffRef := none, trkRef := none, manRef := some ⟨80, 0, 31, false⟩, modeRef := none, schedRef := none
    outBind := some ⟨70, 0, 31, false⟩, statBind := none, pspBind := none, banks := List.replicate 64 0 }

/-- A GOOD manual value that is not a number. -/
def notFiniteLatch : LoopLatch := { trig := 0, man := some (0x7FC00000, 3) }

/-- An ACTIVE module whose context, fresh from the commit, ends its first sample; slot 70 has never been written. -/
def notFiniteState : State :=
  { State.reset with
    mode := .active, pair := { drive := true }, clock := 66
    store := { image := some { loops := { ctxs := [notFiniteCfg] } } }
    loop := { ctxs := [freshCtx notFiniteCfg notFiniteCfg.manv0], run := [(0, 0, notFiniteLatch)] } }

/-- The context takes what its output slot holds, 0. -/
theorem notFinite_commit_out :
    ((((notFiniteState.advance 0).loopEnd true).ctx 0).map (·.out)) = some 0 := by
  decide +kernel

/-- Refutes O32: the clause on commits takes OUT from the law's sample, but R287 holds a sample that is not finite at the
value that its output slot has. -/
theorem not_loopSamplesRun : ¬ Obligations.LoopSamplesRun := by
  rintro ⟨-, -, hcommit, -⟩
  obtain ⟨u, k, y, hx, -, hy, rfl, -, hout, -⟩ := hcommit notFiniteState _ 0 0 0
    (freshCtx notFiniteCfg notFiniteCfg.manv0) notFiniteCfg notFiniteLatch ⟨70, 0, 31, false⟩ rfl rfl (by decide) (by decide)
    rfl rfl rfl rfl rfl (by decide)
  have hfin : finish ((notFiniteState.advance 0).loopEnd true) = finish u := Host.Outcome.next.inj hx
  have himg : u.img.ms.slots = [] := by
    rw [← finish_img u, ← hfin, finish_img]
    decide +kernel
  have hloop : u.loop = ((notFiniteState.advance 0).loopEnd true).loop := by
    rw [← finish_loop_of_no_slots himg, ← hfin, finish_loop_of_no_slots (by decide +kernel)]
  have hown : (u.ctx 0).map (·.out) = some 0 := by
    rw [State.ctx, hloop]
    exact notFinite_commit_out
  rw [hy, Option.map_some, hout] at hown
  -- the law's sample keeps the context's last output, 1.0
  exact absurd (Option.some.inj hown) (by decide +kernel)

end Sys2Proof.Machine
end

section
/-! PROOFS. The deadline of a missing frame is looked up by place in the list, and the statement's record by its number
(R28, R372). -/

namespace Sys2Proof.Machine

/-- A channel that drives 4 mA under a frame of tick 0. -/
def drivingAo : AoSt := { n := 0, drv := some (mA 4000), lastFrame := some 0 }

/-- Channel 0 stands behind channel 1, whose own 100 µs end in this very tick. -/
def swappedAo : State :=
  { State.reset with clock := 50000, fld := { ao := [{ n := 1, lastFrame := some 10000 }, drivingAo] } }

/-- The event waits for the tick's end, and channel 0 does not hold yet. -/
theorem swappedAo_frameTimeout_ao :
    findKey (·.n) 0 ((swappedAo.advance 0).expire (.aoFrame 0)).fld.ao = some drivingAo := by
  decide +kernel

/-- Refutes O35: the clause on missing frames looks its channel up by number; the model takes the deadline of the record in
the channel's place, and where that is another's and ends in this tick, the channel holds only as the tick ends. No commit
lists channels so; the clause does not exclude it. -/
theorem not_analogOutputsRun : ¬ Obligations.AnalogOutputsRun := by
  rintro ⟨-, -, htimeout, -⟩
  obtain ⟨u, y, hx, hy, rfl, -⟩ := htimeout swappedAo _ 0 0 0 drivingAo (mA 4000) rfl (by decide +kernel) rfl
    (by decide +kernel) rfl rfl
  have hfin : finish ((swappedAo.advance 0).expire (.aoFrame 0)) = finish u := Host.Outcome.next.inj hx
  have himg : u.img.ms.slots = [] := by
    rw [← finish_img u, ← hfin, finish_img]
    decide +kernel
  have hao : u.fld.ao = ((swappedAo.advance 0).expire (.aoFrame 0)).fld.ao := by
    rw [← finish_ao_of_no_slots himg, ← hfin, finish_ao_of_no_slots (by decide +kernel)]
  rw [hao, swappedAo_frameTimeout_ao] at hy
  exact absurd (congrArg AoSt.hold (Option.some.inj hy)) (by decide)

end Sys2Proof.Machine
end

section
/-! PROOFS. Functions that stop, ACTIVE that is left, and module faults: what they leave of the supervision and of the
sequencers (R166, R177, R180, R502, R516 to R518). -/

namespace Sys2Proof.Machine

-- a membership that `by decide` fills in waits for the declarations before it: they are elaborated in order
set_option Elab.async false

/-- Every part that a frame speaks of. -/
def allParts : List Part :=
  [.ms, .loop, .slv, .fld, .can, .eth, .usl, .log, .slots, .statLast, .bus, .lat0, .parity, .highAt, .soChans, .leds, .out,
   .sessions, .freeCtr, .expiring]

/-- `u` differs from `s` in the parts of the functions alone, and in any slot. -/
abbrev FuncTouches (s u : State) : Prop := Touches allParts Set.univ s u

/-- `u`, in mode `m`, has the time and the supervision of `s`; its sequencers keep their cause, and those that stand and
evaluate nothing stay so. -/
structure Halts (m : ModState) (s u : State) : Prop where
  mode : u.mode = m
  clock : u.clock = s.clock
  diag : u.diag = s.diag
  stopped : u.panel.mgmtStopped = s.panel.mgmtStopped
  cause : u.seq.cause = s.seq.cause
  hold : s.seq.hold = true → u.seq.hold = true
  eval : s.seq.eval = false → u.seq.eval = false

section
variable {m n : ModState} {s a u : State}

/-! ### Wide frames -/

namespace Touches

variable (h : FuncTouches s a)
include h

theorem anySlot {i : Nat} {v : W32} {q : Byte} : FuncTouches s (a.writeSlot i v q) := h.writeSlot (Set.mem_univ _)

theorem anyOpt {r : Option SlotRef} {v : Nat} {q : Byte} : FuncTouches s (a.writeOpt r v q) :=
  h.writeOpt fun _ _ _ _ => Set.mem_univ _

theorem r38 {f : Nat} {x : Option Nat} {l : List Nat} : FuncTouches s (a.r38 f x l) :=
  h.foldl fun _ _ _ hb => .ite hb hb.anySlot

theorem anyMaps {l : List RioMap} {v : RioMap → Nat} {q : Nat → Byte} : FuncTouches s (a.putMaps l v q) :=
  h.putMaps fun _ _ => Set.mem_univ _

theorem diag : a.diag = s.diag := (congrArg State.diag h.eq :)
theorem seq : a.seq = s.seq := (congrArg State.seq h.eq :)
theorem stopped : a.panel.mgmtStopped = s.panel.mgmtStopped := (congrArg (·.panel.mgmtStopped) h.eq :)

end Touches

namespace Halts

theorem refl : Halts s.mode s s := ⟨rfl, rfl, rfl, rfl, rfl, id, id⟩

theorem trans (h : Halts m s a) (k : Halts n a u) : Halts n s u where
  mode := k.mode
  clock := k.clock.trans h.clock
  diag := k.diag.trans h.diag
  stopped := k.stopped.trans h.stopped
  cause := k.cause.trans h.cause
  hold hs := k.hold (h.hold hs)
  eval hs := k.eval (h.eval hs)

/-- A step that keeps the mode. -/
theorem step (h : Halts m s a) (k : Halts a.mode a u) : Halts m s u := h.mode ▸ h.trans k

theorem ite {c : Prop} [Decidable c] {b : State} (ha : Halts m s a) (hb : Halts m s b) : Halts m s (if c then a else b) := by
  split <;> assumption

theorem foldl {α : Type} {l : List α} {f : State → α → State} (h : Halts m s a)
    (hf : ∀ b, ∀ x ∈ l, Halts b.mode b (f b x)) : Halts m s (l.foldl f a) :=
  List.foldlRecOn l f h fun b hb x hx => hb.step (hf b x hx)

/-- What touches the functions' parts alone halts nothing and wakes nothing. -/
theorem touch (h : Halts m s a) (k : FuncTouches a u) : Halts m s u :=
  h.step ⟨k.mode, k.clock, k.diag, k.stopped, congrArg Seq.cause k.seq, fun hs => k.seq ▸ hs, fun hs => k.seq ▸ hs⟩

/-! What is neither supervision nor sequencers may change. -/

theorem setSo (h : Halts m s a) {x : So} : Halts m s { a with so := x } :=
  ⟨h.mode, h.clock, h.diag, h.stopped, h.cause, h.hold, h.eval⟩
theorem setPair (h : Halts m s a) {x : Pair} : Halts m s { a with pair := x } :=
  ⟨h.mode, h.clock, h.diag, h.stopped, h.cause, h.hold, h.eval⟩
theorem setBarn (h : Halts m s a) {x : Barn} : Halts m s { a with barn := x } :=
  ⟨h.mode, h.clock, h.diag, h.stopped, h.cause, h.hold, h.eval⟩

end Halts

theorem Touches.halts (h : FuncTouches s a) : Halts s.mode s a := Halts.refl.touch h

theorem Halts.record (h : Halts m s a) {code unit item : Nat} {d : List Byte} : Halts m s (a.record code unit item d) :=
  h.touch Touches.refl.record

theorem Halts.r38 (h : Halts m s a) {f : Nat} {x : Option Nat} {l : List Nat} : Halts m s (a.r38 f x l) :=
  h.touch Touches.refl.r38

/-! ### Functions that stop (R38, R166) -/

theorem State.stopSeq_halts : Halts s.mode s s.stopSeq := by
  refine Halts.r38 ?_
  exact ⟨rfl, rfl, rfl, rfl, rfl, fun _ => rfl, fun _ => rfl⟩

theorem State.stopSeq_seq : s.stopSeq.seq.hold = true ∧ s.stopSeq.seq.eval = false := by
  have hr : ∀ b : State, (b.r38 4 none []).seq = b.seq := fun b => (Touches.refl.r38 (s := b)).seq
  unfold State.stopSeq
  rw [hr]
  exact ⟨rfl, rfl⟩

theorem State.stopMs_touches : FuncTouches s s.stopMs := by
  unfold State.stopMs State.msOutputsOff
  exact ((Touches.refl.setMs.setFld.foldl fun _ _ _ hb => hb.setMs).setMs).r38

theorem State.rioUnreachable_func (ch : Nat) : FuncTouches s (s.rioUnreachable ch) :=
  ((State.rioUnreachable_touches ch).mono (rioParts_subset ch)).mono (hW := Set.subset_univ _)

theorem State.rioFail_touches (ch : Nat) : FuncTouches s (s.rioFail ch) := by
  refine (State.rioUnreachable_func ch).foldl fun b c _ hb => ?_
  split
  · exact hb.anySlot
  · exact hb

theorem State.stopCan_touches (x : Option Nat) : FuncTouches s (s.stopCan x) := by
  refine Touches.r38 (Touches.refl.foldl fun b g _ hb => Touches.modCan ?_)
  exact .ite (hb.trans (State.rioFail_touches _)) hb

theorem State.hartStop_touches (ao : Bool) (x : Option Nat) : FuncTouches s (s.hartStop ao x) :=
  Touches.refl.setFld.foldl fun _ _ _ hb => hb.freeW32.answer

theorem State.aoStatus_touches (k : Nat) : FuncTouches s (s.aoStatus k) := by
  unfold State.aoStatus
  split
  · exact Touches.refl.anyOpt
  · exact .refl

theorem State.stopAi_touches : FuncTouches s (s.stopAi none) := by
  unfold State.stopAi
  exact (Touches.refl.setFld.setFld.trans (State.hartStop_touches _ _)).r38.foldl fun b c _ hb =>
    hb.trans ((State.aiStatus_touches c.ch fun _ _ => Set.subset_univ _).mono)

theorem State.stopAo_touches : FuncTouches s (s.stopAo none) := by
  unfold State.stopAo
  exact (Touches.refl.setFld.trans (State.hartStop_touches _ _)).r38.foldl fun b c _ hb =>
    hb.trans (State.aoStatus_touches c.ch)

theorem State.stopDio_touches : FuncTouches s (s.stopDio none) := by
  unfold State.stopDio
  refine Touches.refl.setFld.r38.foldl fun b c _ hb => ?_
  split
  · exact hb.anySlot
  · exact hb

theorem State.brakeDemand_touches (k : Nat) : FuncTouches s (s.brakeDemand k) := .ite Touches.refl.latchSet.setSoChans .refl

theorem State.testAbort_touches (k : Nat) : FuncTouches s (s.testAbort k) := .ite Touches.refl.setSoChans.recordSev .refl

theorem State.leaveSo_halts : Halts s.mode s s.leaveSo := by
  have hf : Halts s.mode s ((List.range 4).foldl (fun s k => (s.brakeDemand k).testAbort k) s) :=
    Halts.refl.foldl fun b k _ => ((State.brakeDemand_touches k).trans (State.testAbort_touches k)).halts
  unfold State.leaveSo
  exact hf.setSo

theorem State.stopSo_halts : Halts s.mode s s.stopSo := by
  unfold State.stopSo
  exact (State.leaveSo_halts.setSo.touch Touches.refl.setStatLast).r38

theorem State.ptpHoldover_halts : Halts s.mode s s.ptpHoldover :=
  .ite ⟨rfl, rfl, rfl, rfl, rfl, id, id⟩ .refl

theorem State.stopEth_halts : Halts s.mode s s.stopEth :=
  ((State.rioFail_touches 4).halts.step State.ptpHoldover_halts).touch Touches.refl.setEth.r38

theorem Touches.uslFailSafe (h : FuncTouches s a) (c : UslCfg) : FuncTouches s (a.uslFailSafe c) := h.anyMaps

theorem State.stopUsl_touches : FuncTouches s s.stopUsl := by
  refine Touches.r38 (Touches.setUsl (Touches.refl.setUsl.foldl fun b c _ hb => ?_))
  split
  · exact .ite (hb.uslFailSafe c) (hb.trans ((Touches.refl.uslPassivate (Set.subset_univ _)).mono))
  · exact hb

/-- A function that stops halts at most the sequencers (R38, R518). -/
theorem State.stopFunc_halts (f : Nat) : Halts s.mode s (s.stopFunc f none) := by
  unfold State.stopFunc
  split
  · refine Halts.r38 ?_
    exact ⟨rfl, rfl, rfl, rfl, rfl, id, id⟩
  · exact ⟨rfl, rfl, rfl, rfl, rfl, id, id⟩
  · refine Halts.r38 ?_
    exact ⟨rfl, rfl, rfl, rfl, rfl, id, id⟩
  · exact State.stopSeq_halts
  · exact State.stopMs_touches.halts
  · exact (Touches.refl.setLoop.setLoop.r38 (s := s)).halts
  · exact (Touches.refl.setSlv.setSlv.r38 (s := s)).halts
  · exact (State.stopCan_touches none).halts
  · exact State.stopAi_touches.halts
  · exact State.stopAo_touches.halts
  · exact State.stopDio_touches.halts
  · exact State.stopSo_halts
  · exact State.stopEth_halts
  · exact State.stopUsl_touches.halts
  · exact .refl

/-- One step of the stop of every function (R518). -/
def State.stopEach (s : State) (f : Nat) : State := if f = 5 ∨ f = 2 ∨ f = 1 then s else s.stopFunc f none

theorem State.stopAll_eq : s.stopAll = s.withFaults ((List.range 16).foldl State.stopEach s) := rfl

theorem State.stopEach_halts (l : List Nat) : Halts s.mode s (l.foldl State.stopEach s) :=
  Halts.refl.foldl fun _ f _ => .ite .refl (State.stopFunc_halts f)

theorem Halts.withFaults (h : Halts m s a) (b : State) : Halts m s (b.withFaults a) :=
  ⟨h.mode, h.clock, h.diag, h.stopped, h.cause, h.hold, h.eval⟩

theorem State.stopAll_halts : Halts s.mode s s.stopAll := (State.stopEach_halts _).withFaults s

theorem State.withFaults_seq (b : State) : (b.withFaults a).seq.hold = a.seq.hold ∧ (b.withFaults a).seq.eval = a.seq.eval :=
  ⟨rfl, rfl⟩

/-- SEQ is among the functions that stop. -/
theorem State.stopAll_seq : s.stopAll.seq.hold = true ∧ s.stopAll.seq.eval = false := by
  have hlist : List.range 16 = List.range 4 ++ 4 :: List.range' 5 11 := by decide
  obtain ⟨hh, he⟩ := State.stopSeq_seq (s := (List.range 4).foldl State.stopEach s)
  have hrest := State.stopEach_halts (s := State.stopEach ((List.range 4).foldl State.stopEach s) 4) (List.range' 5 11)
  rw [State.stopAll_eq, (State.withFaults_seq s).1, (State.withFaults_seq s).2, hlist, List.foldl_append, List.foldl_cons]
  exact ⟨hrest.hold hh, hrest.eval he⟩

/-! ### ACTIVE is left (R177, R180, R187, R480) -/

theorem State.olcAbort_halts (c k : Nat) : Halts s.mode s (s.olcAbort c k) := by
  unfold State.olcAbort
  split
  · exact .refl
  · extract_lets pend _ s1 s2
    have h1 : Halts s.mode s s1 := ⟨rfl, rfl, rfl, rfl, rfl, id, id⟩
    have h2 : Halts s.mode s s2 := h1.record
    exact .ite (h2.touch Touches.refl.answer) h2

theorem State.snapshot_halts (k : Nat) : Halts s.mode s (s.snapshot k) := ⟨rfl, rfl, rfl, rfl, rfl, id, id⟩

theorem State.leaveBarn_halts (k : ModState) : Halts s.mode s (s.leaveBarn k) :=
  .ite .refl (.ite Halts.refl.setBarn (State.snapshot_halts 2))

theorem State.msDomWrite_touches (d : Nat) : FuncTouches s (s.msDomWrite d) := by
  unfold State.msDomWrite
  dsimp only
  split
  · exact .refl
  · exact .ite .refl Touches.refl.anySlot.anySlot.anySlot.anySlot.anySlot

theorem State.leaveMs_touches : FuncTouches s s.leaveMs :=
  Touches.trans (Touches.refl.setMs.setFld.setMs) (State.msDomWrite_touches 7)

theorem State.leaveEth_touches (planned : Bool) : FuncTouches s (s.leaveEth planned) :=
  .ite Touches.refl.setEth (Touches.refl.setEth.foldl fun _ _ _ hb => hb.ethSend)

theorem State.leaveSeq_halts : Halts s.mode s s.leaveSeq := ⟨rfl, rfl, rfl, rfl, rfl, id, fun _ => rfl⟩

theorem State.leaveFuncs_halts (planned : Bool) : Halts s.mode s (s.leaveFuncs planned) := by
  have h1 : Halts s.mode s (((((s.leaveSeq).leaveMs).leaveLoop).leaveSlv).leaveCan).leaveFld :=
    (State.leaveSeq_halts.touch State.leaveMs_touches).touch Touches.refl.setLoop.setSlv.setCan.setFld
  exact ((h1.step State.leaveSo_halts).touch (State.leaveEth_touches planned)).touch Touches.refl.setUsl

theorem State.keepShadows_halts : Halts s.mode s s.keepShadows := ⟨rfl, rfl, rfl, rfl, rfl, id, id⟩

theorem State.leaveActive_halts (m : ModState) (planned : Bool) : Halts m s (s.leaveActive m planned) := by
  unfold State.leaveActive
  split
  · exact ⟨rfl, rfl, rfl, rfl, rfl, id, id⟩
  · extract_lets s1
    have h1 : Halts s.mode s s1 := (((State.olcAbort_halts _ _).step State.keepShadows_halts).step
      (State.leaveBarn_halts m)).step (State.leaveFuncs_halts planned)
    exact ⟨rfl, h1.clock, h1.diag, h1.stopped, h1.cause, h1.hold, h1.eval⟩

theorem State.sendLink_halts (lane : Nat) (x : LinkMsg) : Halts s.mode s (s.sendLink lane x) := by
  unfold State.sendLink
  split
  · exact ⟨rfl, rfl, rfl, rfl, rfl, id, id⟩
  · exact ⟨rfl, rfl, rfl, rfl, rfl, id, id⟩

theorem State.sendBoth_halts (x : LinkMsg) : Halts s.mode s (s.sendBoth x) :=
  (State.sendLink_halts 0 x).step (State.sendLink_halts 1 x)

theorem State.swapFault_halts (f : Nat) : ∃ m, Halts m s (s.swapFault f) := by
  unfold State.swapFault
  split
  · exact ⟨.standby, (Halts.refl.setPair.record.step (State.sendBoth_halts _)).trans (State.leaveActive_halts .standby false)⟩
  · exact ⟨_, .refl⟩

theorem State.aoNoPower_touches : FuncTouches s s.aoNoPower :=
  Touches.refl.foldl fun _ _ _ hb => hb.latchSet.setFld

theorem State.enterSafe_halts (f : Nat) : Halts .safe s (s.enterSafe f) := by
  unfold State.enterSafe
  extract_lets was s1 _ _ s2 s3 s4
  have h1 : Halts .safe s s1 := State.leaveActive_halts .safe false
  clear_value s1
  have h2 : Halts .safe s s2 := ⟨h1.mode, h1.clock, h1.diag, h1.stopped, h1.cause, h1.hold, h1.eval⟩
  have h4 : Halts .safe s s4 := (h2.touch State.aoNoPower_touches).record
  exact .ite (h4.step (State.sendBoth_halts _)) h4

/-! ### A module fault (R516, R518) -/

/-- `u` follows `s` by a module fault with this cause, raised by function `f`. -/
structure ModuleFaulted (cause f : Nat) (canRec : Bool) (s u : State) : Prop where
  mode : u.mode = .fault
  diag : u.diag = { s.diag with mf := s.diag.mf.or (some (cause, f, s.clock)) }
  stopped : u.panel.mgmtStopped = s.panel.mgmtStopped
  seqCause : u.seq.cause = s.seq.cause
  hold : u.seq.hold = true
  eval : u.seq.eval = false
  mcause : u.snap.mcause = cause
  pending : u.snap.pending = !canRec
  takeover : u.pair.takeover = none

/-- What a module fault does last: it stands, no takeover runs, and it is recorded or left pending. -/
theorem Halts.faulted (h : Halts .fault s a) (hseq : a.seq.hold = true ∧ a.seq.eval = false) (cause f : Nat) (canRec : Bool) :
    ModuleFaulted cause f canRec s (State.keepFault cause f canRec { a with
      diag := { a.diag with mf := a.diag.mf.or (some (cause, f, s.clock)) }, pair := { a.pair with takeover := none } }) := by
  obtain ⟨hhold, heval⟩ := hseq
  have hdiag : { a.diag with mf := a.diag.mf.or (some (cause, f, s.clock)) } =
      { s.diag with mf := s.diag.mf.or (some (cause, f, s.clock)) } := by rw [h.diag]
  unfold State.keepFault
  cases canRec
  · exact ⟨h.mode, hdiag, h.stopped, h.cause, hhold, heval, rfl, rfl, rfl⟩
  · exact ⟨h.mode, hdiag, h.stopped, h.cause, hhold, heval, rfl, rfl, rfl⟩

theorem State.moduleFault_faulted (cause f : Nat) (canRec : Bool) :
    ModuleFaulted cause f canRec s (s.moduleFault cause f canRec) := by
  unfold State.moduleFault
  extract_lets s0 s1
  obtain ⟨k, h0⟩ : ∃ k, Halts k s s0 := by
    unfold s0
    split
    · exact ⟨_, State.sendBoth_halts _⟩
    · exact State.swapFault_halts f
  have h1 : Halts .fault s s1 := (h0.trans (State.leaveActive_halts .fault false)).step State.stopAll_halts
  have hseq : s1.seq.hold = true ∧ s1.seq.eval = false := State.stopAll_seq
  clear_value s1
  exact h1.faulted hseq cause f canRec

end

end Sys2Proof.Machine
end

section
/-! PROOFS. Clock, watchdog, self-test, checker and memory supervision (R51, R510, R513, R515, R516, R518). -/

namespace Sys2Proof.Machine

variable {s : State}

theorem State.running_of_operating (h : s.power.phase = .operating) : s.running = true := by
  simp [State.running, h]

/-- A window that does not make two bad ones in a row is counted alone (R51). -/
theorem State.clockCheck_safety_of_lt {n k : Nat} (h : s.power.phase = .operating)
    (hk : (if clockBad true n then s.diag.badSc + 1 else 0) = k) (hlt : k < 2) :
    s.clockCheck true n = { s with diag := { s.diag with badSc := k } } := by
  have hne : k ≠ 2 := Nat.ne_of_lt hlt
  simp [State.clockCheck, State.running_of_operating h, hk, hne]

/-- The state in which the second bad window of the time base raises its fault. -/
def State.badTimeBase (n : Nat) (s : State) : State :=
  let s2 : State := { s with
    diag := { s.diag with badTb := 2 }, panel := { s.panel with mgmtStopped := s.panel.mgmtStopped || decide (n = 0) } }
  if n = 0 then s2 else s2.record 0x1003 0 0 (leBytes 1 0)

theorem State.clockCheck_timeBase {n : Nat} (h : s.power.phase = .operating) (hbad : clockBad false n = true)
    (hone : s.diag.badTb = 1) : s.clockCheck false n = (s.badTimeBase n).moduleFault 1 0 (!decide (n = 0)) := by
  simp [State.clockCheck, State.running_of_operating h, hbad, hone, State.badTimeBase]
  rfl

theorem State.badTimeBase_fields (n : Nat) : (s.badTimeBase n).clock = s.clock ∧ (s.badTimeBase n).diag.mf = s.diag.mf ∧
    (s.badTimeBase n).panel.mgmtStopped = (s.panel.mgmtStopped || decide (n = 0)) := by
  unfold State.badTimeBase
  dsimp only
  split
  · exact ⟨rfl, rfl, rfl⟩
  · exact ⟨rfl, rfl, rfl⟩

/-- A word whose copies differ in parity alone is served by the good one and corrected (R513). -/
theorem State.scrubWord_one_copy {i : Nat} (p : Bool) (h : s.power.phase = .operating) :
    ∃ f, s.scrubWord (.slot i) p (!p) false = s.memSoft f (.slot i) := by
  cases p <;> exact ⟨_, by simp [State.scrubWord, State.running_of_operating h, State.memOwner]; rfl⟩

/-- A word that has not failed within the last second is corrected and counted (R513). -/
theorem State.memSoft_of_new {f : Nat} {l : MemLoc} (hnew : ∀ x ∈ s.diag.corrAt, x.1 ≠ l) :
    s.memSoft f l = { s with diag := { s.diag with
      corr := satInc 65535 s.diag.corr, corrAt := (l, s.clock) :: s.diag.corrAt.filter fun x =>
        decide (x.1 ≠ l ∧ s.clock < x.2 + 400000000) } } := by
  have hagain : (s.diag.corrAt.any fun x => decide (x.1 = l ∧ s.clock < x.2 + secTicks 1)) = false := by
    simp only [List.any_eq_false, decide_eq_true_eq]
    exact fun x hx hx' => hnew x hx hx'.1
  unfold State.memSoft
  extract_lets again
  rw [if_neg (by rw [show again = false from hagain]; decide)]
  rfl

theorem State.scrubWord_sound (l : MemLoc) : s.scrubWord l true true true = s := by
  unfold State.scrubWord
  split
  · rfl
  · split
    · rfl
    · rfl
    · rfl
    · split
      · rfl
      · rfl

/-- Settles O21: each event is a count, a correction, or one module fault, whose effects are those of every module
fault. -/
theorem supervisionRuns : Obligations.SupervisionRuns := by
  refine ⟨?_, ?_, ?_, ?_, fun s a dt h => ?_, ?_, fun s a dt h => ?_, ?_, fun s a dt l h => ?_, ?_⟩
  · rintro s a dt n rfl hop hgood
    exact congrArg done (State.clockCheck_safety_of_lt hop (by simp [hgood]) (by decide))
  · rintro s a dt n rfl hop hzero hbad
    exact congrArg done (State.clockCheck_safety_of_lt hop (by simp [hbad, hzero]) (by decide))
  · rintro s a dt n rfl hop hone hbad hmf
    obtain ⟨hclock, hdiag, hstopped⟩ := State.badTimeBase_fields (s := s.advance dt) n
    have hf := State.moduleFault_faulted (s := (s.advance dt).badTimeBase n) 1 0 (!decide (n = 0))
    exact ⟨_, congrArg done (State.clockCheck_timeBase hop hbad hone), hf.mode,
      by rw [hf.diag, hdiag, hmf, hclock]; rfl, hf.mcause, hf.takeover, hf.stopped.trans hstopped⟩
  · rintro s a dt rfl hop hrun hmf
    have hx : (s.advance dt).mgmtStall =
        ({ s.advance dt with panel := { (s.advance dt).panel with mgmtStopped := true } } : State).moduleFault 2 0 false := by
      simp [State.mgmtStall, State.running_of_operating hop, hrun]
    have hf := State.moduleFault_faulted
      (s := { s.advance dt with panel := { (s.advance dt).panel with mgmtStopped := true } }) 2 0 false
    exact ⟨_, congrArg done hx, hf.mode, hf.stopped, by rw [hf.diag, hmf]; rfl, hf.mcause, hf.pending⟩
  · subst h
    rfl
  · rintro s a dt rfl hop hmf
    have hx : execSafetySelftest dt false s = done ((s.advance dt).moduleFault 3 0 true) := by
      simp [execSafetySelftest, State.running_of_operating hop]
    have hf := State.moduleFault_faulted (s := s.advance dt) 3 0 true
    exact ⟨_, hx, hf.mode, by rw [hf.diag, hmf]; rfl, hf.mcause⟩
  · subst h
    rfl
  · rintro s a dt rfl hop hcom hprof hmf
    let b : State := { (s.advance dt).latchSet 0x9808 8 with
      diag := { (s.advance dt).diag with chkFailL := true } }
    have hx : (s.advance dt).checkerTest false = (b.record 0x1002 0 0 []).moduleFault 5 0 true := by
      simp [State.checkerTest, State.running_of_operating hop, hcom, hprof]
      rfl
    have hf := State.moduleFault_faulted (s := b.record 0x1002 0 0 []) 5 0 true
    refine ⟨_, congrArg done hx, hf.mode, by rw [hf.diag]; rfl, ?_⟩
    rw [hf.diag]
    change (s.advance dt).diag.mf.or _ = _
    rw [hmf]
    rfl
  · subst h
    exact congrArg done (State.scrubWord_sound l)
  · rintro s a dt i p rfl hop hnew
    obtain ⟨f, hf⟩ := State.scrubWord_one_copy (i := i) p hop
    exact congrArg done (hf.trans (State.memSoft_of_new hnew))

end Sys2Proof.Machine
end

section
/-! PROOFS. Harvest, evaluation, window end and deliver (R23, R47, R154 to R166, R206, R510). -/

namespace Sys2Proof.Machine

-- a membership that `by decide` fills in waits for the declarations before it: they are elaborated in order
set_option Elab.async false

section
variable {s a u : State} {W : Set Nat}

/-! ### Lanes -/

theorem State.lane_modLane (s : State) (k j : Nat) (f : LaneSt → LaneSt) :
    (s.modLane k f).lane j = if k = j ∧ j < s.seq.lanes.length then f (s.lane j) else s.lane j := by
  simp only [State.lane, State.modLane, modifyAt, List.getD_eq_getElem?_getD, List.getElem?_modify]
  by_cases hj : j < s.seq.lanes.length
  · by_cases hk : k = j <;> simp [hj, hk]
  · simp [hj]

theorem State.lane_modLane_of_ne {k j : Nat} (h : k ≠ j) (f : LaneSt → LaneSt) : (s.modLane k f).lane j = s.lane j := by
  rw [State.lane_modLane, if_neg fun hk => h hk.1]

/-- A lane with a pass is one of the list's. -/
theorem State.lt_of_pass {k : Nat} {p : Pass} (h : (s.lane k).pass = some p) : k < s.seq.lanes.length := by
  by_contra hk
  rw [State.lane, List.getD_eq_default _ _ (Nat.le_of_not_lt hk)] at h
  contradiction

theorem State.lane_modLane_self {k : Nat} (h : k < s.seq.lanes.length) (f : LaneSt → LaneSt) :
    (s.modLane k f).lane k = f (s.lane k) := by
  rw [State.lane_modLane, if_pos ⟨rfl, h⟩]

/-- `u` differs from `s` in its lanes alone. -/
def LanesOnly (s u : State) : Prop := ∃ l, u = { s with seq := { s.seq with lanes := l } }

theorem LanesOnly.refl : LanesOnly s s := ⟨s.seq.lanes, rfl⟩

theorem LanesOnly.trans (h : LanesOnly s a) (k : LanesOnly a u) : LanesOnly s u := by
  obtain ⟨l, rfl⟩ := h
  obtain ⟨l', rfl⟩ := k
  exact ⟨l', rfl⟩

/-! ### The end of passes (R157, R163, R165) -/

theorem State.endPass_lanesOnly (k : Nat) : LanesOnly s (s.endPass k) := by
  unfold State.endPass
  split
  · split
    · exact ⟨_, rfl⟩
    · exact .refl
  · exact .refl

/-- Lane `k` has a pass whose next block is number `n` and whose blocks stand at `c`. -/
def State.PassAt (k n : Nat) (c : List InstSt) (s : State) : Prop :=
  ∃ q, (s.lane k).pass = some q ∧ q.next = n ∧ q.cur = c

theorem State.PassAt.endPass {k n : Nat} {c : List InstSt} (h : s.PassAt k n c) (j : Nat) : (s.endPass j).PassAt k n c := by
  obtain ⟨q, hq, hn, hc⟩ := h
  unfold State.endPass
  split
  · rename_i p hp
    split
    · by_cases hj : j = k
      · subst hj
        obtain rfl : p = q := Option.some.inj (hp.symm.trans hq)
        exact ⟨{ p with ended := true }, by rw [State.lane_modLane_self (State.lt_of_pass hq)], hn, hc⟩
      · exact ⟨q, by rw [State.lane_modLane_of_ne hj]; exact hq, hn, hc⟩
    · exact ⟨q, hq, hn, hc⟩
  · exact ⟨q, hq, hn, hc⟩

/-- Every lane's pass that is complete ends. -/
def State.endPasses (s : State) : State := (((s.endPass 0).endPass 1).endPass 2).endPass 3

theorem State.endPasses_lanesOnly : LanesOnly s s.endPasses :=
  (((State.endPass_lanesOnly 0).trans (State.endPass_lanesOnly 1)).trans (State.endPass_lanesOnly 2)).trans (State.endPass_lanesOnly 3)

/-- Evaluation goes on, or stops where nothing is left to evaluate (R157, R163). -/
theorem State.settle_eq (h : s.seq.eval = true) : s.settle = s.endPasses ∨
    s.settle = { s.endPasses with seq := { s.endPasses.seq with eval := false, deliver := some s.endPasses.clock } } := by
  unfold State.settle
  rw [if_neg (by simp [h])]
  extract_lets s1
  split
  · exact .inr rfl
  · exact .inl rfl

/-- What follows a block or the begin of evaluation leaves the slots, the mode and the recorder. -/
structure Settled (s u : State) : Prop where
  due : u.seq.due = s.seq.due
  eval : u.seq.eval = true ∨ u.seq.deliver = some s.clock
  slots : u.slots = s.slots
  mode : u.mode = s.mode
  log : u.log = s.log
  passAt : ∀ k n c, s.PassAt k n c → u.PassAt k n c

theorem State.settle_settled (h : s.seq.eval = true) : Settled s s.settle := by
  have hp : ∀ k n c, s.PassAt k n c → s.endPasses.PassAt k n c := fun k n c hs =>
    (((hs.endPass 0).endPass 1).endPass 2).endPass 3
  obtain ⟨l, hl⟩ := State.endPasses_lanesOnly (s := s)
  rcases State.settle_eq h with hs | hs
  · rw [hs]
    exact ⟨by rw [hl], .inl (by rw [hl]; exact h), by rw [hl], by rw [hl], by rw [hl], hp⟩
  · rw [hs]
    exact ⟨by rw [hl], .inr (by rw [hl]), by rw [hl], by rw [hl], by rw [hl], hp⟩

/-! ### One block (R157, R204) -/

/-- A block that does not reach the module, after an evaluation. -/
def State.pureInst (k : Nat) (p : Pass) (i : Inst) (x : InstSt) (s : State) : InstSt :=
  x.after i (evalPure i p.h p.htick p.htime ((laneCfg s.img k).mult * s.img.cycle.base) (s.readInputs k p i) x)

/-- The pass after it. -/
def State.purePass (k : Nat) (p : Pass) (i : Inst) (x : InstSt) (s : State) : Pass :=
  let y := s.pureInst k p i x
  { p with cur := p.cur.set p.next y, next := p.next + 1, wslots := s.bindOuts i y p.wslots
           chk := p.chk || false, events := p.events ++ [] }

theorem State.evalBlock_pure {k : Nat} {p : Pass} {i : Inst} {x : InstSt} (hk : s.curLane = some k)
    (hrun : k = 0 ∨ s.onlyL0 = false) (hp : (s.lane k).pass = some p) (hi : (laneInsts s.img k)[p.next]? = some i)
    (hx : p.cur[p.next]? = some x) (hpure : i.btype < 0x70) :
    s.evalBlock = (s.modLane k fun l => { l with pass := some (s.purePass k p i x) }).settle := by
  have hgo : ¬ (k ≠ 0 ∧ s.onlyL0 = true) := fun h => hrun.elim h.1 fun hr => by simp [hr] at h
  have hnolink : ¬ (0x70 ≤ i.btype ∧ i.btype < 0x75) := fun h => Nat.not_le.2 hpure h.1
  simp only [State.evalBlock, hk, hgo, hp, hi, hx, hnolink, if_false, Option.isSome_some, if_true]
  rfl

/-! ### SEQ faults and the window's end (R162, R165, R206) -/

/-- Every answer to a SEQ fault of an ACTIVE module stops the sequencers with its cause (R517). -/
theorem State.seqFault_seq (c : Nat) (hactive : s.mode = .active) (hoff : s.scopeOn 4 none = false) :
    (s.seqFault c).seq.cause = c ∧ (s.seqFault c).seq.hold = true ∧ (s.seqFault c).seq.eval = false := by
  have hon : (s.setCause 4 none c).scopeOn 4 none = false := hoff
  have hmode : (s.setCause 4 none c).mode = .active := hactive
  have hcause : (s.setCause 4 none c).seq.cause = c := rfl
  unfold State.seqFault State.funcFault State.raiseScope
  rw [if_neg (by simp [hon, hmode])]
  extract_lets s1 _ s2
  have h2 : s2.seq.cause = c := hcause
  clear_value s2
  have hstop := State.stopSeq_seq (s := s2)
  have hseq : (s2.stopSeq).seq.cause = c := State.stopSeq_halts.cause.trans h2
  rw [if_pos ⟨hmode, rfl, by decide⟩]
  split
  · have hf := State.moduleFault_faulted (s := s2) 7 4 true
    generalize s2.moduleFault 7 4 true = u at hf ⊢
    exact ⟨hf.seqCause.trans h2, hf.hold, hf.eval⟩
  · split
    · let s3 : State := s2.stopSeq.modScope 4 none fun x => { x with ladder := false }
      have hs := State.enterSafe_halts (s := s3) 4
      exact ⟨hs.cause.trans hseq, hs.hold hstop.1, hs.eval hstop.2⟩
    · exact ⟨hseq, hstop⟩

/-- The window's end: ACTIVE, taken grid, nothing skipped or held, 8,000 ticks before a harvest tick. -/
structure State.AtWindowEnd (s : State) : Prop where
  active : s.mode = .active
  begun : s.seq.begun = true
  skip : s.seq.skip = false
  hold : s.seq.hold = false
  origin : s.seq.tg ≤ s.clock
  grid : (s.clock + 8000 - s.seq.tg) % s.img.cycle.base = 0

theorem State.AtWindowEnd.windowEnd (h : s.AtWindowEnd) : s.windowEnd =
    if (s.lane 0).unfinished then
      let s1 := s.overrun 0 (s.hnow + 1)
      if s1.seq.hold || !s1.isActive then s1 else { s1 with seq := { s1.seq with skip := true } }
    else if s.seq.eval then { s with seq := { s.seq with eval := false, deliver := some s.clock } }
    else s := by
  have hgo : (!s.isActive || !s.seq.begun || s.seq.skip || s.seq.hold || decide (s.clock < s.seq.tg) ||
      decide ((s.clock + 8000 - s.seq.tg) % s.img.cycle.base ≠ 0)) = false := by
    simp [State.isActive, h.active, h.begun, h.skip, h.hold, h.origin, h.grid]
  unfold State.windowEnd
  extract_lets base
  rw [if_neg (by rw [show base = s.img.cycle.base from rfl, hgo]; decide)]

/-- An overrun below the limit is counted and recorded (R163, R165). -/
theorem State.overrun_of_lt {k : Nat} (h : Nat) (hlt : (s.lane k).ovrCons + 1 < s.img.cycle.ovrLimit) :
    s.overrun k h = (s.modLane k fun l => { l with
        ovrCons := (s.lane k).ovrCons + 1, ovrTotal := satInc 65535 l.ovrTotal, ovrH := h
        pass := l.pass.map fun p => { p with ovr := true } }).record 0x0401 k 0
          (leBytes 1 k ++ leBytes 1 ((s.lane k).ovrCons + 1) ++ leBytes 8 h) := by
  unfold State.overrun
  exact if_neg (Nat.not_le.2 hlt)

theorem LaneSt.unfinished_pass {l : LaneSt} (h : l.unfinished = true) : ∃ p, l.pass = some p := by
  cases hp : l.pass with
  | none => simp [LaneSt.unfinished, hp] at h
  | some p => exact ⟨p, rfl⟩

/-- An unfinished pass of L0 at the window's end overruns, and the next harvest tick skips. -/
theorem State.AtWindowEnd.overruns (h : s.AtWindowEnd) (hun : (s.lane 0).unfinished = true)
    (hlt : (s.lane 0).ovrCons + 1 < s.img.cycle.ovrLimit) :
    s.windowEnd.seq.skip = true ∧ (s.windowEnd.lane 0).ovrCons = (s.lane 0).ovrCons + 1 ∧
      (s.windowEnd.lane 0).ovrTotal = satInc 65535 (s.lane 0).ovrTotal ∧ s.windowEnd.slots = s.slots ∧
      s.windowEnd.mode = s.mode := by
  obtain ⟨p, hp⟩ := LaneSt.unfinished_pass hun
  have hlane := State.lane_modLane_self (s := s) (State.lt_of_pass hp) fun l => { l with
    ovrCons := (s.lane 0).ovrCons + 1, ovrTotal := satInc 65535 l.ovrTotal, ovrH := s.hnow + 1
    pass := l.pass.map fun p => { p with ovr := true } }
  have hend : s.windowEnd = { s.overrun 0 (s.hnow + 1) with seq := { (s.overrun 0 (s.hnow + 1)).seq with skip := true } } := by
    rw [h.windowEnd, if_pos hun, State.overrun_of_lt _ hlt]
    exact if_neg (by simp [State.modLane, State.isActive, h.hold, h.active])
  rw [hend, State.overrun_of_lt _ hlt]
  exact ⟨rfl, congrArg LaneSt.ovrCons hlane, congrArg LaneSt.ovrTotal hlane, rfl, rfl⟩

/-! ### What a harvest tick and a deliver tick do beside the sequencers -/

/-- The parts that the solver's publications touch. -/
def pubParts : List Part := [.slv, .slots, .freeCtr, .log]

abbrev PubTouches (s u : State) : Prop := Touches pubParts Set.univ s u

theorem Touches.putPub (h : PubTouches s a) {r : SlvPub} {v : F64} {st : Nat} {b : Bool} : PubTouches s (a.putPub r v st b) := by
  have put {i : Nat} {b : State} {v : W32} {q : Byte} (hb : PubTouches s b) : PubTouches s (b.writeSlot i v q) :=
    hb.writeSlot (Set.mem_univ _)
  exact .ite (put (put h)) (put h)

theorem State.slvPublish_touches (c : SlvCfg) (h st : Nat) : PubTouches s (s.slvPublish c h st) := by
  unfold State.slvPublish
  split
  · exact .refl
  · split
    · exact .refl
    · extract_lets solved age shifted cls rx s1 ran it s1' s2 s3
      have h1 : PubTouches s s1 := Touches.refl.foldl fun _ _ _ hb => .ite hb.putPub (.ite hb.putPub hb.putPub)
      have h1' : PubTouches s s1' := .ite h1.freeW32 h1
      have h2 : PubTouches s s2 := by
        unfold s2
        split
        · exact h1'.writeSlot (Set.mem_univ _)
        · exact h1'
      have h3 : PubTouches s s3 := h2.setSlv
      split
      · split
        · exact h3.record
        · exact h3
      · exact .ite h3.record h3

theorem State.slvDecided_touches (h : Nat) : PubTouches s (s.slvDecided h) := by
  refine .ite (Touches.refl.foldl fun b c _ hb => ?_) .refl
  split
  · split
    · exact hb.trans (State.slvPublish_touches _ _ _)
    · exact hb
  · exact hb

theorem State.slvHarvestOne_touches (h : Nat) (c : SlvCfg) : PubTouches s (s.slvHarvestOne h c) := by
  unfold State.slvHarvestOne
  split
  · split
    · split
      · exact State.slvPublish_touches _ _ _
      · exact .ite (.ite (State.slvPublish_touches _ _ _) (State.slvPublish_touches _ _ _).setSlv) .refl
    · exact .refl
  · exact .refl

theorem State.slvPubs_touches (h : Nat) : PubTouches s (s.slvPubs h) :=
  .ite (Touches.refl.foldl fun _ _ _ hb => hb.trans (State.slvHarvestOne_touches _ _)) .refl

theorem State.slvStarts_touches (h : Nat) : PubTouches s (s.slvStarts h) := by
  refine .ite (Touches.refl.foldl fun b c _ hb => ?_) .refl
  unfold State.slvStart
  split
  · exact .ite hb.setSlv.setSlv hb
  · exact hb

theorem State.rioJudge_touches (ch h : Nat) : FuncTouches s (s.rioJudge ch h) := by
  have wide {b u : State} (hb : Touches (rioParts ch) Set.univ b u) : FuncTouches b u := (hb.mono (rioParts_subset ch)).mono
  have anyRx (c : StationCfg) : RxWithin c.maps Set.univ := fun _ _ => Set.mem_univ _
  refine .ite .refl (Touches.refl.foldl fun b c _ hb => ?_)
  split
  · exact hb
  · refine .ite hb ?_
    have h1 := hb.trans (wide (State.rioMiss_touches ch c (anyRx c)))
    dsimp only
    split
    · exact .ite (h1.trans (wide (State.rioSubst_touches ch c (anyRx c)))) h1
    · exact h1

theorem State.msHarvest_touches : FuncTouches s s.msHarvest :=
  Touches.refl.foldl fun _ d _ hb => hb.trans (State.msDomWrite_touches d)

theorem rioPart_mem_allParts (ch : Nat) : rioPart ch ∈ allParts := by
  unfold rioPart
  split <;> decide

theorem State.deliverCan_touches : FuncTouches s s.deliverCan := by
  refine Touches.refl.foldl fun b g _ hb => .ite hb (hb.foldl fun d c _ hd => ?_)
  split
  · exact hd
  · exact .ite (hd.modStation (rioPart_mem_allParts _)) (.ite hd hd.canQueue)

theorem State.deliverEth_touches : FuncTouches s s.deliverEth := by
  refine .ite .refl (Touches.refl.foldl fun d c _ hd => ?_)
  split
  · exact hd
  · exact .ite (hd.modStation (rioPart_mem_allParts _)) (.ite hd hd.ethSend)

theorem State.deliverUsl_touches (l : List Nat) : FuncTouches s (s.deliverUsl l) := by
  refine .ite .refl (Touches.refl.foldl fun d c _ hd => ?_)
  unfold State.uslBuild
  split
  · exact hd
  · exact hd.modUsl.uslSend

end

end Sys2Proof.Machine
end

section
/-! PROOFS. Deliver and harvest lane by lane, and the statement about the program cycle (R154 to R166, R199). -/

namespace Sys2Proof.Machine

-- a membership that `by decide` fills in waits for the declarations before it: they are elaborated in order
set_option Elab.async false

section
variable {s a u : State}

/-! ### Deliver (R158, R160) -/

theorem State.requestCheckpoint_eq (s : State) : ∃ b, s.requestCheckpoint = { s with barn := b } := by
  have keep : ∃ b, s = { s with barn := b } := ⟨s.barn, rfl⟩
  unfold State.requestCheckpoint
  split
  · exact keep
  · split
    · exact ⟨_, rfl⟩
    · unfold State.effectCheckpoint
      split
      · exact ⟨_, rfl⟩
      · split
        · exact ⟨_, rfl⟩
        · exact ⟨_, rfl⟩

/-- `u` follows `s` by lane `k`'s publication. -/
structure Published (k : Nat) (s u : State) : Prop where
  seqm : u.seqm = s.seqm
  deliver : u.seq.deliver = s.seq.deliver
  others : ∀ j, k ≠ j → u.lane j = s.lane j
  own : ∀ p, (s.lane k).pass = some p → p.ended = true →
    (u.lane k).pass = none ∧ (u.lane k).passes = ((s.lane k).passes + 1) % 2 ^ 64

theorem Touches.seqm (h : FuncTouches s a) : a.seqm = s.seqm := (congrArg State.seqm h.eq :)

theorem Touches.olc (h : FuncTouches s a) : a.olc = s.olc := (congrArg State.olc h.eq :)

theorem State.lane_congr (h : u.seq.lanes = s.seq.lanes) (k : Nat) : u.lane k = s.lane k := by
  unfold State.lane; rw [h]

theorem State.publish_published (k : Nat) : Published k s (s.publish k) := by
  unfold State.publish
  split
  · rename_i hnone
    exact ⟨rfl, rfl, fun _ _ => rfl, fun p hp => absurd (hnone.symm.trans hp) nofun⟩
  · rename_i p hp
    split
    · rename_i hopen
      refine ⟨rfl, rfl, fun _ _ => rfl, fun q hq hended => ?_⟩
      obtain rfl : p = q := Option.some.inj (hp.symm.trans hq)
      simp [hended] at hopen
    · extract_lets st s1 cost _ s2 s3 s4
      have h1 : FuncTouches s s1 := Touches.refl.foldl fun _ _ _ hb => hb.anySlot
      have h4 : FuncTouches s3 s4 := Touches.refl.foldl fun _ _ _ hb => hb.record
      have hlanes : s2.seq.lanes = s.seq.lanes := (congrArg Seq.lanes h1.seq :)
      have hlt : k < s2.seq.lanes.length := hlanes ▸ State.lt_of_pass hp
      have hs : Published k s s4 := by
        refine ⟨h4.seqm.trans h1.seqm, (congrArg Seq.deliver h4.seq).trans (congrArg Seq.deliver h1.seq :), fun j hj => ?_,
          fun _ _ _ => ?_⟩
        · rw [State.lane_congr (congrArg Seq.lanes h4.seq), State.lane_modLane_of_ne hj, State.lane_congr hlanes]
        · rw [State.lane_congr (congrArg Seq.lanes h4.seq), State.lane_modLane_self hlt, State.lane_congr hlanes]
          exact ⟨rfl, rfl⟩
      obtain ⟨b, hb⟩ := s4.requestCheckpoint_eq
      split
      · rw [hb]
        exact ⟨hs.seqm, hs.deliver, hs.others, hs.own⟩
      · exact hs

/-- The publications of some lanes leave the others, the tollgate and the deliver tick. -/
theorem State.publishes_others (l : List Nat) (s : State) :
    (l.foldl (fun s k => s.publish k) s).seqm = s.seqm ∧ (l.foldl (fun s k => s.publish k) s).seq.deliver = s.seq.deliver ∧
      ∀ j ∉ l, (l.foldl (fun s k => s.publish k) s).lane j = s.lane j := by
  induction l generalizing s with
  | nil => exact ⟨rfl, rfl, fun _ _ => rfl⟩
  | cons k r ih =>
    have hk : Published k s (s.publish k) := State.publish_published k
    obtain ⟨hm, hd, hl⟩ := ih (s.publish k)
    refine ⟨hm.trans hk.seqm, hd.trans hk.deliver, fun j hj => ?_⟩
    rw [List.mem_cons, not_or] at hj
    exact (hl j hj.2).trans (hk.others j (Ne.symm hj.1))

/-- Each of four lanes publishes its ended pass. -/
theorem State.publishes_own {k : Nat} {p : Pass} (hk : k < 4) (hp : (s.lane k).pass = some p) (hended : p.ended = true) :
    let u := (List.range 4).foldl (fun s k => s.publish k) s
    (u.lane k).pass = none ∧ (u.lane k).passes = ((s.lane k).passes + 1) % 2 ^ 64 := by
  have hlist : List.range 4 = List.range k ++ k :: List.range' (k + 1) (3 - k) := by
    interval_cases k <;> decide
  have hafter : k ∉ List.range' (k + 1) (3 - k) := by simp
  have hbefore := (State.publishes_others (List.range k) s).2.2 k (by simp)
  have hpub := State.publish_published (s := (List.range k).foldl (fun s k => s.publish k) s) k
  rw [hlist, List.foldl_append, List.foldl_cons]
  dsimp only
  rw [(State.publishes_others _ _).2.2 k hafter, ← hbefore]
  exact hpub.own p (hbefore ▸ hp) hended

/-- After the deliver tick of `s` no deliver is due, SEQ's tollgate is closed (R129), and the ended passes are published. -/
structure Delivered (s u : State) : Prop where
  deliver : u.seq.deliver = none
  gate : u.seqm.tgOpen = none
  lanes : ∀ k p, k < 4 → (s.lane k).pass = some p → p.ended = true →
    (u.lane k).pass = none ∧ (u.lane k).passes = ((s.lane k).passes + 1) % 2 ^ 64

/-- What leaves the sequencers and their window keeps it so. -/
theorem Delivered.congr (h : Delivered s a) (hseq : u.seq = a.seq) (hwin : u.seqm = a.seqm) : Delivered s u :=
  ⟨hseq ▸ h.deliver, hwin ▸ h.gate, fun k p hk hp he => by
    rw [State.lane_congr (congrArg Seq.lanes hseq)]; exact h.lanes k p hk hp he⟩

/-- The publications of all lanes, from a state with the lanes of `s`. -/
theorem State.publishes_delivered (hd : a.seq.deliver = none) (hg : a.seqm.tgOpen = none) (hl : ∀ k, a.lane k = s.lane k) :
    Delivered s ((List.range 4).foldl (fun s k => s.publish k) a) := by
  have hown {k : Nat} {p : Pass} (hk : k < 4) (hp : (a.lane k).pass = some p) (he : p.ended = true) :=
    State.publishes_own hk hp he
  obtain ⟨hm1, hd1, -⟩ := State.publishes_others (List.range 4) a
  generalize (List.range 4).foldl (fun s k => s.publish k) a = u at *
  exact ⟨hd1.trans hd, (congrArg MasterSt.tgOpen hm1).trans hg, fun k p hk hp he => hl k ▸ hown hk ((hl k).symm ▸ hp) he⟩

theorem State.deliverNow_delivered (l : List Nat) {te : Nat} (hmode : s.mode = .active) (hd : s.seq.deliver = some te)
    (hlt : te < s.clock) : Delivered s (s.deliverNow l) := by
  unfold State.deliverNow
  split
  next hnone => exact absurd (hnone.symm.trans hd) nofun
  next t' ht =>
  obtain rfl : t' = te := Option.some.inj (ht.symm.trans hd)
  rw [if_neg (by simp [State.isActive, hmode, hlt])]
  extract_lets _ s0 s1 s2
  have hd0 : s0.seq.deliver = none := rfl
  have hg0 : s0.seqm.tgOpen = none := rfl
  have hl0 : ∀ k, s0.lane k = s.lane k := fun _ => rfl
  clear_value s0
  have h1 : Delivered s s1 := State.publishes_delivered hd0 hg0 hl0
  clear_value s1
  have hagree : Delivered s (s1.deliverSo l) := h1.congr rfl rfl
  have hso : FuncTouches (s1.deliverSo l) s2 :=
    (State.deliverCan_touches.trans State.deliverEth_touches).trans (State.deliverUsl_touches l)
  have h2 : Delivered s s2 := hagree.congr hso.seq hso.seqm
  clear_value s2
  exact iteInduction (fun _ => iteInduction (fun _ => h2.congr rfl rfl) fun _ => h2.congr rfl rfl) fun _ => h2

/-! ### Harvest (R154 to R156) -/

/-- What a harvest tick latches (R154); the rest of it waits for the tick's end. -/
structure Harvested (s u : State) : Prop where
  h : u.seq.h = s.seq.h0 + (s.clock - s.seq.tg) / s.img.cycle.base
  htick : u.seq.htick = s.tick
  htime : u.seq.htime = s.ns
  begun : u.seq.begun = true
  skipped : u.seq.skipped = s.seq.skip
  expiring : u.expiring = s.expiring ++ [.harvest]

theorem State.harvest_harvested (hdue : s.harvestDue = true) : Harvested s s.harvest := by
  unfold State.harvest
  rw [if_neg (by simp [hdue])]
  extract_lets s1
  have ht : PubTouches s.harvestLatch s1 := State.slvDecided_touches _
  have hseq : s1.seq = s.harvestLatch.seq := (congrArg State.seq ht.eq :)
  have hexp : s1.expiring = s.expiring := (congrArg State.expiring ht.eq :)
  clear_value s1
  exact ⟨congrArg Seq.h hseq, congrArg Seq.htick hseq, congrArg Seq.htime hseq, congrArg Seq.begun hseq,
    congrArg Seq.skipped hseq, congrArg (· ++ [Expiry.harvest]) hexp⟩

/-- The pass that a lane begins at the present harvest (R156). -/
def State.newPass (k : Nat) (s : State) : Pass :=
  { h := s.seq.h, htick := s.seq.htick, htime := s.seq.htime, pubs := s.seq.insts, pslots := s.slots, cur := s.laneKept k }

/-- Lanes from `n` on have no pass yet, lane 0 has `p`, and the passes of this harvest may begin. -/
structure State.Beginning (n : Nat) (p : Pass) (s : State) : Prop where
  mode : s.mode = .active
  hold : s.seq.hold = false
  olc : s.olc.st = .none
  zero : (s.lane 0).pass = some p
  rest : ∀ j, n ≤ j → (s.lane j).pass = none

/-- A lane without a pass begins one, or nothing happens. -/
theorem State.laneLook_idle {k : Nat} (hmode : s.mode = .active) (hhold : s.seq.hold = false) (holc : s.olc.st = .none)
    (hidle : (s.lane k).pass = none) : s.laneLook k =
      if (laneCfg s.img k).enable && decide (s.seq.h % (laneCfg s.img k).mult = (laneCfg s.img k).offset) ||
        ((s.lane k).restart && (laneCfg s.img k).enable) then s.beginPass k else s := by
  unfold State.laneLook State.laneHarvest
  rw [if_neg (by simp [hhold, State.isActive, hmode])]
  dsimp only
  rw [if_neg (by simp [hidle])]
  by_cases hdue : ((laneCfg s.img k).enable && decide (s.seq.h % (laneCfg s.img k).mult = (laneCfg s.img k).offset) ||
    ((s.lane k).restart && (laneCfg s.img k).enable)) = true
  · rw [if_neg (by rw [hdue]; decide), if_pos hdue, if_neg (by simp [holc])]
  · rw [if_pos (by rw [Bool.not_eq_true] at hdue; rw [hdue]; rfl), if_neg hdue]

theorem State.beginPass_lane_of_ne {k j : Nat} (h : k ≠ j) : (s.beginPass k).lane j = s.lane j :=
  State.lane_modLane_of_ne h _

theorem State.beginPass_pass {k : Nat} (h : k < s.seq.lanes.length) : ((s.beginPass k).lane k).pass = some (s.newPass k) :=
  congrArg LaneSt.pass (State.lane_modLane_self h fun l => { l with pass := some (s.newPass k), deferred := false, restart := false })

/-- A later lane leaves what lane 0 has begun. -/
theorem State.Beginning.laneLook {n : Nat} {p : Pass} (h : s.Beginning n p) (hn : 0 < n) :
    (s.laneLook n).Beginning (n + 1) p := by
  rw [State.laneLook_idle h.mode h.hold h.olc (h.rest n le_rfl)]
  split
  · refine ⟨h.mode, h.hold, h.olc, ?_, fun j hj => ?_⟩
    · rw [State.beginPass_lane_of_ne hn.ne']
      exact h.zero
    · rw [State.beginPass_lane_of_ne (Nat.ne_of_lt hj)]
      exact h.rest j (Nat.le_of_succ_le hj)
  · exact ⟨h.mode, h.hold, h.olc, h.zero, fun j hj => h.rest j (Nat.le_of_succ_le hj)⟩

/-- With idle lanes of which L0 is due, the end of a harvest tick begins L0's pass and makes evaluation due. -/
theorem State.harvestEnd_begins (hin : s.inHarvest = true) (hskip : s.seq.skipped = false) (hhold : s.seq.hold = false)
    (holc : s.olc.st = .none) (hlen : s.seq.lanes.length = 4) (hidle : ∀ l ∈ s.seq.lanes, l.pass = none)
    (hen : (laneCfg s.img 0).enable = true) (hdue : s.seq.h % (laneCfg s.img 0).mult = (laneCfg s.img 0).offset) :
    s.harvestEnd.seq.due = true ∧ ∃ p, (s.harvestEnd.lane 0).pass = some p ∧ p.h = s.seq.h ∧ p.htick = s.tick ∧ p.next = 0 ∧
      p.ended = false ∧ p.view = none := by
  obtain ⟨⟨hact, -⟩, htick⟩ : (s.isActive = true ∧ s.seq.begun = true) ∧ s.seq.htick = s.tick := by
    simpa [State.inHarvest] using hin
  have hmode : s.mode = .active := by simpa [State.isActive] using hact
  unfold State.harvestEnd
  rw [if_neg (by simp [hin])]
  extract_lets h s2 idle s3 s4 s5
  have h2 : FuncTouches s s2 := (Touches.refl.foldl fun b ch _ hb => hb.trans (State.rioJudge_touches ch h)).trans
    ((State.slvPubs_touches h).mono)
  have holc2 : s2.olc = s.olc := h2.olc
  have h3 : s3 = s2 := if_neg (by rw [holc2, holc]; simp)
  have h4 : FuncTouches s s4 := (h3 ▸ h2.trans State.msHarvest_touches).trans ((State.slvStarts_touches h).mono)
  have hseq4 : s4.seq = s.seq := h4.seq
  have hmode4 : s4.mode = .active := h4.mode.trans hmode
  have holc4 : s4.olc.st = .none := (congrArg Olc.st h4.olc).trans holc
  have himg4 : s4.img = s.img := h4.img
  clear_value s4
  have hidle4 : ∀ j, (s4.lane j).pass = none := by
    intro j
    unfold State.lane
    rw [hseq4, List.getD_eq_getElem?_getD]
    cases hj : s.seq.lanes[j]? with
    | none => rfl
    | some l => exact hidle l (List.mem_of_getElem? hj)
  have hlook0 : s4.laneLook 0 = s4.beginPass 0 := by
    rw [State.laneLook_idle hmode4 (by rw [hseq4, hhold]) holc4 (hidle4 0), if_pos (by simp [himg4, hen, hseq4, hdue])]
  have hb1 : (s4.laneLook 0).Beginning 1 (s4.newPass 0) := by
    rw [hlook0]
    refine ⟨hmode4, by rw [← hhold, ← hseq4]; rfl, holc4, State.beginPass_pass (by rw [hseq4, hlen]; decide), fun j hj => ?_⟩
    rw [State.beginPass_lane_of_ne (Nat.ne_of_lt hj)]
    exact hidle4 j
  have hb4 : s5.Beginning 4 (s4.newPass 0) := ((hb1.laneLook one_pos).laneLook two_pos).laneLook three_pos
  clear_value s5
  rw [if_neg (by simp [hseq4, hskip, hhold, State.isActive, hmode4]),
    if_neg (by simp [hb4.hold, State.isActive, hb4.mode])]
  exact ⟨rfl, s4.newPass 0, hb4.zero, congrArg Seq.h hseq4, (congrArg Seq.htick hseq4).trans htick, rfl, rfl, rfl⟩

end

/-! ### The statement -/

/-- Settles O23: harvest, evaluation, window end and deliver, each by what its operation leaves of the sequencers. -/
theorem cycleRuns : Obligations.CycleRuns := by
  refine ⟨?harvest, ?harvestEnd, ?begin, ?block, ?disagree, ?window, ?overrun, ?deliver, ?same, ?differ⟩
  case harvest =>
    rintro s a dt rfl hdue
    have hu := State.harvest_harvested hdue
    exact ⟨_, rfl, hu.h, hu.htick, hu.htime, hu.begun, hu.skipped, hu.expiring⟩
  case harvestEnd =>
    intro a hin hskip hhold holc hlen hidle hen hdue
    obtain ⟨hd, p, hp⟩ := State.harvestEnd_begins hin hskip hhold holc hlen hidle hen hdue
    exact ⟨_, p, rfl, hd, hp⟩
  case begin =>
    rintro s a dt rfl hmode hdue hhold htick
    have hx : (s.advance dt).evalBegin =
        ({ s.advance dt with seq := { (s.advance dt).seq with due := false, eval := true } } : State).settle :=
      if_pos (by simp [State.isActive, hmode, hdue, hhold, htick])
    have hs := State.settle_settled
      (s := { s.advance dt with seq := { (s.advance dt).seq with due := false, eval := true } }) rfl
    exact ⟨_, congrArg done hx, hs.due, hs.eval, hs.slots, hs.mode⟩
  case block =>
    rintro s a dt k p i x rfl hmode heval hhold hk hrun hp hi hx hpure
    have hgo : (s.advance dt).blockEvaluate true = (s.advance dt).evalBlock := by
      simp [State.blockEvaluate, State.isActive, hmode, heval, hhold]
    let b : State := (s.advance dt).modLane k fun l => { l with pass := some ((s.advance dt).purePass k p i x) }
    have hs := State.settle_settled (s := b) heval
    have hat : b.PassAt k (p.next + 1) (p.cur.set p.next ((s.advance dt).pureInst k p i x)) :=
      ⟨(s.advance dt).purePass k p i x, congrArg LaneSt.pass (State.lane_modLane_self (State.lt_of_pass hp) _), rfl, rfl⟩
    obtain ⟨q, hq, hn, hc⟩ := hs.passAt _ _ _ hat
    exact ⟨_, q, congrArg done (hgo.trans (State.evalBlock_pure hk hrun hp hi hx hpure)), hq, hn, hc, hs.slots, hs.mode, hs.log⟩
  case disagree =>
    rintro s a dt rfl hmode heval hhold hoff
    have hx : (s.advance dt).blockEvaluate false = (s.advance dt).seqFault 1 := by
      simp [State.blockEvaluate, State.isActive, hmode, heval, hhold]
    exact ⟨_, congrArg done hx, State.seqFault_seq 1 hmode hoff⟩
  case window =>
    rintro s a dt rfl hmode hbegun hskip hhold horigin hgrid hdone heval
    have hw : (s.advance dt).AtWindowEnd := ⟨hmode, hbegun, hskip, hhold, horigin, hgrid⟩
    refine ⟨congrArg done (if_pos rfl), ?_⟩
    change (s.advance dt).windowEnd = _
    rw [hw.windowEnd, if_neg (by simp [hdone]), if_pos heval]
  case overrun =>
    rintro s a dt rfl hmode hbegun hskip hhold horigin hgrid hun hlt
    have hw : (s.advance dt).AtWindowEnd := ⟨hmode, hbegun, hskip, hhold, horigin, hgrid⟩
    exact ⟨_, congrArg done (if_pos rfl), rfl, hw.overruns hun hlt⟩
  case deliver =>
    rintro s a dt te ds rfl hmode hd hlt
    have hu := State.deliverNow_delivered ds hmode hd hlt
    exact ⟨_, rfl, hu.deliver, hu.gate, hu.lanes⟩
  case same =>
    rintro s a dt rfl
    rfl
  case differ =>
    rintro s a dt rfl hmode hoff
    have hx : execSignatureCompare dt false s = done ((s.advance dt).seqFault 1) := by
      simp [execSignatureCompare, State.isActive, hmode]
    exact ⟨_, hx, State.seqFault_seq 1 hmode hoff⟩

end Sys2Proof.Machine
end

section
/-! PROOFS. Hot insertion: when the sequence starts, waits again and ends (R72, R75, R80, R81), and the module's restart
out of a loss of power (R74, R84). -/

namespace Sys2Proof.Machine

variable {s : State}

/-! ### The sequence starts, or waits again -/

theorem State.waitsPower_of_phase (h : s.power.phase = .unpowered ∨ s.power.phase = .dead) : s.waitsPower = true :=
  decide_eq_true h

theorem State.tryInsert_starts (hw : s.waitsPower = true) (hm : s.mayStart = true) :
    s.tryInsert = s.setPhase (.mating s.clock) := if_pos (by simp [hw, hm])

/-- A module that has power does not start again. -/
theorem State.tryInsert_of_powered (h : s.waitsPower = false) : s.tryInsert = s := if_neg (by simp [h])

/-- The sequence is under way: a mate contact has closed, and reset is not yet released. -/
def State.Inserting (s : State) : Prop := ∃ tm, s.power.phase = .mating tm ∨ s.power.phase = .present tm

theorem State.Inserting.powered (h : s.Inserting) : s.waitsPower = false := by
  obtain ⟨tm, h | h⟩ := h <;> simp [State.waitsPower, h]

theorem State.insertLost_of_lost (h : s.Inserting) (hm : s.mayStart = false) : s.insertLost = s.setPhase .unpowered := by
  unfold State.insertLost
  rw [if_neg (by simp [hm])]
  obtain ⟨tm, h | h⟩ := h <;> rw [h]

theorem State.insertLost_of_operating (h : s.power.phase = .operating) : s.insertLost = s := by
  unfold State.insertLost
  rw [h]
  exact ite_self s

/-! ### Feeds (R72) -/

/-- The feed's monitor reads `mV`: the feed lies in range, and is good to start from (R72, R80). -/
def Power.readFeed (feedB : Bool) (mV : Nat) (p : Power) : Power := { p with
  feedAOk := if feedB then p.feedAOk else decide (17000 ≤ mV ∧ mV ≤ 33000)
  feedBOk := if feedB then decide (17000 ≤ mV ∧ mV ≤ 33000) else p.feedBOk
  feedAStart := if feedB then p.feedAStart else decide (18000 ≤ mV ∧ mV ≤ 32000)
  feedBStart := if feedB then decide (18000 ≤ mV ∧ mV ≤ 32000) else p.feedBStart }

theorem State.feedOk_eq (feedB : Bool) (mV : Nat) (s : State) :
    s.feedOk feedB mV = ({ s with power := s.power.readFeed feedB mV } : State).tryInsert.insertLost := by
  cases feedB <;> rfl

/-- In normal running a feed's change is a change of its readings alone. -/
theorem State.feedOk_of_operating (feedB : Bool) (mV : Nat) (h : s.power.phase = .operating) :
    s.feedOk feedB mV = { s with power := s.power.readFeed feedB mV } := by
  rw [State.feedOk_eq, State.tryInsert_of_powered (by simp [State.waitsPower, Power.readFeed, h])]
  exact State.insertLost_of_operating h

/-- A feed that is lost is neither in range nor good to start from. -/
theorem Power.readFeed_low {mV : Nat} (hlow : mV < 17000) (p : Power) :
    p.readFeed false mV = { p with feedAOk := false, feedAStart := false } := by
  simp [Power.readFeed, Nat.not_le.2 hlow, Nat.not_le.2 (hlow.trans (by decide : 17000 < 18000))]

/-- The last good feed is lost before reset release (R72, R80). -/
theorem State.feedOk_lost {mV : Nat} (h : s.Inserting) (hB : s.power.feedBStart = false) (hlow : mV < 17000) :
    s.feedOk false mV = { s with power := { s.power with feedAOk := false, feedAStart := false, phase := .unpowered } } := by
  let b : State := { s with power := { s.power with feedAOk := false, feedAStart := false } }
  have hb : b.Inserting := h
  have hm : b.mayStart = false := by simp [State.mayStart, State.feedGood, b, hB]
  rw [State.feedOk_eq, Power.readFeed_low hlow]
  change b.tryInsert.insertLost = _
  rw [State.tryInsert_of_powered hb.powered, State.insertLost_of_lost hb hm]
  rfl

/-! ### Plugging (R80, R81) -/

theorem State.mateClose_starts (h : s.power.phase = .unpowered ∨ s.power.phase = .dead) (hf : s.feedGood = true) :
    s.mateClose = { s with power := { s.power with mate1 := true, mate2 := true, phase := .mating s.clock } } :=
  State.tryInsert_starts (State.waitsPower_of_phase h) (by simpa [State.mayStart, State.feedGood] using hf)

theorem State.mateOpen_lost (m2 : Bool) (h : s.Inserting) :
    s.mateOpen m2 = { s with power := { s.power with
      phase := .unpowered, mate1 := s.power.mate1 && m2, mate2 := s.power.mate2 && !m2 } } := by
  cases m2
  · refine (State.insertLost_of_lost (s := { s with power := { s.power with mate1 := false } }) h rfl).trans ?_
    simp [State.setPhase]
  · refine (State.insertLost_of_lost (s := { s with power := { s.power with mate2 := false } }) h ?_).trans ?_
    · simp [State.mayStart]
    · simp [State.setPhase]

theorem State.presence_accepts {tm : Nat} (h : s.power.phase = .mating tm) (ht : tm + 4000000 ≤ s.clock)
    (hm : s.mayStart = true) : s.presence = s.setPhase (.present tm) := by
  unfold State.presence
  rw [h]
  exact if_pos ⟨ht, hm⟩

theorem State.porRelease_releases {tm : Nat} (r1 r2 r3 : Nat) (h : s.power.phase = .present tm)
    (ht : tm + 30000000 ≤ s.clock) (hm : s.mayStart = true) : s.porRelease r1 r2 r3 = s.release r1 r2 r3 := by
  unfold State.porRelease
  rw [h]
  exact if_pos ⟨ht, hm⟩

/-- The tick counter starts at reset release (R49). -/
theorem State.release_tick (r1 r2 r3 : Nat) : (s.release r1 r2 r3).tick = 0 := by
  change (s.clock - s.clock) % 2 ^ 64 = 0
  rw [Nat.sub_self, Nat.zero_mod]

theorem State.powerReturn_starts (h : s.power.phase = .unpowered ∨ s.power.phase = .dead) (h1 : s.power.mate1 = true)
    (h2 : s.power.mate2 = true) (hA : s.power.feedAStart = true) :
    s.powerReturn = { s with power := { s.power with pwrEn := true, phase := .mating s.clock } } := by
  let b : State := { s with power := { s.power with pwrEn := true } }
  have hb : s.powerReturn = b.tryInsert := by simp [State.powerReturn, hA, b]
  have hm : b.mayStart = true := by simp [State.mayStart, State.feedGood, b, h1, h2, hA]
  exact hb.trans (State.tryInsert_starts (State.waitsPower_of_phase h) hm)

/-- Settles O1: each event of the insertion sequence acts under the sequence's conditions, and what takes them away before
reset release makes it wait again. -/
theorem insertionRuns : Obligations.InsertionRuns := by
  refine ⟨?close, ?presence, ?release, ?opened, ?change, ?lost, ?returned⟩
  case close =>
    rintro s a dt rfl hphase hfeed
    exact congrArg done (State.mateClose_starts hphase hfeed)
  case presence =>
    rintro s a dt tm rfl hphase htime hstart
    exact congrArg done (State.presence_accepts hphase htime hstart)
  case release =>
    rintro s a dt tm r1 r2 r3 rfl hphase htime hstart
    exact ⟨_, congrArg done (State.porRelease_releases r1 r2 r3 hphase htime hstart), rfl, rfl, rfl,
      State.release_tick r1 r2 r3, rfl, rfl, rfl, rfl, rfl, rfl, rfl, rfl, rfl, rfl⟩
  case opened =>
    rintro s a dt tm m2 rfl hphase
    exact congrArg done (State.mateOpen_lost m2 ⟨tm, hphase⟩)
  case change =>
    rintro s a dt v b rfl hphase
    exact congrArg done (State.feedOk_of_operating b v hphase)
  case lost =>
    rintro s a dt tm v rfl hphase hB hlow
    exact congrArg done (State.feedOk_lost ⟨tm, hphase⟩ hB hlow)
  case returned =>
    rintro s a dt rfl hphase h1 h2 hA
    exact congrArg done (State.powerReturn_starts hphase h1 h2 hA)

end Sys2Proof.Machine
end

section
/-! PROOFS. What ends the module's running: records written out before power goes, the power-fail sequence, the backup
domain (R72 to R78, R520, R528). -/

namespace Sys2Proof.Machine

variable {s : State}

/-! ### The staged records are written out (R520, R528) -/

/-- A write's end changes the recorder, and in the safety core's store whether its record is pending. -/
theorem State.writeEnd_eq (s : State) : ∃ l p, s.writeEnd = { s with log := l, snap := { s.snap with pending := p } } := by
  unfold State.writeEnd
  split
  · exact ⟨s.log, s.snap.pending, rfl⟩
  · dsimp only
    split
    · exact ⟨_, _, rfl⟩
    · exact ⟨_, s.snap.pending, rfl⟩

theorem drainLog_eq (n : Nat) (s : State) : ∃ l p, drainLog n s = { s with log := l, snap := { s.snap with pending := p } } := by
  induction n generalizing s with
  | zero => exact ⟨s.log, s.snap.pending, rfl⟩
  | succ n ih =>
    obtain ⟨l, p, hw⟩ := State.writeEnd_eq s
    simp only [drainLog, hw]
    split
    · exact ⟨l, p, rfl⟩
    · obtain ⟨l', p', hd⟩ := ih { s with log := l.begin s.clock s.snap.clearing, snap := { s.snap with pending := p } }
      exact ⟨l', p', hd⟩

theorem State.flushLog_eq (s : State) : ∃ l p, s.flushLog = { s with log := l, snap := { s.snap with pending := p } } :=
  drainLog_eq 200 s

/-! ### The module is held in reset (R74, R75, R84) -/

/-- Held in reset, the module starts again at once where the conditions of the insertion sequence stand (R75, R80). -/
theorem State.shell_dead_tryInsert (s : State) :
    (s.shell .dead).tryInsert = (s.shell .dead).setPhase (if s.mayStart then .mating s.clock else .dead) := by
  by_cases hm : s.mayStart = true
  · rw [if_pos hm]
    exact State.tryInsert_starts (s := s.shell .dead) rfl hm
  · rw [if_neg hm]
    exact if_neg fun h => hm (Bool.and_elim_right h)

/-- Its records written out, the module loses its power: nothing is left of its running, and it starts again where it may. -/
structure Unplugged (s u : State) : Prop where
  phase : u.power.phase = if s.mayStart then .mating s.clock else .dead
  mode : u.mode = .unconfigured
  slots : u.slots = []
  forces : u.forces = []
  sessions : u.sessions = []
  image : u.store.image = none
  eject : u.panel.eject = .none

theorem State.flushLog_unplugged (s : State) : Unplugged s (s.flushLog.shell .dead).tryInsert := by
  obtain ⟨l, p, hf⟩ := s.flushLog_eq
  rw [State.shell_dead_tryInsert, hf]
  exact ⟨rfl, rfl, rfl, rfl, rfl, rfl, rfl⟩

/-! ### Power failure (R72 to R78) -/

/-- A feed reported lost reads 0 V and is recorded (R72). -/
theorem State.feedLost_of_operating (b : Bool) (h : s.power.phase = .operating) :
    s.feedLost b = State.record 0x0009 0 (b2n b) (leBytes 1 (b2n b)) { s.latchSet 0x000C (if b then 8 else 4) with
      power := { s.power with
        feedAOk := b && s.power.feedAOk, feedAStart := b && s.power.feedAStart, feedALost := !b || s.power.feedALost
        feedBOk := !b && s.power.feedBOk, feedBStart := !b && s.power.feedBStart, feedBLost := b || s.power.feedBLost } } := by
  unfold State.feedLost
  rw [if_pos (State.running_of_operating h), State.feedOk_of_operating b 0 h]
  cases b <;> rfl

/-- `u` follows `s` by the start of the power-fail sequence (R73, R74, R528). -/
structure PowerFailing (s u : State) : Prop where
  phase : u.power.phase = .powerFail s.clock
  mode : u.mode = .unconfigured
  eject : u.panel.eject = .none
  dup : u.store.dup = none
  takeover : u.pair.takeover = none
  clear : u.log.clear = none
  staged : ∃ e, u.log.pf = some e ∧ e.code = 0x0008 ∧ e.tick = s.clock ∧ e.time = s.ns

theorem State.powerFail_failing (c : Nat) (h : s.power.phase = .startup ∨ s.power.phase = .operating ∨ s.power.phase = .inert) :
    PowerFailing s (s.powerFail c) := by
  unfold State.powerFail
  rcases h with h | h | h
  all_goals
    rw [h]
    extract_lets s1 s2 s3 s4 e
    have hmode : s3.mode = .unconfigured := (State.leaveActive_halts (s := s2) .unconfigured false).mode
    clear_value s3
    exact ⟨rfl, hmode, rfl, rfl, rfl, rfl, e, rfl, rfl, rfl, rfl⟩

/-- 18 ms after the power failure the module is held in reset (R74). -/
theorem State.powerFailReset_ends {tp : Nat} (h : s.power.phase = .powerFail tp) (ht : tp + 7200000 ≤ s.clock) :
    s.powerFailReset = (s.flushLog.shell .dead).tryInsert := by
  unfold State.powerFailReset
  rw [h]
  exact if_pos ht

theorem State.brownout_of_waits (h : s.power.phase = .unpowered ∨ s.power.phase = .dead) :
    s.brownout = { s with
      boot := { s.boot with brownout := true, rtcValid := false, rtcSet := false, rtc := 0 }, snap := {}
      log := { s.log with recs := [], lastCirc := none } } :=
  if_neg (by rcases h with h | h <;> simp [State.running, h])

/-- Settles O3: the loss of a feed, the sequence's start and its end, and a backup brown-out, each by what its operation
leaves. -/
theorem powerFailRuns : Obligations.PowerFailRuns := by
  refine ⟨?lost, ?fail, ?reset, ?brownout⟩
  case lost =>
    rintro s a dt b rfl hphase
    exact congrArg done (State.feedLost_of_operating b hphase)
  case fail =>
    rintro s a dt c rfl hphase
    have hu := State.powerFail_failing c hphase
    exact ⟨_, rfl, hu.phase, hu.mode, hu.eject, hu.dup, hu.takeover, hu.clear, hu.staged⟩
  case reset =>
    rintro s a dt tp rfl hphase htime
    have hu := (s.advance dt).flushLog_unplugged
    exact ⟨_, congrArg done (State.powerFailReset_ends hphase htime), hu.phase, hu.mode, hu.slots, hu.forces, hu.sessions,
      hu.image⟩
  case brownout =>
    rintro s a dt rfl hphase
    exact congrArg done (State.brownout_of_waits hphase)

end Sys2Proof.Machine
end

section
/-! PROOFS. The panel: key switch, key fault and eject request (R83 to R87, R174, R187). -/

namespace Sys2Proof.Machine

variable {s a u : State}

/-! ### What a change of the key leaves alone -/

/-- `u` has the panel, the module state, the process image, the forces and the stores of `s`, and as many sessions. -/
structure KeepsPanel (s u : State) : Prop where
  panel : u.panel = s.panel
  mode : u.mode = s.mode
  slots : u.slots = s.slots
  forces : u.forces = s.forces
  store : u.store = s.store
  sessions : u.sessions.length = s.sessions.length

namespace KeepsPanel

theorem refl : KeepsPanel s s := ⟨rfl, rfl, rfl, rfl, rfl, rfl⟩

theorem trans (h : KeepsPanel s a) (k : KeepsPanel a u) : KeepsPanel s u where
  panel := k.panel.trans h.panel
  mode := k.mode.trans h.mode
  slots := k.slots.trans h.slots
  forces := k.forces.trans h.forces
  store := k.store.trans h.store
  sessions := k.sessions.trans h.sessions

theorem ite {c : Prop} [Decidable c] {b : State} (ha : KeepsPanel s a) (hb : KeepsPanel s b) :
    KeepsPanel s (if c then a else b) := by split <;> assumption

theorem setPair {x : Pair} : KeepsPanel s { s with pair := x } := ⟨rfl, rfl, rfl, rfl, rfl, rfl⟩

end KeepsPanel

/-- A response is stored with its session, and opens and closes none (R432). -/
theorem State.answer_keepsPanel (sid req code : Nat) (p : List Byte) : KeepsPanel s (s.answer sid req code p) where
  panel := State.answer_panel ..
  mode := State.answer_mode ..
  slots := State.answer_slots ..
  forces := State.answer_forces ..
  store := State.answer_store ..
  sessions := by
    unfold State.answer
    dsimp only
    split <;> simp [State.modSession, modifyKey, State.emit]

theorem State.sendLink_keepsPanel (lane : Nat) (m : LinkMsg) : KeepsPanel s (s.sendLink lane m) where
  panel := State.sendLink_panel ..
  mode := State.sendLink_mode ..
  slots := State.sendLink_slots ..
  forces := State.sendLink_forces ..
  store := State.sendLink_store ..
  sessions := by rw [State.sendLink_sessions]

theorem State.sendBoth_keepsPanel (m : LinkMsg) : KeepsPanel s (s.sendBoth m) :=
  (State.sendLink_keepsPanel 0 m).trans (State.sendLink_keepsPanel 1 m)

/-- An online change that ends touches the sequencers, the recorder and the answer to its request (R187). -/
theorem State.olcAbort_keepsPanel (c k : Nat) : KeepsPanel s (s.olcAbort c k) := by
  unfold State.olcAbort
  split
  · exact .refl
  · extract_lets pend _ s1 s2
    have h2 : KeepsPanel s s2 := ⟨rfl, rfl, rfl, rfl, rfl, rfl⟩
    exact .ite (h2.trans (State.answer_keepsPanel ..)) h2

/-- A hand-over is asked for or refused: the pair link and the recorder alone take part (R500). -/
theorem State.requestHandover_keepsPanel (k : Nat) : KeepsPanel s (s.requestHandover k) := by
  unfold State.requestHandover
  split
  · exact KeepsPanel.setPair.trans (State.sendBoth_keepsPanel _)
  · exact ⟨rfl, rfl, rfl, rfl, rfl, rfl⟩

theorem State.olcAbort_none (c k : Nat) (h : s.olc.st = .none) : s.olcAbort c k = s := if_pos h

/-! ### The key switch (R85, R86, R174) -/

def State.setKey (k : Key) (s : State) : State := { s with panel := { s.panel with key := k } }

/-- The key stands in `k`, and an online change ends where it has left PROG (R86, R187). -/
def State.turnKey (k : Key) (s : State) : State :=
  if s.panel.key = .prog then (s.setKey k).olcAbort 0x36 2 else s.setKey k

theorem State.keyAccept_turns {k1 k2 : Bool} {k : Key} (hop : s.power.phase = .operating) (hk : keyOf k1 k2 = some k)
    (hne : k ≠ s.panel.key) : s.keyAccept k1 k2 =
      if k = .stop ∧ (s.turnKey k).mode = .active then (s.turnKey k).requestHandover 4 else s.turnKey k := by
  unfold State.keyAccept
  simp only [hk]
  exact if_neg (by simp [hne, State.running_of_operating hop])

theorem State.turnKey_keepsPanel (k : Key) : KeepsPanel (s.setKey k) (s.turnKey k) :=
  .ite (State.olcAbort_keepsPanel _ _) .refl

/-- Without an online change to end, the key's position is all that changes. -/
theorem State.turnKey_of_no_olc (k : Key) (h : s.olc.st = .none) :
    s.turnKey k = s.setKey k := by
  unfold State.turnKey
  rw [State.olcAbort_none (s := s.setKey k) _ _ h, ite_self]

/-! ### The eject request (R83, R84) -/

theorem State.ejectRequest_prepares (hop : s.power.phase = .operating) (he : s.panel.eject = .none)
    (hd : s.pair.drive = false) (holc : s.olc.st = .none) :
    s.ejectRequest = State.record 0x000B 0 0 [0x00#8]
      { s with panel := { s.panel with eject := .preparing s.clock s.mode false } } := by
  unfold State.ejectRequest
  rw [if_neg (by simp [State.operating, hop]), he]
  exact if_pos (by simp [hd, holc])

/-- A prepared module restarts, its records written out first (R84). -/
theorem State.ejectRequest_restarts (hop : s.power.phase = .operating) (he : s.panel.eject = .prepared) :
    s.ejectRequest = ((s.recordEject 4).flushLog.shell .dead).tryInsert := by
  unfold State.ejectRequest
  rw [if_neg (by simp [State.operating, hop]), he]

/-- A module that is not ACTIVE isolates itself without touching its image, its stores or its panel. -/
theorem State.enterIsolated_keepsPanel (h : s.mode ≠ .active) :
    KeepsPanel { s with mode := .isolated } s.enterIsolated := by
  unfold State.enterIsolated
  rw [show s.leaveActive .isolated false = { s with mode := .isolated } from if_pos h]
  exact ⟨rfl, rfl, rfl, rfl, rfl, rfl⟩

/-- `u` follows `s` by the end of its preparation for removal (R84). -/
structure Prepared (s u : State) : Prop where
  panel : u.panel = { s.panel with eject := .prepared }
  mode : u.mode = if s.mode = .unconfigured ∨ s.mode = .safe then s.mode else .isolated
  slots : u.slots = s.slots
  store : u.store = s.store

theorem State.ejectPrepared_prepared {t : Nat} {m : ModState} {b : Bool} (he : s.panel.eject = .preparing t m b)
    (hmode : s.mode ≠ .active) (hsave : s.barn.save = none) : Prepared s s.ejectPrepared := by
  unfold State.ejectPrepared
  rw [he]
  dsimp only
  rw [if_pos ⟨hmode, hsave⟩]
  by_cases hm : s.mode = .unconfigured ∨ s.mode = .safe
  · rw [if_pos hm]
    exact ⟨rfl, (if_pos hm).symm, rfl, rfl⟩
  · rw [if_neg hm]
    have hk := State.enterIsolated_keepsPanel hmode
    exact ⟨congrArg (fun p : Panel => { p with eject := .prepared }) hk.panel, hk.mode.trans (if_neg hm).symm, hk.slots, hk.store⟩

/-- 2 s have passed since the request: REMOVE flashes three times, and the module is unprepared (R84). -/
theorem State.ejectTimeout_ends {t : Nat} {m : ModState} {b : Bool} (he : s.panel.eject = .preparing t m b)
    (ht : t + 800000000 ≤ s.clock) :
    s.ejectTimeout.panel = { s.panel with eject := .none, tripleEnd := s.clock + 300000000 } ∧
      s.ejectTimeout.mode = s.mode ∧ s.ejectTimeout.slots = s.slots := by
  unfold State.ejectTimeout
  rw [he]
  dsimp only
  rw [if_pos (by exact ht)]
  exact ⟨rfl, rfl, rfl⟩

/-- A deadline that lies in the past acts at once (R17). -/
theorem State.expire_past {e : Expiry} (h : s.deadline e ≠ some s.clock) : s.expire e = e.run s := if_neg h

theorem State.expire_ejectTimeout {t : Nat} {m : ModState} {b : Bool} (he : s.panel.eject = .preparing t m b)
    (ht : t + 800000000 < s.clock) : s.expire .ejectTimeout = s.ejectTimeout := by
  refine State.expire_past fun hd => ?_
  simp only [State.deadline, he, Option.some.injEq] at hd
  exact absurd hd (Nat.ne_of_lt ht)

/-- Settles O4: an accepted position is the key's, whatever it ends or asks for beside; the eject request goes through its
states. -/
theorem panelRuns : Obligations.PanelRuns := by
  refine ⟨?key, ?plain, ?stop, ⟨rfl, rfl, rfl, rfl⟩, ?between, ?fault, ?request, ?restart, ?prepared, ?timeout⟩
  case key =>
    rintro s a dt k1 k2 k rfl hop hk hne
    have hu : KeepsPanel ((s.advance dt).setKey k) ((s.advance dt).keyAccept k1 k2) := by
      rw [State.keyAccept_turns hop hk hne]
      have ht := State.turnKey_keepsPanel (s := s.advance dt) k
      exact .ite (ht.trans (State.requestHandover_keepsPanel 4)) ht
    exact ⟨_, rfl, hu.panel, hu.mode, hu.slots, hu.forces, hu.store, hu.sessions⟩
  case plain =>
    rintro s a dt k1 k2 k rfl hop hk hne holc hstop
    refine congrArg done ((State.keyAccept_turns hop hk hne).trans ?_)
    rw [State.turnKey_of_no_olc k holc]
    exact if_neg hstop
  case stop =>
    rintro s a dt rfl hop hne holc hmode
    refine congrArg done ((State.keyAccept_turns hop rfl hne.symm).trans ?_)
    rw [State.turnKey_of_no_olc .stop holc]
    exact if_pos ⟨rfl, hmode⟩
  case between =>
    rintro s a dt rfl
    rfl
  case fault =>
    rintro s a dt d rfl hop
    exact congrArg done (if_pos (State.running_of_operating hop))
  case request =>
    rintro s a dt hm rfl hheld hop he hd holc
    exact congrArg done ((if_pos hheld).trans (State.ejectRequest_prepares hop he hd holc))
  case restart =>
    rintro s a dt hm rfl hheld hop he
    have hu := ((s.advance dt).recordEject 4).flushLog_unplugged
    exact ⟨_, congrArg done ((if_pos hheld).trans (State.ejectRequest_restarts hop he)), hu.phase, hu.mode, hu.eject⟩
  case prepared =>
    rintro s a dt t m b rfl he hmode hsave
    have hu := State.ejectPrepared_prepared he hmode hsave
    exact ⟨_, rfl, hu.panel, hu.mode, hu.slots, hu.store⟩
  case timeout =>
    rintro s a dt t m b rfl he ht
    exact ⟨_, congrArg done (State.expire_ejectTimeout he ht), State.ejectTimeout_ends he (Nat.le_of_lt ht)⟩

end Sys2Proof.Machine
end

section
/-! PROOFS. Checkpoint, SAFE, eject and time by command (R83, R84, R177, R178, R181, R429). -/

namespace Sys2Proof.Machine

-- a membership that `by decide` fills in waits for the declarations before it: they are elaborated in order
set_option Elab.async false

section
variable {s a u : State}

/-! ### Forces end with ACTIVE (R436, R480) -/

theorem Touches.forces (h : FuncTouches s a) : a.forces = s.forces := (congrArg State.forces h.eq :)

theorem State.leaveSo_forces : s.leaveSo.forces = s.forces := by
  have h : FuncTouches s ((List.range 4).foldl (fun s k => (s.brakeDemand k).testAbort k) s) :=
    Touches.refl.foldl fun b k _ hb =>
      hb.trans ((State.brakeDemand_touches (s := b) k).trans (State.testAbort_touches k))
  unfold State.leaveSo
  extract_lets s1
  have h1 : s1.forces = s.forces := h.forces
  clear_value s1
  exact h1

theorem State.leaveFuncs_forces (planned : Bool) : (s.leaveFuncs planned).forces = s.forces := by
  have h1 : FuncTouches s.leaveSeq (((((s.leaveSeq).leaveMs).leaveLoop).leaveSlv).leaveCan).leaveFld :=
    State.leaveMs_touches.setLoop.setSlv.setCan.setFld
  have h2 : FuncTouches (((((s.leaveSeq).leaveMs).leaveLoop).leaveSlv).leaveCan).leaveFld.leaveSo (s.leaveFuncs planned) :=
    (State.leaveEth_touches planned).setUsl
  exact h2.forces.trans (State.leaveSo_forces.trans h1.forces)

theorem State.leaveBarn_forces (m : ModState) : (s.leaveBarn m).forces = s.forces := by
  unfold State.leaveBarn
  split
  · rfl
  · split <;> rfl

/-- A module that leaves ACTIVE drives OWNER_N no longer, and its forces end. -/
theorem State.leaveActive_left (m : ModState) (planned : Bool) (h : s.mode = .active) :
    (s.leaveActive m planned).pair.drive = false ∧ (s.leaveActive m planned).forces = [] := by
  unfold State.leaveActive
  rw [if_neg (not_not_intro h)]
  exact ⟨rfl, (State.leaveFuncs_forces planned).trans (State.leaveBarn_forces m)⟩

/-! ### SAFE (R178) -/

/-- `u` has the module state, the SAFE latch, the ownership and the forces of `s`. -/
structure KeepsSafe (s u : State) : Prop where
  mode : u.mode = s.mode
  latch : u.so.safeLatch = s.so.safeLatch
  takeover : u.pair.takeover = s.pair.takeover
  drive : u.pair.drive = s.pair.drive
  forces : u.forces = s.forces

theorem KeepsSafe.trans (h : KeepsSafe s a) (k : KeepsSafe a u) : KeepsSafe s u where
  mode := k.mode.trans h.mode
  latch := k.latch.trans h.latch
  takeover := k.takeover.trans h.takeover
  drive := k.drive.trans h.drive
  forces := k.forces.trans h.forces

/-- What touches the functions' parts alone. -/
theorem Touches.keepsSafe (h : FuncTouches s a) : KeepsSafe s a :=
  ⟨h.mode, (congrArg (·.so.safeLatch) h.eq :), (congrArg (·.pair.takeover) h.eq :), (congrArg (·.pair.drive) h.eq :), h.forces⟩

theorem State.sendLink_keepsSafe (lane : Nat) (m : LinkMsg) : KeepsSafe s (s.sendLink lane m) := by
  unfold State.sendLink
  split <;> exact ⟨rfl, rfl, rfl, rfl, rfl⟩

theorem State.sendBoth_keepsSafe (m : LinkMsg) : KeepsSafe s (s.sendBoth m) :=
  (State.sendLink_keepsSafe 0 m).trans (State.sendLink_keepsSafe 1 m)

/-- `u` follows `s` by the entry to SAFE. -/
structure EntersSafe (s u : State) : Prop where
  mode : u.mode = .safe
  latch : u.so.safeLatch = true
  takeover : u.pair.takeover = none
  left : s.mode = .active → u.pair.drive = false ∧ u.forces = []

theorem EntersSafe.keeps (h : EntersSafe s a) (k : KeepsSafe a u) : EntersSafe s u where
  mode := k.mode.trans h.mode
  latch := k.latch.trans h.latch
  takeover := k.takeover.trans h.takeover
  left hs := ⟨k.drive.trans (h.left hs).1, k.forces.trans (h.left hs).2⟩

theorem State.enterSafe_enters (f : Nat) : EntersSafe s (s.enterSafe f) := by
  unfold State.enterSafe
  extract_lets was s1 _ _ s2 s3 s4
  have hmode : s1.mode = .safe := (State.leaveActive_halts .safe false).mode
  have hleft : s.mode = .active → s1.pair.drive = false ∧ s1.forces = [] := State.leaveActive_left .safe false
  clear_value s1
  have h2 : EntersSafe s s2 := ⟨hmode, rfl, rfl, hleft⟩
  have h4 : EntersSafe s s4 := h2.keeps (State.aoNoPower_touches (s := s2)).record.keepsSafe
  split
  · exact h4.keeps (State.sendBoth_keepsSafe _)
  · exact h4

/-- `u` follows `s` by the end of SAFE: start-up runs again from copy selection (R178). -/
structure ClearsSafe (s u : State) : Prop where
  mode : u.mode = .unconfigured
  latch : u.so.safeLatch = false
  phase : u.power.phase = .startup
  copyDone : u.boot.copyDone = false
  image : u.store.image = none
  slots : u.slots = []
  floor : u.store.floor = s.store.floor

theorem State.safeClear_clears (h : s.mode = .safe) : ClearsSafe s s.safeClear := by
  unfold State.safeClear State.restart State.leaveActive
  rw [if_pos (by simp [h])]
  exact ⟨rfl, rfl, rfl, rfl, rfl, rfl, rfl⟩

/-! ### The time (R429) -/

theorem State.setTime_eq (n : Nat) (s : State) : s.setTime (BitVec.ofNat 64 n) = { s with
    sysTime := n % 2 ^ 64 * 2 ^ 32, boot := { s.boot with rtc := ((n % 2 ^ 64 : Nat) : Rat), rtcValid := true, rtcSet := true } } := by
  simp only [State.setTime, BitVec.toNat_ofNat]

end

/-- Settles O14: each command passes the stages of R175, and its own operation leaves what the statement names. -/
theorem smpModes : Obligations.SmpModes := by
  refine ⟨?checkpoint, ?enter, ?clear, ?eject, ?time⟩
  case checkpoint =>
    rintro s a dt sid req p x rfl h hrole rfl hmode
    refine congrArg done ((h.serve _).trans ?_)
    change State.barnCheckpoint _ _ = _
    refine h.command (r := { sid := sid, req := req, cmd := 0x50, p := [] }) hrole ?_ (by rfl) (by simp) ?_
    · exact decide_eq_true hmode
    · rfl
  case enter =>
    rintro s a dt sid req p x rfl h hrole rfl hmode
    have hu := State.enterSafe_enters (s := (s.advance dt).taken sid req 0x51) 0xFF
    refine ⟨_, congrArg done ((h.serve _).trans ?_), hu.mode, hu.latch, hu.takeover, hu.left⟩
    change State.safeEnter _ _ = _
    refine h.command (r := { sid := sid, req := req, cmd := 0x51, p := [] }) hrole ?_ (by rfl) (by simp) ?_
    · exact decide_eq_true hmode
    · rfl
  case clear =>
    rintro s a dt sid req p x rfl h hrole rfl hkey hmode
    have hu := State.safeClear_clears (s := (s.advance dt).taken sid req 0x52) hmode
    refine ⟨_, congrArg done ((h.serve _).trans ?_), hu.mode, hu.latch, hu.phase, hu.copyDone, hu.image, hu.slots, hu.floor⟩
    change State.safeClearCmd _ _ = _
    refine h.command (r := { sid := sid, req := req, cmd := 0x52, p := [] }) hrole ?_ (by rfl) (by simp) ?_
    · exact Bool.and_intro (decide_eq_true hkey) (decide_eq_true hmode)
    · rfl
  case eject =>
    rintro s a dt sid req p x rfl h hrole rfl he hd holc
    have hop : (s.advance dt).power.phase = .operating := of_decide_eq_true (Bool.and_elim_left h.served)
    have hreq := State.ejectRequest_prepares (s := (s.advance dt).taken sid req 0x53) hop he hd holc
    refine congrArg done ((h.serve _).trans ?_)
    refine h.command (r := { sid := sid, req := req, cmd := 0x53, p := [] }) hrole rfl rfl (by simp) ?_
    dsimp only
    rw [hreq]
    exact if_neg fun hno => nomatch hno.2
  case time =>
    rintro s a dt sid req p x rfl h hrole hp h1 h2
    refine congrArg done ((h.serve _).trans ?_)
    refine h.command (r := { sid := sid, req := req, cmd := 0x54, p := p }) hrole rfl (by simp [SmpReq.len, hp])
      (by simp [hp]) ?_
    rw [State.setTime_eq]
    exact if_neg (not_or.2 ⟨h1, h2⟩)

end Sys2Proof.Machine
end

section
/-! PROOFS. A write that the bus admits: what is left of it is its own effect (R125 to R131, R137). -/

namespace Sys2Proof.Machine

/-- A 32-bit register without tollgate fields whose write does nothing beside its own effect. -/
structure RegHit.Plain (h : RegHit) : Prop where
  narrow : h.row.wide = false
  noGate : h.row.id ≠ .sysTollgate
  noScratch : h.row.id ≠ .sysScratch
  writable : h.row.wr ≠ 0
  word : h.row.wr < 2 ^ 32
  unguarded : h.row.pt = 0

/-- A write of `v` commits: the bus notes it, and its effect follows (R125, R141). -/
def State.commitWrite (m : Master) (h : RegHit) (addr v : Nat) (s : State) : State :=
  let off := v &&& h.row.wr
  let s1 := (s.setBus fun b => { b with wrote := insertKey addr m.rank b.wrote }).parityWritten h.row.id (s.parityKey h addr)
  let c := s1.w1c addr (off &&& h.row.w1c)
  (s1.keepUndo h.row.id h.i addr off c).writeFx m h off c

variable {s a : State} {m : Master} {addr v : Nat} {h : RegHit}

/-- Beside its effect a write that commits changes the bus alone. -/
theorem State.commitWrite_eq (m : Master) (h : RegHit) (addr v : Nat) (s : State) :
    ∃ b c, s.commitWrite m h addr v = ({ s with bus := b } : State).writeFx m h (v &&& h.row.wr) c := by
  unfold State.commitWrite State.parityWritten
  dsimp only
  split
  · exact ⟨_, _, rfl⟩
  · exact ⟨_, _, rfl⟩

/-- A register that no lower master has written in this tick has nothing to take back (R125). -/
theorem State.undoWrite_of_alone (id : RegId) (i : Nat) (halone : ∀ p ∈ s.bus.undo, p.1 ≠ addr) :
    s.undoWrite id i addr = s := by
  unfold State.undoWrite
  rw [List.find?_eq_none.2 fun p hp => by simpa using halone p hp]

/-- A register without TG fields closes no tollgate (R127). -/
theorem State.tgFields_of_unguarded (hp : h.Plain) (addr : Nat) (s : State) : s.tgFields h.row addr = 0 := by
  simp [State.tgFields, hp.unguarded]

/-- A whole word's mask keeps every writable field. -/
theorem RegHit.Plain.mask (hp : h.Plain) : h.row.wr &&& byteMask 0 4 = h.row.wr :=
  Nat.and_two_pow_sub_one_of_lt_two_pow (n := 32) hp.word

theorem State.Admits.write2 (ha : a.Admits m addr) (hat : regAt addr = some h) (hp : h.Plain) (hal : addr % 4 = 0) :
    a.write2 m h addr 4 v = (0, a.commitWrite m h addr v) := by
  obtain ⟨h', hat', -, hguard⟩ := ha.mapped
  obtain rfl : h = h' := Option.some.inj (hat.symm.trans hat')
  have hundo : a.undoWrite h.row.id h.i addr = a := State.undoWrite_of_alone _ _ ha.alone
  have hturn : ¬ (m.rank < lookupD 0 addr a.bus.wrote ∨ addr ∈ a.bus.fnSet ∧ h.row.id ≠ .loopCoefIdx) :=
    not_or.2 ⟨ha.first, fun hf => ha.quiet hf.1⟩
  unfold State.write2
  simp only [hal, Nat.sub_zero, hp.narrow, hp.mask, hguard, hundo, hp.noGate, hp.noScratch, hp.writable, hturn, ite_self,
    if_false, Bool.not_true, Bool.false_eq_true, Nat.mul_zero, Nat.shiftLeft_zero]
  rfl

/-- An admitted write of a whole word leaves its effect and nothing else. -/
theorem State.Admits.regWriteBy (ha : a.Admits m addr) (hat : regAt addr = some h) (hp : h.Plain) (hal : addr % 4 = 0)
    (hv : v < 2 ^ 32) : a.regWriteBy m addr 4 v = a.commitWrite m h addr v := by
  obtain ⟨h', hat', hon, -⟩ := ha.mapped
  obtain rfl : h = h' := Option.some.inj (hat.symm.trans hat')
  have hmod : v % 4294967296 = v := Nat.mod_eq_of_lt hv
  unfold State.regWriteBy State.busWrite State.write1
  simp [ha.master, hal, hat, hon, hmod, ha.write2 hat hp hal, State.tgFields_of_unguarded hp]

end Sys2Proof.Machine
end

section
/-! PROOFS. The recovery ladder: rungs, resets, the power-cycle request, DIAG_RECOVER and the recorder's writes (R62, R519
to R526). -/

namespace Sys2Proof.Machine

-- a membership that `by decide` fills in waits for the declarations before it: they are elaborated in order
set_option Elab.async false

section
variable {s a u : State}

/-! ### Scopes (R519) -/

/-- A scope that stands in the list is found again, changed, while the change leaves it the same scope. -/
theorem State.scope_modScope {f : Nat} {w : Option Nat} {g : Scope → Scope} {x : Scope} (hx : s.scope f w = some x)
    (hg : ∀ y, (g y).f = y.f ∧ (g y).unit = y.unit) : (s.modScope f w g).scope f w = some (g x) := by
  have hany : s.diag.scopes.any (isScope f w) = true :=
    List.any_eq_true.2 ⟨x, List.mem_of_find?_eq_some hx, List.find?_some hx⟩
  have hsame : (isScope f w ∘ fun y => if isScope f w y then g y else y) = isScope f w := by
    funext y
    by_cases hy : isScope f w y = true
    · obtain ⟨hf, hu⟩ := hg y
      rw [Function.comp_apply, if_pos hy]
      simp only [isScope, hf, hu]
    · simp [hy]
  change List.find? _ (State.modScope f w g s).diag.scopes = _
  unfold State.modScope
  dsimp only
  rw [if_pos hany, List.find?_map, hsame]
  change Option.map _ (s.scope f w) = _
  rw [hx, Option.map_some, if_pos (List.find?_some hx)]

/-- A rung clears its scope's fault, and the scope is found again (R519). -/
theorem State.scope_clearFault {f : Nat} {w : Option Nat} {x : Scope} (hx : s.scope f w = some x) :
    (s.clearFault f w).scope f w = some { x with standing := false, last := s.clock } :=
  State.scope_modScope (g := fun y => { y with standing := false, last := s.clock }) hx fun _ => ⟨rfl, rfl⟩

/-! ### What RETRY leaves of the supervision -/

theorem State.foldl_diag {α : Type} {l : List α} {f : State → α → State} (hf : ∀ b, ∀ x ∈ l, (f b x).diag = b.diag) :
    (l.foldl f s).diag = s.diag :=
  List.foldlRecOn (motive := fun b => b.diag = s.diag) l f rfl fun b hb x hx => (hf b x hx).trans hb

theorem State.rewriteWord_diag (l : MemLoc) : (s.rewriteWord l).diag = s.diag := by
  unfold State.rewriteWord
  split
  · split <;> rfl
  · exact State.writeSlot_diag ..
  · rfl

theorem State.msPulseEnd_diag (n : Nat) : (s.msPulseEnd n).diag = s.diag := by
  unfold State.msPulseEnd
  split <;> rfl

theorem State.msWithdraw_diag (i : Image) (d : Nat) : (s.msWithdraw i d).diag = s.diag := by
  refine State.foldl_diag fun b m _ => ?_
  split
  · split
    · rfl
    · dsimp only
      split
      · exact State.msPulseEnd_diag _
      · split <;> rfl
  · rfl

theorem State.msDomsRestart_diag : s.msDomsRestart.diag = s.diag := State.foldl_diag fun _ _ _ => rfl

theorem State.retryMs_diag : s.retryMs.diag = s.diag := by
  unfold State.retryMs
  extract_lets ms s1
  have h1 : ((List.range 7).foldl (fun s d => s.msWithdraw s.img d) s1).diag = s1.diag :=
    State.foldl_diag fun b d _ => State.msWithdraw_diag (s := b) b.img d
  exact State.msDomsRestart_diag.trans h1

theorem State.retryCan_diag (w : Option Nat) : (s.retryCan w).diag = s.diag := State.foldl_diag fun _ _ _ => rfl

theorem State.aoRestart_diag (n : Nat) : (s.aoRestart n).diag = s.diag := by
  unfold State.aoRestart
  split
  · rfl
  · exact ((State.aoFrame_touches n).mono (Q := allParts)).mono (hW := Set.subset_univ _) |>.diag

theorem State.retryAo_diag (w : Option Nat) : (s.retryAo w).diag = s.diag :=
  (State.foldl_diag fun _ _ _ => State.aoRestart_diag _).trans rfl

theorem State.retryDio_diag (w : Option Nat) : (s.retryDio w).diag = s.diag := by
  unfold State.retryDio
  extract_lets fld s1
  have h1 : s1.diag = s.diag := rfl
  clear_value s1
  split
  · exact (State.foldl_diag fun b c _ => ((State.dioWrite_touches (s := b) c (Set.subset_univ _)).mono (Q := allParts)).diag).trans h1
  · exact h1

theorem State.uslStart_diag (c : UslCfg) : (s.uslStart c).diag = s.diag := by
  unfold State.uslStart
  extract_lets s1
  have h1 : s1.diag = s.diag := rfl
  clear_value s1
  split
  · exact (Touches.uslFailSafe .refl c).diag.trans h1
  · exact h1

theorem State.retryUsl_diag : s.retryUsl.diag = s.diag := by
  unfold State.retryUsl
  extract_lets usl s1
  have h1 : s1.diag = s.diag := rfl
  clear_value s1
  split
  · exact (State.foldl_diag fun _ _ _ => State.uslStart_diag _).trans h1
  · exact h1

/-- RETRY on any function leaves the supervision alone, but for the words that SYS rewrites (R151, R519). -/
theorem State.retryFunc_diag (f : Nat) (w : Option Nat) : ∃ l, (s.retryFunc f w).diag = { s.diag with failing := l } := by
  unfold State.retryFunc
  split
  case h_1 =>
    refine ⟨[], congrArg (fun d : Diag => { d with failing := [] }) ?_⟩
    exact State.foldl_diag fun _ l _ => State.rewriteWord_diag l
  case h_5 => exact ⟨s.diag.failing, State.retryMs_diag⟩
  case h_8 => exact ⟨s.diag.failing, State.retryCan_diag w⟩
  case h_10 => exact ⟨s.diag.failing, State.retryAo_diag w⟩
  case h_11 => exact ⟨s.diag.failing, State.retryDio_diag w⟩
  case h_14 => exact ⟨s.diag.failing, State.retryUsl_diag⟩
  all_goals exact ⟨s.diag.failing, rfl⟩

/-! ### RESET (R520) -/

/-- `u` follows `s` by a RESET: the module is held for 10 ms, and the safety core's counts and the stores stay. -/
structure HeldInReset (s u : State) : Prop where
  phase : u.power.phase = .resetHold s.clock
  mode : u.mode = .unconfigured
  slots : u.slots = []
  floor : u.store.floor = s.store.floor
  cs : u.snap.cs = s.snap.cs
  cp : u.snap.cp = s.snap.cp
  lstop : u.snap.lstop = s.snap.lstop

theorem State.reset10ms_held (s : State) : HeldInReset s s.reset10ms := by
  obtain ⟨l, p, hf⟩ := s.flushLog_eq
  unfold State.reset10ms
  split
  · exact ⟨rfl, rfl, rfl, rfl, rfl, rfl, rfl⟩
  · rw [hf]
    exact ⟨rfl, rfl, rfl, rfl, rfl, rfl, rfl⟩

theorem State.resetRelease_releases {t : Nat} (r1 r2 r3 : Nat) (h : s.power.phase = .resetHold t) (ht : t + 4000000 ≤ s.clock) :
    s.resetRelease r1 r2 r3 = s.release r1 r2 r3 := by
  unfold State.resetRelease
  rw [h]
  exact if_pos ht

/-! ### Rungs (R519, R520) -/

theorem State.recordRung_eq (r n f : Nat) (s : State) : ∃ l, s.recordRung r n f = { s with log := l } := by
  unfold State.recordRung
  split
  · exact ⟨s.log, rfl⟩
  · exact ⟨_, rfl⟩

theorem State.takeRung_retries {f : Nat} {w : Option Nat} {x : Scope} (hx : s.scope f w = some x) (hst : x.standing = true)
    (hla : x.latched = false) (hld : x.ladder = true) (hej : s.panel.eject ≠ .prepared) (hmode : s.mode ≠ .fault)
    (hrun : s.panel.mgmtStopped = false) (ht : x.tf + 400000 * s.img.diag.retryDelay ≤ s.clock)
    (hcr : x.cr < s.img.diag.retryMax) :
    s.takeRung f w = ((((s.record 0x0004 0 0 (leBytes 1 1 ++ leBytes 1 (x.cr + 1) ++ leBytes 1 f)).modScope f w
      fun y => { y with cr := y.cr + 1 }).clearFault f w).clearUnits f w false).retryFunc f w := by
  have hdue : ¬ s.clock < x.tf + msTicks s.dg.retryDelay := Nat.not_lt.2 ht
  have hrec : s.recordRung 1 (x.cr + 1) f = s.record 0x0004 0 0 (leBytes 1 1 ++ leBytes 1 (x.cr + 1) ++ leBytes 1 f) :=
    if_neg (by simp [hrun])
  unfold State.takeRung
  rw [hx]
  dsimp only
  rw [if_neg (by simp [hst, hla, hld, State.ladderOn, hej, hmode, hdue]), if_pos (by exact hcr), hrec]

/-- The state in which a RESET rung holds the module: the rung is counted and recorded. -/
def State.resetRung (f : Nat) (s : State) : State :=
  ({ s with snap := { s.snap with cs := s.snap.cs + 1 } } : State).recordRung 3 (s.snap.cs + 1) f

theorem State.takeModuleRung_resets {c f tf : Nat} (hmf : s.diag.mf = some (c, f, tf)) (hl : s.snap.lstop = false)
    (hej : s.panel.eject ≠ .prepared) (hreq : s.panel.pcycReq = none) (hend : s.diag.pcycEnd = none)
    (ht : tf + 400000 * s.img.diag.retryDelay ≤ s.clock) (hcs : s.snap.cs < s.img.diag.resetMax) :
    s.takeModuleRung = (s.resetRung f).reset10ms := by
  have hdue : ¬ s.clock < tf + msTicks s.dg.retryDelay := Nat.not_lt.2 ht
  unfold State.takeModuleRung
  rw [hmf]
  dsimp only
  rw [if_neg (by simp [hl, State.ladderOn, hej, hreq, hend, hdue]), if_pos (by exact hcs)]
  rfl

/-! ### The power-cycle request and the window (R62, R519, R520) -/

theorem State.pcycEnd_ends {t : Nat} (h : s.panel.pcycReq = some t) (ht : t + 8000000 ≤ s.clock) :
    s.pcycEnd = { s with panel := { s.panel with pcycReq := none }, diag := { s.diag with pcycEnd := some s.clock } } := by
  unfold State.pcycEnd
  rw [h]
  exact if_pos ht

theorem State.pcycIgnored_stops {t : Nat} (h : s.diag.pcycEnd = some t) (ht : t + 800000000 ≤ s.clock) :
    s.pcycIgnored = State.record 0x0006 0 0 [] { s with
      diag := { s.diag with pcycEnd := none }, snap := { s.snap with lstop := true } } := by
  unfold State.pcycIgnored
  rw [h]
  exact if_pos ht

theorem State.ladderWindow_clears (w : Option Nat) (hop : s.power.phase = .operating) (hmode : s.mode ≠ .fault)
    (ht : s.boot.endTick + 400000000 * s.img.diag.ladderWindow ≤ s.clock) :
    s.ladderWindow none w = { s with snap := { s.snap with cs := 0, cp := 0, zeroTime := s.ns } } := by
  have hquiet : s.boot.endTick + secTicks s.dg.ladderWindow ≤ s.clock := ht
  exact if_pos (by simp [State.operating, hop, hmode, hquiet])

/-! ### DIAG_RECOVER (R522) -/

def recoverHit : RegHit :=
  { row := { id := .diagRecover, base := 0x98C0, func := 0, wr := 0x80017FFF, prv := 0x80017FFF }, i := 0, j := 0, high := false }

theorem regAt_recover : regAt 0x98C0 = some recoverHit := by rfl

theorem recoverHit_plain : recoverHit.Plain := ⟨rfl, by decide, by decide, by decide, by decide, rfl⟩

/-- An admitted write of GO notes its fields and acts; of the rest only the bus takes part. -/
theorem State.Admits.writeRecover {m : Master} (ha : a.Admits m 0x98C0) {v : Nat} (hv : v < 2 ^ 32)
    (hfields : v &&& 0x80017FFF = v) (hgo : bit v 31 = true) :
    ∃ b, a.regWriteBy m 0x98C0 4 v = ({ a with bus := b, diag := { a.diag with recover := v &&& 0x17FFF } } : State).diagRecover
      (v % 16) (field v 14 4) (bit v 16) := by
  obtain ⟨b, c, hb⟩ := a.commitWrite_eq m recoverHit 0x98C0 v
  rw [show v &&& recoverHit.row.wr = v from hfields] at hb
  exact ⟨b, (ha.regWriteBy regAt_recover recoverHit_plain rfl hv).trans (hb.trans (if_pos hgo))⟩

theorem State.diagRecover_module (f n : Nat) (hl : s.snap.lstop = true) (hm : s.mode = .fault) :
    s.diagRecover f n true =
      ({ s with snap := { s.snap with cs := 0, cp := 0, lstop := false, zeroTime := s.ns } } : State).reset10ms := by
  simp [State.diagRecover, hl, hm]

/-- A latched unit is released: its latch and its counts are cleared, and its fault stands no longer. -/
theorem State.diagRecover_unit {f n : Nat} {x : Scope} (hx : s.scope f (some n) = some x) (hl : x.latched = true) :
    (s.diagRecover f n false).diag.recover = s.diag.recover ∧
      ((s.diagRecover f n false).scope f (some n)).map (fun y => (y.latched, y.standing, y.cr, y.ci)) =
        some (false, false, 0, 0) := by
  let g (y : Scope) : Scope := { y with latched := false, cr := 0, ci := 0 }
  let b := (s.modScope f (some n) g).clearFault f (some n)
  have hb : s.diagRecover f n false = b.retryFunc f (some n) := by
    simp [State.diagRecover, hx, hl, b, g]
  have hscope : b.scope f (some n) = some { g x with standing := false, last := s.clock } :=
    State.scope_clearFault (State.scope_modScope hx fun _ => ⟨rfl, rfl⟩)
  obtain ⟨l, hd⟩ := b.retryFunc_diag f (some n)
  have hsame : (b.retryFunc f (some n)).scope f (some n) = b.scope f (some n) :=
    (congrArg (fun d : Diag => d.scopes.find? (isScope f (some n))) hd :)
  have hrec : (b.retryFunc f (some n)).diag.recover = b.diag.recover := (congrArg Diag.recover hd :)
  rw [hb, hsame, hscope]
  exact ⟨hrec, rfl⟩

/-- A mask that holds the low 15 bits keeps a number of 15 bits. -/
theorem and_eq_of_lt_of_mask {k c : Nat} (hk : k < 2 ^ 15) (hc : 2 ^ 15 - 1 &&& c = 2 ^ 15 - 1) : k &&& c = k := by
  have hlow : k &&& 2 ^ 15 - 1 = k := Nat.and_two_pow_sub_one_of_lt_two_pow hk
  calc k &&& c = k &&& (2 ^ 15 - 1 &&& c) := by rw [← Nat.land_assoc, hlow]
    _ = k := by rw [hc, hlow]

/-- GO with the 15 bits of a function and its unit, written as a sum. -/
theorem go_add_eq_or {k : Nat} (hk : k < 2 ^ 15) : k + 0x80000000 = 2 ^ 31 ||| k := by
  rw [Nat.add_comm]
  exact Nat.two_pow_add_eq_or_of_lt (i := 31) (a := 1) (hk.trans (by decide))

theorem go_and_fields {k : Nat} (hk : k < 2 ^ 15) : (k + 0x80000000) &&& 0x80017FFF = k + 0x80000000 := by
  rw [go_add_eq_or hk, Nat.and_or_distrib_right, and_eq_of_lt_of_mask hk (by decide)]
  rfl

theorem go_and_unit {k : Nat} (hk : k < 2 ^ 15) : (k + 0x80000000) &&& 0x17FFF = k := by
  rw [go_add_eq_or hk, Nat.and_or_distrib_right, and_eq_of_lt_of_mask hk (by decide)]
  exact Nat.zero_or k

theorem bit_go {k i : Nat} (hk : k < 2 ^ 15) (hi : 15 ≤ i) : bit (k + 0x80000000) i = decide (31 = i) := by
  have hlow : k.testBit i = false := Nat.testBit_lt_two_pow (hk.trans_le (Nat.pow_le_pow_right (by decide) hi))
  rw [go_add_eq_or hk, bit, Nat.testBit_or, hlow, Bool.or_false, Nat.testBit_two_pow]

theorem field_go {f n : Nat} (hf : f < 16) (hn : n < 2048) : field (f + 16 * n + 0x80000000) 14 4 = n := by
  rw [field, Nat.shiftRight_eq_div_pow]
  omega

/-! ### The recorder's writes (R524, R526) -/

theorem State.writeDone_next {e : Entry} {t : Nat} (h : s.log.writing = some (e, t)) (ht : t + 800 ≤ s.clock) :
    s.writeDone = { s.writeEnd with log := s.writeEnd.log.begin s.clock s.writeEnd.snap.clearing } := by
  obtain ⟨l, p, hw⟩ := s.writeEnd_eq
  unfold State.writeDone
  rw [h]
  dsimp only
  rw [if_pos ht, hw]

end

/-- Settles O22: each event of the ladder acts under its own conditions; a write of DIAG_RECOVER comes down to its effect. -/
theorem ladderRuns : Obligations.LadderRuns := by
  refine ⟨?retry, ?reset, ?release, ?request, ?ignored, ?window, ?module, ?unit, ?written⟩
  case retry =>
    rintro s a dt f w x rfl hx hst hla hld hej hmode hrun ht hcr
    exact congrArg done (State.takeRung_retries hx hst hla hld hej hmode hrun ht hcr)
  case reset =>
    rintro s a dt f c tf rfl hmf hl hej hreq hend ht hcs
    have hu := State.reset10ms_held ((s.advance dt).resetRung f)
    obtain ⟨l, hr⟩ := State.recordRung_eq 3 ((s.advance dt).snap.cs + 1) f
      { s.advance dt with snap := { (s.advance dt).snap with cs := (s.advance dt).snap.cs + 1 } }
    have hrung : (s.advance dt).resetRung f = { s.advance dt with
        snap := { (s.advance dt).snap with cs := (s.advance dt).snap.cs + 1 }, log := l } := hr
    refine ⟨_, congrArg done (State.takeModuleRung_resets hmf hl hej hreq hend ht hcs), ?_, ?_, hu.mode, hu.slots, ?_⟩
    · rw [hu.phase, hrung]
    · rw [hu.cs, hrung]
    · rw [hu.floor, hrung]
  case release =>
    rintro s a dt t r1 r2 r3 rfl hphase ht
    exact ⟨_, congrArg done (State.resetRelease_releases r1 r2 r3 hphase ht), rfl, rfl, rfl, State.release_tick r1 r2 r3, rfl⟩
  case request =>
    rintro s a dt t rfl hreq ht
    exact congrArg done (State.pcycEnd_ends hreq ht)
  case ignored =>
    rintro s a dt t rfl hend ht
    exact congrArg done (State.pcycIgnored_stops hend ht)
  case window =>
    rintro s a dt w rfl hop hmode ht
    exact congrArg done (State.ladderWindow_clears w hop hmode ht)
  case module =>
    rintro s a dt m rfl hadm hl hmode
    obtain ⟨b, hb⟩ := hadm.writeRecover (v := 0x80010000) (by decide) (by decide) (by decide)
    have hrec := State.diagRecover_module (s := { s.advance dt with
      bus := b, diag := { (s.advance dt).diag with recover := 0x80010000 &&& 0x17FFF } }) 0 0 hl hmode
    have hu := State.reset10ms_held { s.advance dt with
      bus := b, diag := { (s.advance dt).diag with recover := 0x80010000 &&& 0x17FFF }
      snap := { (s.advance dt).snap with cs := 0, cp := 0, lstop := false, zeroTime := (s.advance dt).ns } }
    exact ⟨_, congrArg done (hb.trans hrec), hu.phase, hu.lstop, hu.cs, hu.cp⟩
  case unit =>
    rintro s a dt f n m x rfl hadm hf hn hx hl
    have hk : f + 16 * n < 2 ^ 15 := by omega
    have hlow : f % 16 + 16 * (n % 2048) = f + 16 * n := by rw [Nat.mod_eq_of_lt hf, Nat.mod_eq_of_lt hn]
    obtain ⟨b, hb⟩ := hadm.writeRecover (v := f + 16 * n + 0x80000000) (by omega) (go_and_fields hk) (bit_go hk (by decide))
    rw [go_and_unit hk, field_go hf hn, bit_go hk (by decide), show (f + 16 * n + 0x80000000) % 16 = f by omega] at hb
    have hu := State.diagRecover_unit (s := { s.advance dt with
      bus := b, diag := { (s.advance dt).diag with recover := f + 16 * n } }) hx hl
    exact ⟨_, congrArg done ((congrArg (fun k => (s.advance dt).regWriteBy m 0x98C0 4 (k + 0x80000000)) hlow).trans hb), hu⟩
  case written =>
    rintro s a dt t e rfl hw ht
    exact congrArg done (State.writeDone_next hw ht)

end Sys2Proof.Machine
end

section
/-! PROOFS. The sequence floor falls by OWNER_RELEASE alone (R101, R111). -/

namespace Sys2Proof.Machine

/-- A command that is neither an OWNER_RELEASE row nor carries its code 11h releases nothing. -/
theorem mayRelease_eq_false {c : Instr} (hrow : ∀ dt sid req p, c ≠ .ownerRelease dt sid req p)
    (hcode : ∀ dt sid req p, c ≠ .unknownCmd dt sid req 0x11 p) : c.mayRelease = false := by
  unfold Instr.mayRelease
  split
  · next dt sid req p => exact absurd rfl (hrow dt sid req p)
  · next dt sid req cmd p => exact beq_eq_false_iff_ne.mpr fun h => hcode dt sid req p (by rw [h])
  · rfl

/-- A sound state in which no OWNER_RELEASE waits keeps its own bounds with no release allowed: the floor is one of them. -/
theorem State.Sound.holds_floor {s : State} (h : s.Sound) (hw : ∀ r ∈ s.waiting, r.cmd ≠ 0x11) :
    Holds { s.bounds with release := false } s :=
  { h.holds with floor := .inr (Nat.le_refl _), waits := .inr hw }

/-- Settles O50: the floor is one of the bounds that every command keeps, where neither it nor what waits may release. -/
theorem floorNeverFalls : Obligations.FloorNeverFalls := by
  unfold Obligations.FloorNeverFalls
  intro c s t hs hrow hcode hwait hx
  obtain ⟨dt, u, hu, hk⟩ := exec_holds (hs.holds_floor hwait) c (.inr (mayRelease_eq_false hrow hcode))
  obtain rfl : u = t := Host.Outcome.next.inj (hu.symm.trans hx)
  exact hk.floor.resolve_left Bool.false_ne_true

end Sys2Proof.Machine
end

section
/-! PROOFS. Start-up, from the firmware check to its outcome (R78, R87, R93 to R96, R110, R531). -/

namespace Sys2Proof.Machine

variable {s : State}

/-! ### The recorder starts (R531) -/

theorem State.logScan_eq (lost : Bool) (s : State) : ∃ l n, s.logScan lost = { s with log := l, snap := n } := by
  unfold State.logScan
  dsimp only
  split
  · exact ⟨_, _, rfl⟩
  · split
    · exact ⟨_, s.snap, rfl⟩
    · split
      · exact ⟨_, s.snap, rfl⟩
      · exact ⟨_, s.snap, rfl⟩

theorem State.logPending_eq (s : State) : ∃ l, s.logPending = { s with log := l } := by
  unfold State.logPending
  split
  · exact ⟨_, rfl⟩
  · exact ⟨s.log, rfl⟩

/-- The recorder's start changes the recorder, and the safety core's store where a clear was in progress. -/
theorem State.logStart_eq (lost : Bool) (s : State) : ∃ l n, s.logStart lost = { s with log := l, snap := n } := by
  obtain ⟨l, n, hscan⟩ := s.logScan_eq lost
  obtain ⟨k, hpend⟩ := State.logPending_eq { s with log := l, snap := n }
  exact ⟨k, n, (congrArg State.logPending hscan).trans hpend⟩

/-! ### The steps of start-up (R93, R94, R110) -/

/-- The state that the management firmware finds when it begins to run: the brown-out latch is read (R78, R93). -/
def State.firmwareRuns (s : State) : State := { s with boot := { s.boot with
  fwRun := true, wasBrownout := s.boot.brownout, brownout := false, rtcValid := s.boot.rtcSet && !s.boot.brownout } }

theorem State.firmware_good (hp : s.power.phase = .startup) (hf : s.boot.fwRun = false) :
    ∃ l n, s.firmware true = { s.firmwareRuns with log := l, snap := n } := by
  obtain ⟨l, n, h⟩ := s.firmwareRuns.logStart_eq s.boot.brownout
  exact ⟨l, n, (if_pos ⟨hp, hf⟩).trans h⟩

/-- A copy without its mark is no candidate (R110). -/
theorem State.candidate_of_unmarked {c : StoredCopy} (h : c.marked = false) : s.candidate c = false := by
  simp [State.candidate, h]

theorem State.copySelection_unmarked (hp : s.power.phase = .startup) (ht : s.boot.selftest = some true)
    (hd : s.boot.copyDone = false) (ha : s.store.copyA.marked = false) (hb : s.store.copyB.marked = false) :
    s.copySelection = State.setOutcome (if s.store.owner.isSome then 0x0F else 1) 0
      { s with store := { s.store with candA := false, candB := false, selected := none, loaded := none } } := by
  unfold State.copySelection
  rw [if_pos ⟨hp, ht, hd⟩, State.candidate_of_unmarked ha, State.candidate_of_unmarked hb]
  rfl

/-! ### The end of start-up (R96) -/

/-- `u` follows `s` by the end of start-up with the outcome `c`, no image put in force. -/
structure EndsStartup (c : Nat) (s u : State) : Prop where
  power : u.power = { s.power with phase := .operating }
  boot : u.boot = { s.boot with outcome := c, endTick := s.clock }
  mode : u.mode = s.mode
  store : u.store = s.store

theorem State.startupEnd_selftest_failed (hp : s.power.phase = .startup) (hf : s.boot.fwRun = true)
    (ht : s.boot.selftest = some false) : EndsStartup 0x11 s s.startupEnd := by
  unfold State.startupEnd
  rw [if_neg (by simp [hp, hf]), ht]
  exact ⟨rfl, rfl, rfl, rfl⟩

theorem State.startupEnd_nothing_loaded (hp : s.power.phase = .startup) (hf : s.boot.fwRun = true)
    (ht : s.boot.selftest = some true) (hd : s.boot.copyDone = true) (hl : s.store.loaded = none) :
    EndsStartup s.boot.code s s.startupEnd := by
  unfold State.startupEnd
  rw [if_neg (by simp [hp, hf]), ht, hd, hl]
  exact ⟨rfl, rfl, rfl, rfl⟩

/-- Settles O2: each event of start-up finds its conditions standing, and leaves what its own step leaves. -/
theorem startupRuns : Obligations.StartupRuns := by
  refine ⟨?inert, ?runs, ?tested, ?lamp, ?selected, ?failed, ?ended⟩
  case inert =>
    rintro s a dt rfl hp hf
    exact congrArg done (if_pos ⟨hp, hf⟩)
  case runs =>
    rintro s a dt rfl hp hf
    obtain ⟨l, n, hu⟩ := State.firmware_good hp hf
    exact ⟨_, congrArg done hu, rfl, rfl, rfl, rfl⟩
  case tested =>
    rintro s a dt ok se rfl hp hf ht
    exact congrArg done (if_pos ⟨hp, hf, ht⟩)
  case lamp =>
    rintro s a dt rfl hl ht
    exact congrArg done (if_pos (Bool.and_intro hl (decide_eq_true ht)))
  case selected =>
    rintro s a dt rfl hp ht hd ha hb
    exact congrArg done (State.copySelection_unmarked hp ht hd ha hb)
  case failed =>
    rintro s a dt rfl hp hf ht
    have hu := State.startupEnd_selftest_failed hp hf ht
    exact ⟨_, rfl, hu.power, hu.boot, hu.mode, hu.store⟩
  case ended =>
    rintro s a dt rfl hp hf ht hd hl
    have hu := State.startupEnd_nothing_loaded hp hf ht hd hl
    exact ⟨_, rfl, hu.power, hu.boot, hu.mode, hu.store⟩

end Sys2Proof.Machine
end

section
/-! PROOFS. SMP sessions: how they open, and what is left of them when they close (R100, R116, R430, R431). -/

namespace Sys2Proof.Machine

variable {s u : State}

/-! ### Handshakes (R430, R431) -/

/-- `u` follows `s` by the opening of the session `x`. -/
structure Opens (x : Session) (s u : State) : Prop where
  store : u.store = s.store
  mode : u.mode = s.mode
  sessions : u.sessions = s.sessions ++ [x]

/-- A handshake with the offer of R431 is answered while SMP is served, the number is free and fewer than eight sessions
stand open, on an OWNED module under certificates whose dates hold or cannot be checked. -/
theorem State.handshake_opens {sid : Nat} {pr : Bool} {chain : List (List Byte)} {r : Role} (hon : s.smpOn = true)
    (hfree : s.session sid = none) (hroom : s.sessions.length < 8)
    (hdates : s.store.owner.isSome = true → datesOk s.ns chain = true ∨ s.datesChecked = false)
    (hrole : s.clientRole pr chain = some r) :
    Opens { sid := sid, role := r, fp := if s.store.owner.isSome then sha256 (chain.headD []) else [], lastRec := s.clock } s
      (s.handshake sid 0x1301 0x0017 0x0403 false false pr chain) := by
  have hd : (!s.store.owner.isSome || datesOk s.ns chain || !s.datesChecked) = true := by
    by_cases ho : s.store.owner.isSome = true
    · simpa [ho] using hdates ho
    · simp [ho]
  have hall : (s.smpOn && (s.session sid).isNone && decide (s.sessions.length < 8) &&
      offerOk 0x1301 0x0017 0x0403 false false &&
      (!s.store.owner.isSome || datesOk s.ns chain || !s.datesChecked)) = true := by
    simpa [hon, hfree, hroom, offerOk] using hd
  unfold State.handshake
  dsimp only
  rw [if_pos hall, hrole]
  exact ⟨rfl, rfl, rfl⟩

/-- Another offer, a resumption, early data or a ninth session is refused, and changes nothing (R431). -/
theorem State.handshake_refused {sid n g k : Nat} {rs ea pr : Bool} {chain : List (List Byte)}
    (h : offerOk n g k rs ea = false ∨ 8 ≤ s.sessions.length) : s.handshake sid n g k rs ea pr chain = s := by
  refine if_neg fun hall => ?_
  simp only [Bool.and_eq_true, decide_eq_true_eq] at hall
  obtain ⟨⟨⟨-, hroom⟩, hoffer⟩, -⟩ := hall
  rcases h with h | h
  · exact Bool.false_ne_true (h.symm.trans hoffer)
  · exact absurd hroom (Nat.not_lt.mpr h)

/-! ### The numbers of the open sessions -/

/-- The numbers of the open sessions, in order. -/
def State.sids (s : State) : List Nat := s.sessions.map (·.sid)

theorem State.session_eq_none {sid : Nat} : s.session sid = none ↔ sid ∉ s.sids := by
  simp [State.session, State.sids, findKey]

theorem State.modSession_sids {sid : Nat} {f : Session → Session} (hf : ∀ x, (f x).sid = x.sid) :
    (s.modSession sid f).sids = s.sids := by
  unfold State.sids State.modSession modifyKey
  rw [List.map_map]
  refine List.map_congr_left fun x _ => ?_
  dsimp only [Function.comp]
  split
  · exact hf x
  · rfl

/-- A response is stored with its session, which stays open. -/
theorem State.answer_sids (sid req code : Nat) (p : List Byte) : (s.answer sid req code p).sids = s.sids := by
  unfold State.answer
  dsimp only
  split
  · exact State.modSession_sids fun _ => rfl
  · exact State.modSession_sids fun _ => rfl

theorem State.olcAbort_sids (c k : Nat) : (s.olcAbort c k).sids = s.sids := by
  unfold State.olcAbort
  split
  · rfl
  · dsimp only
    split
    · exact State.answer_sids ..
    · rfl

/-! ### Sessions close (R116, R431) -/

/-- The staging copy is EMPTY. -/
def State.unstaged (s : State) : State := { s with store := { s.store with stage := {} } }

theorem State.record_keepsPanel (code unit item : Nat) (d : List Byte) : KeepsPanel s (s.record code unit item d) :=
  ⟨rfl, rfl, rfl, rfl, rfl, rfl⟩

theorem State.abandonLoad_eq (kind code ty : Nat) : s.abandonLoad kind code ty =
    (s.unstaged.record 0x0103 0 0
      (leBytes 1 kind ++ leBytes 1 code ++ leBytes 2 ty ++ leBytes 4 s.store.stage.data.length)).olcAbort 0x36 5 := rfl

/-- An abandoned load leaves EMPTY behind it, a record, and the end of an online change that used it (R116, R187). -/
theorem State.abandonLoad_keepsPanel (kind code ty : Nat) : KeepsPanel s.unstaged (s.abandonLoad kind code ty) := by
  rw [State.abandonLoad_eq]
  exact (State.record_keepsPanel ..).trans (State.olcAbort_keepsPanel 0x36 5)

theorem State.abandonLoad_sids (kind code ty : Nat) : (s.abandonLoad kind code ty).sids = s.sids :=
  State.olcAbort_sids 0x36 5

/-- `u` follows `s` by the closing of the session `sid`. -/
structure Closes (sid : Nat) (s u : State) : Prop where
  mode : u.mode = s.mode
  slots : u.slots = s.slots
  image : u.store.image = s.store.image
  sids : u.sids = (s.sessions.filter fun y => decide (y.sid ≠ sid)).map (·.sid)

theorem Closes.session {sid : Nat} (h : Closes sid s u) : u.session sid = none := by
  rw [State.session_eq_none, h.sids]
  simp

/-- The session `x` leaves the list, and its closing is recorded (R431). -/
def State.dropSession (x : Session) (sid : Nat) (s : State) : State :=
  ({ s with sessions := s.sessions.filter fun y => decide (y.sid ≠ sid) } : State).recordSession 2 x false

theorem State.closeSession_eq {sid : Nat} {x : Session} (h : s.session sid = some x) :
    s.closeSession sid = if s.store.stage.st = .receiving ∧ s.store.stage.sid = some sid then
      (s.dropSession x sid).abandonLoad 2 0 0 else s.dropSession x sid := by
  unfold State.closeSession
  rw [h]
  rfl

theorem State.dropSession_closes (x : Session) (sid : Nat) : Closes sid s (s.dropSession x sid) := ⟨rfl, rfl, rfl, rfl⟩

theorem State.closeSession_closes {sid : Nat} {x : Session} (h : s.session sid = some x) :
    Closes sid s (s.closeSession sid) := by
  have h1 := s.dropSession_closes x sid
  rw [State.closeSession_eq h]
  split
  · have hk := State.abandonLoad_keepsPanel (s := s.dropSession x sid) 2 0 0
    exact ⟨hk.mode.trans h1.mode, hk.slots.trans h1.slots, (congrArg Store.image hk.store).trans h1.image,
      (State.abandonLoad_sids 2 0 0).trans h1.sids⟩
  · exact h1

/-- The deadline of a session that has been idle for more than 30 s lies in the past, and closes it (R17, R431). -/
theorem State.expire_sessionIdle {sid : Nat} {x : Session} (hon : s.smpOn = true) (h : s.session sid = some x)
    (ht : x.lastRec + 12000000000 < s.clock) : s.expire (.sessionIdle sid) = s.closeSession sid := by
  have hpast : s.deadline (.sessionIdle sid) ≠ some s.clock := by
    simp only [State.deadline, h, Option.map_some, ne_eq, Option.some.injEq]
    exact Nat.ne_of_lt ht
  have hidle : s.sessionIdle sid = s.closeSession sid := by
    unfold State.sessionIdle
    rw [h]
    exact if_pos ⟨hon, Nat.le_of_lt ht⟩
  exact (State.expire_past hpast).trans hidle

/-- Settles O6: a handshake passes its conditions with a role or changes nothing, and each way to close a session comes
to the same end. -/
theorem smpSessions : Obligations.SmpSessions := by
  refine ⟨?anonymous, ?owned, ?refused, ?idle, ?closed⟩
  case anonymous =>
    rintro s a dt sid pr rfl hon hfree hroom howner
    have hu := State.handshake_opens (sid := sid) (pr := pr) (chain := []) (r := .anon) hon hfree hroom
      (by simp [howner]) (by simp [State.clientRole, howner])
    exact ⟨_, rfl, hu.store, hu.mode, hu.sessions.trans (by simp [howner])⟩
  case owned =>
    rintro s a dt sid root rf chain c r rfl hon hfree hroom howner hchain hleaf hdates
    have hu := State.handshake_opens (sid := sid) (pr := true) (r := r) hon hfree hroom (fun _ => hdates)
      (by simp [State.clientRole, State.clientLeaf, howner, hchain, hleaf])
    exact ⟨_, rfl, hu.store, hu.mode, hu.sessions.trans (by simp [howner])⟩
  case refused =>
    rintro s a dt sid n g k rs ea pr chain rfl h
    exact congrArg done (State.handshake_refused h)
  case idle =>
    rintro s a dt sid x rfl hon hx ht
    have hu := State.closeSession_closes hx
    exact ⟨_, congrArg done (State.expire_sessionIdle hon hx ht), hu.session, hu.mode, hu.slots, hu.sids, hu.image⟩
  case closed =>
    rintro s a dt sid x rfl hon hx
    have hu := State.closeSession_closes hx
    exact ⟨_, congrArg done (if_pos hon), hu.session, hu.mode, hu.slots, hu.sids, hu.image⟩

end Sys2Proof.Machine
end

section
/-! PROOFS. Loading an image by command, from its first byte to its commit (R113, R115, R116, R118, R119, R175). -/

namespace Sys2Proof.Machine

variable {s : State}

/-! ### The checks of a load (R113, R116) -/

/-- The code that answers IMAGE_VERIFY. -/
def State.verifyCode (s : State) : Nat := match s.loadChecks.2.2 with | some _ => 0 | none => s.loadChecks.1

/-- `u` follows `s` by the checks of a load: the copy is VERIFIED, or abandoned with the failing check's code and TYPE. -/
structure Verified (s u : State) : Prop where
  store : u.store = { s.store with
    stage := match s.loadChecks.2.2 with | some i => { s.store.stage with st := .verified, img := some i } | none => {}
    lastLoad := s.verifyCode
    lastType := match s.loadChecks.2.2 with | some _ => 0 | none => s.loadChecks.2.1 }
  mode : u.mode = s.mode
  slots : u.slots = s.slots

theorem State.verify_verified (s : State) : ∃ u, s.verify = (u, some (s.verifyCode, [])) ∧ Verified s u := by
  unfold State.verify State.verifyCode
  rcases hc : s.loadChecks with ⟨code, ty, _ | i⟩
  · have hk := State.abandonLoad_keepsPanel (s := s.setLast code ty) 3 code ty
    exact ⟨_, rfl, hk.store.trans (by rw [State.verifyCode, hc]; rfl), hk.mode, hk.slots⟩
  · exact ⟨_, rfl, by rw [State.verifyCode, hc]; rfl, rfl, rfl⟩

/-! ### The stored copies (R115) -/

section
variable (b : Bool) (c : StoredCopy)

@[simp] theorem State.copyOf_setCopy : (s.setCopy b c).copyOf b = c := by cases b <;> rfl

@[simp] theorem State.copyOf_setCopy_not : (s.setCopy (!b) c).copyOf b = s.copyOf b := by cases b <;> rfl

@[simp] theorem State.copyOf_not_setCopy : (s.setCopy b c).copyOf (!b) = s.copyOf (!b) := by cases b <;> rfl

@[simp] theorem State.setCopy_floor : (s.setCopy b c).store.floor = s.store.floor := by cases b <;> rfl

@[simp] theorem State.setCopy_image : (s.setCopy b c).store.image = s.store.image := by cases b <;> rfl

@[simp] theorem State.setCopy_commit : (s.setCopy b c).store.commit = s.store.commit := by cases b <;> rfl

@[simp] theorem State.setCopy_dup : (s.setCopy b c).store.dup = s.store.dup := by cases b <;> rfl

end

theorem State.copyOf_congr {u : State} (b : Bool) (hA : u.store.copyA = s.store.copyA) (hB : u.store.copyB = s.store.copyB) :
    u.copyOf b = s.copyOf b := by
  unfold State.copyOf
  rw [hA, hB]

/-- Which copy is the staging copy depends on the store alone. -/
theorem State.stagingB_congr {u : State} (h : u.store = s.store) : u.stagingB = s.stagingB := by
  unfold State.stagingB State.committed
  rw [h]

/-! ### A commit begins (R119, R468 to R470) -/

/-- `u` follows a state with the store `st` by the begin of a commit into copy `b`, outside an online change (R119). -/
structure CommitBegun (b : Bool) (st : Store) (u : State) : Prop where
  commit : u.store.commit = some (false, b)
  stage : u.store.stage.st = .empty
  copy : u.copyOf b = { bytes := st.stage.data, digest := imageDigest st.stage.data, seqNo := hdrSeq st.stage.data, mark := 0xFFFFFFFF#32 }
  floor : u.store.floor = st.floor
  image : u.store.image = st.image

theorem State.beginCommit_begun {a : State} (h : a.store = s.store) :
    CommitBegun s.stagingB s.store (a.beginCommit false) := by
  rw [← State.stagingB_congr h, ← h]
  exact {
    commit := rfl
    stage := rfl
    copy := (State.copyOf_congr a.stagingB rfl rfl).trans (State.copyOf_setCopy a.stagingB _)
    floor := State.setCopy_floor ..
    image := State.setCopy_image .. }

theorem State.storeSafe_store (d : List Byte) (n : Nat) (who : List Byte) : (s.storeSafe d n who).store = s.store := by
  unfold State.storeSafe
  split
  · rfl
  · rfl

/-- A verified image whose safety-relevant configuration is the stored one, or the first, is committed without the
safety password (R469, R470). -/
theorem State.commitImage_begun (x : Session) {i : Image}
    (h : s.so.safeDigest = none ∨ s.so.safeDigest = some (safeDigestOf i)) :
    ∃ u, s.commitImage x i = (u, some (0, [])) ∧ CommitBegun s.stagingB s.store u := by
  unfold State.commitImage
  refine ⟨_, if_neg ?_, ?_⟩
  · rcases h with h | h <;> simp [h]
  · exact State.beginCommit_begun (State.storeSafe_store ..)

/-! ### The commands (R113 to R119, R175) -/

/-- Settles O8: each command passes the stages of R175 and its own conditions, and its operation leaves what the statement
names. -/
theorem smpImages : Obligations.SmpImages := by
  refine ⟨?begin, ?data, ?loaded, ?verify, ?abort, ?adopt, ?commit⟩
  case begin =>
    rintro s a dt sid req p x rfl h hrole hp ht hsec hst hcom hown hlen hdup
    refine congrArg done ((h.serve _).trans ?_)
    refine h.command (r := { sid := sid, req := req, cmd := 0x20, p := p }) hrole ht (by simp [SmpReq.len, hp])
      (by simp [hp]) ?_
    have howned : (s.advance dt).store.owner ≠ none := Option.isSome_iff_ne_none.mp hown
    exact (if_neg (by simp [State.marking, hsec, hst, hcom])).trans ((if_neg (by simp [howned])).trans
      ((if_neg (by simp [SmpReq.num, hlen])).trans (if_neg (by simp [hdup]))))
  case data =>
    rintro s a dt sid req p x d rfl h hrole ht hd hst hsid hroom hp rfl hofs
    refine congrArg done ((h.serve _).trans ?_)
    have hlen : p.length ≤ 1100 := by rw [List.length_drop] at hd; omega
    refine h.command (r := { sid := sid, req := req, cmd := 0x21, p := p }) hrole ht (decide_eq_true ⟨hp, hd⟩) hlen ?_
    exact (if_neg (not_not_intro hst)).trans ((if_neg (not_or.2 ⟨not_not_intro hsid, not_not_intro hofs⟩)).trans
      (if_neg (by rw [SmpReq.num, hofs]; exact Nat.not_lt.2 hroom)))
  case loaded =>
    rintro s a dt sid req p x rfl h hrole rfl ht hst hlen
    refine congrArg done ((h.serve _).trans ?_)
    refine h.command (r := { sid := sid, req := req, cmd := 0x22, p := [] }) hrole ht rfl (by simp) ?_
    exact if_pos ⟨hst, hlen⟩
  case verify =>
    rintro s a dt sid req p x rfl h hrole rfl ht hsec hst
    obtain ⟨u, hu, hv⟩ := State.verify_verified ((s.advance dt).taken sid req 0x23)
    refine ⟨u, congrArg done ((h.serve _).trans ?_), hv.store, hv.mode, hv.slots⟩
    refine h.command (r := { sid := sid, req := req, cmd := 0x23, p := [] }) hrole ht rfl (by simp) ?_
    exact (if_neg (by simp [hsec, hst])).trans hu
  case abort =>
    rintro s a dt sid req p x rfl h hrole rfl ht hst
    have hu := State.abandonLoad_keepsPanel (s := (s.advance dt).taken sid req 0x24) 1 0 0
    refine ⟨_, congrArg done ((h.serve _).trans ?_), hu.store, hu.slots, hu.mode⟩
    refine h.command (r := { sid := sid, req := req, cmd := 0x24, p := [] }) hrole ht rfl (by simp) ?_
    exact if_neg hst
  case adopt =>
    rintro s a dt sid req p x r n rfl h hrole rfl hkey hmode ht hsec hst hcom hdup hown hslot
    refine congrArg done ((h.serve _).trans ?_)
    refine h.command (r := { sid := sid, req := req, cmd := 0x25, p := [], partner := some (r, n) }) hrole
      (table := fun s => s.ownTable && s.tested)
      (Bool.and_intro (Bool.and_intro (decide_eq_true hkey) (decide_eq_true hmode)) ht) rfl (by simp) ?_
    exact if_neg (by simp [State.marking, State.mayAdopt, hsec, hst, hcom, hdup, hown, hslot])
  case commit =>
    rintro s a dt sid req p x i rfl h hrole rfl htable hsec hst hi hsafe
    obtain ⟨u, hu, hc⟩ := State.commitImage_begun (s := (s.advance dt).taken sid req 0x26) x hsafe
    refine ⟨u, congrArg done ((h.serve _).trans ?_), hc.commit, hc.stage, hc.copy, hc.floor, hc.image⟩
    refine h.command (r := { sid := sid, req := req, cmd := 0x26, p := [] }) hrole htable rfl (by simp) ?_
    simp [hst, hi, hsec, hu]

end Sys2Proof.Machine
end

section
/-! PROOFS. The events of a load, a commit and a duplication (R111, R114, R116, R118 to R120). -/

namespace Sys2Proof.Machine

-- a membership that `by decide` fills in waits for the declarations before it: they are elaborated in order
set_option Elab.async false

variable {s : State}

/-! ### The stored copies when ACTIVE is left (R119, R177, R480) -/

theorem State.leaveSo_store : s.leaveSo.store = s.store := by
  have h : FuncTouches s ((List.range 4).foldl (fun s k => (s.brakeDemand k).testAbort k) s) :=
    Touches.refl.foldl fun b k _ hb =>
      hb.trans ((State.brakeDemand_touches (s := b) k).trans (State.testAbort_touches k))
  unfold State.leaveSo
  extract_lets s1
  have h1 : s1.store = s.store := h.store
  clear_value s1
  exact h1

theorem State.leaveFuncs_store (planned : Bool) : (s.leaveFuncs planned).store = s.store := by
  have h1 : FuncTouches s.leaveSeq (((((s.leaveSeq).leaveMs).leaveLoop).leaveSlv).leaveCan).leaveFld :=
    State.leaveMs_touches.setLoop.setSlv.setCan.setFld
  have h2 : FuncTouches (((((s.leaveSeq).leaveMs).leaveLoop).leaveSlv).leaveCan).leaveFld.leaveSo (s.leaveFuncs planned) :=
    (State.leaveEth_touches planned).setUsl
  exact h2.store.trans (State.leaveSo_store.trans h1.store)

theorem State.leaveBarn_store (m : ModState) : (s.leaveBarn m).store = s.store := by
  unfold State.leaveBarn
  split
  · rfl
  · split <;> rfl

/-- The stored copies, the floor and the committed image are no part of being ACTIVE. -/
theorem State.leaveActive_store (m : ModState) (planned : Bool) : (s.leaveActive m planned).store = s.store := by
  unfold State.leaveActive
  split
  · rfl
  · exact (State.leaveFuncs_store planned).trans ((State.leaveBarn_store m).trans (State.olcAbort_keepsPanel 0x36 3).store)

/-! ### The commit mark (R111, R119, R120) -/

/-- `u` follows `s` by the commit mark of copy `b`: the copy carries it, the floor has risen to its SEQ, and the commit has
ended. -/
structure MarkWritten (b : Bool) (s u : State) : Prop where
  floor : u.store.floor = max s.store.floor (s.copyOf b).seqNo
  commit : u.store.commit = none
  copy : u.copyOf b = { s.copyOf b with mark := 0x5A5AC3C3#32 }

/-- `u` has the power, the module state, the process image and the committed image of `s`. -/
structure KeepsRunning (s u : State) : Prop where
  power : u.power = s.power
  mode : u.mode = s.mode
  slots : u.slots = s.slots
  image : u.store.image = s.store.image

theorem State.setCopy_keepsRunning (b : Bool) (c : StoredCopy) : KeepsRunning s (s.setCopy b c) := by
  cases b <;> exact ⟨rfl, rfl, rfl, rfl⟩

theorem State.setCopy_boot (b : Bool) (c : StoredCopy) : (s.setCopy b c).boot = s.boot := by cases b <;> rfl

/-- Copy `b` is the one in force. -/
def State.selectCopy (b : Bool) (s : State) : State := { s with store := { s.store with selected := some b } }

/-- Duplication of copy `b` over the other one begins (R119). -/
def State.beginDup (b : Bool) (s : State) : State :=
  ({ s with store := { s.store with dup := some (!b) } } : State).setCopy (!b) {}

/-- The mark is written, start-up runs again unless this is an online change, and duplication begins (R119, R120). -/
theorem State.commitMark_eq {olc b : Bool} (hop : s.power.phase = .operating) (hc : s.store.commit = some (olc, b)) :
    ∃ t, MarkWritten b s t ∧ KeepsRunning s t ∧
      s.commitMark = State.beginDup b (if olc then t.selectCopy b else t.restart) := by
  unfold State.commitMark
  simp -zeta only [hc]
  extract_lets c0 c s1 _ s2 s3 _ s4
  have hk : KeepsRunning s s1 := State.setCopy_keepsRunning b c
  have hf : s1.store.floor = s.store.floor := State.setCopy_floor b c
  have hb : s1.copyOf b = c := State.copyOf_setCopy b c
  clear_value s1
  have hm3 : MarkWritten b s s3 := ⟨congrArg (max · c.seqNo) hf, rfl, hb⟩
  have hk3 : KeepsRunning s s3 := ⟨hk.power, hk.mode, hk.slots, hk.image⟩
  clear_value s3
  refine ⟨s3, hm3, hk3, ?_⟩
  rw [hk.power, hop]
  rfl

theorem MarkWritten.select {b : Bool} {t : State} (h : MarkWritten b s t) : MarkWritten b s (t.selectCopy b) :=
  ⟨h.floor, h.commit, h.copy⟩

theorem MarkWritten.restart {b : Bool} {t : State} (h : MarkWritten b s t) : MarkWritten b s t.restart where
  floor := (congrArg Store.floor (State.leaveActive_store .unconfigured false)).trans h.floor
  commit := rfl
  copy := (State.copyOf_congr b (congrArg Store.copyA (State.leaveActive_store .unconfigured false))
    (congrArg Store.copyB (State.leaveActive_store .unconfigured false))).trans h.copy

/-- `u` follows `s` by the commit of copy `b`: its mark is written, and the other copy is erased for its duplicate. -/
structure Committed (b : Bool) (s u : State) : Prop extends MarkWritten b s u where
  dup : u.store.dup = some (!b)
  other : u.copyOf (!b) = {}

theorem MarkWritten.committed {b : Bool} {t : State} (h : MarkWritten b s t) : Committed b s (t.beginDup b) where
  floor := (State.setCopy_floor ..).trans h.floor
  commit := (State.setCopy_commit ..).trans h.commit
  copy := (State.copyOf_setCopy_not ..).trans h.copy
  dup := State.setCopy_dup ..
  other := State.copyOf_setCopy ..

theorem State.beginDup_keepsRunning (b : Bool) : KeepsRunning s (s.beginDup b) := by
  cases b <;> exact ⟨rfl, rfl, rfl, rfl⟩

theorem State.beginDup_boot (b : Bool) : (s.beginDup b).boot = s.boot := State.setCopy_boot ..

/-! ### A load's time, and the end of a duplication (R114, R116) -/

theorem State.expire_loadTimeout (hop : s.power.phase = .operating) (hst : s.store.stage.st = .receiving)
    (ht : s.store.stage.lastData + 24000000000 < s.clock) : s.expire .loadTimeout = s.abandonLoad 2 0 0 := by
  have hpast : s.deadline .loadTimeout ≠ some s.clock := fun hd => Nat.ne_of_lt ht (Option.some.inj hd)
  exact (State.expire_past hpast).trans (if_pos ⟨hst, Nat.le_of_lt ht, State.running_of_operating hop⟩)

/-- `u` follows `s` by the end of the duplication over copy `b`. -/
structure Duplicated (b : Bool) (s u : State) : Prop where
  copy : u.copyOf b = s.copyOf (!b)
  other : u.copyOf (!b) = s.copyOf (!b)
  dup : u.store.dup = none
  selected : u.store.selected = some false
  floor : u.store.floor = s.store.floor
  slots : u.slots = s.slots

theorem State.dupDone_duplicated {b : Bool} (hop : s.power.phase = .operating) (hd : s.store.dup = some b) :
    Duplicated b s s.dupDone := by
  unfold State.dupDone
  rw [hd]
  have hrun : s.operating = true := decide_eq_true hop
  simp -zeta only [hrun, if_true]
  exact {
    copy := State.copyOf_setCopy ..
    other := State.copyOf_not_setCopy ..
    dup := rfl
    selected := rfl
    floor := State.setCopy_floor ..
    slots := (State.setCopy_keepsRunning ..).slots }

/-- Settles O9: each event finds its condition standing; the commit's mark is followed by the restart or the selection of
its copy, and by duplication. -/
theorem imageEvents : Obligations.ImageEvents := by
  refine ⟨?timeout, ?adopted, ?restart, ?online, ?duplicated⟩
  case timeout =>
    rintro s a dt rfl hop hst ht
    have hu := State.abandonLoad_keepsPanel (s := s.advance dt) 2 0 0
    exact ⟨_, congrArg done (State.expire_loadTimeout hop hst ht), hu.store, hu.mode, hu.slots⟩
  case adopted =>
    rintro s a dt rfl hst hsid hlen
    exact congrArg done (if_pos ⟨hst, hsid, hlen⟩)
  case restart =>
    rintro s a dt b rfl hop hc
    obtain ⟨t, hm, -, heq⟩ := State.commitMark_eq hop hc
    have hu := hm.restart.committed
    have hk := State.beginDup_keepsRunning (s := t.restart) b
    exact ⟨_, congrArg done heq, hu.floor, hu.commit, hu.dup, hu.copy, hu.other, congrArg Power.phase hk.power,
      congrArg Boot.copyDone (State.beginDup_boot b), hk.image, hk.slots⟩
  case online =>
    rintro s a dt b rfl hop hc
    obtain ⟨t, hm, hkt, heq⟩ := State.commitMark_eq hop hc
    have hu := hm.select.committed
    have hk := State.beginDup_keepsRunning (s := t.selectCopy b) b
    exact ⟨_, congrArg done heq, hu.floor, hu.commit, hu.dup, hu.copy, hu.other, hk.power.trans hkt.power,
      hk.image.trans hkt.image, hk.slots.trans hkt.slots, hk.mode.trans hkt.mode⟩
  case duplicated =>
    rintro s a dt b rfl hop hd
    have hu := State.dupDone_duplicated hop hd
    exact ⟨_, rfl, hu.copy, hu.other, hu.dup, hu.selected, hu.floor, hu.slots⟩

end Sys2Proof.Machine
end

section
/-! PROOFS. An owner root that no request can carry: OWNER_ENROL's payload is bounded by R432, a certificate is not (R99,
R175, R432, R437). -/

namespace Sys2Proof.Machine

variable {s : State}

/-! ### A payload beyond 1,100 bytes -/

/-- A payload that is longer than 1,100 bytes is MALFORMED, whatever it holds (R432, R437). -/
theorem exec_ownerEnrol_of_long {dt sid req : Nat} {p : List Byte} {x : Session} (h : (s.advance dt).Asks sid req x)
    (howner : (s.advance dt).store.owner = none) (hkey : (s.advance dt).panel.key = .prog)
    (hmode : (s.advance dt).mode = .unconfigured) (hlen : 1100 < p.length) :
    exec (.ownerEnrol dt sid req p) s =
      .next (finish (((s.advance dt).taken sid req 0x10).answer sid req 0x42 [])) := by
  refine congrArg done ((h.serve _).trans ?_)
  change State.ownerEnrol _ _ = _
  unfold State.ownerEnrol State.command
  refine h.request (cmd := 0x10) ?_
  have hrole : (s.advance dt).roleOk .anon true x = true := by simp [State.roleOk, howner]
  have htable : State.ownTable ((s.advance dt).taken sid req 0x10) = true :=
    Bool.and_intro (decide_eq_true hkey) (decide_eq_true hmode)
  simp [State.checked, hrole, htable, refuse, Nat.not_le.2 hlen]

/-! ### A root certificate of more than 1,100 bytes -/

/-- A certificate's contents by the base point's key, for an issuer that is its own subject; an extension of 1,000 bytes
fills it up. -/
def longTbs : List Byte :=
  let name := der 0x30 (nameAttr 10 (ascii "Owner"))
  der 0x30 ([0xA0, 0x03, 0x02, 0x01, 0x02] ++ derNat 5 ++ der 0x30 oidEcdsaSha256 ++ name ++
    der 0x30 (der 0x17 (ascii "260101000000Z") ++ der 0x18 (ascii "99991231235959Z")) ++ name ++
    der 0x30 (der 0x30 oidEcKeyP256 ++ der 3 ([0x00, 0x04] ++ beBytes 32 CurvePt.base.x ++ beBytes 32 CurvePt.base.y)) ++
    der 0xA3 (der 0x30 (der 0x30 ([0x06, 0x03, 0x55, 0x1D, 0x0E] ++ der 4 (List.replicate 1000 0)))))

/-- The certificate with the signature that `ecdsaSign` gives under its own key, the number 1. -/
def longRoot : List Byte :=
  der 0x30 (longTbs ++ der 0x30 oidEcdsaSha256 ++ der 3 (0 :: der 0x30 (
    derNat 56515219790691171413109057904011688695424810155802929973526481321309856242040 ++
    derNat 77397759657102024577370242734082263691268633132456808660087670115614025131225)))

theorem longRoot_ok : rootOk longRoot = true := by decide +kernel

theorem longRoot_length : 1100 < longRoot.length := by decide +kernel

/-! ### The refuting request -/

def anonSession : Session := { sid := 1, role := .anon, fp := [], lastRec := 0 }

/-- An UNOWNED module in PROG and UNCONFIGURED with one session open. -/
def unownedState : State :=
  { State.reset with power := { phase := .operating }, panel := { key := .prog }, sessions := [anonSession] }

theorem unownedState_asks : (unownedState.advance 0).Asks 1 1 anonSession where
  served := rfl
  idle := rfl
  empty := rfl
  session := rfl
  fresh := rfl

/-- Refutes O11: a certificate that R99 accepts may be longer than the 1,100 bytes that a payload holds; its enrolment is
answered MALFORMED, and the module stays UNOWNED. -/
theorem not_smpOwnership : ¬ Obligations.SmpOwnership := by
  rintro ⟨henrol, -⟩
  obtain ⟨u, hx, howner, -⟩ := henrol unownedState _ 0 1 1 longRoot anonSession rfl unownedState_asks rfl longRoot_ok
    rfl rfl rfl
  have hlong := exec_ownerEnrol_of_long unownedState_asks rfl rfl rfl longRoot_length
  have hfin := Host.Outcome.next.inj (hlong.symm.trans hx)
  have hstore : u.store = (unownedState.advance 0).store := by
    rw [← (finish_touches u).store, ← hfin, (finish_touches _).store, State.answer_store]
    rfl
  rw [hstore] at howner
  exact absurd howner nofun

end Sys2Proof.Machine
end

section
/-! PROOFS. The register map: the register that stands at an address of a table (R148). -/

namespace Sys2Proof.Machine

/-- The `i`-th register of a row, at its own address: the low word where it has two. -/
def RegRow.reg (r : RegRow) (i : Nat) : RegHit := { row := r, i := i, j := 0, high := false }

def RegRow.addr (r : RegRow) (i : Nat) : Nat := r.base + r.s1 * i

/-- The last address at which a row answers. -/
def RegRow.last (r : RegRow) : Nat := r.base + r.s1 * (r.n1 - 1) + r.s2 * (r.n2 - 1) + if r.wide then 4 else 0

/-- Row `r` answers at no address of `q`'s registers: it ends before them, begins after them, or repeats with them and
stands at other places of the stride. -/
def RegRow.apart (r q : RegRow) : Bool :=
  decide (r.last < q.base) || decide (q.addr (q.n1 - 1) < r.base) ||
    (decide (r.s1 = q.s1 ∧ q.s1 ≠ 0) && (r.hit (r.base + (q.base + q.s1 * r.base - r.base) % q.s1)).isNone)

/-- Row `q` stands in the map with no other row at its registers' addresses. -/
def RegRow.Alone (q : RegRow) : Prop := q ∈ regRows ∧ (q.s1 = 0 → q.n1 = 1) ∧ 0 < q.n2 ∧ ∀ r ∈ regRows, r.apart q = true ∨ r = q

variable {r q : RegRow} {a i : Nat}

theorem ite_div_zero (d s : Nat) : (if s = 0 then 0 else d / s) = d / s := by
  split
  · next hs => rw [hs, Nat.div_zero]
  · rfl

theorem ite_mod_zero (d s : Nat) : (if s = 0 then d else d % s) = d % s := by
  split
  · next hs => rw [hs, Nat.mod_zero]
  · rfl

/-- A stride of zero needs no case of its own: nothing is divided off. -/
theorem RegRow.hit_eq (r : RegRow) (a : Nat) : r.hit a =
    if a < r.base ∨ r.n1 ≤ (a - r.base) / r.s1 ∨ r.n2 ≤ (a - r.base) % r.s1 / r.s2 then none
    else if (a - r.base) % r.s1 % r.s2 = 0 then
      some { row := r, i := (a - r.base) / r.s1, j := (a - r.base) % r.s1 / r.s2, high := false }
    else if (a - r.base) % r.s1 % r.s2 = 4 ∧ r.wide = true then
      some { row := r, i := (a - r.base) / r.s1, j := (a - r.base) % r.s1 / r.s2, high := true }
    else none := by
  simp only [RegRow.hit, ite_div_zero, ite_mod_zero]

theorem RegRow.hit_ne_none (r : RegRow) (a : Nat) : r.hit a ≠ none ↔
    r.base ≤ a ∧ (a - r.base) / r.s1 < r.n1 ∧ (a - r.base) % r.s1 / r.s2 < r.n2 ∧
      ((a - r.base) % r.s1 % r.s2 = 0 ∨ (a - r.base) % r.s1 % r.s2 = 4 ∧ r.wide = true) := by
  rw [RegRow.hit_eq]
  split
  · next hout => simp; omega
  · next hin =>
    split
    · next h0 => simp [h0]; omega
    · split
      · next h0 h4 => simp [h4]; omega
      · next h0 h4 => simp [h0, h4]

/-- A row answers within its range. -/
theorem RegRow.hit_range (hr : r.hit a ≠ none) : r.base ≤ a ∧ a ≤ r.last := by
  obtain ⟨hb, hn1, hn2, hlow⟩ := (RegRow.hit_ne_none r a).1 hr
  have hi : r.s1 * ((a - r.base) / r.s1) + (a - r.base) % r.s1 = a - r.base := Nat.div_add_mod ..
  have hj : r.s2 * ((a - r.base) % r.s1 / r.s2) + (a - r.base) % r.s1 % r.s2 = (a - r.base) % r.s1 := Nat.div_add_mod ..
  have h1 : r.s1 * ((a - r.base) / r.s1) ≤ r.s1 * (r.n1 - 1) := Nat.mul_le_mul_left _ (Nat.le_sub_one_of_lt hn1)
  have h2 : r.s2 * ((a - r.base) % r.s1 / r.s2) ≤ r.s2 * (r.n2 - 1) := Nat.mul_le_mul_left _ (Nat.le_sub_one_of_lt hn2)
  have h3 : (a - r.base) % r.s1 % r.s2 ≤ if r.wide then 4 else 0 := by
    obtain h0 | ⟨h4, hw⟩ := hlow
    · rw [h0]
      exact Nat.zero_le _
    · rw [h4, if_pos hw]
  unfold RegRow.last
  omega

/-- A row that answers at an address answers at the same place of its first stride. -/
theorem RegRow.hit_first (hs : r.s1 ≠ 0) (hr : r.hit a ≠ none) : r.hit (r.base + (a - r.base) % r.s1) ≠ none := by
  have hlt : (a - r.base) % r.s1 < r.s1 := Nat.mod_lt _ (Nat.pos_of_ne_zero hs)
  rw [RegRow.hit_ne_none] at hr ⊢
  rw [Nat.add_sub_cancel_left, Nat.mod_mod, Nat.div_eq_of_lt hlt]
  exact ⟨Nat.le_add_right .., Nat.zero_lt_of_lt hr.2.1, hr.2.2⟩

/-- Addresses of one stride differ by multiples of it. -/
theorem stride_mod {b c s : Nat} (hs : s ≠ 0) (hle : c ≤ b + s * i) : (b + s * i - c) % s = (b + s * c - c) % s := by
  have hc : c ≤ b + s * c := Nat.le_add_left_of_le (Nat.le_mul_of_pos_left c (Nat.pos_of_ne_zero hs))
  have h : b + s * i - c + c ≡ b + s * c - c + c [MOD s] := by
    rw [Nat.sub_add_cancel hle, Nat.sub_add_cancel hc]
    simp [Nat.ModEq]
  exact Nat.ModEq.add_right_cancel' c h

theorem RegRow.hit_of_apart (hq : r.apart q = true) (hi : i < q.n1) : r.hit (q.addr i) = none := by
  by_contra hh
  obtain ⟨hlo, hhi⟩ := RegRow.hit_range hh
  have hmax : q.addr i ≤ q.addr (q.n1 - 1) := Nat.add_le_add_left (Nat.mul_le_mul_left _ (by omega)) _
  have hmin : q.base ≤ q.addr i := Nat.le_add_right _ _
  simp only [RegRow.apart, Bool.or_eq_true, Bool.and_eq_true, decide_eq_true_eq] at hq
  obtain (hbefore | hafter) | ⟨⟨hs, hs0⟩, hfirst⟩ := hq
  · omega
  · omega
  · have hmod : (q.addr i - r.base) % r.s1 = (q.base + q.s1 * r.base - r.base) % q.s1 := by
      rw [hs]; exact stride_mod hs0 hlo
    exact RegRow.hit_first (hs ▸ hs0) hh (hmod ▸ Option.isNone_iff_eq_none.1 hfirst)

theorem RegRow.hit_addr (hs : q.s1 = 0 → q.n1 = 1) (hn2 : 0 < q.n2) (hi : i < q.n1) : q.hit (q.addr i) = some (q.reg i) := by
  have hrow : (q.addr i - q.base) / q.s1 = i ∧ (q.addr i - q.base) % q.s1 = 0 := by
    unfold RegRow.addr
    rw [Nat.add_sub_cancel_left, Nat.mul_mod_right]
    refine ⟨?_, rfl⟩
    obtain h0 | hpos := Nat.eq_zero_or_pos q.s1
    · have := hs h0
      rw [h0, Nat.div_zero]
      omega
    · exact Nat.mul_div_cancel_left i hpos
  have hlo : q.base ≤ q.addr i := Nat.le_add_right ..
  rw [RegRow.hit_eq, hrow.1, hrow.2, Nat.zero_div, Nat.zero_mod, if_neg (by omega), if_pos rfl]
  rfl

theorem findSome?_eq_of_unique {α β : Type} {f : α → Option β} {l : List α} {x : α} {b : β} (hx : x ∈ l)
    (hf : f x = some b) (hother : ∀ y ∈ l, f y = none ∨ y = x) : l.findSome? f = some b := by
  induction l with
  | nil => exact absurd hx List.not_mem_nil
  | cons y l ih =>
    obtain hy | rfl := hother y List.mem_cons_self
    · rw [List.findSome?_cons, hy]
      refine ih ?_ fun z hz => hother z (List.mem_cons_of_mem _ hz)
      refine (List.mem_cons.1 hx).resolve_left ?_
      rintro rfl
      exact absurd (hy.symm.trans hf) nofun
    · rw [List.findSome?_cons, hf]

/-- The map finds each register of a row that stands alone (R148). -/
theorem RegRow.Alone.regAt (hq : q.Alone) (hi : i < q.n1) : regAt (q.addr i) = some (q.reg i) := by
  obtain ⟨hmem, hs, hn2, hother⟩ := hq
  exact findSome?_eq_of_unique hmem (RegRow.hit_addr hs hn2 hi) fun r hr => (hother r hr).imp_left (RegRow.hit_of_apart · hi)

end Sys2Proof.Machine
end

section
/-! PROOFS. Accesses that the bus refuses, and the guards (R126, R127, R137 to R139). -/

namespace Sys2Proof.Machine

variable {s : State}

/-! ### Accesses that are not OK (R137 to R139) -/

/-- Of the state an access that is not OK changes the bus's own registers and the recorder (R137 to R139). -/
theorem State.accFault_eq (m : Master) (c ad v : Nat) (s : State) : ∃ l, s.accFault m c ad v = { s with
    log := l
    bus := { s.bus with
      accFlags := s.bus.accFlags ||| BitVec.ofNat 7 (2 ^ accBit c)
      accCount := satInc 0x7FFF s.bus.accCount
      firstAddr := if s.bus.accFlags = 0 then ad % 65536 else s.bus.firstAddr
      firstCause := if s.bus.accFlags = 0 then accBit c else s.bus.firstCause
      firstMaster := if s.bus.accFlags = 0 then m.code else s.bus.firstMaster } } := by
  unfold State.accFault
  simp only [decide_eq_true_eq]
  split
  · exact ⟨_, rfl⟩
  · exact ⟨_, rfl⟩

/-- Settles O54: the capture of an access that is not OK depends on the flags that stand before it. -/
theorem firstBadAccessHeld : Obligations.FirstBadAccessHeld := by
  refine ⟨?first, ?held⟩
  case first =>
    intro s m c ad v hclear
    obtain ⟨l, hs⟩ := State.accFault_eq m c ad v s
    rw [hs]
    exact ⟨if_pos hclear, if_pos hclear, if_pos hclear⟩
  case held =>
    intro s m c ad v hset
    obtain ⟨l, hs⟩ := State.accFault_eq m c ad v s
    rw [hs]
    exact ⟨if_neg hset, if_neg hset, if_neg hset⟩

/-! ### Reads (R126) -/

/-- A read answers OK, UNALIGNED, UNMAPPED, DISABLED or PARITY (R126, R137). -/
theorem State.read1_code (m : Master) (ad n : Nat) (s : State) : (s.read1 m ad n).1 ∈ [0, 0x21, 0x23, 0x24, 0x26] := by
  have code {c : Nat} (hc : c ∈ [0, 0x21, 0x23, 0x24, 0x26]) (x : Nat × State) : (c, x).1 ∈ [0, 0x21, 0x23, 0x24, 0x26] := hc
  unfold State.read1
  dsimp only
  split
  · exact code (by decide) _
  · split
    · exact code (by decide) _
    · split
      · exact code (by decide) _
      · split
        · exact code (by decide) _
        · exact code (by decide) _

/-- Settles O52: GUARD is none of the codes that a read answers. -/
theorem readsAreNeverGuarded : Obligations.ReadsAreNeverGuarded := by
  intro s m ad n hguard
  exact absurd (hguard ▸ s.read1_code m ad n) (by decide)

/-! ### Writes of fields with PRV (R123, R127) -/

/-- A field with PRV is among those that PRV guards, whatever SYS_GUARD selects. -/
theorem State.touches_prvFields {r : RegRow} {k : Nat} (ad : Nat) (hk : k &&& r.prv ≠ 0) : k &&& s.prvFields r ad ≠ 0 := by
  unfold State.prvFields
  rw [Nat.and_or_distrib_left]
  exact fun h => hk (Nat.or_eq_zero_iff.1 h).1

/-- A write of a field with PRV needs a privileged master, and an open tollgate where TG guards it too. -/
theorem State.guardOk_of_prv {m : Master} {r : RegRow} {ad k : Nat} (hm : m ≠ .mgmt) (hk : k &&& r.prv ≠ 0) :
    s.guardOk m r ad k =
      (s.privileged m && (decide (k &&& s.tgFields r ad = 0) || (s.win m).gateOpen s.clock)) := by
  have hprv : decide (k &&& s.prvFields r ad = 0) = false := decide_eq_false (State.touches_prvFields ad hk)
  cases m with
  | mgmt => exact absurd rfl hm
  | host _ => simp only [State.guardOk, hprv, Bool.false_or]
  | seq => simp only [State.guardOk, hprv, Bool.false_or]

theorem State.privileged_host (sid : Nat) : s.privileged (.host sid) = true ↔
    ∃ x, s.session sid = some x ∧ (x.role = .owner ∨ x.role = .engineer) := by
  cases hx : s.session sid with
  | none => simp [State.privileged, hx]
  | some x => simp [State.privileged, hx, or_comm]

/-- Settles O53: MGMT passes every guard, SEQ is never privileged, and a session is by its role. -/
theorem privilegedWrites : Obligations.PrivilegedWrites := by
  refine ⟨fun _ _ _ _ => rfl, ?seq, ?session⟩
  case seq =>
    intro s r ad k hk
    rw [State.guardOk_of_prv (by decide) hk]
    rfl
  case session =>
    intro s sid r ad k hk htg
    have hgate : (decide (k &&& s.tgFields r ad = 0) || (s.win (.host sid)).gateOpen s.clock) = true := by simpa using htg
    rw [State.guardOk_of_prv (m := .host sid) nofun hk, hgate, Bool.and_true, State.privileged_host]

end Sys2Proof.Machine
end

section
/-! PROOFS. Whole-word writes that commit: beside their effect the bus notes them, a higher master's write takes the lower
one's back, and a write of a TG register closes its writer's tollgate (R125, R127 to R131, R141). -/

namespace Sys2Proof.Machine

/-! ### A master's windows (R123, R129) -/

/-- The windows of `m` are kept: those of a session while it is open. -/
def State.HasWin (m : Master) (s : State) : Prop := ∀ sid, m = .host sid → (s.session sid).isSome = true

section
variable {s : State} {m : Master} {f g : MasterSt → MasterSt}

theorem State.hasWin_of_canAccess (h : s.canAccess m = true) : s.HasWin m := by
  rintro sid rfl
  simp only [State.canAccess, Bool.and_eq_true] at h
  exact h.2.1

theorem State.modWin_session (sid : Nat) (f : MasterSt → MasterSt) :
    (s.modWin (.host sid) f).session sid = (s.session sid).map fun x => { x with m := f x.m } :=
  findKey_modifyKey sid (fun x => { x with m := f x.m }) (fun _ => rfl) s.sessions

theorem State.HasWin.modWin (h : s.HasWin m) : (s.modWin m f).HasWin m := by
  rintro sid rfl
  rw [State.modWin_session, Option.isSome_map]
  exact h sid rfl

/-- A master reads back in its windows what is written to them. -/
theorem State.HasWin.win_modWin (h : s.HasWin m) : (s.modWin m f).win m = f (s.win m) := by
  cases m with
  | mgmt => rfl
  | seq => rfl
  | host sid =>
    obtain ⟨x, hx⟩ := Option.isSome_iff_exists.1 (h sid rfl)
    simp [State.win, State.modWin_session, hx]

/-- The windows of MGMT and SEQ stand in one place, each session's in the session. -/
theorem State.modWin_eq (m : Master) (f : MasterSt → MasterSt) (s : State) :
    ∃ q ss, s.modWin m f = { s with seqm := q, sessions := ss } := by
  cases m with
  | mgmt => exact ⟨f s.seqm, s.sessions, rfl⟩
  | seq => exact ⟨f s.seqm, s.sessions, rfl⟩
  | host sid => exact ⟨s.seqm, modifyKey (·.sid) sid (fun x => { x with m := f x.m }) s.sessions, rfl⟩

end

/-! ### The rows whose writes commit as whole words -/

/-- A 32-bit register whose write does nothing beside its own effect, whatever guards it. -/
def RegRow.wordWritten (r : RegRow) : Bool :=
  !r.wide && decide (r.id ≠ .sysTollgate ∧ r.id ≠ .sysScratch ∧ r.wr ≠ 0 ∧ r.wr < 2 ^ 32 ∧ r.base % 4 = 0 ∧ r.s1 % 4 = 0)

/-- The map's row for a register's name. -/
def regRow (id : RegId) : RegRow := (regRows.find? fun r => decide (r.id = id)).getD { id := id, base := 0, func := 0 }

/-- The registers that rows of the commands write. -/
def writtenIds : List RegId :=
  [.sysState, .sysAccerr, .logLost, .logPeak, .logRdNum, .pairMcnt, .seqLstat, .imgSlotIdx, .imgInstIdx, .imgFindId,
   .msSlotIdx, .msSlotCtl, .loopCtl, .loopCoefA, .loopCnt, .slvPcnt, .slvWinSel, .canCnt, .canCnt2, .aiChCnt, .soBcnt,
   .soLogIdx, .ethRio, .uslCctl, .uslCcnt, .diagFcnt, .diagMem]

theorem regRow_written : ∀ id ∈ writtenIds, (regRow id).Alone ∧ (regRow id).wordWritten = true := by
  unfold RegRow.Alone
  decide +kernel

/-! ### The order of masters and the tollgate -/

variable {s a : State} {m : Master} {h : RegHit} {addr v i : Nat} {id : RegId}

/-- What a lower master has written to the register in this tick is taken back (R125). -/
def State.overrule (m : Master) (h : RegHit) (addr : Nat) (s : State) : State :=
  if lookupD 0 addr s.bus.wrote < m.rank then s.undoWrite h.row.id h.i addr else s

/-- After a write of a register with TG fields its writer's tollgate is closed (R129). -/
def State.closeTg (m : Master) (h : RegHit) (addr : Nat) (s u : State) : State :=
  if m ≠ .mgmt ∧ s.tgFields h.row addr ≠ 0 then u.modWin m closeGate else u

/-- A whole-word write of `m` to the register `h` at `addr` commits (R125, R127 to R131, R137). -/
structure State.Commits (m : Master) (h : RegHit) (addr : Nat) (s : State) : Prop where
  mapped : regAt addr = some h
  word : h.row.wordWritten = true
  aligned : addr % 4 = 0
  enabled : s.regDisabled h.row.id h.i = false
  guards : s.guardOk m h.row addr h.row.wr = true
  turn : ¬ m.rank < lookupD 0 addr s.bus.wrote
  quiet : addr ∉ s.bus.fnSet

/-- A write that commits answers OK, and leaves its effect. -/
theorem State.Commits.busWrite (hc : s.Commits m h addr) (hv : v < 2 ^ 32) :
    s.busWrite m addr 4 v = (0, s.closeTg m h addr ((s.overrule m h addr).commitWrite m h addr v)) := by
  obtain ⟨hat, hword, hal, hon, hguard, hturn, hquiet⟩ := hc
  simp only [RegRow.wordWritten, Bool.and_eq_true, Bool.not_eq_true', decide_eq_true_eq] at hword
  obtain ⟨hwide, hgate, hscratch, hwr, hlt, -, -⟩ := hword
  have hmask : h.row.wr &&& byteMask 0 4 = h.row.wr := Nat.and_two_pow_sub_one_of_lt_two_pow (n := 32) hlt
  have hmod : v % 4294967296 = v := Nat.mod_eq_of_lt hv
  have hwrite : s.write2 m h addr 4 v = (0, (s.overrule m h addr).commitWrite m h addr v) := by
    unfold State.write2 State.overrule
    simp only [hal, Nat.sub_zero, hwide, hmask, hguard, hgate, hscratch, hwr, hturn, hquiet, false_and, or_self, if_false,
      Bool.not_true, Bool.false_eq_true, Nat.mul_zero, Nat.shiftLeft_zero, decide_eq_true_eq]
    rfl
  unfold State.busWrite State.write1 State.closeTg
  simp [hal, hat, hon, hmod, hwrite, hgate]

theorem State.Commits.regWriteBy (hc : s.Commits m h addr) (hacc : s.canAccess m = true) (hv : v < 2 ^ 32) :
    s.regWriteBy m addr 4 v = s.closeTg m h addr ((s.overrule m h addr).commitWrite m h addr v) := by
  unfold State.regWriteBy
  rw [if_pos hacc, hc.busWrite hv]

theorem State.closeTg_of_noTg (hpt : h.row.pt = 0) (u : State) : s.closeTg m h addr u = u := by
  simp [State.closeTg, State.tgFields, hpt]

theorem State.closeTg_eq (u : State) : ∃ q ss, s.closeTg m h addr u = { u with seqm := q, sessions := ss } := by
  unfold State.closeTg
  split
  · exact State.modWin_eq ..
  · exact ⟨u.seqm, u.sessions, rfl⟩

/-- The effect of a write that commits acts on a state in which the bus has noted the write (R125, R141). -/
theorem State.commitWrite_fx (m : Master) (h : RegHit) (addr v : Nat) (s : State) :
    ∃ w p n, s.commitWrite m h addr v =
      ({ s with bus := { s.bus with wrote := w, parity := p, undo := n } } : State).writeFx m h (v &&& h.row.wr)
        (s.w1c addr (v &&& h.row.wr &&& h.row.w1c)) := by
  unfold State.commitWrite State.parityWritten
  dsimp only
  split
  · exact ⟨_, s.bus.parity, _, rfl⟩
  · exact ⟨_, _, _, rfl⟩

/-- An admitted write of a row's register commits, with nothing to take back. -/
theorem State.Admits.commits (ha : a.Admits m ((regRow id).addr i)) (hid : id ∈ writtenIds) (hi : i < (regRow id).n1) :
    a.Commits m ((regRow id).reg i) ((regRow id).addr i) ∧
      a.overrule m ((regRow id).reg i) ((regRow id).addr i) = a := by
  obtain ⟨halone, hword⟩ := regRow_written id hid
  have hat := halone.regAt hi
  obtain ⟨h, hat', hon, hguard⟩ := ha.mapped
  obtain rfl : (regRow id).reg i = h := Option.some.inj (hat.symm.trans hat')
  refine ⟨⟨hat, hword, ?_, hon, hguard, ha.first, ha.quiet⟩, ?_⟩
  · simp only [RegRow.wordWritten, Bool.and_eq_true, decide_eq_true_eq] at hword
    obtain ⟨-, -, -, -, -, hbase, hs⟩ := hword
    unfold RegRow.addr
    rw [Nat.add_mod, hbase, Nat.mul_mod, hs, Nat.zero_mul]
  · unfold State.overrule
    rw [State.undoWrite_of_alone _ _ ha.alone, ite_self]

/-- An admitted write of a row's register leaves its effect, and its writer's tollgate closed where TG guards the register. -/
theorem State.Admits.writes (ha : a.Admits m ((regRow id).addr i)) (hid : id ∈ writtenIds) (hi : i < (regRow id).n1)
    (hv : v < 2 ^ 32) :
    ∃ w p n, a.regWriteBy m ((regRow id).addr i) 4 v = a.closeTg m ((regRow id).reg i) ((regRow id).addr i)
      (({ a with bus := { a.bus with wrote := w, parity := p, undo := n } } : State).writeFx m ((regRow id).reg i)
        (v &&& (regRow id).wr) (a.w1c ((regRow id).addr i) (v &&& (regRow id).wr &&& (regRow id).w1c))) := by
  obtain ⟨hc, hover⟩ := ha.commits hid hi
  obtain ⟨w, p, n, hfx⟩ := a.commitWrite_fx m ((regRow id).reg i) ((regRow id).addr i) v
  refine ⟨w, p, n, ?_⟩
  rw [hc.regWriteBy ha.master hv, hover, hfx]
  rfl

end Sys2Proof.Machine
end

section
/-! PROOFS. The writes of CLR (R127, R145, R148). -/

namespace Sys2Proof.Machine

/-- The registers with a CLR field. -/
def counterIds : List RegId :=
  [.logLost, .logPeak, .pairMcnt, .seqLstat, .loopCnt, .slvPcnt, .canCnt, .canCnt2, .aiChCnt, .soBcnt, .ethRio, .uslCcnt,
   .diagFcnt, .diagMem]

/-- CLR is bit 31 of its register, no W1C bit, and stands beside no field with TG. -/
theorem regRow_counter : ∀ id ∈ counterIds, id ∈ writtenIds ∧ (regRow id).pt = 0 ∧
    0x80000000 &&& (regRow id).wr = 0x80000000 ∧ 0x80000000 &&& (regRow id).w1c = 0 := by
  decide +kernel

/-- An admitted write of CLR alone is noted by the bus, and its effect follows. -/
theorem State.Admits.clears {a : State} {m : Master} {id : RegId} {i : Nat} (ha : a.Admits m ((regRow id).addr i))
    (hid : id ∈ counterIds) (hi : i < (regRow id).n1) :
    ∃ b, a.regWriteBy m ((regRow id).addr i) 4 0x80000000 =
      ({ a with bus := b } : State).writeFx m ((regRow id).reg i) 0x80000000 0 := by
  obtain ⟨hwritten, hpt, hwr, hw1c⟩ := regRow_counter id hid
  obtain ⟨w, p, n, hw⟩ := ha.writes hwritten hi (v := 0x80000000) (by decide)
  rw [State.closeTg_of_noTg hpt, hwr, hw1c, State.w1c, Nat.zero_and] at hw
  exact ⟨_, hw⟩

theorem clr_zero (b : Bool) (i : Nat) : clr b 0 i = b := by simp [clr, bit]

/-- CLR of ETH_RIO leaves the register's W1C bits as they stand. -/
theorem State.fxRest_ethRio_clr (m : Master) (i : Nat) (s : State) :
    s.fxRest m .ethRio i 0x80000000 0 = { s with eth := { s.eth with rioerr := 0 } } := by
  simp only [State.fxRest, clr_zero]
  rfl

/-- Settles O16: each CLR comes down to the effect that its register's rule gives. -/
theorem counterClears : Obligations.CounterClears := by
  refine ⟨?lost, ?peak, ?mirrors, ?lane, ?loop, ?solver, ?can, ?can2, ?ai, ?brake, ?rio, ?usl, ?faults, ?memory⟩
  case lost =>
    rintro s a dt m rfl ha
    obtain ⟨b, hb⟩ := ha.clears (id := .logLost) (i := 0) (by decide) (by decide)
    exact ⟨b, _, _, congrArg done hb⟩
  case peak =>
    rintro s a dt m rfl ha
    obtain ⟨b, hb⟩ := ha.clears (id := .logPeak) (i := 0) (by decide) (by decide)
    exact ⟨b, _, _, congrArg done hb⟩
  case mirrors =>
    rintro s a dt m rfl ha
    obtain ⟨b, hb⟩ := ha.clears (id := .pairMcnt) (i := 0) (by decide) (by decide)
    exact ⟨b, _, _, congrArg done hb⟩
  case lane =>
    rintro s a dt m k rfl hk ha
    obtain ⟨b, hb⟩ := ha.clears (id := .seqLstat) (i := k) (by decide) hk
    exact ⟨b, _, _, congrArg done ((if_pos hk).trans hb)⟩
  case loop =>
    rintro s a dt m n rfl hn ha
    obtain ⟨b, hb⟩ := ha.clears (id := .loopCnt) (i := n) (by decide) hn
    exact ⟨b, _, _, congrArg done ((if_pos hn).trans hb)⟩
  case solver =>
    rintro s a dt m p rfl hp ha
    obtain ⟨b, hb⟩ := ha.clears (id := .slvPcnt) (i := p) (by decide) hp
    exact ⟨b, _, _, congrArg done ((if_pos hp).trans hb)⟩
  case can =>
    rintro s a dt m c rfl hc ha
    obtain ⟨b, hb⟩ := ha.clears (id := .canCnt) (i := c) (by decide) hc
    exact ⟨b, _, _, congrArg done ((if_pos hc).trans hb)⟩
  case can2 =>
    rintro s a dt m c rfl hc ha
    obtain ⟨b, hb⟩ := ha.clears (id := .canCnt2) (i := c) (by decide) hc
    exact ⟨b, _, _, congrArg done ((if_pos hc).trans hb)⟩
  case ai =>
    rintro s a dt m n rfl hn ha
    obtain ⟨b, hb⟩ := ha.clears (id := .aiChCnt) (i := n) (by decide) hn
    exact ⟨b, _, _, congrArg done ((if_pos hn).trans hb)⟩
  case brake =>
    rintro s a dt m k rfl hk ha
    obtain ⟨b, hb⟩ := ha.clears (id := .soBcnt) (i := k) (by decide) hk
    exact ⟨b, _, _, congrArg done ((if_pos hk).trans hb)⟩
  case rio =>
    rintro s a dt m rfl ha
    obtain ⟨b, hb⟩ := ha.clears (id := .ethRio) (i := 0) (by decide) (by decide)
    exact ⟨b, _, _, congrArg done (hb.trans (State.fxRest_ethRio_clr m 0 _))⟩
  case usl =>
    rintro s a dt m c rfl hc ha
    obtain ⟨b, hb⟩ := ha.clears (id := .uslCcnt) (i := c) (by decide) hc
    exact ⟨b, _, _, congrArg done ((if_pos hc).trans hb)⟩
  case faults =>
    rintro s a dt m f rfl hf ha
    obtain ⟨b, hb⟩ := ha.clears (id := .diagFcnt) (i := f) (by decide) hf
    exact ⟨b, _, _, congrArg done ((if_pos hf).trans hb)⟩
  case memory =>
    rintro s a dt m rfl ha
    obtain ⟨b, hb⟩ := ha.clears (id := .diagMem) (i := 0) (by decide) (by decide)
    exact ⟨b, _, _, congrArg done hb⟩

end Sys2Proof.Machine
end

section
/-! PROOFS. Windows: an index write captures for its master, COMMIT applies a staging, and a coefficient window takes a word
(R127, R228, R271, R291, R310, R357, R471, R530). -/

namespace Sys2Proof.Machine

variable {s a : State} {m : Master} {id : RegId} {i v c : Nat}

/-! ### Captures -/

/-- An admitted write whose effect is a capture `f` leaves its master's windows as `f` makes them, and beside them changes
the bus alone. -/
theorem State.Admits.captures (ha : a.Admits m ((regRow id).addr i)) (hid : id ∈ writtenIds) (hi : i < (regRow id).n1)
    (hpt : (regRow id).pt = 0) (hv : v < 2 ^ 32) {f : MasterSt → MasterSt}
    (hfx : ∀ b c, ({ a with bus := b } : State).writeFx m ((regRow id).reg i) (v &&& (regRow id).wr) c =
      ({ a with bus := b } : State).modWin m f) :
    ∃ u b q ss, a.regWriteBy m ((regRow id).addr i) 4 v = u ∧ u = { a with bus := b, seqm := q, sessions := ss } ∧
      u.win m = f (a.win m) := by
  obtain ⟨w, p, n, hw⟩ := ha.writes hid hi hv
  rw [State.closeTg_of_noTg hpt, hfx] at hw
  obtain ⟨q, ss, heq⟩ := State.modWin_eq m f { a with bus := { a.bus with wrote := w, parity := p, undo := n } }
  have hwin := State.HasWin.win_modWin (s := { a with bus := { a.bus with wrote := w, parity := p, undo := n } }) (f := f)
    (State.hasWin_of_canAccess ha.master)
  exact ⟨_, _, q, ss, hw, heq, hwin⟩

/-- An index of `k` bits is read back from the word that holds it. -/
theorem ofNat_and_mod (n : Nat) {k : Nat} (hk : k ≤ 32) :
    (BitVec.ofNat 32 (n &&& 2 ^ k - 1)).toNat % 2 ^ k = n % 2 ^ k := by
  have hlt : n % 2 ^ k < 2 ^ 32 := (Nat.mod_lt _ (Nat.two_pow_pos k)).trans_le (Nat.pow_le_pow_right (by decide) hk)
  rw [Nat.and_two_pow_sub_one_eq_mod, BitVec.toNat_ofNat, Nat.mod_eq_of_lt hlt, Nat.mod_mod]

theorem slotIndex_read (x : W32) : (BitVec.ofNat 32 (x.toNat &&& 0xFFFF)).toNat % 65536 = x.toNat % 65536 :=
  ofNat_and_mod x.toNat (k := 16) (by decide)

/-- A whole-word field takes the word written. -/
theorem ofNat_and_word (x : W32) : BitVec.ofNat 32 (x.toNat &&& 0xFFFFFFFF) = x := by
  have h : x.toNat &&& 0xFFFFFFFF = x.toNat := Nat.and_two_pow_sub_one_of_lt_two_pow (n := 32) x.isLt
  rw [h, BitVec.ofNat_toNat, BitVec.setWidth_eq]

theorem State.captureInst_found {x : W32} {j : Inst} {k : InstSt} (hj : s.img.net.insts[x.toNat % 65536]? = some j)
    (hk : s.seq.insts[x.toNat % 65536]? = some k) (w : MasterSt) : s.captureInst x w = { w with
      instIdx := x.toNat % 65536, instValid := true, instId := BitVec.ofNat 32 j.ident
      instType := BitVec.ofNat 32 (j.btype + 65536 * j.dtype + 16777216 * j.lane + 67108864)
      instOq := k.outs.map (·.2), instOut := outWords j k, instKs := k.ks } := by
  simp only [State.captureInst, hj, hk]

theorem State.findInst_none {x : W32} (hx : (s.img.net.insts.findIdx? fun j => decide (j.ident = x.toNat)) = none)
    (w : MasterSt) : s.findInst x w = { w with
      findId := x, instValid := false, instId := 0, instType := 0, instOq := [], instOut := [], instKs := [] } := by
  simp only [State.findInst, hx]

theorem State.captureLog_found {x : W32} {n : Nat} {e : Entry}
    (hx : (s.log.recs.find? fun p => decide (p.2.num = x.toNat)) = some (n, e)) (w : MasterSt) :
    s.captureLog x w = { w with
      logNum := x, logValid := true, logFrozen := decide (n < 256), logSlot := n
      logData := (List.range 8).map fun j => BitVec.ofNat 32 (getN e.bytes (4 * j) 4) } := by
  simp only [State.captureLog, hx]

theorem State.msIndex_found {x : MsSlotSt} {n : Nat} (hx : s.msSlot n = some x) (w : MasterSt) : s.msIndex n w = { w with ms := {
    index := n, arm := x.arm, rep := x.rep, dirsel := x.dirsel, latepol := x.latepol, endmode := x.endmode
    tgt := w32 x.tgt, endv := w32 x.endv, win := w32 x.win } } := by
  simp only [State.msIndex, hx]

/-- Whatever entry it finds, the solver's window keeps the selection (R357). -/
theorem State.slvWin_slvSel (x : W32) (s : State) (w : MasterSt) : (s.slvWin x w).slvSel = x &&& 0x00FFFF1F#32 := by
  unfold State.slvWin
  extract_lets n p mat row cl base
  split
  · rfl
  · rename_i busy vec two _ _ _
    have hvec (l : Vec) (h : Nat) : (vec l h).slvSel = x &&& 0x00FFFF1F#32 := by
      unfold vec; split <;> rfl
    have htwo (l : List Vec) (h : Nat) : (two l h).slvSel = x &&& 0x00FFFF1F#32 := by
      unfold two; split
      · split <;> rfl
      · rfl
    clear_value busy vec two
    split
    · rfl
    · split
      · exact htwo _ _
      · exact hvec _ _
      · exact htwo _ _
      · exact hvec _ _
      · exact htwo _ _
      · exact hvec _ _
      · exact hvec _ _
      · exact hvec _ _
      · rfl

/-! ### COMMIT of the milestone window (R271) -/

/-- The bits of a write of MS_SLOT_CTL are staged. -/
def MasterSt.stageCtl (v : Nat) (w : MasterSt) : MasterSt := { w with ms := { w.ms with
  arm := bit v 0, rep := bit v 2, dirsel := field v 4 3, latepol := bit v 5, endmode := bit v 6 } }

theorem State.HasWin.msCommit (hw : s.HasWin m) (hcommit : bit v 1 = true) :
    ∃ t q ss, s.writeFx m ((regRow .msSlotCtl).reg 0) v c = t ∧
      t = { s with seqm := q, sessions := ss, ms := (s.msCommit ((s.win m).stageCtl v).ms).ms } ∧
      t.HasWin m ∧ (t.win m).ms = ((s.win m).stageCtl v).ms := by
  have hwin := hw.win_modWin (f := (·.stageCtl v))
  have hhas := hw.modWin (f := (·.stageCtl v))
  have hfx : s.writeFx m ((regRow .msSlotCtl).reg 0) v c =
      (s.modWin m (·.stageCtl v)).msCommit ((s.modWin m (·.stageCtl v)).win m).ms := if_pos hcommit
  obtain ⟨q, ss, heq⟩ := State.modWin_eq m (·.stageCtl v) s
  rw [hwin] at hfx
  refine ⟨_, q, ss, hfx, ?_, hhas, congrArg MasterSt.ms hwin⟩
  rw [heq]
  rfl

/-- A tollgate that closes leaves its master's windows. -/
theorem State.HasWin.closeTg_ms {t : State} (ht : t.HasWin m) (h : RegHit) (addr : Nat) :
    ((s.closeTg m h addr t).win m).ms = (t.win m).ms := by
  unfold State.closeTg
  split
  · rw [ht.win_modWin]
    rfl
  · rfl

/-- COMMIT with the staged bits of `x` beside it, as MS_SLOT_CTL takes it. -/
theorem stageCtl_commit (x : W32) (w : MasterSt) : w.stageCtl ((x.toNat ||| 2) &&& 0x7F) = { w with ms := { w.ms with
    arm := x.getLsbD 0, rep := x.getLsbD 2, dirsel := x.toNat / 8 % 4, latepol := x.getLsbD 5, endmode := x.getLsbD 6 } } := by
  have hbit (k : Nat) (hcommit : Nat.testBit 2 k = false) (hfield : Nat.testBit 0x7F k = true) :
      bit ((x.toNat ||| 2) &&& 0x7F) k = x.getLsbD k := by
    rw [bit, Nat.testBit_and, Nat.testBit_or, hcommit, hfield, BitVec.testBit_toNat, Bool.or_false, Bool.and_true]
  have hdir : field ((x.toNat ||| 2) &&& 0x7F) 4 3 = x.toNat / 8 % 4 := by
    have hmask : x.toNat / 2 ^ 3 &&& 15 = x.toNat / 2 ^ 3 % 2 ^ 4 := Nat.and_two_pow_sub_one_eq_mod _ 4
    rw [field, Nat.shiftRight_and_distrib, Nat.shiftRight_or_distrib, show 2 >>> 3 = 0 from rfl,
      show 0x7F >>> 3 = 15 from rfl, Nat.or_zero, Nat.shiftRight_eq_div_pow, hmask]
    omega
  unfold MasterSt.stageCtl
  rw [hbit 0 rfl rfl, hbit 2 rfl rfl, hbit 5 rfl rfl, hbit 6 rfl rfl, hdir]

/-- An admitted COMMIT stages its bits for its master, and applies the staging to the slot that the window's index names. -/
theorem State.Admits.writeCommit (ha : a.Admits m 0x2804) (x : W32) :
    ∃ u b q ss, a.regWriteBy m 0x2804 4 (x.toNat ||| 2) = u ∧
      u = { a with
        bus := b, seqm := q, sessions := ss
        ms := (a.msCommit ((a.win m).stageCtl ((x.toNat ||| 2) &&& 0x7F)).ms).ms } ∧
      (u.win m).ms = ((a.win m).stageCtl ((x.toNat ||| 2) &&& 0x7F)).ms := by
  obtain ⟨w, p, n, hw⟩ := ha.writes (id := .msSlotCtl) (i := 0) (v := x.toNat ||| 2) (by decide) (by decide)
    (Nat.or_lt_two_pow x.isLt (by decide))
  have hcommit : bit ((x.toNat ||| 2) &&& 0x7F) 1 = true := by
    rw [bit, Nat.testBit_and, Nat.testBit_or, show Nat.testBit 2 1 = true from rfl, Bool.or_true]
    rfl
  have hhas : State.HasWin m { a with bus := { a.bus with wrote := w, parity := p, undo := n } } :=
    State.hasWin_of_canAccess ha.master
  obtain ⟨t, q1, ss1, ht, heq, hhast, hwin⟩ := hhas.msCommit hcommit
  obtain ⟨q, ss, hclose⟩ := a.closeTg_eq (m := m) (h := (regRow .msSlotCtl).reg 0) (addr := 0x2804) t
  refine ⟨_, { a.bus with wrote := w, parity := p, undo := n }, q, ss,
    hw.trans (congrArg (a.closeTg m ((regRow .msSlotCtl).reg 0) 0x2804) ht), hclose.trans ?_,
    (hhast.closeTg_ms _ _).trans hwin⟩
  rw [heq]
  rfl

/-! ### The loop engine's registers (R291, R310) -/

theorem swap_bits : ∀ k < 4, (k + 4) &&& 0xF = k + 4 ∧ (k + 4) % 4 = k ∧ bit (k + 4) 2 = true ∧ bit (k + 4) 3 = false := by
  decide

theorem State.fxLoop_swap {k : Nat} (hk : k < 4) : s.fxLoop m .loopCtl i (k + 4) c = s.modCtx i fun y => { y with
    modeReq := k, swapReq := y.swapReq || !y.swapPend, swapPend := true } := by
  obtain ⟨-, hmode, hswap, hack⟩ := swap_bits k hk
  simp [State.fxLoop, hmode, hswap, hack]

theorem State.writeFx_loopSwap {k : Nat} (hk : k < 4) : s.writeFx m ((regRow .loopCtl).reg i) (k + 4 &&& (regRow .loopCtl).wr) c =
    s.modCtx i fun y => { y with modeReq := k, swapReq := y.swapReq || !y.swapPend, swapPend := true } := by
  rw [show k + 4 &&& (regRow .loopCtl).wr = k + 4 from (swap_bits k hk).1]
  exact State.fxLoop_swap (m := m) (i := i) (c := c) hk

theorem State.writeFx_loopCoef (x : W32) :
    s.writeFx m ((regRow .loopCoefA).reg i) (x.toNat &&& (regRow .loopCoefA).wr) c = s.loopCoef i x :=
  congrArg (s.loopCoef i) (ofNat_and_word x)

/-- A coefficient that R291 does not refuse goes to the word that the index selects. -/
theorem State.loopCoef_accepts {n : Nat} {y : CtxSt} (x : W32) (hy : s.ctx n = some y)
    (hfree : ¬ (y.bank / 4 = y.aset ∧ (y.mode = 1 ∨ y.mode = 2))) :
    ∃ b, s.loopCoef n x = { s with
      bus := b
      loop := { s.loop with ctxs := modifyKey (·.n) n (fun z => { z with
        banks := z.banks.set (8 * z.bank + z.word) x, word := (z.word + 1) % 8 }) s.loop.ctxs } } := by
  have hno : (decide (y.bank / 4 = y.aset) && decide (y.mode = 1 ∨ y.mode = 2)) = false := by simpa using hfree
  unfold State.loopCoef
  simp only [hy, hno, Bool.or_false, Bool.false_eq_true, if_false]
  exact ⟨_, rfl⟩

/-- Settles O17: each index write is a capture for its master; COMMIT, a coefficient and SWAP come down to their own effects. -/
theorem windowCaptures : Obligations.WindowCaptures := by
  refine ⟨?slot, ?inst, ?find, ?log, ?msIndex, ?msCommit, ?coef, ?swap, ?solver, ?change⟩
  case slot =>
    rintro s a dt m v rfl ha
    obtain ⟨u, b, q, ss, hu, heq, hwin⟩ := ha.captures (id := .imgSlotIdx) (i := 0) (by decide) (by decide) rfl v.isLt
      (f := (s.advance dt).captureSlot (BitVec.ofNat 32 (v.toNat &&& 0xFFFF))) fun _ _ => rfl
    refine ⟨u, b, q, ss, congrArg done hu, heq, ?_⟩
    rw [hwin]
    simp only [State.captureSlot]
    rw [slotIndex_read]
    exact ⟨rfl, rfl, rfl, rfl⟩
  case inst =>
    rintro s a dt m v j k rfl hj hk ha
    obtain ⟨u, b, q, ss, hu, heq, hwin⟩ := ha.captures (id := .imgInstIdx) (i := 0) (by decide) (by decide) rfl v.isLt
      (f := (s.advance dt).captureInst (BitVec.ofNat 32 (v.toNat &&& 0xFFFF))) fun _ _ => rfl
    refine ⟨u, b, q, ss, congrArg done hu, heq, ?_⟩
    rw [hwin, State.captureInst_found (by rw [slotIndex_read]; exact hj) (by rw [slotIndex_read]; exact hk), slotIndex_read]
    exact ⟨rfl, rfl, rfl, rfl, rfl⟩
  case find =>
    rintro s a dt m v rfl hnone ha
    obtain ⟨u, b, q, ss, hu, heq, hwin⟩ := ha.captures (id := .imgFindId) (i := 0) (by decide) (by decide) rfl v.isLt
      (f := (s.advance dt).findInst (BitVec.ofNat 32 (v.toNat &&& 0xFFFFFFFF))) fun _ _ => rfl
    refine ⟨u, b, q, ss, congrArg done hu, heq, ?_⟩
    rw [hwin, ofNat_and_word, State.findInst_none hnone]
    exact ⟨rfl, rfl, rfl, rfl⟩
  case log =>
    rintro s a dt m v n i e rfl hfound ha
    obtain ⟨u, b, q, ss, hu, heq, hwin⟩ := ha.captures (id := .logRdNum) (i := 0) (by decide) (by decide) rfl v.isLt
      (f := (s.advance dt).captureLog (BitVec.ofNat 32 (v.toNat &&& 0xFFFFFFFF))) fun _ _ => rfl
    refine ⟨u, b, q, ss, congrArg done hu, heq, ?_⟩
    rw [hwin, ofNat_and_word, State.captureLog_found hfound]
    exact ⟨rfl, rfl, rfl, rfl⟩
  case msIndex =>
    rintro s a dt m v x rfl hx ha
    obtain ⟨u, b, q, ss, hu, heq, hwin⟩ := ha.captures (id := .msSlotIdx) (i := 0) (by decide) (by decide) rfl v.isLt
      (f := (s.advance dt).msIndex ((v.toNat &&& 0x3FF) % 1024)) fun _ _ => rfl
    have hidx : (v.toNat &&& 0x3FF) % 1024 = v.toNat % 1024 := by
      rw [show v.toNat &&& 0x3FF = v.toNat % 1024 from Nat.and_two_pow_sub_one_eq_mod _ 10, Nat.mod_mod]
    refine ⟨u, b, q, ss, congrArg done hu, heq, ?_⟩
    rw [hwin, hidx, State.msIndex_found hx]
  case msCommit =>
    rintro s a dt m v rfl ha
    obtain ⟨u, b, q, ss, hu, heq, hwin⟩ := ha.writeCommit v
    rw [stageCtl_commit] at heq hwin
    exact ⟨u, b, q, ss, congrArg done hu, heq, hwin⟩
  case coef =>
    rintro s a dt m n v x rfl hn hx hfree ha
    obtain ⟨w, p, l, hw⟩ := ha.writes (id := .loopCoefA) (i := n) (by decide) hn v.isLt
    rw [State.writeFx_loopCoef] at hw
    obtain ⟨b, hb⟩ := State.loopCoef_accepts (s := { s.advance dt with
      bus := { (s.advance dt).bus with wrote := w, parity := p, undo := l } }) v hx hfree
    rw [hb] at hw
    obtain ⟨q, ss, hq⟩ := State.closeTg_eq _
    exact ⟨b, q, ss, congrArg done ((if_pos hn).trans (hw.trans hq))⟩
  case swap =>
    rintro s a dt m n md rfl hn ha
    have hk : md % 4 < 4 := Nat.mod_lt _ (by decide)
    obtain ⟨w, p, l, hw⟩ := ha.writes (id := .loopCtl) (i := n) (v := md % 4 + 4) (by decide) hn (by omega)
    rw [State.writeFx_loopSwap hk] at hw
    obtain ⟨q, ss, hq⟩ := State.closeTg_eq _
    exact ⟨_, q, ss, congrArg done ((if_pos hn).trans (hw.trans hq))⟩
  case solver =>
    rintro s a dt m v rfl ha
    obtain ⟨u, b, q, ss, hu, heq, hwin⟩ := ha.captures (id := .slvWinSel) (i := 0) (by decide) (by decide) rfl v.isLt
      (f := (s.advance dt).slvWin (BitVec.ofNat 32 (v.toNat &&& 0xFFFF1F))) fun _ _ => rfl
    refine ⟨u, b, q, ss, congrArg done hu, heq, ?_⟩
    rw [hwin, State.slvWin_slvSel]
    exact BitVec.eq_of_toNat_eq (by simp)
  case change =>
    rintro s a dt m v rfl ha
    obtain ⟨u, b, q, ss, hu, heq, hwin⟩ := ha.captures (id := .soLogIdx) (i := 0) (by decide) (by decide) rfl v.isLt
      (f := (s.advance dt).captureChange (BitVec.ofNat 32 (v.toNat &&& 0x3F))) fun _ _ => rfl
    refine ⟨u, b, q, ss, congrArg done hu, heq, ?_⟩
    rw [hwin]
    exact ofNat_and_mod v.toNat (k := 6) (by decide)

end Sys2Proof.Machine
end

section
/-! PROOFS. The tollgate (R129 to R131). -/

namespace Sys2Proof.Machine

variable {s a : State} {m : Master}

/-! ### A write of the key -/

theorem gateWrite_right {now key v : Nat} {c : Bool} {w : MasterSt} (hcom : c = true)
    (hfree : w.gateLocked now = false)
    (hlow : v % 65536 = key) (hhigh : v / 65536 = 65535 - key) :
    gateWrite now key c v w = (true, { w with tgOpen := some now, tgFails := 0, tgLock := none }, false) := by
  simp [gateWrite, hcom, hfree, hlow, hhigh]

/-- A wrong key short of the fourth in a row closes the tollgate and counts. -/
theorem gateWrite_wrong {now key v : Nat} {c : Bool} {w : MasterSt} (hcom : c = true)
    (hfree : w.gateLocked now = false) (hlock : w.tgLock = none)
    (hlow : v % 65536 ≠ key) (hfails : w.tgFails < 3) :
    gateWrite now key c v w = (false, { w with tgOpen := none, tgFails := w.tgFails + 1, tgLock := none }, false) := by
  have hn : w.tgFails + 1 ≠ 4 := by omega
  simp [gateWrite, hcom, hfree, hlock, hlow, hn]

theorem gateWrite_fourth {now key v : Nat} {c : Bool} {w : MasterSt} (hcom : c = true)
    (hfree : w.gateLocked now = false) (hlock : w.tgLock = none)
    (hlow : v % 65536 ≠ key) (hfails : w.tgFails = 3) :
    gateWrite now key c v w = (false, { w with tgOpen := none, tgFails := 4, tgLock := some now }, true) := by
  simp [gateWrite, hcom, hfree, hlock, hlow, hfails]

theorem State.recordIf_eq (c : Bool) (code unit item : Nat) (d : List Byte) (s : State) :
    ∃ l, (if c then s.record code unit item d else s) = { s with log := l } ∧ (c = false → l = s.log) := by
  cases c with
  | true => exact ⟨_, rfl, nofun⟩
  | false => exact ⟨s.log, rfl, fun _ => rfl⟩

/-- A master that has a tollgate writes its own (R129). -/
theorem State.gateWriteBy_eq (hm : m ≠ .mgmt) {v : Nat} {r : Bool × MasterSt × Bool}
    (hr : gateWrite s.clock s.img.reginit.tgKey s.committed v (s.win m) = r) :
    ∃ l, s.gateWriteBy m v = (if r.1 then 0 else 0x20, { s.modWin m fun _ => r.2.1 with log := l }) ∧
      (r.2.2 = false → l = s.log) := by
  subst hr
  generalize hw : gateWrite s.clock s.img.reginit.tgKey s.committed v (s.win m) = r
  cases m with
  | mgmt => exact absurd rfl hm
  | seq =>
    obtain ⟨l, hl, hkeep⟩ := State.recordIf_eq (r.2.2 && decide (Master.seq ≠ .mgmt)) 0x000E 0 0
      (leBytes 1 Master.seq.code ++ leBytes 2 0) (s.modWin .seq fun _ => r.2.1)
    subst hw
    exact ⟨l, Prod.ext rfl hl, fun h => hkeep (by rw [h]; rfl)⟩
  | host sid =>
    obtain ⟨l, hl, hkeep⟩ := State.recordIf_eq (r.2.2 && decide (Master.host sid ≠ .mgmt)) 0x000E 0 0
      (leBytes 1 (Master.host sid).code ++ leBytes 2 sid) (s.modWin (.host sid) fun _ => r.2.1)
    subst hw
    exact ⟨l, Prod.ext rfl hl, fun h => hkeep (by rw [h]; rfl)⟩

/-- A write of SYS_TOLLGATE is the tollgate's, and a key that does not open it is an access that is not OK. -/
theorem State.regWriteBy_tollgate (hacc : a.canAccess m = true) (v : W32) : a.regWriteBy m 0x0020 4 v.toNat =
    if (a.gateWriteBy m v.toNat).1 = 0 then (a.gateWriteBy m v.toNat).2
    else (a.gateWriteBy m v.toNat).2.accFault m (a.gateWriteBy m v.toNat).1 0x0020 v.toNat := by
  have hat : regAt 0x0020 = some ((regRow .sysTollgate).reg 0) := by rfl
  have hmod : v.toNat % 4294967296 = v.toNat := Nat.mod_eq_of_lt v.isLt
  have hwrite : a.write2 m ((regRow .sysTollgate).reg 0) 0x0020 4 v.toNat = a.gateWriteBy m v.toNat := by
    unfold State.write2
    exact if_pos rfl
  have hid : ((regRow .sysTollgate).reg 0).row.id = .sysTollgate := rfl
  have hon (i : Nat) : a.regDisabled .sysTollgate i = false := rfl
  unfold State.regWriteBy State.busWrite State.write1
  simp [hacc, hat, hmod, hwrite, hid, hon]

/-- The right key opens, and nothing else changes. -/
theorem State.regWriteBy_rightKey (hacc : a.canAccess m = true) (hm : m ≠ .mgmt) (hcom : a.committed = true) {v : W32}
    (hfree : (a.win m).gateLocked a.clock = false) (hlow : v.toNat % 65536 = a.img.reginit.tgKey)
    (hhigh : v.toNat / 65536 = 65535 - a.img.reginit.tgKey) :
    a.regWriteBy m 0x0020 4 v.toNat = a.modWin m fun _ =>
      { a.win m with tgOpen := some a.clock, tgFails := 0, tgLock := none } := by
  obtain ⟨l, hg, hl⟩ := State.gateWriteBy_eq hm (gateWrite_right hcom hfree hlow hhigh)
  obtain ⟨q, ss, hw⟩ := State.modWin_eq m (fun _ => { a.win m with tgOpen := some a.clock, tgFails := 0, tgLock := none }) a
  rw [State.regWriteBy_tollgate hacc, hg, hl rfl, hw]
  rfl

/-- A key that is not right leaves the tollgate as `gateWrite` makes it, and is recorded and counted beside. -/
theorem State.regWriteBy_wrongKey (hacc : a.canAccess .seq = true) {v : W32} {w : MasterSt} {b : Bool}
    (hr : gateWrite a.clock a.img.reginit.tgKey a.committed v.toNat a.seqm = (false, w, b)) :
    ∃ l u, a.regWriteBy .seq 0x0020 4 v.toNat = { a with seqm := w, log := l, bus := u } := by
  obtain ⟨l, hg, -⟩ := State.gateWriteBy_eq (s := a) (m := .seq) nofun hr
  obtain ⟨l', hf⟩ := State.accFault_eq .seq 0x20 0x0020 v.toNat { a with seqm := w, log := l }
  rw [State.regWriteBy_tollgate hacc, hg]
  exact ⟨l', _, hf⟩

/-! ### What time does to it -/

/-- A change of a master's windows is a change of nothing else, and the master reads it there. -/
theorem State.HasWin.modWin_read (hw : s.HasWin m) (f : MasterSt → MasterSt) :
    ∃ q ss, s.modWin m f = { s with seqm := q, sessions := ss } ∧
      State.win m { s with seqm := q, sessions := ss } = f (s.win m) := by
  obtain ⟨q, ss, heq⟩ := State.modWin_eq m f s
  exact ⟨q, ss, heq, heq ▸ hw.win_modWin⟩

theorem State.gateExpire_closes (hw : s.HasWin m) {t : Nat} (ht : (s.win m).tgOpen = some t) (hdue : t + 400000 ≤ s.clock) :
    ∃ q ss, s.gateExpire m = { s with seqm := q, sessions := ss } ∧
      State.win m { s with seqm := q, sessions := ss } = { s.win m with tgOpen := none } := by
  obtain ⟨q, ss, heq, hwin⟩ := hw.modWin_read fun w => match w.tgOpen with
    | some t => if t + msTicks 1 ≤ s.clock then closeGate w else w
    | none => w
  refine ⟨q, ss, heq, hwin.trans ?_⟩
  simp only [ht]
  exact if_pos hdue

theorem State.lockoutEnd_ends (hw : s.HasWin m) {t : Nat} (ht : (s.win m).tgLock = some t) (hdue : t + 400000000 ≤ s.clock) :
    ∃ q ss, s.lockoutEnd m = { s with seqm := q, sessions := ss } ∧
      State.win m { s with seqm := q, sessions := ss } = { s.win m with tgLock := none, tgFails := 0 } := by
  obtain ⟨q, ss, heq, hwin⟩ := hw.modWin_read fun w => match w.tgLock with
    | some t => if t + secTicks 1 ≤ s.clock then { w with tgLock := none, tgFails := 0 } else w
    | none => w
  refine ⟨q, ss, heq, hwin.trans ?_⟩
  simp only [ht]
  exact if_pos hdue

theorem State.expire_tollgate {t : Nat} (ht : (s.win m).tgOpen = some t) (hpast : t + 400000 < s.clock) :
    s.expire (.tollgate m) = s.gateExpire m := by
  refine State.expire_past fun hd => ?_
  simp only [State.deadline, ht, Option.map_some, Option.some.injEq] at hd
  exact absurd hd (Nat.ne_of_lt hpast)

/-- Settles O20: a write of the key is judged by `gateWrite`, and the tollgate's two deadlines pass. -/
theorem tollgateRuns : Obligations.TollgateRuns := by
  refine ⟨?right, ?wrong, ?fourth, ?expire, ?lockout⟩
  case right =>
    rintro s a dt m v rfl hacc hm hcom hfree hlow hhigh
    have hw := State.regWriteBy_rightKey hacc hm hcom hfree hlow hhigh
    obtain ⟨q, ss, heq, hwin⟩ := (State.hasWin_of_canAccess hacc).modWin_read fun _ =>
      { (s.advance dt).win m with tgOpen := some (s.advance dt).clock, tgFails := 0, tgLock := none }
    refine ⟨_, congrArg done (hw.trans heq), ?_⟩
    rw [hwin]
    exact ⟨rfl, rfl, rfl, rfl, rfl, rfl⟩
  case wrong =>
    rintro s a dt v rfl hacc hcom hfree hlock hlow hfails
    obtain ⟨l, b, hu⟩ := State.regWriteBy_wrongKey hacc (gateWrite_wrong hcom hfree hlock hlow hfails)
    exact ⟨_, congrArg done hu, rfl, rfl, rfl, rfl⟩
  case fourth =>
    rintro s a dt v rfl hacc hcom hfree hlock hlow hfails
    obtain ⟨l, b, hu⟩ := State.regWriteBy_wrongKey hacc (gateWrite_fourth hcom hfree hlock hlow hfails)
    exact ⟨_, congrArg done hu, rfl, rfl, rfl⟩
  case expire =>
    rintro s a dt t m rfl - hwin ht hpast
    obtain ⟨q, ss, heq, hread⟩ := State.gateExpire_closes hwin ht hpast.le
    exact ⟨q, ss, congrArg done ((State.expire_tollgate ht hpast).trans heq), hread⟩
  case lockout =>
    rintro s a dt t m rfl - hwin ht hdue
    obtain ⟨q, ss, heq, hread⟩ := State.lockoutEnd_ends hwin ht hdue
    exact ⟨q, ss, congrArg done heq, hread⟩

end Sys2Proof.Machine
end

section
/-! PROOFS. Accesses of the register bus that are answered: refused ones, 64-bit halves, SYS_SCRATCH, SYS_ACCERR, and the
accesses of SMP commands (R124, R125, R132 to R139, R434, R446). -/

namespace Sys2Proof.Machine

variable {s a : State} {m : Master} {ad v : Nat}

/-! ### Writes that the bus refuses (R137, R138) -/

theorem State.busWrite_unmapped (hal : ad % 4 = 0) (hat : regAt ad = none) :
    s.busWrite m ad 4 v = (0x23, s.accFault m 0x23 ad (v % 2 ^ 32)) := by
  simp [State.busWrite, State.write1, hal, hat]

/-- MGMT has no tollgate to close, so that an access of its own that is not aligned leaves its fault alone. -/
theorem State.busWrite_mgmt_unaligned (hal : ad % 4 ≠ 0) :
    s.busWrite .mgmt ad 4 v = (0x21, s.accFault .mgmt 0x21 ad (v % 2 ^ 32)) := by
  unfold State.busWrite State.write1
  cases regAt (ad - ad % 4) <;> simp [hal]

/-- SEQ is not privileged, and CLR of PAIR_MCNT has PRV. -/
theorem State.busWrite_seq_pairMcnt :
    s.busWrite .seq 0x0C18 4 v = (0x20, s.accFault .seq 0x20 0x0C18 (v % 2 ^ 32)) := by
  have hat : regAt 0x0C18 = some ((regRow .pairMcnt).reg 0) := by rfl
  have hguard : s.guardOk .seq (regRow .pairMcnt) 0x0C18 0x80000000 = false :=
    State.guardOk_of_prv (m := .seq) nofun (by decide)
  have hwrite (w : Nat) : s.write2 .seq ((regRow .pairMcnt).reg 0) 0x0C18 4 w = (0x20, s) := by
    unfold State.write2
    exact if_pos (congrArg not hguard)
  have htg : s.tgFields ((regRow .pairMcnt).reg 0).row 0x0C18 = 0 := ite_self _
  have hon : s.regDisabled ((regRow .pairMcnt).reg 0).row.id ((regRow .pairMcnt).reg 0).i = false := rfl
  unfold State.busWrite State.write1
  simp [hat, hon, hwrite, htg]

/-! ### 64-bit registers (R135, R136) -/

theorem lookupD_insertKey_same {α : Type} (d : α) (k : Nat) (x : α) (xs : List (Nat × α)) :
    lookupD d k (insertKey k x xs) = x := by
  induction xs with
  | nil => exact if_pos rfl
  | cons p xs ih =>
    rw [insertKey]
    split
    · exact if_pos rfl
    · split
      · exact if_pos rfl
      · next hne => exact (if_neg hne).trans ih

/-- A master's shadows stand with its windows, and it reads there what is written to them. -/
theorem State.HasWin.modShadows_read (hw : s.HasWin m) (f : MasterSt → MasterSt) :
    ∃ g q ss, s.modShadows m f = { s with mgmt := g, seqm := q, sessions := ss } ∧
      State.shadows m { s with mgmt := g, seqm := q, sessions := ss } = f (s.shadows m) := by
  cases m with
  | mgmt => exact ⟨_, s.seqm, s.sessions, rfl, rfl⟩
  | seq => exact ⟨s.mgmt, _, s.sessions, rfl, rfl⟩
  | host sid =>
    obtain ⟨q, ss, heq, hwin⟩ := hw.modWin_read f
    exact ⟨s.mgmt, q, ss, heq, hwin⟩

/-- The low word of SYS_TICK captures the high one. -/
theorem State.regReadBy_tickLow (hacc : a.canAccess m = true) (hp : a.bus.parity = []) :
    a.regReadBy m 0x0010 4 = a.modShadows m fun x => { x with
      rsh := insertKey 0x0010 (BitVec.ofNat 32 (a.regValue m ((regRow .sysTick).reg 0) / 2 ^ 32)) x.rsh } := by
  have hat : regAt 0x0010 = some ((regRow .sysTick).reg 0) := by rfl
  have hon : a.regDisabled ((regRow .sysTick).reg 0).row.id ((regRow .sysTick).reg 0).i = false := rfl
  unfold State.regReadBy State.busRead State.read1
  simp only [hacc, hat, hon, hp, List.not_mem_nil]
  rfl

/-- A word of a 64-bit register is no TG field. -/
theorem State.write1_wide {r : RegRow} {hi : Bool} (hal : ad % 4 = 0) (hat : regAt ad = some ⟨r, 0, 0, hi⟩) (hwide : r.wide = true)
    (hgate : r.id ≠ .sysTollgate) (hpt : r.pt = 0) (hon : s.regDisabled r.id 0 = false) :
    s.write1 m ad 4 v = (0, s.modShadows m fun x => { x with
      wsh := if hi then eraseKey r.base x.wsh else insertKey r.base (BitVec.ofNat 32 v) x.wsh }) := by
  have htg : s.tgFields r ad = 0 := by simp [State.tgFields, hpt]
  unfold State.write1 State.write2
  cases hi <;> simp [hal, hat, hwide, hgate, htg, hon]

theorem State.regWriteBy_tickLow (hacc : a.canAccess m = true) (v : W32) :
    a.regWriteBy m 0x0010 4 v.toNat = a.modShadows m fun x => { x with wsh := insertKey 0x0010 v x.wsh } := by
  have hw := State.write1_wide (s := a) (m := m) (v := v.toNat) (ad := 0x0010) (r := regRow .sysTick) (hi := false) rfl
    (by rfl) rfl (by decide) rfl rfl
  have hmod : v.toNat % 2 ^ 32 = v.toNat := Nat.mod_eq_of_lt v.isLt
  unfold State.regWriteBy State.busWrite
  rw [if_pos hacc, hmod, if_neg (by decide), hw, BitVec.ofNat_toNat, BitVec.setWidth_eq]
  rfl

theorem State.regWriteBy_tickHigh (hacc : a.canAccess m = true) (v : Nat) :
    a.regWriteBy m 0x0014 4 v = a.modShadows m fun x => { x with wsh := eraseKey 0x0010 x.wsh } := by
  have hw := State.write1_wide (s := a) (m := m) (v := v % 2 ^ 32) (ad := 0x0014) (r := regRow .sysTick) (hi := true) rfl
    (by rfl) rfl (by decide) rfl rfl
  unfold State.regWriteBy State.busWrite
  rw [if_pos hacc, if_neg (by decide), hw]
  rfl

/-! ### SYS_SCRATCH and SYS_ACCERR (R132, R138) -/

/-- A whole word leaves nothing of what SYS_SCRATCH held. -/
theorem scratch_replaced (x : W32) (v : Nat) :
    (x &&& ~~~(BitVec.ofNat 32 0xFFFFFFFF)) ||| BitVec.ofNat 32 (v &&& 0xFFFFFFFF) = BitVec.ofNat 32 v := by
  have hx : x &&& ~~~(BitVec.ofNat 32 0xFFFFFFFF) = 0#32 := BitVec.and_zero
  rw [hx, BitVec.zero_or]
  refine BitVec.eq_of_toNat_eq ?_
  rw [Nat.and_two_pow_sub_one_eq_mod (n := 32), BitVec.toNat_ofNat, BitVec.toNat_ofNat, Nat.mod_mod]

/-- An admitted write of SYS_SCRATCH stores its word there; the bus notes the write. -/
theorem State.Admits.write2_scratch (ha : a.Admits m 0x0034) (v : Nat) :
    ∃ w p n, a.write2 m ((regRow .sysScratch).reg 0) 0x0034 4 v =
      (0, { a with bus := { a.bus with scratch := BitVec.ofNat 32 v, wrote := w, parity := p, undo := n } }) := by
  have hat : regAt 0x0034 = some ((regRow .sysScratch).reg 0) := by rfl
  obtain ⟨h, hat', -, hguard⟩ := ha.mapped
  obtain rfl : (regRow .sysScratch).reg 0 = h := Option.some.inj (hat.symm.trans hat')
  have hid : ((regRow .sysScratch).reg 0).row.id = .sysScratch := rfl
  have hwide : ((regRow .sysScratch).reg 0).row.wide = false := rfl
  have hmask : ((regRow .sysScratch).reg 0).row.wr &&& byteMask 0 4 = 0xFFFFFFFF := rfl
  have hopen : a.guardOk m ((regRow .sysScratch).reg 0).row 0x0034 0xFFFFFFFF = true := hguard
  have hover (id : RegId) (i : Nat) : a.undoWrite id i 0x0034 = a := State.undoWrite_of_alone _ _ ha.alone
  unfold State.write2
  simp only [hid, hwide, hmask, hopen, hover, ha.first, ha.quiet, Nat.reduceMod, Nat.sub_zero, reduceCtorEq, false_and,
    or_self, if_false, if_true, ite_self, Bool.not_true, Bool.false_eq_true, Nat.mul_zero, Nat.shiftLeft_zero,
    OfNat.ofNat_ne_zero]
  obtain ⟨w, p, n, hfx⟩ := State.commitWrite_fx m ((regRow .sysScratch).reg 0) 0x0034 v
    (a.setBus fun b => { b with scratch := (b.scratch &&& ~~~(BitVec.ofNat 32 0xFFFFFFFF)) ||| BitVec.ofNat 32 (v &&& 0xFFFFFFFF) })
  refine ⟨w, p, n, congrArg (Prod.mk 0) (hfx.trans ?_)⟩
  rw [State.setBus, scratch_replaced]
  rfl

theorem State.Admits.writeScratch (ha : a.Admits m 0x0034) (v : W64) :
    ∃ w p n, a.regWriteBy m 0x0034 4 v.toNat =
      { a with bus := { a.bus with scratch := v.setWidth 32, wrote := w, parity := p, undo := n } } := by
  have hat : regAt 0x0034 = some ((regRow .sysScratch).reg 0) := by rfl
  obtain ⟨w, p, n, hwrite⟩ := ha.write2_scratch (v.toNat % 4294967296)
  have htg : a.tgFields ((regRow .sysScratch).reg 0).row 0x0034 = 0 := ite_self _
  have hon : a.regDisabled ((regRow .sysScratch).reg 0).row.id ((regRow .sysScratch).reg 0).i = false := rfl
  have hv : BitVec.ofNat 32 (v.toNat % 4294967296) = v.setWidth 32 := BitVec.eq_of_toNat_eq (by simp)
  refine ⟨w, p, n, ?_⟩
  unfold State.regWriteBy State.busWrite State.write1
  simp [ha.master, hat, hon, hwrite, htg, hv]

/-- A write of SYS_ACCERR clears the flags written as one, and with CLRCNT the count (R138). -/
theorem accerr_clears (v : W32) : bit ((v.toNat ||| 0x80000000) &&& 0x8000007F) 31 = true ∧
    BitVec.ofNat 7 ((v.toNat ||| 0x80000000) &&& 0x8000007F) = v.setWidth 7 := by
  constructor
  · unfold bit
    rw [Nat.testBit_and, Nat.testBit_or]
    have h31 : Nat.testBit 0x80000000 31 = true := by decide
    have h31' : Nat.testBit 0x8000007F 31 = true := by decide
    rw [h31, h31', Bool.or_true, Bool.and_true]
  · have hlow : ((v.toNat ||| 0x80000000) &&& 0x8000007F) % 2 ^ 7 = v.toNat % 2 ^ 7 := by
      rw [Nat.and_mod_two_pow, Nat.or_mod_two_pow]
      have hx : v.toNat % 2 ^ 7 ||| 0x80000000 % 2 ^ 7 = v.toNat % 2 ^ 7 := Nat.or_zero _
      rw [hx]
      exact Nat.and_two_pow_sub_one_of_lt_two_pow (n := 7) (Nat.mod_lt _ (by decide))
    exact BitVec.eq_of_toNat_eq (by rw [BitVec.toNat_ofNat, BitVec.toNat_setWidth, hlow])

/-! ### ACK of a safety link (R446) -/

theorem State.uslAckWrite_eq (c : Nat) (s : State) : s.uslAckWrite c = { s with
    usl := { s.usl with conns := modifyKey (·.c) c (fun y => { y with ackW := y.ackW || y.reintRdy }) s.usl.conns } } := by
  have hset : (fun x : UslSt => if x.reintRdy then { x with ackW := true } else x) =
      fun y => { y with ackW := y.ackW || y.reintRdy } := by
    funext y
    split
    · next hy => rw [hy, Bool.or_true]
    · next hy =>
      have hnot : y.reintRdy = false := Bool.eq_false_iff.2 hy
      rw [hnot, Bool.or_false, ← hnot]
  unfold State.uslAckWrite
  rw [hset]
  rfl

/-- A write of USL_CCTL with ACK commits with its effect and what the bus notes. -/
theorem State.commitWrite_uslAck (c : Nat) (s : State) :
    ∃ b, s.commitWrite m ((regRow .uslCctl).reg c) ((regRow .uslCctl).addr c) 1 = ({ s with bus := b } : State).uslAckWrite c := by
  obtain ⟨w, p, n, hfx⟩ := s.commitWrite_fx m ((regRow .uslCctl).reg c) ((regRow .uslCctl).addr c) 1
  have hack (u : State) (k : Nat) : u.writeFx m ((regRow .uslCctl).reg c) (1 &&& (regRow .uslCctl).wr) k = u.uslAckWrite c :=
    if_pos (c := bit 1 0 = true) (e := u) (by decide)
  exact ⟨_, hfx.trans (hack _ _)⟩

/-- MGMT's write of ACK commits where neither a master nor a function has written the register in this tick. -/
theorem State.busWrite_mgmt_uslAck {c : Nat} (hc : c < 64) (hon : s.regDisabled .uslCctl c = false) (hw : s.bus.wrote = [])
    (hf : s.bus.fnSet = []) (hu : s.bus.undo = []) :
    ∃ b, s.busWrite .mgmt (0x9600 + 4 * c) 4 1 = (0, ({ s with bus := b } : State).uslAckWrite c) := by
  obtain ⟨halone, hword⟩ := regRow_written .uslCctl (by decide)
  have hcom : s.Commits .mgmt ((regRow .uslCctl).reg c) ((regRow .uslCctl).addr c) :=
    ⟨halone.regAt hc, hword, by change (0x9600 + 4 * c) % 4 = 0; omega, hon, rfl, by simp [hw, lookupD], by simp [hf]⟩
  have hover : s.overrule .mgmt ((regRow .uslCctl).reg c) ((regRow .uslCctl).addr c) = s := by
    unfold State.overrule
    rw [State.undoWrite_of_alone _ _ (by simp [hu]), ite_self]
  obtain ⟨b, hb⟩ := s.commitWrite_uslAck (m := .mgmt) c
  exact ⟨b, (hcom.busWrite (by decide)).trans (by rw [hover, hb]; rfl)⟩

/-- When time has passed before a command, its tick has no writes yet (R125). -/
theorem State.advance_bus {dt : Nat} (hdt : 0 < dt) :
    (s.advance dt).bus.wrote = [] ∧ (s.advance dt).bus.fnSet = [] ∧ (s.advance dt).bus.undo = [] := by
  have hne : ¬ dt = 0 := Nat.ne_of_gt hdt
  unfold State.advance
  simp only [if_neg hne]
  generalize State.endTick _ = t
  obtain ⟨sl, hsl⟩ := State.tickD7_slotsOnly (t.elapse dt).prpForget
  rw [hsl]
  unfold State.prpForget State.elapse
  rw [if_neg hne]
  exact ⟨rfl, rfl, rfl⟩

/-! ### The order of masters (R125) -/

/-- A higher master's write takes a lower master's clearing of KEY_FAULT back, and clears nothing itself. -/
theorem State.regWriteBy_keyFault {r : Nat} (hacc : a.canAccess m = true)
    (hguard : a.guardOk m (regRow .sysState) 0x0004 (regRow .sysState).wr = true)
    (hundo : a.bus.undo = [(0x0004, 64, [])]) (hwrote : a.bus.wrote = [(0x0004, r)]) (hr : r < m.rank) (hf : 0x0004 ∉ a.bus.fnSet) :
    ∃ b, a.regWriteBy m 0x0004 4 0 = { a with bus := b, panel := { a.panel with keyFault := true } } := by
  have hlast : lookupD 0 0x0004 a.bus.wrote = r := by rw [hwrote]; rfl
  have hcom : a.Commits m ((regRow .sysState).reg 0) 0x0004 :=
    ⟨by rfl, by decide, rfl, rfl, hguard, by rw [hlast]; exact Nat.not_lt.2 hr.le, hf⟩
  have hover : a.overrule m ((regRow .sysState).reg 0) 0x0004 = { a with panel := { a.panel with keyFault := true } } := by
    have hset : (a.panel.keyFault || bit 64 6) = true := Bool.or_true _
    unfold State.overrule State.undoWrite
    rw [hlast, if_pos hr, hundo]
    exact congrArg (fun b => { a with panel := { a.panel with keyFault := b } }) hset
  obtain ⟨w, p, n, hfx⟩ := State.commitWrite_fx m ((regRow .sysState).reg 0) 0x0004 0
    { a with panel := { a.panel with keyFault := true } }
  refine ⟨{ a.bus with wrote := w, parity := p, undo := n }, (hcom.regWriteBy hacc (by decide)).trans ?_⟩
  rw [State.closeTg_of_noTg rfl, hover, hfx]
  have hclear (u : State) : u.writeFx m ((regRow .sysState).reg 0) (0 &&& (regRow .sysState).wr)
      (u.w1c 0x0004 (0 &&& (regRow .sysState).wr &&& (regRow .sysState).w1c)) = u := by
    rw [State.w1c, Nat.zero_and, Nat.zero_and, Nat.zero_and]
    exact congrArg (fun b => { u with panel := { u.panel with keyFault := b } }) (clr_zero u.panel.keyFault 6)
  exact hclear _

/-! ### Accesses of SMP commands (R434) -/

/-- A whole-word read of a configured register whose parity stands answers OK with its value. -/
theorem State.busRead_word {h : RegHit} (hal : ad % 4 = 0) (hat : regAt ad = some h) (hwide : h.row.wide = false)
    (hhigh : h.high = false) (hon : s.regDisabled h.row.id h.i = false) (hp : s.parityKey h ad ∉ s.bus.parity) :
    s.busRead m ad 4 = (0, s.regValue m h % 2 ^ 32, s) := by
  simp [State.busRead, State.read1, hal, hat, hwide, hhigh, hon, hp]

end Sys2Proof.Machine
end

section
/-! PROOFS. A parity fault latches CFG_FAIL, and what stops by it leaves the bus's own registers as they stand (R142, R143,
R516 to R518). -/

namespace Sys2Proof.Machine

-- a membership that `by decide` fills in waits for the declarations before it: they are elaborated in order
set_option Elab.async false

/-- `u` has the bus of `s`, but for the W1C bits that the hardware has set in this tick (R125). -/
structure BusKept (s u : State) : Prop where
  bus : u.bus = { s.bus with lat0 := u.bus.lat0 }

section
variable {s a u : State}

namespace BusKept

theorem refl : BusKept s s := ⟨rfl⟩

theorem trans (h : BusKept s a) (k : BusKept a u) : BusKept s u := ⟨by rw [k.bus, h.bus]⟩

theorem ite {c : Prop} [Decidable c] {b : State} (ha : BusKept s a) (hb : BusKept s b) : BusKept s (if c then a else b) := by
  split <;> assumption

theorem foldl {α : Type} {l : List α} {f : State → α → State} (h : BusKept s a)
    (hf : ∀ b, ∀ x ∈ l, BusKept s b → BusKept s (f b x)) : BusKept s (l.foldl f a) :=
  List.foldlRecOn l f h fun b hb x hx => hf b x hx hb

theorem parity (h : BusKept s a) : a.bus.parity = s.bus.parity := (congrArg Bus.parity h.bus :)

theorem cfgFail (h : BusKept s a) : a.bus.cfgFail = s.bus.cfgFail := (congrArg Bus.cfgFail h.bus :)

section
variable (h : BusKept s a)
include h

/-- What leaves the bus alone keeps it. -/
theorem step (hb : u.bus = a.bus := by rfl) : BusKept s u := h.trans ⟨by rw [hb]⟩

/-- The frame of an operation that does not touch the bus is such a frame. -/
theorem touch {P : List Part} {W : Set Nat} (k : Touches P W a u) (hb : .bus ∉ P := by decide)
    (hp : .parity ∉ P := by decide) : BusKept s u := by
  have hk := congrArg State.bus k.eq
  simp only [State.patch, pick_of_not_mem hb, pick_of_not_mem hp] at hk
  exact h.trans ⟨by rw [hk]⟩

theorem latchSet {addr bits : Nat} : BusKept s (a.latchSet addr bits) := h.trans ⟨rfl⟩

theorem writeSlot {i : Nat} {v : W32} {q : Byte} : BusKept s (a.writeSlot i v q) := h.step (State.writeSlot_bus a i v q)

theorem writeOpt {r : Option SlotRef} {v : Nat} {q : Byte} : BusKept s (a.writeOpt r v q) :=
  h.touch ((Touches.refl (P := [.slots]) (W := Set.univ)).writeOpt fun _ _ _ _ => Set.mem_univ _)

theorem putMaps {l : List RioMap} {v : RioMap → Nat} {q : Nat → Byte} : BusKept s (a.putMaps l v q) :=
  h.foldl fun _ _ _ hb => hb.writeSlot

theorem r38 {f : Nat} {x : Option Nat} {l : List Nat} : BusKept s (a.r38 f x l) :=
  h.foldl fun _ _ _ hb => .ite hb hb.writeSlot

theorem answer {sid req code : Nat} {p : List Byte} : BusKept s (a.answer sid req code p) :=
  h.step (State.answer_bus a sid req code p)

theorem sendBoth {x : LinkMsg} : BusKept s (a.sendBoth x) :=
  h.step ((State.sendLink_bus (a.sendLink 0 x) 1 x).trans (State.sendLink_bus a 0 x))

/-! ### Functions that stop (R38) -/

theorem stopSeq : BusKept s a.stopSeq := by
  unfold State.stopSeq
  exact r38 (h.step)

theorem stopMs : BusKept s a.stopMs := by
  unfold State.stopMs
  extract_lets s1 s2
  have h1 : BusKept s s1 := h.step
  have h2 : BusKept s s2 := h1.foldl fun _ _ _ hb => hb.step
  clear_value s2
  exact r38 h2.step

theorem rioUnreachable (ch : Nat) : BusKept s (a.rioUnreachable ch) := by
  have hsub := rioParts_subset ch
  exact h.touch (State.rioUnreachable_touches ch) (fun hm => absurd (hsub hm) (by decide)) fun hm => absurd (hsub hm) (by decide)

theorem rioFail (ch : Nat) : BusKept s (a.rioFail ch) := by
  refine (h.rioUnreachable ch).foldl fun b c _ hb => ?_
  split
  · exact hb.writeSlot
  · exact hb

theorem stopCan (x : Option Nat) : BusKept s (a.stopCan x) := by
  unfold State.stopCan
  refine r38 (h.foldl fun b g _ hb => ?_)
  exact step (ite (hb.rioFail g.ch) hb)

theorem hartStop (ao : Bool) (x : Option Nat) : BusKept s (a.hartStop ao x) := by
  unfold State.hartStop
  exact foldl (h.step) fun _ _ _ hb => answer (hb.step)

theorem aiStatus (k : Nat) : BusKept s (a.aiStatus k) :=
  h.touch (State.aiStatus_touches k (W := Set.univ) fun _ _ => Set.subset_univ _)

theorem aoStatus (k : Nat) : BusKept s (a.aoStatus k) := by
  unfold State.aoStatus
  split
  · exact h.writeOpt
  · exact h

theorem stopAi (x : Option Nat) : BusKept s (a.stopAi x) := by
  unfold State.stopAi
  extract_lets cs _ s1 _ s2 s3
  have h1 : BusKept s s1 := by cases x <;> exact h.step
  have h2 : BusKept s s2 := h1.step
  have h3 : BusKept s s3 := (h2.hartStop false x).r38
  exact h3.foldl fun _ c _ hb => hb.aiStatus c.ch

theorem stopAo (x : Option Nat) : BusKept s (a.stopAo x) := by
  unfold State.stopAo
  extract_lets cs _ s1 s3
  have h1 : BusKept s s1 := by cases x <;> exact h.step
  have h3 : BusKept s s3 := (h1.hartStop true x).r38
  exact h3.foldl fun _ c _ hb => hb.aoStatus c.ch

theorem stopDio (x : Option Nat) : BusKept s (a.stopDio x) := by
  unfold State.stopDio
  extract_lets cs _ s1 s2
  have h1 : BusKept s s1 := by
    cases x with
    | none => exact h.step
    | some n => exact h.latchSet.step
  have h2 : BusKept s s2 := h1.r38
  refine h2.foldl fun b c _ hb => ?_
  split
  · exact hb.writeSlot
  · exact hb

theorem brakeDemand (k : Nat) : BusKept s (a.brakeDemand k) := ite (h.latchSet.step) h

theorem testAbort (k : Nat) : BusKept s (a.testAbort k) := ite (h.step) h

theorem leaveSo : BusKept s a.leaveSo := by
  have hf : BusKept s ((List.range 4).foldl (fun s k => (s.brakeDemand k).testAbort k) a) :=
    h.foldl fun _ k _ hb => (hb.brakeDemand k).testAbort k
  unfold State.leaveSo
  extract_lets s1
  have h1 : BusKept s s1 := hf
  clear_value s1
  exact h1.step

theorem stopSo : BusKept s a.stopSo := by
  unfold State.stopSo
  extract_lets s1 s2
  have h1 : BusKept s s1 := h.leaveSo
  clear_value s1
  exact r38 h1.step

theorem ptpHoldover : BusKept s a.ptpHoldover := ite (h.latchSet.step) h

theorem stopEth : BusKept s a.stopEth := by
  unfold State.stopEth
  extract_lets s1 s2
  have h1 : BusKept s s1 := (h.rioFail 4).ptpHoldover
  clear_value s1
  exact r38 h1.step

theorem uslPassivate (c : UslCfg) (k : Nat) : BusKept s (a.uslPassivate c k) := by
  unfold State.uslPassivate
  extract_lets s1
  have h1 : BusKept s s1 := h.latchSet.step
  have h2 : BusKept s (s1.uslFailSafe c) := h1.putMaps
  exact h2.step

theorem stopUsl : BusKept s a.stopUsl := by
  unfold State.stopUsl
  extract_lets _ s1 s2 _ s3
  have h1 : BusKept s s1 := h.step
  have h2 : BusKept s s2 := by
    refine h1.foldl fun b c _ hb => ?_
    split
    · exact ite hb.putMaps (hb.uslPassivate c 4)
    · exact hb
  have h3 : BusKept s s3 := by
    clear_value s2
    exact h2.step
  exact h3.r38

theorem stopFunc (f : Nat) (x : Option Nat) : BusKept s (a.stopFunc f x) := by
  unfold State.stopFunc
  split
  · exact r38 (h.step)
  · exact h.step
  · exact r38 (h.step)
  · exact h.stopSeq
  · exact h.stopMs
  · exact r38 (h.step)
  · exact r38 (h.step)
  · exact h.stopCan x
  · exact h.stopAi x
  · exact h.stopAo x
  · exact h.stopDio x
  · exact h.stopSo
  · exact h.stopEth
  · exact h.stopUsl
  · exact h

/-! ### ACTIVE that is left, and module faults (R177, R178, R480, R518) -/

theorem olcAbort (c k : Nat) : BusKept s (a.olcAbort c k) := by
  unfold State.olcAbort
  split
  · exact h
  · extract_lets pend _ s1 s2
    have h2 : BusKept s s2 := h.step
    exact ite h2.answer h2

theorem leaveBarn (m : ModState) : BusKept s (a.leaveBarn m) := ite h (ite (h.step) (h.step))

theorem leaveEth (planned : Bool) : BusKept s (a.leaveEth planned) :=
  ite (h.step) (foldl (h.step) fun _ _ _ hb => ite (hb.step) (hb.step))

theorem leaveMs : BusKept s a.leaveMs := by
  obtain ⟨sl, hsl⟩ := State.msDomWrite_slotsOnly ((a.msOutputsOff).modDom 7 fun x => { x with st := 0, cycles := a.cycleNow 7 }) 7
  exact h.step (congrArg State.bus hsl :)

theorem leaveLoop : BusKept s a.leaveLoop := h.step

theorem leaveSlv : BusKept s a.leaveSlv := h.step

theorem leaveCan : BusKept s a.leaveCan := h.step

theorem leaveFld : BusKept s a.leaveFld := h.step

theorem leaveUsl : BusKept s a.leaveUsl := h.step

theorem leaveFuncs (planned : Bool) : BusKept s (a.leaveFuncs planned) := by
  have hseq : BusKept s a.leaveSeq := h.step
  exact (hseq.leaveMs.leaveLoop.leaveSlv.leaveCan.leaveFld.leaveSo.leaveEth planned).leaveUsl

theorem leaveActive (m : ModState) (planned : Bool) : BusKept s (a.leaveActive m planned) := by
  have hk : BusKept s (a.olcAbort 0x36 3).keepShadows := (h.olcAbort 0x36 3).step
  unfold State.leaveActive
  split
  · exact h.step
  · exact ((hk.leaveBarn m).leaveFuncs planned).step

theorem swapFault (f : Nat) : BusKept s (a.swapFault f) := by
  unfold State.swapFault
  split
  · exact leaveActive (sendBoth (h.step)) .standby false
  · exact h

theorem enterSafe (f : Nat) : BusKept s (a.enterSafe f) := by
  unfold State.enterSafe
  extract_lets was s1 _ _ s2 s3 s4
  have h2 : BusKept s s2 := (h.leaveActive .safe false).step
  have h3 : BusKept s s3 := h2.foldl fun _ _ _ hb => hb.latchSet.step
  have h4 : BusKept s s4 := h3.step
  exact ite h4.sendBoth h4

theorem withFaults (b : State) : BusKept s (b.withFaults a) := h.step

theorem stopAll : BusKept s a.stopAll :=
  withFaults (h.foldl fun _ f _ hb => ite hb (hb.stopFunc f none)) a

theorem keepFault (c f : Nat) (canRec : Bool) : BusKept s (a.keepFault c f canRec) := ite h.step h.step

theorem moduleFault (c f : Nat) (canRec : Bool) : BusKept s (a.moduleFault c f canRec) := by
  unfold State.moduleFault
  extract_lets s0 s1 _ _ s2
  have h0 : BusKept s s0 := ite h.sendBoth (h.swapFault f)
  have h1 : BusKept s s1 := (h0.leaveActive .fault false).stopAll
  have h2 : BusKept s s2 := by
    clear_value s1
    exact h1.step
  exact h2.keepFault c f canRec

theorem faultBit (f : Nat) : BusKept s (a.faultBit f) := by
  unfold State.faultBit
  split <;> exact h.step

theorem setCause (f : Nat) (x : Option Nat) (c : Nat) : BusKept s (a.setCause f x c) := by
  unfold State.setCause
  split
  case h_5 => split <;> exact h.step
  all_goals exact h.step

end

/-- A fault that is raised leaves the bus as its record does (R517, R519). -/
theorem raiseScope (f : Nat) (x : Option Nat) {rec : State → State} (hr : BusKept s (rec a)) : BusKept s (a.raiseScope f x rec) := by
  unfold State.raiseScope
  refine ite hr ?_
  extract_lets s1 _ s2
  have h2 : BusKept s s2 := hr.step
  have hunit : BusKept s (s2.stopFunc f x) := h2.stopFunc f x
  have hsafe : BusKept s (((s2.stopFunc f none).modScope f none fun x => { x with ladder := false }).enterSafe f) :=
    enterSafe ((h2.stopFunc f none).step) f
  exact ite (ite ((h2.moduleFault 7 f true).faultBit f) (ite hsafe (h2.stopFunc f none))) (ite (hunit.swapFault f) hunit)

end BusKept

/-! ### A failing register (R142, R143) -/

/-- A parity fault that has not been up is latched, whatever it stops. -/
theorem State.parityDetect_latches {n : Nat} (hup : n ∉ s.bus.parityUp) (hscope : (parityScope n).isSome = true) :
    (s.parityDetect n).bus.cfgFail = true ∧ (s.parityDetect n).bus.parity = s.bus.parity := by
  unfold State.parityDetect
  rw [if_neg (by simpa using hup)]
  split
  · next hnone => exact absurd hscope (by simp [hnone])
  · next f x hfx =>
    extract_lets ra diag s0 _ s1 s2 c
    have hc : BusKept s2 (s2.setCause f x c) := BusKept.refl.setCause f x c
    have hr := BusKept.raiseScope f x (a := s2.setCause f x c)
      (rec := fun s => s.record 0x0013 (x.getD 0) f (leBytes 1 f ++ leBytes 1 c ++ leBytes 2 ra)) hc.step
    exact ⟨hr.cfgFail, hr.parity⟩

/-- A configuration register whose parity fails while the module runs is found, and CFG_FAIL latches. -/
theorem State.parityFail_latches {n : Nat} {h : RegHit} (hrun : s.running = true) (hat : regAt n = some h) (himg : h.row.img ≠ 0)
    (hn : n < 65536) (hkey : s.parityKey h n = n) (hup : n ∉ s.bus.parityUp) (hscope : (parityScope n).isSome = true) :
    n ∈ (s.parityFail n).bus.parity ∧ (s.parityFail n).bus.cfgFail = true := by
  have hfail : s.parityFail n = State.parityDetect n { s with
      bus := { s.bus with parity := if n ∈ s.bus.parity then s.bus.parity else n :: s.bus.parity } } := by
    unfold State.parityFail
    simp [hrun, hat, himg, hn, hkey, Nat.not_le.2 hn]
  obtain ⟨hlatch, hpar⟩ := State.parityDetect_latches (s := { s with
    bus := { s.bus with parity := if n ∈ s.bus.parity then s.bus.parity else n :: s.bus.parity } }) hup hscope
  rw [hfail, hpar]
  refine ⟨?_, hlatch⟩
  by_cases hmem : n ∈ s.bus.parity <;> simp [hmem]

end

end Sys2Proof.Machine
end

section
/-! PROOFS. The accesses of the register bus, one clause after another (O19). -/

namespace Sys2Proof.Machine

/-- Settles O19: each access comes down to what the bus answers to it, a refusal to `accFault`, and a parity fault to its
latch, which nothing that stops by the fault takes back. -/
theorem busAccesses : Obligations.BusAccesses := by
  refine ⟨?read, ?scratch, ?unmapped, ?unaligned, ?guarded, ?fault, ?tickRead, ?tickLow, ?tickHigh, ?accerr, ?smpWrite,
    ?uslAck, ?uslCctl, ?parity, ?order⟩
  case read =>
    rintro s a dt sid req ad p x h rfl ha hrole hp rfl hw hn - hal hat hwide hhigh hon hpar
    refine congrArg done ((ha.serve _).trans ?_)
    refine ha.command (r := { sid := sid, req := req, cmd := 0x04, p := p }) hrole rfl
      (by simp [SmpReq.len, SmpReq.num, accessOk, hp, hw, hn]) (by simp [hp]) ?_
    have hread := State.busRead_word (s := (s.advance dt).taken sid req 0x04) (m := .host sid) hal hat hwide hhigh hon hpar
    simp only [SmpReq.num, hw, hn, regReads, hread]
  case scratch =>
    rintro s a dt m v rfl ha
    obtain ⟨w, p, n, hb⟩ := ha.writeScratch v
    exact ⟨_, congrArg done hb, rfl, rfl, rfl, rfl, rfl, rfl⟩
  case unmapped =>
    rintro s a dt ad m v rfl hacc hal hat
    refine congrArg done ((if_pos hacc).trans ?_)
    rw [State.busWrite_unmapped hal hat]
  case unaligned =>
    rintro s a dt ad v rfl hacc hal
    refine congrArg done ((if_pos hacc).trans ?_)
    rw [State.busWrite_mgmt_unaligned hal]
  case guarded =>
    rintro s a dt v rfl hacc -
    refine congrArg done ((if_pos hacc).trans ?_)
    rw [State.busWrite_seq_pairMcnt]
  case fault =>
    intro s m c ad v
    obtain ⟨l, hl⟩ := State.accFault_eq m c ad v s
    rw [hl]
    exact ⟨rfl, rfl, rfl, rfl, rfl⟩
  case tickRead =>
    rintro s a dt m h rfl hacc hat hp
    obtain rfl : (regRow .sysTick).reg 0 = h := Option.some.inj (Eq.trans (by rfl) hat)
    obtain ⟨g, q, ss, heq, hread⟩ := (State.hasWin_of_canAccess hacc).modShadows_read fun x => { x with
      rsh := insertKey 0x0010 (BitVec.ofNat 32 ((s.advance dt).regValue m ((regRow .sysTick).reg 0) / 2 ^ 32)) x.rsh }
    refine ⟨_, congrArg done ((State.regReadBy_tickLow hacc hp).trans heq), ?_, rfl, rfl, rfl⟩
    rw [hread]
    exact lookupD_insertKey_same ..
  case tickLow =>
    rintro s a dt m v rfl hacc
    obtain ⟨g, q, ss, heq, hread⟩ :=
      (State.hasWin_of_canAccess hacc).modShadows_read fun x => { x with wsh := insertKey 0x0010 v x.wsh }
    refine ⟨_, congrArg done ((State.regWriteBy_tickLow hacc v).trans heq), ?_, rfl, rfl, rfl, rfl⟩
    rw [hread]
    exact lookupD_insertKey_same ..
  case tickHigh =>
    rintro s a dt m v rfl hacc
    obtain ⟨g, q, ss, heq, hread⟩ :=
      (State.hasWin_of_canAccess hacc).modShadows_read fun x => { x with wsh := eraseKey 0x0010 x.wsh }
    refine ⟨_, congrArg done ((State.regWriteBy_tickHigh hacc v.toNat).trans heq), ?_, rfl, rfl, rfl, rfl⟩
    rw [hread]
  case accerr =>
    rintro s a dt m v rfl ha
    obtain ⟨w, p, n, hb⟩ := ha.writes (id := .sysAccerr) (i := 0) (by decide) (by decide)
      (Nat.or_lt_two_pow (n := 32) v.isLt (by decide) : v.toNat ||| 0x80000000 < 2 ^ 32)
    obtain ⟨hcount, hflags⟩ := accerr_clears v
    rw [State.closeTg_of_noTg rfl] at hb
    refine ⟨_, (s.advance dt).seqm, (s.advance dt).sessions, congrArg done hb, ?_, ?_⟩
    · exact if_pos hcount
    · exact congrArg (fun f => (s.advance dt).bus.accFlags &&& ~~~f) hflags
  case smpWrite =>
    rintro s a dt sid req ad p x rfl ha hrole hp rfl hw hn - hal hat
    refine congrArg done ((ha.serve _).trans ?_)
    refine ha.command (r := { sid := sid, req := req, cmd := 0x05, p := p }) hrole rfl
      (by simp [SmpReq.len, SmpReq.num, accessOk, hp, hw, hn]) (by simp [hp]) ?_
    have hwrite := State.busWrite_unmapped (s := (s.advance dt).taken sid req 0x05) (m := .host sid)
      (v := getN (p.drop 4) 0 4) hal hat
    simp only [SmpReq.num, hw, hn, regWrites, hwrite]
  case uslAck =>
    rintro s a dt sid req c p x rfl ha hrole hp rfl hc hon hdt
    obtain ⟨hw, hf, hu⟩ := State.advance_bus (s := s) hdt
    obtain ⟨b, hb⟩ := State.busWrite_mgmt_uslAck (s := (s.advance dt).taken sid req 0x61) hc hon hw hf hu
    refine ⟨b, congrArg done ((ha.serve _).trans ?_)⟩
    refine ha.command (r := { sid := sid, req := req, cmd := 0x61, p := p }) hrole rfl
      (by simp [SmpReq.len, SmpReq.num, hp, hc]) (by simp [hp]) ?_
    simp only [SmpReq.num, hb, State.uslAckWrite_eq]
    rfl
  case uslCctl =>
    rintro s a dt m c rfl hc ha
    obtain ⟨hcom, hover⟩ := ha.commits (id := .uslCctl) (i := c) (by decide) hc
    obtain ⟨b, hb⟩ := (s.advance dt).commitWrite_uslAck (m := m) c
    have hw := hcom.regWriteBy ha.master (v := 1) (by decide)
    rw [hover, hb, State.uslAckWrite_eq] at hw
    obtain ⟨q, ss, htg⟩ := State.closeTg_eq _
    exact ⟨b, q, ss, congrArg done ((if_pos hc).trans (hw.trans htg))⟩
  case parity =>
    rintro s a dt n h rfl hrun hat himg hn hkey hup hscope
    exact ⟨_, rfl, State.parityFail_latches hrun hat himg hn hkey hup hscope⟩
  case order =>
    rintro s a dt r m rfl hacc hguard hundo hwrote hr hf
    have hat : regAt 0x0004 = some ((regRow .sysState).reg 0) := by rfl
    obtain ⟨b, hb⟩ := State.regWriteBy_keyFault hacc (hguard _ hat) hundo hwrote hr hf
    exact ⟨_, congrArg done hb, rfl, rfl, rfl⟩

end Sys2Proof.Machine
end

section
/-! PROOFS. Requests that are turned away: by the role, by the table of key positions and module states, as one sent again,
or to wait for the one in execution (R175, R176, R432, R433, R437). -/

namespace Sys2Proof.Machine

variable {a : State} {sid req : Nat} {x : Session}

/-! ### The two recorded refusals -/

/-- A role that is too low is answered before the table and the layout are looked at. -/
theorem State.Asks.roleDenied {r : SmpReq} (h : a.Asks r.sid r.req x) {fits : Bool} {min : Role} {anyU : Bool}
    {table : State → Bool} {own : Session → State → Answer} (hrole : a.roleOk min anyU x = false) :
    a.command r fits min anyU table own =
      ((a.taken r.sid r.req r.cmd).record 0x0010 0 0 (leBytes 2 r.cmd ++ leBytes 1 0x40 ++ [])).answer r.sid r.req 0x40 [] := by
  unfold State.command
  exact h.request (by simp [State.checked, hrole, refuseRec])

/-- A module state or key position that the table does not give, where the role suffices (R176). -/
theorem State.Asks.wrongState {r : SmpReq} (h : a.Asks r.sid r.req x) {fits : Bool} {min : Role} {anyU : Bool}
    {table : State → Bool} {own : Session → State → Answer} (hrole : a.roleOk min anyU x = true)
    (htable : table (a.taken r.sid r.req r.cmd) = false) :
    a.command r fits min anyU table own =
      ((a.taken r.sid r.req r.cmd).record 0x000F 0 0 (leBytes 2 r.cmd ++ leBytes 1 a.mode.code ++
        leBytes 1 a.panel.key.code ++ leBytes 1 x.role.code)).answer r.sid r.req 0x30 [] := by
  unfold State.command
  refine h.request ((if_neg ?_).trans (if_pos ?_))
  · simp [hrole]
  · simp [htable]

/-! ### Numbers that the session has passed, and requests that wait (R432) -/

theorem State.serve_idle (hidle : a.smpBusy = false) (hwait : a.waiting = []) (r : SmpReq) : a.serve r = a.runSmp r := by
  simp [State.serve, hidle, hwait]

theorem State.serve_waits (hon : a.smpOn = true) (hbusy : a.smpBusy = true ∨ a.waiting ≠ []) (r : SmpReq) :
    a.serve r = { a.heard r.sid with waiting := a.waiting ++ [r] } := by
  have hwait : (a.smpBusy || !a.waiting.isEmpty) = true := by simpa using hbusy
  simp [State.serve, hon, hwait]

/-- A number that is not above the session's highest executes nothing: its response, where one is ready, goes out again. -/
theorem State.request_again {cmd : Nat} {run : Session → State → Answer} {r : Resp} (hon : a.smpOn = true)
    (hx : a.session sid = some x) (hold : x.fresh req = false)
    (hr : (x.stored.find? fun r => decide (r.req = req)) = some r) (hready : r.ready = true) :
    a.request sid req cmd run = (a.heard sid).emit (.smp sid r.bytes) := by
  simp [State.request, hon, hx, hold, hr, hready]

/-- Settles O7: each refusal is one stage of R175, and a request waits or is answered again before the stages begin. -/
theorem smpRefusals : Obligations.SmpRefusals := by
  refine ⟨?role, ?table, ?again, ?waits, ?served⟩
  case role =>
    rintro s a dt sid req p x rfl h hrole
    refine congrArg done ((h.serve _).trans ?_)
    exact h.roleDenied (r := { sid := sid, req := req, cmd := 0x11, p := p }) hrole
  case table =>
    rintro s a dt sid req p x rfl h hrole hno
    refine congrArg done ((h.serve _).trans ?_)
    change State.forceSet _ _ = _
    refine h.wrongState (r := { sid := sid, req := req, cmd := 0x40, p := p }) (table := fun s => s.inProg && s.isActive)
      hrole ?_
    rcases hno with hkey | hmode
    · exact Bool.and_eq_false_imp.2 fun hin => absurd (of_decide_eq_true hin) hkey
    · exact Bool.and_eq_false_imp.2 fun _ => decide_eq_false hmode
  case again =>
    rintro s a dt sid req p x r rfl hon hidle hwait hx hold hr hready
    refine congrArg done ((State.serve_idle hidle hwait _).trans ?_)
    exact State.request_again hon hx hold hr hready
  case waits =>
    rintro s a dt sid req p rfl hon hbusy
    exact congrArg done (State.serve_waits hon hbusy _)
  case served =>
    intro s r hwait hidle
    simp [State.serveWaiting, State.serveNext, hwait, hidle]

end Sys2Proof.Machine
end

section
/-! PROOFS. The online change: loading, prepared, draining, and its ends (R185 to R187). -/

namespace Sys2Proof.Machine

variable {a s : State} {x : Session}

/-- A request whose command answers later leaves the state that the command leaves. -/
theorem State.Asks.commandLater {r : SmpReq} (h : a.Asks r.sid r.req x) {fits : Bool} {min : Role} {anyU : Bool}
    {table : State → Bool} {own : Session → State → Answer} {s : State} (hrole : a.roleOk min anyU x = true)
    (htable : table (a.taken r.sid r.req r.cmd) = true) (hfits : fits = true) (hlen : r.p.length ≤ 1100)
    (hown : own x (a.taken r.sid r.req r.cmd) = (s, none)) : a.command r fits min anyU table own = s := by
  simp [State.command, State.request, State.checked, h.served, h.session, h.fresh, hrole, htable, hfits, hlen, hown]

/-- `u` follows `s` by the end of its online change: nothing of the change is left but the tick of the last switch, and the
module, its process image and its stores stay (R187). -/
structure OlcEnds (s u : State) : Prop where
  olc : u.olc = { tsTick := s.olc.tsTick }
  mode : u.mode = s.mode
  slots : u.slots = s.slots
  store : u.store = s.store

theorem State.olcAbort_ends (c k : Nat) (h : s.olc.st ≠ .none) : OlcEnds s (s.olcAbort c k) where
  olc := by
    unfold State.olcAbort
    rw [if_neg h]
    extract_lets pend _ s1 s2
    split
    · exact State.answer_olc ..
    · rfl
  mode := (State.olcAbort_keepsPanel c k).mode
  slots := (State.olcAbort_keepsPanel c k).slots
  store := (State.olcAbort_keepsPanel c k).store

/-- The drain limit of a change that drains has passed. -/
theorem State.expire_olcDrain (hst : s.olc.st = .draining) (ht : s.olc.t0 + drainLimit s.img < s.clock) :
    s.expire .olcDrain = s.olcAbort 0x35 8 := by
  have hpast : s.deadline .olcDrain ≠ some s.clock := fun hd => Nat.ne_of_lt ht (Option.some.inj hd)
  exact (State.expire_past hpast).trans (if_pos ⟨hst, Nat.le_of_lt ht⟩)

/-- 600 s have passed since the change was prepared. -/
theorem State.expire_olcIdle (hst : s.olc.st = .prepared) (ht : s.olc.t0 + 240000000000 < s.clock) :
    s.expire .olcIdle = s.olcAbort 0x36 7 := by
  have hpast : s.deadline .olcIdle ≠ some s.clock := fun hd => Nat.ne_of_lt ht (Option.some.inj hd)
  exact (State.expire_past hpast).trans (if_pos ⟨hst, Nat.le_of_lt ht⟩)

/-- Settles O12: the three commands pass the stages of R175, the load completes, and each end is one abort. -/
theorem smpOnlineChange : Obligations.SmpOnlineChange := by
  refine ⟨?prepare, ?switch, ?abort, ?prepared, ?drained, ?idle⟩
  case prepare =>
    rintro s a dt sid req p x rfl h hrole rfl hkey hmode hst href
    refine congrArg done ((h.serve _).trans ?_)
    change State.olcPrepare _ _ = _
    refine h.commandLater (r := { sid := sid, req := req, cmd := 0x30, p := [] }) hrole ?_ (by rfl) (by simp) ?_
    · simp [State.inProg, State.isActive, hkey, hmode, hst]
    · have hfree : ((s.advance dt).taken sid req 0x30).olcRefusal = none := href
      simp only [hfree]
      rfl
  case switch =>
    rintro s a dt sid req p x rfl h hrole rfl hkey hmode hst
    refine congrArg done ((h.serve _).trans ?_)
    change State.olcSwitch _ _ = _
    refine h.command (r := { sid := sid, req := req, cmd := 0x31, p := [] }) hrole ?_ (by rfl) (by simp) (by rfl)
    simp [State.inProg, State.isActive, hkey, hmode, hst]
  case abort =>
    rintro s a dt sid req p x rfl h hrole rfl hmode hst
    have hon : ((s.advance dt).taken sid req 0x32).olc.st ≠ .none := by
      rcases hst with hst | hst <;> exact fun hno => nomatch hst.symm.trans hno
    have hu := State.olcAbort_ends 0x36 1 hon
    refine ⟨_, congrArg done ((h.serve _).trans ?_), hu.olc, hu.mode.trans hmode, hu.slots, hu.store⟩
    change State.olcAbortCmd _ _ = _
    refine h.command (r := { sid := sid, req := req, cmd := 0x32, p := [] }) hrole ?_ (by rfl) (by simp) (by rfl)
    simp [State.olcAbortTable, State.isActive, State.olcOn, hmode, hst]
  case prepared =>
    rintro s a dt rfl hst
    exact congrArg done (if_pos hst)
  case drained =>
    rintro s a dt rfl hst ht
    have hu := State.olcAbort_ends (s := s.advance dt) 0x35 8 (fun hno => nomatch hst.symm.trans hno)
    exact ⟨_, congrArg done (State.expire_olcDrain hst ht), hu.olc, hu.mode, hu.slots, hu.store⟩
  case idle =>
    rintro s a dt rfl hst ht
    have hu := State.olcAbort_ends (s := s.advance dt) 0x36 7 (fun hno => nomatch hst.symm.trans hno)
    exact ⟨_, congrArg done (State.expire_olcIdle hst ht), hu.olc, hu.mode, hu.slots, hu.store⟩

end Sys2Proof.Machine
end

section
/-! PROOFS. The Barn: when a checkpoint takes effect, what a save leaves, what a snapshot holds (R179 to R182). -/

namespace Sys2Proof.Machine

variable {s : State}

/-- A deferral has ended and no save runs. -/
theorem State.checkpointDue_takes {t : Nat} (hreq : s.barn.req = .deferred t) (ht : t ≤ s.clock) (hsave : s.barn.save = none) :
    s.checkpointDue = s.effectCheckpoint := by
  simp [State.checkpointDue, hreq, ht, hsave]

/-- An ACTIVE module's checkpoint waits for its next deliver tick (R180). -/
theorem State.effectCheckpoint_active (h : s.mode = .active) :
    s.effectCheckpoint = { s with barn := { s.barn with req := .await } } := if_pos h

theorem State.checkpointDue_none (h : s.barn.req = .none) : s.checkpointDue = s := by simp [State.checkpointDue, h]

/-- A save that ends with nothing else to do marks its bank (R182). -/
theorem State.saveDone_marks {v : Save} (hsave : s.barn.save = some v) (hnext : s.barn.next = none) (hreq : s.barn.req = .none) :
    s.saveDone = { s with barn := { s.barn with
      banks := modifyAt s.barn.banks v.bank (fun _ => { v.content with ok := true }), save := none } } := by
  simp only [State.saveDone, hsave, hnext]
  exact State.checkpointDue_none hreq

/-- Within 1 s of the latest snapshot a checkpoint is deferred to the end of that second (R181). -/
theorem State.requestCheckpoint_early {t : Nat} (hmay : s.maySave = true) (hreq : s.barn.req = .none)
    (hlast : s.barn.lastSnap = some t) (ht : s.clock < t + 400000000) :
    s.requestCheckpoint = { s with barn := { s.barn with req := .deferred (t + 400000000) } } := by
  have hfrom : s.checkFrom = t + 400000000 := by simp [State.checkFrom, hlast, secTicks]
  simp [State.requestCheckpoint, hmay, hreq, hfrom, ht]

/-- Later than that, and with no save running, it takes effect at once. -/
theorem State.requestCheckpoint_takes {t : Nat} (hmay : s.maySave = true) (hreq : s.barn.req = .none) (hsave : s.barn.save = none)
    (hlast : s.barn.lastSnap = some t) (ht : t + 400000000 ≤ s.clock) : s.requestCheckpoint = s.effectCheckpoint := by
  have hfrom : s.checkFrom = t + 400000000 := by simp [State.checkFrom, hlast, secTicks]
  simp [State.requestCheckpoint, hmay, hreq, hsave, hfrom, Nat.not_lt.2 ht]

/-- Settles O24: the deferral's end, the save's end, a request early and late, and the snapshot's content. -/
theorem barnRuns : Obligations.BarnRuns := by
  refine ⟨?deferred, ?saved, fun s t => State.requestCheckpoint_early, ?late, fun s c => ⟨rfl, rfl, rfl, rfl⟩⟩
  case deferred =>
    rintro s a dt t rfl hreq ht hsave hmode
    exact congrArg done ((State.checkpointDue_takes hreq ht hsave).trans (State.effectCheckpoint_active hmode))
  case saved =>
    rintro s a dt v rfl hsave hnext hreq
    exact congrArg done (State.saveDone_marks hsave hnext hreq)
  case late =>
    intro s t hmay hmode hreq hsave hlast ht
    exact (State.requestCheckpoint_takes hmay hreq hsave hlast ht).trans (State.effectCheckpoint_active hmode)

end Sys2Proof.Machine
end

section
/-! PROOFS. Writes and reads of a slot whatever the form of the process image (R11, R31). -/

namespace Sys2Proof.Machine

theorem lookupD_insertKey_of_ne {α : Type} (d : α) {k j : Nat} (v : α) (xs : List (Nat × α)) (h : j ≠ k) :
    lookupD d j (insertKey k v xs) = lookupD d j xs := by
  induction xs with
  | nil => exact if_neg h
  | cons x r ih =>
    rw [insertKey]
    split
    · exact if_neg h
    · split
      · next hk => simp [lookupD, h, ← hk]
      · simp only [lookupD, ih]

/-- A written slot holds what was written, and no other slot changes: for this the list need not be in canonical form. -/
theorem State.ownSlot_writeSlot_any (s : State) {i : Nat} (hi : i < 65536) (j : Nat) (v : W32) (q : Byte) :
    (s.writeSlot i v q).ownSlot j = if j = i then (v, q) else s.ownSlot j := by
  unfold State.writeSlot State.ownSlot SlotMap.get SlotMap.set
  rw [if_pos hi]
  split
  · next hc => rw [lookupD_eraseKey, hc]
  · split
    · next hj => rw [hj, lookupD_insertKey_same]
    · next hj => exact lookupD_insertKey_of_ne _ _ _ hj

theorem State.ownSlot_writeSlot_same (s : State) {i : Nat} (hi : i < 65536) (v : W32) (q : Byte) :
    (s.writeSlot i v q).ownSlot i = (v, q) := by
  rw [State.ownSlot_writeSlot_any s hi, if_pos rfl]

theorem State.ownSlot_congr {s u : State} (h : u.slots = s.slots) (j : Nat) : u.ownSlot j = s.ownSlot j := by
  unfold State.ownSlot
  rw [h]

/-- `t` differs from `s` in the process image alone. -/
def SlotsOnly (s t : State) : Prop := ∃ m, t = { s with slots := m }

section
variable {s t : State}

theorem SlotsOnly.refl : SlotsOnly s s := ⟨s.slots, rfl⟩

theorem SlotsOnly.writeSlot (h : SlotsOnly s t) (i : Nat) (v : W32) (q : Byte) : SlotsOnly s (t.writeSlot i v q) :=
  State.writeSlot_slotsOnly h i v q

theorem SlotsOnly.foldl {α : Type} {l : List α} {f : State → α → State} (h : SlotsOnly s t)
    (hf : ∀ b x, SlotsOnly s b → SlotsOnly s (f b x)) : SlotsOnly s (l.foldl f t) :=
  List.foldlRecOn l f h fun b hb x _ => hf b x hb

end

end Sys2Proof.Machine
end

section
/-! PROOFS. The active's mirror snapshot and the standby's mirror (R161, R489, R490). -/

namespace Sys2Proof.Machine

variable {s t u : State}

/-! ### Frames of the pair link (R484, R486, R491) -/

/-- `u` differs from `s` in frames sent on the pair link and in their numbers alone. -/
def LinkOnly (s u : State) : Prop :=
  ∃ m n o, u = { s with pair := { s.pair with fseq0 := m, fseq1 := n }, out := o }

theorem LinkOnly.refl : LinkOnly s s := ⟨_, _, _, rfl⟩

theorem LinkOnly.sendLink (h : LinkOnly s t) (lane : Nat) (m : LinkMsg) : LinkOnly s (t.sendLink lane m) := by
  obtain ⟨_, _, _, rfl⟩ := h
  unfold State.sendLink
  split <;> exact ⟨_, _, _, rfl⟩

theorem LinkOnly.sendOnce (h : LinkOnly s t) (m : LinkMsg) : LinkOnly s (t.sendOnce m) := h.sendLink _ m

theorem LinkOnly.foldl {α : Type} {l : List α} {f : State → α → State} (h : LinkOnly s t)
    (hf : ∀ b x, LinkOnly s b → LinkOnly s (f b x)) : LinkOnly s (l.foldl f t) :=
  List.foldlRecOn l f h fun b hb x _ => hf b x hb

/-! ### The snapshot (R161, R489) -/

/-- Every source slot is copied into its destination. -/
def State.mirrorCopy (s : State) : State :=
  s.img.pair.entries.foldl (fun s e =>
    (List.range e.count).foldl (fun s k => let c := s.ownSlot (e.src + k); s.writeSlot (e.dst + k) c.1 c.2) s)
    { s with seq := { s.seq with mirror := false } }

theorem State.mirrorCopy_slotsOnly : SlotsOnly { s with seq := { s.seq with mirror := false } } s.mirrorCopy :=
  SlotsOnly.refl.foldl fun _ _ hb => hb.foldl fun _ _ ht => ht.writeSlot _ _ _

/-- `u` follows `s` by the snapshot of an active without a PAIR fault. -/
structure Mirrored (s u : State) : Prop where
  slots : u.slots = s.mirrorCopy.slots
  mode : u.mode = s.mode
  mirror : u.seq.mirror = false
  mirH : u.pair.mirH = some s.hnow
  mirrors : s.inPair = true → s.participates = true → u.pair.mirrors = (s.pair.mirrors + 1) % 65536

theorem State.mirrorSnapshot_mirrored (hmode : s.mode = .active) (hmirror : s.seq.mirror = true)
    (hfault : s.pair.fault = false) : Mirrored s s.mirrorSnapshot := by
  unfold State.mirrorSnapshot
  rw [if_pos ⟨hmode, hmirror⟩]
  extract_lets _ s0 s1 used s2 s3
  obtain ⟨m, hm⟩ := State.mirrorCopy_slotsOnly (s := s)
  have h1 : s1 = { s0 with slots := m } := hm
  have hslots : s.mirrorCopy.slots = m := congrArg State.slots hm
  rw [if_neg (ne_true_of_eq_false hfault)]
  split
  · obtain ⟨f0, f1, o, h3⟩ : LinkOnly s1 s3 :=
      ((LinkOnly.refl.foldl fun b f hb => hb.sendLink f.1 _).sendOnce _).sendOnce _
    clear_value s3
    rw [h3, h1]
    exact ⟨hslots.symm, rfl, rfl, rfl, fun _ _ => rfl⟩
  · next hno =>
    rw [h1] at hno ⊢
    refine ⟨hslots.symm, rfl, rfl, rfl, fun hin hpart => ?_⟩
    exact absurd (Bool.and_intro hin hpart) hno

theorem State.mirrorCopy_of_no_entries (h : s.img.pair.entries = []) : s.mirrorCopy.slots = s.slots := by
  simp [State.mirrorCopy, h]

theorem State.ownSlot_mirrorCopy {e : MirrorEntry} (h : s.img.pair.entries = [e]) (hcount : e.count = 1)
    (hdst : e.dst < 65536) : s.mirrorCopy.ownSlot e.dst = s.ownSlot e.src := by
  simp only [State.mirrorCopy, h, hcount, List.foldl_cons, List.foldl_nil, List.range_one, Nat.add_zero]
  exact State.ownSlot_writeSlot_same _ hdst _ _

/-! ### A frame on a lane (R486) -/

/-- A lane is up from `now` on. -/
def Pair.laneUp (lane now : Nat) (p : Pair) : Pair :=
  if lane = 0 then { p with lane0 := true, rx0 := now } else { p with lane1 := true, rx1 := now }

theorem State.laneUp_eq (lane : Nat) : s.laneUp lane = { s with pair := s.pair.laneUp lane s.clock } := by
  unfold State.laneUp Pair.laneUp
  split <;> rfl

theorem State.linkIn_pairOnly (lane : Nat) : ∃ p, s.linkIn lane = { s with pair := p } := by
  unfold State.linkIn
  split
  · exact ⟨_, State.laneUp_eq lane⟩
  · exact ⟨_, rfl⟩

section
variable (lane now : Nat) (p : Pair)

@[simp] theorem Pair.laneUp_mirH : (p.laneUp lane now).mirH = p.mirH := by unfold Pair.laneUp; split <;> rfl
@[simp] theorem Pair.laneUp_rx : (p.laneUp lane now).rx = p.rx := by unfold Pair.laneUp; split <;> rfl
@[simp] theorem Pair.laneUp_mlost : (p.laneUp lane now).mlost = p.mlost := by unfold Pair.laneUp; split <;> rfl

/-- The other lane stays down. -/
theorem Pair.laneUp_other_down (h : (if lane = 0 then p.lane1 else p.lane0) = false) :
    (p.laneUp lane now).lane0 = false ∨ (p.laneUp lane now).lane1 = false := by
  unfold Pair.laneUp
  split at h
  · next hl => exact .inr (by rw [if_pos hl]; exact h)
  · next hl => exact .inl (by rw [if_neg hl]; exact h)

end

/-! ### A complete mirror (R490) -/

/-- A frame of the mirror joins those that have come for its H. -/
def State.mirrorHeard (lane : Nat) (m : MirrorMsg) (s : State) : State :=
  { s with pair := { s.pair.laneUp lane s.clock with rx := s.pair.rx ++ [(lane, m)] } }

theorem State.applyMirror_slotsOnly (fs : List (Nat × MirrorMsg)) : SlotsOnly s (s.applyMirror fs) :=
  SlotsOnly.refl.foldl fun _ _ hb => hb.foldl fun _ _ ht => (ht.writeSlot _ _ _).writeSlot _ _ _

/-- `u` follows `s` by a frame that completes the mirror of its H. -/
structure MirrorTaken (lane : Nat) (m : MirrorMsg) (s u : State) : Prop where
  slots : u.slots = ((s.mirrorHeard lane m).applyMirror (s.pair.rx ++ [(lane, m)])).slots
  mirH : u.pair.mirH = some m.h
  mirTick : u.pair.mirTick = s.clock
  rx : u.pair.rx = []
  mlost : u.pair.mlost = s.pair.mlost

theorem State.mirrorIn_taken {lane : Nat} {m : MirrorMsg} (hop : s.power.phase = .operating) (hmode : s.mode = .standby)
    (hin : s.inPair = true) (hnew : s.pair.mirH ≠ some m.h) (hrx : ∀ f ∈ s.pair.rx, f.2.h = m.h)
    (hwhole : (s.mirrorHeard lane m).mirrorWhole (s.pair.rx ++ [(lane, m)]) = true) :
    MirrorTaken lane m s (s.mirrorIn lane m) := by
  have hany : (s.pair.rx.any fun f => decide (f.2.h ≠ m.h)) = false := by simpa using hrx
  have hall : (s.pair.rx.filter fun f => decide (f.2.h = m.h)) = s.pair.rx := by simpa using hrx
  have hgo : ¬ (s.mode ≠ .standby ∨ s.inPair = false ∨ s.pair.mirH = some m.h) := by simp [hmode, hin, hnew]
  obtain ⟨k, hk⟩ := State.applyMirror_slotsOnly (s := s.mirrorHeard lane m) (s.pair.rx ++ [(lane, m)])
  have heq : s.mirrorIn lane m = { s.mirrorHeard lane m with
      slots := k
      pair := { (s.mirrorHeard lane m).pair with
        rx := [], mirH := some m.h, mirTick := s.clock, mirrors := ((s.mirrorHeard lane m).pair.mirrors + 1) % 65536 } } := by
    unfold State.mirrorIn
    rw [State.laneUp_eq, if_neg (by simp [State.operating, hop])]
    simp only [Pair.laneUp_mirH, Pair.laneUp_rx]
    refine (if_neg hgo).trans ?_
    simp only [hany, hall, Bool.false_eq_true, if_false, Pair.laneUp_rx]
    refine (if_pos hwhole).trans ?_
    refine Eq.trans ?_ (congrArg (fun t : State => { t with pair := { t.pair with
      rx := [], mirH := some m.h, mirTick := t.clock, mirrors := (t.pair.mirrors + 1) % 65536 } }) hk)
    rfl
  rw [heq]
  exact ⟨(congrArg State.slots hk).symm, rfl, rfl, rfl, Pair.laneUp_mlost ..⟩

/-- Without entries no mirror slot is in use: the frames of both lanes are the mirror, or one with the other lane down. -/
theorem State.mirrorWhole_of_no_entries {fs : List (Nat × MirrorMsg)} (h : s.img.pair.entries = [])
    (hfs : (fs.any fun f => decide (f.1 = 0)) = true ∧ (fs.any fun f => decide (f.1 = 1)) = true ∨
      (s.pair.lane0 = false ∨ s.pair.lane1 = false) ∧ fs ≠ []) : s.mirrorWhole fs = true := by
  have hused : mirrorUsed s.img.pair = 0 := by simp [mirrorUsed, h]
  have hcov (gs : List (Nat × MirrorMsg)) : covered gs 0 = true := rfl
  unfold State.mirrorWhole
  simp only [hused, hcov]
  rcases hfs with ⟨h0, h1⟩ | ⟨hlane, hne⟩
  · rw [h0, h1]
    rfl
  · obtain ⟨f, r, rfl⟩ := List.exists_cons_of_ne_nil hne
    rcases hlane with hl | hl <;> simp [hl]

end Sys2Proof.Machine
end

section
/-! PROOFS. Shadows, the adoption's pieces, the switch on the standby, and the statement about the mirror (R489 to R492, R504,
R505). -/

namespace Sys2Proof.Machine

-- a membership that `by decide` fills in waits for the declarations before it: they are elaborated in order
set_option Elab.async false

variable {s : State}

/-! ### Mirrors of no entry and of one slot (R489, R490) -/

theorem State.applyMirror_of_no_entries (h : s.img.pair.entries = []) (fs : List (Nat × MirrorMsg)) : s.applyMirror fs = s := by
  simp [State.applyMirror, h]

section
variable {e : MirrorEntry} (hone : s.img.pair.entries = [e]) (hcount : e.count = 1) (hdst : e.dst = 0xE000)
include hone hcount hdst

/-- The first slot of the mirror area is the whole of it: a frame that carries it is enough with the other lane down. -/
theorem State.mirrorWhole_of_one_slot {l h : Nat} {v : W32} {q : Nat} (hlane : s.pair.lane0 = false ∨ s.pair.lane1 = false) :
    s.mirrorWhole [(l, ⟨h, 0, [v], [q]⟩)] = true := by
  have hused : mirrorUsed s.img.pair = 1 := by simp [mirrorUsed, hone, hcount, hdst]
  have hcov : covered [(l, (⟨h, 0, [v], [q]⟩ : MirrorMsg))] 1 = true := rfl
  unfold State.mirrorWhole
  rcases hlane with hl | hl <;> simp [hused, hcov, hl]

/-- Its value and STATE are written to the destination and to the source. -/
theorem State.ownSlot_applyMirror_one (hsrc : e.src < 65536) (l h : Nat) (v : W32) (q : Nat) :
    (s.applyMirror [(l, ⟨h, 0, [v], [q]⟩)]).ownSlot e.dst = (v, mkQ q false false false) ∧
    (s.applyMirror [(l, ⟨h, 0, [v], [q]⟩)]).ownSlot e.src = (v, mkQ q false false false) := by
  have heq : s.applyMirror [(l, ⟨h, 0, [v], [q]⟩)] =
      (s.writeSlot e.dst v (mkQ q false false false)).writeSlot e.src v (mkQ q false false false) := by
    unfold State.applyMirror
    rw [hone, List.foldl_cons, List.foldl_nil, hcount, hdst]
    rfl
  rw [heq]
  refine ⟨?_, State.ownSlot_writeSlot_same _ hsrc _ _⟩
  rw [State.ownSlot_writeSlot_any _ hsrc, State.ownSlot_writeSlot_same _ (by omega), ite_self]

end

/-! ### Shadows (R484, R491) -/

/-- The REG shadow changes the pair's copy of it, the loop contexts and the milestone slots. -/
theorem State.shadowTake_reg (l : List LoopShadow) (m : List MsShadow) (hop : s.power.phase = .operating)
    (hin : s.inPair = true) (hmode : s.mode = .standby ∨ s.mode = .isolated) :
    s.shadowTake (.reg l m) = (({ s with pair := { s.pair with
      gotReg := true, kept := true, shLoop := l, shMs := m } } : State).applyLoop l).applyMs m := by
  simp [State.shadowTake, State.operating, hop, hin, hmode]

theorem State.sendShadows_sends (hmode : s.mode = .active) (hin : s.inPair = true) (hpart : s.participates = true)
    (hfault : s.pair.fault = false) : s.sendShadows =
      (s.sendOnce (.shadow (.reg s.loopShadows s.msShadows))).sendOnce (.shadow (.solver s.slvShadows)) :=
  if_pos ⟨hmode, hin, hpart, hfault⟩

/-! ### Adoption (R505) -/

theorem State.imgReq_of_uncommitted (h : s.committed = false) : s.imgReq = s := by simp [State.imgReq, h]

/-- An image of 4,096 bytes goes out as one piece. -/
theorem State.imgReq_one (hop : s.power.phase = .operating) (hcom : s.committed = true) (hsel : s.store.selected = some false)
    (hlen : s.store.copyA.bytes.length = 4096) :
    s.imgReq = s.sendOnce (.imgData 0 (slice s.store.copyA.bytes 0 4096)) := by
  simp [State.imgReq, State.operating, hop, hcom, hsel, hlen, chunks]

theorem State.imgData_takes {d : List Byte} (hst : s.store.stage.st = .receiving) (hsid : s.store.stage.sid = none)
    (hfit : s.store.stage.data.length + d.length ≤ s.store.stage.len) (hlen : d.length ≤ 4096) :
    s.imgData s.store.stage.data.length d = { s with store := { s.store with
      stage := { s.store.stage with data := s.store.stage.data ++ d, lastData := s.clock } } } :=
  if_pos ⟨hst, hsid, rfl, hfit, hlen⟩

/-! ### The switch of an online change (R190, R504) -/

/-- What the switch of the functions touches. -/
def switchParts : List Part := [.loop, .ms, .fld, .slv]

theorem Touches.msOff {P : List Part} {W : Set Nat} {a : State} (h : Touches P W s a) (hP : .ms ∈ P := by decide)
    (hQ : .fld ∈ P := by decide) {ch : Nat} : Touches P W s (a.msOff ch) := (h.setFld hQ).setMs hP

theorem State.msWithdraw_touches (i : Image) (d : Nat) : Touches switchParts ∅ s (s.msWithdraw i d) := by
  refine Touches.refl.foldl fun b m _ hb => ?_
  have mod {t : State} (ht : Touches switchParts ∅ s t) {f : MsSlotSt → MsSlotSt} :
      Touches switchParts ∅ s (t.modMs m.num f) := ht.setMs
  have ended : Touches switchParts ∅ s (b.msPulseEnd m.num) := by
    unfold State.msPulseEnd
    split
    · exact (mod hb).msOff
    · exact hb
  dsimp only
  split
  · exact .ite hb (mod (.ite (mod ended) (.ite (mod hb) hb)))
  · exact hb

theorem State.switchDom_touches (old : Image) (d : Nat) : Touches switchParts ∅ s (s.switchDom old d) :=
  .ite .refl (s.msWithdraw_touches old d).setMs

theorem State.switchGone_touches (m : MsSlotSt) : Touches switchParts ∅ s (s.switchGone m) := by
  unfold State.switchGone
  split
  · exact Touches.refl.msOff
  · exact .refl

theorem State.switchSlot_touches (old : Image) (l : List MsSlotCfg) {acc : State × List MsSlotSt}
    (h : Touches switchParts ∅ s acc.1) : Touches switchParts ∅ s (l.foldl (State.switchSlot old) acc).1 := by
  induction l generalizing acc with
  | nil => exact h
  | cons c l ih =>
    refine ih ?_
    unfold State.switchSlot
    dsimp only
    split
    · split
      · exact h
      · split
        · exact h
        · split
          · exact h.msOff
          · exact h
    · exact h

theorem State.switchMs_touches (old : Image) : Touches switchParts ∅ s (s.switchMs old) := by
  unfold State.switchMs
  extract_lets s1 s2 s3
  have h1 : Touches switchParts ∅ s s1 := Touches.refl.foldl fun b d _ hb => hb.trans (b.switchDom_touches old d)
  have h2 : Touches switchParts ∅ s s2 := h1.foldl fun b m _ hb => hb.trans (b.switchGone_touches m)
  clear_value s2
  have h3 : Touches switchParts ∅ s s3.1 := State.switchSlot_touches old _ (acc := (s2, [])) h2
  exact h3.setMs

theorem Touches.slvDrop {P : List Part} {W : Set Nat} {a : State} (h : Touches P W s a) (hP : .slv ∈ P := by decide) {p : Nat} :
    Touches P W s (a.slvDrop p) := by
  unfold State.slvDrop
  exact h.setSlv hP

theorem State.switchSlv_touches (old : Image) : Touches switchParts ∅ s (s.switchSlv old) := by
  unfold State.switchSlv
  extract_lets same g s1
  have h1 : Touches switchParts ∅ s s1 := Touches.refl.foldl fun _ _ _ hb => .ite hb hb.slvDrop
  exact h1.setSlv

/-- The functions take over into the new image, one after another (R270, R309, R336). -/
theorem State.switchFuncs_touches (old : Image) :
    Touches switchParts ∅ s (((s.switchLoop old).switchMs old).switchSlv old) :=
  (Touches.refl.setLoop.trans (State.switchMs_touches old)).trans (State.switchSlv_touches old)

/-- `u` follows `s` by a switch to the image `n`, whose commit has begun (R119, R190). -/
structure Switched (n : Image) (s u : State) : Prop where
  image : u.store.image = some n
  commit : u.store.commit = some (true, s.stagingB)
  tsTick : u.olc.tsTick = some s.clock
  ended : u.olc.st = .none
  mode : u.mode = s.mode

theorem State.beginCommit_mode (b : Bool) : (s.beginCommit b).mode = s.mode := by
  unfold State.beginCommit State.setCopy
  dsimp only
  split <;> rfl

theorem State.olcApply_switched (n : Image) : Switched n s (s.olcApply n) := by
  unfold State.olcApply
  extract_lets old s2 _ s3 s4
  have hcommit : (s.beginCommit true).store.commit = some (true, s.stagingB) := rfl
  have h4 : Touches switchParts ∅ s3 s4 := State.switchFuncs_touches old
  have hstore : s4.store = s3.store := h4.store
  have hmode : s4.mode = s3.mode := h4.mode
  clear_value s4
  exact {
    image := congrArg Store.image hstore
    commit := (congrArg Store.commit hstore).trans hcommit
    tsTick := rfl
    ended := rfl
    mode := hmode.trans (State.beginCommit_mode true) }

theorem State.switchNotice_switched {n : Image} (ts : Nat) (hmode : s.mode = .standby) (hst : s.store.stage.st = .verified)
    (himg : s.store.stage.img = some n) (hprev : n.prevDigest = s.img.digest) : Switched n s (s.switchNotice ts) := by
  have h := State.olcApply_switched (s := s) n
  unfold State.switchNotice
  rw [hmode, hst, himg]
  dsimp only
  rw [if_pos hprev]
  exact ⟨h.image, h.commit, h.tsTick, h.ended, h.mode⟩

/-! ### The statement -/

/-- Settles O28: the snapshot copies and sends, a complete mirror is applied, a shadow is taken, and the pieces of an image and
a SWITCH notice meet their own conditions behind the frame's arrival, which changes the pair link alone. -/
theorem mirrorAndShadows : Obligations.MirrorAndShadows := by
  refine ⟨?snapshot, ?copied, ?single, ?applied, ?sends, ?takes, ?lost, ?both, ?uncommitted, ?piece, ?adopts, ?switched⟩
  case snapshot =>
    rintro s a dt rfl hmode hmirror hfault hno hin hpart
    have hu := State.mirrorSnapshot_mirrored hmode hmirror hfault
    exact ⟨_, rfl, hu.mirror, hu.slots.trans (State.mirrorCopy_of_no_entries hno), hu.mirH, hu.mirrors hin hpart,
      hu.mode.trans hmode⟩
  case copied =>
    rintro s a dt e rfl hmode hmirror hfault hone hcount - hdst
    have hu := State.mirrorSnapshot_mirrored hmode hmirror hfault
    exact ⟨_, rfl, (State.ownSlot_congr hu.slots _).trans (State.ownSlot_mirrorCopy hone hcount hdst), hu.mirH⟩
  case single =>
    rintro s a dt l m rfl hop hmode hin hrx hno - hdown hnew
    have hu := State.mirrorIn_taken (lane := l) hop hmode hin hnew (by simp [hrx])
      (State.mirrorWhole_of_no_entries hno (.inr ⟨Pair.laneUp_other_down _ _ _ hdown, by simp⟩))
    refine ⟨_, rfl, hu.mirH, hu.mirTick, hu.rx, hu.slots.trans ?_⟩
    exact (congrArg State.slots (State.applyMirror_of_no_entries (s := (s.advance dt).mirrorHeard l m) hno _)).trans rfl
  case applied =>
    rintro s a dt l h e v q rfl hop hmode hin hrx hone hcount hdst hsrc - hdown hnew
    have hone' : ((s.advance dt).mirrorHeard l ⟨h, 0, [v], [q]⟩).img.pair.entries = [e] := hone
    have hframes : (s.advance dt).pair.rx ++ [(l, ⟨h, 0, [v], [q]⟩)] = [(l, ⟨h, 0, [v], [q]⟩)] := by rw [hrx, List.nil_append]
    have hu := State.mirrorIn_taken (lane := l) (m := ⟨h, 0, [v], [q]⟩) hop hmode hin hnew (by simp [hrx])
      (by rw [hframes]; exact State.mirrorWhole_of_one_slot hone' hcount hdst (Pair.laneUp_other_down _ _ _ hdown))
    have hslots := hu.slots
    rw [hframes] at hslots
    obtain ⟨hd, hs⟩ := State.ownSlot_applyMirror_one hone' hcount hdst hsrc l h v q
    exact ⟨_, rfl, (State.ownSlot_congr hslots _).trans hd, (State.ownSlot_congr hslots _).trans hs, hu.mirH⟩
  case sends =>
    rintro s a dt rfl hmode hin hpart hfault
    exact congrArg done (State.sendShadows_sends hmode hin hpart hfault)
  case takes =>
    rintro s a dt k l m rfl hop hin hmode
    obtain ⟨p, hp⟩ := State.linkIn_pairOnly (s := s.advance dt) k
    have htake := State.shadowTake_reg (s := (s.advance dt).linkIn k) l m (by rw [hp]; exact hop) (by rw [hp]; exact hin)
      (by rw [hp]; exact hmode)
    refine ⟨_, congrArg done htake, rfl, ?_, ?_⟩
    · exact (congrArg State.mode hp :)
    · exact (congrArg State.slots hp :)
  case lost =>
    rintro s a dt k l m rfl hop
    refine congrArg done ?_
    simp [State.shadowIn, State.shadowLost, State.operating, hop]
  case both =>
    rintro s a dt - m m0 rfl hop hmode hin hrx hsame hno hnew
    have hu := State.mirrorIn_taken (lane := 1) (m := m) hop hmode hin hnew (by simp [hrx, hsame])
      (State.mirrorWhole_of_no_entries hno (.inl ⟨by simp [hrx], by simp⟩))
    exact ⟨_, rfl, hu.mirH, hu.rx, hu.mlost⟩
  case uncommitted =>
    rintro s a dt l rfl - hcom
    obtain ⟨p, hp⟩ := State.linkIn_pairOnly (s := s.advance dt) l
    exact congrArg done (State.imgReq_of_uncommitted (by rw [hp]; exact hcom))
  case piece =>
    rintro s a dt l rfl hop hcom hsel hlen
    obtain ⟨p, hp⟩ := State.linkIn_pairOnly (s := s.advance dt) l
    have hstore : ((s.advance dt).linkIn l).store = (s.advance dt).store := (congrArg State.store hp :)
    refine congrArg done ((State.imgReq_one ?_ ?_ ?_ ?_).trans ?_)
    · rw [hp]; exact hop
    · rw [hp]; exact hcom
    · rw [hstore, hsel]
    · rw [hstore, hlen]
    · rw [hstore]
  case adopts =>
    rintro s a dt l d rfl hst hsid hfit hlen
    obtain ⟨p, hp⟩ := State.linkIn_pairOnly (s := s.advance dt) l
    refine congrArg done ?_
    rw [hp]
    exact State.imgData_takes (s := { s.advance dt with pair := p }) hst hsid hfit hlen
  case switched =>
    rintro s a dt l ts n rfl hmode hst himg hprev
    obtain ⟨p, hp⟩ := State.linkIn_pairOnly (s := s.advance dt) l
    have hu := State.switchNotice_switched (s := { s.advance dt with pair := p }) ts hmode hst himg hprev
    rw [← hp] at hu
    have hstore : ((s.advance dt).linkIn l).store = (s.advance dt).store := (congrArg State.store hp :)
    exact ⟨_, rfl, hu.image, hu.commit.trans (by rw [State.stagingB_congr hstore]),
      hu.tsTick.trans (congrArg (fun t : State => some t.clock) hp :), hu.ended, hu.mode.trans ((congrArg State.mode hp :).trans hmode)⟩

end Sys2Proof.Machine
end

section
/-! PROOFS. A frame on a channel that the module does not have: its number, 4, names ETH's remote-I/O exchange (R167, R406). -/

namespace Sys2Proof.Machine

/-- The end of a command leaves the CAN channels as they are. -/
theorem finish_can (s : State) : (finish s).can = s.can := (congrArg State.can (finish_touches s).eq :)

/-- A filter that sends every frame with an 11-bit identifier to FIFO 0. -/
def allFilter : CanFilter := { ide := false, ident := 0, mask := 0, dest := 0 }

/-- A record of channel number 4, without a role of its own. -/
def strayCfg : CanCfg :=
  { ch := 4, role := 0, brs := false, listen := false, tdcEn := false, addr := 0, nbrp := 1, ntseg1 := 1, ntseg2 := 1
    nsjw := 1, dtseg1 := 1, dtseg2 := 1, dsjw := 1, tdco := 0, idBase := 0x100, lead := 0, busoffHold := 0
    statBind := none, stations := [], filters := [allFilter] }

/-- The channel itself, ERROR_ACTIVE with its FIFOs empty. -/
def strayCan : CanSt := { n := 4, st := 2 }

/-- An FD frame with the identifier of a SYNC. -/
def straySync : CanFrame :=
  { ide := false, ident := 0x100, rtr := false, fdf := true, brs := false, esi := false, dlc := 4, data := [0, 0, 0, 3] }

/-- An ACTIVE module that is a STATION on Ethernet, with a fifth CAN channel. -/
def strayState : State :=
  { State.reset with
    mode := .active, pair := { drive := true }, power := { phase := .operating }
    store := { image := some { can := { chans := [strayCfg] }, eth := { role := 2 } } }
    can := [{ n := 0 }, { n := 1 }, { n := 2 }, { n := 3 }, strayCan] }

/-- The exchange consumes the frame as its SYNC, and no FIFO takes it. -/
theorem strayState_receive_fifo0 :
    (findKey (·.n) 4 ((strayState.advance 0).canReceive 4 straySync).can).map (·.fifo0) = some [] := by
  decide +kernel

/-- Refutes O38: the clause on FIFO 0 takes any channel number and looks for a role in the channel's own record; of number 4
the model takes the role from ETH, and as a STATION the module consumes the frame before the filters see it. No commit
makes a fifth channel; the clause does not exclude it. -/
theorem not_canFramesArrive : ¬ Obligations.CanFramesArrive := by
  rintro ⟨hfifo, -⟩
  obtain ⟨u, d, hx, hd, hfull, -⟩ := hfifo strayState _ 0 4 straySync strayCfg strayCan allFilter 0 rfl (by decide +kernel)
    rfl rfl (by decide) (by decide) rfl (.inl rfl) rfl rfl rfl rfl (by decide)
  have hfin : finish ((strayState.advance 0).canReceive 4 straySync) = finish u := Host.Outcome.next.inj hx
  have hcan : u.can = ((strayState.advance 0).canReceive 4 straySync).can := by
    rw [← finish_can u, ← hfin, finish_can]
  have hempty := strayState_receive_fifo0
  rw [← hcan, hd, Option.map_some, hfull] at hempty
  exact absurd (Option.some.inj hempty) (by simp)

end Sys2Proof.Machine
end

section
/-! PROOFS. Stations on Ethernet, each channel with one station and one mapped input: its frame, its loss, the master's SYNC (R168
to R172, R411 to R413, R438 to R440). -/

namespace Sys2Proof.Machine

variable {s : State} {t : StationCfg} {x : StationSt} {m : RioMap}

/-! ### One mapped input (R410) -/

theorem rxSlots_one (hmaps : t.maps = [m]) (htx : m.tx = false) : rxSlots t.maps = [m.ref.slot] := by
  simp [rxSlots, distinct, hmaps, htx]

/-- The mapping's field is put into its slot, which takes the quality given. -/
theorem State.putMaps_one (hmaps : t.maps = [m]) (htx : m.tx = false) (val : RioMap → Nat) (q : Nat → Byte) :
    s.putMaps t.maps val q =
      s.writeSlot m.ref.slot (m.ref.put (s.ownSlot m.ref.slot).1 (val m)) (q m.ref.slot) := by
  unfold State.putMaps
  rw [rxSlots_one hmaps htx]
  simp [hmaps, htx]

/-! ### The one station of Ethernet (R168, R438) -/

theorem State.ethStation (hst : s.eth.stations = [x]) (hx : x.addr = t.addr) : s.station 4 t.addr = some x := by
  simp [State.station, State.stations, findKey, hst, hx]

theorem State.modStation_eth (hst : s.eth.stations = [x]) (hx : x.addr = t.addr) (f : StationSt → StationSt) :
    s.modStation 4 t.addr f = { s with eth := { s.eth with stations := [f x] } } := by
  have hmod : s.modStation 4 t.addr f =
      { s with eth := { s.eth with stations := s.eth.stations.map fun y => if y.addr = t.addr then f y else y } } := rfl
  rw [hmod, hst, List.map_cons, List.map_nil, if_pos hx]

/-- A station whose frame has come: its link is OK, and no miss, loss or substitute stands. -/
def StationSt.heard (x : StationSt) : StationSt :=
  { x with link := 3, missed := 0, undel := 0, stale := none, subst := false, seen := true }

/-- The state that a station's frame leaves, but for the record of its return. -/
def State.stationHeard (ch : Nat) (t : StationCfg) (data qs : Nat) (s : State) : State :=
  (s.putMaps t.maps (mapField data) fun _ => qOfState qs).modStation ch t.addr StationSt.heard

theorem State.rioArrive_eq {ch : Nat} (h : s.station ch t.addr = some x) (data qs : Nat) :
    ∃ l, s.rioArrive ch t data qs = { s.stationHeard ch t data qs with log := l } := by
  unfold State.rioArrive
  rw [h]
  dsimp only
  split
  · split <;> exact ⟨_, rfl⟩
  · exact ⟨_, rfl⟩

/-- Beside the station and its input a loss touches the frames that wait for it and the recorder. -/
theorem State.rioLose_eth_eq (h : s.station 4 t.addr = some x) (hlink : x.link ≠ 1) :
    ∃ c l, s.rioLose 4 t = { (s.modStation 4 t.addr fun y => { y with link := 1 }).rioStale 4 t with can := c, log := l } := by
  unfold State.rioLose
  rw [h]
  dsimp only
  rw [if_neg hlink]
  exact ⟨_, _, rfl⟩

/-- `u` follows `s` by a frame of the one station with the one input `m`. -/
structure Arrived (x : StationSt) (m : RioMap) (data qs : Nat) (s u : State) : Prop where
  eth : u.eth = { s.eth with stations := [x.heard] }
  slot : u.ownSlot m.ref.slot = (m.ref.put (s.ownSlot m.ref.slot).1 (mapField data m), qOfState qs)

section
variable (hst : s.eth.stations = [x]) (hx : x.addr = t.addr) (hmaps : t.maps = [m]) (htx : m.tx = false)
  (hslot : m.ref.slot < 65536)
include hst hx hmaps htx hslot

/-- A station's valid frame writes its input and makes its link OK (R169, R172, R411). -/
theorem State.rioArrive_arrived (data qs : Nat) : Arrived x m data qs s (s.rioArrive 4 t data qs) := by
  obtain ⟨l, hl⟩ := State.rioArrive_eq (State.ethStation hst hx) data qs
  have hheard : s.stationHeard 4 t data qs =
      { s.writeSlot m.ref.slot (m.ref.put (s.ownSlot m.ref.slot).1 (mapField data m)) (qOfState qs) with
        eth := { s.eth with stations := [x.heard] } } := by
    unfold State.stationHeard
    rw [State.putMaps_one hmaps htx, State.modStation_eth (by rw [State.writeSlot_eth, hst]) hx, State.writeSlot_eth]
  rw [hl, hheard]
  exact ⟨rfl, State.ownSlot_writeSlot_same _ hslot _ _⟩

omit hslot in
/-- The input keeps its value and takes STALE, and HOLD counts from here (R171). -/
theorem State.rioStale_one : s.rioStale 4 t =
    { s.writeSlot m.ref.slot (s.ownSlot m.ref.slot).1 (staleQ (s.ownSlot m.ref.slot).2) with
      eth := { s.eth with stations := [{ x with stale := x.stale.or (some s.clock) }] } } := by
  unfold State.rioStale
  rw [rxSlots_one hmaps htx]
  dsimp only [List.foldl_cons, List.foldl_nil]
  rw [State.modStation_eth (by rw [State.writeSlot_eth, hst]) hx, State.writeSlot_eth, State.writeSlot_clock]

/-- `u` follows `s` by the loss of the one station with the one input `m`. -/
structure Lost (x : StationSt) (m : RioMap) (s u : State) : Prop where
  stations : u.eth.stations = [{ x with link := 1, stale := x.stale.or (some s.clock) }]
  slot : u.ownSlot m.ref.slot = ((s.ownSlot m.ref.slot).1, staleQ (s.ownSlot m.ref.slot).2)

/-- A station that is not lost yet is lost (R170, R172). -/
theorem State.rioLose_lost (hlink : x.link ≠ 1) : Lost x m s (s.rioLose 4 t) := by
  have hmark := State.modStation_eth hst hx (fun y => { y with link := 1 })
  have hstale := State.rioStale_one (s := { s with eth := { s.eth with stations := [{ x with link := 1 }] } })
    (x := { x with link := 1 }) rfl hx hmaps htx
  obtain ⟨c, l, hl⟩ := State.rioLose_eth_eq (State.ethStation hst hx) hlink
  rw [hl, hmark, hstale]
  exact ⟨rfl, State.ownSlot_writeSlot_same { s with eth := { s.eth with stations := [{ x with link := 1 }] } } hslot _ _⟩

end

/-! ### Frames that arrive on a port (R422 to R424) -/

section
variable {rx : EthRx} {len : Nat} (f : State → State) (hlive : s.portsLive = true) (hport : s.portOn rx.e2 = true)
include hlive hport

/-- Outside a PRP network a frame that fits is accepted. -/
theorem State.ethIn_plain (hfits : frameFits rx.seq.isSome len = true) (hprp : s.img.eth.prp = false) :
    s.ethIn rx len f = f s := by
  simp [State.ethIn, hlive, hport, hfits, hprp]

/-- A frame whose copy has not come before is accepted, and noted in a PRP network (R423). -/
theorem State.ethIn_accepts (hfits : frameFits rx.seq.isSome len = true)
    (hnew : ∀ k, s.img.eth.prp = true → rx.seq = some k → s.eth.prpSeen.any (PrpSeen.same rx.mac k s.clock) = false) :
    ∃ l, s.ethIn rx len f = f { s with eth := { s.eth with prpSeen := l } } := by
  cases hprp : s.img.eth.prp with
  | false => exact ⟨s.eth.prpSeen, State.ethIn_plain f hlive hport hfits hprp⟩
  | true =>
    unfold State.ethIn
    rw [if_neg (by simp [hlive, hport, hfits]), hprp]
    cases hseq : rx.seq with
    | none => exact ⟨s.eth.prpSeen, rfl⟩
    | some k => exact ⟨_, if_neg (ne_true_of_eq_false (hnew k hprp hseq))⟩

/-- The copy of a frame that has come before is discarded (R423). -/
theorem State.ethIn_discards {k : Nat} (hfits : frameFits true len = true) (hprp : s.img.eth.prp = true) (hseq : rx.seq = some k)
    (hseen : s.eth.prpSeen.any (PrpSeen.same rx.mac k s.clock) = true) :
    ∃ l, s.ethIn rx len f = { s with eth := { s.eth with prpSeen := l } } := by
  simp only [State.ethIn, hlive, hport, hseq, hprp, hseen, Option.isSome_some, hfits]
  exact ⟨_, rfl⟩

end

/-! ### Frames that go out (R423) -/

theorem State.ethSend_plain (hprp : s.img.eth.prp = false) (msg : EthMsg) :
    s.ethSend msg = s.emit (.eth (!s.img.eth.e1En) none msg) := by simp [State.ethSend, hprp]

/-- Datagrams go out one after another. -/
theorem State.rioSend_all (hprp : s.img.eth.prp = false) (cs : List StationCfg) (d : List Byte) :
    cs.foldl (fun s c => s.rioSend c.ip d) s =
      { s with out := s.out ++ cs.map fun c => .eth (!s.img.eth.e1En) none (.udp c.ip 4961 d) } := by
  induction cs generalizing s with
  | nil => rw [List.foldl_nil, List.map_nil, List.append_nil]
  | cons c cs ih =>
    have hone : s.rioSend c.ip d = s.emit (.eth (!s.img.eth.e1En) none (.udp c.ip 4961 d)) := State.ethSend_plain hprp _
    rw [List.foldl_cons, hone, ih (s := s.emit _) hprp, List.map_cons, List.append_cons]
    rfl

end Sys2Proof.Machine
end

section
/-! PROOFS. Links, PRP, own addresses, SYNC and the remote-I/O datagrams, and the statement about them (R167, R171, R172, R422 to
R425, R438 to R440). -/

namespace Sys2Proof.Machine

variable {s : State} {t : StationCfg} {x : StationSt}

/-! ### Links, supervision and own addresses (R422, R423, R425) -/

theorem State.ethLink_takes {e2 : Bool} {v : Nat} (hlive : s.portsLive = true) (hon : s.portOn e2 = true) (hv : v < 3)
    (hrio : s.rioRuns 4 = false) : s.ethLink e2 v =
      if e2 then { s with eth := { s.eth with e2link := decide (v ≠ 0), e2spd := min v (if s.img.eth.speed = 1 then 1 else 2) } }
      else { s with eth := { s.eth with e1link := decide (v ≠ 0), e1spd := min v (if s.img.eth.speed = 1 then 1 else 2) } } := by
  -- a speed that is advertised is taken as one that is not 0
  have hup : decide (min v (if s.img.eth.speed = 1 then 1 else 2) ≠ 0) = decide (v ≠ 0) := by
    refine decide_eq_decide.2 ?_
    split <;> omega
  have hstay (e : Eth) (hf : e.fault = s.eth.fault) : ({ s with eth := e } : State).rioRuns 4 = false := by
    change (s.isActive && !e.fault && decide (rioRole s.img 4 ≠ 0)) = false
    rw [hf]
    exact hrio
  unfold State.ethLink
  rw [if_neg (by simp [hlive])]
  simp only [hon, if_true, Nat.mod_eq_of_lt hv, hup]
  cases e2 <;> simp [hstay]

theorem State.ethSend_prp (hprp : s.img.eth.prp = true) (msg : EthMsg) : s.ethSend msg =
    { s with eth := { s.eth with rctSeq := (s.eth.rctSeq + 1) % 65536 }
             out := s.out ++ [.eth false (some ((s.eth.rctSeq + 1) % 65536)) msg] ++
               [.eth true (some ((s.eth.rctSeq + 1) % 65536)) msg] } := if_pos hprp

/-- A supervision frame that is due goes out on both LANs (R423). -/
theorem State.prpSupervise_sends (hlive : s.portsLive = true) (hprp : s.img.eth.prp = true)
    (hdue : s.eth.supAt = none ∨ ∃ t, s.eth.supAt = some t ∧ t + secTicks 2 ≤ s.clock) : s.prpSupervise = { s with
      eth := { s.eth with
        rctSeq := (s.eth.rctSeq + 1) % 65536, supSeq := (s.eth.supSeq + 1) % 65536, supAt := some s.clock }
      out := s.out ++ [.eth false (some ((s.eth.rctSeq + 1) % 65536)) (.supervision s.eth.supSeq)] ++
        [.eth true (some ((s.eth.rctSeq + 1) % 65536)) (.supervision s.eth.supSeq)] } := by
  have hsend := State.ethSend_prp
    (s := { s with eth := { s.eth with supSeq := (s.eth.supSeq + 1) % 65536, supAt := some s.clock } }) hprp
    (.supervision s.eth.supSeq)
  refine (if_pos ?_).trans hsend
  rcases hdue with h | ⟨t, h, ht⟩
  · simp [hprp, hlive, h]
  · simp [hprp, hlive, h, ht]

/-! ### The exchange at the master (R439) -/

/-- An input datagram of the one station comes to its judgement. -/
theorem State.ethRioInput_judged {ds : List Byte} (hruns : s.rioRuns 4 = true) (hrole : s.img.eth.role = 1)
    (hkind : getN ds 0 1 = 3) (haddr : getN ds 1 1 = t.addr) (hcfg : s.img.eth.stations = [t]) (hst : s.eth.stations = [x])
    (hx : x.addr = t.addr) : s.ethRioInput t.ip ds =
      if (decide (s.eth.syncH ≠ some (getN ds 2 2)) || decide (getN ds 4 2 ≠ t.rxLen ∨ ds.length ≠ 8 + getN ds 4 2) ||
          (!decide (s.eth.syncH ≠ some (getN ds 2 2)) && x.seen)) = true then
        s.ethRioErr (decide (s.eth.syncH ≠ some (getN ds 2 2))) (decide (getN ds 4 2 ≠ t.rxLen ∨ ds.length ≠ 8 + getN ds 4 2))
          (!decide (s.eth.syncH ≠ some (getN ds 2 2)) && x.seen)
      else s.rioArrive 4 t (leNat (ds.drop 8)) (getN ds 6 1) := by
  have hfound : rioCfg s.img 4 (rioParse ds).addr = some t := by
    simp [rioCfg, rioCfgs, findKey, hcfg, rioParse, haddr]
  unfold State.ethRioInput
  dsimp only
  rw [if_neg (by simp [hruns, hrole, rioParse, hkind]), hfound]
  dsimp only
  rw [State.ethStation hst hx]
  exact if_neg (not_not_intro rfl)

/-! ### The exchange at a STATION (R440) -/

theorem State.ethMaster_one (hruns : s.rioRuns 4 = true) (hrole : s.img.eth.role = 2) (hcfg : s.img.eth.stations = [t]) :
    s.ethMaster t.ip = some t := by simp [State.ethMaster, hruns, hrole, hcfg]

/-- The master's output datagram for this station (R440). -/
theorem State.ethRioOutput_arrives {ds : List Byte} (hruns : s.rioRuns 4 = true) (hrole : s.img.eth.role = 2)
    (hkind : getN ds 0 1 = 2) (haddr : getN ds 1 1 = s.img.eth.addr) (hcfg : s.img.eth.stations = [t])
    (hlen : getN ds 4 2 = t.rxLen) (hsize : ds.length = 8 + t.rxLen) :
    s.ethRioOutput t.ip ds = s.rioArrive 4 t (leNat (ds.drop 8)) (getN ds 6 1) := by
  unfold State.ethRioOutput
  rw [State.ethMaster_one hruns hrole hcfg]
  dsimp only
  rw [if_neg (by simp [rioParse, hkind, haddr]), if_neg (by simp [rioParse, hlen, hsize])]
  rfl

/-- A STOP of the one station, or of the master, makes it unreachable (R439, R440). -/
theorem State.ethStop_loses (hruns : s.rioRuns 4 = true) (hcfg : s.img.eth.stations = [t]) :
    s.ethStop t.ip t.addr = s.rioLose 4 t := by simp [State.ethStop, hruns, hcfg]

/-- The state in which a SYNC's answer is made up. -/
def State.synced (h : Nat) (x : StationSt) (s : State) : State :=
  { s with eth := { s.eth with syncH := some h, syncAt := s.clock, stations := [{ x with seen := false }] } }

/-- A SYNC that finds the link to the master standing, and the frame of the last SYNC come, is answered with the mapped
data (R412, R413). -/
theorem State.rioSyncIn_answers {h : Nat} (hcfg : s.img.eth.stations = [t]) (hst : s.eth.stations = [x])
    (hx : x.addr = t.addr) (hlink : x.link ≠ 1) (hseen : s.eth.syncH = none ∨ x.seen = true) :
    s.rioSyncIn 4 h = (some (t, s.txData t.maps), s.synced h x) := by
  have hsync : (s.setSync 4 (some h)).modStation 4 t.addr (fun y => { y with seen := false }) = s.synced h x :=
    State.modStation_eth (s := s.setSync 4 (some h)) hst hx _
  have hmiss : ((s.syncH 4).isSome && !x.seen) = false := by
    rcases hseen with hno | hs
    · have hnone : s.syncH 4 = none := hno
      rw [hnone]
      rfl
    · rw [hs]
      exact Bool.and_false _
  have hcfgs : rioCfgs s.img 4 = [t] := hcfg
  have hfound : (s.synced h x).station 4 t.addr = some { x with seen := false } := State.ethStation rfl hx
  unfold State.rioSyncIn
  rw [hcfgs]
  dsimp only
  rw [State.ethStation hst hx]
  dsimp only
  rw [hmiss, if_neg Bool.false_ne_true, hsync, hfound]
  exact if_neg hlink

/-- The answer goes out on the one port. -/
theorem State.ethRioSync_answers {ds : List Byte} (hruns : s.rioRuns 4 = true) (hrole : s.img.eth.role = 2)
    (hkind : getN ds 0 1 = 0) (hcfg : s.img.eth.stations = [t]) (hst : s.eth.stations = [x]) (hx : x.addr = t.addr)
    (hlink : x.link ≠ 1) (hseen : s.eth.syncH = none ∨ x.seen = true) (hprp : s.img.eth.prp = false) :
    s.ethRioSync t.ip ds = (s.synced (getN ds 2 2) x).emit (.eth (!s.img.eth.e1En) none (.udp t.ip 4961
      (rioDatagram 3 s.img.eth.addr (getN ds 2 2) t.txLen (s.txData t.maps).2 (s.txData t.maps).1))) := by
  have hin : s.rioSyncIn 4 (rioParse ds).hlow = (some (t, s.txData t.maps), s.synced (getN ds 2 2) x) :=
    State.rioSyncIn_answers hcfg hst hx hlink hseen
  unfold State.ethRioSync
  rw [State.ethMaster_one hruns hrole hcfg]
  dsimp only
  rw [if_neg (not_not_intro (show (rioParse ds).kind = 0 from hkind)), hin]
  exact State.ethSend_plain (s := s.synced (getN ds 2 2) x) hprp _

/-! ### The master's SYNC (R167, R411, R439) -/

/-- ETH with its latest SYNC sent, and every station's frame awaited. -/
def Eth.sync (h now : Nat) (e : Eth) : Eth :=
  { e with syncH := some h, syncAt := now, stations := e.stations.map fun y => { y with seen := false } }

theorem State.setSync_await_eth (h : Nat) : (s.setSync 4 (some h)).modStations 4 (fun y => { y with seen := false }) =
    { s with eth := s.eth.sync h s.clock } := rfl

/-- A due SYNC goes to each station, whose frame is awaited from then on. -/
theorem State.ethSync_sends {h : Nat} (hdue : s.syncDue 4 = some h) (hprp : s.img.eth.prp = false) : s.ethSync = { s with
    eth := s.eth.sync (h % 65536) s.clock
    out := s.out ++ s.img.eth.stations.map fun c =>
      .eth (!s.img.eth.e1En) none (.udp c.ip 4961 (rioDatagram 0 0 (h % 65536) 0 3 0)) } := by
  unfold State.ethSync
  rw [hdue]
  dsimp only
  rw [State.setSync_await_eth]
  exact State.rioSend_all (s := { s with eth := s.eth.sync (h % 65536) s.clock }) hprp _ _

/-- Elements whose key the change keeps are found changed. -/
theorem findKey_modifyKey_of_key {α : Type} (key : α → Nat) (k : Nat) (f : α → α) (hf : ∀ y, key (f y) = key y) (l : List α) :
    findKey key k (modifyKey key k f l) = (findKey key k l).map f := by
  unfold findKey modifyKey
  rw [List.find?_map]
  induction l with
  | nil => rfl
  | cons y r ih =>
    by_cases h : key y = k
    · simp [h, hf]
    · simpa [h] using ih

/-- Channel `n` is `c`, in its place and by its number. -/
structure State.ChanAt (n : Nat) (c : CanSt) (s : State) : Prop where
  found : findKey (·.n) n s.can = some c
  place : s.can[n]? = some c

variable {n : Nat} {c : CanSt}

theorem State.ChanAt.can1 (h : s.ChanAt n c) : s.can1 n = c := by
  unfold State.can1
  rw [List.getD_eq_getElem?_getD, h.place, Option.getD_some]

/-- A channel that takes part is no default of an empty place. -/
theorem State.chanAt_of_can1 (hfound : findKey (·.n) n s.can = some c) (hplace : s.can1 n = c) (hst : c.st ∈ [1, 2, 3, 4]) :
    s.ChanAt n c := by
  refine ⟨hfound, ?_⟩
  unfold State.can1 at hplace
  rw [List.getD_eq_getElem?_getD] at hplace
  cases hn : s.can[n]? with
  | some d => rw [hn, Option.getD_some] at hplace; rw [hplace]
  | none =>
    rw [hn, Option.getD_none] at hplace
    rw [← hplace] at hst
    exact absurd hst (by simp)

theorem State.ChanAt.modCan (h : s.ChanAt n c) {f : CanSt → CanSt} (hf : ∀ y, (f y).n = y.n) : (s.modCan n f).ChanAt n (f c) where
  found := by
    unfold State.modCan
    rw [findKey_modifyKey_of_key _ _ _ hf, h.found, Option.map_some]
  place := by
    unfold State.modCan modifyKey
    rw [List.getElem?_map, h.place, Option.map_some, if_pos (mem_of_findKey h.found).2]

@[simp] theorem State.modCan_slots (f : CanSt → CanSt) : (s.modCan n f).slots = s.slots := rfl

theorem State.rioRuns_of_syncDue {ch h : Nat} (hdue : s.syncDue ch = some h) : s.rioRuns ch = true := by
  unfold State.syncDue at hdue
  split at hdue
  · next hc => exact (Bool.and_eq_true_iff.1 hc).1
  · exact absurd hdue nofun

/-- A change of a channel that keeps its fault keeps what its frames need. -/
theorem State.ChanAt.canRuns_modCan (h : s.ChanAt n c) (f : CanSt → CanSt) (hf : ∀ y, (f y).n = y.n)
    (hfault : (f c).fault = c.fault) : (s.modCan n f).canRuns n = s.canRuns n := by
  unfold State.canRuns
  rw [(h.modCan hf).can1, h.can1, hfault]
  rfl

/-- The channel with its latest SYNC sent. -/
def CanSt.sync (h now : Nat) (c : CanSt) : CanSt := { c with syncH := some h, syncAt := now }

/-- The channel with every station's frame awaited. -/
def CanSt.await (c : CanSt) : CanSt := { c with stations := c.stations.map fun y => { y with seen := false } }

/-- The channel with a frame of its own behind the others. -/
def CanSt.enqueue (f : CanFrame) (k : Option Nat) (c : CanSt) : CanSt :=
  { c with queue := c.queue ++ [{ frame := f, station := k }] }

theorem State.canQueue_joins {f : CanFrame} {k : Option Nat} (h : s.ChanAt n c) (hruns : s.canRuns n = true)
    (hactive : s.isActive = true) (hst : c.st ∈ [1, 2, 3, 4]) : s.canQueue n f k = s.modCan n (CanSt.enqueue f k) := by
  unfold State.canQueue
  rw [h.can1]
  exact if_pos (by rw [hruns, hactive, decide_eq_true hst]; rfl)

/-- A due SYNC joins the channel's queue, and the frames of its stations are awaited (R167, R411). -/
theorem State.canSync_queues {g : CanCfg} {h : Nat} (hn : n < 4) (hdue : s.syncDue n = some h) (hcfg : canCfg s.img n = some g)
    (hc : s.ChanAt n c) (hruns : s.canRuns n = true) (hst : c.st ∈ [1, 2, 3, 4]) :
    s.canSync n = ((s.modCan n (CanSt.sync (h % 65536) s.clock)).modCan n CanSt.await).modCan n
      (CanSt.enqueue (rioFrame g 0 0 (h % 65536) 0 3 0) none) := by
  have hc1 : (s.modCan n (CanSt.sync (h % 65536) s.clock)).ChanAt n (c.sync (h % 65536) s.clock) := hc.modCan fun _ => rfl
  have hc2 := hc1.modCan (f := CanSt.await) fun _ => rfl
  have hruns2 := hc1.canRuns_modCan CanSt.await (fun _ => rfl) rfl
  rw [hc.canRuns_modCan (CanSt.sync (h % 65536) s.clock) (fun _ => rfl) rfl, hruns] at hruns2
  have hactive : s.isActive = true :=
    (Bool.and_eq_true_iff.1 (Bool.and_eq_true_iff.1 (State.rioRuns_of_syncDue hdue)).1).1
  unfold State.canSync State.setSync State.modStations
  rw [hcfg, hdue]
  dsimp only
  rw [if_pos hn, if_pos hn]
  exact State.canQueue_joins hc2 hruns2 hactive hst

/-! ### The statement -/

/-- Settles O40: a frame that is accepted comes to its operation on the state that has noted it, and the operation leaves the
station, its input and the frames sent as each clause says. -/
theorem ethernetRuns : Obligations.EthernetRuns := by
  refine ⟨?link, ?supervision, ?arp, ?icmp, ?ethSync, ?canSync, ?input, ?late, ?sync, ?output, ?stop, ?copy⟩
  case link =>
    rintro s a dt e2 v rfl hlive hon hv hrio
    exact congrArg done (State.ethLink_takes hlive hon hv hrio)
  case supervision =>
    rintro s a dt k rfl hlive hprp hdue rfl
    exact congrArg done (State.prpSupervise_sends hlive hprp hdue)
  case arp =>
    rintro s a dt rx ip rfl hlive hport hfits - - hprp hown
    refine congrArg done ((State.ethIn_plain _ hlive hport hfits hprp).trans ?_)
    exact (if_pos hown).trans (State.ethSend_plain hprp _)
  case icmp =>
    rintro s a dt rx ip rfl hlive hport hfits - - hprp hown
    refine congrArg done ((State.ethIn_plain _ hlive hport hfits hprp).trans ?_)
    exact (if_pos hown).trans (State.ethSend_plain hprp _)
  case ethSync =>
    rintro s a dt h rfl hdue hprp
    refine ⟨_, congrArg done (State.ethSync_sends hdue hprp), rfl, rfl, rfl, ?_, rfl⟩
    intro x hx
    obtain ⟨y, -, rfl⟩ := List.mem_map.1 hx
    rfl
  case canSync =>
    rintro s a dt h n g c rfl hn hdue hcfg hplace hfound hruns hst
    have hc := State.chanAt_of_can1 hfound hplace hst
    have hsync := (hc.modCan (f := CanSt.sync (h % 65536) (s.advance dt).clock) fun _ => rfl).modCan (f := CanSt.await) fun _ => rfl
    have hqueue := hsync.modCan (f := CanSt.enqueue (rioFrame g 0 0 (h % 65536) 0 3 0) none) fun _ => rfl
    refine ⟨_, _, congrArg done ((if_pos hn).trans (State.canSync_queues hn hdue hcfg hc hruns hst)), hqueue.found, rfl, rfl, ?_⟩
    simp only [State.modCan_slots]
  case input =>
    rintro s a dt rx ds t x m rfl hlive hport hfits hnew hruns hrole hkind haddr hcfg hst hx hseen hsync hlen hsize hmaps htx hslot
    obtain ⟨l, hl⟩ := State.ethIn_accepts (State.ethRioInput t.ip ds) hlive hport hfits hnew
    have hjudged := State.ethRioInput_judged (s := { s.advance dt with eth := { (s.advance dt).eth with prpSeen := l } })
      hruns hrole hkind haddr hcfg hst hx
    have hu := State.rioArrive_arrived (s := { s.advance dt with eth := { (s.advance dt).eth with prpSeen := l } })
      hst hx hmaps htx hslot (leNat (ds.drop 8)) (getN ds 6 1)
    rw [if_neg (by simp [hsync, hlen, hsize, hseen])] at hjudged
    refine ⟨_, x.heard, congrArg done (hl.trans hjudged), ?_, rfl, rfl, rfl, rfl, rfl, rfl, rfl, ?_, hu.slot⟩
    · rw [hu.eth]
    · rw [hu.eth]
  case late =>
    rintro s a dt rx ds t x rfl hlive hport hfits hnew hruns hrole hkind haddr hcfg hst hx hlate
    obtain ⟨l, hl⟩ := State.ethIn_accepts (State.ethRioInput t.ip ds) hlive hport hfits hnew
    have hjudged := State.ethRioInput_judged (s := { s.advance dt with eth := { (s.advance dt).eth with prpSeen := l } })
      hruns hrole hkind haddr hcfg hst hx
    rw [if_pos (by simp [hlate]), decide_eq_true (p := _ ≠ _) hlate] at hjudged
    exact ⟨_, congrArg done (hl.trans hjudged), rfl, Bool.or_true _, rfl, rfl⟩
  case sync =>
    rintro s a dt rx ds t x rfl hlive hport hfits - hruns hrole hkind hcfg hst hx hlink hseen hprp
    have hanswer := State.ethRioSync_answers (ds := ds) hruns hrole hkind hcfg hst hx hlink hseen hprp
    exact ⟨_, congrArg done ((State.ethIn_plain _ hlive hport hfits hprp).trans hanswer), rfl, rfl, rfl, rfl⟩
  case output =>
    rintro s a dt rx ds t x m rfl hlive hport hfits hnew hruns hrole hkind haddr hcfg hst hx hlen hsize hmaps htx hslot
    obtain ⟨l, hl⟩ := State.ethIn_accepts (State.ethRioOutput t.ip ds) hlive hport hfits hnew
    have hu := State.rioArrive_arrived (s := { s.advance dt with eth := { (s.advance dt).eth with prpSeen := l } })
      hst hx hmaps htx hslot (leNat (ds.drop 8)) (getN ds 6 1)
    have harr := State.ethRioOutput_arrives (s := { s.advance dt with eth := { (s.advance dt).eth with prpSeen := l } })
      hruns hrole hkind haddr hcfg hlen hsize
    refine ⟨_, x.heard, congrArg done (hl.trans harr), ?_, rfl, rfl, rfl, rfl, rfl, rfl, rfl, hu.slot⟩
    rw [hu.eth]
  case stop =>
    rintro s a dt rx t x m rfl hlive hport hfits hnew hruns hcfg hst hx hlink hmaps htx hslot
    obtain ⟨l, hl⟩ := State.ethIn_accepts (State.ethStop t.ip t.addr) hlive hport hfits hnew
    have hu := State.rioLose_lost (s := { s.advance dt with eth := { (s.advance dt).eth with prpSeen := l } })
      hst hx hmaps htx hslot hlink
    have hlost := State.ethStop_loses (s := { s.advance dt with eth := { (s.advance dt).eth with prpSeen := l } }) hruns hcfg
    exact ⟨_, _, congrArg done (hl.trans hlost), hu.stations, rfl, hu.slot⟩
  case copy =>
    rintro s a dt rx ip ds k rfl hlive hport hfits hprp hseq hseen
    obtain ⟨l, hl⟩ := State.ethIn_discards (State.ethRioInput ip ds) hlive hport hfits hprp hseq hseen
    exact ⟨_, congrArg done hl, rfl, rfl, rfl⟩

end Sys2Proof.Machine
end

section
/-! PROOFS. What the scheduler's operations do to the position domains and the milestone slots (R240 to R254, R268). -/

namespace Sys2Proof.Machine

-- a membership that `by decide` fills in waits for the declarations before it: they are elaborated in order
set_option Elab.async false

variable {s t : State} {d k n : Nat}

/-! ### Domains -/

theorem State.dom_modDom (s : State) (d k : Nat) (f : DomSt → DomSt) :
    (s.modDom d f).dom k = if d = k ∧ k < s.ms.doms.length then f (s.dom k) else s.dom k := by
  simp only [State.dom, State.modDom, modifyAt, List.getD_eq_getElem?_getD, List.getElem?_modify]
  by_cases hk : k < s.ms.doms.length
  · by_cases hd : d = k <;> simp [hd, hk]
  · simp [hk]

theorem State.dom_modDom_self (h : d < s.ms.doms.length) (f : DomSt → DomSt) : (s.modDom d f).dom d = f (s.dom d) := by
  rw [State.dom_modDom, if_pos ⟨rfl, h⟩]

theorem State.dom_modDom_of_ne (h : d ≠ k) (f : DomSt → DomSt) : (s.modDom d f).dom k = s.dom k := by
  rw [State.dom_modDom, if_neg fun hk => h hk.1]

@[simp] theorem State.length_modDom (f : DomSt → DomSt) : (s.modDom d f).ms.doms.length = s.ms.doms.length :=
  List.length_modify ..

theorem State.dom_of_doms (h : t.ms.doms = s.ms.doms) : t.dom k = s.dom k := by
  unfold State.dom; rw [h]

/-- An update point writes slots and forgets the statuses last written, nothing else (R268). -/
theorem State.msUpdated_eq (s : State) (d : Nat) :
    ∃ m l, s.msUpdated d = { s with slots := m, ms := { s.ms with slots := l } } := by
  obtain ⟨m, hm⟩ := State.msDomWrite_slotsOnly s d
  unfold State.msUpdated
  rw [hm]
  exact ⟨m, _, rfl⟩

@[simp] theorem State.msUpdated_dom : (s.msUpdated d).dom k = s.dom k := by
  obtain ⟨m, l, hu⟩ := State.msUpdated_eq s d
  rw [hu]
  rfl

@[simp] theorem State.msUpdated_mode : (s.msUpdated d).mode = s.mode := by
  obtain ⟨m, l, hu⟩ := State.msUpdated_eq s d
  rw [hu]

theorem State.msPulseEnd_doms : (s.msPulseEnd n).ms.doms = s.ms.doms := by
  unfold State.msPulseEnd
  split <;> rfl

/-- Withdrawn milestones leave the domains as they stand. -/
@[simp] theorem State.msWithdraw_dom (i : Image) : (s.msWithdraw i d).dom k = s.dom k := by
  refine State.dom_of_doms ?_
  refine List.foldlRecOn (motive := fun (b : State) => b.ms.doms = s.ms.doms) _ _ rfl fun b hb m _ => ?_
  dsimp only
  split
  · split
    · exact hb
    · refine Eq.trans ?_ hb
      split
      · exact State.msPulseEnd_doms
      · split <;> rfl
  · exact hb

/-- A domain as it enters LOST (R245). -/
def DomSt.lose (cause : Nat) (cy : Int) (x : DomSt) : DomSt :=
  { x.restart 5 cy with lostL := true, cause := cause, lostCount := satInc 65535 x.lostCount, marker := none }

theorem State.domLost_dom (h : d < s.ms.doms.length) (c : Nat) : (s.domLost d c).dom d = (s.dom d).lose c (s.cycleNow d) := by
  have hlost : (s.domLost d c).dom d =
      (((s.latchSet (0x2108 + 0x20 * d) 16).modDom d (DomSt.lose c (s.cycleNow d))).msWithdraw s.img d).dom d := rfl
  rw [hlost, State.msWithdraw_dom]
  exact State.dom_modDom_self (s := s.latchSet (0x2108 + 0x20 * d) 16) h _

/-- A domain that stops withdraws its milestones, and records nothing (R245, R247). -/
theorem State.domStopped_touches : Touches switchParts ∅ s (s.domStopped d) :=
  Touches.refl.setMs.trans (State.msWithdraw_touches _ d)

theorem State.domStopped_st (h : d < s.ms.doms.length) : ((s.domStopped d).dom d).st = 1 := by
  unfold State.domStopped
  extract_lets cy quad lv s1
  have h1 : (s1.dom d).st = 1 := congrArg DomSt.st (State.dom_modDom_self h _)
  rw [State.msWithdraw_dom, h1]

/-! ### Milestone slots -/

/-- A look-up by a key that the change of the elements keeps finds the changed element. -/
theorem findKey_map_of_key {α : Type} (key : α → Nat) (k : Nat) (f : α → α) (hf : ∀ y, key (f y) = key y) (l : List α) :
    findKey key k (l.map f) = (findKey key k l).map f := by
  unfold findKey
  rw [List.find?_map]
  simp only [Function.comp_def, hf]

theorem State.msSlot_modMs (f : MsSlotSt → MsSlotSt) (hf : ∀ y, (f y).num = y.num) :
    (s.modMs n f).msSlot n = (s.msSlot n).map f := findKey_modifyKey_of_key _ _ _ hf _

theorem State.msSlot_of_ms (h : t.ms = s.ms) : t.msSlot n = s.msSlot n := by
  unfold State.msSlot; rw [h]

/-- Every digital channel of that number asks for the level. -/
theorem State.dioMs_level (ch : Nat) (v : Bool) : ∀ x ∈ (s.dioMs ch v).fld.dio, x.n = ch → x.ms = v := by
  intro x hx hn
  obtain ⟨y, -, rfl⟩ := List.mem_map.1 hx
  by_cases hy : y.n = ch
  · rw [if_pos hy]
  · rw [if_neg hy] at hn
    exact absurd hn hy

/-- An output that is set off takes the pulses away that start on it in this tick, and no other (R253). -/
theorem State.msSlot_msOff (ch : Nat) {m : MsSlotSt} (hm : s.msSlot n = some m) (hp : m.pulse = none) :
    (s.msOff ch).msSlot n = some m := by
  have hfound : (s.msOff ch).msSlot n = (s.msSlot n).map _ := findKey_map_of_key _ _ _ ?key _
  · rw [hfound, hm, Option.map_some, hp]
  case key =>
    intro y
    split
    · split <;> rfl
    · rfl

theorem State.msEndWait_msSlot {m : MsSlotSt} (hm : s.msSlot n = some m) :
    (s.msEndWait n).msSlot n = some { m with wait := none } := by
  have hwait : (s.modMs n fun x => { x with wait := none }).msSlot n = some { m with wait := none } := by
    rw [State.msSlot_modMs (fun x => { x with wait := none }) fun _ => rfl, hm, Option.map_some]
  unfold State.msEndWait
  extract_lets s1
  split
  · exact hwait
  · exact hwait

theorem State.msEndWait_touches : Touches [.ms] ∅ s (s.msEndWait n) := .ite Touches.refl.setMs Touches.refl.setMs.setMs

end Sys2Proof.Machine
end

section
/-! PROOFS. A fault of the milestone scheduler leaves every domain OFF, whatever it stops beside (R269, R516 to R518). -/

namespace Sys2Proof.Machine

-- a membership that `by decide` fills in waits for the declarations before it: they are elaborated in order
set_option Elab.async false

/-- `u` has the scheduler's CAUSE of `s`, and every domain that is OFF in `s` is OFF in it. -/
structure MsStays (s u : State) : Prop where
  cause : u.ms.cause = s.ms.cause
  off : ∀ d, (s.dom d).st = 0 → (u.dom d).st = 0

/-- Every domain is OFF. -/
def State.AllOff (s : State) : Prop := ∀ d, d < 8 → (s.dom d).st = 0

section
variable {s a u : State}

namespace MsStays

theorem refl : MsStays s s := ⟨rfl, fun _ => id⟩

theorem trans (h : MsStays s a) (k : MsStays a u) : MsStays s u :=
  ⟨k.cause.trans h.cause, fun d hd => k.off d (h.off d hd)⟩

theorem allOff (h : MsStays s u) (hs : s.AllOff) : u.AllOff := fun d hd => h.off d (hs d hd)

theorem ite {c : Prop} [Decidable c] {b : State} (ha : MsStays s a) (hb : MsStays s b) : MsStays s (if c then a else b) := by
  split <;> assumption

theorem foldl {α : Type} {l : List α} {f : State → α → State} (h : MsStays s a)
    (hf : ∀ b, ∀ x ∈ l, MsStays s b → MsStays s (f b x)) : MsStays s (l.foldl f a) :=
  List.foldlRecOn l f h fun b hb x hx => hf b x hx hb

section
variable (h : MsStays s a)
include h

/-- What leaves the scheduler alone keeps it. -/
theorem step (hm : u.ms = a.ms := by rfl) : MsStays s u :=
  h.trans ⟨by rw [hm], fun d hd => by rw [State.dom_of_doms (congrArg Ms.doms hm)]; exact hd⟩

/-- The frame of an operation that does not touch the scheduler is such a frame. -/
theorem touch {P : List Part} {W : Set Nat} (k : Touches P W a u) (hP : .ms ∉ P := by decide) : MsStays s u := by
  have hk := congrArg State.ms k.eq
  exact h.step (hk.trans (pick_of_not_mem hP _ _))

theorem writeSlot {i : Nat} {v : W32} {q : Byte} : MsStays s (a.writeSlot i v q) := h.step (State.writeSlot_ms a i v q)

theorem putMaps {l : List RioMap} {v : RioMap → Nat} {q : Nat → Byte} : MsStays s (a.putMaps l v q) :=
  h.foldl fun _ _ _ hb => hb.writeSlot

theorem r38 {f : Nat} {x : Option Nat} {l : List Nat} : MsStays s (a.r38 f x l) :=
  h.foldl fun _ _ _ hb => .ite hb hb.writeSlot

theorem answer {sid req code : Nat} {p : List Byte} : MsStays s (a.answer sid req code p) :=
  h.step (State.answer_ms a sid req code p)

theorem sendBoth {x : LinkMsg} : MsStays s (a.sendBoth x) :=
  h.step ((State.sendLink_ms (a.sendLink 0 x) 1 x).trans (State.sendLink_ms a 0 x))

/-- A domain that goes OFF keeps OFF those that are. -/
theorem modDom (d : Nat) {f : DomSt → DomSt} (hf : ∀ y, (f y).st = 0) : MsStays s (a.modDom d f) := by
  refine h.trans ⟨rfl, fun k hk => ?_⟩
  rw [State.dom_modDom]
  split
  · exact hf _
  · exact hk

/-- Milestone outputs that go off leave the domains. -/
theorem msOutputsOff : MsStays s a.msOutputsOff := h.trans ⟨rfl, fun _ => id⟩

/-- The FAULT bit is neither CAUSE nor a domain's. -/
theorem setFault {b : Bool} : MsStays s { a with ms := { a.ms with fault := b } } := h.trans ⟨rfl, fun _ => id⟩

/-! ### Functions that stop (R38) -/

theorem rioFail (ch : Nat) : MsStays s (a.rioFail ch) := by
  have hsub := rioParts_subset ch
  have hun : MsStays s (a.rioUnreachable ch) :=
    h.touch (State.rioUnreachable_touches ch) fun hm => absurd (hsub hm) (by decide)
  refine hun.foldl fun b c _ hb => ?_
  split
  · exact hb.writeSlot
  · exact hb

theorem hartStop (ao : Bool) (x : Option Nat) : MsStays s (a.hartStop ao x) := by
  unfold State.hartStop
  exact foldl h.step fun _ _ _ hb => answer hb.step

theorem brakeDemand (k : Nat) : MsStays s (a.brakeDemand k) := ite h.step h

theorem testAbort (k : Nat) : MsStays s (a.testAbort k) := ite h.step h

theorem leaveSo : MsStays s a.leaveSo := by
  have hf : MsStays s ((List.range 4).foldl (fun s k => (s.brakeDemand k).testAbort k) a) :=
    h.foldl fun _ k _ hb => (hb.brakeDemand k).testAbort k
  unfold State.leaveSo
  extract_lets s1
  have h1 : MsStays s s1 := hf
  clear_value s1
  exact h1.step

theorem stopMs : MsStays s a.stopMs := by
  unfold State.stopMs
  extract_lets s1 s2
  have h2 : MsStays s s2 := h.msOutputsOff.foldl fun _ d _ hb => hb.modDom d fun _ => rfl
  clear_value s2
  exact h2.setFault.r38

theorem stopCan : MsStays s (a.stopCan none) := by
  refine r38 (h.foldl fun b g _ hb => ?_)
  exact step (.ite (hb.rioFail g.ch) hb)

theorem stopAi : MsStays s (a.stopAi none) := by
  unfold State.stopAi
  extract_lets cs _ s1 _ s2 s3
  have h2 : MsStays s s2 := h.step
  have h3 : MsStays s s3 := (h2.hartStop false none).r38
  exact h3.foldl fun _ c _ hb =>
    hb.touch (State.aiStatus_touches c.ch (W := Set.univ) fun _ _ => Set.subset_univ _)

theorem stopAo : MsStays s (a.stopAo none) := by
  unfold State.stopAo
  extract_lets cs _ s1 s3
  have h1 : MsStays s s1 := h.step
  have h3 : MsStays s s3 := (h1.hartStop true none).r38
  refine h3.foldl fun b c _ hb => ?_
  unfold State.aoStatus
  split
  · exact hb.touch ((Touches.refl (P := [.slots]) (W := Set.univ)).writeOpt fun _ _ _ _ => Set.mem_univ _)
  · exact hb

theorem stopDio : MsStays s (a.stopDio none) := by
  unfold State.stopDio
  extract_lets cs _ s1 s2
  have h1 : MsStays s s1 := h.step
  have h2 : MsStays s s2 := h1.r38
  refine h2.foldl fun b c _ hb => ?_
  split
  · exact hb.writeSlot
  · exact hb

theorem stopSo : MsStays s a.stopSo := by
  unfold State.stopSo
  extract_lets s1 s2
  have h1 : MsStays s s1 := h.leaveSo
  clear_value s1
  exact r38 h1.step

theorem stopEth : MsStays s a.stopEth := by
  unfold State.stopEth
  extract_lets s1 s2
  have h1 : MsStays s s1 := .ite (h.rioFail 4).step (h.rioFail 4)
  clear_value s1
  exact r38 h1.step

theorem uslPassivate (c : UslCfg) (k : Nat) : MsStays s (a.uslPassivate c k) := by
  unfold State.uslPassivate
  extract_lets s1
  have h1 : MsStays s s1 := h.step
  have h2 : MsStays s (s1.uslFailSafe c) := h1.putMaps
  exact h2.step

theorem stopUsl : MsStays s a.stopUsl := by
  unfold State.stopUsl
  extract_lets _ s1 s2 _ s3
  have h1 : MsStays s s1 := h.step
  have h2 : MsStays s s2 := by
    refine h1.foldl fun b c _ hb => ?_
    split
    · exact ite hb.putMaps (hb.uslPassivate c 4)
    · exact hb
  clear_value s2
  exact r38 h2.step

/-- No function's stop takes a domain out of OFF. -/
theorem stopFunc (f : Nat) : MsStays s (a.stopFunc f none) := by
  unfold State.stopFunc
  split
  · exact r38 h.step
  · exact h.step
  · exact r38 h.step
  · exact r38 h.step
  · exact h.stopMs
  · exact r38 h.step
  · exact r38 h.step
  · exact h.stopCan
  · exact h.stopAi
  · exact h.stopAo
  · exact h.stopDio
  · exact h.stopSo
  · exact h.stopEth
  · exact h.stopUsl
  · exact h

theorem stopEach (l : List Nat) : MsStays s (l.foldl State.stopEach a) :=
  h.foldl fun _ f _ hb => .ite hb (hb.stopFunc f)

theorem withFaults (b : State) : MsStays s (b.withFaults a) := h.trans ⟨rfl, fun _ => id⟩

/-! ### ACTIVE that is left, and module faults (R177, R178, R480, R518) -/

theorem olcAbort (c k : Nat) : MsStays s (a.olcAbort c k) := by
  unfold State.olcAbort
  split
  · exact h
  · extract_lets pend _ s1 s2
    have h2 : MsStays s s2 := h.step
    exact .ite h2.answer h2

theorem leaveMs : MsStays s a.leaveMs := by
  obtain ⟨m, hm⟩ := State.msDomWrite_slotsOnly ((a.msOutputsOff).modDom 7 fun x => { x with st := 0, cycles := a.cycleNow 7 }) 7
  have hoff : MsStays s ((a.msOutputsOff).modDom 7 fun x => { x with st := 0, cycles := a.cycleNow 7 }) :=
    h.msOutputsOff.modDom 7 fun _ => rfl
  exact hoff.step (congrArg State.ms hm :)

theorem leaveEth (planned : Bool) : MsStays s (a.leaveEth planned) :=
  .ite h.step (foldl h.step fun _ _ _ hb => .ite hb.step hb.step)

theorem leaveLoop : MsStays s a.leaveLoop := h.step

theorem leaveSlv : MsStays s a.leaveSlv := h.step

theorem leaveCan : MsStays s a.leaveCan := h.step

theorem leaveFld : MsStays s a.leaveFld := h.step

theorem leaveUsl : MsStays s a.leaveUsl := h.step

theorem leaveFuncs (planned : Bool) : MsStays s (a.leaveFuncs planned) := by
  have hseq : MsStays s a.leaveSeq := h.step
  exact (hseq.leaveMs.leaveLoop.leaveSlv.leaveCan.leaveFld.leaveSo.leaveEth planned).leaveUsl

theorem leaveActive (m : ModState) (planned : Bool) : MsStays s (a.leaveActive m planned) := by
  have hk : MsStays s (a.olcAbort 0x36 3).keepShadows := (h.olcAbort 0x36 3).step
  have hb : MsStays s ((a.olcAbort 0x36 3).keepShadows.leaveBarn m) := .ite hk (.ite hk.step hk.step)
  unfold State.leaveActive
  split
  · exact h.step
  · exact (hb.leaveFuncs planned).step

theorem swapFault (f : Nat) : MsStays s (a.swapFault f) := by
  unfold State.swapFault
  split
  · exact leaveActive (sendBoth h.step) .standby false
  · exact h

theorem enterSafe (f : Nat) : MsStays s (a.enterSafe f) := by
  unfold State.enterSafe
  extract_lets was s1 _ _ s2 s3 s4
  have h2 : MsStays s s2 := (h.leaveActive .safe false).step
  have h3 : MsStays s s3 := h2.foldl fun _ _ _ hb => hb.step
  have h4 : MsStays s s4 := h3.step
  exact .ite h4.sendBoth h4

end

end MsStays

/-! ### The scheduler's own stop (R269) -/

/-- A fold that turns each domain it names OFF, and none on, leaves those domains OFF. -/
theorem State.foldl_off {f : State → Nat → State} (hf : ∀ b k, MsStays b (f b k)) (hoff : ∀ b k, ((f b k).dom k).st = 0)
    {d : Nat} {l : List Nat} (hd : d ∈ l) : ((l.foldl f s).dom d).st = 0 := by
  induction l generalizing s with
  | nil => exact absurd hd List.not_mem_nil
  | cons k l ih =>
    have hrest : MsStays (f s k) (l.foldl f (f s k)) := MsStays.refl.foldl fun b x _ hb => hb.trans (hf b x)
    rcases List.mem_cons.1 hd with rfl | hd
    · exact hrest.off _ (hoff s _)
    · exact ih hd

theorem State.stopMs_allOff : s.stopMs.AllOff := by
  intro d hd
  unfold State.stopMs
  extract_lets s1 s2
  have h2 : (s2.dom d).st = 0 := by
    refine State.foldl_off (fun b k => MsStays.refl.modDom k fun _ => rfl) (fun b k => ?_) (List.mem_range.2 hd)
    rw [State.dom_modDom]
    split
    · rfl
    · next hk => rw [State.dom, List.getD_eq_default _ _ (Nat.le_of_not_lt fun hlt => hk ⟨rfl, hlt⟩)]
  clear_value s2
  have hs : MsStays { s2 with ms := { s2.ms with fault := true } }
      (State.r38 6 none [] { s2 with ms := { s2.ms with fault := true } }) := MsStays.refl.r38
  exact hs.off d h2

/-- MS is among the functions that stop. -/
theorem State.stopAll_allOff : s.stopAll.AllOff := by
  have hlist : List.range 16 = List.range 6 ++ 6 :: List.range' 7 9 := by decide
  have hms : (State.stopEach ((List.range 6).foldl State.stopEach s) 6).AllOff := State.stopMs_allOff
  rw [State.stopAll_eq, hlist, List.foldl_append, List.foldl_cons]
  exact ((MsStays.refl.stopEach (List.range' 7 9)).withFaults s).allOff hms

/-- A module fault stops the scheduler, and its CAUSE stays (R518). -/
theorem State.moduleFault_msOff (c f : Nat) (canRec : Bool) :
    (s.moduleFault c f canRec).ms.cause = s.ms.cause ∧ (s.moduleFault c f canRec).AllOff := by
  unfold State.moduleFault
  extract_lets s0 s1 _ _ s2
  have h0 : MsStays s s0 := .ite MsStays.refl.sendBoth (MsStays.refl.swapFault f)
  have hactive : MsStays s (s0.leaveActive .fault false) := h0.leaveActive .fault false
  have h1 : MsStays s s1 := (hactive.stopEach _).withFaults _
  have hoff : s1.AllOff := State.stopAll_allOff
  clear_value s1
  have hkeep : MsStays s1 (s2.keepFault c f canRec) := .ite MsStays.refl.step MsStays.refl.step
  exact ⟨hkeep.cause.trans h1.cause, hkeep.allOff hoff⟩

/-- Every answer to an MS fault leaves the domains OFF and keeps its CAUSE (R517). -/
theorem State.funcFault_msOff (hmode : s.mode ≠ .fault) (hoff : s.scopeOn 6 none = false) (c addr : Nat) :
    (s.funcFault 6 c addr).ms.cause = s.ms.cause ∧ (s.funcFault 6 c addr).AllOff := by
  unfold State.funcFault State.raiseScope
  rw [if_neg (by simp [hoff, hmode])]
  extract_lets s1 _ s2
  have hcause : s2.ms.cause = s.ms.cause := rfl
  clear_value s2
  have stopped {u : State} (hu : MsStays s2.stopMs u) : u.ms.cause = s.ms.cause ∧ u.AllOff :=
    ⟨hu.cause.trans (MsStays.refl.stopMs.cause.trans hcause), hu.allOff State.stopMs_allOff⟩
  split
  · split
    · obtain ⟨hc, hall⟩ := State.moduleFault_msOff (s := s2) 7 6 true
      have hbit : MsStays (s2.moduleFault 7 6 true) ((s2.moduleFault 7 6 true).faultBit 6) := .setFault .refl
      exact ⟨hbit.cause.trans (hc.trans hcause), hbit.allOff hall⟩
    · split
      · have hscope : MsStays s2.stopMs (s2.stopMs.modScope 6 none fun x => { x with ladder := false }) := MsStays.refl.step
        exact stopped (hscope.enterSafe 6)
      · exact stopped .refl
  · exact stopped .refl

/-- Trackers that disagree are an MS fault with CAUSE 1, whatever answers it (R269, R517). -/
theorem State.trackers_disagree (ht : s.msTracks = true) (hoff : s.scopeOn 6 none = false) :
    (s.trackers false).ms.cause = 1 ∧ (s.trackers false).AllOff := by
  have hmode : s.mode ≠ .fault := by
    intro hf
    simp [State.msTracks, hf] at ht
  unfold State.trackers
  rw [if_neg (by simp [ht])]
  exact State.funcFault_msOff (s := { s with ms := { s.ms with cause := 1 } }) hmode hoff 1 0

end

end Sys2Proof.Machine
end

section
/-! PROOFS. Edges, timeouts, direction and phases of the position domains, and the statement about them (R231, R233, R235 to
R237, R245, R248, R249, R269). -/

namespace Sys2Proof.Machine

-- a membership that `by decide` fills in waits for the declarations before it: they are elaborated in order
set_option Elab.async false

variable {s : State} {d : Nat}

/-- Domain `d` is an enabled wheel or encoder of a scheduler that tracks. -/
structure State.WheelOn (d : Nat) (s : State) : Prop where
  tracks : s.msTracks = true
  wheel : d < 4
  listed : d < s.ms.doms.length
  enabled : (domCfg s.img d).enable = true

theorem State.wheelOn_of_eight (ht : s.msTracks = true) (hl : s.ms.doms.length = 8) (hd : d < 4)
    (he : (domCfg s.img d).enable = true) : s.WheelOn d :=
  ⟨ht, hd, by omega, he⟩

section
variable (h : s.WheelOn d)
include h

theorem State.WheelOn.takes (hst : (s.dom d).st ≠ 0) :
    (!s.msTracks || !(domCfg s.img d).enable || decide (4 ≤ d) || decide ((s.dom d).st = 0)) = false := by
  simp [h.tracks, h.enabled, Nat.not_le.2 h.wheel, hst]

/-! ### Timing edges (R233, R245) -/

/-- The domain as its measurement begins with an edge at `t16`. -/
def DomSt.seek (t16 now : Nat) (rev : Bool) (y : DomSt) : DomSt :=
  { y.restart 2 y.cycles with last16 := some t16, rev := rev, mdl := none, up := now }

/-- The domain with one edge more since its cam marker. -/
def DomSt.countMarker (y : DomSt) : DomSt := { y with marker := y.marker.map (· + 1) }

theorem State.edgeTaken_first (hst : (s.dom d).st = 1 ∨ (s.dom d).st = 5) (t16 : Nat) (b : Bool) : ∃ rev,
    s.edgeTaken d t16 b = ((s.modDom d DomSt.countMarker).modDom d (DomSt.seek t16 s.clock rev)).msUpdated d := by
  have hne : (s.dom d).st ≠ 0 := by omega
  unfold State.edgeTaken
  extract_lets c x quad rev s0
  rw [if_neg (by simpa using h.takes hne), if_pos hst]
  exact ⟨rev, rfl⟩

theorem State.edgeTaken_early {l t16 : Nat} (hst : (s.dom d).st = 2 ∨ (s.dom d).st = 3 ∨ (s.dom d).st = 4)
    (hl : (s.dom d).last16 = some l) (hearly : t16 - l < 12800) (b : Bool) :
    s.edgeTaken d t16 b = ((s.modDom d DomSt.countMarker).domLost d 4).msUpdated d := by
  have hne : (s.dom d).st ≠ 0 := by omega
  have hfirst : ¬((s.dom d).st = 1 ∨ (s.dom d).st = 5) := by omega
  unfold State.edgeTaken
  extract_lets c x quad rev s0
  rw [if_neg (by simpa using h.takes hne), if_neg hfirst]
  have hx : x.last16 = some l := hl
  rw [hx]
  exact if_pos hearly

end

/-- A line that is noted is one of a domain's own list, and nothing else of it (R235). -/
theorem State.toothEdge_dom (t16 : Nat) (b : Bool) :
    ∃ l, (s.toothEdge d t16 b).dom d = { (s.edgeTaken d t16 b).dom d with lines := l } := by
  unfold State.toothEdge
  extract_lets c s1
  split
  · unfold State.quadNote
    rw [State.dom_modDom]
    split
    · exact ⟨_, rfl⟩
    · exact ⟨_, rfl⟩
  · exact ⟨_, rfl⟩

theorem State.toothEdge_touches (t16 : Nat) (b : Bool) : Touches [.ms] ∅ (s.edgeTaken d t16 b) (s.toothEdge d t16 b) :=
  .ite Touches.refl.setMs .refl

/-- The first edge of a domain that stands or is lost begins its measurement (R245). -/
theorem State.toothEdge_first (h : s.WheelOn d) (hst : (s.dom d).st = 1 ∨ (s.dom d).st = 5) (t16 : Nat) (b : Bool) :
    (∃ l rev, (s.toothEdge d t16 b).dom d = { DomSt.seek t16 s.clock rev (s.dom d).countMarker with lines := l }) ∧
      (s.toothEdge d t16 b).mode = s.mode ∧ (s.toothEdge d t16 b).store = s.store := by
  obtain ⟨rev, htaken⟩ := State.edgeTaken_first h hst t16 b
  obtain ⟨l, hl⟩ := State.toothEdge_dom (s := s) (d := d) t16 b
  have ht := State.toothEdge_touches (s := s) (d := d) t16 b
  obtain ⟨m, k, hu⟩ := State.msUpdated_eq ((s.modDom d DomSt.countMarker).modDom d (DomSt.seek t16 s.clock rev)) d
  refine ⟨⟨l, rev, ?_⟩, ?_, ?_⟩
  · rw [hl, htaken, State.msUpdated_dom, State.dom_modDom_self (by rw [State.length_modDom]; exact h.listed),
      State.dom_modDom_self h.listed]
  · rw [ht.mode, htaken, hu]
    rfl
  · rw [ht.store, htaken, hu]
    rfl

/-- An edge that comes too early loses the domain with CAUSE 4 (R245). -/
theorem State.toothEdge_early (h : s.WheelOn d) {l t16 : Nat} (hst : (s.dom d).st = 2 ∨ (s.dom d).st = 3 ∨ (s.dom d).st = 4)
    (hl : (s.dom d).last16 = some l) (hearly : t16 - l < 12800) (b : Bool) :
    ∃ ls cy, (s.toothEdge d t16 b).dom d = { (s.dom d).countMarker.lose 4 cy with lines := ls } := by
  obtain ⟨ls, hls⟩ := State.toothEdge_dom (s := s) (d := d) t16 b
  refine ⟨ls, (s.modDom d DomSt.countMarker).cycleNow d, ?_⟩
  rw [hls, State.edgeTaken_early h hst hl hearly, State.msUpdated_dom,
    State.domLost_dom (by rw [State.length_modDom]; exact h.listed), State.dom_modDom_self h.listed]

/-! ### Markers and references (R235, R236) -/

/-- A domain whose revolution the cam marker tells (R245). -/
def DomSt.syncRev (c : DomCfg) (y : DomSt) : DomSt :=
  { y with
    st := 4, revn := c.camRev
    mdl := y.mdl.map fun m => { m with
      pos := toothPos c y.tooth c.camRev, lim := some (toothPos c y.tooth c.camRev + toothLim c y.rev y.tooth) } }

theorem State.camEdge_syncs (h : s.WheelOn d) (hmode : (domCfg s.img d).mode ≠ 2) (hrev : (domCfg s.img d).periodRev = 2)
    (hst : (s.dom d).st = 3) :
    s.camEdge d = (s.modDom d fun y => { y with marker := some 0 }).modDom d (DomSt.syncRev (domCfg s.img d)) := by
  unfold State.camEdge
  extract_lets c x s1
  rw [if_neg (by simp [h.tracks, h.enabled, h.wheel, hmode, hrev, hst, c, x]), if_pos hst]
  rfl

/-- A reference edge after which no line has come yet waits for line 0 (R235). -/
theorem State.quadRef_notes (h : s.WheelOn d) (hmode : (domCfg s.img d).mode = 2) (hst : (s.dom d).st = 2)
    (hpin : (s.dio (domCfg s.img d).refDio).pin = true)
    (hlines : ∀ p ∈ (s.dom d).lines, p.1 ≤ 16 * (s.dio (domCfg s.img d).refDio).cap) :
    s.quadRef d = s.modDom d fun y => { y with refSeen := true } := by
  have hsince : ((s.dom d).lines.takeWhile fun p => decide (16 * (s.dio (domCfg s.img d).refDio).cap < p.1)) = [] := by
    rw [List.takeWhile_eq_nil_iff]
    intro hpos
    simpa using hlines _ (List.getElem_mem hpos)
  unfold State.quadRef
  extract_lets c x io since
  have hnone : since = [] := by rw [← List.reverse_nil, ← hsince]
  rw [if_neg (by simp [h.tracks, h.enabled, h.wheel, hmode, hpin, c, io]), if_pos hst, hnone]
  rfl

/-! ### Timeouts (R248) -/

theorem State.expire_domain_past {e : Int} (he : s.domExpiry d = some e) (hpast : e.toNat < s.clock) :
    s.expire (.domain d) = s.domTimeout d := by
  refine State.expire_past fun hd => ?_
  simp only [State.deadline, he, Option.map_some, Option.some.injEq] at hd
  omega

theorem State.domTimeout_due (h : s.WheelOn d) {e : Int} (hst : (s.dom d).st = 2 ∨ (s.dom d).st = 3 ∨ (s.dom d).st = 4)
    (he : s.domExpiry d = some e) (hpast : e.toNat < s.clock) (hup : (s.dom d).up ≠ s.clock) :
    s.domTimeout d = if 16 * (domCfg s.img d).limit ≤ (s.dom d).int16 then (s.domStopped d).msUpdated d
      else (s.domLost d 1).msUpdated d := by
  have hdue : ¬((s.clock : Int) < e ∨ (s.dom d).up = s.clock) := by omega
  unfold State.domTimeout
  extract_lets c x
  rw [if_neg (by simp [h.tracks, h.enabled, h.wheel, hst, c, x]), he]
  exact if_neg hdue

/-! ### Direction (R249) -/

/-- The domain with the level of DIR_REF last seen. -/
def DomSt.seeDir (lv : Bool) (y : DomSt) : DomSt := { y with dirSeen := lv }

theorem State.dirChange_takes (h : s.WheelOn d) (hmode : (domCfg s.img d).mode ≠ 2) (hlv : s.dirLevel d ≠ (s.dom d).dirSeen) :
    s.dirChange d =
      if (s.dom d).st = 1 then (s.modDom d (DomSt.seeDir (s.dirLevel d))).modDom d fun y => { y with rev := s.dirLevel d }
      else if (s.dom d).st = 2 ∨ (s.dom d).st = 3 ∨ (s.dom d).st = 4 then
        ((s.modDom d (DomSt.seeDir (s.dirLevel d))).domLost d 3).msUpdated d
      else s.modDom d (DomSt.seeDir (s.dirLevel d)) := by
  unfold State.dirChange
  extract_lets c x lv s1
  rw [if_neg (by simp [h.tracks, h.enabled, h.wheel, hmode, hlv, c, x, lv])]
  rfl

/-! ### Phases (R237, R245) -/

/-- A phase update gives the busbar's domain its magnitude, and makes it DEAD where that is below the limit. -/
theorem State.busUpdate_eq (s : State) (d ph t16 : Nat) (u : F64) : ∃ f : DomSt → DomSt, s.busUpdate d ph t16 u = s.modDom d f ∧
    (∀ y, (f y).mag = u) ∧
    ((domCfg s.img d).enable = true → rat64 u < tenths (domCfg s.img d).limit → ∀ y, (f y).st = 6) := by
  unfold State.busUpdate
  extract_lets c
  split
  · next hoff => exact ⟨_, rfl, fun _ => rfl, fun hon => by simp [c, hon] at hoff⟩
  · split
    · exact ⟨_, rfl, fun _ => rfl, fun _ _ _ => rfl⟩
    · next hlive => exact ⟨_, rfl, fun _ => rfl, fun _ hdead => absurd hdead hlive⟩

theorem State.busUpdate_mode (s : State) (d ph t16 : Nat) (u : F64) : (s.busUpdate d ph t16 u).mode = s.mode := by
  obtain ⟨f, hf, -⟩ := State.busUpdate_eq s d ph t16 u
  rw [hf]
  rfl

/-- Each busbar's domain follows its own phase; D6 and the slots follow them. -/
theorem State.phaseUpdate_follows (ht : s.msTracks = true) (ph4 ph5 t4 t5 : Nat) (u0 u1 : F64) :
    (s.phaseUpdate ph4 ph5 t4 t5 u0 u1).mode = s.mode ∧ ∀ k, k ≠ 6 →
      (s.phaseUpdate ph4 ph5 t4 t5 u0 u1).dom k = ((s.busUpdate 4 ph4 t4 u0).busUpdate 5 ph5 t5 u1).dom k := by
  unfold State.phaseUpdate
  rw [if_neg (by simp [ht])]
  extract_lets s1 c _ _ s2 _ s3
  have h1 : s1.mode = s.mode := (State.busUpdate_mode ..).trans (State.busUpdate_mode ..)
  have h2 : s2.mode = s1.mode ∧ ∀ k, k ≠ 6 → s2.dom k = s1.dom k := by
    unfold s2
    split
    · exact ⟨rfl, fun _ _ => rfl⟩
    · split
      · exact ⟨rfl, fun k hk => State.dom_modDom_of_ne hk.symm _⟩
      · exact ⟨rfl, fun k hk => State.dom_modDom_of_ne hk.symm _⟩
  have h3 : s3.mode = s2.mode ∧ ∀ k, s3.dom k = s2.dom k := by
    unfold s3
    split
    · exact ⟨rfl, fun _ => rfl⟩
    · exact ⟨rfl, fun _ => rfl⟩
  refine ⟨?_, fun k hk => ?_⟩
  · rw [State.msUpdated_mode, State.msUpdated_mode, State.msUpdated_mode, h3.1, h2.1, h1]
  · rw [State.msUpdated_dom, State.msUpdated_dom, State.msUpdated_dom, h3.2, h2.2 k hk]

/-- The magnitudes of a phase update, and the busbar that it finds DEAD (R237, R245). -/
theorem State.phaseUpdate_busbars (ht : s.msTracks = true) (hl : s.ms.doms.length = 8) (ph4 ph5 t4 t5 : Nat) (u0 u1 : F64) :
    ((s.phaseUpdate ph4 ph5 t4 t5 u0 u1).dom 4).mag = u0 ∧ ((s.phaseUpdate ph4 ph5 t4 t5 u0 u1).dom 5).mag = u1 ∧
      ((domCfg s.img 4).enable = true → rat64 u0 < tenths (domCfg s.img 4).limit →
        ((s.phaseUpdate ph4 ph5 t4 t5 u0 u1).dom 4).st = 6) := by
  obtain ⟨-, hdom⟩ := State.phaseUpdate_follows ht ph4 ph5 t4 t5 u0 u1
  obtain ⟨f4, hf4, hmag4, hdead4⟩ := State.busUpdate_eq s 4 ph4 t4 u0
  obtain ⟨f5, hf5, hmag5, -⟩ := State.busUpdate_eq (s.modDom 4 f4) 5 ph5 t5 u1
  have h4 : ((s.modDom 4 f4).modDom 5 f5).dom 4 = f4 (s.dom 4) := by
    rw [State.dom_modDom_of_ne (by decide), State.dom_modDom_self (by omega)]
  have h5 : ((s.modDom 4 f4).modDom 5 f5).dom 5 = f5 ((s.modDom 4 f4).dom 5) :=
    State.dom_modDom_self (by rw [State.length_modDom]; omega) _
  rw [hdom 4 (by decide), hdom 5 (by decide), hf4, hf5, h4, h5]
  exact ⟨hmag4 _, hmag5 _, fun hon hdead => hdead4 hon hdead _⟩

/-! ### The statement -/

/-- Settles O30: each event comes down to one operation on its domain, and the slots and records that follow leave the
domain as that operation makes it. -/
theorem domainsRun : Obligations.DomainsRun := by
  refine ⟨?first, ?early, ?cam, ?reference, ?stops, ?lost, ?turns, ?reverses, ?phases, ?agree, ?disagree⟩
  case first =>
    rintro s a dt d f b rfl ht hl hd he hst
    obtain ⟨⟨l, rev, hdom⟩, hmode, hstore⟩ := State.toothEdge_first (State.wheelOn_of_eight ht hl hd he) hst ((s.advance dt).stamp f) b
    refine ⟨_, rfl, ?_⟩
    rw [hdom]
    exact ⟨rfl, rfl, rfl, rfl, hmode, hstore⟩
  case early =>
    rintro s a dt d f l b rfl ht hl hd he hst hlast hearly
    obtain ⟨ls, cy, hdom⟩ := State.toothEdge_early (State.wheelOn_of_eight ht hl hd he) hst hlast hearly b
    refine ⟨_, rfl, ?_⟩
    rw [hdom]
    exact ⟨rfl, rfl, rfl, rfl⟩
  case cam =>
    rintro s a dt d rfl ht hl hd he hmode hrev hst
    have h := State.wheelOn_of_eight ht hl hd he
    refine ⟨_, congrArg done (State.camEdge_syncs h hmode hrev hst), ?_⟩
    rw [State.dom_modDom_self (by rw [State.length_modDom]; exact h.listed), State.dom_modDom_self h.listed]
    exact ⟨rfl, rfl, rfl, rfl, rfl⟩
  case reference =>
    rintro s a dt d rfl ht hl hd he hmode hst hpin hlines
    exact congrArg done (State.quadRef_notes (State.wheelOn_of_eight ht hl hd he) hmode hst hpin hlines)
  case stops =>
    rintro s a dt d e rfl ht hl hd he hst hexp hpast hup hslow
    have h := State.wheelOn_of_eight ht hl hd he
    obtain ⟨m, k, hu⟩ := State.msUpdated_eq ((s.advance dt).domStopped d) d
    refine ⟨_, congrArg done (State.expire_domain_past hexp hpast), ?_⟩
    rw [State.domTimeout_due h hst hexp hpast hup, if_pos hslow, State.msUpdated_dom, State.domStopped_st h.listed, hu]
    exact ⟨rfl, (congrArg State.log State.domStopped_touches.eq :)⟩
  case lost =>
    rintro s a dt d e rfl ht hl hd he hst hexp hpast hup hfast
    have h := State.wheelOn_of_eight ht hl hd he
    refine ⟨_, congrArg done (State.expire_domain_past hexp hpast), ?_⟩
    rw [State.domTimeout_due h hst hexp hpast hup, if_neg (Nat.not_le.2 hfast), State.msUpdated_dom, State.domLost_dom h.listed]
    exact ⟨rfl, rfl⟩
  case turns =>
    rintro s a dt d rfl ht hl hd he hmode hlv hst
    have h := State.wheelOn_of_eight ht hl hd he
    refine ⟨_, congrArg done (State.dirChange_takes h hmode hlv), ?_⟩
    rw [if_pos hst, State.dom_modDom_self (by rw [State.length_modDom]; exact h.listed), State.dom_modDom_self h.listed]
    exact ⟨rfl, rfl, hst, rfl⟩
  case reverses =>
    rintro s a dt d rfl ht hl hd he hmode hlv hst
    have h := State.wheelOn_of_eight ht hl hd he
    refine ⟨_, congrArg done (State.dirChange_takes h hmode hlv), ?_⟩
    rw [if_neg (by omega), if_pos (.inr (.inr hst)), State.msUpdated_dom,
      State.domLost_dom (by rw [State.length_modDom]; exact h.listed)]
    exact ⟨rfl, rfl⟩
  case phases =>
    rintro s a dt p4 p5 f4 f5 u0 u1 rfl ht hl
    obtain ⟨h4, h5, hdead⟩ := State.phaseUpdate_busbars ht hl p4 p5 ((s.advance dt).stamp f4) ((s.advance dt).stamp f5) u0 u1
    exact ⟨_, rfl, h4, h5, (State.phaseUpdate_follows ht _ _ _ _ _ _).1, hdead⟩
  case agree =>
    rintro s a dt rfl
    rfl
  case disagree =>
    rintro s a dt rfl ht hoff
    obtain ⟨hcause, hall⟩ := State.trackers_disagree ht hoff
    exact ⟨_, rfl, hcause, hall⟩

end Sys2Proof.Machine
end

section
/-! PROOFS. Milestones that fire, pulses that end and the close's feedback, and the statement about them (R242, R250 to R254,
R261). -/

namespace Sys2Proof.Machine

-- a membership that `by decide` fills in waits for the declarations before it: they are elaborated in order
set_option Elab.async false

variable {s : State} {n : Nat} {m : MsSlotSt} {c : MsSlotCfg}

/-! ### Crossings (R242, R250 to R252) -/

/-- The present tick crosses the target of slot `n` in cycle `cy`, in which the slot has neither fired nor been passed. -/
structure State.Crosses (n : Nat) (m : MsSlotSt) (c : MsSlotCfg) (cy : Int) (s : State) : Prop where
  slot : s.msSlot n = some m
  cfg : msCfg s.img n = some c
  ready : s.msReady c m = true
  cross : s.msCross c m = some cy
  fired : m.fired ≠ some cy
  skipped : m.skipped ≠ some cy

theorem State.Crosses.msCrossing {cy : Int} (h : s.Crosses n m c cy) : s.msCrossing n =
    if m.pulse.isSome then s.modMs n fun x => { x with result := 7 }
    else if msAct c = 9 ∧ s.closeWindow (syncOf s.img c) = false then s.modMs n fun x => { x with result := 9 }
    else s.msFire n c (if s.msLate c m then 2 else 1) cy := by
  have hnew : ¬(m.fired = some cy ∨ m.skipped = some cy) := not_or.2 ⟨h.fired, h.skipped⟩
  unfold State.msCrossing
  rw [h.slot, h.cfg]
  dsimp only
  rw [if_neg (by simp [h.ready]), h.cross]
  exact if_neg hnew

/-- A slot as it fires in cycle `cy` with a result (R251). -/
def MsSlotSt.fire (c : MsSlotCfg) (tick res : Nat) (cy : Int) (m : MsSlotSt) : MsSlotSt :=
  { m with
    count := (m.count + 1) % 65536, ftick := tick, fired := some cy, result := res
    arm := m.arm && m.rep && decide (msAct c ≠ 9), seenArm := m.arm && m.rep && decide (msAct c ≠ 9) }

/-- Outside the synchronising close a repeating slot stays armed (R251). -/
theorem MsSlotSt.fire_of_ne (hact : msAct c ≠ 9) (tick res : Nat) (cy : Int) (m : MsSlotSt) : m.fire c tick res cy = { m with
    count := (m.count + 1) % 65536, ftick := tick, fired := some cy, result := res
    arm := m.arm && m.rep, seenArm := m.arm && m.rep } := by
  simp [MsSlotSt.fire, hact]

/-- An ON action leaves the slots, and turns its output on unless an off of this tick stands on it (R252, R253). -/
theorem State.msOn_turns (ch : Nat) : (s.msOn ch).ms = s.ms ∧ (s.msOn ch).slots = s.slots ∧ (s.msOn ch).log = s.log ∧
    (s.msOffNow ch = false → ∀ x ∈ (s.msOn ch).fld.dio, x.n = ch → x.ms = true) := by
  unfold State.msOn
  split
  · next hoff => exact ⟨rfl, rfl, rfl, fun hon => by simp [hon] at hoff⟩
  · exact ⟨rfl, rfl, rfl, fun _ => State.dioMs_level ch true⟩

theorem State.msFire_on (hact : msAct c = 1) (res : Nat) (cy : Int) :
    s.msFire n c res cy = (s.modMs n (MsSlotSt.fire c s.tick res cy)).msOn c.out.toNat := by
  have haction (t : State) : t.msAction n c = t.msOn c.out.toNat := by
    unfold State.msAction
    rw [hact]
    rfl
  exact haction _

/-- A crossing of a slot with an ON action and no pulse fires it. -/
theorem State.Crosses.turnsOn {cy : Int} (h : s.Crosses n m c cy) (hp : m.pulse = none) (hact : msAct c = 1) :
    s.msCrossing n =
      (s.modMs n (MsSlotSt.fire c s.tick (if s.msLate c m then 2 else 1) cy)).msOn c.out.toNat := by
  rw [h.msCrossing, if_neg (by simp [hp]), if_neg (by simp [hact]), State.msFire_on hact]

/-! ### Pulses (R252) -/

/-- A pulse that is due ends: its slot holds none any more, and its output is off. -/
theorem State.pulseEnd_ends {p : MsPulse} (hm : s.msSlot n = some m) (hc : msCfg s.img n = some c)
    (hdue : s.msPulseDue c m = true) (hp : m.pulse = some p) :
    s.pulseEnd n = (s.modMs n fun x => { x with pulse := none }).msOff p.dio := by
  have hfound : (s.msSlot n).bind (·.pulse) = some p := by rw [hm]; exact hp
  unfold State.pulseEnd
  rw [hm, hc]
  dsimp only
  rw [if_pos hdue, State.msPulseEnd, hfound]

/-! ### The close's feedback (R261) -/

/-- The slot waits for the feedback of a close that fired in tick `f`. -/
structure State.Awaits (n f : Nat) (m : MsSlotSt) (c : MsSlotCfg) (s : State) : Prop where
  slot : s.msSlot n = some m
  cfg : msCfg s.img n = some c
  run : s.msRun = true
  wait : m.wait = some f

/-- An edge that ends the wait: within 1 ms after CT_MAX, and the contact closed from CT_MIN to CT_MAX after the command. -/
structure State.FeedbackIn (f : Nat) (y : SyncSet) (s : State) : Prop where
  edge : (s.dio y.fbDio).pin ≠ y.fbFalling
  low : f + y.auxDelay + y.ctMin ≤ (s.dio y.fbDio).cap
  high : (s.dio y.fbDio).cap ≤ f + y.auxDelay + y.ctMax
  within : (s.dio y.fbDio).cap ≤ f + y.ctMax + 400000

/-- Feedback in its window ends the wait with its result. -/
theorem State.closeFeedback_learns {f : Nat} (h : s.Awaits n f m c) (hfb : s.FeedbackIn f (syncOf s.img c)) :
    ((s.closeFeedback n).msSlot n).map (fun x => (x.wait, x.result)) = some (none, 0x0D) ∧ (s.closeFeedback n).mode = s.mode := by
  obtain ⟨hedge, hlow, hhigh, hwithin⟩ := hfb
  unfold State.closeFeedback
  rw [h.slot, h.cfg]
  dsimp -zeta only
  rw [h.wait]
  dsimp -zeta only
  extract_lets y io fb mt ok ct pos s1 s2 s3 s4
  have hok : ok = true := decide_eq_true (by simp only [mt, fb, io, y]; omega)
  have h1 : s1.msSlot n = some { m with ct := ct, result := 0x0D } := by
    unfold s1
    rw [State.msSlot_modMs (fun x => { x with ct := ct, result := if ok then 0x0D else 0x0C }) fun _ => rfl, h.slot, hok]
    rfl
  have h2 : Touches [.slots] Set.univ s1 s2 := .ite (Touches.refl.writeOpt fun _ _ _ _ => Set.mem_univ _) .refl
  have h4 : Touches [.slots, .log] Set.univ s1 s4 := .ite (Touches.record (Touches.record h2.mono)) (Touches.record h2.mono)
  have hms : s4.ms = s1.ms := (congrArg State.ms h4.eq :)
  have hslot : s4.msSlot n = some { m with ct := ct, result := 0x0D } := by
    rw [State.msSlot_of_ms hms]
    exact h1
  have hmode : s4.mode = s.mode := h4.mode
  clear_value s4
  have hin : ¬((!s.msRun || io.pin == y.fbFalling || decide (fb < f) || decide (f + y.ctMax + 400000 < fb)) = true) := by
    have hge : f ≤ (s.dio (syncOf s.img c).fbDio).cap := by omega
    simp [h.run, hedge, hwithin, hge, y, io, fb]
  rw [if_neg hin, State.msEndWait_msSlot hslot, State.msEndWait_touches.mode, hmode]
  exact ⟨rfl, rfl⟩

/-- The state in which a wait without feedback ends: the slot has NO_FEEDBACK, and the record took two free values (log 5). -/
def State.noFeedback (n : Nat) (d : List Byte) (s : State) : State :=
  (({ s with freeCtr := s.freeCtr + 2 } : State).modMs n fun x => { x with result := 0x0B }).record 0x0603 n 0 d

theorem State.noFeedback_msSlot (d : List Byte) (hm : s.msSlot n = some m) :
    (s.noFeedback n d).msSlot n = some { m with result := 0x0B } := by
  have hslot := State.msSlot_modMs (s := s) (n := n) (fun x => { x with result := 0x0B }) fun _ => rfl
  rw [hm] at hslot
  exact (State.msSlot_of_ms rfl).trans hslot

theorem State.closeSilent_eq {f : Nat} (h : s.Awaits n f m c) (hpast : f + (syncOf s.img c).ctMax + 400000 ≤ s.clock) :
    ∃ d, s.closeSilent n = (s.noFeedback n d).msEndWait n := by
  unfold State.closeSilent
  rw [h.slot, h.cfg]
  dsimp only
  rw [h.wait]
  exact ⟨_, if_neg (by simp [h.run, hpast])⟩

/-- The wait ends with NO_FEEDBACK, and CT stays. -/
theorem State.closeSilent_ends {f : Nat} (h : s.Awaits n f m c) (hpast : f + (syncOf s.img c).ctMax + 400000 ≤ s.clock) :
    ((s.closeSilent n).msSlot n).map (fun x => (x.wait, x.result, x.ct)) = some (none, 0x0B, m.ct) ∧
      (s.closeSilent n).slots = s.slots ∧ (s.closeSilent n).freeCtr = s.freeCtr + 2 := by
  obtain ⟨d, hd⟩ := State.closeSilent_eq h hpast
  have hend := State.msEndWait_touches (s := s.noFeedback n d) (n := n)
  rw [hd, State.msEndWait_msSlot (State.noFeedback_msSlot d h.slot)]
  exact ⟨rfl, (congrArg State.slots hend.eq :), (congrArg State.freeCtr hend.eq :)⟩

/-- A wait whose limit lies in the past ends at once (R17). -/
theorem State.expire_noFeedback_past {f : Nat} (h : s.Awaits n f m c) (hpast : f + (syncOf s.img c).ctMax + 400000 < s.clock) :
    s.expire (.noFeedback n) = s.closeSilent n := by
  refine State.expire_past fun hd => ?_
  simp only [State.deadline, h.slot, h.cfg, h.wait, Option.map_some, Option.some.injEq] at hd
  omega

/-! ### The statement -/

/-- Settles O31: a crossing, a pulse's end and the end of a wait are one change of the slot each, and what follows it leaves
the slot. -/
theorem milestonesRun : Obligations.MilestonesRun := by
  refine ⟨?fires, ?busy, ?pulseEnds, ?feedback, ?silent⟩
  case fires =>
    rintro s a dt n m c cy rfl hm hc hready hcross hfired hskipped hp hact
    have h : (s.advance dt).Crosses n m c cy := ⟨hm, hc, hready, hcross, hfired, hskipped⟩
    have hfire := State.msSlot_modMs (s := s.advance dt) (n := n)
      (MsSlotSt.fire c (s.advance dt).tick (if (s.advance dt).msLate c m then 2 else 1) cy) fun _ => rfl
    obtain ⟨hms, hslots, hlog, hon⟩ := State.msOn_turns (s := (s.advance dt).modMs n
      (MsSlotSt.fire c (s.advance dt).tick (if (s.advance dt).msLate c m then 2 else 1) cy)) c.out.toNat
    refine ⟨_, congrArg done (h.turnsOn hp hact), ?_, hon, hslots, hlog⟩
    rw [State.msSlot_of_ms hms, hfire, hm, Option.map_some, MsSlotSt.fire_of_ne (by omega)]
  case busy =>
    rintro s a dt n m c cy rfl hm hc hready hcross hfired hskipped hp
    have h : (s.advance dt).Crosses n m c cy := ⟨hm, hc, hready, hcross, hfired, hskipped⟩
    exact congrArg done (h.msCrossing.trans (if_pos hp))
  case pulseEnds =>
    rintro s a dt n m c p rfl hm hc hdue hp
    have hended : ((s.advance dt).modMs n fun x => { x with pulse := none }).msSlot n = some { m with pulse := none } := by
      rw [State.msSlot_modMs (fun x => { x with pulse := none }) fun _ => rfl, hm, Option.map_some]
    refine ⟨_, congrArg done (State.pulseEnd_ends hm hc hdue hp), ?_, ?_, rfl, rfl⟩
    · rw [State.msSlot_msOff p.dio hended rfl]
      rfl
    · exact State.dioMs_level p.dio false
  case feedback =>
    rintro s a dt n f m c rfl hm hc hrun hwait hedge hlow hhigh hwithin
    exact ⟨_, rfl, State.closeFeedback_learns ⟨hm, hc, hrun, hwait⟩ ⟨hedge, hlow, hhigh, hwithin⟩⟩
  case silent =>
    rintro s a dt n f m c rfl hm hc hrun hwait hpast
    have h : (s.advance dt).Awaits n f m c := ⟨hm, hc, hrun, hwait⟩
    exact ⟨_, congrArg done (State.expire_noFeedback_past h hpast), State.closeSilent_ends h (Nat.le_of_lt hpast)⟩

end Sys2Proof.Machine
end

section
/-! PROOFS. The loop engine: a write of SUPACK to a context whose supervision has tripped (R302, R303, R304, R310). -/

namespace Sys2Proof.Machine

variable {s a : State} {m : Master} {n i k c : Nat} {x : CtxSt}

/-! ### The record of a context -/

theorem State.ctx_modCtx (f : CtxSt → CtxSt) (hf : ∀ y, (f y).n = y.n) : (s.modCtx n f).ctx n = (s.ctx n).map f :=
  findKey_modifyKey_of_key _ _ _ hf _

/-- Of two changes of one context the second acts on what the first has left. -/
theorem State.modCtx_modCtx (f g : CtxSt → CtxSt) (hf : ∀ y, (f y).n = y.n) :
    (s.modCtx n f).modCtx n g = s.modCtx n (g ∘ f) := by
  have hctxs : modifyKey (·.n) n g (modifyKey (·.n) n f s.loop.ctxs) = modifyKey (·.n) n (g ∘ f) s.loop.ctxs := by
    unfold modifyKey
    rw [List.map_map]
    refine List.map_congr_left fun y _ => ?_
    by_cases hy : y.n = n <;> simp [hy, hf]
  simp only [State.modCtx, hctxs]

/-! ### The acknowledgement (R302) -/

/-- A context whose supervision starts afresh. -/
def CtxSt.clearSupv (y : CtxSt) : CtxSt := { y with supv := 0, supT := 0, manLatch := false }

/-- While the condition stands, the acknowledgement of an alarm is recorded, and the alarm stays. -/
theorem State.loopAck_exceeded (hx : s.ctx n = some x) (htrip : x.supv = 2) (hexc : x.exceeded = true) :
    s.loopAck n = s.record 0x0708 n 0 [] := by
  simp [State.loopAck, hx, htrip, hexc]

/-- Where the condition no longer stands, supervision starts afresh too, and MANLATCH is cleared. -/
theorem State.loopAck_within (hx : s.ctx n = some x) (htrip : x.supv = 2) (hexc : x.exceeded = false) :
    s.loopAck n = (s.modCtx n CtxSt.clearSupv).record 0x0708 n 0 [] := by
  simp only [State.loopAck, hx, htrip, hexc, ne_eq, not_true_eq_false, if_false, Bool.false_eq_true]
  rfl

/-! ### The write of SUPACK (R310) -/

/-- The MODE_REQ that is written beside SUPACK. -/
def CtxSt.takeMode (k : Nat) (y : CtxSt) : CtxSt := { y with modeReq := k }

/-- The mode that is written leaves the alarm as it stands, so the acknowledgement finds it. -/
theorem State.ctx_takeMode (k : Nat) (hx : s.ctx n = some x) :
    (s.modCtx n (CtxSt.takeMode k)).ctx n = some (x.takeMode k) := by
  rw [State.ctx_modCtx (CtxSt.takeMode k) fun _ => rfl, hx, Option.map_some]

theorem State.loopAck_takeMode_exceeded (k : Nat) (hx : s.ctx n = some x) (htrip : x.supv = 2) (hexc : x.exceeded = true) :
    (s.modCtx n (CtxSt.takeMode k)).loopAck n = (s.modCtx n (CtxSt.takeMode k)).record 0x0708 n 0 [] :=
  State.loopAck_exceeded (State.ctx_takeMode k hx) htrip hexc

theorem State.loopAck_takeMode_within (k : Nat) (hx : s.ctx n = some x) (htrip : x.supv = 2) (hexc : x.exceeded = false) :
    (s.modCtx n (CtxSt.takeMode k)).loopAck n =
      (s.modCtx n (CtxSt.clearSupv ∘ CtxSt.takeMode k)).record 0x0708 n 0 [] := by
  rw [State.loopAck_within (State.ctx_takeMode k hx) htrip hexc,
    State.modCtx_modCtx (CtxSt.takeMode k) CtxSt.clearSupv fun _ => rfl]

theorem supack_bits :
    ∀ k < 4, (k + 8) &&& 0xF = k + 8 ∧ (k + 8) % 4 = k ∧ bit (k + 8) 2 = false ∧ bit (k + 8) 3 = true := by
  decide

/-- Without SWAP, the write takes the mode that is written with it, and acknowledges. -/
theorem State.fxLoop_supack (hk : k < 4) :
    s.fxLoop m .loopCtl i (k + 8) c = (s.modCtx i (CtxSt.takeMode k)).loopAck i := by
  obtain ⟨-, hmode, hswap, hack⟩ := supack_bits k hk
  simp only [State.fxLoop, hmode, hswap, hack, Bool.false_and, Bool.or_false, if_true]
  rfl

theorem State.writeFx_supack (hk : k < 4) : s.writeFx m ((regRow .loopCtl).reg i) (k + 8 &&& (regRow .loopCtl).wr) c =
    (s.modCtx i (CtxSt.takeMode k)).loopAck i := by
  rw [show k + 8 &&& (regRow .loopCtl).wr = k + 8 from (supack_bits k hk).1]
  exact State.fxLoop_supack (m := m) (i := i) (c := c) hk

/-- An admitted write of SUPACK leaves the acknowledgement of the context that has taken the mode, and beside it changes the
bus and its writer's tollgate. -/
theorem State.Admits.writeSupack (ha : a.Admits m (0x3000 + 0x40 * n)) (hn : n < 160) (hk : k < 4) :
    ∃ b q ss, a.fieldWrite m 0x3000 160 0x40 n (k + 8) =
      { (({ a with bus := b } : State).modCtx n (CtxSt.takeMode k)).loopAck n with seqm := q, sessions := ss } := by
  obtain ⟨w, p, l, hw⟩ := ha.writes (id := .loopCtl) (i := n) (v := k + 8) (by decide) hn (by omega)
  rw [State.writeFx_supack hk] at hw
  obtain ⟨q, ss, hq⟩ := State.closeTg_eq _
  exact ⟨_, q, ss, (if_pos hn).trans (hw.trans hq)⟩

/-- Settles O18: the write comes down to the acknowledgement, which finds the context still tripped. -/
theorem supervisionAcknowledged : Obligations.SupervisionAcknowledged := by
  refine ⟨?exceeded, ?within⟩
  case exceeded =>
    rintro s a dt m n md x rfl hn hx htrip hexc ha
    obtain ⟨b, q, ss, hw⟩ := ha.writeSupack hn (Nat.mod_lt md (by decide))
    rw [State.loopAck_takeMode_exceeded (s := { s.advance dt with bus := b }) (md % 4) hx htrip hexc] at hw
    exact ⟨b, q, ss, _, congrArg done hw⟩
  case within =>
    rintro s a dt m n md x rfl hn hx htrip hexc ha
    obtain ⟨b, q, ss, hw⟩ := ha.writeSupack hn (Nat.mod_lt md (by decide))
    rw [State.loopAck_takeMode_within (s := { s.advance dt with bus := b }) (md % 4) hx htrip hexc] at hw
    exact ⟨b, q, ss, _, congrArg done hw⟩

end Sys2Proof.Machine
end

section
/-! PROOFS. A solver period from its assembly to the residual check (R316, R317, R319, R323, R337, R341, R347, R348, R356). -/

namespace Sys2Proof.Machine

variable {s : State} {p t k : Nat} {q : List Nat} {c : SlvCfg} {x : ProbSt} {y w : Period}

/-! ### Problems and their periods -/

theorem State.prob_modProb (f : ProbSt → ProbSt) (hf : ∀ z, (f z).p = z.p) : (s.modProb p f).prob p = (s.prob p).map f :=
  findKey_modifyKey_of_key _ p f hf _

/-- Problem `p` is `x`, whose period in progress is `y`. -/
structure State.InPeriod (p : Nat) (x : ProbSt) (y : Period) (s : State) : Prop where
  prob : s.prob p = some x
  per : x.per = some y

/-- A change of the problem that leaves a period in progress. -/
theorem State.InPeriod.modProb (h : s.InPeriod p x y) (f : ProbSt → ProbSt) (hf : ∀ z, (f z).p = z.p) (hper : (f x).per = some w) :
    (s.modProb p f).InPeriod p (f x) w :=
  ⟨by rw [State.prob_modProb f hf, h.prob, Option.map_some], hper⟩

/-- Only the list of problems says which period is in progress. -/
theorem State.InPeriod.of_probs {u : State} (h : s.InPeriod p x y) (hu : u.slv.probs = s.slv.probs) : u.InPeriod p x y :=
  ⟨by rw [← h.prob, State.prob, State.prob, hu], h.per⟩

theorem setStage_per (st : PerStage) (h : x.per = some y) : (setStage st x).per = some { y with stage := st } := by
  rw [setStage, h, Option.map_some]

/-! ### Assembly (R316, R317, R319, R323) -/

/-- The assembly unit works on problem `p` from this tick on. -/
def State.asmTaken (p : Nat) (s : State) : State := { s with slv := { s.slv with asm := some (p, s.clock) } }

/-- The assembly unit takes the period that waits. -/
theorem State.asmBegin_takes (hrun : s.slvRun = true) (hidle : s.slv.asm = none) (hfree : s.slv.asmFree ≤ s.clock)
    (hnext : s.slvNext .queued = some p) : s.asmBegin = (s.modProb p (Machine.setStage .assembling)).asmTaken p := by
  unfold State.asmBegin
  rw [if_neg (by simp [hrun, hidle, hfree]), hnext]
  rfl

/-- Where an assembly of the fetched values `f` leaves its period. -/
def asmStage (c : SlvCfg) (y : Period) (f : List (List Fetched)) : PerStage :=
  if f.any fun l => l.any (·.refuse) then .decided 0x16 else if matsFin (assemble c y.h f) then .assembled else .decided 0x17

/-- The problem as an assembly of the fetched values `f` leaves it, with the LAST values `lasts`. -/
def ProbSt.asmDone (c : SlvCfg) (y : Period) (f : List (List Fetched)) (lasts : List (Nat × Nat × F64)) (x : ProbSt) : ProbSt :=
  if f.any fun l => l.any (·.refuse) then setStage (.decided 0x16) { x with lasts := lasts }
  else { x with
    lasts := lasts, mats := some (assemble c y.h f)
    per := some { y with stage := asmStage c y f, asmState := lowest (f.flatMap fun l => l.map (·.st)) } }

theorem ProbSt.asmDone_p (f : List (List Fetched)) (lasts : List (Nat × Nat × F64)) (x : ProbSt) :
    (x.asmDone c y f lasts).p = x.p := by
  unfold ProbSt.asmDone
  split <;> rfl

theorem ProbSt.asmDone_stage (f : List (List Fetched)) (lasts : List (Nat × Nat × F64)) (h : x.per = some y) :
    ∃ w, (x.asmDone c y f lasts).per = some w ∧ w.stage = asmStage c y f := by
  unfold ProbSt.asmDone
  split
  · next hr => exact ⟨_, setStage_per _ h, (if_pos hr).symm⟩
  · exact ⟨_, rfl, rfl⟩

/-- The assembly unit is free again from the next tick on. -/
def State.asmFreed (p : Nat) (s : State) : State :=
  { s with slv := { s.slv with asm := none, asmFree := s.clock + 1, asmLast := some (p, s.clock) } }

/-- The assembly ends with its cycles. -/
theorem State.asmEnd_assembles {f : List (List Fetched)} (hasm : s.slv.asm = some (p, t)) (hc : slvCfg s.img p = some c)
    (h : s.InPeriod p x y) (hst : y.stage = .assembling) (hf : f = fetchAll c x.lasts (y.view.getD s.visible))
    (ht : t + cyclesTicks (asmCycles c (f.any fun l => l.any (·.refuse))) ≤ s.clock) :
    s.asmEnd = (s.modProb p (ProbSt.asmDone c y f (newLasts f x.lasts))).asmFreed p := by
  unfold State.asmEnd
  rw [hasm]
  dsimp only
  rw [hc, h.prob]
  dsimp only
  rw [h.per, Option.getD_some, ← hf, if_neg (Nat.not_lt.2 ht), if_neg (by simp [hst])]
  unfold ProbSt.asmDone
  split
  · rfl
  · next hr => simp only [asmStage, if_neg hr]; rfl

/-! ### Engine (R337, R341) -/

/-- A problem whose period is in the engine, which will answer `r`. -/
def ProbSt.solving (r : SolveRes) (x : ProbSt) : ProbSt :=
  { x with per := x.per.map fun y => { y with stage := .solving, res := r } }

theorem ProbSt.solving_per (r : SolveRes) (h : x.per = some y) :
    (x.solving r).per = some { y with stage := .solving, res := r } := by
  rw [ProbSt.solving, h, Option.map_some]

/-- The engine solves problem `p` from this tick on. -/
def State.engTaken (p : Nat) (s : State) : State := { s with slv := { s.slv with eng := some (p, s.clock) } }

/-- The engine takes the assembled period that comes next. -/
theorem State.solveBegin_takes (hrun : s.slvRun = true) (hidle : s.slv.eng = none) (hfree : s.slv.engFree ≤ s.clock)
    (hnext : s.slvNext .assembled = some p) (hc : slvCfg s.img p = some c) (hx : s.prob p = some x) :
    s.solveBegin = (s.modProb p (ProbSt.solving (solve c (x.mats.getD {}) x.ret))).engTaken p := by
  unfold State.solveBegin
  rw [if_neg (by simp [hrun, hidle, hfree]), hnext]
  dsimp only
  rw [hc, hx]
  rfl

/-- Where a solve's end leaves its period. -/
def SolveEnd.stage (e : SolveEnd) : PerStage := if e = .optimal then .checking else .decided (stopCode e)

/-- A problem with the engine's answer `r`, which took `k` cycles. -/
def ProbSt.handOver (r : SolveRes) (k : Nat) (x : ProbSt) : ProbSt :=
  { setStage r.stop.stage x with start := r.start, reg := r.reg, iter := min r.iter 255, cycles := k % 16777216 }

/-- The engine is free again from the next tick on, and an optimal solution waits for the residual unit. -/
def State.engFreed (p : Nat) (e : SolveEnd) (s : State) : State :=
  { s with slv := { s.slv with
      eng := none, engFree := s.clock + 1, resq := if e = .optimal then s.slv.resq ++ [p] else s.slv.resq } }

theorem State.solveEnd_handsOver (heng : s.slv.eng = some (p, t)) (ht : t + cyclesTicks k ≤ s.clock) (h : s.InPeriod p x y) :
    s.solveEnd k = (s.modProb p (ProbSt.handOver y.res k)).engFreed p y.res.stop := by
  unfold State.solveEnd
  rw [heng]
  dsimp only
  rw [if_neg (Nat.not_lt.2 ht), h.prob]
  dsimp only
  rw [h.per]
  dsimp only
  unfold State.engFreed ProbSt.handOver SolveEnd.stage
  by_cases ho : y.res.stop = .optimal
  · simp only [ho, decide_true, if_true]; rfl
  · simp only [ho, decide_false, if_false]; rfl

/-! ### Residual check (R347, R348, R356) -/

/-- A problem with the residuals that a check found. -/
def ProbSt.checked (r : Check) (x : ProbSt) : ProbSt := { x with presp := r.presp, presd := r.presd }

/-- The residual unit has taken the oldest solution, and the problem holds the residuals that it found. -/
def State.resTaken (p : Nat) (q : List Nat) (r : Check) (s : State) : State :=
  ({ s with slv := { s.slv with resq := q } } : State).modProb p (ProbSt.checked r)

theorem State.InPeriod.resTaken (h : s.InPeriod p x y) (r : Check) : (s.resTaken p q r).InPeriod p (x.checked r) y :=
  (h.of_probs (u := { s with slv := { s.slv with resq := q } }) rfl).modProb (ProbSt.checked r) (fun _ => rfl) h.per

/-- A problem whose check decides it with a status and a count of refusals in a row. -/
def ProbSt.judged (st n : Nat) (x : ProbSt) : ProbSt := setStage (.decided st) { x with rescons := n }

/-- The state in which a solution has been refused: the record RESIDUAL_FAIL names what the check found (R348). -/
def State.resRefused (p n iter : Nat) (r : Check) (s : State) : State :=
  (s.modProb p (ProbSt.judged 0x14 n)).record 0x0803 p 0
    (leBytes 1 p ++ leBytes 1 (min iter 255) ++ leBytes 4 r.presp.toNat ++ leBytes 4 r.presd.toNat)

theorem State.resRefused_slv (n iter : Nat) (r : Check) :
    (s.resRefused p n iter r).slv = (s.modProb p (ProbSt.judged 0x14 n)).slv := State.record_slv ..

theorem State.resRefused_slots (n iter : Nat) (r : Check) : (s.resRefused p n iter r).slots = s.slots := State.record_slots ..

/-- The function's fault at RESFAIL refusals in a row (R348, R356). -/
def State.resFault (p n : Nat) (s : State) : State :=
  let u := s.modProb p (ProbSt.judged 0x14 n)
  ({ u with slv := { u.slv with cause := 1 } } : State).funcFault 8 1 0

/-- What the residual check makes of the oldest solution handed over. -/
theorem State.residualCheck_eq {r : Check} (hq : s.slv.resq = p :: q) (hc : slvCfg s.img p = some c) (h : s.InPeriod p x y)
    (hr : residual c (x.mats.getD {}) y.res.x y.res.lam = r) : s.residualCheck =
      if r.ok then (s.resTaken p q r).modProb p (ProbSt.judged (b2n y.res.reg) 0)
      else if c.resfail ≤ x.rescons + 1 then (s.resTaken p q r).resFault p (x.rescons + 1)
      else (s.resTaken p q r).resRefused p (x.rescons + 1) y.res.iter r := by
  unfold State.residualCheck
  rw [hq]
  dsimp only
  rw [hc, h.prob]
  dsimp only
  rw [h.per]
  dsimp only
  rw [hr]
  rfl

/-- A solution in its bounds is the period's result. -/
theorem State.residualCheck_accepts {r : Check} (hq : s.slv.resq = p :: q) (hc : slvCfg s.img p = some c) (h : s.InPeriod p x y)
    (hr : residual c (x.mats.getD {}) y.res.x y.res.lam = r) (hok : r.ok = true) :
    s.residualCheck = (s.resTaken p q r).modProb p (ProbSt.judged (b2n y.res.reg) 0) :=
  (State.residualCheck_eq hq hc h hr).trans (if_pos hok)

/-- A solution out of its bounds is refused, and short of RESFAIL in a row the function goes on. -/
theorem State.residualCheck_refuses {r : Check} (hq : s.slv.resq = p :: q) (hc : slvCfg s.img p = some c) (h : s.InPeriod p x y)
    (hr : residual c (x.mats.getD {}) y.res.x y.res.lam = r) (hok : r.ok = false) (hn : x.rescons + 1 < c.resfail) :
    s.residualCheck = (s.resTaken p q r).resRefused p (x.rescons + 1) y.res.iter r := by
  rw [State.residualCheck_eq hq hc h hr, if_neg (by simp [hok]), if_neg (Nat.not_le.2 hn)]

/-! ### The statement -/

/-- Settles O33: each event is one change of the problem whose period it takes on, and of the unit that holds it. -/
theorem solverPeriodsRun : Obligations.SolverPeriodsRun := by
  refine ⟨?begins, ?ends, ?solves, ?hands, ?accepts, ?refuses⟩
  case begins =>
    rintro s a dt p rfl hrun hidle hfree hnext
    exact ⟨_, congrArg done (State.asmBegin_takes hrun hidle hfree hnext), rfl, State.prob_modProb _ fun _ => rfl, rfl⟩
  case ends =>
    rintro s a dt p t c x y f rfl hasm hc hx hy hst hf ht
    have h : (s.advance dt).InPeriod p x y := ⟨hx, hy⟩
    obtain ⟨w, hw, hstage⟩ := ProbSt.asmDone_stage (c := c) f (newLasts f x.lasts) hy
    have hu := h.modProb _ (ProbSt.asmDone_p f (newLasts f x.lasts)) hw
    exact ⟨_, _, w, congrArg done (State.asmEnd_assembles hasm hc h hst hf ht), rfl, rfl, hu.prob, hu.per, hstage, rfl⟩
  case solves =>
    rintro s a dt p c x y rfl hrun hidle hfree hnext hc hx hy
    have h : (s.advance dt).InPeriod p x y := ⟨hx, hy⟩
    have hu := h.modProb (ProbSt.solving (solve c (x.mats.getD {}) x.ret)) (fun _ => rfl) (ProbSt.solving_per _ hy)
    exact ⟨_, _, _, congrArg done (State.solveBegin_takes hrun hidle hfree hnext hc hx), rfl, hu.prob, hu.per, rfl, rfl, rfl⟩
  case hands =>
    rintro s a dt p t k x y rfl heng ht hx hy
    have h : (s.advance dt).InPeriod p x y := ⟨hx, hy⟩
    have hu := h.modProb (ProbSt.handOver y.res k) (fun _ => rfl) (setStage_per y.res.stop.stage hy)
    exact ⟨_, _, _, congrArg done (State.solveEnd_handsOver heng ht h), rfl, rfl, hu.prob, hu.per, rfl, rfl, rfl, rfl⟩
  case accepts =>
    rintro s a dt p q c x y rfl hq hc hx hy hok
    have h : (s.advance dt).InPeriod p x y := ⟨hx, hy⟩
    generalize hr : residual c (x.mats.getD {}) y.res.x y.res.lam = r at hok
    have hu := (h.resTaken (q := q) r).modProb (ProbSt.judged (b2n y.res.reg) 0) (fun _ => rfl) (setStage_per _ hy)
    have he := congrArg (fun u => done (State.slvAccepted u)) (State.residualCheck_accepts hq hc h hr hok)
    exact ⟨_, _, _, he, rfl, hu.prob, hu.per, rfl, rfl, rfl, rfl⟩
  case refuses =>
    rintro s a dt p q c x y rfl hq hc hx hy hok hn
    have h : (s.advance dt).InPeriod p x y := ⟨hx, hy⟩
    generalize hr : residual c (x.mats.getD {}) y.res.x y.res.lam = r at hok
    have hslv := State.resRefused_slv (s := (s.advance dt).resTaken p q r) (p := p) (x.rescons + 1) y.res.iter r
    have hu := ((h.resTaken (q := q) r).modProb (ProbSt.judged 0x14 (x.rescons + 1)) (fun _ => rfl)
      (setStage_per _ hy)).of_probs (congrArg Slv.probs hslv)
    have he := congrArg (fun u => done (State.slvAccepted u)) (State.residualCheck_refuses hq hc h hr hok hn)
    exact ⟨_, _, _, he, (congrArg Slv.resq hslv :), hu.prob, hu.per, rfl, rfl, State.resRefused_slots .., (congrArg Slv.fault hslv :)⟩

end Sys2Proof.Machine
end

section
/-! PROOFS. HART, pair and brake commands: the stages of R175, and what each leaves (R368, R433, R435, R457, R463, R464,
R469, R500, R502, R507). -/

namespace Sys2Proof.Machine

variable {a s : State} {sid req : Nat} {x : Session} {p : List Byte} {r : SmpReq} {y : ModemSt}

/-! ### HART_PASS (R368, R435) -/

/-- A HART_PASS has its layout and names a HART channel of the committed image, whose modem is `y`. -/
structure State.Passes (r : SmpReq) (y : ModemSt) (s : State) : Prop where
  head : 4 ≤ r.p.length
  data : (r.p.drop 4).length ≤ 251
  kind : r.num 0 1 ≤ 1
  addr : r.num 2 1 ≤ 63
  committed : s.committed = true
  given : hartGiven s.img (r.num 0 1) (r.num 1 1) = true
  modem : s.modem (modemOf (r.num 0 1 = 1) (r.num 1 1)) = some y

/-- The transaction that a HART_PASS asks for. -/
def passReq (r : SmpReq) : HartReq :=
  { sid := r.sid, req := r.req, ch := r.num 1 1, addr := r.num 2 1, cmd := r.num 3 1, data := r.p.drop 4 }

theorem State.Passes.short (hp : a.Passes r y) : r.p.length ≤ 1100 := by
  have h := hp.data
  rw [List.length_drop] at h
  omega

/-- A new request leaves what a HART_PASS looks at. -/
theorem State.Passes.taken (hp : a.Passes r y) (cmd : Nat) : (a.taken r.sid r.req cmd).Passes r y :=
  ⟨hp.head, hp.data, hp.kind, hp.addr, hp.committed, hp.given, hp.modem⟩

theorem State.Passes.allowed (hp : a.Passes r y) :
    ¬ (!a.committed || !hartGiven a.img (r.num 0 1) (r.num 1 1)) = true := by simp [hp.committed, hp.given]

/-- A pass-through waits in its modem's queue, unless one waits there: then it is BUSY. -/
theorem State.Asks.hartPass (h : a.Asks r.sid r.req x) (hrole : a.roleOk .engineer false x = true) (hp : a.Passes r y) :
    a.hartPass r = if y.queued.isSome then (a.taken r.sid r.req r.cmd).answer r.sid r.req 0x10 []
      else (a.taken r.sid r.req r.cmd).hartQueue y.modem (passReq r) := by
  have hfits := decide_eq_true (And.intro hp.head (And.intro hp.kind (And.intro hp.data hp.addr)))
  have hmodem := (hp.taken r.cmd).modem
  unfold State.hartPass
  cases hq : y.queued with
  | some z =>
    refine h.command hrole rfl hfits hp.short ((if_neg (hp.taken r.cmd).allowed).trans ?_)
    simp only [hmodem, hq]
    rfl
  | none =>
    refine h.commandLater hrole rfl hfits hp.short ((if_neg (hp.taken r.cmd).allowed).trans ?_)
    simp only [hmodem, hq]
    rfl

theorem exec_hartPass {dt : Nat} (h : (s.advance dt).Asks sid req x) (hrole : (s.advance dt).roleOk .engineer false x = true)
    (hp : (s.advance dt).Passes { sid := sid, req := req, cmd := 0x60, p := p } y) :
    exec (.hartPass dt sid req p) s = .next (finish (
      if y.queued.isSome then ((s.advance dt).taken sid req 0x60).answer sid req 0x10 []
      else ((s.advance dt).taken sid req 0x60).hartQueue y.modem (passReq { sid := sid, req := req, cmd := 0x60, p := p }))) :=
  congrArg done ((h.serve _).trans (State.Asks.hartPass (r := { sid := sid, req := req, cmd := 0x60, p := p }) h hrole hp))

/-! ### Hand-over (R500) -/

/-- A hand-over that may run, where none runs, is told to the partner with the second harvest after the request. -/
theorem State.requestHandover_tells (k : Nat) (hmay : s.mayHandOver = true) (hho : s.pair.ho = none) :
    s.requestHandover k = ({ s with pair := { s.pair with ho := some { hx := s.hAt s.clock + 2, kind := k } } } : State).sendBoth
      (.notice 1 0 (s.hAt s.clock + 2)) := if_pos (by simp [hmay, hho])

/-! ### The safety password (R469) -/

/-- The right password opens the session's safety unlock from this tick on, and the count of wrong ones starts again. -/
def State.unlocked (sid : Nat) (s : State) : State :=
  ({ s with so := { s.so with pwdFail := 0, pwdLock := none } } : State).modSession sid
    (fun y => { y with unlock := some s.clock }) |>.recordUnlock 0

theorem State.safetyUnlock_opens {pwd : List Byte} (hlock : s.pwdLocked = false) (hpwd : s.pwdOk pwd = true) :
    s.safetyUnlock x pwd = (s.unlocked x.sid, some (0, [])) := by
  unfold State.safetyUnlock
  rw [if_neg (by simp [hlock]), if_pos hpwd]
  rfl

/-- A new request leaves the password and the count of wrong ones. -/
theorem State.taken_pwd (cmd : Nat) (pwd : List Byte) :
    (a.taken sid req cmd).pwdLocked = a.pwdLocked ∧ (a.taken sid req cmd).pwdOk pwd = a.pwdOk pwd := ⟨rfl, rfl⟩

theorem State.Asks.safetyUnlock (h : a.Asks r.sid r.req x) (hrole : a.roleOk .engineer false x = true)
    (h8 : 8 ≤ r.p.length) (h32 : r.p.length ≤ 32) (hlock : a.pwdLocked = false) (hpwd : a.pwdOk r.p = true) :
    a.safetyUnlockCmd r = ((a.taken r.sid r.req r.cmd).unlocked r.sid).answer r.sid r.req 0 [] := by
  obtain ⟨hl, hk⟩ := State.taken_pwd (a := a) (sid := r.sid) (req := r.req) r.cmd r.p
  have hsid : x.sid = r.sid := (mem_of_findKey h.session).2
  refine h.command hrole rfl (decide_eq_true ⟨h8, h32⟩) (h32.trans (by decide)) ?_
  rw [State.safetyUnlock_opens (hl.trans hlock) (hk.trans hpwd), hsid]

theorem State.unlocked_session :
    (s.unlocked sid).session sid = (s.session sid).map fun y => { y with unlock := some s.clock } :=
  findKey_modifyKey sid (fun y => { y with unlock := some s.clock }) (fun _ => rfl) s.sessions

/-- `u` follows `s` by a right safety password. -/
structure Unlocks (s u : State) : Prop where
  fails : u.so.pwdFail = 0
  lock : u.so.pwdLock = none
  store : u.store = s.store
  mode : u.mode = s.mode

theorem State.unlocked_unlocks : Unlocks s (s.unlocked sid) := ⟨rfl, rfl, rfl, rfl⟩

/-! ### The statement -/

/-- Settles O15: each command passes the stages of R175, and its own condition picks the branch that carries it out. -/
theorem smpField : Obligations.SmpField := by
  refine ⟨?hart, ?handover, ?swaptest, ?clear, ?solo, ?test, ?unlock, ?soClear⟩
  case hart =>
    rintro s a dt sid req p x kind ch ad hc d y rfl h hrole hhead rfl rfl rfl rfl rfl hkind hdata had hcom hgiven hmodem hfree
    have hx := exec_hartPass h hrole ⟨hhead, hdata, hkind, had, hcom, hgiven, hmodem⟩
    rwa [hfree] at hx
  case handover =>
    rintro s a dt sid req p x rfl h hrole rfl hmode hmay hho
    refine congrArg done ((h.serve _).trans ?_)
    refine h.command (r := { sid := sid, req := req, cmd := 0x70, p := [] }) hrole rfl rfl (by simp) ?_
    have hgo : (((s.advance dt).taken sid req 0x70).mayHandOver &&
        ((s.advance dt).taken sid req 0x70).pair.ho.isNone) = true := Bool.and_intro hmay (by simp [State.taken, hho])
    refine (if_pos hmode).trans ((if_pos hgo).trans ?_)
    exact congrArg ok (State.requestHandover_tells 0 hmay hho)
  case swaptest =>
    rintro s a dt sid req p x rfl h hrole rfl hmode hpair hint
    refine congrArg done ((h.serve _).trans ?_)
    refine h.command (r := { sid := sid, req := req, cmd := 0x71, p := [] }) hrole rfl rfl (by simp) ?_
    exact if_pos ⟨hmode, hpair, hint⟩
  case clear =>
    rintro s a dt sid req p x rfl h hrole rfl hfail
    refine congrArg done ((h.serve _).trans ?_)
    refine h.command (r := { sid := sid, req := req, cmd := 0x72, p := [] }) hrole rfl rfl (by simp) ?_
    exact if_pos hfail
  case solo =>
    rintro s a dt sid req p x rfl h hrole rfl hmode hown hsilent hlost
    refine congrArg done ((h.serve _).trans ?_)
    refine h.command (r := { sid := sid, req := req, cmd := 0x73, p := [] }) hrole rfl rfl (by simp) ?_
    have hmay : (s.advance dt).maySolo = true := by simp [State.maySolo, hmode, hown, hsilent, hlost]
    exact if_pos hmay
  case test =>
    rintro s a dt sid req p x ch rfl h hrole hp rfl hch hmay
    refine congrArg done ((h.serve _).trans ?_)
    refine h.command (r := { sid := sid, req := req, cmd := 0x78, p := p }) hrole rfl
      (by simp [SmpReq.len, SmpReq.num, hp, hch]) (by simp [hp]) ?_
    exact if_pos hmay
  case unlock =>
    rintro s a dt sid req p x rfl h hrole h8 h32 hlock hpwd
    have hu := State.unlocked_unlocks (s := (s.advance dt).taken sid req 0x79) (sid := sid)
    have hx := State.Asks.safetyUnlock (r := { sid := sid, req := req, cmd := 0x79, p := p }) h hrole h8 h32 hlock hpwd
    refine ⟨_, congrArg done ((h.serve _).trans hx), hu.fails, hu.lock, ?_, hu.store, hu.mode⟩
    rw [State.unlocked_session, State.taken_session, h.session]
    rfl
  case soClear =>
    rintro s a dt sid req p x ch rfl h hrole hp rfl hch hkey hst
    refine congrArg done ((h.serve _).trans ?_)
    refine h.command (r := { sid := sid, req := req, cmd := 0x7A, p := p }) hrole rfl
      (by simp [SmpReq.len, SmpReq.num, hp, hch]) (by simp [hp]) ?_
    exact if_pos (Bool.and_intro (Bool.and_intro (decide_eq_true hkey) (decide_eq_true hst)) rfl)

end Sys2Proof.Machine
end

section
/-! PROOFS. Analog inputs and their HART modems: what a result leaves, and a transaction from its start to its end (R360 to
R368). -/

namespace Sys2Proof.Machine

variable {s u : State}

/-! ### A field that is the whole of its slot (R33, R34) -/

/-- The reference names all 32 bits of one slot. -/
def WholeSlot (r : SlotRef) : Prop := r = { slot := r.slot, bitpos := 0, widthM1 := 31, wide := false }

namespace WholeSlot

variable {r : SlotRef} (hr : WholeSlot r)
include hr

theorem put (w : W32) (v : Nat) : r.put w v = BitVec.ofNat 32 v := by
  have hw : w &&& ~~~(BitVec.ofNat 32 ((2 ^ (31 + 1) - 1) <<< 0)) = 0#32 := BitVec.and_zero
  have hv : BitVec.ofNat 32 ((v % 2 ^ (31 + 1)) <<< 0) = BitVec.ofNat 32 v :=
    BitVec.eq_of_toNat_eq (by simp [Nat.shiftLeft_zero])
  rw [hr, SlotRef.put]
  dsimp only
  rw [hw, hv]
  exact BitVec.zero_or

theorem ownSlot_writeRef (hi : r.slot < 65536) (v : Nat) (q : Byte) :
    (s.writeRef r v q).ownSlot r.slot = (BitVec.ofNat 32 v, q) := by
  have hwide : r.wide = false := by rw [hr]
  unfold State.writeRef
  rw [if_neg (by simp [hwide]), hr.put]
  exact State.ownSlot_writeSlot_same _ hi _ _

/-- What such a reference reads is the word in its slot. -/
theorem read (rd : Nat → Cell) : BitVec.ofNat 32 (r.read rd).1.toNat = (rd r.slot).1 := by
  rw [hr, SlotRef.read, if_neg (by simp)]
  refine BitVec.eq_of_toNat_eq ?_
  have h := (rd r.slot).1.isLt
  simp [field]
  omega

end WholeSlot

theorem SlotsOnly.fld (h : SlotsOnly s u) : u.fld = s.fld := by
  obtain ⟨m, rfl⟩ := h
  rfl

theorem SlotsOnly.img (h : SlotsOnly s u) : u.img = s.img := by
  obtain ⟨m, rfl⟩ := h
  rfl

theorem State.writeRef_slotsOnly (r : SlotRef) (v : Nat) (q : Byte) : SlotsOnly s (s.writeRef r v q) := by
  unfold State.writeRef
  split
  · exact (SlotsOnly.refl.writeSlot ..).writeSlot ..
  · exact SlotsOnly.refl.writeSlot ..

theorem State.writeOpt_slotsOnly (r : Option SlotRef) (v : Nat) (q : Byte) : SlotsOnly s (s.writeOpt r v q) := by
  cases r with
  | none => exact .refl
  | some r => exact State.writeRef_slotsOnly r v q

/-! ### Channels and modems, found again after a change -/

theorem State.ai_modAi {n : Nat} {x : AiSt} (f : AiSt → AiSt) (hf : ∀ z, (f z).n = z.n) (hx : s.ai n = some x) :
    (s.modAi n f).ai n = some (f x) :=
  (findKey_modifyKey_of_key _ n f hf _).trans (congrArg (Option.map f) hx)

theorem State.ai_of_fld {n : Nat} (h : u.fld = s.fld) : u.ai n = s.ai n := by
  rw [State.ai, State.ai, h]

theorem State.modem_modModem {m : Modem} {x : ModemSt} (f : ModemSt → ModemSt) (hf : ∀ z, (f z).modem = z.modem)
    (hx : s.modem m = some x) : (s.modModem m f).modem m = some (f x) := by
  have hkey (z : ModemSt) : (if z.modem = m then f z else z).modem = z.modem := by split <;> simp [hf]
  have hm : x.modem = m := by simpa using List.find?_some hx
  unfold State.modem at hx
  unfold State.modModem State.modem
  rw [List.find?_map]
  simp only [Function.comp_def, hkey]
  rw [hx, Option.map_some, if_pos hm]

/-! ### Results of a channel (R360 to R364) -/

/-- The filtered value that the result `v` gives the channel `x`. -/
def aiNext (c : AiCfg) (ok : Bool) (v : Int) (x : AiSt) : F32 :=
  if x.restart || (decide (condState x.cond = 0) && decide (condState (aiCond c ok v) ≠ 0)) then aiReal c v
  else aiFilter c.filt x.y (aiReal c v)

/-- A channel that has taken the result `v`, with the filtered value `y`. -/
def AiSt.taken (c : AiCfg) (ok : Bool) (v : Int) (y : F32) (x : AiSt) : AiSt :=
  { x with cond := aiCond c ok v, y := y, restart := false, raw := v, condL := x.condL || decide (aiCond c ok v ≠ 0) }

/-- The state whose channel has taken the result, before its slots are written. -/
def State.aiTaken (c : AiCfg) (ok : Bool) (v : Int) (x : AiSt) (s : State) : State :=
  (s.latchSet (0x8104 + 0x10 * c.ch) (65536 * b2n (aiCond c ok v != 0))).modAi c.ch (AiSt.taken c ok v (aiNext c ok v x))

section
variable {c : AiCfg} {ok : Bool} {v : Int} {x : AiSt}

theorem State.aiResult_eq (hx : s.ai c.ch = some x) (hf : x.faulted s = false) : s.aiResult c ok v =
    ((s.aiTaken c ok v x).writeOpt c.valBind (aiValue c (aiNext c ok v x)).toNat
      (mkQ (condState (aiCond c ok v)) false false false)).aiStatus c.ch := by
  unfold State.aiResult
  rw [hx]
  exact if_neg (by simp [hf])

theorem State.aiStatus_slotsOnly (n : Nat) : SlotsOnly s (s.aiStatus n) := by
  unfold State.aiStatus
  split
  · exact State.writeOpt_slotsOnly ..
  · exact .refl

theorem State.aiResult_fld (hx : s.ai c.ch = some x) (hf : x.faulted s = false) :
    (s.aiResult c ok v).fld = (s.aiTaken c ok v x).fld := by
  rw [State.aiResult_eq hx hf, (State.aiStatus_slotsOnly _).fld, (State.writeOpt_slotsOnly ..).fld]

/-- The channel has taken the result. -/
theorem State.aiResult_ai (hx : s.ai c.ch = some x) (hf : x.faulted s = false) :
    (s.aiResult c ok v).ai c.ch = some (x.taken c ok v (aiNext c ok v x)) := by
  have hy : (s.aiTaken c ok v x).ai c.ch = some (x.taken c ok v (aiNext c ok v x)) :=
    State.ai_modAi (AiSt.taken c ok v (aiNext c ok v x)) (fun _ => rfl) hx
  rw [State.ai_of_fld (State.aiResult_fld hx hf), hy]

theorem State.aiResult_supply (hx : s.ai c.ch = some x) (hf : x.faulted s = false) :
    (s.aiResult c ok v).fld.fsAi = s.fld.fsAi := by
  rw [State.aiResult_fld hx hf]
  rfl

/-- Without a filter the value slot takes the result itself (R364). -/
theorem aiNext_unfiltered (hfilt : c.filt = 0) : aiNext c ok v x = aiReal c v := by
  unfold aiNext aiFilter
  rw [if_pos hfilt, ite_self]

/-- The value slot of a channel without a status slot holds the value and the quality of the result. -/
theorem State.aiResult_slot {r : SlotRef} (hx : s.ai c.ch = some x) (hf : x.faulted s = false)
    (hc : aiCfg s.img c.ch = some c) (hstat : c.statBind = none) (hval : c.valBind = some r) (hr : WholeSlot r)
    (hi : r.slot < 65536) :
    (s.aiResult c ok v).ownSlot r.slot =
      (aiValue c (aiNext c ok v x), mkQ (condState (aiCond c ok v)) false false false) := by
  have hnone (t : State) (ht : t.img = s.img) : t.aiStatus c.ch = t := by
    unfold State.aiStatus
    rw [ht, hc]
    split
    · next hc' _ => rw [← Option.some.inj hc', hstat]; rfl
    · rfl
  rw [State.aiResult_eq hx hf, hnone _ (State.writeOpt_slotsOnly (s := s.aiTaken c ok v x) ..).img, hval]
  dsimp only [State.writeOpt]
  rw [hr.ownSlot_writeRef hi, BitVec.ofNat_toNat, BitVec.setWidth_eq]

end

/-! ### Scans and conversions (R360, R361) -/

/-- The field supply that a measurement reports. -/
def State.aiSupplied (ok : Bool) (s : State) : State := { s with fld := { s.fld with fsAi := ok } }

/-- A channel's conversion has ended. -/
def AiSt.converted (x : AiSt) : AiSt := { x with conv := none }

/-- The scan of an image with one channel, which it names. -/
theorem State.aiScan_one {c : AiCfg} {ok : Bool} {v : Int} (hrun : s.fieldRuns = true)
    (ht : s.tick % 400000 = s.img.fld.scanPhase) (hone : s.img.fld.ai = [c]) (htrig : c.trig = 0) :
    s.aiScan ok [(c.ch, v)] = (s.aiSupplied ok).aiResult c ok v := by
  have hlist : ((s.aiSupplied ok).img.fld.ai.filter fun c => decide (c.trig = 0)) = [c] := by
    have hone' : (s.aiSupplied ok).img.fld.ai = [c] := hone
    simp [hone', htrig]
  have hv : lookupD 0 c.ch [(c.ch, v)] = v := by simp [lookupD]
  unfold State.aiScan
  refine (if_neg (by simp [hrun, ht])).trans ?_
  exact (congrArg (List.foldl _ (s.aiSupplied ok)) hlist).trans (by rw [List.foldl_cons, List.foldl_nil, hv])

/-- 3,200 ticks after the trigger the conversion's result is taken. -/
theorem State.aiCommit_takes {n t : Nat} {c : AiCfg} {x : AiSt} {ok : Bool} {v : Int} (hc : aiCfg s.img n = some c)
    (hx : s.ai n = some x) (hconv : x.conv = some t) (hmode : s.mode = .active) (ht : t + 3200 ≤ s.clock) :
    s.aiCommit n ok v = ((s.aiSupplied ok).modAi n AiSt.converted).aiResult c ok v := by
  unfold State.aiCommit
  rw [hc, hx]
  dsimp only
  rw [hconv]
  exact if_pos (by simp [State.isActive, hmode, ht])

/-! ### HART transactions (R365, R366, R368) -/

section
variable {m : Modem} {x : ModemSt}

/-- A modem that is free, in a module whose field channels work. -/
structure State.ModemFree (m : Modem) (x : ModemSt) (s : State) : Prop where
  found : s.modem m = some x
  runs : s.fieldRuns = true
  free : x.run = none

/-- The pass-through that waits is the next transaction. -/
theorem State.hartStart_passes {q : HartReq} (h : s.ModemFree m x) (hq : x.queued = some q) :
    s.hartStart m = s.modModem m fun x =>
      { x with run := some (q.addr, q.cmd, 1, s.clock), ch := q.ch, passRun := some q, queued := none } := by
  unfold State.hartStart
  rw [h.found]
  refine (if_neg (by simp [h.runs, h.free])).trans ?_
  rw [hq]

/-- The modem's poll of the address `ad` of channel `n` begins: with command 0 until the address has answered it. -/
def ModemSt.polls (n ad now : Nat) (x : ModemSt) : ModemSt :=
  { x with run := some (ad, if (n, ad) ∈ x.known then 3 else 0, 1, now), ch := n, passRun := none }

/-- Without a pass-through the only address is polled. -/
theorem State.hartStart_polls {n ad : Nat} (h : s.ModemFree m x) (hq : x.queued = none) (hone : s.hartAddrs m = [(n, ad)]) :
    s.hartStart m = s.modModem m (ModemSt.polls n ad s.clock) := by
  unfold State.hartStart
  rw [h.found]
  refine (if_neg (by simp [h.runs, h.free])).trans ?_
  rw [hq, hone]
  dsimp only
  rw [List.length_singleton, Nat.max_self, Nat.mod_one]
  rfl

/-- The modem's transaction has been answered. -/
def ModemSt.ended (x : ModemSt) : ModemSt := { x with run := none, passRun := none }

/-- The address `p` has answered command 0. -/
def ModemSt.knows (p : Nat × Nat) (x : ModemSt) : ModemSt := { x with known := p :: x.known }

/-- A channel's device has answered with its status. -/
def AiSt.hartAnswered (dev : Byte) (x : AiSt) : AiSt := { x with hartOk := true, hstat := dev }

/-- The answer to command 0 of a poll at an analog input. -/
theorem State.hartResponse_first {n ad k t : Nat} {dev : Byte} {vs : List F32} {bs : List Byte} (hx : s.modem (.ai n) = some x)
    (hruns : s.fieldRuns = true) (hrun : x.run = some (ad, 0, k, t)) (hpass : x.passRun = none) :
    s.hartResponse (.ai n) false dev vs bs =
      ((s.modModem (.ai n) ModemSt.ended).modAi x.ch (AiSt.hartAnswered dev)).modModem (.ai n) (ModemSt.knows (x.ch, ad)) := by
  unfold State.hartResponse
  rw [hx]
  dsimp only
  rw [hrun]
  dsimp only
  rw [if_neg (by simp [hruns]), if_neg Bool.false_ne_true, hpass]
  rfl

/-- `u` follows `s` by the answer with status `dev` to command 0 for the address `ad`, of the modem `x` at analog input
`n`, whose channel is `z`. -/
structure HartAnswered (n ad : Nat) (dev : Byte) (x : ModemSt) (z : AiSt) (s u : State) : Prop where
  modem : u.modem (.ai n) = some (x.ended.knows (x.ch, ad))
  channel : u.ai x.ch = some (z.hartAnswered dev)
  slots : u.slots = s.slots

theorem State.hartResponse_answered {n ad k t : Nat} {dev : Byte} {z : AiSt} (vs : List F32) (bs : List Byte)
    (hx : s.modem (.ai n) = some x) (hruns : s.fieldRuns = true) (hrun : x.run = some (ad, 0, k, t)) (hpass : x.passRun = none)
    (hz : s.ai x.ch = some z) : HartAnswered n ad dev x z s (s.hartResponse (.ai n) false dev vs bs) := by
  rw [State.hartResponse_first hx hruns hrun hpass]
  have hended := State.modem_modModem ModemSt.ended (fun _ => rfl) hx
  exact {
    modem := State.modem_modModem (s := (s.modModem (.ai n) ModemSt.ended).modAi x.ch (AiSt.hartAnswered dev))
      (ModemSt.knows (x.ch, ad)) (fun _ => rfl) hended
    channel := State.ai_modAi (s := s.modModem (.ai n) ModemSt.ended) (AiSt.hartAnswered dev) (fun _ => rfl) hz
    slots := rfl }

/-- A channel whose transaction was not answered. -/
def AiSt.hartMissed (x : AiSt) : AiSt := { x with hartErr := satInc 65535 x.hartErr, hartErrL := true }

/-- The address `p` has to answer command 0 anew. -/
def ModemSt.forgets (p : Nat × Nat) (x : ModemSt) : ModemSt := { x with known := x.known.filter fun q => decide (q ≠ p) }

/-- The modem begins attempt `k`. -/
def ModemSt.retries (ad cmd k now : Nat) (x : ModemSt) : ModemSt := { x with run := some (ad, cmd, k, now) }

/-- A first or second attempt that fails is counted and repeated (R365). -/
theorem State.hartFail_retries {n ad cmd k t : Nat} (b : Byte) (hx : s.modem (.ai n) = some x) (hrun : x.run = some (ad, cmd, k, t))
    (hk : k < 3) : s.hartFail (.ai n) b =
      (((s.latchSet (0x8104 + 0x10 * x.ch) 131072).modAi x.ch AiSt.hartMissed).modModem (.ai n)
        (ModemSt.forgets (x.ch, ad))).modModem (.ai n) (ModemSt.retries ad cmd (k + 1) s.clock) := by
  unfold State.hartFail
  rw [hx]
  dsimp only
  rw [hrun]
  exact if_pos hk

/-- `u` follows `s` by a failed first attempt of the modem `x` at analog input `n`, whose channel is `z`. -/
structure HartRetried (n ad cmd : Nat) (x : ModemSt) (z : AiSt) (s u : State) : Prop where
  modem : u.modem (.ai n) = some ((x.forgets (x.ch, ad)).retries ad cmd 2 s.clock)
  channel : u.ai x.ch = some z.hartMissed
  slots : u.slots = s.slots

theorem State.hartFail_retried {n ad cmd t : Nat} {z : AiSt} (b : Byte) (hx : s.modem (.ai n) = some x)
    (hrun : x.run = some (ad, cmd, 1, t)) (hz : s.ai x.ch = some z) : HartRetried n ad cmd x z s (s.hartFail (.ai n) b) := by
  rw [State.hartFail_retries b hx hrun (by decide)]
  have hknown := State.modem_modModem (s := (s.latchSet (0x8104 + 0x10 * x.ch) 131072).modAi x.ch AiSt.hartMissed)
    (ModemSt.forgets (x.ch, ad)) (fun _ => rfl) hx
  exact {
    modem := State.modem_modModem (ModemSt.retries ad cmd 2 s.clock) (fun _ => rfl) hknown
    channel := State.ai_modAi (s := s.latchSet (0x8104 + 0x10 * x.ch) 131072) AiSt.hartMissed (fun _ => rfl) hz
    slots := rfl }

/-- An attempt whose 500 ms lie in the past fails. -/
theorem State.expire_hartAttempt_past {ad cmd k t : Nat} (hx : s.modem m = some x) (hruns : s.fieldRuns = true)
    (hrun : x.run = some (ad, cmd, k, t)) (ht : t + msTicks 500 < s.clock) :
    s.expire (.hartAttempt m) = s.freeW32.2.hartFail m (s.freeW32.1.setWidth 8) := by
  have hpast : s.deadline (.hartAttempt m) ≠ some s.clock := by
    simp only [State.deadline, hx, hrun, Option.bind_some, Option.map_some, ne_eq, Option.some.injEq]
    exact Nat.ne_of_lt ht
  refine (State.expire_past hpast).trans ?_
  change s.hartTimeout m = _
  unfold State.hartTimeout
  rw [hx]
  dsimp only
  rw [hrun]
  exact if_pos (by simp [hruns, Nat.le_of_lt ht])

/-- A free value counts the values given, and leaves the module as it is. -/
theorem State.freeW32_next : ∃ k, s.freeW32.2 = { s with freeCtr := k } := ⟨_, rfl⟩

/-- A first attempt whose 500 ms lie in the past is counted and repeated. -/
theorem State.expire_hartAttempt_retried {n ad cmd t : Nat} {z : AiSt} (hx : s.modem (.ai n) = some x)
    (hruns : s.fieldRuns = true) (hrun : x.run = some (ad, cmd, 1, t)) (ht : t + msTicks 500 < s.clock) (hz : s.ai x.ch = some z) :
    HartRetried n ad cmd x z s (s.expire (.hartAttempt (.ai n))) := by
  obtain ⟨k, hk⟩ := s.freeW32_next
  rw [State.expire_hartAttempt_past hx hruns hrun ht, hk]
  obtain ⟨hmodem, hai, hslots⟩ := State.hartFail_retried (s := { s with freeCtr := k }) (s.freeW32.1.setWidth 8) hx hrun hz
  exact ⟨hmodem, hai, hslots⟩

end

/-! ### Values that go stale (R366) -/

/-- A good value whose HSTALE lies in the past is UNCERTAIN and stale. -/
theorem State.expire_hartStale_past {k t : Nat} {e : HartEntry} (he : s.img.fld.hart[k]? = some e)
    (hl : s.fld.hlast[k]? = some (some t, false)) (hruns : s.fieldRuns = true) (hworks : s.unitWorks e.ao e.ch = true)
    (ht : t + msTicks (hstaleOf s.img e) < s.clock) :
    ∃ w, w = s.writeRef e.ref (s.ownSlot e.ref.slot).1.toNat (mkQ 1 false false true) ∧
      s.expire (.hartStale k) = { w with fld := { w.fld with hlast := modifyAt w.fld.hlast k fun p => (p.1, true) } } := by
  have hpast : s.deadline (.hartStale k) ≠ some s.clock := by
    simp only [State.deadline, he, hl, ne_eq, Option.some.injEq]
    exact Nat.ne_of_lt ht
  refine ⟨_, rfl, (State.expire_past hpast).trans ?_⟩
  change s.hartStale k = _
  unfold State.hartStale
  rw [he, hl]
  exact if_pos (by simp [hruns, hworks, Nat.le_of_lt ht])

/-! ### The statements -/

/-- Settles O34: each event is one operation on its channel or modem, found again after it, and the slots are written last. -/
theorem analogInputsRun : Obligations.AnalogInputsRun := by
  refine ⟨?scan, ?sample, ?reference, ?start, ?response, ?attempt, ?stale⟩
  case scan =>
    rintro s a dt ok v c x r rfl hruns ht hone htrig hx hf hval hi hr hstat hfilt
    have hc : aiCfg ((s.advance dt).aiSupplied ok).img c.ch = some c := by
      have hone' : ((s.advance dt).aiSupplied ok).img.fld.ai = [c] := hone
      simp [aiCfg, hone', findKey]
    have hx' : ((s.advance dt).aiSupplied ok).ai c.ch = some x := hx
    have hf' : x.faulted ((s.advance dt).aiSupplied ok) = false := hf
    have hslot := State.aiResult_slot (ok := ok) (v := v) hx' hf' hc hstat hval hr hi
    rw [aiNext_unfiltered hfilt] at hslot
    exact ⟨_, _, congrArg done (State.aiScan_one hruns ht hone htrig), State.aiResult_ai hx' hf', rfl, rfl, rfl, hslot,
      State.aiResult_supply hx' hf'⟩
  case sample =>
    rintro s a dt n t ok v c x rfl hc hx hconv hmode ht hf
    obtain rfl : c.ch = n := (mem_of_findKey hc).2
    have hx' : (((s.advance dt).aiSupplied ok).modAi c.ch AiSt.converted).ai c.ch = some x.converted :=
      State.ai_modAi AiSt.converted (fun _ => rfl) hx
    have hf' : AiSt.faulted (((s.advance dt).aiSupplied ok).modAi c.ch AiSt.converted) x.converted = false := hf
    exact ⟨_, _, congrArg done (State.aiCommit_takes hc hx hconv hmode ht), State.aiResult_ai hx' hf', rfl, rfl, rfl,
      State.aiResult_supply hx' hf'⟩
  case reference =>
    rintro s a dt n x rfl hx hruns hf
    refine congrArg done ?_
    unfold State.aiRefCheck
    rw [hx]
    exact if_neg (by simp [hruns, hf])
  case start =>
    rintro s a dt n ad m x rfl hx hruns hrun hq hone hnew
    have hy := State.modem_modModem (ModemSt.polls n ad (s.advance dt).clock) (fun _ => rfl) hx
    exact ⟨_, _, congrArg done (State.hartStart_polls ⟨hx, hruns, hrun⟩ hq hone), hy, by simp [ModemSt.polls, hnew], rfl, rfl⟩
  case response =>
    rintro s a dt ad k t n x z dev vs bs rfl hx hruns hrun hpass hz
    have hu := State.hartResponse_answered (dev := dev) vs bs hx hruns hrun hpass hz
    exact ⟨_, _, _, rfl, hu.modem, rfl, List.mem_cons_self, hu.channel, rfl, rfl, hu.slots⟩
  case attempt =>
    rintro s a dt ad cmd t n x z rfl hx hruns hrun ht hz
    have hu := State.expire_hartAttempt_retried hx hruns hrun ht hz
    exact ⟨_, _, _, rfl, hu.modem, rfl, hu.channel, rfl, rfl, hu.slots⟩
  case stale =>
    rintro s a dt k t e rfl he hl hruns hworks ht hi hr
    obtain ⟨w, hw, hx⟩ := State.expire_hartStale_past he hl hruns hworks ht
    have hfld : w.fld = (s.advance dt).fld := hw ▸ (State.writeRef_slotsOnly ..).fld
    have hslot : w.ownSlot e.ref.slot = (((s.advance dt).ownSlot e.ref.slot).1, mkQ 1 false false true) := by
      rw [hw, WholeSlot.ownSlot_writeRef hr hi, BitVec.ofNat_toNat, BitVec.setWidth_eq]
    refine ⟨_, congrArg done hx, hslot, ?_⟩
    simp [modifyAt, hfld, hl]

/-- Settles O56: a pass-through waits or is refused by what waits already, and the free modem takes the one that waits. -/
theorem passThroughQueues : Obligations.PassThroughQueues := by
  refine ⟨?waits, ?busy, ?begins⟩
  case waits =>
    rintro s a dt sid req p x y rfl h hrole hhead hlen hkind had hcom hgiven hmodem hfree
    have hdata : (p.drop 4).length ≤ 251 := by rw [List.length_drop]; omega
    have hx := exec_hartPass h hrole ⟨hhead, hdata, hkind, had, hcom, hgiven, hmodem⟩
    rwa [hfree] at hx
  case busy =>
    rintro s a dt sid req p x y z rfl h hrole hhead hlen hkind had hcom hgiven hmodem hfull
    have hdata : (p.drop 4).length ≤ 251 := by rw [List.length_drop]; omega
    have hx := exec_hartPass h hrole ⟨hhead, hdata, hkind, had, hcom, hgiven, hmodem⟩
    rwa [hfull] at hx
  case begins =>
    rintro s a dt m y z rfl hx hruns hrun hq
    exact congrArg done (State.hartStart_passes ⟨hx, hruns, hrun⟩ hq)

end Sys2Proof.Machine
end

section
/-! PROOFS. Digital channels: accepted levels, group supplies and channel faults (R378, R379, R382, R390, R391). -/

namespace Sys2Proof.Machine

variable {s u : State} {c : DioCfg} {r : SlotRef}

/-! ### Accepted levels (R379, R382) -/

/-- The channel list as every commit leaves it: channel `k` is `f k`, in its place. -/
structure State.DioList (f : Nat → DioSt) (s : State) : Prop where
  num : ∀ k, (f k).n = k
  list : s.fld.dio = (List.range 32).map f

theorem State.DioList.dio {f : Nat → DioSt} {n : Nat} (h : s.DioList f) (hn : n < 32) : s.dio n = f n := by
  unfold State.dio
  rw [h.list]
  simp [hn]

/-- Channel `n`, changed by `g`. -/
def dioChanged (n : Nat) (g : DioSt → DioSt) (f : Nat → DioSt) (k : Nat) : DioSt := if k = n then g (f k) else f k

theorem State.DioList.modDio {f : Nat → DioSt} (h : s.DioList f) (n : Nat) (g : DioSt → DioSt) (hg : ∀ z, (g z).n = z.n) :
    (s.modDio n g).DioList (dioChanged n g f) where
  num k := by
    unfold dioChanged
    split
    · exact (hg _).trans (h.num k)
    · exact h.num k
  list := by
    change modifyKey (·.n) n g s.fld.dio = _
    unfold modifyKey
    rw [h.list, List.map_map]
    refine List.map_congr_left fun k _ => ?_
    simp only [Function.comp, h.num, dioChanged]

theorem State.dio_of_fld (h : u.fld = s.fld) (n : Nat) : u.dio n = s.dio n := by
  rw [State.dio, State.dio, h]

/-- A channel whose pin level, first sampled in tick `t`, is accepted. -/
def DioSt.accepts (level : Bool) (t : Nat) (x : DioSt) : DioSt := { x with pin := level, cap := t }

/-- An accepted level enters the pin and, unless a fault stops the input, the slot. -/
theorem State.dioAccept_eq {n ago : Nat} {v : Bool} (hc : dioCfg s.img n = some c) (hruns : s.fieldRuns = true)
    (hfilt : usTicks c.filt ≤ ago) (hgoes : s.dioFaulted n = false ∨ c.kind = 1) :
    s.dioAccept n v ago = (s.modDio n (DioSt.accepts v (s.clock - ago))).dioWrite c := by
  unfold State.dioAccept
  rw [hc]
  refine (if_neg (by simp [hruns, hfilt])).trans (if_neg ?_)
  rcases hgoes with h | h <;> simp [h]

theorem State.dioWrite_slotsOnly (c : DioCfg) : SlotsOnly s (s.dioWrite c) := State.writeOpt_slotsOnly ..

/-- What a digital channel writes to its slot. -/
theorem State.dioWrite_slot (hb : c.bind = some r) (hr : WholeSlot r) (hi : r.slot < 65536) :
    (s.dioWrite c).ownSlot r.slot =
      (BitVec.ofNat 32 (b2n (if c.kind = 0 then (s.dio c.ch).pin != c.inv else (s.dio c.ch).pin)),
        if s.dioNoSupply c.ch || s.dioFaulted c.ch then qBad else qGood) := by
  unfold State.dioWrite
  rw [hb]
  exact hr.ownSlot_writeRef hi _ _

/-- The channel after its level has been accepted, as its slot is written. -/
theorem State.DioList.accepted {f : Nat → DioSt} {n : Nat} (h : s.DioList f) (hn : n < 32) (v : Bool) (t : Nat) :
    (s.modDio n (DioSt.accepts v t)).dio n = (f n).accepts v t := by
  rw [(h.modDio n (DioSt.accepts v t) fun _ => rfl).dio hn, dioChanged, if_pos rfl]

/-- An accepted level has entered the pin, with its time, and the slot, which is BAD without supply or under a fault. -/
theorem State.DioList.dioAccept {f : Nat → DioSt} {ago : Nat} {v : Bool} (h : s.DioList f) (hn : c.ch < 32)
    (hc : dioCfg s.img c.ch = some c) (hruns : s.fieldRuns = true) (hfilt : usTicks c.filt ≤ ago)
    (hgoes : s.dioFaulted c.ch = false ∨ c.kind = 1) (hb : c.bind = some r) (hr : WholeSlot r) (hi : r.slot < 65536) :
    (s.dioAccept c.ch v ago).dio c.ch = (f c.ch).accepts v (s.clock - ago) ∧
      (s.dioAccept c.ch v ago).ownSlot r.slot = (BitVec.ofNat 32 (b2n (if c.kind = 0 then v != c.inv else v)),
        if s.dioNoSupply c.ch || s.dioFaulted c.ch then qBad else qGood) := by
  have hacc := h.accepted hn v (s.clock - ago)
  have hsupply : (s.modDio c.ch (DioSt.accepts v (s.clock - ago))).dioNoSupply c.ch = s.dioNoSupply c.ch := rfl
  have hfault : (s.modDio c.ch (DioSt.accepts v (s.clock - ago))).dioFaulted c.ch = s.dioFaulted c.ch := by
    unfold State.dioFaulted
    rw [hacc, h.dio hn]
    rfl
  rw [State.dioAccept_eq hc hruns hfilt hgoes]
  refine ⟨(State.dio_of_fld (State.dioWrite_slotsOnly c).fld _).trans hacc, ?_⟩
  rw [State.dioWrite_slot hb hr hi, hacc, hsupply, hfault]
  rfl

/-! ### Group supplies (R378) -/

/-- The reading of a group's supply. -/
def State.dioSupplied (b ok : Bool) (s : State) : State :=
  if b then { s with fld := { s.fld with fsDioB := ok } } else { s with fld := { s.fld with fsDioA := ok } }

/-- `u` follows `s` by the reading `ok` of group `b`'s supply. -/
structure DioSupplied (b ok : Bool) (s u : State) : Prop where
  supply : (if b then u.fld.fsDioB else u.fld.fsDioA) = ok
  runs : u.fieldRuns = s.fieldRuns
  img : u.img = s.img
  chans : ∀ n, u.dio n = s.dio n
  faulted : ∀ n, u.dioFaulted n = s.dioFaulted n
  slots : u.slots = s.slots

theorem State.dioSupplied_supplied (b ok : Bool) (s : State) : DioSupplied b ok s (s.dioSupplied b ok) := by
  cases b <;> exact ⟨rfl, rfl, rfl, fun _ => rfl, fun _ => rfl, rfl⟩

/-- The group whose supply is there supplies its channels. -/
theorem DioSupplied.noSupply {b ok : Bool} {n : Nat} (h : DioSupplied b ok s u) (hb : decide (16 ≤ n) = b) :
    u.dioNoSupply n = !ok := by
  have hs := h.supply
  unfold State.dioNoSupply
  cases b with
  | false => rw [if_pos (Nat.not_le.1 (of_decide_eq_false hb)), ← hs]; rfl
  | true => rw [if_neg (Nat.not_lt.2 (of_decide_eq_true hb)), ← hs]; rfl

/-- The one channel of the image lies in the group and has no fault: its slot is written afresh, or marked BAD. -/
theorem State.dioSupply_one {b : Bool} (ok : Bool) (hruns : s.fieldRuns = true) (hone : s.img.fld.dio = [c])
    (hb : decide (16 ≤ c.ch) = b) (hf : s.dioFaulted c.ch = false) (hbind : c.bind = some r) :
    s.dioSupply b ok = if ok then (s.dioSupplied b ok).dioWrite c
      else (s.dioSupplied b ok).writeRef r (r.read (s.dioSupplied b ok).ownSlot).1.toNat qBad := by
  have h := s.dioSupplied_supplied b ok
  have hlist : ((s.dioSupplied b ok).img.fld.dio.filter fun c =>
      inGroup b c.ch && !(s.dioSupplied b ok).dioFaulted c.ch) = [c] := by
    rw [h.img, hone]
    simp [inGroup, hb, h.faulted, hf]
  have hon : ¬ (!(s.dioSupplied b ok).fieldRuns) = true := by simp [h.runs, hruns]
  unfold State.dioSupply
  refine (if_neg hon).trans ((congrArg (List.foldl _ (s.dioSupplied b ok)) hlist).trans ?_)
  rw [List.foldl_cons, List.foldl_nil, hbind]
  rfl

/-! ### Channel faults (R382, R390) -/

/-- An output channel with a supply and without a fault takes the fault `k`, if it drives or the fault is a MISMATCH. -/
theorem State.dioFail_raises {n k : Nat} (hc : dioCfg s.img n = some c) (hruns : s.fieldRuns = true)
    (hf : s.dioFaulted n = false) (hs : s.dioNoSupply n = false) (hkind : c.kind ≠ 0)
    (hdrv : k = 2 ∨ k = 1 ∧ (s.dio n).drv = true ∨ k = 3 ∧ c.oldet = true ∧ (s.dio n).drv = true) :
    s.dioFail n k = State.raiseScope 12 (some n) (fun s => s.record 0x0C01 n 0 (leBytes 1 k))
      (s.modDio n fun x => { x with cond := k }) := by
  unfold State.dioFail
  rw [hc]
  refine if_neg ?_
  rcases hdrv with rfl | ⟨rfl, h⟩ | ⟨rfl, ho, h⟩
  · simp [hruns, hf, hs, hkind]
  · simp [hruns, hf, hs, hkind, h]
  · simp [hruns, hf, hs, hkind, ho, h]

/-! ### The statement -/

/-- Settles O36: a level and a supply are taken, and then the slot is written; a fault is raised under its own condition. -/
theorem digitalChannelsRun : Obligations.DigitalChannelsRun := by
  refine ⟨?input, ?readback, ?loss, ?back, ?overload, ?mismatch, ?openload⟩
  case input =>
    rintro s a dt n ago v c f r rfl hc hruns hf rfl hkind hbind hn hsup hfilt hi hr hnum hlist
    obtain ⟨hdio, hslot⟩ := State.DioList.dioAccept (v := v) ⟨hnum, hlist⟩ (Nat.lt_trans hn (by decide)) hc hruns hfilt
      (.inl hf) hbind hr hi
    have hsupply : (s.advance dt).dioNoSupply c.ch = false := by simp [State.dioNoSupply, hn, hsup]
    rw [hsupply, hf, if_pos hkind] at hslot
    exact ⟨_, rfl, hdio, hslot⟩
  case readback =>
    rintro s a dt n ago v c f r rfl hc hruns hfault rfl hkind hbind hfilt hi hr hn hnum hlist
    obtain ⟨hdio, hslot⟩ := State.DioList.dioAccept (v := v) ⟨hnum, hlist⟩ hn hc hruns hfilt (.inr hkind) hbind hr hi
    have hf : (s.advance dt).dioFaulted c.ch = true := by simp [State.dioFaulted, hfault]
    rw [hf, Bool.or_true, if_neg (by simp [hkind])] at hslot
    exact ⟨_, rfl, congrArg DioSt.pin hdio, hslot⟩
  case loss =>
    rintro s a dt b c r rfl hruns hone hb hf hbind hi hr
    have hs := (s.advance dt).dioSupplied_supplied b false
    refine ⟨_, congrArg done ((State.dioSupply_one false hruns hone hb hf hbind).trans (if_neg Bool.false_ne_true)), ?_, ?_⟩
    · rw [WholeSlot.ownSlot_writeRef hr hi, WholeSlot.read hr, State.ownSlot_congr hs.slots]
    · rw [(State.writeRef_slotsOnly ..).fld]
      exact hs.supply
  case back =>
    rintro s a dt b c r rfl hruns hone hb hf hkind hbind hi hr
    have hs := (s.advance dt).dioSupplied_supplied b true
    refine ⟨_, congrArg done ((State.dioSupply_one true hruns hone hb hf hbind).trans (if_pos rfl)), ?_, ?_⟩
    · rw [(State.dioWrite_slotsOnly c).fld]
      exact hs.supply
    · rw [State.dioWrite_slot hbind hr hi, hs.noSupply hb, hs.faulted, hf, hs.chans, if_pos hkind]
      rfl
  case overload =>
    rintro s a dt n c rfl hc hruns hf hs hkind hdrv
    exact congrArg done (State.dioFail_raises hc hruns hf hs hkind (.inr (.inl ⟨rfl, hdrv⟩)))
  case mismatch =>
    rintro s a dt n c rfl hc hruns hf hs hkind
    exact congrArg done (State.dioFail_raises hc hruns hf hs hkind (.inl rfl))
  case openload =>
    rintro s a dt n c rfl hc hruns hf hs hkind hol hdrv
    exact congrArg done (State.dioFail_raises hc hruns hf hs hkind (.inr (.inr ⟨rfl, hol, hdrv⟩)))

end Sys2Proof.Machine
end

section
/-! PROOFS. A CAN channel's command registers: POP of its FIFOs, REQ and CANCEL of its buffers (R399, R403, R404, R408). -/

namespace Sys2Proof.Machine

variable {s a : State} {m : Master} {reg : RegId} {n i k v : Nat} {c : CanSt} {b : TxBuf} {e : RxFrame} {r : List RxFrame}
  {one : Bool}

/-! ### The writes of command registers (R125, R129) -/

/-- The registers whose writes command a channel, all their fields behind a tollgate. -/
def canCommandIds : List RegId := [.canRxfPop, .canTxbCtl]

theorem regRow_canCommand :
    ∀ reg ∈ canCommandIds, (regRow reg).Alone ∧ (regRow reg).wordWritten = true ∧ (regRow reg).n1 = 4 := by
  unfold RegRow.Alone
  decide +kernel

/-- An admitted write of a register that stands alone in the map commits, with nothing to take back. -/
theorem State.Admits.commits_alone (ha : a.Admits m ((regRow reg).addr i)) (halone : (regRow reg).Alone)
    (hword : (regRow reg).wordWritten = true) (hi : i < (regRow reg).n1) :
    a.Commits m ((regRow reg).reg i) ((regRow reg).addr i) ∧
      a.overrule m ((regRow reg).reg i) ((regRow reg).addr i) = a := by
  have hat := halone.regAt hi
  obtain ⟨h, hat', hon, hguard⟩ := ha.mapped
  obtain rfl : (regRow reg).reg i = h := Option.some.inj (hat.symm.trans hat')
  have hal := hword
  simp only [RegRow.wordWritten, Bool.and_eq_true, decide_eq_true_eq] at hal
  obtain ⟨-, -, -, -, -, hbase, hs⟩ := hal
  refine ⟨⟨hat, hword, ?_, hon, hguard, ha.first, ha.quiet⟩, ?_⟩
  · unfold RegRow.addr
    rw [Nat.add_mod, hbase, Nat.mul_mod, hs, Nat.zero_mul]
  · unfold State.overrule
    rw [State.undoWrite_of_alone _ _ ha.alone, ite_self]

/-- An admitted write of a command register leaves its effect, and beside it changes the bus and its writer's tollgate. -/
theorem State.Admits.commands (ha : a.Admits m ((regRow reg).addr n)) (hreg : reg ∈ canCommandIds) (hn : n < 4)
    (hv : v < 2 ^ 32) : ∃ b c q ss, a.regWriteBy m ((regRow reg).addr n) 4 v =
      { ({ a with bus := b } : State).writeFx m ((regRow reg).reg n) (v &&& (regRow reg).wr) c with
        seqm := q, sessions := ss } := by
  obtain ⟨halone, hword, hcount⟩ := regRow_canCommand reg hreg
  obtain ⟨hc, hover⟩ := ha.commits_alone halone hword (hcount ▸ hn)
  obtain ⟨b, w, hfx⟩ := State.commitWrite_eq m ((regRow reg).reg n) ((regRow reg).addr n) v a
  obtain ⟨q, ss, htg⟩ := State.closeTg_eq (s := a) (m := m) (h := (regRow reg).reg n) (addr := (regRow reg).addr n)
    (({ a with bus := b } : State).writeFx m ((regRow reg).reg n) (v &&& (regRow reg).wr) w)
  refine ⟨b, w, q, ss, ?_⟩
  rw [hc.regWriteBy ha.master hv, hover, hfx]
  exact htg

theorem pop_bits (hk : k < 256) :
    (k % 256 + 256) &&& 0x1FF = k + 256 ∧ bit (k + 256) 8 = true ∧ (k + 256) % 256 = k := by
  refine ⟨?_, ?_, by omega⟩
  · rw [Nat.and_two_pow_sub_one_eq_mod _ 9]
    omega
  · rw [bit, Nat.testBit_eq_decide_div_mod_eq]
    exact decide_eq_true (by omega)

/-- POP of number `k` acts on the FIFO that its master's window selects (R408). -/
theorem State.Admits.writePop (ha : a.Admits m (0x7060 + 0x400 * n)) (hn : n < 4) (hk : k < 256)
    (hsel : ((a.win m).canSel.getD n 0 == 1) = one) :
    ∃ b q ss, a.fieldWrite m 0x7060 4 0x400 n (k % 256 + 256) =
      { ({ a with bus := b } : State).canPop n one k with seqm := q, sessions := ss } := by
  obtain ⟨b, c, q, ss, hw⟩ := ha.commands (reg := .canRxfPop) (v := k % 256 + 256) (by decide) hn (by omega)
  obtain ⟨hmask, hpop, hnum⟩ := pop_bits hk
  have hfx (u : State) : u.writeFx m ((regRow .canRxfPop).reg n) ((k % 256 + 256) &&& (regRow .canRxfPop).wr) c =
      u.canPop n ((u.win m).canSel.getD n 0 == 1) k := by
    change u.fxCan m .canRxfPop n 0 ((k % 256 + 256) &&& 0x1FF) c = _
    simp only [hmask, State.fxCan, hpop, hnum, if_true]
  have hwin : (((({ a with bus := b } : State).win m).canSel.getD n 0) == 1) = one := hsel
  rw [hfx, hwin] at hw
  exact ⟨b, q, ss, (if_pos hn).trans hw⟩

/-- REQ acts on the buffer that its master's window selects (R404). -/
theorem State.Admits.writeReq (ha : a.Admits m (0x710C + 0x400 * n)) (hn : n < 4) :
    ∃ b q ss, a.fieldWrite m 0x710C 4 0x400 n 1 =
      { ({ a with bus := b } : State).canReq n ((a.win m).canTx.getD n 0) with seqm := q, sessions := ss } := by
  obtain ⟨b, c, q, ss, hw⟩ := ha.commands (reg := .canTxbCtl) (v := 1) (by decide) hn (by decide)
  exact ⟨b, q, ss, (if_pos hn).trans hw⟩

/-- CANCEL acts on the buffer that its master's window selects (R403). -/
theorem State.Admits.writeCancel (ha : a.Admits m (0x710C + 0x400 * n)) (hn : n < 4) :
    ∃ b q ss, a.fieldWrite m 0x710C 4 0x400 n 2 =
      { ({ a with bus := b } : State).canCancel n ((a.win m).canTx.getD n 0) with seqm := q, sessions := ss } := by
  obtain ⟨b, c, q, ss, hw⟩ := ha.commands (reg := .canTxbCtl) (v := 2) (by decide) hn (by decide)
  exact ⟨b, q, ss, (if_pos hn).trans hw⟩

/-! ### Changes of a channel and of its buffers -/

/-- A change of the channel that keeps its number is found there. -/
theorem State.findKey_modCan (hfound : findKey (·.n) n s.can = some c) (f : CanSt → CanSt) (hf : ∀ y, (f y).n = y.n) :
    findKey (·.n) n (s.modCan n f).can = some (f c) := by
  unfold State.modCan
  rw [findKey_modifyKey_of_key _ _ _ hf, hfound, Option.map_some]

theorem getElem?_modifyAt_self {α : Type} {l : List α} {x : α} (hx : l[i]? = some x) (f : α → α) :
    (modifyAt l i f)[i]? = some (f x) := by
  simp [modifyAt, hx]

/-! ### POP, REQ and CANCEL -/

/-- The channel with `r` left in one of its FIFOs, whose overflow is recorded anew once it has been empty (R407). -/
def CanSt.popped (one : Bool) (r : List RxFrame) (c : CanSt) : CanSt :=
  if one then { c with fifo1 := r, ovfRec1 := c.ovfRec1 && !r.isEmpty }
  else { c with fifo0 := r, ovfRec0 := c.ovfRec0 && !r.isEmpty }

theorem CanSt.popped_n (c : CanSt) : (c.popped one r).n = c.n := by
  cases one <;> rfl

/-- A POP that names the head's number removes it. -/
theorem State.canPop_head (hc : s.can1 n = c) (hfifo : (if one then c.fifo1 else c.fifo0) = e :: r) :
    s.canPop n one e.seqn = s.modCan n (CanSt.popped one r) := by
  unfold State.canPop
  dsimp only
  rw [hc, hfifo]
  exact if_pos rfl

/-- A POP that names another number sets POPERR. -/
theorem State.canPop_other (hc : s.can1 n = c) (hfifo : (if one then c.fifo1 else c.fifo0) = e :: r) (hk : k ≠ e.seqn) :
    s.canPop n one k = s.canEvt n 512 id := by
  unfold State.canPop
  dsimp only
  rw [hc, hfifo]
  exact if_neg hk.symm

/-- A buffer that a REQ has made pending. -/
def TxBuf.requested (b : TxBuf) : TxBuf := { b with st := .pending, attempts := 0, clash := 0, cancel := false }

/-- A frame that CAN can send: BRS and lengths above 8 bytes in FD frames alone, RTR in others alone, and a base identifier
of 11 bits (R404). -/
structure TxBuf.SoundFrame (b : TxBuf) : Prop where
  brs : b.brs = true → b.fdf = true
  rtr : b.rtr = true → b.fdf = false
  dlc : b.fdf = false → b.dlc ≤ 8
  ident : b.ide = false → b.ident < 2048

/-- A REQ that no condition of R404 refuses makes its buffer pending. -/
theorem State.canReq_pends {g : CanCfg} (hc : s.can1 n = c) (hcfg : canCfg s.img n = some g) (hlisten : g.listen = false)
    (hb : c.bufs[i]? = some b) (hpend : b.st ≠ .pending) (hact : b.st ≠ .active) (hmode : s.mode = .active) (hoff : c.st ≠ 0)
    (hbus : c.st ≠ 5) (hframe : b.SoundFrame) : s.canReq n i = s.modBuf n i TxBuf.requested := by
  obtain ⟨hbrs, hrtr, hdlc, hident⟩ := hframe
  have hbuf : c.bufs.getD i {} = b := by rw [List.getD_eq_getElem?_getD, hb, Option.getD_some]
  have hactive : s.isActive = true := decide_eq_true hmode
  unfold State.canReq
  dsimp only
  rw [hc, hcfg, hbuf]
  refine if_neg ?_
  rintro (h | h | h | h | h | h | ⟨h, hfd⟩ | ⟨h, hfd⟩ | ⟨h, hfd⟩ | ⟨hbase, h⟩)
  · exact hpend h
  · exact hact h
  · exact nomatch hactive.symm.trans h
  · exact hoff h
  · exact hbus h
  · exact nomatch hlisten.symm.trans h
  · exact nomatch hfd.symm.trans (hbrs h)
  · exact nomatch hfd.symm.trans (hrtr h)
  · exact absurd (hdlc hfd) (Nat.not_le.2 h)
  · exact absurd (hident hbase) (Nat.not_lt.2 h)

/-- A buffer that a CANCEL has met while it was pending or active: an attempt in progress is its last (R403). -/
def TxBuf.cancelled (b : TxBuf) : TxBuf :=
  if b.st = .pending then { b with st := .cancelled } else { b with cancel := true }

theorem State.canCancel_bufs (hfound : findKey (·.n) n s.can = some c) (hb : c.bufs[i]? = some b)
    (hst : b.st = .pending ∨ b.st = .active) :
    ∃ d, findKey (·.n) n (s.canCancel n i).can = some d ∧ d.bufs[i]? = some b.cancelled := by
  refine ⟨_, State.findKey_modCan hfound _ fun _ => rfl, (getElem?_modifyAt_self hb _).trans ?_⟩
  rcases hst with h | h <;> simp [TxBuf.cancelled, h]

/-- Settles O39: each admitted write comes down to the channel's operation, which changes the FIFO or the buffer that the
window names. -/
theorem canRegistersCommand : Obligations.CanRegistersCommand := by
  refine ⟨?pop0, ?pop1, ?popOther, ?req, ?cancel⟩
  case pop0 =>
    rintro s a dt n m c e r rfl hn ha hc hfound hfifo hsel hseq
    obtain ⟨b, q, ss, hw⟩ := ha.writePop (one := false) hn hseq (by rw [hsel]; rfl)
    rw [State.canPop_head (s := { s.advance dt with bus := b }) (one := false) hc hfifo] at hw
    have hd := State.findKey_modCan hfound (CanSt.popped false r) CanSt.popped_n
    exact ⟨_, _, congrArg done hw, hd, rfl, rfl, rfl, rfl, rfl⟩
  case pop1 =>
    rintro s a dt n m c e r rfl hn ha hc hfound hfifo hsel hseq
    obtain ⟨b, q, ss, hw⟩ := ha.writePop (one := true) hn hseq (by rw [hsel]; rfl)
    rw [State.canPop_head (s := { s.advance dt with bus := b }) (one := true) hc hfifo] at hw
    have hd := State.findKey_modCan hfound (CanSt.popped true r) CanSt.popped_n
    exact ⟨_, _, congrArg done hw, hd, rfl, rfl, rfl, rfl, rfl⟩
  case popOther =>
    rintro s a dt n m k c e r rfl hn ha hc hfound hfifo hsel hk hne
    obtain ⟨b, q, ss, hw⟩ := ha.writePop (one := false) hn hk (by rw [hsel]; rfl)
    rw [State.canPop_other (s := { s.advance dt with bus := b }) (one := false) hc hfifo hne] at hw
    have hd := State.findKey_modCan hfound (fun y => { y with evt := y.evt ||| BitVec.ofNat 11 512 }) fun _ => rfl
    exact ⟨_, _, congrArg done hw, hd, rfl, rfl, rfl⟩
  case req =>
    rintro s a dt n m i c g b rfl hn ha hc hfound hcfg hlisten rfl hb hpend hact hmode hoff hbus hbrs hrtr hdlc hident
    obtain ⟨u, q, ss, hw⟩ := ha.writeReq hn
    rw [State.canReq_pends (s := { s.advance dt with bus := u }) hc hcfg hlisten hb hpend hact hmode hoff hbus
      ⟨hbrs, hrtr, hdlc, hident⟩] at hw
    exact ⟨_, _, congrArg done hw, State.findKey_modCan (s := s.advance dt) hfound _ fun _ => rfl,
      getElem?_modifyAt_self hb _, rfl, rfl⟩
  case cancel =>
    rintro s a dt n m i c b rfl hn ha hc hfound rfl hb hst
    obtain ⟨u, q, ss, hw⟩ := ha.writeCancel hn
    obtain ⟨d, hd, hbuf⟩ := State.canCancel_bufs (s := { s.advance dt with bus := u }) hfound hb hst
    exact ⟨_, d, congrArg done hw, hd, hbuf, rfl⟩

end Sys2Proof.Machine
end

section
/-! PROOFS. A CAN channel on its bus: integration, arbitration, the ends of attempts, BUS_OFF and receive errors (R393, R396,
R397, R399, R400, R402). -/

namespace Sys2Proof.Machine

variable {s : State} {n i : Nat} {c : CanSt} {g : CanCfg} {b : TxBuf} {res : TxEnd}

/-! ### Error states (R396) -/

theorem State.ChanAt.congr {t : State} (h : s.ChanAt n c) (hcan : t.can = s.can) : t.ChanAt n c :=
  ⟨hcan ▸ h.found, hcan ▸ h.place⟩

theorem State.ChanAt.canEvt (h : s.ChanAt n c) (k : Nat) {f : CanSt → CanSt} (hf : ∀ y, (f y).n = y.n) :
    (s.canEvt n k f).ChanAt n { f c with evt := (f c).evt ||| BitVec.ofNat 11 k } :=
  (h.congr (t := s.latchSet (0x701C + 0x400 * n) k) rfl).modCan
    (f := fun y => { f y with evt := (f y).evt ||| BitVec.ofNat 11 k }) hf

@[simp] theorem State.modCan_log (f : CanSt → CanSt) : (s.modCan n f).log = s.log := rfl

theorem State.ChanAt.modBuf (h : s.ChanAt n c) (i : Nat) (f : TxBuf → TxBuf) :
    (s.modBuf n i f).ChanAt n { c with bufs := modifyAt c.bufs i f } :=
  h.modCan (f := fun y => { y with bufs := modifyAt y.bufs i f }) fun _ => rfl

/-- ERROR_ACTIVE with both counters at most 127. -/
structure CanSt.ErrorActive (c : CanSt) : Prop where
  state : c.st = 2
  tec : c.tec ≤ 127
  recv : c.recv ≤ 127

theorem CanSt.ErrorActive.not_passive (h : c.ErrorActive) : ¬ (127 < c.tec ∨ 127 < c.recv) := by
  have := h.tec
  have := h.recv
  omega

/-- The counters leave an ERROR_ACTIVE channel as it is up to 127. -/
theorem State.ChanAt.canJudge (h : s.ChanAt n c) (hc : c.ErrorActive) : s.canJudge n = s := by
  have htec : ¬ 255 < c.tec := fun hlt => hc.not_passive (.inl (by omega))
  unfold State.canJudge
  simp [h.can1, hc.state, htec, hc.not_passive]

/-- Fewer than 16 ACK errors in a row do not make a channel ALONE. -/
theorem State.ChanAt.canAlone (h : s.ChanAt n c) (hack : c.ackCons < 16) : s.canAlone n = s := by
  unfold State.canAlone
  rw [h.can1]
  exact if_neg fun hm => absurd hm.2 (Nat.not_le.2 hack)

/-- A channel that is ERROR_ACTIVE without ACK errors passes both judgements as it is. -/
theorem State.ChanAt.judged (h : s.ChanAt n c) (hc : c.ErrorActive) (hack : c.ackCons = 0) :
    (s.canJudge n).canAlone n = s := by
  rw [h.canJudge hc, h.canAlone (by omega)]

/-- The channel with its run of ACK errors ended. -/
def CanSt.heard (c : CanSt) : CanSt := { c with ackCons := 0 }

/-- A frame heard ends nothing but the run of ACK errors where the channel is not ALONE. -/
theorem State.ChanAt.canHeard (h : s.ChanAt n c) (hst : c.st ≠ 4) : s.canHeard n = s.modCan n CanSt.heard := by
  unfold State.canHeard
  rw [h.can1]
  exact if_neg hst

/-! ### Arbitration (R402) -/

/-- The channel with the frame `q` of its own queue in transmission. -/
def CanSt.sends (q : QFrame) (c : CanSt) : CanSt :=
  { c with active := some (.queue q), queue := dropFirst (fun x => decide (x = q)) c.queue }

/-- The only frame that is offered wins, and the channel sends it. -/
theorem State.canArbitrate_queue {q : QFrame} (hruns : s.canRuns n = true) (hmode : s.mode = .active)
    (hcfg : canCfg s.img n = some g) (hlisten : g.listen = false) (hidle : (s.can1 n).active = none)
    (hst : (s.can1 n).st ∈ [2, 3, 4]) (hoffers : (s.can1 n).offers = [(frameKey q.frame, .queue q, q.frame)]) :
    s.canArbitrate n = (s.modCan n (CanSt.sends q)).emit (.canSof n { q.frame with
      esi := q.frame.fdf && decide (127 < (s.can1 n).tec ∨ 127 < (s.can1 n).recv) }) := by
  have hactive : s.isActive = true := decide_eq_true hmode
  unfold State.canArbitrate
  dsimp only
  rw [if_neg (by simp [hruns, hactive, hcfg, hlisten, hidle, hst]), hoffers]
  rfl

/-! ### The end of an attempt (R397, R399, R400, R403) -/

/-- The channel as an attempt with the frame of key `k` ends: `meas` says whether TDCV was measured. -/
def CanSt.attempted (res : TxEnd) (passive : Bool) (more : Nat) (meas : Bool) (tdcv k : Nat) (c : CanSt) : CanSt :=
  { c with
    active := none
    tec := tecAfter res passive more c.tec
    tdcv := if meas then some (min tdcv 127) else c.tdcv
    ackCons := if isAckErr res then satInc 255 c.ackCons else 0
    clashRec := if res = .sent then c.clashRec.filter fun x => decide (x ≠ k) else c.clashRec }

/-- The buffer as its attempt leaves it. -/
def TxBuf.after (fate : After) (b : TxBuf) : TxBuf :=
  match fate with
  | .final x => { b with st := x, cancel := false, clash := 0 }
  | .again k => { b with st := .pending, clash := k }

/-- The counters and the buffer after the buffer's attempt, which the channel `c` has in transmission. -/
def State.bufAttempted (n i : Nat) (res : TxEnd) (meas : Bool) (tdcv : Nat) (c : CanSt) (b : TxBuf) (s : State) : State :=
  (s.modCan n (CanSt.attempted res (decide (127 < c.tec ∨ 127 < c.recv)) 0 meas tdcv (clashKey b.frame))).modBuf n i
    (TxBuf.after (afterAttempt res (decide (c.st = 4)) b.cancel b.clash))

@[simp] theorem State.bufAttempted_slots (meas : Bool) (tdcv : Nat) :
    (s.bufAttempted n i res meas tdcv c b).slots = s.slots := rfl

@[simp] theorem State.bufAttempted_log (meas : Bool) (tdcv : Nat) :
    (s.bufAttempted n i res meas tdcv c b).log = s.log := rfl

theorem State.ChanAt.bufAttempted (h : s.ChanAt n c) (hc : c.ErrorActive) (meas : Bool) (tdcv : Nat) :
    (s.bufAttempted n i res meas tdcv c b).ChanAt n { c.attempted res false 0 meas tdcv (clashKey b.frame) with
      bufs := modifyAt c.bufs i (TxBuf.after (afterAttempt res false b.cancel b.clash)) } := by
  have hcounts : decide (127 < c.tec ∨ 127 < c.recv) = false := decide_eq_false hc.not_passive
  have halone : decide (c.st = 4) = false := by rw [hc.state]; rfl
  unfold State.bufAttempted
  rw [hcounts, halone]
  exact (h.modCan (f := CanSt.attempted res false 0 meas tdcv (clashKey b.frame)) fun _ => rfl).modBuf i _

/-- The third clash in a row of a frame is counted, and recorded once (R397). -/
def State.noteClash (n : Nat) (f : CanFrame) (s : State) : State :=
  let u := s.canEvt n 8 fun c => { c with clashes := satInc 0x7FFF c.clashes }
  if (u.can1 n).clashRec.contains (clashKey f) then u
  else (u.modCan n fun c => { c with clashRec := clashKey f :: c.clashRec }).record 0x0905 n 0 (leBytes 4 f.ident)

theorem State.noteClash_slots (f : CanFrame) : (s.noteClash n f).slots = s.slots := by
  unfold State.noteClash
  dsimp only
  split <;> rfl

theorem State.ChanAt.noteClash (h : s.ChanAt n c) (f : CanFrame) : ∃ l, clashKey f ∈ l ∧ (s.noteClash n f).ChanAt n
    { c with evt := c.evt ||| BitVec.ofNat 11 8, clashes := satInc 0x7FFF c.clashes, clashRec := l } := by
  have hevt := h.canEvt 8 (f := fun c => { c with clashes := satInc 0x7FFF c.clashes }) fun _ => rfl
  unfold State.noteClash
  dsimp only
  rw [hevt.can1]
  split
  · next hknown => exact ⟨c.clashRec, List.contains_iff_mem.1 hknown, hevt⟩
  · exact ⟨clashKey f :: c.clashRec, List.mem_cons_self,
      (hevt.modCan (f := fun c => { c with clashRec := clashKey f :: c.clashRec }) fun _ => rfl).congr rfl⟩

/-- What the end of a buffer's attempt does before the channel's own state is judged: the counters and the buffer change, a
third clash is noted, and a frame that is sent is heard. -/
def State.bufEnded (n i : Nat) (res : TxEnd) (meas : Bool) (tdcv : Nat) (c : CanSt) (b : TxBuf) (s : State) : State :=
  let u := s.bufAttempted n i res meas tdcv c b
  let v := if afterAttempt res (decide (c.st = 4)) b.cancel b.clash = .final .clash then u.noteClash n b.frame else u
  if res = .sent then v.canHeard n else v

theorem State.ChanAt.canAttemptEnd_buf (h : s.ChanAt n c) (hruns : s.canRuns n = true) (hcfg : canCfg s.img n = some g)
    (hactive : c.active = some (.buf i)) (hb : c.bufs[i]? = some b) (res : TxEnd) (tdcv : Nat) :
    ∃ meas, s.canAttemptEnd n res 0 tdcv = ((s.bufEnded n i res meas tdcv c b).canJudge n).canAlone n := by
  obtain rfl : c.bufs.getD i {} = b := by rw [List.getD_eq_getElem?_getD, hb, Option.getD_some]
  unfold State.canAttemptEnd State.bufEnded State.bufAttempted
  dsimp only
  rw [h.can1, hactive, hcfg]
  dsimp only
  rw [if_neg (by simp [hruns])]
  cases afterAttempt res (decide (c.st = 4)) (c.bufs.getD i {}).cancel (c.bufs.getD i {}).clash <;> exact ⟨_, rfl⟩

/-! ### Outcomes of an attempt in ERROR_ACTIVE -/

theorem tecAfter_sent (tec : Nat) : tecAfter .sent false 0 tec = tec - 1 := Nat.zero_add _

theorem tecAfter_lost (tec : Nat) : tecAfter .lostArbitration false 0 tec = tec := Nat.zero_add _

theorem tecAfter_clash (tec : Nat) : tecAfter .clash false 0 tec = tec + 8 := Nat.zero_add _

section
variable (h : s.ChanAt n c) (hc : c.ErrorActive) (hruns : s.canRuns n = true) (hcfg : canCfg s.img n = some g)
  (hactive : c.active = some (.buf i)) (hb : c.bufs[i]? = some b) (tdcv : Nat)
include h hc hruns hcfg hactive hb

theorem State.ChanAt.canAttemptEnd_sent :
    ∃ meas, s.canAttemptEnd n .sent 0 tdcv = (s.bufAttempted n i .sent meas tdcv c b).modCan n CanSt.heard := by
  obtain ⟨meas, hend⟩ := h.canAttemptEnd_buf hruns hcfg hactive hb .sent tdcv
  have ht := h.bufAttempted (i := i) (b := b) (res := .sent) hc meas tdcv
  have hheard : s.bufEnded n i .sent meas tdcv c b = _ := ht.canHeard (hc.state ▸ by decide)
  have htec : tecAfter .sent false 0 c.tec ≤ 127 := by
    rw [tecAfter_sent]
    exact (Nat.sub_le ..).trans hc.tec
  refine ⟨meas, hend.trans ?_⟩
  rw [hheard]
  exact (ht.modCan (f := CanSt.heard) fun _ => rfl).judged ⟨hc.state, htec, hc.recv⟩ rfl

theorem State.ChanAt.canAttemptEnd_lost (hcancel : b.cancel = false) :
    ∃ meas, s.canAttemptEnd n .lostArbitration 0 tdcv = s.bufAttempted n i .lostArbitration meas tdcv c b := by
  obtain ⟨meas, hend⟩ := h.canAttemptEnd_buf hruns hcfg hactive hb .lostArbitration tdcv
  have ht := h.bufAttempted (i := i) (b := b) (res := .lostArbitration) hc meas tdcv
  have htec : tecAfter .lostArbitration false 0 c.tec ≤ 127 := by
    rw [tecAfter_lost]
    exact hc.tec
  have hended : s.bufEnded n i .lostArbitration meas tdcv c b = s.bufAttempted n i .lostArbitration meas tdcv c b := by
    unfold State.bufEnded
    rw [hcancel, hc.state]
    rfl
  refine ⟨meas, hend.trans ?_⟩
  rw [hended]
  exact ht.judged ⟨hc.state, htec, hc.recv⟩ rfl

theorem State.ChanAt.canAttemptEnd_thirdClash (hclash : b.clash = 2) (hroom : c.tec ≤ 119) :
    ∃ meas, s.canAttemptEnd n .clash 0 tdcv = (s.bufAttempted n i .clash meas tdcv c b).noteClash n b.frame := by
  obtain ⟨meas, hend⟩ := h.canAttemptEnd_buf hruns hcfg hactive hb .clash tdcv
  obtain ⟨l, -, hl⟩ := (h.bufAttempted (i := i) (b := b) (res := .clash) hc meas tdcv).noteClash b.frame
  have htec : tecAfter .clash false 0 c.tec ≤ 127 := by
    rw [tecAfter_clash]
    omega
  have hended : s.bufEnded n i .clash meas tdcv c b = (s.bufAttempted n i .clash meas tdcv c b).noteClash n b.frame := by
    unfold State.bufEnded
    rw [hclash]
    rfl
  refine ⟨meas, hend.trans ?_⟩
  rw [hended]
  exact hl.judged ⟨hc.state, htec, hc.recv⟩ rfl

end

/-! ### Receive errors and BUS_OFF (R396) -/

/-- A channel that has detected an error in a frame that it receives. -/
def CanSt.receiveError (primary : Bool) (more : Nat) (c : CanSt) : CanSt :=
  { c with recv := min 255 (c.recv + (if primary then 9 else 1) + 8 * more) }

/-- A receive error that keeps REC at most 127 leaves the channel ERROR_ACTIVE. -/
theorem State.ChanAt.canRecvError (h : s.ChanAt n c) (hruns : s.canRuns n = true) (hst : c.st = 2) (htec : c.tec ≤ 127)
    {more : Nat} (hroom : c.recv + 8 * more ≤ 118) (primary : Bool) :
    s.canRecvError n primary more = s.modCan n (CanSt.receiveError primary more) := by
  have hrecv : (c.receiveError primary more).recv ≤ 127 := by
    refine (Nat.min_le_right ..).trans ?_
    split <;> omega
  unfold State.canRecvError
  rw [h.can1, if_neg (by simp [hruns, hst])]
  exact (h.modCan (f := CanSt.receiveError primary more) fun _ => rfl).canJudge ⟨hst, htec, hrecv⟩

theorem CanSt.receiveError_eq {more : Nat} (hroom : c.recv + 8 * more ≤ 118) (primary : Bool) :
    c.receiveError primary more = { c with recv := c.recv + (if primary then 9 else 1) + 8 * more } := by
  have hle : c.recv + (if primary then 9 else 1) + 8 * more ≤ 255 := by
    split <;> omega
  rw [CanSt.receiveError, Nat.min_eq_right hle]

/-- The hold of BUS_OFF has ended: the channel is ERROR_ACTIVE again, with both counters zero. -/
theorem State.canBack_recovers (hruns : s.canRuns n = true) (hcfg : canCfg s.img n = some g) (hst : (s.can1 n).st = 5)
    (hheld : (s.can1 n).busoffAt + 400000 * g.busoffHold ≤ s.clock) : s.canBack n =
      (s.modCan n fun c => { c with st := 2, tec := 0, recv := 0, ackCons := 0 }).record 0x0903 n 0 [] := by
  unfold State.canBack
  rw [hcfg]
  exact if_pos (by simp [hruns, hst, msTicks, hheld])

/-! ### The statement -/

/-- Settles O37: integration, arbitration and BUS_OFF's end are their operations where these act; the end of an attempt and a
receive error leave a channel that the two judgements pass as ERROR_ACTIVE. -/
theorem canChannelsRun : Obligations.CanChannelsRun := by
  refine ⟨?integrated, ?arbitration, ?sent, ?lost, ?clash, ?busoff, ?receive⟩
  case integrated =>
    rintro s a dt n rfl hruns hst
    exact congrArg done (if_pos (by simp [hruns, hst]))
  case arbitration =>
    rintro s a dt n q g rfl hruns hmode hcfg hlisten hidle hst hoffers
    exact congrArg done (State.canArbitrate_queue hruns hmode hcfg hlisten hidle hst hoffers)
  case sent =>
    rintro s a dt n i t g c b rfl hruns hfound hplace hcfg hactive hb hst htec hrecv
    have hc := State.chanAt_of_can1 hfound hplace (by simp [hst])
    obtain ⟨meas, hend⟩ := hc.canAttemptEnd_sent ⟨hst, htec, hrecv⟩ hruns hcfg hactive hb t
    have hends := hc.bufAttempted (i := i) (b := b) (res := .sent) ⟨hst, htec, hrecv⟩ meas t
    have hd := hends.modCan (f := CanSt.heard) fun _ => rfl
    exact ⟨_, _, congrArg done hend, hd.found, rfl, getElem?_modifyAt_self hb _, tecAfter_sent .., rfl, hst, by simp, by simp⟩
  case lost =>
    rintro s a dt n i t g c b rfl hruns hfound hplace hcfg hactive hb hcancel hst htec hrecv
    have hc := State.chanAt_of_can1 hfound hplace (by simp [hst])
    obtain ⟨meas, hend⟩ := hc.canAttemptEnd_lost ⟨hst, htec, hrecv⟩ hruns hcfg hactive hb t hcancel
    have hd := hc.bufAttempted (i := i) (b := b) (res := .lostArbitration) ⟨hst, htec, hrecv⟩ meas t
    rw [hcancel] at hd
    exact ⟨_, _, congrArg done hend, hd.found, rfl, getElem?_modifyAt_self hb _, tecAfter_lost .., hst,
      State.bufAttempted_slots .., State.bufAttempted_log ..⟩
  case clash =>
    rintro s a dt n i t g c b rfl hruns hfound hplace hcfg hactive hb hclash hst htec hrecv
    have hok : c.ErrorActive := ⟨hst, by omega, hrecv⟩
    have hc := State.chanAt_of_can1 hfound hplace (by simp [hst])
    obtain ⟨meas, hend⟩ := hc.canAttemptEnd_thirdClash hok hruns hcfg hactive hb t hclash htec
    obtain ⟨l, hl, hd⟩ := (hc.bufAttempted (i := i) (b := b) (res := .clash) hok meas t).noteClash b.frame
    rw [hclash] at hd
    exact ⟨_, _, congrArg done hend, hd.found, rfl, getElem?_modifyAt_self hb _, tecAfter_clash .., rfl, hst, hl,
      (State.noteClash_slots _).trans (State.bufAttempted_slots ..)⟩
  case busoff =>
    rintro s a dt n g rfl hruns hcfg hst hheld
    exact congrArg done (State.canBack_recovers hruns hcfg hst hheld)
  case receive =>
    rintro s a dt n k c p rfl hruns hfound hplace hst htec hroom
    have hc := State.chanAt_of_can1 hfound hplace (by simp [hst])
    have hd := hc.modCan (f := CanSt.receiveError p k) fun _ => rfl
    exact ⟨_, _, congrArg done (hc.canRecvError hruns hst htec hroom p), hd.found, CanSt.receiveError_eq hroom p,
      State.modCan_slots _, State.modCan_log _⟩

end Sys2Proof.Machine
end

section
/-! PROOFS. The front of the queue, the recorder's commands, and OWNER_MISMATCH (R433, R482, R529, R530). -/

namespace Sys2Proof.Machine

/-- Settles O44: `step` is a match on the queue. -/
theorem stepRunsFront : Obligations.StepRunsFront := by
  refine ⟨fun s c r hq => ?front, fun _ _ => rfl, fun s hq => ?idle⟩
  case front =>
    unfold step
    rw [hq]
  case idle =>
    unfold step
    rw [hq]

variable {s : State}

/-! ### The recorder's commands (R433, R529, R530) -/

theorem State.logCleared_ends {sid req : Nat} (h : s.log.clear = some (sid, req)) :
    s.logCleared = (s.finishClear fun _ => true).answer sid req 0 [] := by
  unfold State.logCleared
  rw [h]

/-- Settles O10: both commands pass the stages of R175, LOG_CLEAR to be answered later, and the clear's end answers it. -/
theorem smpRecorder : Obligations.SmpRecorder := by
  refine ⟨?ack, ?clear, ?cleared⟩
  case ack =>
    rintro s a dt sid req p x rfl h hrole hp
    refine congrArg done ((h.serve _).trans ?_)
    exact h.command (r := { sid := sid, req := req, cmd := 0x07, p := p }) hrole rfl (by simp [SmpReq.len, hp]) (by simp [hp]) rfl
  case clear =>
    rintro s a dt sid req p x rfl h hrole rfl
    refine congrArg done ((h.serve _).trans ?_)
    exact h.commandLater (r := { sid := sid, req := req, cmd := 0x08, p := [] }) hrole rfl rfl (by simp) rfl
  case cleared =>
    rintro s a dt sid req rfl hop hclear
    have hrun : (s.advance dt).running = true := by simp [State.running, hop]
    exact congrArg done ((if_pos hrun).trans (State.logCleared_ends hclear))

/-! ### OWNER_MISMATCH (R482) -/

/-- The line reads high against an owner: a STANDBY member's ACTIVE partner, or the member itself. -/
theorem State.ownerMismatch_warns (hop : s.operating = true)
    (hown : s.mode = .standby ∧ s.pstate = 2 ∨ s.mode = .active ∧ s.pair.drive = true) :
    s.ownerMismatch = (s.pairEvt 0x10).record 0x0308 0 0 [] := by
  refine if_pos ?_
  rcases hown with ⟨hmode, hpartner⟩ | ⟨hmode, hdrive⟩
  · simp [hop, hmode, hpartner]
  · simp [hop, hmode, hdrive]

/-- What it does is a record and an event flag. -/
theorem State.ownerMismatch_keeps : s.ownerMismatch.mode = s.mode ∧ s.ownerMismatch.pair.drive = s.pair.drive ∧
    s.ownerMismatch.pair.takeover = s.pair.takeover := by
  unfold State.ownerMismatch
  split <;> exact ⟨rfl, rfl, rfl⟩

theorem finish_pair (s : State) : (finish s).pair = { s.pair with highAt := (finish s).pair.highAt } :=
  (congrArg State.pair (finish_touches s).eq :)

/-- Settles O55: SEV of the record is WARNING by R532's table, and the end of a command changes neither the module's state nor
what the pair drives and grants. -/
theorem ownerMismatchOnlyWarns : Obligations.OwnerMismatchOnlyWarns := by
  refine ⟨?standby, ?active, ?keeps⟩
  case standby =>
    rintro s a dt rfl hop hmode hpartner
    exact congrArg done (State.ownerMismatch_warns hop (.inl ⟨hmode, hpartner⟩))
  case active =>
    rintro s a dt rfl hop hmode hdrive
    exact congrArg done (State.ownerMismatch_warns hop (.inr ⟨hmode, hdrive⟩))
  case keeps =>
    rintro s a dt rfl
    obtain ⟨hmode, hdrive, htake⟩ := State.ownerMismatch_keeps (s := s.advance dt)
    have hpair := finish_pair (s.advance dt).ownerMismatch
    exact ⟨_, rfl, (finish_touches _).mode.trans hmode, (congrArg Pair.drive hpair).trans hdrive,
      (congrArg Pair.takeover hpair).trans htake⟩

end Sys2Proof.Machine
end

section
/-! PROOFS. A HELLO whose DWELL does not fit its 4 bytes draws a free value (R485, log 117). -/

namespace Sys2Proof.Machine

variable {s : State}

/-- The end of a command draws no free value. -/
theorem finish_freeCtr (s : State) : (finish s).freeCtr = s.freeCtr :=
  (congrArg State.freeCtr (finish_touches s).eq :)

theorem State.sendHello_draws (hpart : s.participates = true) (hmember : s.isMember = true)
    (hheard : s.pair.partner.isSome = true) (hlong : 2 ^ 32 ≤ s.clock - s.pair.rxTick) :
    s.sendHello.freeCtr = s.freeCtr + 1 := by
  have hboth : (s.sendBoth (.hello s.helloNow)).freeCtr = s.freeCtr :=
    (State.sendLink_freeCtr ..).trans (State.sendLink_freeCtr ..)
  unfold State.sendHello
  rw [if_pos (by simp [hpart, hmember])]
  exact (congrArg State.freeCtr (if_pos ⟨hheard, hlong⟩)).trans (congrArg (· + 1) hboth)

/-- Member A, which heard its partner last in tick 0, sends a HELLO 2^32 ticks later. -/
def longSilent : State :=
  { State.reset with
    clock := 2 ^ 32, power := { phase := .operating }, boot := { slot := some 0 }, store := { image := some {} }
    pair := { partner := some {
      member := 2, state := 1, key := 3, flevel := 3, inStep := false, eligible := false, owning := false, olc := 0
      swapFail := false, refOk := false, staged := false, h := 0, hofs := 0, dwell := 0, txTick := 0, echo := 0
      digest := [], stageDigest := [] } } }

/-- Refutes O60: the clause on HELLO names the pair's state and the frames alone, and a DWELL of 2^32 ticks takes a free value
besides, whose counter goes on. -/
theorem not_clockBrakeAndPairFrames : ¬ Obligations.ClockBrakeAndPairFrames := by
  rintro ⟨-, -, -, -, -, -, -, -, -, -, -, -, -, -, hhello, -⟩
  obtain ⟨u, hx, hu⟩ := hhello longSilent 0
  have hfin : finish (longSilent.advance 0).sendHello = finish u := Host.Outcome.next.inj hx
  have hkept : u.freeCtr = (longSilent.advance 0).freeCtr := (congrArg State.freeCtr hu :)
  have hdrawn : (longSilent.advance 0).sendHello.freeCtr = (longSilent.advance 0).freeCtr + 1 :=
    State.sendHello_draws (by decide +kernel) (by decide +kernel) (by decide +kernel) (by decide +kernel)
  have heq : (longSilent.advance 0).sendHello.freeCtr = u.freeCtr := by
    rw [← finish_freeCtr, hfin, finish_freeCtr]
  exact absurd (hdrawn.symm.trans (heq.trans hkept)) (Nat.succ_ne_self _)

end Sys2Proof.Machine
end

section
/-! PROOFS. ACTIVE that is left: the pair's other state, the faulted brake channels and the frames already sent stay (R177, R180,
R187, R457, R480). -/

namespace Sys2Proof.Machine

-- a membership that `by decide` fills in waits for the declarations before it: they are elaborated in order
set_option Elab.async false

/-- `q` with the shadows, the ownership and the hand-over of `p`. -/
def Pair.released (q p : Pair) : Pair := { q with
  kept := p.kept, shUsl := p.shUsl, shSta := p.shSta, shLoop := p.shLoop, shMs := p.shMs, shSlv := p.shSlv, drive := p.drive
  relinq := p.relinq, ho := p.ho, swapRun := p.swapRun, revertSince := p.revertSince }

/-- `u` follows `s` by steps of the end of ACTIVE. -/
structure Leaves (s u : State) : Prop where
  pair : u.pair = s.pair.released u.pair
  faulted : ∀ (k : Nat) (x : BrakeSt), s.so.chans[k]? = some x → x.st = .faulted → u.so.chans[k]? = some x
  sent : s.out <+: u.out

/-- What an answer changes (R432). -/
theorem State.answer_only (s : State) (sid req code : Nat) (p : List Byte) :
    ∃ ss o, s.answer sid req code p = { s with sessions := ss, out := s.out ++ o } := by
  unfold State.answer
  dsimp only
  split
  · exact ⟨_, _, rfl⟩
  · exact ⟨_, [], by rw [List.append_nil]; rfl⟩

/-- What the end of an online change changes (R187). -/
theorem State.olcAbort_only (s : State) (c k : Nat) :
    ∃ o q l ss r, s.olcAbort c k = { s with olc := o, seq := q, log := l, sessions := ss, out := s.out ++ r } := by
  unfold State.olcAbort
  split
  · exact ⟨_, _, _, _, [], by rw [List.append_nil]⟩
  · extract_lets pend _ s1 s2
    split
    · obtain ⟨ss, r, h⟩ := s2.answer_only s.olc.sid s.olc.req c []
      exact ⟨_, _, _, _, _, h⟩
    · exact ⟨_, _, _, _, [], by rw [List.append_nil]; rfl⟩

section
variable {s a u : State}

namespace Leaves

theorem refl : Leaves s s := ⟨rfl, fun _ _ hx _ => hx, List.prefix_rfl⟩

theorem trans (h : Leaves s a) (k : Leaves a u) : Leaves s u where
  pair := by
    have hp : a.pair.released u.pair = (s.pair.released a.pair).released u.pair := congrArg (fun q => q.released u.pair) h.pair
    exact k.pair.trans hp
  faulted n x hx hst := k.faulted n x (h.faulted n x hx hst) hst
  sent := h.sent.trans k.sent

theorem ite {c : Prop} [Decidable c] {b : State} (ha : Leaves s a) (hb : Leaves s b) : Leaves s (if c then a else b) := by
  split <;> assumption

theorem foldl {α : Type} {l : List α} {f : State → α → State} (h : Leaves s a)
    (hf : ∀ b, ∀ x ∈ l, Leaves s b → Leaves s (f b x)) : Leaves s (l.foldl f a) :=
  List.foldlRecOn l f h fun b hb x hx => hf b x hx hb

section
variable (h : Leaves s a)
include h

/-- What leaves the pair, the brake channels and the frames alone. -/
theorem step (hp : u.pair = a.pair := by rfl) (hs : u.so.chans = a.so.chans := by rfl) (ho : u.out = a.out := by rfl) :
    Leaves s u :=
  h.trans ⟨by rw [hp]; rfl, fun _ _ hx _ => hs ▸ hx, ho ▸ List.prefix_rfl⟩

/-- Frames go out beside. -/
theorem sends (o : List OutMsg) (hp : u.pair = a.pair := by rfl) (hs : u.so.chans = a.so.chans := by rfl)
    (ho : u.out = a.out ++ o := by rfl) : Leaves s u :=
  h.trans ⟨by rw [hp]; rfl, fun _ _ hx _ => hs ▸ hx, ho ▸ List.prefix_append ..⟩

theorem olcAbort (c k : Nat) : Leaves s (a.olcAbort c k) := by
  obtain ⟨_, _, _, _, r, he⟩ := a.olcAbort_only c k
  rw [he]
  exact h.sends r

/-- A channel that is changed was not faulted. -/
theorem modBrake (k : Nat) (f : BrakeSt → BrakeSt) (hst : (a.brake k).st ≠ .faulted) : Leaves s (a.modBrake k f) := by
  refine h.trans ⟨rfl, fun n x hx hf => ?_, List.prefix_rfl⟩
  have hne : k ≠ n := by
    rintro rfl
    exact hst (by rw [State.brake, List.getD_eq_getElem?_getD, hx]; exact hf)
  exact (List.getElem?_modify_ne _ _ hne).trans hx

theorem brakeDemand (k : Nat) : Leaves s (a.brakeDemand k) := by
  unfold State.brakeDemand
  split
  · next hon =>
    exact modBrake (a := a.brakeLatch k false) h.step k _ (by rw [show (a.brakeLatch k false).brake k = a.brake k from rfl, hon]; decide)
  · exact h

theorem testAbort (k : Nat) : Leaves s (a.testAbort k) := by
  unfold State.testAbort
  split
  · next ht => exact (h.modBrake k _ (by rw [ht]; decide)).step
  · exact h

theorem leaveSo : Leaves s a.leaveSo := by
  have hf : Leaves s ((List.range 4).foldl (fun s k => (s.brakeDemand k).testAbort k) a) :=
    h.foldl fun _ k _ hb => (hb.brakeDemand k).testAbort k
  unfold State.leaveSo
  extract_lets s1
  have h1 : Leaves s s1 := hf
  clear_value s1
  exact h1.step

theorem leaveMs : Leaves s a.leaveMs := by
  obtain ⟨sl, hsl⟩ := State.msDomWrite_slotsOnly ((a.msOutputsOff).modDom 7 fun x => { x with st := 0, cycles := a.cycleNow 7 }) 7
  exact h.step (congrArg State.pair hsl :) (congrArg (·.so.chans) hsl :) (congrArg State.out hsl :)

theorem ethSend (m : EthMsg) : Leaves s (a.ethSend m) := by
  unfold State.ethSend
  split
  · exact (h.sends [_] (u := State.emit _ _)).sends [_]
  · exact h.sends [_]

theorem leaveEth (planned : Bool) : Leaves s (a.leaveEth planned) :=
  ite h.step (foldl h.step fun _ _ _ hb => hb.ethSend _)

theorem leaveLoop : Leaves s a.leaveLoop := h.step

theorem leaveSlv : Leaves s a.leaveSlv := h.step

theorem leaveCan : Leaves s a.leaveCan := h.step

theorem leaveFld : Leaves s a.leaveFld := h.step

theorem leaveUsl : Leaves s a.leaveUsl := h.step

theorem leaveFuncs (planned : Bool) : Leaves s (a.leaveFuncs planned) := by
  have hseq : Leaves s a.leaveSeq := h.step
  exact (hseq.leaveMs.leaveLoop.leaveSlv.leaveCan.leaveFld.leaveSo.leaveEth planned).leaveUsl

theorem keepShadows : Leaves s a.keepShadows := h.trans ⟨rfl, fun _ _ hx _ => hx, List.prefix_rfl⟩

theorem leaveBarn (m : ModState) : Leaves s (a.leaveBarn m) := ite h (ite h.step h.step)

theorem leaveActive (m : ModState) (planned : Bool) : Leaves s (a.leaveActive m planned) := by
  unfold State.leaveActive
  split
  · exact h.step
  · exact ((((h.olcAbort 0x36 3).keepShadows.leaveBarn m).leaveFuncs planned)).trans
      ⟨rfl, fun _ _ hx _ => hx, List.prefix_rfl⟩

end

end Leaves

/-- A module that is not ACTIVE only changes its state. -/
theorem State.leaveActive_of_not_active (h : s.mode ≠ .active) (m : ModState) (planned : Bool) :
    s.leaveActive m planned = { s with mode := m } := if_pos h

/-- A module that leaves ACTIVE has no hand-over left. -/
theorem State.leaveActive_ho (h : s.mode = .active) (m : ModState) (planned : Bool) :
    (s.leaveActive m planned).pair.ho = none := by
  unfold State.leaveActive
  rw [if_neg (not_not_intro h)]

/-- `u` follows `s` by the entry to ISOLATED (R497). -/
structure Isolates (s u : State) : Prop where
  mode : u.mode = .isolated
  takeover : u.pair.takeover = none
  evt : u.pair.evt = s.pair.evt ||| 4#8
  left : s.mode = .active → u.pair.drive = false
  pair : u.pair = { s.pair.released u.pair with evt := u.pair.evt, takeover := u.pair.takeover }

theorem State.enterIsolated_isolates : Isolates s s.enterIsolated := by
  unfold State.enterIsolated
  extract_lets s1 s2
  have hmode : s1.mode = .isolated := (State.leaveActive_halts .isolated false).mode
  have hleft : s.mode = .active → s1.pair.drive = false := fun ha => (State.leaveActive_left .isolated false ha).1
  have hl : Leaves s s1 := Leaves.refl.leaveActive .isolated false
  clear_value s1
  exact {
    mode := hmode
    takeover := rfl
    evt := (congrArg (fun q : Pair => q.evt ||| 4#8) hl.pair :)
    left := hleft
    pair := (congrArg (fun q : Pair => { q with evt := s1.pair.evt ||| 4#8, takeover := none }) hl.pair :) }

end

end Sys2Proof.Machine
end

section
/-! PROOFS. HELLO, lanes, silence and the pair on the link (R485 to R488, R497). -/

namespace Sys2Proof.Machine

variable {s a u : State} {h : Hello}

/-! ### HELLO goes out (R486) -/

theorem State.sendBoth_eq (m : LinkMsg) (s : State) : s.sendBoth m = { s with
    pair := { s.pair with fseq0 := (s.pair.fseq0 + 1) % 2 ^ 32, fseq1 := (s.pair.fseq1 + 1) % 2 ^ 32 }
    out := s.out ++ [.link 0 ((s.pair.fseq0 + 1) % 2 ^ 32) m, .link 1 ((s.pair.fseq1 + 1) % 2 ^ 32) m] } := by
  simp [State.sendBoth, State.sendLink, State.emit]

/-- Beside the frames a HELLO may draw a free DWELL. -/
theorem State.sendHello_sends (hpart : s.participates = true) (hmember : s.isMember = true) :
    ∃ n, s.sendHello = { s.sendBoth (.hello s.helloNow) with freeCtr := n } := by
  unfold State.sendHello
  rw [if_pos (by simp [hpart, hmember])]
  dsimp only
  split <;> exact ⟨_, rfl⟩

/-! ### What a HELLO leaves of the link -/

/-- `u` has what `s` knows of lane 0, lane 1 and the partner. -/
structure LinkKept (s u : State) : Prop where
  lane0 : u.pair.lane0 = s.pair.lane0
  rx0 : u.pair.rx0 = s.pair.rx0
  lane1 : u.pair.lane1 = s.pair.lane1
  partner : u.pair.partner = s.pair.partner
  silent : u.pair.silent = s.pair.silent
  rxTick : u.pair.rxTick = s.pair.rxTick

namespace LinkKept

theorem refl : LinkKept s s := ⟨rfl, rfl, rfl, rfl, rfl, rfl⟩

theorem trans (h : LinkKept s a) (k : LinkKept a u) : LinkKept s u where
  lane0 := k.lane0.trans h.lane0
  rx0 := k.rx0.trans h.rx0
  lane1 := k.lane1.trans h.lane1
  partner := k.partner.trans h.partner
  silent := k.silent.trans h.silent
  rxTick := k.rxTick.trans h.rxTick

theorem ite {c : Prop} [Decidable c] {b : State} (ha : LinkKept s a) (hb : LinkKept s b) :
    LinkKept s (if c then a else b) := by split <;> assumption

end LinkKept

/-- What the end of an online change leaves of the pair. -/
theorem State.olcAbort_pair (c k : Nat) : (s.olcAbort c k).pair = s.pair := by
  obtain ⟨_, _, _, _, _, he⟩ := s.olcAbort_only c k
  rw [he]

theorem LinkKept.of_pair (h : u.pair = s.pair) : LinkKept s u := by
  constructor <;> rw [h]

theorem State.sendBoth_linkKept (m : LinkMsg) : LinkKept s (s.sendBoth m) := by
  rw [State.sendBoth_eq]
  exact ⟨rfl, rfl, rfl, rfl, rfl, rfl⟩

theorem State.enterIsolated_linkKept : LinkKept s s.enterIsolated := by
  have hp := (State.enterIsolated_isolates (s := s)).pair
  exact ⟨(congrArg Pair.lane0 hp :), (congrArg Pair.rx0 hp :), (congrArg Pair.lane1 hp :), (congrArg Pair.partner hp :),
    (congrArg Pair.silent hp :), (congrArg Pair.rxTick hp :)⟩

theorem State.imageDiff_linkKept : LinkKept s s.imageDiff := by
  unfold State.imageDiff
  extract_lets _ s1 _ s2
  have h2 : LinkKept s s2 := .ite ⟨rfl, rfl, rfl, rfl, rfl, rfl⟩ ⟨rfl, rfl, rfl, rfl, rfl, rfl⟩
  exact .ite (h2.trans State.enterIsolated_linkKept) h2

theorem State.pairMeets_linkKept : LinkKept s (s.pairMeets h) := by
  unfold State.pairMeets
  split
  · exact ⟨rfl, rfl, rfl, rfl, rfl, rfl⟩
  · split <;> exact ⟨rfl, rfl, rfl, rfl, rfl, rfl⟩

theorem State.alignGrid_linkKept : LinkKept s (s.alignGrid h) := .ite ⟨rfl, rfl, rfl, rfl, rfl, rfl⟩ .refl

theorem State.countRevert_linkKept (prev : Nat) : LinkKept s (s.countRevert prev) :=
  .ite ⟨rfl, rfl, rfl, rfl, rfl, rfl⟩ ⟨rfl, rfl, rfl, rfl, rfl, rfl⟩

theorem State.olcPartner_linkKept : LinkKept s (s.olcPartner h) :=
  .ite .refl (.ite ⟨rfl, rfl, rfl, rfl, rfl, rfl⟩ (.ite (.of_pair (State.olcAbort_pair ..)) .refl))

theorem State.refuseHandover_linkKept (k : Nat) : LinkKept s (s.refuseHandover k) := ⟨rfl, rfl, rfl, rfl, rfl, rfl⟩

theorem State.countElect_linkKept : LinkKept s s.countElect := ⟨rfl, rfl, rfl, rfl, rfl, rfl⟩

/-! ### HELLO comes in (R486 to R488) -/

/-- `u` follows `s` by a valid HELLO on lane 0. -/
structure Hears (h : Hello) (s u : State) : Prop where
  lane0 : u.pair.lane0 = true
  rx0 : u.pair.rx0 = s.clock
  partner : u.pair.partner = some h
  silent : u.pair.silent = false
  rxTick : u.pair.rxTick = s.clock
  lane1 : u.pair.lane1 = s.pair.lane1

theorem Hears.keeps (k : Hears h s a) (l : LinkKept a u) : Hears h s u where
  lane0 := l.lane0.trans k.lane0
  rx0 := l.rx0.trans k.rx0
  partner := l.partner.trans k.partner
  silent := l.silent.trans k.silent
  rxTick := l.rxTick.trans k.rxTick
  lane1 := l.lane1.trans k.lane1

theorem State.helloIn_hears (hop : s.power.phase = .operating) : Hears h s (s.helloIn 0 h) := by
  unfold State.helloIn
  rw [if_neg (by simp [State.operating, hop])]
  extract_lets was prev s1 left _ s2 s3 s4 s5 s6 s7
  have h2 : Hears h s s2 := ⟨rfl, rfl, rfl, rfl, rfl, rfl⟩
  clear_value s2
  have h3 : Hears h s s3 := h2.keeps (.ite State.pairMeets_linkKept State.imageDiff_linkKept)
  clear_value s3
  have h4 : Hears h s s4 := h3.keeps (State.alignGrid_linkKept.trans (State.countRevert_linkKept prev))
  clear_value s4
  have h5 : Hears h s s5 := h4.keeps (.ite (State.sendBoth_linkKept _) .refl)
  clear_value s5
  have h6 : Hears h s s6 := h5.keeps State.olcPartner_linkKept
  clear_value s6
  have h7 : Hears h s s7 := by
    unfold s7
    split
    · exact h6.keeps (.ite (State.refuseHandover_linkKept _) .refl)
    · exact h6
  clear_value s7
  split
  · exact h2
  · exact h7.keeps State.countElect_linkKept

/-! ### Lanes and silence (R486, R497) -/

theorem State.isMember_of (h : s.member = 1 ∨ s.member = 2) : s.isMember = true := decide_eq_true h

/-- A deadline that lies in the past acts now. -/
theorem State.expire_late {e : Expiry} {t : Nat} (hd : s.deadline e = some t) (ht : t < s.clock) : s.expire e = e.run s :=
  State.expire_past fun he => absurd (Option.some.inj (hd.symm.trans he)) (Nat.ne_of_lt ht)

/-- Lane 1, from which no valid frame has come for 200 µs, goes down. -/
theorem State.laneDown_one (hop : s.power.phase = .operating) (hm : s.member = 1 ∨ s.member = 2) (hup : s.pair.lane1 = true)
    (ht : max s.pair.rx1 s.boot.endTick + 80000 < s.clock) :
    s.expire (.laneDown 1) = State.record 0x0301 0 1 [0x01#8] (State.pairEvt 0x02 { s with pair := { s.pair with
      lane1 := false, rx1 := s.clock } }) := by
  refine (State.expire_late (e := .laneDown 1) rfl (by exact ht)).trans (if_pos ?_)
  simp [State.operating, hop, State.isMember_of hm, hup, usTicks, Nat.le_of_lt ht]

/-- `u` follows `s` by the partner's silence. -/
structure Silences (s u : State) : Prop where
  silent : u.pair.silent = true
  formed : u.pair.formed = none
  digEq : u.pair.digEq = false
  mode : u.mode = if s.mode = .standby ∧ s.pair.refLost = true then .isolated else s.mode
  slots : u.slots = s.slots

/-- A member that is not ACTIVE touches no slot as it isolates itself. -/
theorem State.isolate_slots (hmode : s.mode ≠ .active) (c : Nat) : (s.isolate c).slots = s.slots := by
  unfold State.isolate State.enterIsolated
  rw [State.leaveActive_of_not_active hmode]
  rfl

theorem Isolates.record (k : Isolates s a) (code unit item : Nat) (d : List Byte) : Isolates s (a.record code unit item d) :=
  ⟨k.mode, k.takeover, k.evt, k.left, k.pair⟩

theorem State.isolate_isolates (c : Nat) : Isolates s (s.isolate c) := State.enterIsolated_isolates.record ..

theorem State.partnerSilent_silences (hop : s.power.phase = .operating) (hin : s.inPair = true) (hheard : s.pair.silent = false)
    (ht : max s.pair.rxTick s.boot.endTick + s.img.pair.plTimeout ≤ s.clock) : Silences s s.partnerSilent := by
  have hm : s.isMember = true := (Bool.and_eq_true_iff.1 hin).1
  unfold State.partnerSilent
  rw [if_pos (by simp [State.operating, hop, hm, hheard, ht])]
  extract_lets s0 _ s1 s2
  have hin1 : s1.inPair = true := hin
  rw [if_neg (by simp [hin1])]
  have hmode : s1.mode = s.mode := rfl
  have hlost : s1.pair.refLost = s.pair.refLost := rfl
  have h1 : s1.pair.silent = true ∧ s1.pair.formed = none ∧ s1.pair.digEq = false ∧ s1.slots = s.slots := ⟨rfl, rfl, rfl, rfl⟩
  have h2 : ∃ o q l ss r, s2 = { s1 with olc := o, seq := q, log := l, sessions := ss, out := r } := by
    unfold s2
    split
    · obtain ⟨o, q, l, ss, r, he⟩ := (s1.record 0x0305 0 0 []).olcAbort_only 0x36 4
      exact ⟨o, q, l, ss, _, he⟩
    · exact ⟨_, _, _, _, _, rfl⟩
  clear_value s2 s1
  obtain ⟨hsilent, hformed, hdig, hslots⟩ := h1
  split
  · next hm1 =>
    have hrest : ¬ (s.mode = .standby ∧ s.pair.refLost = true) := fun hs => nomatch hs.1.symm.trans (hmode.symm.trans hm1)
    obtain ⟨_, _, _, _, _, rfl⟩ := h2
    split <;> exact ⟨hsilent, hformed, hdig, hmode.trans (if_neg hrest).symm, hslots⟩
  · next hm1 =>
    split
    · next hl =>
      obtain ⟨him, -, -, -, hpair⟩ := State.isolate_isolates (s := s1) 2
      exact ⟨(congrArg Pair.silent hpair :).trans hsilent, (congrArg Pair.formed hpair :).trans hformed,
        (congrArg Pair.digEq hpair :).trans hdig, him.trans (if_pos ⟨hmode.symm.trans hm1, hlost.symm.trans hl⟩).symm,
        (State.isolate_slots (by rw [hm1]; decide) 2).trans hslots⟩
    · next hl =>
      exact ⟨hsilent, hformed, hdig, hmode.trans (if_neg fun hs => hl (hlost.trans hs.2)).symm, hslots⟩
  · next hna hns =>
    exact ⟨hsilent, hformed, hdig, hmode.trans (if_neg fun hs => hns (hmode.trans hs.1)).symm, hslots⟩

/-- A pair that has stood for 100 ms brings an ISOLATED member back to STANDBY (R497). -/
theorem State.pairFormed_returns {t : Nat} (hf : s.pair.formed = some t) (hmode : s.mode = .isolated) (hin : s.inPair = true)
    (hend : s.pairEnded = false) (ht : t + 40000000 ≤ s.clock) (hpartner : s.pstate = 1 ∨ s.pstate = 2) :
    s.pairFormed = { s with mode := .standby } := by
  unfold State.pairFormed
  rw [hf]
  refine (if_pos ⟨hmode, hin, hend, ht, hpartner⟩).trans ?_
  exact State.leaveActive_of_not_active (by rw [hmode]; decide) .standby false

/-! ### The statement -/

/-- Settles O25: a HELLO goes out on both lanes; what one does when it comes in keeps the link as its arrival leaves it; silence
changes an ACTIVE member's hand-over and online change beside, and a STANDBY may isolate itself. -/
theorem pairLinkRuns : Obligations.PairLinkRuns := by
  refine ⟨?send, ?receive, ?lane, ?silent, ?formed⟩
  case send =>
    rintro s a dt rfl hpart hm
    obtain ⟨n, hn⟩ := State.sendHello_sends hpart (State.isMember_of hm)
    rw [State.sendBoth_eq] at hn
    exact ⟨_, congrArg done hn, rfl, rfl, rfl, rfl⟩
  case receive =>
    rintro s a dt h rfl hop
    have hu := State.helloIn_hears (h := h) hop
    exact ⟨_, rfl, hu.lane0, hu.rx0, hu.partner, hu.silent, hu.rxTick, hu.lane1⟩
  case lane =>
    rintro s a dt rfl hop hm hup ht
    exact congrArg done (State.laneDown_one hop hm hup ht)
  case silent =>
    rintro s a dt rfl hop hin hheard ht
    have hnow := State.expire_late (e := .partnerSilent) rfl ht
    have hu := State.partnerSilent_silences hop hin hheard (Nat.le_of_lt ht)
    exact ⟨_, congrArg done hnow, hu.silent, hu.formed, hu.digEq, hu.mode, hu.slots⟩
  case formed =>
    rintro s a dt t rfl hf hmode hin hend ht hpartner
    exact congrArg done (State.pairFormed_returns hf hmode hin hend ht hpartner)

end Sys2Proof.Machine
end

section
/-! PROOFS. The Crossroads: rounds at the referee, STATUS, and what a member does with the ROUND or without (R493 to R495,
R497). -/

namespace Sys2Proof.Machine

variable {s u : State}

/-! ### The referee (R493, R495) -/

/-- `u` follows `s` by a round that the referee begins. -/
structure BeginsRound (s u : State) : Prop where
  round : u.pair.round = (s.pair.round + 1) % 2 ^ 32
  seenA : u.pair.seenA = false
  seenB : u.pair.seenB = false
  frame : ∃ va vb, u.out = s.out ++
    [.xroads (RoundMsg.frame { round := u.pair.round, owner := u.pair.refO, verdictA := va, verdictB := vb })]
  slots : u.slots = s.slots
  mode : u.mode = s.mode

theorem State.roundStart_begins (hop : s.power.phase = .operating) (hmode : s.mode = .referee)
    (hpair : s.img.pair.single = false) : BeginsRound s s.roundStart := by
  unfold State.roundStart
  rw [if_pos (by simp [State.operating, hop, hmode, hpair])]
  exact ⟨rfl, rfl, rfl, ⟨_, _, rfl⟩, rfl, rfl⟩

/-- An owner that is ACTIVE, healthy and present stays the owner; the other is asked to stay STANDBY, or to isolate itself
where it has asked. -/
theorem Pair.rule_of_goodOwner {p : Pair} {m : StatusMsg} (ho : p.refO = 1) (hm : p.statA = some m) (hpres : p.aMiss < 2)
    (hstate : m.state = 2) (hok : m.healthy = true) (hown : m.relinq = false) (b : Bool) (d : List Byte) :
    p.rule b d = (1, 1, if (p.statB.map (·.req)).getD false then 3 else 2) := by
  unfold Pair.rule
  simp [ho, hm, presentIn, hpres, hstate, hok, hown]

/-! ### Members (R494, R497) -/

/-- What a ROUND with this owner and this verdict leaves of the pair before the member acts. -/
def Pair.heardRound (m : RoundMsg) (verdict now : Nat) (p : Pair) : Pair := { p with
  lastRound := m.round, refOk := true, refTick := now, refLost := false, owner := m.owner, verdict := verdict
  electSince := none }

/-- A STANDBY that is granted ownership is granted it. -/
theorem State.roundIn_grants {m : RoundMsg} (hpart : s.participates = true) (hin : s.inPair = true) (hm : s.member = 1)
    (hmode : s.mode = .standby) (hv : m.verdictA = 1) (ho : m.owner = 1) (hel : s.eligible = true)
    (hfree : s.pair.takeover = none) :
    s.roundIn m = ({ s with pair := s.pair.heardRound m 1 s.clock } : State).grant 1 := by
  unfold State.roundIn
  rw [if_pos (by simp [hpart, hin]), if_pos hm, hv]
  have hkeep : ¬ (s.mode = .active ∧ m.owner ≠ 0 ∧ m.owner ≠ s.member) := fun hs => nomatch hs.1.symm.trans hmode
  exact (if_neg hkeep).trans (if_pos ⟨hmode, rfl, ho.trans hm.symm, hel, hfree⟩)

/-- An owner that the ROUND has ruled against leaves for ISOLATED. -/
theorem State.roundIn_ousts {m : RoundMsg} (hpart : s.participates = true) (hin : s.inPair = true) (hm : s.member = 1)
    (hmode : s.mode = .active) (ho : m.owner = 2) :
    s.roundIn m = ({ s with pair := s.pair.heardRound m m.verdictA s.clock } : State).enterIsolated.record 0x0304 0 0 [] := by
  unfold State.roundIn
  rw [if_pos (by simp [hpart, hin]), if_pos hm]
  have hne : m.owner ≠ s.member := by
    rw [ho, hm]
    decide
  exact if_pos ⟨hmode, by rw [ho]; decide, hne⟩

/-- `u` follows `s` by the referee's absence. -/
structure MissesReferee (s u : State) : Prop where
  refOk : u.pair.refOk = false
  refLost : u.pair.refLost = true
  slots : u.slots = s.slots
  mode : u.mode = if s.mode = .standby ∧ s.pair.silent = true ∧ s.img.pair.single = false then .isolated else s.mode

theorem State.refereeAbsent_misses (hop : s.power.phase = .operating) (hm : s.member = 1 ∨ s.member = 2)
    (hlost : s.pair.refLost = false) (ht : max s.pair.refTick s.boot.endTick + 600000 ≤ s.clock) :
    MissesReferee s s.refereeAbsent := by
  unfold State.refereeAbsent
  rw [if_pos (by simp [State.operating, hop, hm, hlost, usTicks, ht])]
  extract_lets _ s1 s2
  have h2 : s2.pair.refOk = false ∧ s2.pair.refLost = true ∧ s2.slots = s.slots ∧ s2.mode = s.mode := ⟨rfl, rfl, rfl, rfl⟩
  have hcond : (s2.mode = .standby ∧ s2.pair.silent = true ∧ s2.img.pair.single = false) =
      (s.mode = .standby ∧ s.pair.silent = true ∧ s.img.pair.single = false) := rfl
  clear_value s2
  obtain ⟨hok, hl, hslots, hmode⟩ := h2
  split
  · next hc =>
    obtain ⟨him, -, -, -, hpair⟩ := State.isolate_isolates (s := s2) 2
    exact ⟨(congrArg Pair.refOk hpair :).trans hok, (congrArg Pair.refLost hpair :).trans hl,
      (State.isolate_slots (by rw [hc.1]; decide) 2).trans hslots, him.trans (if_pos (hcond.mp hc)).symm⟩
  · next hc =>
    exact ⟨hok, hl, hslots, hmode.trans (if_neg fun hs => hc (hcond.mpr hs)).symm⟩

/-! ### The statement -/

/-- Settles O29: the referee's round and a STATUS are one change of the pair each; a ROUND is heard, and then grants or ousts. -/
theorem crossroadsRuns : Obligations.CrossroadsRuns := by
  refine ⟨?round, fun p b d m ho hm hpres hstate hok hown => Pair.rule_of_goodOwner ho hm hpres hstate hok hown b d,
    ?statusA, ?statusB, ?send, ?grants, ?ousts, ?absent⟩
  case round =>
    rintro s a dt rfl hop hmode hpair
    obtain ⟨hround, hA, hB, ⟨va, vb, hframe⟩, hslots, hm⟩ := State.roundStart_begins hop hmode hpair
    exact ⟨_, va, vb, rfl, hround, hA, hB, hframe, hslots, hm.trans hmode⟩
  case statusA =>
    rintro s a dt m us rfl hop hmode hm h45 h55
    refine congrArg done ((if_pos ?_).trans (if_pos ⟨hm, h45, h55⟩))
    simp [State.operating, hop, hmode]
  case statusB =>
    rintro s a dt m us rfl hop hmode hm h145 h155
    have hA : ¬ (m.member = 1 ∧ 45 ≤ us ∧ us ≤ 55) := fun hs => absurd (hm.symm.trans hs.1) (by decide)
    refine congrArg done ((if_pos ?_).trans ((if_neg hA).trans (if_pos ⟨hm, h145, h155⟩)))
    simp [State.operating, hop, hmode]
  case send =>
    rintro s a dt rfl hpart hin
    exact congrArg done (if_pos (by simp [hpart, hin]))
  case grants =>
    rintro s a dt m rfl hpart hin hm hmode hv ho hel hfree
    refine congrArg done ((State.roundIn_grants hpart hin hm hmode hv ho hel hfree).trans ?_)
    unfold State.grant Pair.heardRound
    rw [ho]
  case ousts =>
    rintro s a dt m rfl hpart hin hm hmode ho
    have hu := (State.enterIsolated_isolates (s := { s.advance dt with
      pair := (s.advance dt).pair.heardRound m m.verdictA (s.advance dt).clock })).record 0x0304 0 0 []
    refine ⟨_, congrArg done (State.roundIn_ousts hpart hin hm hmode ho), hu.mode, hu.left hmode, ?_, ?_, ?_⟩
    · exact (congrArg Pair.refOk hu.pair :)
    · exact (congrArg Pair.refLost hu.pair :)
    · exact (congrArg Pair.owner hu.pair :).trans ho
  case absent =>
    rintro s a dt rfl hop hm hlost ht
    have hnow := State.expire_late (e := .refereeAbsent) rfl (by simpa only [usTicks] using ht)
    have hu := State.refereeAbsent_misses hop hm hlost (Nat.le_of_lt ht)
    exact ⟨_, congrArg done hnow, hu.refOk, hu.refLost, hu.slots, hu.mode⟩

end Sys2Proof.Machine
end

section
/-! PROOFS. How a module becomes ACTIVE, and the notices and deadlines of ownership (R479 to R482, R497, R498, R506). -/

namespace Sys2Proof.Machine

-- a membership that `by decide` fills in waits for the declarations before it: they are elaborated in order
set_option Elab.async false

section
variable {s a u : State}

/-! ### What the functions touch as the module becomes ACTIVE (R498) -/

theorem rioPart_mem_all (ch : Nat) : rioPart ch ∈ allParts := by
  unfold rioPart
  split <;> decide

theorem Touches.rioEnter (h : FuncTouches s a) (ch : Nat) (take : Bool) : FuncTouches s (a.rioEnter ch take) := by
  have hp := rioPart_mem_all ch
  have h1 {f : StationSt → StationSt} : FuncTouches s ((a.setSync ch none).modStations ch f) :=
    (h.setSync hp).modStations hp
  unfold State.rioEnter
  refine .ite (h1.foldl fun b c _ hb => ?_) h1
  have hstale {t : State} : FuncTouches t (t.rioStale ch c) :=
    ((State.rioStale_touches ch c fun _ _ => Set.mem_univ _).mono (rioParts_subset ch)).mono
  exact (hb.modStation hp).trans hstale

theorem Touches.enterLoop (h : FuncTouches s a) : FuncTouches s a.enterLoop := .ite h.setLoop.setLoop h.setLoop.setLoop

theorem Touches.enterMs (h : FuncTouches s a) : FuncTouches s a.enterMs := h.setMs.setMs

theorem Touches.enterSlv (h : FuncTouches s a) : FuncTouches s a.enterSlv := h.setSlv

theorem Touches.enterCan (h : FuncTouches s a) (take : Bool) : FuncTouches s (a.enterCan take) :=
  h.foldl fun _ n _ hb => hb.rioEnter n take

theorem Touches.enterEth (h : FuncTouches s a) (take : Bool) : FuncTouches s (a.enterEth take) :=
  .ite (h.rioEnter 4 take).setEth.ethSend (h.rioEnter 4 take)

theorem Touches.uslStart (h : FuncTouches s a) (c : UslCfg) : FuncTouches s (a.uslStart c) :=
  .ite (h.modUsl.uslFailSafe c) h.modUsl

theorem Touches.uslContinue (h : FuncTouches s a) (c : UslCfg) (x : UslShadow) : FuncTouches s (a.uslContinue c x) :=
  .ite (h.modUsl.uslFailSafe c) h.modUsl

theorem Touches.enterUsl (h : FuncTouches s a) (take : Bool) : FuncTouches s (a.enterUsl take) := by
  unfold State.enterUsl
  refine .ite h (h.foldl fun b c _ hb => ?_)
  split
  · exact .ite (Touches.uslContinue (Touches.modUsl hb) c _) (hb.uslStart c)
  · exact hb.uslStart c

theorem Touches.enterFld (h : FuncTouches s a) : FuncTouches s a.enterFld := h.trans State.aoNoPower_touches

/-- `u` follows `s` by the module's becoming ACTIVE with harvest number `h` in the present tick. -/
structure Starts (h : Nat) (s u : State) : Prop where
  mode : u.mode = .active
  drive : u.pair.drive = true
  relinq : u.pair.relinq = false
  takeover : u.pair.takeover = none
  evt : u.pair.evt = s.pair.evt
  tg : u.seq.tg = s.clock
  h0 : u.seq.h0 = h

theorem Starts.touch {h : Nat} (k : Starts h s a) (t : FuncTouches a u) : Starts h s u where
  mode := t.mode.trans k.mode
  drive := (congrArg (·.pair.drive) t.eq :).trans k.drive
  relinq := (congrArg (·.pair.relinq) t.eq :).trans k.relinq
  takeover := (congrArg (·.pair.takeover) t.eq :).trans k.takeover
  evt := (congrArg (·.pair.evt) t.eq :).trans k.evt
  tg := (congrArg Seq.tg t.seq).trans k.tg
  h0 := (congrArg Seq.h0 t.seq).trans k.h0

theorem State.startActive_starts (h : Nat) (take : Bool) : Starts h s (s.startActive h take) := by
  unfold State.startActive
  extract_lets _ _ s1 s2
  have h1 : Starts h s s1.enterSeq := ⟨rfl, rfl, rfl, rfl, rfl, rfl, rfl⟩
  have ht : FuncTouches s1.enterSeq ((s2.enterEth take).enterUsl take).enterFld :=
    (Touches.refl.enterLoop.enterMs.enterSlv.enterCan take |>.enterEth take |>.enterUsl take).enterFld
  exact h1.touch ht

/-! ### Takeover (R498) -/

/-- The present tick is a harvest tick of the shadow grid, where there is one. -/
def State.onGrid (s : State) : Prop := ∀ t h, s.pair.grid = some (t, h) → (s.clock - t) % s.img.cycle.base = 0 ∧ t ≤ s.clock

theorem State.gridH_of_none (h : s.pair.grid = none) : s.gridH = none := by simp [State.gridH, h]

theorem State.gridH_of_some {t h : Nat} (hg : s.pair.grid = some (t, h)) :
    s.gridH = some (h + (s.clock - t) / s.img.cycle.base) := by simp [State.gridH, hg]

/-- A granted STANDBY member takes over with the harvest number that the shadow grid gives the tick, 0 without a grid. -/
theorem State.takeOver_takes {g : Takeover} (hg : s.pair.takeover = some g) (hmode : s.mode = .standby) (hown : s.mayOwn = true)
    (hgot : s.ownerGot g.granted = true) (hgrid : s.onGrid) :
    ∃ d, s.takeOver = ((s.startActive (s.gridH.getD 0) true).pairEvt 8).record 0x0306 0 0 d := by
  unfold State.takeOver
  rw [hg]
  dsimp only
  cases hc : s.pair.grid with
  | none =>
    rw [State.gridH_of_none hc]
    exact ⟨_, if_pos ⟨.inl hmode, hown, hgot, rfl⟩⟩
  | some p =>
    obtain ⟨t, h⟩ := p
    rw [State.gridH_of_some hc]
    exact ⟨_, if_pos ⟨.inl hmode, hown, hgot, decide_eq_true (hgrid t h hc)⟩⟩

/-- `u` follows `s` by a takeover with harvest number `h`. -/
structure TakesOver (h : Nat) (s u : State) : Prop where
  mode : u.mode = .active
  drive : u.pair.drive = true
  relinq : u.pair.relinq = false
  takeover : u.pair.takeover = none
  evt : u.pair.evt = s.pair.evt ||| 0x08#8
  tg : u.seq.tg = s.clock
  h0 : u.seq.h0 = h

theorem Starts.takesOver {h : Nat} (k : Starts h s a) (d : List Byte) :
    TakesOver h s ((a.pairEvt 8).record 0x0306 0 0 d) :=
  ⟨k.mode, k.drive, k.relinq, k.takeover, congrArg (· ||| 0x08#8) k.evt, k.tg, k.h0⟩

/-- Member A of a MODE 1 image becomes ACTIVE by itself (R479). -/
theorem State.singleActivate_starts (hop : s.power.phase = .operating) (hcom : s.committed = true)
    (hone : s.img.pair.single = true) (hm : s.member = 1) (hmode : s.mode = .standby) (hown : s.mayOwn = true)
    (hhigh : s.ownerHigh = true) : s.singleActivate = s.startActive 0 false :=
  if_pos (by simp [State.operating, hop, hcom, hone, hm, hmode, hown, hhigh])

/-! ### Grants (R481, R497) -/

theorem State.selfElect_grants {t : Nat} (ht : s.pair.electSince = some t) (hno : s.noOwner = true) (hown : s.mayOwn = true)
    (hlong : t + 40000000 ≤ s.clock) (hel : s.eligible = true) (hfirst : s.partnerEligible = false ∨ s.preferred = true) :
    s.selfElect = s.grant 5 := by
  unfold State.selfElect
  rw [ht]
  refine if_pos ?_
  rcases hfirst with h | h <;> simp [hno, hown, msTicks, hlong, hel, h]

/-- A grant that has not found OWNER_N high within 20 ms isolates the member. -/
theorem State.ownerStuck_isolates {g : Takeover} (hg : s.pair.takeover = some g) (hlong : g.granted + 8000000 ≤ s.clock)
    (hlow : ∀ t, s.ownerFree = some t → g.granted + 8000000 < t) :
    s.ownerStuck = (s.enterIsolated.pairEvt 0x80).record 0x0307 0 0 [] := by
  unfold State.ownerStuck
  rw [hg]
  refine if_pos ⟨hlong, ?_⟩
  cases hf : s.ownerFree with
  | none => rfl
  | some t => exact decide_eq_true (hlow t hf)

/-- Both event flags stand, ISOLL and OWNER_STUCK's. -/
theorem Isolates.stuck (k : Isolates s a) : ((a.pairEvt 0x80).record 0x0307 0 0 []).mode = .isolated ∧
    ((a.pairEvt 0x80).record 0x0307 0 0 []).pair.takeover = none ∧
    ((a.pairEvt 0x80).record 0x0307 0 0 []).pair.evt = s.pair.evt ||| 0x84#8 := by
  refine ⟨k.mode, k.takeover, ?_⟩
  change a.pair.evt ||| 0x80#8 = _
  rw [k.evt, BitVec.or_assoc]
  rfl

/-! ### Notices (R497, R506) -/

/-- What a frame's arrival on a lane leaves: all but the lane's own state. -/
theorem State.linkIn_keeps (l : Nat) : ∃ x y b c, s.linkIn l = { s with pair := { s.pair with
    lane0 := x, lane1 := y, rx0 := b, rx1 := c } } := by
  unfold State.linkIn State.laneUp
  split
  · split <;> exact ⟨_, _, _, _, rfl⟩
  · exact ⟨_, _, _, _, rfl⟩

/-- An eligible STANDBY is granted ownership by its ACTIVE partner's RELINQUISH, and takes OWNER_N as released by it. -/
theorem State.relinquished_grants {c : Nat} {h : Hello} (hop : s.power.phase = .operating) (hin : s.inPair = true)
    (hmode : s.mode = .standby) (hel : s.eligible = true) (hend : s.pairEnded = false) (hp : s.pair.partner = some h)
    (hactive : h.state = 2) :
    s.relinquished c = ({ s with pair := { s.pair with
      partner := s.pair.partner.map fun h => { h with owning := false } } } : State).grant (c + 2) := by
  unfold State.relinquished
  exact if_pos (by simp [State.operating, hop, hin, hmode, hel, hend, hp, hactive])

theorem State.safeNotice_enters (hop : s.power.phase = .operating) (hin : s.inPair = true)
    (hmode : s.mode = .active ∨ s.mode = .standby ∨ s.mode = .isolated) : s.safeNotice = s.enterSafe 0xFF :=
  if_pos (by simp [State.operating, hop, hin, hmode])

end

/-! ### The statement -/

/-- Settles O26: a takeover and MODE 1's own start come down to `startActive`, whose functions leave the ownership; a grant is
one change of the pair, and what ends it is the entry to ISOLATED. -/
theorem ownershipMoves : Obligations.OwnershipMoves := by
  refine ⟨?first, ?onGrid, ?single, ?elect, ?stuck, ?mismatch, ?relinquish, ?safe⟩
  case first =>
    rintro s a dt g rfl hg hmode hown hgot hgrid
    obtain ⟨d, hd⟩ := State.takeOver_takes hg hmode hown hgot fun t h hs => nomatch hgrid.symm.trans hs
    rw [State.gridH_of_none hgrid, Option.getD_none] at hd
    have hu := ((s.advance dt).startActive_starts 0 true).takesOver d
    exact ⟨_, congrArg done hd, hu.mode, hu.drive, hu.relinq, hu.takeover, hu.evt, hu.tg, hu.h0⟩
  case onGrid =>
    rintro s a dt g t h rfl hg hmode hown hgot hgrid hle hmod
    obtain ⟨d, hd⟩ := State.takeOver_takes hg hmode hown hgot fun t' h' hs => by
      cases hgrid.symm.trans hs
      exact ⟨hmod, hle⟩
    rw [State.gridH_of_some hgrid, Option.getD_some] at hd
    have hu := ((s.advance dt).startActive_starts (h + ((s.advance dt).clock - t) / (s.advance dt).img.cycle.base) true).takesOver d
    exact ⟨_, congrArg done hd, hu.mode, hu.drive, hu.takeover, hu.evt, hu.tg, hu.h0⟩
  case single =>
    rintro s a dt rfl hop hcom hone hm hmode hown hhigh
    have hu := (s.advance dt).startActive_starts 0 false
    exact ⟨_, congrArg done (State.singleActivate_starts hop hcom hone hm hmode hown hhigh), hu.mode, hu.drive, hu.tg, hu.h0⟩
  case elect =>
    rintro s a dt t rfl ht hno hown hlong hel hfirst
    have hnow := State.expire_late (e := .selfElect) (congrArg (Option.map (· + msTicks 100)) ht) hlong
    exact congrArg done (hnow.trans (State.selfElect_grants ht hno hown (Nat.le_of_lt hlong) hel hfirst))
  case stuck =>
    rintro s a dt g rfl hg hlong hlow
    have hnow := State.expire_late (e := .ownerStuck) (congrArg (Option.map fun g : Takeover => g.granted + msTicks 20) hg) hlong
    have hstuck := State.ownerStuck_isolates hg (Nat.le_of_lt hlong) hlow
    obtain ⟨hmode, htake, hevt⟩ := (State.enterIsolated_isolates (s := s.advance dt)).stuck
    exact ⟨_, congrArg done (hnow.trans hstuck), hmode, htake, hevt⟩
  case mismatch =>
    rintro s a dt rfl hop hmode hdrive
    exact congrArg done (State.ownerMismatch_warns (decide_eq_true hop) (.inr ⟨hmode, hdrive⟩))
  case relinquish =>
    rintro s a dt l c rfl hop hin hmode hel hend ⟨h, hp, hactive⟩
    obtain ⟨x, y, b, c', hl⟩ := State.linkIn_keeps (s := s.advance dt) l
    rw [hl] at hel
    have hgrant := State.relinquished_grants (c := c) (s := { s.advance dt with pair := { (s.advance dt).pair with
      lane0 := x, lane1 := y, rx0 := b, rx1 := c' } }) hop hin hmode hel hend hp hactive
    rw [← hl] at hgrant
    refine ⟨_, congrArg done hgrant, ?_, ?_, ?_, ?_⟩
    · rw [hl]; rfl
    · rw [hl]; rfl
    · rw [hl]; exact hmode
    · rw [hl]; rfl
  case safe =>
    rintro s a dt l rfl hop hin hmode
    obtain ⟨x, y, b, c, hl⟩ := State.linkIn_keeps (s := s.advance dt) l
    have hsafe := State.safeNotice_enters (s := (s.advance dt).linkIn l) (by rw [hl]; exact hop) (by rw [hl]; exact hin)
      (by rw [hl]; exact hmode)
    have hu := State.enterSafe_enters (s := (s.advance dt).linkIn l) 0xFF
    refine ⟨_, congrArg done hsafe, hu.mode, hu.latch, fun ha => (hu.left ?_).1⟩
    rw [hl]
    exact ha

end Sys2Proof.Machine
end

section
/-! PROOFS. The planned hand-over: offered, accepted or declined, carried out, and what requests one (R500 to R502). -/

namespace Sys2Proof.Machine

variable {s a u : State} {o : Handover}

/-! ### OFFER, ACCEPT, DECLINE (R500) -/

/-- A STANDBY member of a pair answers an OFFER by its eligibility. -/
theorem State.offer_answers (hop : s.power.phase = .operating) (hin : s.inPair = true) (hmode : s.mode = .standby)
    (hend : s.pairEnded = false) (hx : Nat) (w : Bool) : s.offer hx w = if s.eligible = true then
      ({ s with pair := { s.pair with ho := some { hx := hx, accepted := true, kind := if w then 2 else 0 } } } : State).sendBoth
        (.notice 2 0 hx)
    else s.sendBoth (.notice 6 0 hx) := by
  unfold State.offer
  exact if_pos (by simp [State.operating, hop, hin, hmode, hend])

/-- The same behind the frame that carries the OFFER. -/
theorem State.offer_linkIn (l : Nat) (hop : s.power.phase = .operating) (hin : s.inPair = true) (hmode : s.mode = .standby)
    (hend : s.pairEnded = false) (hx : Nat) (w : Bool) : (s.linkIn l).offer hx w = if (s.linkIn l).eligible = true then
      ({ s.linkIn l with pair := { (s.linkIn l).pair with
        ho := some { hx := hx, accepted := true, kind := if w then 2 else 0 } } } : State).sendBoth (.notice 2 0 hx)
    else (s.linkIn l).sendBoth (.notice 6 0 hx) := by
  obtain ⟨p, hp⟩ := s.linkIn_pairOnly l
  refine State.offer_answers ?_ ?_ ?_ ?_ hx w
  · rw [hp]; exact hop
  · rw [hp]; exact hin
  · rw [hp]; exact hmode
  · rw [hp]; exact hend

theorem State.linkIn_ho (l : Nat) : (s.linkIn l).pair.ho = s.pair.ho ∧ (s.linkIn l).mode = s.mode := by
  obtain ⟨_, _, _, _, hl⟩ := s.linkIn_keeps l
  rw [hl]
  exact ⟨rfl, rfl⟩

theorem State.accept_notes (ho : s.pair.ho = some o) (hmode : s.mode = .active) :
    s.accept = { s with pair := { s.pair with ho := some { o with accepted := true } } } := by
  unfold State.accept
  rw [ho]
  exact if_pos hmode

theorem State.decline_refuses (ho : s.pair.ho = some o) (hmode : s.mode = .active) : s.decline = s.refuseHandover o.kind := by
  unfold State.decline
  rw [ho]
  exact if_pos hmode

/-! ### The hand-over takes effect (R500) -/

/-- `u` follows `s` by the end of ACTIVE that the hand-over `o` brings. -/
structure HandsOver (o : Handover) (s u : State) : Prop where
  mode : u.mode = .standby
  drive : u.pair.drive = false
  hto : u.pair.hto = o.hx
  ho : u.pair.ho = none
  grid : u.pair.grid = some (s.hTick o.hx, o.hx)
  sent : ∀ l, l < 2 → ∃ f, .link l f (.notice 3 0 o.hx) ∈ u.out

/-- RELINQUISH goes out on both lanes. -/
theorem State.sendBoth_sent (m : LinkMsg) (l : Nat) (hl : l < 2) : ∃ f, .link l f m ∈ (s.sendBoth m).out := by
  rw [State.sendBoth_eq]
  obtain rfl | rfl : l = 0 ∨ l = 1 := by omega
  · exact ⟨(s.pair.fseq0 + 1) % 2 ^ 32, by simp⟩
  · exact ⟨(s.pair.fseq1 + 1) % 2 ^ 32, by simp⟩

/-- The member leaves ACTIVE behind its RELINQUISH. -/
theorem State.relinquishes (hx : Nat) (hmode : s.mode = .active) :
    let v := (s.sendBoth (.notice 3 0 hx)).leaveActive .standby true
    v.mode = .standby ∧ v.pair.drive = false ∧ v.pair.ho = none ∧ ∀ l, l < 2 → ∃ f, .link l f (.notice 3 0 hx) ∈ v.out := by
  have hactive : (s.sendBoth (.notice 3 0 hx)).mode = .active := by
    rw [State.sendBoth_eq]
    exact hmode
  refine ⟨(State.leaveActive_halts .standby true).mode, (State.leaveActive_left .standby true hactive).1,
    State.leaveActive_ho hactive .standby true, fun l hl => ?_⟩
  obtain ⟨f, hf⟩ := State.sendBoth_sent (s := s) (.notice 3 0 hx) l hl
  exact ⟨f, (Leaves.refl.leaveActive .standby true).sent.subset hf⟩

/-- A hand-over whose mirror has gone out, at a harvest that is not skipped, is carried out. -/
theorem State.handoverTx_handsOver {m : Nat} (ho : s.pair.ho = some o) (hmode : s.mode = .active) (hacc : o.accepted = true)
    (hdue : s.hTick o.hx ≤ s.clock + 1000) (hm : s.pair.mirH = some m) (hsent : o.hx ≤ m + 1) (hskip : s.seq.skip = false)
    (hmay : s.mayHandOver = true) : HandsOver o s s.handoverTx := by
  obtain ⟨hstandby, hdrive, hnone, hout⟩ := s.relinquishes o.hx hmode
  unfold State.handoverTx
  rw [ho]
  dsimp only
  rw [if_pos ⟨hmode, hacc, hdue⟩, if_neg (by simp [hmay]), if_pos (by simp [hm, hsent, hskip])]
  generalize (s.sendBoth (.notice 3 0 o.hx)).leaveActive .standby true = v at hstandby hdrive hnone hout
  split <;> exact ⟨hstandby, hdrive, rfl, hnone, rfl, hout⟩

/-! ### Requests (R501, R502) -/

theorem State.mayHandOver_olc (h : s.mayHandOver = true) : s.olc.st = .none := by
  simp only [State.mayHandOver, Bool.and_eq_true, decide_eq_true_eq] at h
  obtain ⟨⟨⟨⟨-, -⟩, holc⟩, -⟩, -⟩ := h
  exact holc

theorem State.revertStart_requests {t : Nat} (ht : s.pair.revertSince = some t) (hmode : s.mode = .active)
    (hrev : s.img.pair.revert = true) (hrun : s.pair.swapRun = none) (hlong : t + 400000000 * s.img.pair.revertDelay ≤ s.clock)
    (hmay : s.mayHandOver = true) : s.revertStart = s.requestHandover 1 := by
  unfold State.revertStart
  rw [ht]
  exact if_pos ⟨hmode, hrev, hrun, State.mayHandOver_olc hmay, hlong⟩

/-- A swap test that is due starts, or is postponed. -/
theorem State.swapTimer_starts (hmode : s.mode = .active) (hin : s.inPair = true) (hint : 0 < s.img.pair.swapInterval)
    (hdue : s.pair.swapDue ≤ s.clock) : s.swapTimer = s.swapStart := if_pos ⟨hmode, hin, hint, hdue⟩

theorem State.swapStart_requests (hmay : s.mayHandOver = true) (hho : s.pair.ho = none) (hrun : s.pair.swapRun = none) :
    s.swapStart = ({ s with pair := { s.pair with swapPost := false } } : State).requestHandover 2 :=
  if_pos (by simp [hmay, hho, hrun])

/-- A swap test that has been postponed before is postponed again without a record. -/
theorem State.swapStart_postpones (hmay : s.mayHandOver = false) (hpost : s.pair.swapPost = true) :
    s.swapStart = { s with pair := { s.pair with swapDue := s.clock + secTicks 60, swapPost := true } } := by
  unfold State.swapStart
  rw [if_neg (by simp [hmay])]
  exact if_pos hpost

theorem State.swapDwellEnd_requests {t : Nat} (ht : s.pair.swapRun = some t)
    (hlong : t + 400000000 * s.img.pair.swapDwell ≤ s.clock) (hmode : s.mode = .active) :
    s.swapDwellEnd = s.requestHandover 3 := by
  unfold State.swapDwellEnd
  rw [ht]
  exact (if_pos hlong).trans (if_pos hmode)

/-! ### The statement -/

/-- Settles O27: a notice acts behind the frame's arrival; what leaves ACTIVE keeps the RELINQUISH sent; each request is one
OFFER. -/
theorem plannedHandOver : Obligations.PlannedHandOver := by
  refine ⟨?accepts, ?declines, ?accepted, ?declined, ?tx, ?revert, ?swap, ?postponed, ?dwell⟩
  case accepts =>
    rintro s a dt l hx w rfl hop hin hmode hend hel
    exact congrArg done ((State.offer_linkIn l hop hin hmode hend hx w).trans (if_pos hel))
  case declines =>
    rintro s a dt l hx w rfl hop hin hmode hend hel
    exact congrArg done ((State.offer_linkIn l hop hin hmode hend hx w).trans (if_neg (by simp [hel])))
  case accepted =>
    rintro s a dt l o rfl ho hmode
    obtain ⟨hho, hm⟩ := (s.advance dt).linkIn_ho l
    exact congrArg done (State.accept_notes (hho.trans ho) (hm.trans hmode))
  case declined =>
    rintro s a dt l o rfl ho hmode
    obtain ⟨hho, hm⟩ := (s.advance dt).linkIn_ho l
    exact congrArg done (State.decline_refuses (hho.trans ho) (hm.trans hmode))
  case tx =>
    rintro s a dt o m rfl ho hmode hacc hdue hm hsent hskip hmay
    have hu := State.handoverTx_handsOver ho hmode hacc hdue hm hsent hskip hmay
    exact ⟨_, rfl, hu.mode, hu.drive, hu.hto, hu.ho, hu.grid, hu.sent⟩
  case revert =>
    rintro s a dt t rfl ht hmode hrev hrun hlong hmay hho
    exact congrArg done ((State.revertStart_requests ht hmode hrev hrun hlong hmay).trans (State.requestHandover_tells 1 hmay hho))
  case swap =>
    rintro s a dt rfl hmode hin hint hdue hmay hho hrun
    refine congrArg done ((State.swapTimer_starts hmode hin hint hdue).trans ((State.swapStart_requests hmay hho hrun).trans ?_))
    exact State.requestHandover_tells 2 hmay hho
  case postponed =>
    rintro s a dt rfl hmode hin hint hdue hmay hpost
    exact congrArg done ((State.swapTimer_starts hmode hin hint hdue).trans (State.swapStart_postpones hmay hpost))
  case dwell =>
    rintro s a dt t rfl ht hlong hmode hmay hho
    exact congrArg done ((State.swapDwellEnd_requests ht hlong hmode).trans (State.requestHandover_tells 3 hmay hho))

end Sys2Proof.Machine
end

section
/-! PROOFS. Brake channels: release, demand, test pulses, channel faults and function tests (R454 to R465, R469). -/

namespace Sys2Proof.Machine

variable {s : State} {n : Nat} {c : BrakeCfg} {x y : BrakeSt}

/-! ### A channel and its changes -/

theorem State.brake_of_chan (hx : s.so.chans[n]? = some x) : s.brake n = x := by
  rw [State.brake, List.getD_eq_getElem?_getD, hx, Option.getD_some]

theorem State.modBrake_chan (hx : s.so.chans[n]? = some x) (f : BrakeSt → BrakeSt) :
    (s.modBrake n f).so.chans[n]? = some (f x) := getElem?_modifyAt_self hx f

/-! ### Release and demand (R454, R455, R457, R459) -/

/-- The channel energises both switches from `now` on. -/
def BrakeSt.energised (c : BrakeCfg) (now : Nat) (x : BrakeSt) : BrakeSt := { x with
  st := .on, hs := true, ls := true, freewheel := false, nextAt := now + halfPeriod c, pulse := none, passed := false
  endAt := none, hsSince := now, lsSince := now }

/-- A channel that has never been de-energised needs no rest. -/
theorem State.brakeOn_energises (hc : brakeCfg s.img n = some c) (hx : s.so.chans[n]? = some x) (hst : x.st = .off)
    (hholds : s.brakeHolds c = true) (hrest : x.lastOff = none) :
    s.brakeOn n = s.modBrake n (BrakeSt.energised c s.clock) := by
  unfold State.brakeOn
  rw [hc]
  dsimp only
  rw [State.brake_of_chan hx, hrest]
  exact if_pos (by simp [hst, hholds])

/-- A demand in a tick in which no pulse of the channel runs, starts or ends abandons none. -/
theorem BrakeSt.pulseAt_none {now : Nat} (hp : x.pulse = none) (hnext : x.nextAt ≠ now) (hend : x.endAt ≠ some now) :
    x.pulseAt now = none := by simp [BrakeSt.pulseAt, hp, hnext, hend]

theorem BrakeSt.deenergise_of_none {now : Nat} (h : x.pulseAt now = none) (st : BrakeState) :
    x.deenergise now st = { x with st := st, hs := false, ls := false, freewheel := false, lastOff := some now, pulse := none
                                   passed := false, lowNext := false, endAt := none } := by
  unfold BrakeSt.deenergise
  rw [h]

theorem State.brakeDemandIn_demands {ok : Bool} (hc : brakeCfg s.img n = some c) (hx : s.so.chans[n]? = some x)
    (hst : x.st = .on) (hfails : (s.setFsSq ok).brakeHolds c = false) :
    (s.brakeDemandIn n ok).so.chans[n]? = some (x.deenergise s.clock .off) ∧ (s.brakeDemandIn n ok).slots = s.slots := by
  have hx1 : (s.setFsSq ok).so.chans[n]? = some x := hx
  have hgo : s.brakeDemandIn n ok =
      ((s.setFsSq ok).brakeLatch n false).modBrake n fun x => x.deenergise s.clock .off := by
    unfold State.brakeDemandIn
    dsimp only
    rw [show brakeCfg (s.setFsSq ok).img n = some c from hc]
    dsimp only
    rw [if_neg (by simp [hfails])]
    exact if_pos (by rw [State.brake_of_chan hx1, hst])
  rw [hgo]
  exact ⟨State.modBrake_chan (s := (s.setFsSq ok).brakeLatch n false) hx1 _, rfl⟩

/-! ### Channel faults (R457, R462, R502) -/

/-- The channel in FAULTED with `cause` from `now` on. -/
def BrakeSt.failed (now cause : Nat) (x : BrakeSt) : BrakeSt :=
  { (if x.st = .on then x.deenergise now .faulted else { x with st := .faulted, hs := false, ls := false, freewheel := false })
    with phase := 0, fromReq := false, fcause := cause, faultL := true }

theorem State.brakeFail_chan (hc : brakeCfg s.img n = some c) (hx : s.so.chans[n]? = some x) (hst : x.st = .on) (cause : Nat) :
    (s.brakeFail n cause).so.chans[n]? = some (x.failed s.clock cause) := by
  unfold State.brakeFail
  dsimp only
  rw [State.brake_of_chan hx, if_neg (by simp [hc, hst])]
  exact State.modBrake_chan (s := s.brakeLatch n true) hx _

/-- `y` is the channel `x` as a fault with `cause` leaves it: both switches off, its measurement as it was. -/
structure BrakeFaulted (cause : Nat) (x y : BrakeSt) : Prop where
  st : y.st = .faulted
  hs : y.hs = false
  ls : y.ls = false
  fcause : y.fcause = cause
  faultL : y.faultL = true
  mA : y.mA = x.mA

theorem BrakeSt.failed_faulted (hst : x.st = .on) (now cause : Nat) : BrakeFaulted cause x (x.failed now cause) := by
  unfold BrakeSt.failed BrakeSt.deenergise
  rw [if_pos hst]
  split <;> exact ⟨rfl, rfl, rfl, rfl, rfl, rfl⟩

/-- A fault outside a pulse abandons none. -/
theorem BrakeSt.failed_aband {now : Nat} (hst : x.st = .on) (h : x.pulseAt now = none) (cause : Nat) :
    (x.failed now cause).aband = x.aband := by
  unfold BrakeSt.failed
  rw [if_pos hst, BrakeSt.deenergise_of_none h]

/-- Ownership that goes back by the fault of a swap test leaves the faulted channel (R502). -/
theorem State.swapFault_faulted (hx : s.so.chans[n]? = some x) (hst : x.st = .faulted) (f : Nat) :
    (s.swapFault f).so.chans[n]? = some x := by
  unfold State.swapFault
  split
  · refine (Leaves.refl.leaveActive .standby false).faulted n x ?_ hst
    rw [State.sendBoth_eq]
    exact hx
  · exact hx

/-- A channel fault of the tested member: what it leaves of the channel stands after a swap test's failure too. -/
theorem State.soFaultSwap_faulted {f : State → State} (hy : (f s).so.chans[n]? = some y) (hst : y.st = .faulted) :
    (s.soFaultSwap n f).so.chans[n]? = some y := by
  unfold State.soFaultSwap
  dsimp only
  split
  · exact State.swapFault_faulted hy hst 13
  · exact hy

/-- Without a fault of the channel no swap test fails. -/
theorem State.soFaultSwap_of_healthy {f : State → State} (hy : (f s).so.chans[n]? = some y) (hst : y.st ≠ .faulted) :
    s.soFaultSwap n f = f s := if_neg fun h => hst (State.brake_of_chan hy ▸ h.2)

/-- A change of a channel that is not faulted by it is all that the event does. -/
theorem State.soFaultSwap_modBrake {f : State → State} {g : BrakeSt → BrakeSt} (hf : f s = s.modBrake n g)
    (hx : s.so.chans[n]? = some x) (hst : (g x).st ≠ .faulted) : s.soFaultSwap n f = s.modBrake n g :=
  (State.soFaultSwap_of_healthy (y := g x) (by rw [hf]; exact State.modBrake_chan hx g) hst).trans hf

/-! ### Test pulses (R459, R461) -/

/-- A pulse opens one switch, the low one where `lowNext` says so. -/
def BrakeSt.pulsed (c : BrakeCfg) (now : Nat) (x : BrakeSt) : BrakeSt := { x with
  pulse := some now, passed := false, freewheel := true, nextAt := now + halfPeriod c, hs := x.lowNext, ls := !x.lowNext }

theorem State.brakePulseStart_opens (hc : brakeCfg s.img n = some c) (hx : s.so.chans[n]? = some x) (hst : x.st = .on)
    (hp : x.pulse = none) (hdue : x.nextAt ≤ s.clock) : s.brakePulseStart n = s.modBrake n (BrakeSt.pulsed c s.clock) := by
  unfold State.brakePulseStart
  rw [hc]
  dsimp only
  rw [State.brake_of_chan hx]
  exact if_pos ⟨hst, hp, hdue⟩

/-- The pulse's check has passed. -/
def BrakeSt.checked (now : Nat) (x : BrakeSt) : BrakeSt := { x with
  passed := true, pulses := satInc 0xFFFF x.pulses, hsSince := if x.lowNext then x.hsSince else now
  lsSince := if x.lowNext then now else x.lsSince }

section
variable {t : Nat} (hx : s.so.chans[n]? = some x) (hp : x.pulse = some t)
include hx hp

theorem State.brakePulseCheck_passes (hpass : x.passed = false) (hin : s.clock ≤ t + 20000) :
    s.brakePulseCheck n true = s.modBrake n (BrakeSt.checked s.clock) := by
  unfold State.brakePulseCheck
  dsimp only
  rw [State.brake_of_chan hx, hp]
  dsimp only
  rw [if_neg (by simp [hpass])]
  exact if_pos ⟨rfl, hin⟩

/-- A switch that does not read off by the 50 µs is the fault SWITCH_NOT_OFF. -/
theorem State.brakePulseCheck_fails (hpass : x.passed = false) (hlate : t + 20000 ≤ s.clock) :
    s.brakePulseCheck n false = s.brakePulseFail n := by
  unfold State.brakePulseCheck
  dsimp only
  rw [State.brake_of_chan hx, hp]
  dsimp only
  rw [if_neg (by simp [hpass]), if_neg (by simp)]
  exact if_pos hlate

/-- The pulse ends, and the other switch is next. -/
def BrakeSt.pulseOver (now : Nat) (x : BrakeSt) : BrakeSt := { x with
  pulse := none, passed := false, hs := true, ls := true, freewheel := false, lowNext := !x.lowNext, endAt := some now }

theorem State.brakePulseEnd_ends (hc : brakeCfg s.img n = some c) (hpass : x.passed = true)
    (hlong : t + 400 * c.tpWidth ≤ s.clock) : s.brakePulseEnd n = s.modBrake n (BrakeSt.pulseOver s.clock) := by
  unfold State.brakePulseEnd
  rw [hc]
  dsimp only
  rw [State.brake_of_chan hx, hp]
  dsimp only
  rw [if_neg (show ¬ s.clock < t + usTicks c.tpWidth from Nat.not_lt.2 hlong)]
  exact if_pos hpass

end

theorem State.brakePulseOverdue_fails (hc : brakeCfg s.img n = some c) (hx : s.so.chans[n]? = some x) (hst : x.st = .on)
    (hlong : min x.hsSince x.lsSince + 2 * halfPeriod c + 20000 < s.clock) : s.brakePulseOverdue n = s.brakeFail n 1 := by
  unfold State.brakePulseOverdue
  rw [hc]
  dsimp only
  rw [State.brake_of_chan hx]
  exact if_pos ⟨hst, hlong⟩

/-- The pulse that has failed its check is over: it is not abandoned. -/
def BrakeSt.pulseGone (x : BrakeSt) : BrakeSt := { x with pulse := none, passed := false, nextAt := 0, endAt := none }

theorem State.brakePulseFail_chan (hc : brakeCfg s.img n = some c) (hx : s.so.chans[n]? = some x) (hst : x.st = .on) :
    (s.brakePulseFail n).so.chans[n]? = some (x.pulseGone.failed s.clock 1) :=
  State.brakeFail_chan (s := s.modBrake n BrakeSt.pulseGone) hc (State.modBrake_chan hx _) hst 1

/-! ### The 100 µs readback (R462) -/

/-- A measurement of the channel. -/
def BrakeSt.measured (mA vhs vls : Nat) (x : BrakeSt) : BrakeSt :=
  { x with mA := min mA 65535, vhs := min vhs 255, vls := min vls 255 }

theorem State.brakeMeasure_fails {cause mA vhs vls : Nat} (hc : brakeCfg s.img n = some c) (hx : s.so.chans[n]? = some x)
    (hfits : faultFits c (x.measured mA vhs vls) cause mA = true) :
    s.brakeMeasure n cause mA vhs vls = (s.modBrake n (BrakeSt.measured mA vhs vls)).brakeFail n cause := by
  have hy := State.modBrake_chan hx (BrakeSt.measured mA vhs vls)
  unfold State.brakeMeasure
  rw [hc]
  exact if_pos (by rw [← State.brake_of_chan hy] at hfits; exact hfits)

/-! ### Function tests (R464, R465) -/

/-- A phase of a function test has ended with its reading as it should be. -/
def BrakeSt.testMoves (now phase : Nat) (ls : Bool) (x : BrakeSt) : BrakeSt :=
  { x with phase := phase, phaseAt := now, hs := false, ls := ls }

section
variable (hc : brakeCfg s.img n = some c) (hx : s.so.chans[n]? = some x) (hst : x.st = .testing)
include hc hx hst

theorem State.testPhase_one (hphase : x.phase = 1) (hlong : x.phaseAt + 8000000 ≤ s.clock) :
    s.testPhase n true = s.modBrake n (BrakeSt.testMoves s.clock 2 true) := by
  have hgo : ¬ (x.st ≠ .testing ∨ s.clock < x.phaseAt + msTicks 20) :=
    not_or.2 ⟨not_not_intro hst, Nat.not_lt.2 hlong⟩
  unfold State.testPhase
  rw [hc]
  dsimp only
  rw [State.brake_of_chan hx, hphase]
  exact if_neg hgo

theorem State.testPhase_two (hphase : x.phase = 2) (hlong : x.phaseAt + 8000000 ≤ s.clock) :
    s.testPhase n true = s.modBrake n (BrakeSt.testMoves s.clock 3 false) := by
  have hgo : ¬ (x.st ≠ .testing ∨ s.clock < x.phaseAt + msTicks 20) :=
    not_or.2 ⟨not_not_intro hst, Nat.not_lt.2 hlong⟩
  unfold State.testPhase
  rw [hc]
  dsimp only
  rw [State.brake_of_chan hx, hphase]
  exact if_neg hgo

/-- The last phase of a test without a torque reference is a pass. -/
theorem State.testPhase_three (hphase : x.phase = 3) (hlong : x.phaseAt + 40000000 * c.testHold ≤ s.clock)
    (htorq : c.torqRef = none) (ok : Bool) : s.testPhase n ok = s.testPass n := by
  have hgo : ¬ (x.st ≠ .testing ∨ s.clock < x.phaseAt + msTicks (100 * c.testHold)) := by
    refine not_or.2 ⟨not_not_intro hst, Nat.not_lt.2 ?_⟩
    rw [msTicks, ← Nat.mul_assoc]
    exact hlong
  unfold State.testPhase
  rw [hc]
  dsimp only
  rw [State.brake_of_chan hx, hphase, htorq]
  exact if_neg hgo

end

/-- A function test has passed, its time stored. -/
def BrakeSt.testPassed (ns now : Nat) (x : BrakeSt) : BrakeSt :=
  { x.endTest .off with fcause := 0, testTime := ns, testAt := some now, due := false }

theorem State.testPass_chan (hx : s.so.chans[n]? = some x) :
    (s.testPass n).so.chans[n]? = some (x.testPassed s.ns s.clock) := State.modBrake_chan hx _

theorem State.testDue_falls {t : Nat} (hc : brakeCfg s.img n = some c) (hx : s.so.chans[n]? = some x) (ht : x.testAt = some t)
    (hdue : x.due = false) (hlong : t + 1440000000000 * c.testInterval < s.clock) :
    s.testDue n = (s.modBrake n fun x => { x with due := true }).record 0x0D06 n 0 [] := by
  unfold State.testDue
  rw [hc, State.brake_of_chan hx, ht]
  refine if_pos ⟨hdue, ?_⟩
  rw [secTicks, ← Nat.mul_assoc]
  exact hlong

/-! ### Unlocks (R469) -/

theorem State.unlockExpire_session {x : Session} {t : Nat} (hx : s.session n = some x) (ht : x.unlock = some t)
    (hlong : t + 240000000000 ≤ s.clock) : (s.unlockExpire n).session n = some { x with unlock := none } := by
  have hsid (y : Session) : (match y.unlock with
      | some t => if t + secTicks 600 ≤ s.clock then { y with unlock := none } else y
      | none => y).sid = y.sid := by
    split
    · split <;> rfl
    · rfl
  refine (findKey_modifyKey n _ hsid s.sessions).trans ?_
  rw [show findKey (·.sid) n s.sessions = some x from hx, Option.map_some, ht]
  exact congrArg some (if_pos hlong)

theorem State.pwdLockEnd_ends {t : Nat} (ht : s.so.pwdLock = some t) (hlong : t + 120000000000 ≤ s.clock) :
    s.pwdLockEnd = { s with so := { s.so with pwdLock := none, pwdFail := 0 } } := by
  unfold State.pwdLockEnd
  rw [ht]
  exact if_pos hlong

/-! ### The statement -/

/-- Settles O43: each event is one change of its channel, and a fault stands after the swap test that it fails. -/
theorem brakesRun : Obligations.BrakesRun := by
  refine ⟨?on, ?demand, ?pulse, ?checked, ?notOff, ?pulseEnd, ?overdue, ?measured, ?one, ?two, ?three, ?due, ?unlock, ?lockout⟩
  case on =>
    rintro s a dt n c x ok rfl hc - hx hst hholds hrest
    have hon := State.brakeOn_energises (s := (s.advance dt).setFsSq ok) hc hx hst hholds hrest
    exact ⟨_, congrArg done hon, State.modBrake_chan (s := (s.advance dt).setFsSq ok) hx _, rfl⟩
  case demand =>
    rintro s a dt n c x ok rfl hc - hx hst hp hnext hend hfails
    obtain ⟨hchan, hslots⟩ := State.brakeDemandIn_demands hc hx hst hfails
    have hnone : x.pulseAt (s.advance dt).clock = none := BrakeSt.pulseAt_none hp hnext (by rw [hend]; exact nofun)
    refine ⟨_, rfl, hchan.trans ?_, hslots⟩
    simp [BrakeSt.deenergise_of_none hnone, hp, hend]
  case pulse =>
    rintro s a dt n c x rfl hc - hx hst hp hdue
    exact ⟨_, congrArg done (State.brakePulseStart_opens hc hx hst hp hdue), State.modBrake_chan hx _, rfl⟩
  case checked =>
    rintro s a dt n c x t rfl - - hx hst hp hpass hin hlow
    have hgo := State.soFaultSwap_modBrake (State.brakePulseCheck_passes hx hp hpass hin) hx
      (by rw [show (x.checked (s.advance dt).clock).st = x.st from rfl, hst]; decide)
    refine ⟨_, congrArg done hgo, (State.modBrake_chan hx _).trans ?_, rfl⟩
    rw [BrakeSt.checked, hlow]
    rfl
  case notOff =>
    rintro s a dt n c x t rfl hc - hx hst hp hpass hlate
    have hfail := BrakeSt.failed_faulted (x := x.pulseGone) hst (s.advance dt).clock 1
    have hnone : x.pulseGone.pulseAt (s.advance dt).clock = none :=
      BrakeSt.pulseAt_none rfl (show 0 ≠ (s.advance dt).clock by omega) nofun
    refine ⟨_, _, rfl, State.soFaultSwap_faulted ?_ hfail.st, hfail.st, hfail.hs, hfail.ls, hfail.fcause, hfail.faultL,
      (BrakeSt.failed_aband (x := x.pulseGone) hst hnone 1 :)⟩
    rw [State.brakePulseCheck_fails hx hp hpass hlate]
    exact State.brakePulseFail_chan hc hx hst
  case pulseEnd =>
    rintro s a dt n c x t rfl hc - hx hst hp hpass hlong
    have hgo := State.soFaultSwap_modBrake (State.brakePulseEnd_ends hx hp hc hpass hlong) hx
      (by rw [show (x.pulseOver (s.advance dt).clock).st = x.st from rfl, hst]; decide)
    exact ⟨_, congrArg done hgo, State.modBrake_chan hx _, rfl⟩
  case overdue =>
    rintro s a dt n c x rfl hc - hx hst hlong
    have hfail := BrakeSt.failed_faulted hst (s.advance dt).clock 1
    refine ⟨_, _, rfl, State.soFaultSwap_faulted ?_ hfail.st, hfail.st, hfail.hs, hfail.ls, hfail.fcause, hfail.faultL⟩
    rw [State.brakePulseOverdue_fails hc hx hst hlong]
    exact State.brakeFail_chan hc hx hst 1
  case measured =>
    rintro s a dt n c x k i v w rfl hc - hx hst hfits
    have hfail := BrakeSt.failed_faulted (x := x.measured i v w) hst (s.advance dt).clock k
    refine ⟨_, _, rfl, State.soFaultSwap_faulted ?_ hfail.st, hfail.st, hfail.hs, hfail.ls, hfail.fcause, hfail.mA, hfail.faultL⟩
    rw [State.brakeMeasure_fails hc hx hfits]
    exact State.brakeFail_chan (s := (s.advance dt).modBrake n _) hc (State.modBrake_chan hx _) hst k
  case one =>
    rintro s a dt n c x rfl hc - hx hst hphase hlong
    have hgo := State.soFaultSwap_modBrake (State.testPhase_one hc hx hst hphase hlong) hx
      (by rw [show (x.testMoves (s.advance dt).clock 2 true).st = x.st from rfl, hst]; decide)
    exact ⟨_, congrArg done hgo, State.modBrake_chan hx _, rfl⟩
  case two =>
    rintro s a dt n c x rfl hc - hx hst hphase hlong
    have hgo := State.soFaultSwap_modBrake (State.testPhase_two hc hx hst hphase hlong) hx
      (by rw [show (x.testMoves (s.advance dt).clock 3 false).st = x.st from rfl, hst]; decide)
    exact ⟨_, congrArg done hgo, State.modBrake_chan hx _, rfl⟩
  case three =>
    rintro s a dt n c x ok rfl hc - hx hst hphase hlong htorq
    have hpass := State.testPhase_three hc hx hst hphase hlong htorq ok
    have hchan := State.testPass_chan hx
    have hgo : (s.advance dt).soFaultSwap n (·.testPhase n ok) = (s.advance dt).testPass n :=
      (State.soFaultSwap_of_healthy (y := x.testPassed _ _) (by rw [hpass]; exact hchan) nofun).trans hpass
    exact ⟨_, congrArg done hgo, hchan, rfl⟩
  case due =>
    rintro s a dt n c x t rfl hc - hx ht hdue hlong
    exact ⟨_, congrArg done (State.testDue_falls hc hx ht hdue hlong), State.modBrake_chan hx _, rfl⟩
  case unlock =>
    rintro s a dt n t x rfl hx ht hlong
    have hd : (s.advance dt).deadline (.unlock n) = some (t + 240000000000) := by
      simp [State.deadline, hx, ht, secTicks]
    exact ⟨_, congrArg done (State.expire_late hd hlong), State.unlockExpire_session hx ht (Nat.le_of_lt hlong), rfl, rfl⟩
  case lockout =>
    rintro s a dt t rfl ht hlong
    exact congrArg done (State.pwdLockEnd_ends ht hlong)

end Sys2Proof.Machine
end

section
/-! PROOFS. PTP's masters, its servo and the real-time clock (R426 to R429). -/

namespace Sys2Proof.Machine

variable {s : State} {e2 : Bool} {g b : Announce} {t : Nat} {theta : Int} {ts : Rat}

/-! ### Announce (R426) -/

/-- PTP takes notice of an Announce of its domain and transport. -/
structure State.Notices (s : State) (e2 : Bool) (g : Announce) : Prop where
  on : s.ptpOn = true
  port : s.portOn e2 = true
  domain : g.domain = s.img.eth.ptpDomain
  udp : g.udp = decide (s.img.eth.ptpTransport = 1)

/-- A port without a master takes any sender; the port in use gives way where it has none either. -/
theorem State.announce_first (h : s.Notices e2 g) (h1 : s.eth.ptp.a1 = none) (h2 : s.eth.ptp.a2 = none) :
    s.announce e2 g = s.modPtp fun p =>
      if e2 then { p with a2 := some (g, s.clock), port := true, gmid := g.gm } else { p with a1 := some (g, s.clock), port := false, gmid := g.gm } := by
  have hbest (e : Bool) : s.eth.ptp.best e = none := by cases e <;> assumption
  unfold State.announce
  cases e2 <;>
    simp [hbest, h.on, h.port, h.domain, h.udp, Ptp.hasMaster, State.modPtp, Ptp.setBest]

/-- What a master that takes the place of `p`'s changes. -/
def Ptp.succeeded (e2 : Bool) (g : Announce) (now : Nat) (p : Ptp) : Ptp :=
  { p.setBest e2 (some (g, now)) with gmid := if p.port = e2 then g.gm else p.gmid }

theorem State.announce_succeeds (h : s.Notices e2 g) (hbest : s.eth.ptp.best e2 = some (b, t))
    (htake : g.sender = b.sender ∨ announceBetter g b = true) (hmaster : s.eth.ptp.hasMaster = true) :
    s.announce e2 g = s.modPtp (Ptp.succeeded e2 g s.clock) := by
  have htakes : (decide (g.sender = b.sender) || announceBetter g b) = true := by simp [htake]
  unfold State.announce
  rw [hbest]
  dsimp only
  rw [if_neg (by simp only [h.on, h.port, h.domain, h.udp, htakes]; simp), if_pos hmaster]
  unfold State.modPtp Ptp.succeeded
  cases e2 <;> cases hp : s.eth.ptp.port <;> simp [Ptp.setBest, hp]

/-- The clock goes on without a master, at the servo's last rate. -/
theorem State.ptpHoldover_locked (hst : s.eth.ptp.st = 2) :
    ∃ u : State, s.ptpHoldover = u ∧ u.eth.ptp = { s.eth.ptp with st := 3, good := 0, lockL := true } ∧
      u.rate = s.rateInt ∧ u.rateInt = s.rateInt ∧ u.slots = s.slots := by
  unfold State.ptpHoldover
  refine ⟨_, if_pos (.inr hst), ?_, rfl, rfl, rfl⟩
  simp [State.modPtp, hst]

/-- The last master is forgotten. -/
theorem State.announceTimeout_last (hon : s.ptpOn = true) (h1 : s.eth.ptp.a1 = some (g, t)) (h2 : s.eth.ptp.a2 = none)
    (hlong : t + 3 * g.every < s.clock) : s.announceTimeout false = (s.modPtp fun p => { p with a1 := none }).ptpHoldover := by
  unfold State.announceTimeout
  rw [show s.eth.ptp.best false = some (g, t) from h1]
  dsimp only
  rw [if_neg (by simp [hon, Nat.le_of_lt hlong])]
  rw [show (s.modPtp fun p => p.setBest false none).eth.ptp.best (!false) = none from h2]
  rfl

/-! ### A measurement (R427, R428) -/

/-- The servo starts from FREERUN and HOLDOVER at the present rate. -/
def State.servoStart (s : State) : State :=
  if s.eth.ptp.st = 0 ∨ s.eth.ptp.st = 3 then ({ s with rateInt := s.rate } : State).modPtp fun p => { p with st := 1, good := 0 }
  else s

/-- The last measurement. -/
def State.noted (theta : Int) (delay ago : Nat) (s : State) : State :=
  s.modPtp fun p => { p with theta := theta, delay := min delay 0xFFFFFFFF, syncAt := some (s.clock - ago) }

/-- The interval between the last two Sync receipts in ns. -/
def State.syncInterval (ago : Nat) (s : State) : Rat :=
  match s.eth.ptp.syncAt with | some t => ((s.clock - ago - t : Nat) : Rat) * tickNs | none => 0

/-- LOCKED ends beyond 10 µs, and ACQUIRING counts small offsets up to LOCKED. -/
def State.servoJudge (theta : Int) (s : State) : State :=
  if s.eth.ptp.st = 2 then
    if 10000 < theta.natAbs then ((s.latchSet 0x9040 16).modPtp fun p => { p with st := 1, good := 0, lockL := true }).record 0x0E02 0 0 []
    else s
  else
    let n := if theta.natAbs ≤ 1000 then s.eth.ptp.good + 1 else 0
    if 16 ≤ n then (s.modPtp fun p => { p with st := 2, good := 0 }).record 0x0E01 0 0 []
    else s.modPtp fun p => { p with good := n }

/-- A measurement starts the servo where it rests, runs it and judges the offset. -/
theorem State.offsetMeasured_eq {o : Int} {d ago : Nat} (hon : s.ptpOn = true) (hmaster : s.eth.ptp.hasMaster = true)
    (htheta : theta = (s.sysAt ago : Int) - (o + (d : Int))) :
    s.offsetMeasured o d ago = ((s.servoStart.noted theta d ago).servo theta (s.syncInterval ago)).servoJudge theta := by
  have hclock : s.servoStart.clock = s.clock := by unfold State.servoStart; split <;> rfl
  subst htheta
  unfold State.offsetMeasured
  rw [if_neg (by simp [hon, hmaster])]
  unfold State.noted
  rw [hclock]
  rfl

/-- `u` has the servo's times, rates and last measurement as `s` has them. -/
structure SameMeasure (s u : State) : Prop where
  sysTime : u.sysTime = s.sysTime
  rate : u.rate = s.rate
  rateInt : u.rateInt = s.rateInt
  theta : u.eth.ptp.theta = s.eth.ptp.theta
  delay : u.eth.ptp.delay = s.eth.ptp.delay
  syncAt : u.eth.ptp.syncAt = s.eth.ptp.syncAt
  stepL : u.eth.ptp.stepL = s.eth.ptp.stepL
  slots : u.slots = s.slots

theorem State.servoJudge_measure : SameMeasure s (s.servoJudge theta) := by
  unfold State.servoJudge
  split
  · split <;> exact ⟨rfl, rfl, rfl, rfl, rfl, rfl, rfl, rfl⟩
  · extract_lets n
    split <;> exact ⟨rfl, rfl, rfl, rfl, rfl, rfl, rfl, rfl⟩

/-- Of PTP's own state the servo sets no more than the step latch. -/
theorem State.servo_ptp : ∃ l, (s.servo theta ts).eth.ptp = { s.eth.ptp with stepL := l } := by
  unfold State.servo
  dsimp only
  split
  · exact ⟨true, rfl⟩
  · split <;> exact ⟨s.eth.ptp.stepL, rfl⟩

theorem State.servo_slots : (s.servo theta ts).slots = s.slots := by
  unfold State.servo
  dsimp only
  split
  · rfl
  · split <;> rfl

/-- An offset beyond the limit steps system time. -/
theorem State.servo_steps (hbig : s.img.eth.stepNs < theta.natAbs) :
    ∃ u : State, s.servo theta ts = u ∧ (u.sysTime : Int) = ((s.sysTime : Int) - theta * 4294967296) % 79228162514264337593543950336 ∧
      u.eth.ptp.stepL = true ∧ u.rate = rateLimit s.rate := by
  refine ⟨_, rfl, ?_⟩
  unfold State.servo
  dsimp only
  rw [if_pos hbig]
  refine ⟨?_, rfl, rfl⟩
  exact Int.toNat_of_nonneg (Int.emod_nonneg _ (by decide))

/-- A smaller one corrects the rate. -/
theorem State.servo_corrects (hsmall : theta.natAbs ≤ s.img.eth.stepNs) (hts : 0 < ts) :
    s.servo theta ts = { s with
      rateInt := rateLimit (s.rateInt - (theta : Rat) / (16 * ts))
      rate := rateLimit (s.rateInt - (theta : Rat) / (16 * ts) - (theta : Rat) / (2 * ts)) } := by
  unfold State.servo
  rw [if_neg (Nat.not_lt.2 hsmall), if_neg (not_le.2 hts)]

theorem State.servoStart_starts (h : s.eth.ptp.st = 0 ∨ s.eth.ptp.st = 3) :
    s.servoStart.eth.ptp = { s.eth.ptp with st := 1, good := 0 } := by
  rw [State.servoStart, if_pos h]
  rfl

theorem State.servoStart_runs (h0 : s.eth.ptp.st ≠ 0) (h3 : s.eth.ptp.st ≠ 3) : s.servoStart = s :=
  if_neg (not_or.2 ⟨h0, h3⟩)

theorem State.servoStart_slots : s.servoStart.slots = s.slots := by
  unfold State.servoStart
  split <;> rfl

/-- What the servo reads beside PTP's own state is as it was. -/
theorem State.noted_servoStart {d ago : Nat} : (s.servoStart.noted theta d ago).img = s.img ∧
    (s.servoStart.noted theta d ago).sysTime = s.sysTime ∧ (s.servoStart.noted theta d ago).rate = s.rate := by
  unfold State.servoStart
  split <;> exact ⟨rfl, rfl, rfl⟩

/-- The state that a measurement judges: the servo has run, PTP's own state is as the servo's start left it beside it. -/
theorem State.offsetMeasured_judges {o : Int} {d ago : Nat} (hon : s.ptpOn = true) (hmaster : s.eth.ptp.hasMaster = true)
    (htheta : theta = (s.sysAt ago : Int) - (o + (d : Int))) :
    ∃ (x : State) (l : Bool), s.offsetMeasured o d ago = x.servoJudge theta ∧
      x = (s.servoStart.noted theta d ago).servo theta (s.syncInterval ago) ∧
      x.eth.ptp = { s.servoStart.eth.ptp with theta := theta, delay := min d 0xFFFFFFFF, syncAt := some (s.clock - ago), stepL := l } ∧
      x.slots = s.slots := by
  have hclock : s.servoStart.clock = s.clock := by unfold State.servoStart; split <;> rfl
  obtain ⟨l, hptp⟩ := (s.servoStart.noted theta d ago).servo_ptp (theta := theta) (ts := s.syncInterval ago)
  refine ⟨_, l, State.offsetMeasured_eq hon hmaster htheta, rfl, hptp.trans ?_, State.servo_slots.trans State.servoStart_slots⟩
  rw [← hclock]
  rfl

theorem State.servoJudge_unlocks (hst : s.eth.ptp.st = 2) (hbig : 10000 < theta.natAbs) :
    (s.servoJudge theta).eth.ptp = { s.eth.ptp with st := 1, good := 0, lockL := true } := by
  unfold State.servoJudge
  rw [if_pos hst, if_pos hbig]
  rfl

/-- The 16th small offset in a row locks. -/
theorem State.servoJudge_locks (hst : s.eth.ptp.st = 1) (hgood : s.eth.ptp.good = 15) (hsmall : theta.natAbs ≤ 1000) :
    (s.servoJudge theta).eth.ptp.st = 2 := by
  unfold State.servoJudge
  rw [if_neg (by omega), if_pos hsmall, hgood]
  rfl

/-- The first offset does not lock. -/
theorem State.servoJudge_acquires (hst : s.eth.ptp.st = 1) (hgood : s.eth.ptp.good = 0) : (s.servoJudge theta).eth.ptp.st = 1 := by
  unfold State.servoJudge
  rw [if_neg (by omega)]
  dsimp only
  rw [if_neg (by split <;> omega)]
  exact hst

/-! ### The real-time clock (R429) -/

theorem State.rtcDiscipline_due {r : Nat} (hst : s.eth.ptp.st = 0) (hvalid : s.boot.rtcValid = true)
    (hphase : s.power.phase = .operating) (hdue : s.eth.ptp.discAt + secTicks 1 ≤ s.clock) :
    s.rtcDiscipline r = { s.modPtp fun p => { p with discAt := s.clock } with
      boot := { s.boot with rtc := (r : Rat) }, rate := rateLimit (((r : Rat) - s.sysNs) / 8000000000) } :=
  if_pos ⟨hst, hvalid, hphase, hdue⟩

theorem State.rtcWrite_due (hst : s.eth.ptp.st = 2) (hphase : s.power.phase = .operating) (hdue : s.eth.ptp.wrAt + secTicks 10 ≤ s.clock) :
    s.rtcWrite = (s.modPtp fun p => { p with wrAt := s.clock }).setRtc ((s.ns : Nat) : Rat) := if_pos ⟨hst, hphase, hdue⟩

/-! ### The statement -/

/-- Settles O41: an Announce changes the masters only; a measurement is the servo's start, its run and its judgement. -/
theorem clocksRun : Obligations.ClocksRun := by
  refine ⟨?first, ?forgotten, ?succeeds, ?starts, ?steps, ?unlocks, ?locks, ?disc, ?write⟩
  case first =>
    rintro s a dt e2 g rfl hon hport hdom hudp h1 h2
    exact congrArg done (State.announce_first ⟨hon, hport, hdom, hudp⟩ h1 h2)
  case forgotten =>
    rintro s a dt g t rfl hon hst h1 h2 hlong
    have hd : (s.advance dt).deadline (.announce false) = some (t + 3 * g.every) := congrArg (Option.map _) h1
    have hlast := (State.expire_late hd hlong).trans (State.announceTimeout_last hon h1 h2 hlong)
    obtain ⟨u, hu, hptp, hrate, hint, hslots⟩ := State.ptpHoldover_locked (s := (s.advance dt).modPtp fun p => { p with a1 := none }) hst
    exact ⟨u, congrArg done (hlast.trans hu), hptp, hrate, hint, hslots⟩
  case succeeds =>
    rintro s a dt e2 g b t rfl hon hport hdom hudp hbest htake hmaster
    refine ⟨_, congrArg done (State.announce_succeeds ⟨hon, hport, hdom, hudp⟩ hbest htake hmaster), ?_⟩
    cases e2 <;> exact ⟨rfl, rfl, rfl, rfl, rfl⟩
  case starts =>
    rintro s a dt o th d ago rfl hth hon hmaster hst
    obtain ⟨x, l, hgo, -, hptp, hslots⟩ := State.offsetMeasured_judges hon hmaster hth
    rw [State.servoStart_starts hst] at hptp
    have hj := x.servoJudge_measure (theta := th)
    have hst1 : (x.servoJudge th).eth.ptp.st = 1 := State.servoJudge_acquires (by rw [hptp]) (by rw [hptp])
    refine ⟨_, congrArg done hgo, hst1, hj.theta.trans ?_, hj.delay.trans ?_, hj.syncAt.trans ?_, hj.slots.trans hslots⟩ <;>
      rw [hptp]
  case steps =>
    rintro s a dt o th d ago rfl hth hon hmaster hbig
    obtain ⟨x, l, hgo, hx, hptp, hslots⟩ := State.offsetMeasured_judges hon hmaster hth
    have hj := x.servoJudge_measure (theta := th)
    obtain ⟨himg, hsys, hrate0⟩ := (s.advance dt).noted_servoStart (theta := th) (d := d) (ago := ago)
    obtain ⟨y, hy, htime, hstep, hrate⟩ := State.servo_steps (ts := (s.advance dt).syncInterval ago)
      (s := (s.advance dt).servoStart.noted th d ago) (theta := th) (by rw [himg]; exact hbig)
    obtain rfl : x = y := hx.trans hy
    refine ⟨_, congrArg done hgo, ?_, hj.theta.trans (by rw [hptp]), hj.stepL.trans hstep, hj.rate.trans ?_, hj.slots.trans hslots⟩
    · rw [hj.sysTime, htime, hsys]
    · rw [hrate, hrate0]
  case unlocks =>
    rintro s a dt o th d ago rfl hth hon hmaster hst hbig
    obtain ⟨x, l, hgo, -, hptp, hslots⟩ := State.offsetMeasured_judges hon hmaster hth
    rw [State.servoStart_runs (by omega) (by omega)] at hptp
    have hj := x.servoJudge_measure (theta := th)
    have hun := State.servoJudge_unlocks (s := x) (by rw [hptp]; exact hst) hbig
    refine ⟨_, congrArg done hgo, ?_, ?_, hj.theta.trans ?_, hj.slots.trans hslots⟩
    · rw [hun]
    · rw [hun]
    · rw [hptp]
  case locks =>
    rintro s a dt o th d ago t ts rfl hth hsync hts hpos hon hmaster hst hgood hstep hsmall
    obtain ⟨x, l, hgo, hx, hptp, hslots⟩ := State.offsetMeasured_judges hon hmaster hth
    rw [State.servoStart_runs (by omega) (by omega)] at hptp hx
    have hts' : (s.advance dt).syncInterval ago = ts := by rw [State.syncInterval, hsync, hts]
    rw [hts', State.servo_corrects (s := (s.advance dt).noted th d ago) hstep hpos] at hx
    have hj := x.servoJudge_measure (theta := th)
    have hlock : (x.servoJudge th).eth.ptp.st = 2 := State.servoJudge_locks (by rw [hptp]; exact hst) (by rw [hptp]; exact hgood) hsmall
    refine ⟨_, congrArg done hgo, hj.sysTime.trans ?_, hlock, hj.theta.trans ?_, hj.rateInt.trans ?_, hj.rate.trans ?_, hj.slots.trans hslots⟩
    · rw [hx]; rfl
    · rw [hptp]
    · rw [hx]; rfl
    · rw [hx]; rfl
  case disc =>
    rintro s a dt r rfl hst hvalid hphase hdue
    exact ⟨_, congrArg done (State.rtcDiscipline_due hst hvalid hphase hdue), rfl, rfl, rfl, rfl, rfl⟩
  case write =>
    rintro s a dt rfl hst hphase hdue
    exact ⟨_, congrArg done (State.rtcWrite_due hst hphase hdue), rfl, rfl, rfl, rfl⟩

end Sys2Proof.Machine
end

section
/-! PROOFS. The safety layer's connections: a sink's PDUs, a source's ACKs and the watchdogs (R443 to R447). -/

namespace Sys2Proof.Machine

variable {s a : State} {n : Nat} {c : UslCfg} {x y : UslSt} {p : List Byte} {m : RioMap}

/-! ### A connection and its mapped field -/

theorem State.modUsl_usl1 {f : UslSt → UslSt} (hx : s.usl1 n = some x) (hf : ∀ z, (f z).c = z.c) :
    (s.modUsl n f).usl1 n = some (f x) :=
  (findKey_modifyKey_of_key UslSt.c n f hf s.usl.conns).trans (congrArg (Option.map f) (show findKey UslSt.c n s.usl.conns = _ from hx))

theorem State.usl1_congr {u : State} (h : u.usl = s.usl) : u.usl1 n = s.usl1 n := by rw [State.usl1, State.usl1, h]

theorem conn_of_uslCfg {i : Image} (hc : uslCfg i n = some c) : c.conn = n := (mem_of_findKey hc).2

/-- One mapped input takes its field, and its slot the quality given. -/
theorem State.ownSlot_putMaps_one (hmaps : c.maps = [m]) (htx : m.tx = false) (hslot : m.ref.slot < 65536) (val : RioMap → Nat)
    (q : Nat → Byte) : (s.putMaps c.maps val q).ownSlot m.ref.slot =
      (m.ref.put (s.ownSlot m.ref.slot).1 (val m), q m.ref.slot) := by
  have hone : s.putMaps [m] val q = s.writeSlot m.ref.slot (m.ref.put (s.ownSlot m.ref.slot).1 (val m)) (q m.ref.slot) := by
    simp [State.putMaps, rxSlots, distinct, htx]
  rw [hmaps, hone]
  exact State.ownSlot_writeSlot_same s hslot _ _

/-- Mapped outputs are not written. -/
theorem State.putMaps_tx (hmaps : c.maps = [m]) (htx : m.tx = true) (val : RioMap → Nat) (q : Nat → Byte) :
    s.putMaps c.maps val q = s := by
  simp [State.putMaps, rxSlots, distinct, hmaps, htx]

/-! ### PDUs come in (R424) -/

/-- The frames whose copies are awaited. -/
def State.noteSeen (l : List PrpSeen) (s : State) : State := { s with eth := { s.eth with prpSeen := l } }

/-- What an accepted frame comes to do: the frames seen may differ, no more. -/
theorem State.uslVia_accepts {rx : Option EthRx} {len : Nat} (f : State → State)
    (h : ∀ r, rx = some r → s.portsLive = true ∧ s.portOn r.e2 = true ∧ frameFits r.seq.isSome len = true ∧
      ∀ k, s.img.eth.prp = true → r.seq = some k → s.eth.prpSeen.any (PrpSeen.same r.mac k s.clock) = false) :
    ∃ l, s.uslVia rx len f = f (s.noteSeen l) := by
  cases rx with
  | none => exact ⟨s.eth.prpSeen, rfl⟩
  | some r =>
    obtain ⟨hlive, hport, hfits, hnew⟩ := h r rfl
    exact State.ethIn_accepts f hlive hport hfits hnew

/-- Connection `n` runs, with its configuration and its state. -/
structure UslRunning (s : State) (n : Nat) (c : UslCfg) (x : UslSt) : Prop where
  cfg : uslCfg s.img n = some c
  conn : s.usl1 n = some x
  runs : s.uslRuns = true

theorem UslRunning.seen (h : UslRunning s n c x) (l : List PrpSeen) :
    UslRunning (s.noteSeen l) n c x := ⟨h.cfg, h.conn, h.runs⟩

/-- A sink's PDU that passes the tests (R445). -/
structure PduPasses (s : State) (c : UslCfg) (x : UslSt) (p : List Byte) : Prop where
  ok : pduOk c.connId p = true
  kind : getN p 0 1 = 1
  len : getN p 2 1 = c.len
  age : s.uslOld c (getN p 8 8) = false
  seq : x.st = 1 → getN p 4 4 ≠ 0 ∧ ∀ l, x.lastSeq = some l → 1 ≤ seqDist l (getN p 4 4) ∧ seqDist l (getN p 4 4) ≤ c.seqwin

/-! ### A sink takes a PDU (R445, R446) -/

/-- A connection that has taken the PDU `p`, its watchdog restarted. -/
def UslSt.took (c : UslCfg) (now : Nat) (p : List Byte) (x : UslSt) : UslSt :=
  { x with lastSeq := some (getN p 4 4), wd := some (now + c.wd), fsv := bit (getN p 1 1) 0 }

/-- The PDU's data, or the substitutes, go to the slots. -/
def State.uslPut (c : UslCfg) (p : List Byte) (s : State) : State :=
  if bit (getN p 1 1) 0 then s.uslFailSafe c else s.putMaps c.maps (mapField (getN p 16 c.len)) fun _ => qGood

/-- A sink's ACK of the PDU `p`. -/
def State.uslAckSend (c : UslCfg) (p : List Byte) (s : State) : State :=
  s.uslSend c true (uslPdu c.connId 2 0 (getN p 4 4) s.txTime [])

theorem State.uslDataTake_passes (h : UslRunning s n c x) (hsink : c.sink = true) (hp : PduPasses s c x p) :
    s.uslDataTake n p = ((s.modUsl n (UslSt.took c s.clock p)).uslAccept c (State.uslPut c p)).uslAckSend c p := by
  unfold State.uslDataTake
  rw [h.cfg, h.conn]
  dsimp only
  rw [if_neg (by simp [h.runs, hsink]), if_neg (by simp [hp.ok]), if_neg (by simp [hp.kind, hp.len])]
  refine (if_neg ?near).trans (if_neg (by simp [hp.age]))
  case near =>
    rintro ⟨hst, hz | hfar⟩
    · exact (hp.seq hst).1 hz
    · cases hl : x.lastSeq with
      | none => simp [hl] at hfar
      | some l =>
        obtain ⟨hlo, hhi⟩ := (hp.seq hst).2 l hl
        have hout : seqDist l (getN p 4 4) < 1 ∨ c.seqwin < seqDist l (getN p 4 4) := by simpa [hl] using hfar
        omega

/-- A connection that has counted a wrong check value. -/
def UslSt.miscounted (now : Nat) (x : UslSt) : UslSt := { x with crcErr := satInc 255 x.crcErr, lastCrc := some now, good := 0 }

/-- A PDU whose check value fails is counted; outside a second of the last one it does no more. -/
theorem State.uslDataTake_corrupt (h : UslRunning s n c x) (hsink : c.sink = true) (hbad : pduOk c.connId p = false)
    (hlast : x.lastCrc = none) : s.uslDataTake n p = s.modUsl n (UslSt.miscounted s.clock) := by
  unfold State.uslDataTake
  rw [h.cfg, h.conn]
  dsimp only
  rw [if_neg (by simp [h.runs, hsink]), if_pos (by simp [hbad]), hlast]
  rfl

/-- In RUN an accepted PDU's data go out, and the state stays. -/
theorem State.uslAccept_run {put : State → State} (hx : s.usl1 c.conn = some x) (hst : x.st = 1) : s.uslAccept c put = put s := by
  unfold State.uslAccept
  rw [hx]
  dsimp only
  rw [hst]
  rfl

/-- A STARTING connection runs. -/
theorem State.uslAccept_starts {put : State → State} (hx : s.usl1 c.conn = some x) (hst : x.st = 0) :
    s.uslAccept c put = put (s.modUsl c.conn fun x => { x with st := 1 }) := by
  unfold State.uslAccept
  rw [hx]
  dsimp only
  rw [hst]
  rfl

/-- A connection as PASSIVE ends. -/
def UslSt.back (x : UslSt) : UslSt := { x with st := 1, reintRdy := false, ackW := false, good := 0 }

/-- The eighth PDU in a row brings a PASSIVE connection with REINT back. -/
theorem State.uslAccept_reint {put : State → State} (hx : s.usl1 c.conn = some x) (hst : x.st = 2) (hreint : c.reint = true)
    (hgood : x.good = 7) : s.uslAccept c put = (put (s.modUsl c.conn UslSt.back)).record 0x0F02 c.conn 0 [] := by
  unfold State.uslAccept
  rw [hx]
  dsimp only
  rw [hst]
  exact (if_pos hreint).trans (if_pos (by omega))

/-! ### What the slots and the ACK leave -/

/-- The data of a PDU change slots alone. -/
theorem State.uslPut_touches : Touches [.slots, .bus, .lat0] Set.univ s (s.uslPut c p) :=
  .ite (Touches.refl.putMaps fun _ _ => Set.mem_univ _) (Touches.refl.putMaps fun _ _ => Set.mem_univ _)

theorem State.uslPut_usl : (s.uslPut c p).usl = s.usl := (congrArg State.usl State.uslPut_touches.eq :)

/-- The data of a PDU change nothing that its ACK says. -/
theorem State.uslPut_sends : (s.uslPut c p).out = s.out ∧ (s.uslPut c p).img = s.img ∧ (s.uslPut c p).txTime = s.txTime := by
  have ht := (State.uslPut_touches (s := s) (c := c) (p := p))
  have heth : (s.uslPut c p).eth = s.eth := (congrArg State.eth ht.eq :)
  have htime : (s.uslPut c p).sysTime = s.sysTime := (congrArg State.sysTime ht.eq :)
  refine ⟨(congrArg State.out ht.eq :), ht.img, ?_⟩
  rw [State.txTime, State.txTime, State.ns, State.ns, heth, htime]

theorem State.uslAckSend_touches : Touches [.eth, .out, .can] ∅ s (s.uslAckSend c p) := Touches.refl.uslSend

theorem State.uslAckSend_usl1 : (s.uslAckSend c p).usl1 n = s.usl1 n :=
  State.usl1_congr (congrArg State.usl State.uslAckSend_touches.eq :)

theorem State.uslAckSend_slots : (s.uslAckSend c p).slots = s.slots := (congrArg State.slots State.uslAckSend_touches.eq :)

/-- Over Ethernet without redundancy the ACK is one frame to the peer. -/
theorem State.uslAckSend_out (hmedium : c.medium = 0) (hprp : s.img.eth.prp = false) : (s.uslAckSend c p).out =
    s.out ++ [.eth (!s.img.eth.e1En) none (.udp c.peer 4962 (uslPdu c.connId 2 0 (getN p 4 4) s.txTime []))] := by
  unfold State.uslAckSend State.uslSend
  rw [if_pos hmedium, State.ethSend_plain hprp]
  rfl

/-- The field that a PDU puts into its slot, with its quality. -/
theorem State.ownSlot_uslPut (hmaps : c.maps = [m]) (htx : m.tx = false) (hslot : m.ref.slot < 65536) :
    (s.uslPut c p).ownSlot m.ref.slot =
      if bit (getN p 1 1) 0 then (m.ref.put (s.ownSlot m.ref.slot).1 m.subst.toNat, mkQ 0 true false false)
      else (m.ref.put (s.ownSlot m.ref.slot).1 (mapField (getN p 16 c.len) m), qGood) := by
  unfold State.uslPut
  split
  · exact State.ownSlot_putMaps_one hmaps htx hslot _ _
  · exact State.ownSlot_putMaps_one hmaps htx hslot _ _

/-! ### What a sink's PDU does in RUN and in PASSIVE -/

section
variable (h : UslRunning s n c x) (hsink : c.sink = true) (hp : PduPasses s c x p)
include h hsink hp

/-- A sink in RUN: the PDU is noted, put and acknowledged. -/
theorem State.uslDataTake_run (hst : x.st = 1) :
    s.uslDataTake n p = ((s.modUsl n (UslSt.took c s.clock p)).uslPut c p).uslAckSend c p := by
  obtain rfl := conn_of_uslCfg h.cfg
  have hx := State.modUsl_usl1 (f := UslSt.took c s.clock p) h.conn fun _ => rfl
  rw [State.uslDataTake_passes h hsink hp, State.uslAccept_run hx hst]

theorem State.uslDataTake_run_usl1 (hst : x.st = 1) : (s.uslDataTake n p).usl1 n = some (x.took c s.clock p) := by
  rw [State.uslDataTake_run h hsink hp hst, State.uslAckSend_usl1, State.usl1_congr State.uslPut_usl]
  exact State.modUsl_usl1 h.conn fun _ => rfl

theorem State.uslDataTake_run_slot (hst : x.st = 1) (hmaps : c.maps = [m]) (htx : m.tx = false) (hslot : m.ref.slot < 65536) :
    (s.uslDataTake n p).ownSlot m.ref.slot =
      if bit (getN p 1 1) 0 then (m.ref.put (s.ownSlot m.ref.slot).1 m.subst.toNat, mkQ 0 true false false)
      else (m.ref.put (s.ownSlot m.ref.slot).1 (mapField (getN p 16 c.len) m), qGood) := by
  rw [State.uslDataTake_run h hsink hp hst, State.ownSlot_congr State.uslAckSend_slots]
  exact State.ownSlot_uslPut hmaps htx hslot

theorem State.uslDataTake_run_out (hst : x.st = 1) (hmedium : c.medium = 0) (hprp : s.img.eth.prp = false) : (s.uslDataTake n p).out =
    s.out ++ [.eth (!s.img.eth.e1En) none (.udp c.peer 4962 (uslPdu c.connId 2 0 (getN p 4 4) s.txTime []))] := by
  obtain ⟨hout, himg, htime⟩ := (s.modUsl n (UslSt.took c s.clock p)).uslPut_sends (c := c) (p := p)
  rw [State.uslDataTake_run h hsink hp hst, State.uslAckSend_out hmedium (by rw [himg]; exact hprp), hout, himg, htime]
  rfl

/-- The eighth good PDU in a row ends PASSIVE. -/
theorem State.uslDataTake_reint_usl1 (hst : x.st = 2) (hreint : c.reint = true) (hgood : x.good = 7) :
    (s.uslDataTake n p).usl1 n = some (x.took c s.clock p).back := by
  obtain rfl := conn_of_uslCfg h.cfg
  have htook := State.modUsl_usl1 (f := UslSt.took c s.clock p) h.conn fun _ => rfl
  rw [State.uslDataTake_passes h hsink hp, State.uslAccept_reint htook hst hreint hgood, State.uslAckSend_usl1]
  exact (State.usl1_congr State.uslPut_usl).trans (State.modUsl_usl1 htook fun _ => rfl)

end

/-! ### A source takes an ACK (R444) -/

/-- A connection whose watchdog runs anew. -/
def UslSt.rearmed (t : Nat) (x : UslSt) : UslSt := { x with wd := some t }

/-- What keeps a source in RUN, or brings it there. -/
theorem State.uslAccept_ack {t : Nat} (hx : s.usl1 c.conn = some (x.rearmed t)) (hst : x.st = 0 ∨ x.st = 1) :
    (s.uslAccept c id).usl1 c.conn = some { x with st := 1, wd := some t } ∧ (s.uslAccept c id).slots = s.slots := by
  rcases hst with hst | hst
  · rw [State.uslAccept_starts hx hst]
    exact ⟨State.modUsl_usl1 hx fun _ => rfl, rfl⟩
  · rw [State.uslAccept_run hx hst]
    exact ⟨hx.trans (by rw [← hst]; rfl), rfl⟩

/-- A source accepts the ACK of a PDU that it sent within WD. -/
theorem State.uslAckTake_known {t : Nat} (h : UslRunning s n c x) (hsource : c.sink = false) (hok : pduOk c.connId p = true)
    (hkind : getN p 0 1 = 2) (hlen : getN p 2 1 = 0) (hsent : (getN p 4 4, t) ∈ x.sent) (hin : s.clock ≤ t + c.wd) :
    s.uslAckTake n p = (s.modUsl n (UslSt.rearmed (s.clock + c.wd))).uslAccept c id := by
  have hknown : (x.sent.any fun q => decide (q.1 = getN p 4 4 ∧ s.clock ≤ q.2 + c.wd)) = true :=
    List.any_eq_true.2 ⟨_, hsent, decide_eq_true ⟨rfl, hin⟩⟩
  unfold State.uslAckTake
  rw [h.cfg, h.conn]
  dsimp only
  rw [if_neg (by simp only [h.runs, hsource, hok, hkind, hlen, hknown]; decide)]
  rfl

/-! ### The watchdogs (R444, R446, R447) -/

/-- A connection gone PASSIVE with `cause`. -/
def UslSt.passive (cause : Nat) (x : UslSt) : UslSt :=
  { x with st := 2, cause := cause, passL := true, passives := satInc 127 x.passives, reintRdy := false, ackW := false, good := 0 }

theorem State.uslPassivate_usl1 {k : Nat} (hx : s.usl1 c.conn = some x) : (s.uslPassivate c k).usl1 c.conn = some (x.passive k) := by
  have hput : ((((s.latchSet (0x9500 + 4 * c.conn) 65536).modUsl c.conn (UslSt.passive k)).uslFailSafe c).record 0x0F01 c.conn 0 []).usl =
      ((s.latchSet (0x9500 + 4 * c.conn) 65536).modUsl c.conn (UslSt.passive k)).usl :=
    (congrArg State.usl ((Touches.refl (P := [.slots, .bus, .lat0])).putMaps fun _ _ => Set.mem_univ _).eq :)
  exact (State.usl1_congr hput).trans (State.modUsl_usl1 (s := s.latchSet _ _) hx fun _ => rfl)

/-- The slots of a source are its own. -/
theorem State.uslPassivate_slots {k : Nat} (hmaps : c.maps = [m]) (htx : m.tx = true) : (s.uslPassivate c k).slots = s.slots :=
  (congrArg State.slots
    (State.putMaps_tx (s := (s.latchSet (0x9500 + 4 * c.conn) 65536).modUsl c.conn (UslSt.passive k)) hmaps htx _ _) :)

/-- A sink's slots take their substitutes. -/
theorem State.ownSlot_uslPassivate {k : Nat} (hmaps : c.maps = [m]) (htx : m.tx = false) (hslot : m.ref.slot < 65536) :
    (s.uslPassivate c k).ownSlot m.ref.slot = (m.ref.put (s.ownSlot m.ref.slot).1 m.subst.toNat, mkQ 0 true false false) :=
  (State.ownSlot_putMaps_one (s := (s.latchSet (0x9500 + 4 * c.conn) 65536).modUsl c.conn (UslSt.passive k)) hmaps htx hslot _ _ :)

theorem State.uslExpire_passivates {t : Nat} (h : UslRunning s n c x) (hsink : c.sink = true) (hwd : x.wd = some t) (hlate : t ≤ s.clock)
    (hst : x.st = 1) : s.uslExpire n = (s.modUsl n fun x => { x with wd := none }).uslPassivate c 1 := by
  unfold State.uslExpire
  rw [h.cfg, h.conn]
  dsimp only
  rw [hwd]
  dsimp only
  rw [if_neg (by simp [h.runs, hsink, hlate]), if_pos hst]

theorem State.uslExpire_quiets {t : Nat} (h : UslRunning s n c x) (hsink : c.sink = true) (hwd : x.wd = some t) (hlate : t ≤ s.clock)
    (hst : x.st = 2) : s.uslExpire n = s.uslQuiet n := by
  unfold State.uslExpire
  rw [h.cfg, h.conn]
  dsimp only
  rw [hwd]
  dsimp only
  rw [if_neg (by simp [h.runs, hsink, hlate]), if_neg (by omega)]

theorem State.uslAckTimeout_passivates {t : Nat} (h : UslRunning s n c x) (hsource : c.sink = false) (hwd : x.wd = some t)
    (hlate : t ≤ s.clock) (hst : x.st ≠ 2) :
    s.uslAckTimeout n = (s.modUsl n fun x => { x with wd := none }).uslPassivate c 3 := by
  unfold State.uslAckTimeout
  rw [h.cfg, h.conn]
  dsimp only
  rw [hwd]
  dsimp only
  rw [if_neg (by simp [h.runs, hsource, hlate]), if_neg hst]

/-! ### The statement -/

/-- Settles O42: an accepted PDU is noted, put and acknowledged; a watchdog passivates its connection or quiets it. -/
theorem safetyLayerRuns : Obligations.SafetyLayerRuns := by
  refine ⟨?data, ?ack, ?reint, ?corrupt, ?known, ?passive, ?quiet, ?silent⟩
  case data =>
    rintro s a dt n c x rx p m rfl hrx hc hx hruns hsink hok hkind hlen hage hst hnz hnear hmaps htx hslot
    obtain ⟨l, hvia⟩ := State.uslVia_accepts (fun s => s.uslDataTake n p) hrx
    have hr := UslRunning.seen ⟨hc, hx, hruns⟩ l
    have hp : PduPasses ((s.advance dt).noteSeen l) c x p := ⟨hok, hkind, hlen, hage, fun _ => ⟨hnz, hnear⟩⟩
    exact ⟨_, _, congrArg done hvia, State.uslDataTake_run_usl1 hr hsink hp hst, rfl,
      State.uslDataTake_run_slot hr hsink hp hst hmaps htx hslot⟩
  case ack =>
    rintro s a dt n c x rx p rfl hrx hc hx hruns hsink hok hkind hlen hage hst hnz hnear hmedium hprp
    obtain ⟨l, hvia⟩ := State.uslVia_accepts (fun s => s.uslDataTake n p) hrx
    have hp : PduPasses ((s.advance dt).noteSeen l) c x p := ⟨hok, hkind, hlen, hage, fun _ => ⟨hnz, hnear⟩⟩
    exact ⟨_, congrArg done hvia, State.uslDataTake_run_out (.seen ⟨hc, hx, hruns⟩ l) hsink hp hst hmedium hprp⟩
  case reint =>
    rintro s a dt n c x rx p rfl hrx hc hx hruns hsink hok hkind hlen hage - - hst hreint hgood
    obtain ⟨l, hvia⟩ := State.uslVia_accepts (fun s => s.uslDataTake n p) hrx
    have hp : PduPasses ((s.advance dt).noteSeen l) c x p := ⟨hok, hkind, hlen, hage, fun h => by omega⟩
    exact ⟨_, _, congrArg done hvia, State.uslDataTake_reint_usl1 (.seen ⟨hc, hx, hruns⟩ l) hsink hp hst hreint hgood,
      rfl, rfl, rfl, rfl⟩
  case corrupt =>
    rintro s a dt n c x rx p rfl hrx hc hx hruns hsink hbad hlast
    obtain ⟨l, hvia⟩ := State.uslVia_accepts (fun s => s.uslDataTake n p) hrx
    have hgo := State.uslDataTake_corrupt (UslRunning.seen ⟨hc, hx, hruns⟩ l) hsink hbad hlast
    exact ⟨_, _, congrArg done (hvia.trans hgo), State.modUsl_usl1 (s := (s.advance dt).noteSeen l) hx fun _ => rfl,
      rfl, rfl, rfl⟩
  case known =>
    rintro s a dt n c x rx p t rfl hrx hc hx hruns hsource rfl hok hkind hlen hsent hin hst
    obtain ⟨l, hvia⟩ := State.uslVia_accepts (fun s => s.uslAckTake c.conn p) hrx
    have hgo := State.uslAckTake_known (UslRunning.seen ⟨hc, hx, hruns⟩ l) hsource hok hkind hlen hsent hin
    obtain ⟨hy, hslots⟩ := State.uslAccept_ack
      (State.modUsl_usl1 (s := (s.advance dt).noteSeen l) (f := UslSt.rearmed ((s.advance dt).clock + c.wd)) hx fun _ => rfl) hst
    exact ⟨_, _, congrArg done (hvia.trans hgo), hy, rfl, hslots⟩
  case passive =>
    rintro s a dt n c x t m rfl hc hx hruns hsink rfl hwd hlate hst hmaps htx hslot
    have hd : (s.advance dt).deadline (.uslWatchdog c.conn) = some t := (congrArg (·.bind (·.wd)) hx).trans hwd
    have hgo := State.uslExpire_passivates ⟨hc, hx, hruns⟩ hsink hwd (Nat.le_of_lt hlate) hst
    refine ⟨_, _, congrArg done ((State.expire_late hd hlate).trans hgo),
      State.uslPassivate_usl1 (State.modUsl_usl1 hx fun _ => rfl), rfl, ?_⟩
    exact State.ownSlot_uslPassivate hmaps htx hslot
  case quiet =>
    rintro s a dt n c x t rfl hc hx hruns hsink hwd hlate hst
    have hd : (s.advance dt).deadline (.uslWatchdog n) = some t := (congrArg (·.bind (·.wd)) hx).trans hwd
    exact congrArg done ((State.expire_late hd hlate).trans (State.uslExpire_quiets ⟨hc, hx, hruns⟩ hsink hwd (Nat.le_of_lt hlate) hst))
  case silent =>
    rintro s a dt n c x t m rfl hc hx hruns hsource rfl hwd hlate hst hmaps htx
    have hd : (s.advance dt).deadline (.uslAck c.conn) = some t := (congrArg (·.bind (·.wd)) hx).trans hwd
    have hgo := State.uslAckTimeout_passivates ⟨hc, hx, hruns⟩ hsource hwd (Nat.le_of_lt hlate) hst
    refine ⟨_, _, congrArg done ((State.expire_late hd hlate).trans hgo),
      State.uslPassivate_usl1 (State.modUsl_usl1 hx fun _ => rfl), rfl, ?_⟩
    exact State.uslPassivate_slots hmaps htx

end Sys2Proof.Machine
end
